-- ==== Sys2Proof/Word.lean ====
section
/-! DEFINITION. The word types of the model: bytes, the 64-bit words of links and registers, and byte strings. -/
namespace Sys2Proof

/-- One byte, of a record, an image, a packet or memory (R10). -/
abbrev Byte := BitVec 8

/-- A 64-bit word: a 64b/66b block payload, an image word or a register image. -/
abbrev Word64 := BitVec 64

/-- A byte string: an image, a message, a DOMAIN or STRING value; the lowest address first (R10). -/
abbrev Bytes := List Byte

/-- The number of byte values one address unit holds. -/
def byteRadix : Nat := 256

end Sys2Proof
end

