-- ==== Sys2Proof/Syntax.lean ====
section
/-! DEFINITION. The commands of the block: one constructor of `Instr` for each row of spec/opcode_table.json, in the table's order, with
the operands the spec's text gives that row; the types of those operands stand before it. -/
namespace Sys2Proof

/-- The paths by which an access reaches the dictionary (R48): PCIe, the EtherCAT slave's CoE, a Yalind peer at a module address,
the profile loader with its profile number, and the device itself. -/
inductive Path where
  | pcie
  | coe
  | yalind (addr : Fin 1024)
  | profile (n : Fin 4)
  | device
  deriving DecidableEq, Repr

/-- The value of a write: a number for a numeric object, bytes for a DOMAIN or STRING object. -/
inductive DictVal where
  | num (v : Int)
  | bytes (b : Bytes)
  deriving DecidableEq, Repr

/-- How an access spells its object and value: at a BAR0 byte offset with the bytes of a write or the width of a read (R49, R50), or by
index and subindex over the other paths. -/
inductive WriteForm where
  | bar0 (offset : BitVec 27) (data : Bytes)
  | object (index : BitVec 16) (sub : BitVec 8) (value : DictVal)
  deriving DecidableEq, Repr

/-- How a read spells its object. -/
inductive ReadForm where
  | bar0 (offset : BitVec 27) (width : Nat)
  | object (index : BitVec 16) (sub : BitVec 8)
  deriving DecidableEq, Repr

/-- The position of an event inside the present timebase clock: one of its four control clocks. -/
abbrev Phase := Fin 4

/-- A camera port, a lane, a cluster and a pseudo-channel (R13). -/
abbrev PortNo := Fin 32
abbrev LaneNo := Fin 128
abbrev ClusterNo := Fin 64
abbrev PcNo := Fin 64

/-- A dot column as a sensor sees it: whether its dots have twice the diameter, and for each dot row (numbered alike on every sensor) the
centroid in 1/256 pixel and in 1/256 web line. -/
structure DotColumn where
  origin : Bool
  dots   : List (Nat × Nat × Nat)
  deriving DecidableEq, Repr

/-- What a sensor sees of the dot pattern: whether its column number falls as its pixel number rises, and its dot columns (R209). -/
structure DotView where
  sensor  : Nat
  descend : Bool
  columns : List DotColumn
  deriving DecidableEq, Repr

/-- A dot column a sensor shares with a neighbour (R209): the sensor and its column's place, the neighbour and its column's place, and how many
columns the two share. -/
structure DotLink where
  sensor   : Nat
  column   : Nat
  other    : Nat
  otherCol : Nat
  shared   : Nat
  deriving DecidableEq, Repr

/-- A member pixel: its group column and web line, value v, background b, thresholds t and h, |v(x+1) − v(x−1)|, |v − v′|, MD_FRAC of its
column, whether its column is UNCAL, and whether its left and right neighbours are invalid, past the plane's edge or late halo columns (R267). -/
structure Pix where
  c  : Nat
  y  : Nat
  v  : Nat
  b  : Nat
  t  : Nat
  h  : Nat
  gx : Nat
  gm : Nat
  frac  : Nat
  uncal : Bool
  li : Bool
  ri : Bool
  deriving DecidableEq, Repr

/-- What an uncorrectable memory error touched (R409): the line of a sensor in a trigger row, an item of a buffer class, or data of no effect. -/
inductive HbmTarget where
  | ringLine (k sensor : Nat)
  | buffer (cls item : Nat)
  | other
  deriving DecidableEq, Repr

/-- One entry of an EDGES message (R262): a field line, the piece of the sender last seen in its edge column (none, or 0 for FOLD) and the web
line at which it was seen. -/
structure EdgeMsg where
  line  : Nat
  piece : Option Nat
  seen  : Nat
  deriving DecidableEq, Repr


/-- An SDO transfer (R54): a read or write of one object, or of all subindices of an index (complete access, from subindex 0 or 1). -/
inductive SdoForm where
  | read (index : BitVec 16) (sub : BitVec 8)
  | write (index : BitVec 16) (sub : BitVec 8) (data : Bytes)
  | readAll (index : BitVec 16) (fromZero : Bool)
  | writeAll (index : BitVec 16) (fromZero : Bool) (data : Bytes)
  deriving DecidableEq, Repr

/-- An SDO Information request (R54). -/
inductive SdoInfo where
  | objectList
  | objectDescription (index : BitVec 16)
  | entryDescription (index : BitVec 16) (sub : BitVec 8)
  deriving DecidableEq, Repr

/-- The states of the EtherCAT state machine (0xB0C0:03). -/
inductive EcatSt where
  | init | preOp | safeOp | op
  deriving DecidableEq, Repr

/-- What becomes of a failure of a hub link or seam link at run time (R73): retraining clears it, it is confined to one cluster, or neither. -/
inductive DieFault where
  | retrained
  | cluster (c : ClusterNo)
  | fatal
  deriving DecidableEq, Repr

/-- A classification result (R470): class, confidence, feature class and confidence, NET_USED. -/
structure ShedAnswer where
  cls   : Nat
  conf  : Nat
  fcls  : Nat
  fconf : Nat
  netUsed : Bool
  deriving DecidableEq, Repr

/-- What a PTP message makes of the clock (R460): the states of 0xA410:07 but for disabled. -/
inductive PtpRole where
  | listening | master | slave | passive | faulty
  deriving DecidableEq, Repr

/-- A candidate as a BATCH carries it (R470): its ID, part, field, 64 features and, when the network is to run, its input tensor. -/
structure ShedCand where
  id     : Nat
  part   : Nat
  field  : Nat
  feats  : List Int
  tensor : Option (List Int)
  deriving DecidableEq, Repr

/-- A mirrored Tally entry with the bytes of a DOMAIN or STRING value (R61, R475). -/
structure MirrorEntry where
  seq         : Nat
  time        : Nat
  effectFrame : Nat
  index       : BitVec 16
  sub         : BitVec 8
  path        : Nat
  sourceId    : Nat
  group       : Bool
  deferred    : Bool
  domain      : Bool
  result      : Nat
  dlen        : Nat
  value       : Nat
  data        : Bytes
  deriving DecidableEq, Repr

/-- What a HEARTBEAT says (R475, R477, R478): the sender's mode, HEAD_SEQ, LEDGER_HWM, completion frame, LR_DELIVERED of each ring and LAST_FIRE_POS of
each marker output. -/
structure BeatMsg where
  mode       : Fin 12
  head       : Nat
  hwm        : Nat
  completion : Nat
  delivered  : List Nat
  fires      : List Int
  deriving DecidableEq, Repr

/-- What a FRAME_SYNC says (R475): the sets committed since the last one, by port, in the format of an export; the marker queues as target and
SEQ; EPOCH and EPOCH_FRAME; LEDGER_HWM and the completion frame. -/
structure SyncMsg where
  sets       : List (Fin 32 × Bytes)
  queues     : List (List (Int × Nat))
  epoch      : Nat
  epochFrame : Nat
  hwm        : Nat
  completion : Nat
  deriving DecidableEq, Repr

/-- A SNAPSHOT (R474): every object value in force as profile entries, the committed sets by port and the geometry set in the format of an
export, the model images by slot, and the identity of journal and Ledger. -/
structure SnapMsg where
  entries   : Bytes
  sets      : List (Fin 32 × Bytes)
  geom      : Bytes
  models    : List (Fin 8 × Bytes)
  journalId : Nat
  head      : Nat
  ledgerId  : Nat
  hwm       : Nat
  deriving DecidableEq, Repr

/-- The two heartbeat paths of a pair (R478). -/
inductive PairPath where
  | yalind | pin
  deriving DecidableEq, Repr


/-- The commands of the block, in the order of spec/opcode_table.json. -/
inductive Instr where
  /-- OBJECT_WRITE (R40). A write to any dictionary object that has no row of its own is checked for access, type, range and mode, then accepted and journaled, or refused. -/
  | objectWrite (p : Path) (f : WriteForm)
  /-- DT_START (R52). DT_CTRL 1 starts a domain transfer of a STRING or DOMAIN object by bus-master access to host memory. -/
  | dtStart (p : Path)
  /-- DT_ABORT (R52). DT_CTRL 2 aborts the running domain transfer, which then changes nothing. -/
  | dtAbort (p : Path)
  /-- DT_COMPLETE (R53). A staged download is checked and accepted or refused as one write, or an upload ends, and the completion event raises MSI-X vector 0. -/
  | dtComplete (data : Bytes)
  /-- COE_SDO_TRANSFER (R54). A CoE SDO expedited, normal, segmented or complete-access transfer reads or writes an object, ending with an abort code on refusal. -/
  | coeSdoTransfer (f : SdoForm)
  /-- COE_SDO_INFO (R54). An SDO Information request returns the object list, an object description or an entry description. -/
  | coeSdoInfo (q : SdoInfo)
  /-- GROUP_OPEN (R56). GROUP_CTRL 1 opens the write group of its own path, refused with GROUP_STATE when one is open. -/
  | groupOpen (p : Path)
  /-- GROUP_CLOSE (R56). GROUP_CTRL 2 checks the staged FRAME writes and journals them with EFFECT_FRAME p+1, or discards them with INCONSISTENT. -/
  | groupClose (p : Path)
  /-- GROUP_ABORT (R56). GROUP_CTRL 3 discards the path's open write group. -/
  | groupAbort (p : Path)
  /-- TALLY_READ_ENTRIES (R64). An upload of READ_ENTRIES returns a header and the retained journal entries from READ_FIRST, flagging LOST and GAP. -/
  | tallyReadEntries (p : Path)
  /-- RUN_START (R75). RUN_CMD 1 schedules inspection at frame p+1, or p+2 while idle, acting only in READY. -/
  | runStart (p : Path)
  /-- RUN_STOP (R75). RUN_CMD 2 schedules a stop at frame p+1 in INSPECT or DEGRADED, or cancels a pending START in READY. -/
  | runStop (p : Path)
  /-- START_TAKES_EFFECT (R70). At the effect frame of a START the module enters INSPECT, or DEGRADED when capacity is lost. -/
  | startTakesEffect
  /-- STOP_TAKES_EFFECT (R555). At the stop frame the module enters READY while cameras are still triggered up to their last line of the previous frame. -/
  | stopTakesEffect
  /-- STOP_DRAIN_END (R555). Processing and delivery of the frames inspected before a STOP ends, releasing waiting commits, loads and calibration commands. -/
  | stopDrainEnd
  /-- CAL_CMD_DARK (R194). CAL_CMD 1 enters CAL_DARK from READY and starts dark calibration on the masked ports. -/
  | calCmdDark (p : Path)
  /-- CAL_CMD_FLAT (R194). CAL_CMD 2 enters CAL_FLAT from READY and starts flat calibration on the masked ports. -/
  | calCmdFlat (p : Path)
  /-- CAL_CMD_GEOM (R194). CAL_CMD 3 enters CAL_GEOM from READY and starts geometry calibration, refused with the timer trigger source. -/
  | calCmdGeom (p : Path)
  /-- CAL_CMD_ABORT (R194). CAL_CMD 4 aborts every port still calibrating in a CAL mode. -/
  | calCmdAbort (p : Path)
  /-- RESET_CMD (R72). RESET_CMD 0xA5C3 causes a warm reset, or answers 3 while the shutdown latch holds. -/
  | resetCmd (p : Path)
  /-- COMMIT (R76). A configuration commit runs the consistency checks and brings the staged values into force with READY, or enters HOLD with refusal codes. -/
  | commit (p : Path)
  /-- LOAD_PROFILE (R83). LOAD_PROFILE reads and checks a stored profile, stages its entries and commits them, journaling them on success. -/
  | loadProfile (p : Path) (slot : Fin 4)
  /-- PROFILE_IMAGE_WRITE (R82). A write of a PROFILE_IMAGE slot is staged, accepted and starts programming of the flash slot. -/
  | profileImageWrite (p : Path) (s : Fin 4) (b : Bytes)
  /-- PROFILE_PROGRAM_DONE (R82). Flash programming of a profile slot ends and PROFILE_STATE and PROFILE_LENGTH take the check results. -/
  | profileProgramDone
  /-- PROFILE_ERASE (R82). PROFILE_ERASE empties a profile slot. -/
  | profileErase (p : Path) (s : Fin 4)
  /-- IDLE_RETENTION (R89). After IDLE_DELAY of idle READY every cluster enters retention and IDLE_STATE reads 1. -/
  | idleRetention
  /-- IDLE_WAKE_DONE (R90). Clusters and HBM finish waking and the command that ended idle READY acts. -/
  | idleWakeDone
  /-- CAPACITY_RETURN (R70). When all lost capacity has returned the module goes back to INSPECT from frame p+1. -/
  | capacityReturn
  /-- MGMT_WATCHDOG_EXPIRY (R73). Expiry of the management-core watchdog sends the module to SAFE with cause 4. -/
  | mgmtWatchdogExpiry
  /-- HUB_STATE_UNCORR (R73). An uncorrectable error in hub control state sends the module to SAFE with cause 5. -/
  | hubStateUncorr
  /-- PWR_RESET_ASSERT (R70). PWR_RESET_N low puts the module in RESET at once. -/
  | pwrResetAssert
  /-- WARM_RESET_ASSERT (R88). WARM_RESET_N low causes a warm reset that keeps the journal, committed sets and Ledger identity. -/
  | warmResetAssert
  /-- RESET_RELEASE (R549). Reset is released when rails, VIO_A and PWR_RESET_N all allow, PROF_SEL is sampled and BOOT is entered. -/
  | resetRelease (sel : Fin 4)
  /-- BOOT_IMAGE_CHECK (R506). The boot ROM checks the preferred firmware image, then the other, and starts the first valid one, entering TRAIN. -/
  | bootImageCheck (hangs : Bool)
  /-- FIRMWARE_TRAIN_TIMEOUT (R506). When the started image has not entered TRAIN within 200 ms the ROM starts the other image if untried. -/
  | firmwareTrainTimeout (hangs : Bool)
  /-- DIE_LINKS_TRAINED (R85). Hub and seam links finish training during start-up, or meet a SAFE cause. -/
  | dieLinksTrained (ok : Bool)
  /-- HBM_TRAINED (R85). Both HBM stacks finish training and failing pseudo-channels are removed from the address map. -/
  | hbmTrained (failed : List PcNo)
  /-- CAM_WAIT_EXPIRY (R556). CAM_WAIT_MS after firmware start the wait for camera discovery ends. -/
  | camWaitExpiry
  /-- TRAIN_END (R556). Once HBM training and the camera wait are over the start-up commit runs, entering READY or HOLD and starting the web axis. -/
  | trainEnd
  /-- POS_EDGE (R98). A validated edge on a position input changes the count, speed and P, and reloads the trigger timer. -/
  | posEdge (i : Fin 16) (levels : BitVec 3) (ph : Phase)
  /-- INDEX_PULSE (R100). An accepted Z pulse captures the count, latches INDEX_REF or checks for an index slip. -/
  | indexPulse (i : Fin 16) (levels : BitVec 3) (ph : Phase)
  /-- INDEX_CORRECTION (R101). A pending index correction is subtracted from the count at the next frame boundary or the next control clock. -/
  | indexCorrection (i : Fin 16)
  /-- SSI_POLL (R97). Every SSI_PERIOD the input clocks out an SSI reading, decodes and extends it, or sets SSI_FRAME. -/
  | ssiPoll (i : Fin 16) (word : BitVec 48) (lineHigh : Bool) (ph : Phase)
  /-- SPEED_TIMEOUT (R104). With no edge for SPEED_TIMEOUT speed reads 0 and direction reads standstill. -/
  | speedTimeout (i : Fin 16)
  /-- COUNT_WRITE (R99). A host write of COUNT sets the count, refused with INCONSISTENT on the web axis input. -/
  | countWrite (p : Path) (i : Fin 16) (v : Int)
  /-- TRIGGER_ISSUED (R108). The trigger timer expires and trigger k is issued, indexed and handed to every active camera port. -/
  | triggerIssued (ph : Phase)
  /-- CDR_LOCK (R118). A lane recovers its clock within ±200 ppm and reaches CDR_LOCK. -/
  | cdrLock (l : LaneNo) (ppm : Int)
  /-- SIGNAL_LOSS (R118). A lane receiver squelches after CDR_LOCK and sets SIGNAL_LOSS. -/
  | signalLoss (l : LaneNo)
  /-- FREQ_ERR (R115). An incoming rate beyond ±200 ppm sets FREQ_ERR and the lane does not hold lock. -/
  | freqErr (l : LaneNo) (ppm : Int)
  /-- BLOCK_LOCK (R120). After 64 consecutive valid sync headers the lane reaches BLOCK_LOCK. -/
  | blockLock (l : LaneNo) (headers : List (BitVec 2))
  /-- BLOCK_LOCK_LOSS (R120). Sixteen invalid sync headers within 64 blocks lose block lock and set LOCK_LOSS. -/
  | blockLockLoss (l : LaneNo) (headers : List (BitVec 2))
  /-- BITSLIP (R121). A BITSLIP write moves the block boundary one bit later and restarts the header count, breaking lock if held. -/
  | bitslip (p : Path) (l : LaneNo)
  /-- ALIGN_SEARCH (R122). With ALIGN_MODE 0 the firmware runs the boundary search on a lane that reaches CDR_LOCK. -/
  | alignSearch (l : LaneNo) (boundary : Option (Fin 66))
  /-- COMMA_LOCK (R123). At CoaXPress rates the hardware aligns on K28.5 commas, or loses lock on 16 violations in 64 characters. -/
  | commaLock (l : LaneNo) (comma : Bool) (chars : List Bool)
  /-- LANE_MARKER (R126). A received lane marker is checked for BIP8, lane identity and deskew, and can bring the link UP. -/
  | laneMarker (l : LaneNo) (payload : Word64) (parity : Byte) (block : Nat)
  /-- LANE_RETRAIN (R129). LANE_CMD 1 retrains one lane while the module keeps inspecting. -/
  | laneRetrain (p : Path) (l : LaneNo)
  /-- LANE_RETRAIN_DONE (R129). A retraining lane takes a tap matching its link and returns to UP, or the whole link deskews. -/
  | laneRetrainDone (l : LaneNo) (lead : Nat)
  /-- PATTERN_START (R132). LANE_CMD 4 starts the PRBS pattern on an inactive lane at RSL rate. -/
  | patternStart (p : Path) (l : LaneNo)
  /-- PATTERN_STOP (R132). LANE_CMD 5 stops the PRBS pattern on a lane. -/
  | patternStop (p : Path) (l : LaneNo)
  /-- PRBS_LOCK (R132). After 64 error-free bits the pattern checker locks and begins counting bits and errors. -/
  | prbsLock (l : LaneNo) (bits : List Bool)
  /-- EYE_POINT (R134). EYE_CTRL 1 measures one offset-sampler point into EYE_BITS and EYE_ERRORS. -/
  | eyePoint (p : Path) (l : LaneNo)
  /-- EYE_MAP (R134). EYE_CTRL 2 measures all 32,640 points into EYE_MAP. -/
  | eyeMap (p : Path) (l : LaneNo)
  /-- EYE_ABORT (R134). EYE_CTRL 3 aborts a running eye scan. -/
  | eyeAbort (p : Path) (l : LaneNo)
  /-- EYE_SCAN_DONE (R134). An eye point or map finishes and EYE_STATUS reads done. -/
  | eyeScanDone (l : LaneNo) (counts : List Nat)
  /-- LINE_PACKET (R151). A received line packet is matched to its outstanding trigger, checked and written with its descriptor. -/
  | linePacket (p : PortNo) (start : Word64) (data : List Word64) (stop : Word64) (errored interrupted : Bool) (unknown : Nat)
  /-- LINE_TIMEOUT (R152). An outstanding trigger unanswered within LINE_TIMEOUT is closed as a missing line. -/
  | lineTimeout (p : PortNo) (t : Fin 8)
  /-- PORT_OVERLOAD (R158). When the port FIFO cannot take a block the line in reception is discarded as port overload. -/
  | portOverload (p : PortNo) (start : Word64) (blocks : Nat)
  /-- PORT_CAPACITY_LOST (R160). A link down for LOST_FRAMES frame boundaries counts as lost capacity and sends the module to DEGRADED. -/
  | portCapacityLost (p : PortNo)
  /-- PORT_CAPACITY_RETURN (R160). At the first frame boundary after a matched line the port's capacity returns. -/
  | portCapacityReturn (p : PortNo)
  /-- RSL_MESSAGE (R167). A received register message, acknowledgement or refusal completes the outstanding register transaction. -/
  | rslMessage (p : PortNo) (block : Word64) (data : List Word64)
  /-- CXP_STREAM_PACKET (R164). A CoaXPress stream packet line is matched in arrival order to its stream's triggers. -/
  | cxpStreamPacket (p : PortNo) (stream : Fin 8) (supported crcOk : Bool) (width : Nat) (pixels : List Nat)
  /-- CXP_HEARTBEAT (R162). A CoaXPress heartbeat packet is received on a port. -/
  | cxpHeartbeat (p : PortNo)
  /-- PORT_DISCOVERY (R165). An enabled port runs WAIT_LINK, IDENTIFY, CONFIGURE and READY to discover its camera. -/
  | portDiscovery (p : PortNo)
  /-- DISCOVERY_ACCESS_TIMEOUT (R165). A discovery register access unanswered within 200 ms returns the port to WAIT_LINK. -/
  | discoveryAccessTimeout (p : PortNo)
  /-- REG_READ (R168). REG_CMD 1 reads a camera register range into REG_DATA. -/
  | regRead (path : Path) (p : PortNo)
  /-- REG_WRITE (R168). REG_CMD 2 writes REG_DATA to a camera register range. -/
  | regWrite (path : Path) (p : PortNo)
  /-- REG_TIMEOUT (R168). A pass-through command unanswered within 200 ms ends with REG_STATUS timeout. -/
  | regTimeout (p : PortNo)
  /-- PORT_SUSPEND (R169). PORT_CMD 1 suspends a port from frame p+1, its lines filled and covered as port in service. -/
  | portSuspend (path : Path) (p : PortNo)
  /-- SERVICE_IMAGE_WRITE (R169). A suspended port accepts a SERVICE_IMAGE naming only its own and its quad's objects. -/
  | serviceImageWrite (path : Path) (p : PortNo) (b : Bytes)
  /-- PORT_APPLY_RESUME (R170). PORT_CMD 2 applies the service image as a commit, retrains and rediscovers the port, or leaves it suspended. -/
  | portApplyResume (path : Path) (p : PortNo)
  /-- PORT_RESUME (R170). The serviced port resumes at the first frame boundary after its discovery ends. -/
  | portResume (p : PortNo)
  /-- FULLER_LINE (R171). A line leaves the port FIFO and passes the Fuller stages from alignment to packing. -/
  | fullerLine (p : PortNo) (corrected : Nat) (badWords : List Nat)
  /-- LINE_PUBLISHED (R192). A corrected line with its descriptor and correction tag is published in the history ring. -/
  | linePublished (d : Fin 4)
  /-- CORR_SWAP (R186). A pending correction generation, table, DGAIN or bypass change takes effect at its line or frame. -/
  | corrSwap (p : PortNo)
  /-- LUT_TABLE_WRITE (R182). A response table download is checked for length, MAGIC and CRC and applied under the SPAN rule. -/
  | lutTableWrite (path : Path) (d : Fin 4) (n : Fin 64) (b : Bytes)
  /-- PCAL_DARK (R196). PCAL_CMD 1 schedules a per-port dark calibration from frame p+1. -/
  | pcalDark (path : Path) (p : PortNo)
  /-- PCAL_FLAT (R196). PCAL_CMD 2 schedules a per-port flat calibration from frame p+1. -/
  | pcalFlat (path : Path) (p : PortNo)
  /-- PCAL_ABORT (R196). PCAL_CMD 4 aborts a per-port calibration, which passes through WAIT_REMOVAL where its reference was in place. -/
  | pcalAbort (path : Path) (p : PortNo)
  /-- PCAL_EXCLUSION_START (R196). At frame n Loom excludes the calibrating port and the calibration enters WAIT_REF. -/
  | pcalExclusionStart (p : PortNo)
  /-- CAL_CONFIRM_IN_PLACE (R199). CAL_CONFIRM 1 confirms the reference is in place for device-wide calibration. -/
  | calConfirmInPlace (path : Path)
  /-- CAL_CONFIRM_REMOVED (R199). CAL_CONFIRM 2 confirms the reference is removed. -/
  | calConfirmRemoved (path : Path)
  /-- PCAL_CONFIRM_IN_PLACE (R199). PCAL_CONFIRM 1 confirms the reference is in place for one port. -/
  | pcalConfirmInPlace (path : Path) (p : PortNo)
  /-- PCAL_CONFIRM_REMOVED (R199). PCAL_CONFIRM 2 confirms the reference is removed for one port, ending WAIT_REMOVAL. -/
  | pcalConfirmRemoved (path : Path) (p : PortNo)
  /-- CAL_REF_TIMEOUT (R199). REF_TIMEOUT passing in WAIT_REF or WAIT_REMOVAL fails the calibration with code 4. -/
  | calRefTimeout (p : PortNo)
  /-- CAL_SETTLE_DONE (R197). After SETTLE_LINES triggers the calibration enters ACCUMULATE. -/
  | calSettleDone (p : PortNo)
  /-- CAL_ACCUMULATE_DONE (R201). When 2^ACC_LINES good lines of every field are summed at a stop the calibration moves on. -/
  | calAccumulateDone (p : PortNo)
  /-- CAL_COMPUTE_DONE (R204). Offsets or gains and map entries are computed and the working set is complete or failed. -/
  | calComputeDone (p : PortNo)
  /-- CAL_TRAVERSE_STOP (R200). The traverse axis reaches a calibration stop, or TRAV_PARK after the last. -/
  | calTraverseStop (p : PortNo)
  /-- PCAL_RETURN (R198). At frame m the port returns to stitching and the calibration becomes IDLE. -/
  | pcalReturn (p : PortNo)
  /-- CAL_TIMER_TRIGGER (R195). In a CAL mode with source 1 the calibration timer sends a trigger at CAL_LINE_RATE. -/
  | calTimerTrigger
  /-- WORK_OPEN_COPY (R202). WORK_CMD 1 opens the working set as a copy of the committed set. -/
  | workOpenCopy (path : Path) (p : PortNo)
  /-- WORK_OPEN_FRESH (R202). WORK_CMD 2 opens a fresh working set with identity words and PIN_MAP. -/
  | workOpenFresh (path : Path) (p : PortNo)
  /-- WORK_DISCARD (R202). WORK_CMD 3 discards the working set. -/
  | workDiscard (path : Path) (p : PortNo)
  /-- CAL_COMMIT (R207). A port mask written to CAL_COMMIT commits the complete working sets with new generations. -/
  | calCommit (path : Path) (mask : BitVec 32)
  /-- CAL_IMPORT (R213). A correction set download replaces the port's working set after format and shape checks. -/
  | calImport (path : Path) (p : PortNo) (b : Bytes)
  /-- GEOM_IMPORT (R213). A geometry set download replaces the geometry working set. -/
  | geomImport (path : Path) (b : Bytes)
  /-- CAL_EXPORT (R212). An upload of CAL_EXPORT returns the committed correction set with header and trailer. -/
  | calExport (path : Path) (p : PortNo)
  /-- WORK_EXPORT (R212). An upload of WORK_EXPORT returns the working set, or length 0 when none. -/
  | workExport (path : Path) (p : PortNo)
  /-- GEOM_EXPORT (R212). An upload of GEOM_EXPORT returns the committed geometry set. -/
  | geomExport (path : Path)
  /-- GEOM_FIT (R210). After GEOM_ROWS dot rows the dots are identified and polynomials fitted, or the calibration fails. -/
  | geomFit (dots : List DotView) (links : List DotLink)
  /-- SWEEP_LINE (R232). When a web line is complete on all stitched sensors the sweep stitches it and updates coverage runs. -/
  | sweepLine (corrected : Nat) (bad : List Nat)
  /-- MAP_REWRITE (R239). The management cores rewrite a faulty column-map entry before the next frame boundary. -/
  | mapRewrite (column : Nat)
  /-- TILE_PASS_REQUEST (R234). A tile pass request delivers the stitched lines of a tile-frame or window with halos and line tags. -/
  | tilePassRequest (f n req : Nat) (tile : Option Nat) (first : Int) (width : Nat)
  /-- HALO_EDGE_LINES (R237). A received EDGE_LINES message stores a neighbour module's edge columns in the halo strip. -/
  | haloEdgeLines (src : Fin 1024) (line : BitVec 48) (field : Fin 8) (values : List Nat) (valid uncal : BitVec 32)
  /-- HALO_TIMEOUT (R237). Halo columns not arrived within HALO_TIMEOUT are delivered invalid with HALO_LATE. -/
  | haloTimeout (upper : Bool) (f line : Nat)
  /-- COLUMN_MAP (R227). An upload of COLUMN_MAP returns the column map as it stands in the present frame. -/
  | columnMap (path : Path)
  /-- BAND_PUBLISHED (R243). A unit publishes a band of labelled runs and seam exports, advancing DONE and closing components. -/
  | bandPublished (u : Fin 1024)
  /-- MERGE_LINK (R253). A merge engine takes an exported meeting and unites the pieces at its level. -/
  | mergeLink (level : Fin 4)
  /-- MERGE_EDGES (R262). Received EDGES entries are applied by the owning module at a module seam. -/
  | mergeEdges (upper : Bool) (n f b : Nat) (entries : List EdgeMsg)
  /-- MERGE_DONE (R262). A received DONE message advances the neighbour's DONE for closing at a module seam. -/
  | mergeDone (upper : Bool) (f line : Nat)
  /-- MERGE_ACCUM (R262). Received accumulators are added by the owner, which emits the component's candidate. -/
  | mergeAccum (ids : List Nat) (pixels : List Pix)
  /-- MERGE_SPLIT (R263). A received SPLIT notice makes later pieces for that component be discarded. -/
  | mergeSplit (upper : Bool) (ids : List Nat)
  /-- SYS_MERGE_TIMEOUT (R263). Missing edge, DONE or accumulators past SYS_MERGE_TIMEOUT make each module emit its pieces with SPLIT. -/
  | sysMergeTimeout
  /-- CLASSIFY_BATCH_DONE (R268). A unit finishes classifying and grading a batch and passes its results to the Ledger. -/
  | classifyBatchDone (id : Nat) (netRoom : Fin 16385)
  /-- LEDGER_NUMBER (R294). A record reaching the Ledger is numbered with the next SEQ, staged and handed to markers and crops. -/
  | ledgerNumber
  /-- CROP_CUT_DONE (R292). A crop is cut through the tile pass and written to its slot, or written LOST. -/
  | cropCutDone
  /-- MODEL_IMAGE_WRITE (R281). A model image download is checked and pended into a slot for frame p+1. -/
  | modelImageWrite (path : Path) (m : Fin 8) (b : Bytes)
  /-- MODEL_TAKES_EFFECT (R282). At the effect frame the pending model image takes over and a MODEL event record is emitted. -/
  | modelTakesEffect (m : Fin 8)
  /-- FRAME_DONE (R295). Once every record of frames up to n is numbered and DONE_MIN has passed, FRAME_DONE is numbered. -/
  | frameDone
  /-- LEDGER_DELIVER (R297). A staged record is written to a delivery ring slot in ascending SEQ. -/
  | ledgerDeliver (q : Fin 4)
  /-- RECORDS_LOST (R298). When a ring that dropped records has a free slot a RECORDS_LOST coverage record is numbered for it. -/
  | recordsLost (q : Fin 4)
  /-- STAT_FRAME_COMPLETE (R306). A port's field completes a frame of statistics and the bank is swapped or its record overruns. -/
  | statFrameComplete (p : PortNo) (f : Fin 8)
  /-- STAT_RECORD_DELIVERED (R305). A statistic record is written to the statistics ring, or dropped for lack of a slot. -/
  | statRecordDelivered (p : PortNo) (f : Fin 8)
  /-- EXPOSURE_WRITE (R307). A write of EXPOSURE schedules a new exposure generation at frame p+2. -/
  | exposureWrite (path : Path) (p : PortNo) (f : Fin 8) (v : Int)
  /-- CAM_GAIN_WRITE (R307). A write of CAM_GAIN schedules a new exposure generation at frame p+2. -/
  | camGainWrite (path : Path) (p : PortNo) (f : Fin 8) (v : Int)
  /-- EXP_FAULT (R310). An exposure write refused or unanswered within 200 ms sets EXP_FAULT. -/
  | expFault (p : PortNo)
  /-- EXP_GEN_ADVANCE (R307). At the effect frame the port's exposure generation is incremented. -/
  | expGenAdvance (p : PortNo)
  /-- STREAM_RECORD_HANDOFF (R322). A closed stream record is handed to its ring, UDP destination or discard. -/
  | streamRecordHandoff (s : Fin 8) (udpRoom : Bool)
  /-- STREAM_SYNC_CMD (R319). A write of a stream's SYNC schedules a synchronising reset at the next frame. -/
  | streamSyncCmd (p : Path) (s : Fin 8)
  /-- MON_SYNC_CMD (R319). A write of a monitor's SYNC schedules a synchronising reset at the next frame. -/
  | monSyncCmd (p : Path) (m : Fin 64)
  /-- SYNC_RESET (R319). At the start of frame n a stream or monitor chain is reset and SYNC_FRAME takes n. -/
  | syncReset
  /-- COMP_ENGINE_TAKE (R341). A free DEFLATE engine takes the record at the head of the compression queue. -/
  | compEngineTake (stalls : Bool)
  /-- COMP_STALL_END (R344). The output buffer gains room for 8 bytes and the stalled engine resumes. -/
  | compStallEnd (e : Fin 4) (clocks : Nat) (again : Bool)
  /-- COMP_MEMBER_DONE (R343). The gzip member is flushed and complete and the record is published. -/
  | compMemberDone (e : Fin 4) (udpRoom : Bool)
  /-- ENGINE_ABORT (R346). ENGINE_CMD 1 aborts the engine's member, discarding every byte. -/
  | engineAbort (p : Path) (e : Fin 4)
  /-- HC_TARGET (R348). A write of HC_TARGET places a host compare in a marker queue. -/
  | hcTarget (path : Path) (k : Fin 16) (v : Int)
  /-- MQ_CLEAR (R347). MQ_CLEAR discards every entry of a marker queue. -/
  | mqClear (path : Path) (k : Fin 16)
  /-- MARK_FIRE (R350). When P plus the lead reaches the head target every due entry fires in one pulse. -/
  | markFire (k : Fin 16)
  /-- MARK_PULSE_END (R352). A marker pulse ends after PULSE_TIME or when P reaches the target plus PULSE_LEN. -/
  | markPulseEnd (k : Fin 16)
  /-- MV_PUSH (R359). MV_PUSH copies the move values into the axis queue and reports MV_RESULT. -/
  | mvPush (path : Path) (a : Fin 16)
  /-- AXIS_STEP (R361). The step timer expires, a step is issued and the next interval is chosen. -/
  | axisStep (a : Fin 16)
  /-- AXIS_STOP (R366). AX_CMD 1 decelerates the axis at MV_DECEL and empties its queue. -/
  | axisStop (path : Path) (a : Fin 16)
  /-- AXIS_QUICK_STOP (R366). AX_CMD 2 decelerates the axis at QSTOP_DECEL and empties its queue. -/
  | axisQuickStop (path : Path) (a : Fin 16)
  /-- AXIS_HALT (R366). AX_CMD 3 issues no further step, empties the queue and sets HALTED. -/
  | axisHalt (path : Path) (a : Fin 16)
  /-- AXIS_ENABLE (R366). AX_CMD 4 enables the driver and latches the feedback origins. -/
  | axisEnable (path : Path) (a : Fin 16)
  /-- AXIS_DISABLE (R366). AX_CMD 5 halts the axis and applies the group coil policy. -/
  | axisDisable (path : Path) (a : Fin 16)
  /-- AXIS_CLEAR_FAULT (R366). AX_CMD 6 clears the axis fault once the fault input is high. -/
  | axisClearFault (path : Path) (a : Fin 16) (inputHigh : Bool)
  /-- GROUP_STOP (R366). GROUP_CMD 1 stops every axis of the group on one control clock. -/
  | groupStop (path : Path) (g : Fin 4)
  /-- GROUP_QUICK_STOP (R366). GROUP_CMD 2 quick-stops every axis of the group on one control clock. -/
  | groupQuickStop (path : Path) (g : Fin 4)
  /-- STANDSTILL_TIMEOUT (R367). After STANDSTILL_DELAY at rest with an empty queue the axis raises its current-reduce output. -/
  | standstillTimeout (a : Fin 16)
  /-- CR_WAKE_END (R367). CR_WAKE after current-reduce is lowered the move's first step follows. -/
  | crWakeEnd (a : Fin 16)
  /-- AXIS_STALL (R369). A stall from the stall input or following error stops the axis, or ends the homing search. -/
  | axisStall (a : Fin 16) (input : Bool)
  /-- DRV_FAULT (R369). A low driver fault input disables the axis, sets DRV_FAULT and empties its queue. -/
  | drvFault (a : Fin 16)
  /-- HOME_FAIL (R368). HOME_MAX_TRAVEL steps without a stall end homing with HOME_FAIL. -/
  | homeFail (a : Fin 16)
  /-- AXIS_SYNC_START (R365). Synchronised moves of a group start together once every such axis holds one at its head at rest. -/
  | axisSyncStart (g : Fin 4)
  /-- SEG_JOB_DISPATCH (R378). The placement engine dispatches the head ready job to a free unit. -/
  | segJobDispatch
  /-- SEG_JOB_ABANDON (R379). A job not dispatched by its latest start is abandoned with a SEG_LOST coverage record. -/
  | segJobAbandon
  /-- CLASSIFY_BATCH_DISPATCH (R382). A batch of up to 256 candidates is dispatched to a free classification unit. -/
  | classifyBatchDispatch (limit : Nat)
  /-- EPOCH_START (R373). A new placement epoch takes effect at its epoch frame and raises EPOCH_START. -/
  | epochStart
  /-- SHED_SEND (R384). With the candidate queue above SHED_HIGH a batch is shed to a peer module. -/
  | shedSend
  /-- SHED_TIMEOUT (R385). A shed batch without results within SHED_TIMEOUT is resubmitted. -/
  | shedTimeout (id : Nat)
  /-- CL_RELEASE (R391). CL_CMD 1 begins a planned release of a cluster from frame p+2. -/
  | clRelease (path : Path) (c : ClusterNo)
  /-- CL_RETURN (R392). CL_CMD 2 returns a tested cluster to service at epoch frame p+2. -/
  | clReturn (path : Path) (c : ClusterNo)
  /-- RELEASE_SLOT_MOVE (R391). A releasing cluster's occupied slots are moved to a cluster with free slots once its jobs are published. -/
  | releaseSlotMove (c : ClusterNo)
  /-- UNIT_WATCHDOG_EXPIRY (R389). A band not published within four times its budget removes the unit by force. -/
  | unitWatchdogExpiry (u : Fin 1024)
  /-- HBM_REFRESH (R402). A due all-bank refresh is issued to a pseudo-channel, or postponed. -/
  | hbmRefresh (n : PcNo) (pending : Bool)
  /-- HBM_TEMP_READ (R403). Every 32 µs a stack temperature reading moves it into or out of the hot refresh state. -/
  | hbmTempRead (t0 t1 : Fin 256)
  /-- HBM_THROTTLE (R404). A requester reaching ACT_LIMIT on a bank is throttled for the rest of the window. -/
  | hbmThrottle (r : Fin 8) (n : PcNo) (offset : Fin 805306368) (count : Nat)
  /-- HBM_POWER_DOWN (R405). A pseudo-channel idle for PD_DELAY enters power-down. -/
  | hbmPowerDown (n : PcNo)
  /-- HBM_SELF_REFRESH_ENTRY (R406). A stack idle in power-down for SR_DELAY after cluster retention enters self-refresh. -/
  | hbmSelfRefreshEntry (s : Fin 2)
  /-- HBM_SELF_REFRESH_EXIT (R406). A request or end of idle READY restarts a stack's clocks and takes it out of self-refresh. -/
  | hbmSelfRefreshExit (s : Fin 2)
  /-- HBM_UNCORR (R409). An uncorrectable read error loses ring lines, uses the replica or follows the class loss rule. -/
  | hbmUncorr (n : PcNo) (corrected : Nat) (target : HbmTarget)
  /-- HBM_PERIODIC_RETRAIN (R410). Every RETRAIN_PERIOD the next pseudo-channel in turn is retrained. -/
  | hbmPeriodicRetrain
  /-- PC_RETRAIN_CMD (R410). PC_CMD 1 retrains a pseudo-channel, or waits behind one already retraining. -/
  | pcRetrainCmd (p : Path) (n : PcNo)
  /-- PC_RETRAIN_DONE (R411). A retraining keeps or finds a passing setting, or the pseudo-channel is lost. -/
  | pcRetrainDone (passes : Bool)
  /-- PC_LOST_EFFECT (R30). At frame p+1 the new ring depth applies and sensors over half of it are cut back. -/
  | pcLostEffect
  /-- SP_ROW_TEST (R419). Every TEST_ROW_INTERVAL one scratchpad row is saved, marched and restored. -/
  | spRowTest (c : ClusterNo) (bad : Fin 65) (corr : Nat)
  /-- SP_UNCORR (R415). An uncorrectable scratchpad lane returns POISON and removes an in-service cluster with cause 3. -/
  | spUncorr (c : ClusterNo)
  /-- SP_FULL_TEST (R421). SP_CMD 1 starts a full test of an out-of-service cluster. -/
  | spFullTest (p : Path) (c : ClusterNo)
  /-- SP_FULL_TEST_DONE (R421). A full test ends and TEST_PASSED is set when every row in use passes. -/
  | spFullTestDone (c : ClusterNo) (fails : List (Fin 528 × Nat))
  /-- SP_RETAIN (R423). SP_CMD 2 puts an out-of-service cluster into retention. -/
  | spRetain (p : Path) (c : ClusterNo)
  /-- SP_WAKE (R423). SP_CMD 3 wakes a retained cluster, serving 2 µs later. -/
  | spWake (p : Path) (c : ClusterNo)
  /-- QUEUE_WRITE (R424). A producer spends credits to write an item to a credit queue, possibly crossing HIGH_WM. -/
  | queueWrite (q : Fin 173) (item : List Word64) (waited : Nat)
  /-- QUEUE_READ (R427). A consumer reads a queue item, returning credits, or underruns, or receives POISON. -/
  | queueRead (q : Fin 173) (corr : Nat) (bad : List (Fin 40))
  /-- CH_PROGRAM_WRITE (R430). A CH_PROGRAM download loads a channel's instruction store after format checks. -/
  | chProgramWrite (p : Path) (c : Fin 32) (b : Bytes)
  /-- CH_START (R443). CH_CMD 1 starts a channel from position 0, clearing counters and any pending event. -/
  | chStart (p : Path) (c : Fin 32)
  /-- CH_STOP (R443). CH_CMD 2 stops issuing bursts on a running or waiting channel. -/
  | chStop (p : Path) (c : Fin 32)
  /-- CH_CLEAR (R443). CH_CMD 3 returns a finished, failed or stopped channel to IDLE. -/
  | chClear (p : Path) (c : Fin 32)
  /-- DMA_STOPPED (R443). Once every issued write of a stopping channel has its response the channel enters STOPPED. -/
  | dmaStopped (c : Fin 32)
  /-- DMA_MOVE (R436). A MOVE instruction transfers COUNT bytes in bursts through the holding register. -/
  | dmaMove (c : Fin 32) (data : Bytes) (corr : Nat)
  /-- DMA_LOOP (R437). A LOOP instruction loads or decrements its counter and jumps to TARGET. -/
  | dmaLoop (c : Fin 32)
  /-- DMA_WAIT (R439). A WAIT instruction consumes a pending DMA_GO event or enters WAITING. -/
  | dmaWait (c : Fin 32)
  /-- DMA_SIGNAL (R440). A SIGNAL instruction, after all writes respond, writes SIG_CODE and raises its event and vector. -/
  | dmaSignal (c : Fin 32) (good : Bool)
  /-- DMA_END (R440). An END instruction, after all writes respond, sets DONE. -/
  | dmaEnd (c : Fin 32) (good : Bool)
  /-- DMA_ADDR (R435). An ADDR instruction loads the source or destination register and its wrap. -/
  | dmaAddr (c : Fin 32)
  /-- DMA_WAIT_TIMEOUT (R439). TIMEOUT passing in WAITING fails the channel with code 5. -/
  | dmaWaitTimeout (c : Fin 32)
  /-- DMA_ERROR (R442). A failing burst stops the channel in ERROR with its code and address. -/
  | dmaError (c : Fin 32) (write : Bool) (beat : Nat)
  /-- EVENT_DELIVERY (R447). A raised event is resynchronised and delivered by every enabled route entry to its task input. -/
  | eventDelivery
  /-- EVT_IN (R452). A filtered edge on an event input pin raises its source. -/
  | evtIn (i : Fin 16) (high : Bool)
  /-- SW_RAISE (R453). A write of SW_RAISE raises a software event source for each bit set. -/
  | swRaise (p : Path) (v : BitVec 16)
  /-- RELAY_OUT (R451). A relay's delay ends and it re-raises its event with a higher hop count. -/
  | relayOut (n : Fin 16)
  /-- EVT_OUT_PULSE_END (R452). An event output pulse ends after EVT_PULSE event clocks. -/
  | evtOutPulseEnd (i : Fin 16)
  /-- YALIND_FRAME_RX (R455). A received Yalind frame is checked and dropped or passed to reassembly. -/
  | yalindFrameRx (port : Fin 4) (fcsOk : Bool) (header : BitVec 128) (payload : Bytes)
  /-- HELLO_SEND (R456). Every 100 ms the module broadcasts a HELLO on every Yalind port up. -/
  | helloSend
  /-- HELLO (R456). A received HELLO records the peer's port and may flag an address conflict or open a session. -/
  | hello (port : Fin 4) (mac : BitVec 48) (addr : Fin 1024) (serial : BitVec 32) (mode : Fin 12) (group pair : BitVec 16)
  /-- HELLO_ACK (R457). A received HELLO_ACK opens the session with the peer. -/
  | helloAck (addr : Fin 1024) (number : BitVec 16)
  /-- BYE (R457). A received BYE ends the session with the peer. -/
  | bye (addr : Fin 1024)
  /-- ACK (R458). A received ACK completes an acknowledged message. -/
  | ack (addr : Fin 1024) (cls : Fin 16) (seq : BitVec 32)
  /-- YALIND_RETRY (R458). With no ACK within YL_RETRY the message is resent, and after YL_RETRIES the session is lost. -/
  | yalindRetry (addr : Fin 1024) (cls : Fin 16) (seq : BitVec 32)
  /-- SESSION_TIMEOUT (R457). No frame from a peer for YL_SESSION_TIMEOUT loses the session. -/
  | sessionTimeout (addr : Fin 1024)
  /-- FRAGMENT_TIMEOUT (R458). A message incomplete 1 ms after its first fragment is discarded. -/
  | fragmentTimeout (addr : Fin 1024) (cls : Fin 16) (seq : BitVec 32)
  /-- MGMT_READ (R459). A MGMT READ reads an object over Yalind and is answered with RESULT. -/
  | mgmtRead (src : Fin 1024) (tag : BitVec 56) (index : BitVec 16) (sub : BitVec 8)
  /-- MGMT_WRITE (R459). A MGMT WRITE writes an object from PATH 3 and is answered with RESULT. -/
  | mgmtWrite (src : Fin 1024) (tag : BitVec 56) (index : BitVec 16) (sub : BitVec 8) (data : Bytes)
  /-- MGMT_RESULT (R459). A received RESULT answers the module's own MGMT request. -/
  | mgmtResult (src : Fin 1024) (tag : BitVec 56) (code : BitVec 16) (data : Bytes)
  /-- ALIGN (R463). A received ALIGN aligns a waiting web axis or is compared for divergence. -/
  | align (src : Fin 1024) (k : BitVec 48) (time : BitVec 64)
  /-- DESC (R466). A received group DESC is recorded and checked at the next commit. -/
  | desc (src : Fin 1024) (base width : BitVec 32) (settings : List Int)
  /-- GROUP_TIMEOUT (R468). A member silent for GROUP_TIMEOUT becomes absent. -/
  | groupTimeout (j : Fin 8)
  /-- OFFER_SEND (R469). Every 1 ms an accepting module sends OFFER to its shed peers. -/
  | offerSend
  /-- OFFER (R469). A received OFFER makes the peer live for shedding. -/
  | offer (src : Fin 1024) (rate : BitVec 32) (digests : List Bytes)
  /-- SHED_PEER_TIMEOUT (R469). A peer silent for 10 ms stops being a shedding candidate. -/
  | shedPeerTimeout (addr : Fin 1024)
  /-- BATCH (R470). A received shed BATCH is classified and answered with a RESULT. -/
  | batch (src : Fin 1024) (id : Nat) (featDigest netDigest : Bytes) (cands : List ShedCand)
  /-- SHED_RESULT (R470). A received shed RESULT supplies classes for grading, or is discarded if stale. -/
  | shedResult (src : Fin 1024) (id : Nat) (answers : List ShedAnswer)
  /-- REFUSE (R471). A received REFUSE makes the origin resubmit the batch at once. -/
  | refuse (src : Fin 1024) (id : Nat)
  /-- LEAVE (R471). A received LEAVE removes the peer from shedding. -/
  | leave (src : Fin 1024)
  /-- HEARTBEAT_SEND (R478). Every 1 ms a paired module sends HEARTBEAT and toggles PAIR_HB_OUT every 500 µs. -/
  | heartbeatSend
  /-- HEARTBEAT (R478). A received HEARTBEAT updates the partner's delivery and fire positions and path status. -/
  | heartbeat (src : Fin 1024) (m : BeatMsg)
  /-- PAIR_HB_IN (R478). A rising edge on PAIR_HB_IN counts as a heartbeat. -/
  | pairHbIn (level : Bool)
  /-- PROPOSE (R476). A received PROPOSE is acknowledged before the primary accepts the write. -/
  | propose (src : Fin 1024) (seq : BitVec 32)
  /-- ENTRY (R475). A received mirrored Tally ENTRY is journaled and applied at its effect frame. -/
  | entry (src : Fin 1024) (e : MirrorEntry)
  /-- MIRROR_RECORD (R299). A received mirrored Ledger record is held until every ring confirms delivery. -/
  | mirrorRecord (src : Fin 1024) (b : Bytes)
  /-- FRAME_SYNC (R475). A received FRAME_SYNC updates mirrored sets, Stamper queues and epochs. -/
  | frameSync (src : Fin 1024) (m : SyncMsg)
  /-- SNAPSHOT (R474). A received SNAPSHOT is applied as a commit and adopts the primary's journal and Ledger identity. -/
  | snapshot (src : Fin 1024) (m : SnapMsg)
  /-- SHADOW_ENTRY (R474). At the first frame boundary after the snapshot is acknowledged the secondary enters SHADOW. -/
  | shadowEntry
  /-- PAIR_REQ (R473). A received PAIR_REQ is answered as primary with a SNAPSHOT, or refused. -/
  | pairReq (src : Fin 1024) (position : Fin 2)
  /-- PAIR_END (R481). A received PAIR_END makes the primary run unpaired. -/
  | pairEnd (src : Fin 1024) (code : Fin 6)
  /-- TAKEOVER (R482). A received TAKEOVER from a partner also claiming primary sets CONFLICT. -/
  | takeover (src : Fin 1024)
  /-- PAIR_CMD_PAIR (R473). PAIR_CMD 1 sends PAIR_REQ to the partner. -/
  | pairCmdPair (p : Path)
  /-- PAIR_CMD_END (R481). PAIR_CMD 2 ends the pairing and sends PAIR_END. -/
  | pairCmdEnd (p : Path)
  /-- HEARTBEAT_LOSS (R479). A SHADOW module hearing no heartbeat for 4 ms declares the primary failed or ends the pairing. -/
  | heartbeatLoss
  /-- PRIMARY_HEARTBEAT_LOSS (R481). A primary hearing no heartbeat for 4 ms ends the pairing and runs unpaired. -/
  | primaryHeartbeatLoss
  /-- FAILOVER_TAKEOVER (R479). At the frame boundary after the declaration the secondary takes over, redelivers and numbers FAILOVER. -/
  | failoverTakeover
  /-- PTP_MESSAGE (R460). A received IEEE 1588 message drives the best master algorithm and the servo. -/
  | ptpMessage (port : Fin 4) (role : PtpRole) (offset : Int)
  /-- PCIE_LINK_DOWN (R487). PCIe link-down or PCIE_PERST_N low stops every host ring and keeps Ledger records staged. -/
  | pcieLinkDown (perst : Bool)
  /-- PCIE_PERST_RELEASE (R86). PCIE_PERST_N rising starts PCIe link training independent of the mode. -/
  | pciePerstRelease
  /-- CI_DOORBELL (R486). A CI write to a ring frees consumed slots, or is dropped with CI_ERR. -/
  | ciDoorbell (r : Fin 17) (v : BitVec 64)
  /-- RING_ENABLE (R487). A ring ENABLE written 1 resets PI and CI to 0 and starts the ring. -/
  | ringEnable (p : Path) (r : Fin 17)
  /-- RING_DISABLE (R487). A ring ENABLE written 0 completes slot writes in progress and stops. -/
  | ringDisable (p : Path) (r : Fin 17)
  /-- COAL_TIME_EXPIRY (R489). COAL_TIME after the first unsignalled slot the ring sends its MSI-X vector. -/
  | coalTimeExpiry (r : Fin 17)
  /-- MSIX_UNMASK (R490). Unmasking a vector with its pending bit set sends one message and clears the bit. -/
  | msixUnmask (v : Option (Fin 2048))
  /-- ETH_LINK_CHANGE (R491). An Ethernet port completes auto-negotiation and training or loses its link. -/
  | ethLinkChange (n : Fin 4) (st : Fin 3) (corr uncorr : Nat)
  /-- ARP_REQUEST (R492). An ARP request for the port's IPv4 address is answered. -/
  | arpRequest (n : Fin 4) (ip fromIp : BitVec 32) (fromMac : BitVec 48)
  /-- ICMP_ECHO (R492). An ICMPv4 echo request is answered. -/
  | icmpEcho (n : Fin 4) (ip fromIp : BitVec 32) (id seq : BitVec 16) (data : Bytes)
  /-- ECAT_SM2_WRITE (R497). At the end of an SM2 write every changed RxPDO entry is written from PATH 2. -/
  | ecatSm2Write (image : Bytes)
  /-- ECAT_SM3_READ (R498). At the start of an SM3 read every TxPDO entry is latched. -/
  | ecatSm3Read
  /-- ECAT_WATCHDOG (R497). Expiry of the SM2 watchdog stops RxPDO writes and sets WATCHDOG. -/
  | ecatWatchdog
  /-- ECAT_STATE_CHANGE (R54). The EtherCAT state machine changes state, a fall to INIT discarding the CoE write group. -/
  | ecatStateChange (st : EcatSt)
  /-- FUSE_DEBUG_LOCK (R504). FUSE_CMD 0x4C4B_0001 burns DEBUG_LOCK. -/
  | fuseDebugLock (p : Path) (good : Bool)
  /-- FUSE_SIGN_PROFILES (R504). FUSE_CMD 0x4C4B_0002 burns SIGN_PROFILES. -/
  | fuseSignProfiles (p : Path) (good : Bool)
  /-- FUSE_SIGN_MODELS (R504). FUSE_CMD 0x4C4B_0003 burns SIGN_MODELS. -/
  | fuseSignModels (p : Path) (good : Bool)
  /-- FUSE_REVOKE_KEY (R504). FUSE_CMD 0x4C4B_0010 + k revokes owner key k. -/
  | fuseRevokeKey (p : Path) (k : Fin 4) (good : Bool)
  /-- OWNER_KEY_BURN (R504). OWNER_KEY_BURN burns a public key digest into the lowest empty owner slot. -/
  | ownerKeyBurn (p : Path) (key : Bytes) (good : Bool)
  /-- FW_IMAGE_WRITE (R508). A FW_IMAGE download is checked and starts installation into the slot not running. -/
  | fwImageWrite (p : Path) (b : Bytes)
  /-- FW_PROGRAM_DONE (R508). Firmware programming and both descriptor rewrites complete, naming the new slot preferred. -/
  | fwProgramDone
  /-- ROLLBACK_COMMIT (R509). ROLLBACK_COMMIT raises the rollback counter to the lower SVN of the two images. -/
  | rollbackCommit (p : Path) (good : Bool)
  /-- QUOTE (R512). An upload of QUOTE returns a signed attestation quote of the values in force. -/
  | quote (p : Path)
  /-- DEBUG_TOKEN (R513). A valid DEBUG_TOKEN reopens core debug until reset and withholds the identity key. -/
  | debugToken (p : Path) (b : Bytes)
  /-- IDENTITY_KEY_READY (R511). The identity key pair is derived during TRAIN and quotes become available. -/
  | identityKeyReady
  /-- VIN_NOT_GOOD (R515). A supply input leaves the good window after the 1 µs filter, switching supply when possible. -/
  | vinNotGood (b : Bool) (mv : BitVec 16)
  /-- VIN_GOOD (R515). A supply input returns within the good window. -/
  | vinGood (b : Bool) (mv : BitVec 16)
  /-- VIN_RANGE_TIMEOUT (R516). VIN_A outside its operating range for 1 ms with VIN_B inside switches to VIN_B. -/
  | vinRangeTimeout
  /-- RETURN_TO_A (R516). After 100 ms of VIN_A good and in range the module switches back to VIN_A. -/
  | returnToA
  /-- HOLDUP_EXPIRY (R517). With neither input good 50 µs after loss the module enters RESET as loss of both supplies. -/
  | holdupExpiry
  /-- SUPPLY_SAFE_TIMEOUT (R518). The supply in use out of range for 10 ms with no switch possible sends the module to SAFE. -/
  | supplySafeTimeout
  /-- VIO_FAULT (R519). VIO_A or VIO_B outside ±10 % for 10 ms sends the module to SAFE. -/
  | vioFault (b : Bool) (mv : BitVec 16)
  /-- REFCLK_LOSS (R522). Loss of REFCLK or root PLL lock switches to holdover and sends the module to SAFE. -/
  | refclkLoss
  /-- SERDES_REFCLK_LOSS (R522). Loss of SERDES_REFCLK drops every camera lane and Ethernet port out of lock. -/
  | serdesRefclkLoss
  /-- PCIE_REFCLK_LOSS (R522). Loss of PCIE_REFCLK takes the PCIe link down. -/
  | pcieRefclkLoss
  /-- THERMAL_READING (R525). Every 100 µs the die sensors are read and the thermal state and life counters updated. -/
  | thermalReading (d0 d1 d2 d3 hub : BitVec 32)
  /-- THERMAL_SHUTDOWN (R527). Two readings at or above TJ_SHUTDOWN send the module to SAFE and set the shutdown latch. -/
  | thermalShutdown
  /-- SHUTDOWN_LATCH_CLEAR (R72). The comparator reads TJ below TJ_RESUME and the shutdown latch clears, letting RESET be left. -/
  | shutdownLatchClear
  /-- RAILS_GOOD (R548). The on-module rails become good and slow outputs take their reset states. -/
  | railsGood
  /-- VIO_A_SETTLED (R549). VIO_A has stayed 1 ms within one level band, allowing reset release. -/
  | vioASettled (mv : BitVec 16)
  /-- OBJECT_READ (R57). A BAR0 read of a dictionary slot returns the object's value, or is refused, which increments REFUSED_COUNT and records REFUSED_OBJECT. -/
  | objectRead (p : Path) (f : ReadForm)
  /-- PCIE_LINK_UP (R296). PCIe link training completes and staged Ledger records begin to be delivered. -/
  | pcieLinkUp
  /-- ROOT_PLL_LOCK (R70). The root PLL locks to REFCLK, allowing RESET to be left for BOOT under cause 2. -/
  | rootPllLock
  /-- DIE_LINK_FAULT (R73). A hub-link or seam-link failure at run time is retrained, removes a cluster with cause 5 when confined to it, or sends the module to SAFE with cause 2. -/
  | dieLinkFault (f : DieFault)
  /-- HBM_STACK_FAILURE (R413). Failure of a whole HBM stack or its PHY sends the module to SAFE with cause 3. -/
  | hbmStackFailure (s : Fin 2)
  /-- CXP_LANE_UP (R118). A CoaXPress lane aligned for 1 ms without code errors goes UP and passes data to its port. -/
  | cxpLaneUp (l : LaneNo)
  /-- CXP_CONTROL_ACK (R162). A CoaXPress control acknowledgement completes the outstanding tagged read or write command of discovery or pass-through. -/
  | cxpControlAck (p : PortNo) (tag code : Nat) (words : List Nat) (tags pixels depths lanes : Nat) (model serial : Bytes)
  /-- PATH_LOST (R478). One heartbeat path silent for 4 ms while the other is heard sets PATH_LOST. -/
  | pathLost (path : PairPath)
  /-- PAUSE_FRAME (R491). A received PAUSE or priority flow control frame is not obeyed and is counted in RX_PAUSE. -/
  | pauseFrame (n : Fin 4)
  deriving DecidableEq, Repr

end Sys2Proof
end

