-- ==== Sys2Proof/Config.lean ====
section
/-! DEFINITION. What the implementation fixes and what the spec leaves open: opaque constants, which no proof can look into (a claim
holds whatever they are). Provisioned values of one module, drawn identities, signature functions and unstated results. -/
namespace Sys2Proof.Config

/-- The ordering code fitted: true for TZ-1280-X, false for TZ-1280-S (R1). -/
opaque orderingX : Bool
/-- HW_VERSION, provisioned (R47). -/
opaque hwVersion : Bytes
/-- REVISION bits 31 to 16, the hardware revision (R47). -/
opaque hwRevision : BitVec 16
/-- SERIAL, unique per module (R47). -/
opaque serial : BitVec 32
/-- ETH_MAC_BASE, provisioned (R491). -/
opaque macBase : BitVec 48
/-- The n-th random draw of the module: JOURNAL_ID (R62), LEDGER_ID (R296), DEBUG_NONCE (R513) and session numbers. -/
opaque draw : Nat → Nat
/-- The n-th value the spec leaves open after an effect that goes on; the step reads and advances the counter of State. -/
opaque freeValue : Nat → Nat

/-! Provisioned contents of the boot flash and the identity (R499, R511), and the Falcon-1024 functions (R501). -/

/-- The firmware image a module is delivered with in slot A (0) or B (1). -/
opaque factoryFirmware : Nat → Bytes
/-- The identity certificate Glohus keeps in flash (R511). -/
opaque identityCert : Bytes
/-- The identity public key the security block derives from its seed (R511). -/
opaque identityKey : Bytes
/-- The Glohus key digests held in the boot ROM (R502). -/
opaque glohusKeys : List Bytes
/-- Whether a Falcon-1024 signature verifies: public key, message, signature. -/
opaque falconVerify : Bytes → Bytes → Bytes → Bool
/-- The Falcon-1024 signature of the identity key over a message, as the signer draws it for the n-th time. -/
opaque falconSign : Nat → Bytes → Bytes

/-! What R338 leaves open of a dynamic DEFLATE block: how the lengths of a code are found from the counts, and how the block's header spells them.
R339 makes both fixed functions. -/

/-- The code lengths of an alphabet from its symbol counts and the greatest length. -/
opaque huffLengths : List Nat → Nat → List Nat
/-- The bits that spell the literal/length and distance code lengths of a dynamic block, after BFINAL and BTYPE. -/
opaque huffHeader : List Nat → List Nat → List Bool

end Sys2Proof.Config
end

