-- ==== Sys2Proof/Machine/ObjTypes.lean ====
section
/-! DEFINITION. The types of the object dictionary: object types (R39), access kinds (R40), effect classes (R43), ranges (R553)
and the row of an object table. -/
namespace Sys2Proof.Machine

/-- The object types of R39. -/
inductive ObjType where
  | bool | u8 | u16 | u32 | u64 | i32 | i64 | q16 | q0 | string | domain
  deriving DecidableEq, Repr

/-- The access kinds of R40. -/
inductive Access where
  | ro | wo | rw | rws | rwl
  deriving DecidableEq, Repr

/-- The effect classes of R43; `w1c` marks a status flag object (R58), which takes effect as IMM, `none` an RO object. -/
inductive Effect where
  | none | imm | evt | line | span | frame | frame2 | commit | reset | w1c
  deriving DecidableEq, Repr

/-- Defaults that one number does not give. -/
inductive CalcDefault where
  | productCode   -- by ordering code (R1)
  | revision      -- provisioned (R47)
  | serial        -- provisioned (R47)
  | seamBlend     -- by the seam's overlap (R238)
  | bufBytes      -- by buffer class (R387)
  | bufReplica    -- by buffer class (R387)
  | queueDepth    -- by queue (R424)
  | queueHighWm   -- DEPTH × 3 ÷ 4 (R427)
  | macBase       -- provisioned (R491)
  deriving DecidableEq, Repr

/-- The default of an object row. -/
inductive Dflt where
  | const (v : Int)
  | perSub (vs : List Int)      -- one value for each subindex of the row, 0 where the list ends
  | calc (c : CalcDefault)
  deriving DecidableEq, Repr

/-- The range of an object row (R553). -/
inductive Rng where
  | any                                            -- every value of the type
  | counter                                        -- a counter: only 0 may be written (R59)
  | bits (mask : Nat)                              -- bit fields; bits outside the mask are reserved (R60)
  | codes (cs : List Nat)                          -- a list of codes
  | nums (segs : List (Int × Int)) (mult : Nat) (pow2 odd : Bool)   -- bounds and conditions on the value alone
  | bytes (lo hi mult : Nat)                       -- the length of a DOMAIN or STRING
  deriving DecidableEq, Repr

/-- One row of an object table: indices `base + stride·i` for `i < count`, subindices `subLo` to `subHi`. -/
structure ObjRow where
  base   : Nat
  stride : Nat
  count  : Nat
  subLo  : Nat
  subHi  : Nat
  name   : String
  typ    : ObjType
  access : Access
  effect : Effect
  dflt   : Dflt
  rng    : Rng
  deriving DecidableEq, Repr

end Sys2Proof.Machine
end

