-- ==== Sys2Proof/Machine/Objects.lean ====
section
/-! DEFINITION. The object tables of every chapter of the spec, row by row (R36, R47 and each chapter's own tables), and a name
for the key of every object. A row gives the base index, the stride and the count of an arrayed index, the subindex range,
the name, the type (R39), the access kind (R40), the effect class (R43), the default and the range (R553). -/
namespace Sys2Proof.Machine
namespace Obj

/-! ### Keys: 02_object_dictionary.md -/
/-- 0x1000:00 DEVICE_TYPE, Identity objects. -/
abbrev deviceType : Nat := 0x1000 * 256 + 0
/-- 0x1008:00 DEVICE_NAME, Identity objects. -/
abbrev deviceName : Nat := 0x1008 * 256 + 0
/-- 0x1009:00 HW_VERSION, Identity objects. -/
abbrev hwVersion : Nat := 0x1009 * 256 + 0
/-- 0x100A:00 SW_VERSION, Identity objects. -/
abbrev swVersion : Nat := 0x100A * 256 + 0
/-- 0x1018:01 VENDOR_ID, Identity objects. -/
abbrev vendorId : Nat := 0x1018 * 256 + 1
/-- 0x1018:02 PRODUCT_CODE, Identity objects. -/
abbrev productCode : Nat := 0x1018 * 256 + 2
/-- 0x1018:03 REVISION, Identity objects. -/
abbrev revision : Nat := 0x1018 * 256 + 3
/-- 0x1018:04 SERIAL, Identity objects. -/
abbrev serial : Nat := 0x1018 * 256 + 4
/-- 0x1F80:01 RESULT_PCIE, Dictionary access objects. -/
abbrev resultPcie : Nat := 0x1F80 * 256 + 1
/-- 0x1F80:02 RESULT_COE, Dictionary access objects. -/
abbrev resultCoe : Nat := 0x1F80 * 256 + 2
/-- 0x1F80:03 RESULT_YALIND, Dictionary access objects. -/
abbrev resultYalind : Nat := 0x1F80 * 256 + 3
/-- 0x1F80:04 REFUSED_OBJECT, Dictionary access objects. -/
abbrev refusedObject : Nat := 0x1F80 * 256 + 4
/-- 0x1F80:05 REFUSED_COUNT, Dictionary access objects. -/
abbrev refusedCount : Nat := 0x1F80 * 256 + 5
/-- 0x1F81:01 to 0x1F83:01 GROUP_CTRL, Dictionary access objects. -/
abbrev groupCtrl (i : Nat) : Nat := (0x1F81 + i) * 256 + 1
/-- 0x1F81:02 to 0x1F83:02 GROUP_STATE, Dictionary access objects. -/
abbrev wgGroupState (i : Nat) : Nat := (0x1F81 + i) * 256 + 2
/-- 0x1F81:03 to 0x1F83:03 GROUP_COUNT, Dictionary access objects. -/
abbrev groupCount (i : Nat) : Nat := (0x1F81 + i) * 256 + 3
/-- 0x1F81:04 to 0x1F83:04 GROUP_RESULT, Dictionary access objects. -/
abbrev groupResult (i : Nat) : Nat := (0x1F81 + i) * 256 + 4
/-- 0x1F88:01 HOST_MARK, Dictionary access objects. -/
abbrev hostMark : Nat := 0x1F88 * 256 + 1
/-- 0x1F90:01 DT_TARGET, Dictionary access objects. -/
abbrev dtTarget : Nat := 0x1F90 * 256 + 1
/-- 0x1F90:02 DT_HOST_ADDR, Dictionary access objects. -/
abbrev dtHostAddr : Nat := 0x1F90 * 256 + 2
/-- 0x1F90:03 DT_LENGTH, Dictionary access objects. -/
abbrev dtLength : Nat := 0x1F90 * 256 + 3
/-- 0x1F90:04 DT_DIRECTION, Dictionary access objects. -/
abbrev dtDirection : Nat := 0x1F90 * 256 + 4
/-- 0x1F90:05 DT_CTRL, Dictionary access objects. -/
abbrev dtCtrl : Nat := 0x1F90 * 256 + 5
/-- 0x1F90:06 DT_STATUS, Dictionary access objects. -/
abbrev dtStatus : Nat := 0x1F90 * 256 + 6
/-- 0x1F90:07 DT_RESULT, Dictionary access objects. -/
abbrev dtResult : Nat := 0x1F90 * 256 + 7
/-- 0x1F90:08 DT_CRC, Dictionary access objects. -/
abbrev dtCrc : Nat := 0x1F90 * 256 + 8
/-- 0x1F90:09 DT_DONE_LENGTH, Dictionary access objects. -/
abbrev dtDoneLength : Nat := 0x1F90 * 256 + 9
/-- 0x2200:01 HEAD_SEQ, Tally objects. -/
abbrev headSeq : Nat := 0x2200 * 256 + 1
/-- 0x2200:02 TAIL_SEQ, Tally objects. -/
abbrev tailSeq : Nat := 0x2200 * 256 + 2
/-- 0x2200:03 JOURNAL_ID, Tally objects. -/
abbrev journalId : Nat := 0x2200 * 256 + 3
/-- 0x2200:04 WARM_RESETS, Tally objects. -/
abbrev warmResets : Nat := 0x2200 * 256 + 4
/-- 0x2200:05 LAST_MIRROR_SEQ, Tally objects. -/
abbrev lastMirrorSeq : Nat := 0x2200 * 256 + 5
/-- 0x2200:06 OVERWRITTEN, Tally objects. -/
abbrev overwritten : Nat := 0x2200 * 256 + 6
/-- 0x2202:01 READ_FIRST, Tally objects. -/
abbrev readFirst : Nat := 0x2202 * 256 + 1
/-- 0x2202:02 READ_COUNT, Tally objects. -/
abbrev readCount : Nat := 0x2202 * 256 + 2
/-- 0x2202:03 READ_ENTRIES, Tally objects. -/
abbrev readEntries : Nat := 0x2202 * 256 + 3
/-! ### Keys: 03_modes_startup.md -/
/-- 0x2000:01 MODE, Mode and configuration objects. -/
abbrev devMode : Nat := 0x2000 * 256 + 1
/-- 0x2000:02 RUN_CMD, Mode and configuration objects. -/
abbrev runCmd : Nat := 0x2000 * 256 + 2
/-- 0x2000:03 CAL_CMD, Mode and configuration objects. -/
abbrev calCmd : Nat := 0x2000 * 256 + 3
/-- 0x2000:04 RESET_CMD, Mode and configuration objects. -/
abbrev resetCmd : Nat := 0x2000 * 256 + 4
/-- 0x2000:05 CMD_RESULT, Mode and configuration objects. -/
abbrev cmdResult : Nat := 0x2000 * 256 + 5
/-- 0x2000:06 MODE_CAUSE, Mode and configuration objects. -/
abbrev modeCause : Nat := 0x2000 * 256 + 6
/-- 0x2000:07 MODE_FRAME, Mode and configuration objects. -/
abbrev modeFrame : Nat := 0x2000 * 256 + 7
/-- 0x2000:08 MODE_TIME, Mode and configuration objects. -/
abbrev modeTime : Nat := 0x2000 * 256 + 8
/-- 0x2000:09 SAFE_CAUSE, Mode and configuration objects. -/
abbrev safeCause : Nat := 0x2000 * 256 + 9
/-- 0x2001:01 COMMIT, Mode and configuration objects. -/
abbrev commit : Nat := 0x2001 * 256 + 1
/-- 0x2001:02 CONFIG_GEN, Mode and configuration objects. -/
abbrev configGen : Nat := 0x2001 * 256 + 2
/-- 0x2001:03 REFUSAL, Mode and configuration objects. -/
abbrev refusal : Nat := 0x2001 * 256 + 3
/-- 0x2001:04 REFUSAL_DETAIL, Mode and configuration objects. -/
abbrev refusalDetail : Nat := 0x2001 * 256 + 4
/-- 0x2001:05 REFUSAL_MASK, Mode and configuration objects. -/
abbrev refusalMask : Nat := 0x2001 * 256 + 5
/-- 0x2001:06 ALLOW_UNCAL, Mode and configuration objects. -/
abbrev allowUncal : Nat := 0x2001 * 256 + 6
/-- 0x2001:07 AUTO_INSPECT, Mode and configuration objects. -/
abbrev autoInspect : Nat := 0x2001 * 256 + 7
/-- 0x2002:01 LOAD_PROFILE, Mode and configuration objects. -/
abbrev loadProfile : Nat := 0x2002 * 256 + 1
/-- 0x2002:02 PROF_SEL_PINS, Mode and configuration objects. -/
abbrev profSelPins : Nat := 0x2002 * 256 + 2
/-- 0x2002:03 ACTIVE_PROFILE, Mode and configuration objects. -/
abbrev activeProfile : Nat := 0x2002 * 256 + 3
/-- 0x2004:01 IDLE_DELAY, Mode and configuration objects. -/
abbrev idleDelay : Nat := 0x2004 * 256 + 1
/-- 0x2004:02 IDLE_STATE, Mode and configuration objects. -/
abbrev idleState : Nat := 0x2004 * 256 + 2
/-- 0x2010:01 to 0x2013:01 PROFILE_IMAGE, Mode and configuration objects. -/
abbrev profileImage (i : Nat) : Nat := (0x2010 + i) * 256 + 1
/-- 0x2010:02 to 0x2013:02 PROFILE_STATE, Mode and configuration objects. -/
abbrev profileState (i : Nat) : Nat := (0x2010 + i) * 256 + 2
/-- 0x2010:03 to 0x2013:03 PROFILE_DIGEST, Mode and configuration objects. -/
abbrev profileDigest (i : Nat) : Nat := (0x2010 + i) * 256 + 3
/-- 0x2010:04 to 0x2013:04 PROFILE_LENGTH, Mode and configuration objects. -/
abbrev profileLength (i : Nat) : Nat := (0x2010 + i) * 256 + 4
/-- 0x2010:05 to 0x2013:05 PROFILE_ERASE, Mode and configuration objects. -/
abbrev profileErase (i : Nat) : Nat := (0x2010 + i) * 256 + 5
/-! ### Keys: 04_web_position.md -/
/-- 0x8000+i:01 MODE, Position input configuration, input i at 0x8000 + i. -/
abbrev piMode (i : Nat) : Nat := (0x8000 + i) * 256 + 1
/-- 0x8000+i:02 EDGE_FILTER, Position input configuration, input i at 0x8000 + i. -/
abbrev edgeFilter (i : Nat) : Nat := (0x8000 + i) * 256 + 2
/-- 0x8000+i:03 MIN_EDGE, Position input configuration, input i at 0x8000 + i. -/
abbrev minEdge (i : Nat) : Nat := (0x8000 + i) * 256 + 3
/-- 0x8000+i:04 GLITCH, Position input configuration, input i at 0x8000 + i. -/
abbrev glitch (i : Nat) : Nat := (0x8000 + i) * 256 + 4
/-- 0x8000+i:05 DIRECTION, Position input configuration, input i at 0x8000 + i. -/
abbrev direction (i : Nat) : Nat := (0x8000 + i) * 256 + 5
/-- 0x8000+i:06 COUNT, Position input configuration, input i at 0x8000 + i. -/
abbrev count (i : Nat) : Nat := (0x8000 + i) * 256 + 6
/-- 0x8000+i:07 LIMIT_MIN, Position input configuration, input i at 0x8000 + i. -/
abbrev limitMin (i : Nat) : Nat := (0x8000 + i) * 256 + 7
/-- 0x8000+i:08 LIMIT_MAX, Position input configuration, input i at 0x8000 + i. -/
abbrev limitMax (i : Nat) : Nat := (0x8000 + i) * 256 + 8
/-- 0x8000+i:09 Z_GATE, Position input configuration, input i at 0x8000 + i. -/
abbrev zGate (i : Nat) : Nat := (0x8000 + i) * 256 + 9
/-- 0x8000+i:0A SSI_BITS, Position input configuration, input i at 0x8000 + i. -/
abbrev ssiBits (i : Nat) : Nat := (0x8000 + i) * 256 + 10
/-- 0x8000+i:0B SSI_CLOCK, Position input configuration, input i at 0x8000 + i. -/
abbrev ssiClock (i : Nat) : Nat := (0x8000 + i) * 256 + 11
/-- 0x8000+i:0C SSI_CODE, Position input configuration, input i at 0x8000 + i. -/
abbrev ssiCode (i : Nat) : Nat := (0x8000 + i) * 256 + 12
/-- 0x8000+i:0D SSI_PERIOD, Position input configuration, input i at 0x8000 + i. -/
abbrev ssiPeriod (i : Nat) : Nat := (0x8000 + i) * 256 + 13
/-- 0x8000+i:0E SPEED_EDGES, Position input configuration, input i at 0x8000 + i. -/
abbrev speedEdges (i : Nat) : Nat := (0x8000 + i) * 256 + 14
/-- 0x8000+i:0F SPEED_TIMEOUT, Position input configuration, input i at 0x8000 + i. -/
abbrev speedTimeout (i : Nat) : Nat := (0x8000 + i) * 256 + 15
/-- 0x8020+i:01 STATUS, Position input status and index, input i. -/
abbrev status (i : Nat) : Nat := (0x8020 + i) * 256 + 1
/-- 0x8020+i:02 SPEED, Position input status and index, input i. -/
abbrev speed (i : Nat) : Nat := (0x8020 + i) * 256 + 2
/-- 0x8020+i:03 MOTION, Position input status and index, input i. -/
abbrev motion (i : Nat) : Nat := (0x8020 + i) * 256 + 3
/-- 0x8020+i:04 FAULT_COUNT, Position input status and index, input i. -/
abbrev faultCount (i : Nat) : Nat := (0x8020 + i) * 256 + 4
/-- 0x8020+i:05 RAW_STATE, Position input status and index, input i. -/
abbrev rawState (i : Nat) : Nat := (0x8020 + i) * 256 + 5
/-- 0x8040+i:01 INDEX_MODE, Position input status and index, input i. -/
abbrev indexMode (i : Nat) : Nat := (0x8040 + i) * 256 + 1
/-- 0x8040+i:02 INDEX_PERIOD, Position input status and index, input i. -/
abbrev indexPeriod (i : Nat) : Nat := (0x8040 + i) * 256 + 2
/-- 0x8040+i:03 INDEX_REF, Position input status and index, input i. -/
abbrev indexRef (i : Nat) : Nat := (0x8040 + i) * 256 + 3
/-- 0x8040+i:04 INDEX_REF_VALID, Position input status and index, input i. -/
abbrev indexRefValid (i : Nat) : Nat := (0x8040 + i) * 256 + 4
/-- 0x8040+i:05 INDEX_TOL, Position input status and index, input i. -/
abbrev indexTol (i : Nat) : Nat := (0x8040 + i) * 256 + 5
/-- 0x8040+i:06 INDEX_ERR, Position input status and index, input i. -/
abbrev indexErr (i : Nat) : Nat := (0x8040 + i) * 256 + 6
/-- 0x8040+i:07 INDEX_AT, Position input status and index, input i. -/
abbrev indexAt (i : Nat) : Nat := (0x8040 + i) * 256 + 7
/-- 0x8040+i:08 SLIP_COUNT, Position input status and index, input i. -/
abbrev slipCount (i : Nat) : Nat := (0x8040 + i) * 256 + 8
/-- 0x8100:01 WEB_SOURCE, Web axis and trigger objects. -/
abbrev webSource : Nat := 0x8100 * 256 + 1
/-- 0x8100:02 SCALE_NUM, Web axis and trigger objects. -/
abbrev scaleNum : Nat := 0x8100 * 256 + 2
/-- 0x8100:03 SCALE_DEN, Web axis and trigger objects. -/
abbrev scaleDen : Nat := 0x8100 * 256 + 3
/-- 0x8100:04 MAX_LINE_RATE, Web axis and trigger objects. -/
abbrev maxLineRate : Nat := 0x8100 * 256 + 4
/-- 0x8100:05 FRAME_LENGTH, Web axis and trigger objects. -/
abbrev frameLength : Nat := 0x8100 * 256 + 5
/-- 0x8100:06 FREE_SPEED, Web axis and trigger objects. -/
abbrev freeSpeed : Nat := 0x8100 * 256 + 6
/-- 0x8100:07 LAG_TOL, Web axis and trigger objects. -/
abbrev lagTol : Nat := 0x8100 * 256 + 7
/-- 0x8101:01 POSITION, Web axis and trigger objects. -/
abbrev position : Nat := 0x8101 * 256 + 1
/-- 0x8101:02 TRIGGER_INDEX, Web axis and trigger objects. -/
abbrev triggerIndex : Nat := 0x8101 * 256 + 2
/-- 0x8101:03 FRAME, Web axis and trigger objects. -/
abbrev frame : Nat := 0x8101 * 256 + 3
/-- 0x8101:04 LINE_RATE, Web axis and trigger objects. -/
abbrev lineRate : Nat := 0x8101 * 256 + 4
/-- 0x8101:05 LAG, Web axis and trigger objects. -/
abbrev lag : Nat := 0x8101 * 256 + 5
/-- 0x8101:06 WEB_STATUS, Web axis and trigger objects. -/
abbrev webStatus : Nat := 0x8101 * 256 + 6
/-- 0x8101:07 LAG_LINES, Web axis and trigger objects. -/
abbrev lagLines : Nat := 0x8101 * 256 + 7
/-- 0x8101:08 TRIGGER_HWM, Web axis and trigger objects. -/
abbrev triggerHwm : Nat := 0x8101 * 256 + 8
/-! ### Keys: 05_camera_lanes.md -/
/-- 0x3400+8l:01 RATE, Lane configuration and alignment, lane l. -/
abbrev rateObj (i : Nat) : Nat := (0x3400 + 0x8 * i) * 256 + 1
/-- 0x3400+8l:02 RX_INVERT, Lane configuration and alignment, lane l. -/
abbrev rxInvert (i : Nat) : Nat := (0x3400 + 0x8 * i) * 256 + 2
/-- 0x3400+8l:03 TX_INVERT, Lane configuration and alignment, lane l. -/
abbrev txInvert (i : Nat) : Nat := (0x3400 + 0x8 * i) * 256 + 3
/-- 0x3400+8l:04 TX_AMPLITUDE, Lane configuration and alignment, lane l. -/
abbrev txAmplitude (i : Nat) : Nat := (0x3400 + 0x8 * i) * 256 + 4
/-- 0x3400+8l:05 TX_PRE, Lane configuration and alignment, lane l. -/
abbrev txPre (i : Nat) : Nat := (0x3400 + 0x8 * i) * 256 + 5
/-- 0x3400+8l:06 TX_POST, Lane configuration and alignment, lane l. -/
abbrev txPost (i : Nat) : Nat := (0x3400 + 0x8 * i) * 256 + 6
/-- 0x3400+8l:07 RX_EQ_MODE, Lane configuration and alignment, lane l. -/
abbrev rxEqMode (i : Nat) : Nat := (0x3400 + 0x8 * i) * 256 + 7
/-- 0x3400+8l:08 RX_CTLE, Lane configuration and alignment, lane l. -/
abbrev rxCtle (i : Nat) : Nat := (0x3400 + 0x8 * i) * 256 + 8
/-- 0x3400+8l:09 ALIGN_MODE, Lane configuration and alignment, lane l. -/
abbrev alignMode (i : Nat) : Nat := (0x3400 + 0x8 * i) * 256 + 9
/-- 0x3401+8l:01 BITSLIP, Lane configuration and alignment, lane l. -/
abbrev bitslip (i : Nat) : Nat := (0x3401 + 0x8 * i) * 256 + 1
/-- 0x3401+8l:02 SLIP_POS, Lane configuration and alignment, lane l. -/
abbrev slipPos (i : Nat) : Nat := (0x3401 + 0x8 * i) * 256 + 2
/-- 0x3401+8l:03 DESKEW_TAP, Lane configuration and alignment, lane l. -/
abbrev deskewTap (i : Nat) : Nat := (0x3401 + 0x8 * i) * 256 + 3
/-- 0x3401+8l:04 MARKER_LEAD, Lane configuration and alignment, lane l. -/
abbrev markerLead (i : Nat) : Nat := (0x3401 + 0x8 * i) * 256 + 4
/-- 0x3401+8l:05 LANE_ID, Lane configuration and alignment, lane l. -/
abbrev laneId (i : Nat) : Nat := (0x3401 + 0x8 * i) * 256 + 5
/-- 0x3402+8l:01 STATE, Lane status, command and pattern, lane l. -/
abbrev state (i : Nat) : Nat := (0x3402 + 0x8 * i) * 256 + 1
/-- 0x3402+8l:02 FLAGS, Lane status, command and pattern, lane l. -/
abbrev flags (i : Nat) : Nat := (0x3402 + 0x8 * i) * 256 + 2
/-- 0x3402+8l:03 LOCK_LOSS, Lane status, command and pattern, lane l. -/
abbrev lockLoss (i : Nat) : Nat := (0x3402 + 0x8 * i) * 256 + 3
/-- 0x3402+8l:04 SH_ERR, Lane status, command and pattern, lane l. -/
abbrev shErr (i : Nat) : Nat := (0x3402 + 0x8 * i) * 256 + 4
/-- 0x3402+8l:05 BIP_ERR, Lane status, command and pattern, lane l. -/
abbrev bipErr (i : Nat) : Nat := (0x3402 + 0x8 * i) * 256 + 5
/-- 0x3402+8l:06 CODE_ERR, Lane status, command and pattern, lane l. -/
abbrev codeErr (i : Nat) : Nat := (0x3402 + 0x8 * i) * 256 + 6
/-- 0x3403+8l:01 LANE_CMD, Lane status, command and pattern, lane l. -/
abbrev laneCmd (i : Nat) : Nat := (0x3403 + 0x8 * i) * 256 + 1
/-- 0x3403+8l:02 CMD_STATE, Lane status, command and pattern, lane l. -/
abbrev cmdState (i : Nat) : Nat := (0x3403 + 0x8 * i) * 256 + 2
/-- 0x3404+8l:01 PRBS_SEL, Lane status, command and pattern, lane l. -/
abbrev prbsSel (i : Nat) : Nat := (0x3404 + 0x8 * i) * 256 + 1
/-- 0x3404+8l:02 PRBS_LOCK, Lane status, command and pattern, lane l. -/
abbrev prbsLock (i : Nat) : Nat := (0x3404 + 0x8 * i) * 256 + 2
/-- 0x3404+8l:03 PRBS_BITS, Lane status, command and pattern, lane l. -/
abbrev prbsBits (i : Nat) : Nat := (0x3404 + 0x8 * i) * 256 + 3
/-- 0x3404+8l:04 PRBS_ERRORS, Lane status, command and pattern, lane l. -/
abbrev prbsErrors (i : Nat) : Nat := (0x3404 + 0x8 * i) * 256 + 4
/-- 0xC000+l:01 EYE_CTRL, Eye scan, lane l at 0xC000 + l. -/
abbrev eyeCtrl (i : Nat) : Nat := (0xC000 + i) * 256 + 1
/-- 0xC000+l:02 EYE_VOFF, Eye scan, lane l at 0xC000 + l. -/
abbrev eyeVoff (i : Nat) : Nat := (0xC000 + i) * 256 + 2
/-- 0xC000+l:03 EYE_PHASE, Eye scan, lane l at 0xC000 + l. -/
abbrev eyePhase (i : Nat) : Nat := (0xC000 + i) * 256 + 3
/-- 0xC000+l:04 EYE_DWELL, Eye scan, lane l at 0xC000 + l. -/
abbrev eyeDwell (i : Nat) : Nat := (0xC000 + i) * 256 + 4
/-- 0xC000+l:05 EYE_STATUS, Eye scan, lane l at 0xC000 + l. -/
abbrev eyeStatus (i : Nat) : Nat := (0xC000 + i) * 256 + 5
/-- 0xC000+l:06 EYE_BITS, Eye scan, lane l at 0xC000 + l. -/
abbrev eyeBits (i : Nat) : Nat := (0xC000 + i) * 256 + 6
/-- 0xC000+l:07 EYE_ERRORS, Eye scan, lane l at 0xC000 + l. -/
abbrev eyeErrors (i : Nat) : Nat := (0xC000 + i) * 256 + 7
/-- 0xC000+l:08 EYE_MAP, Eye scan, lane l at 0xC000 + l. -/
abbrev eyeMap (i : Nat) : Nat := (0xC000 + i) * 256 + 8
/-- 0xC000+l:09 EYE_POINTS, Eye scan, lane l at 0xC000 + l. -/
abbrev eyePoints (i : Nat) : Nat := (0xC000 + i) * 256 + 9
/-! ### Keys: 06_camera_ports.md -/
/-- 0x3000+0x20p:01 ENABLE, Port configuration, port p. -/
abbrev portEnable (i : Nat) : Nat := (0x3000 + 0x20 * i) * 256 + 1
/-- 0x3000+0x20p:02 PROTOCOL, Port configuration, port p. -/
abbrev protocol (i : Nat) : Nat := (0x3000 + 0x20 * i) * 256 + 2
/-- 0x3000+0x20p:03 LANES, Port configuration, port p. -/
abbrev lanes (i : Nat) : Nat := (0x3000 + 0x20 * i) * 256 + 3
/-- 0x3000+0x20p:04 DEPTH, Port configuration, port p. -/
abbrev portDepth (i : Nat) : Nat := (0x3000 + 0x20 * i) * 256 + 4
/-- 0x3000+0x20p:05 TAG_COUNT, Port configuration, port p. -/
abbrev tagCount (i : Nat) : Nat := (0x3000 + 0x20 * i) * 256 + 5
/-- 0x3000+0x20p:06 FIELD_MODE, Port configuration, port p. -/
abbrev fieldMode (i : Nat) : Nat := (0x3000 + 0x20 * i) * 256 + 6
/-- 0x3000+0x20p:07 FIELD_COUNT, Port configuration, port p. -/
abbrev fieldCount (i : Nat) : Nat := (0x3000 + 0x20 * i) * 256 + 7
/-- 0x3000+0x20p:08 FIELD_PHASE, Port configuration, port p. -/
abbrev fieldPhase (i : Nat) : Nat := (0x3000 + 0x20 * i) * 256 + 8
/-- 0x3000+0x20p:09 FILL, Port configuration, port p. -/
abbrev fill (i : Nat) : Nat := (0x3000 + 0x20 * i) * 256 + 9
/-- 0x3000+0x20p:0A LINE_TIMEOUT, Port configuration, port p. -/
abbrev lineTimeout (i : Nat) : Nat := (0x3000 + 0x20 * i) * 256 + 10
/-- 0x3000+0x20p:0B LOST_FRAMES, Port configuration, port p. -/
abbrev lostFrames (i : Nat) : Nat := (0x3000 + 0x20 * i) * 256 + 11
/-- 0x3000+0x20p:0C IDENT_CHECK, Port configuration, port p. -/
abbrev identCheck (i : Nat) : Nat := (0x3000 + 0x20 * i) * 256 + 12
/-- 0x3000+0x20p:0D EXPECT_MODEL, Port configuration, port p. -/
abbrev expectModel (i : Nat) : Nat := (0x3000 + 0x20 * i) * 256 + 13
/-- 0x3001+0x20p:01 to :08 TAG_PIXELS, Port configuration, port p. -/
abbrev tagPixels (i : Nat) (j : Nat) : Nat := (0x3001 + 0x20 * i) * 256 + 1 + j
/-- 0x3002+0x20p:01 PORT_STATE, Port status and counters, port p. -/
abbrev portState (i : Nat) : Nat := (0x3002 + 0x20 * i) * 256 + 1
/-- 0x3002+0x20p:02 PORT_FLAGS, Port status and counters, port p. -/
abbrev portFlags (i : Nat) : Nat := (0x3002 + 0x20 * i) * 256 + 2
/-- 0x3002+0x20p:03 LINES_OK, Port status and counters, port p. -/
abbrev linesOk (i : Nat) : Nat := (0x3002 + 0x20 * i) * 256 + 3
/-- 0x3002+0x20p:04 SHORT_LINE, Port status and counters, port p. -/
abbrev shortLine (i : Nat) : Nat := (0x3002 + 0x20 * i) * 256 + 4
/-- 0x3002+0x20p:05 LONG_LINE, Port status and counters, port p. -/
abbrev longLine (i : Nat) : Nat := (0x3002 + 0x20 * i) * 256 + 5
/-- 0x3002+0x20p:06 MISSING_LINE, Port status and counters, port p. -/
abbrev missingLine (i : Nat) : Nat := (0x3002 + 0x20 * i) * 256 + 6
/-- 0x3002+0x20p:07 SURPLUS_LINE, Port status and counters, port p. -/
abbrev surplusLine (i : Nat) : Nat := (0x3002 + 0x20 * i) * 256 + 7
/-- 0x3002+0x20p:08 CRC_ERR, Port status and counters, port p. -/
abbrev crcErr (i : Nat) : Nat := (0x3002 + 0x20 * i) * 256 + 8
/-- 0x3002+0x20p:09 ECHO_ERR, Port status and counters, port p. -/
abbrev echoErr (i : Nat) : Nat := (0x3002 + 0x20 * i) * 256 + 9
/-- 0x3002+0x20p:0A FORMAT_ERR, Port status and counters, port p. -/
abbrev formatErr (i : Nat) : Nat := (0x3002 + 0x20 * i) * 256 + 10
/-- 0x3002+0x20p:0B FIFO_PEAK, Port status and counters, port p. -/
abbrev fifoPeak (i : Nat) : Nat := (0x3002 + 0x20 * i) * 256 + 11
/-- 0x3002+0x20p:0C LAST_WEB_LINE, Port status and counters, port p. -/
abbrev lastWebLine (i : Nat) : Nat := (0x3002 + 0x20 * i) * 256 + 12
/-- 0x3002+0x20p:0D FOUND_MODEL, Port status and counters, port p. -/
abbrev foundModel (i : Nat) : Nat := (0x3002 + 0x20 * i) * 256 + 13
/-- 0x3002+0x20p:0E FOUND_SERIAL, Port status and counters, port p. -/
abbrev foundSerial (i : Nat) : Nat := (0x3002 + 0x20 * i) * 256 + 14
/-- 0x3002+0x20p:0F CXP_TRIG_LATENCY, Port status and counters, port p. -/
abbrev cxpTrigLatency (i : Nat) : Nat := (0x3002 + 0x20 * i) * 256 + 15
/-- 0x3003+0x20p:01 REG_ADDR, Pass-through and service, port p. -/
abbrev regAddr (i : Nat) : Nat := (0x3003 + 0x20 * i) * 256 + 1
/-- 0x3003+0x20p:02 REG_LENGTH, Pass-through and service, port p. -/
abbrev regLength (i : Nat) : Nat := (0x3003 + 0x20 * i) * 256 + 2
/-- 0x3003+0x20p:03 REG_DATA, Pass-through and service, port p. -/
abbrev regData (i : Nat) : Nat := (0x3003 + 0x20 * i) * 256 + 3
/-- 0x3003+0x20p:04 REG_CMD, Pass-through and service, port p. -/
abbrev regCmd (i : Nat) : Nat := (0x3003 + 0x20 * i) * 256 + 4
/-- 0x3003+0x20p:05 REG_STATUS, Pass-through and service, port p. -/
abbrev regStatus (i : Nat) : Nat := (0x3003 + 0x20 * i) * 256 + 5
/-- 0x3003+0x20p:06 REG_RESULT, Pass-through and service, port p. -/
abbrev regResult (i : Nat) : Nat := (0x3003 + 0x20 * i) * 256 + 6
/-- 0x3004+0x20p:01 PORT_CMD, Pass-through and service, port p. -/
abbrev portCmd (i : Nat) : Nat := (0x3004 + 0x20 * i) * 256 + 1
/-- 0x3004+0x20p:02 PORT_CMD_STATE, Pass-through and service, port p. -/
abbrev portCmdState (i : Nat) : Nat := (0x3004 + 0x20 * i) * 256 + 2
/-- 0x3004+0x20p:03 SERVICE_IMAGE, Pass-through and service, port p. -/
abbrev serviceImage (i : Nat) : Nat := (0x3004 + 0x20 * i) * 256 + 3
/-! ### Keys: 07_fuller_line_correction.md -/
/-- 0x4000+8p:01 OUT_DEPTH, Fuller objects, port p. -/
abbrev outDepth (i : Nat) : Nat := (0x4000 + 0x8 * i) * 256 + 1
/-- 0x4000+8p:02 CORR_BYPASS, Fuller objects, port p. -/
abbrev corrBypass (i : Nat) : Nat := (0x4000 + 0x8 * i) * 256 + 2
/-- 0x4000+8p:03 ACTIVE_GEN, Fuller objects, port p. -/
abbrev activeGen (i : Nat) : Nat := (0x4000 + 0x8 * i) * 256 + 3
/-- 0x4000+8p:04 PENDING_GEN, Fuller objects, port p. -/
abbrev pendingGen (i : Nat) : Nat := (0x4000 + 0x8 * i) * 256 + 4
/-- 0x4000+8p:05 SWITCH_FRAME, Fuller objects, port p. -/
abbrev switchFrame (i : Nat) : Nat := (0x4000 + 0x8 * i) * 256 + 5
/-- 0x4000+8p:06 CLIP_HIGH, Fuller objects, port p. -/
abbrev clipHigh (i : Nat) : Nat := (0x4000 + 0x8 * i) * 256 + 6
/-- 0x4000+8p:07 DEAD_PIXELS, Fuller objects, port p. -/
abbrev deadPixels (i : Nat) : Nat := (0x4000 + 0x8 * i) * 256 + 7
/-- 0x4000+8p:08 STORE_CORR, Fuller objects, port p. -/
abbrev storeCorr (i : Nat) : Nat := (0x4000 + 0x8 * i) * 256 + 8
/-- 0x4000+8p:09 STORE_UNCORR, Fuller objects, port p. -/
abbrev storeUncorr (i : Nat) : Nat := (0x4000 + 0x8 * i) * 256 + 9
/-- 0x4001+8p:01 to :40 LUT_SEL, Fuller objects, port p. -/
abbrev lutSel (i : Nat) (j : Nat) : Nat := (0x4001 + 0x8 * i) * 256 + 1 + j
/-- 0x4002+8p:01 to :08 DGAIN, Fuller objects, port p. -/
abbrev dgain (i : Nat) (j : Nat) : Nat := (0x4002 + 0x8 * i) * 256 + 1 + j
/-- 0x4100+0x40d+n:01 LUT_TABLE, Fuller objects, die d. -/
abbrev lutTable (i : Nat) : Nat := (0x4100 + i) * 256 + 1
/-- 0x4200+d:01 STORE_USED, Fuller objects, die d. -/
abbrev storeUsed (i : Nat) : Nat := (0x4200 + i) * 256 + 1
/-- 0x4200+d:02 STALL_CLOCKS, Fuller objects, die d. -/
abbrev dieStallClocks (i : Nat) : Nat := (0x4200 + i) * 256 + 2
/-- 0x4200+d:03 OUT_BUF_PEAK, Fuller objects, die d. -/
abbrev outBufPeak (i : Nat) : Nat := (0x4200 + i) * 256 + 3
/-- 0x4200+d:04 PIPE_LOAD, Fuller objects, die d. -/
abbrev pipeLoad (i : Nat) : Nat := (0x4200 + i) * 256 + 4
/-! ### Keys: 08_calibration.md -/
/-- 0x4800:01 CAL_COMMIT, Calibration objects, package. -/
abbrev calCommit : Nat := 0x4800 * 256 + 1
/-- 0x4800:02 CAL_PORT_MASK, Calibration objects, package. -/
abbrev calPortMask : Nat := 0x4800 * 256 + 2
/-- 0x4800:03 CAL_TRIG_SOURCE, Calibration objects, package. -/
abbrev calTrigSource : Nat := 0x4800 * 256 + 3
/-- 0x4800:04 CAL_LINE_RATE, Calibration objects, package. -/
abbrev calLineRate : Nat := 0x4800 * 256 + 4
/-- 0x4800:05 CAL_CONFIRM, Calibration objects, package. -/
abbrev calConfirm : Nat := 0x4800 * 256 + 5
/-- 0x4800:06 REF_TIMEOUT, Calibration objects, package. -/
abbrev refTimeout : Nat := 0x4800 * 256 + 6
/-- 0x4800:07 CAL_STATE, Calibration objects, package. -/
abbrev calState : Nat := 0x4800 * 256 + 7
/-- 0x4800:08 NEXT_GEN, Calibration objects, package. -/
abbrev nextGen : Nat := 0x4800 * 256 + 8
/-- 0x4801:01 TRAV_AXIS, Calibration objects, package. -/
abbrev travAxis : Nat := 0x4801 * 256 + 1
/-- 0x4801:02 TRAV_PARK, Calibration objects, package. -/
abbrev travPark : Nat := 0x4801 * 256 + 2
/-- 0x4801:03 TRAV_START, Calibration objects, package. -/
abbrev travStart : Nat := 0x4801 * 256 + 3
/-- 0x4801:04 TRAV_STEP, Calibration objects, package. -/
abbrev travStep : Nat := 0x4801 * 256 + 4
/-- 0x4801:05 TRAV_STOPS, Calibration objects, package. -/
abbrev travStops : Nat := 0x4801 * 256 + 5
/-- 0x4801:06 SETTLE_LINES, Calibration objects, package. -/
abbrev settleLines : Nat := 0x4801 * 256 + 6
/-- 0x4810+p:01 PCAL_CMD, Calibration objects, port p. -/
abbrev pcalCmd (i : Nat) : Nat := (0x4810 + i) * 256 + 1
/-- 0x4810+p:02 WORK_CMD, Calibration objects, port p. -/
abbrev workCmd (i : Nat) : Nat := (0x4810 + i) * 256 + 2
/-- 0x4810+p:03 ACC_LINES, Calibration objects, port p. -/
abbrev accLines (i : Nat) : Nat := (0x4810 + i) * 256 + 3
/-- 0x4810+p:04 PEDESTAL, Calibration objects, port p. -/
abbrev pedestal (i : Nat) : Nat := (0x4810 + i) * 256 + 4
/-- 0x4810+p:05 FLAT_TARGET, Calibration objects, port p. -/
abbrev flatTarget (i : Nat) : Nat := (0x4810 + i) * 256 + 5
/-- 0x4810+p:06 HOT_LIMIT, Calibration objects, port p. -/
abbrev hotLimit (i : Nat) : Nat := (0x4810 + i) * 256 + 6
/-- 0x4810+p:07 DEFECT_DEV, Calibration objects, port p. -/
abbrev defectDev (i : Nat) : Nat := (0x4810 + i) * 256 + 7
/-- 0x4810+p:08 DARK_MAX, Calibration objects, port p. -/
abbrev darkMax (i : Nat) : Nat := (0x4810 + i) * 256 + 8
/-- 0x4810+p:09 FLAT_MIN, Calibration objects, port p. -/
abbrev flatMin (i : Nat) : Nat := (0x4810 + i) * 256 + 9
/-- 0x4810+p:0A PCAL_STATE, Calibration objects, port p. -/
abbrev pcalState (i : Nat) : Nat := (0x4810 + i) * 256 + 10
/-- 0x4810+p:0B CAL_RESULT, Calibration objects, port p. -/
abbrev calResult (i : Nat) : Nat := (0x4810 + i) * 256 + 11
/-- 0x4810+p:0C WORK_STATE, Calibration objects, port p. -/
abbrev workState (i : Nat) : Nat := (0x4810 + i) * 256 + 12
/-- 0x4810+p:0D CAL_FIRST_FRAME, Calibration objects, port p. -/
abbrev calFirstFrame (i : Nat) : Nat := (0x4810 + i) * 256 + 13
/-- 0x4810+p:0E CAL_LAST_FRAME, Calibration objects, port p. -/
abbrev calLastFrame (i : Nat) : Nat := (0x4810 + i) * 256 + 14
/-- 0x4810+p:0F FOUND_PIXELS, Calibration objects, port p. -/
abbrev foundPixels (i : Nat) : Nat := (0x4810 + i) * 256 + 15
/-- 0x4810+p:10 SKIPPED_LINES, Calibration objects, port p. -/
abbrev skippedLines (i : Nat) : Nat := (0x4810 + i) * 256 + 16
/-- 0x4810+p:11 PCAL_CONFIRM, Calibration objects, port p. -/
abbrev pcalConfirm (i : Nat) : Nat := (0x4810 + i) * 256 + 17
/-- 0x4830+p:01 PIN_MAP, Calibration objects, port p. -/
abbrev pinMap (i : Nat) : Nat := (0x4830 + i) * 256 + 1
/-- 0x4830+p:02 CAL_EXPORT, Calibration objects, port p. -/
abbrev calExport (i : Nat) : Nat := (0x4830 + i) * 256 + 2
/-- 0x4830+p:03 WORK_EXPORT, Calibration objects, port p. -/
abbrev workExport (i : Nat) : Nat := (0x4830 + i) * 256 + 3
/-- 0x4830+p:04 CAL_IMPORT, Calibration objects, port p. -/
abbrev calImport (i : Nat) : Nat := (0x4830 + i) * 256 + 4
/-- 0x4830+p:05 ACTIVE_FLAGS, Calibration objects, port p. -/
abbrev activeFlags (i : Nat) : Nat := (0x4830 + i) * 256 + 5
/-- 0x4880:01 GRID_CD_PITCH, Geometry objects. -/
abbrev gridCdPitch : Nat := 0x4880 * 256 + 1
/-- 0x4880:02 GRID_MD_PITCH, Geometry objects. -/
abbrev gridMdPitch : Nat := 0x4880 * 256 + 2
/-- 0x4880:03 DOT_DIAMETER, Geometry objects. -/
abbrev dotDiameter : Nat := 0x4880 * 256 + 3
/-- 0x4880:04 DOT_POLARITY, Geometry objects. -/
abbrev dotPolarity : Nat := 0x4880 * 256 + 4
/-- 0x4880:05 GEOM_FIELD, Geometry objects. -/
abbrev geomField : Nat := 0x4880 * 256 + 5
/-- 0x4880:06 GEOM_DEGREE, Geometry objects. -/
abbrev geomDegree : Nat := 0x4880 * 256 + 6
/-- 0x4880:07 GEOM_ROWS, Geometry objects. -/
abbrev geomRows : Nat := 0x4880 * 256 + 7
/-- 0x4880:08 GEOM_TOL, Geometry objects. -/
abbrev geomTol : Nat := 0x4880 * 256 + 8
/-- 0x4880:09 GRID_ORIGIN_CD, Geometry objects. -/
abbrev gridOriginCd : Nat := 0x4880 * 256 + 9
/-- 0x4880:0A GEOM_RMS, Geometry objects. -/
abbrev geomRms : Nat := 0x4880 * 256 + 10
/-- 0x4880:0B GEOM_MAX, Geometry objects. -/
abbrev geomMax : Nat := 0x4880 * 256 + 11
/-- 0x4880:0C GEOM_RESULT, Geometry objects. -/
abbrev geomResult : Nat := 0x4880 * 256 + 12
/-- 0x4880:0D GEOM_WORST_PORT, Geometry objects. -/
abbrev geomWorstPort : Nat := 0x4880 * 256 + 13
/-- 0x4880:0E GEOM_EXPORT, Geometry objects. -/
abbrev geomExport : Nat := 0x4880 * 256 + 14
/-- 0x4880:0F GEOM_IMPORT, Geometry objects. -/
abbrev geomImport : Nat := 0x4880 * 256 + 15
/-! ### Keys: 09_loom_stitching.md -/
/-- 0x5000:01 PLANE_WIDTH, Loom and web plane, package. -/
abbrev planeWidth : Nat := 0x5000 * 256 + 1
/-- 0x5000:02 CD_PITCH, Loom and web plane, package. -/
abbrev cdPitch : Nat := 0x5000 * 256 + 2
/-- 0x5000:03 MD_PITCH, Loom and web plane, package. -/
abbrev mdPitch : Nat := 0x5000 * 256 + 3
/-- 0x5000:04 GROUP_BASE, Loom and web plane, package. -/
abbrev groupBase : Nat := 0x5000 * 256 + 4
/-- 0x5000:05 MAX_GAP, Loom and web plane, package. -/
abbrev maxGap : Nat := 0x5000 * 256 + 5
/-- 0x5000:06 KERNEL_SEL, Loom and web plane, package. -/
abbrev kernelSel : Nat := 0x5000 * 256 + 6
/-- 0x5000:07 KERNEL_TABLE, Loom and web plane, package. -/
abbrev kernelTable : Nat := 0x5000 * 256 + 7
/-- 0x5000:08 GEOM_GEN, Loom and web plane, package. -/
abbrev geomGen : Nat := 0x5000 * 256 + 8
/-- 0x5000:09 SENSORS, Loom and web plane, package. -/
abbrev sensors : Nat := 0x5000 * 256 + 9
/-- 0x5000:0A SEAMS, Loom and web plane, package. -/
abbrev seams : Nat := 0x5000 * 256 + 10
/-- 0x5000:0B HALO_TIMEOUT, Loom and web plane, package. -/
abbrev haloTimeout : Nat := 0x5000 * 256 + 11
/-- 0x5001:01 SWEEP_LINE, Loom and web plane, package. -/
abbrev sweepLine : Nat := 0x5001 * 256 + 1
/-- 0x5001:02 SWEEP_LAG, Loom and web plane, package. -/
abbrev sweepLag : Nat := 0x5001 * 256 + 2
/-- 0x5001:03 LOOM_FLAGS, Loom and web plane, package. -/
abbrev loomFlags : Nat := 0x5001 * 256 + 3
/-- 0x5001:04 HALO_LATE_COUNT, Loom and web plane, package. -/
abbrev haloLateCount : Nat := 0x5001 * 256 + 4
/-- 0x5001:05 COVERAGE_RUNS, Loom and web plane, package. -/
abbrev coverageRuns : Nat := 0x5001 * 256 + 5
/-- 0x5001:06 MAP_CORR, Loom and web plane, package. -/
abbrev mapCorr : Nat := 0x5001 * 256 + 6
/-- 0x5001:07 MAP_UNCORR, Loom and web plane, package. -/
abbrev mapUncorr : Nat := 0x5001 * 256 + 7
/-- 0x5001:08 COLUMN_MAP, Loom and web plane, package. -/
abbrev columnMap : Nat := 0x5001 * 256 + 8
/-- 0x5100+s:01 STAGGER, Sensor status, sensor s at 0x5100 + s. -/
abbrev stagger (i : Nat) : Nat := (0x5100 + i) * 256 + 1
/-- 0x5100+s:02 MD_FRAC, Sensor status, sensor s at 0x5100 + s. -/
abbrev mdFrac (i : Nat) : Nat := (0x5100 + i) * 256 + 2
/-- 0x5100+s:03 FIRST_COLUMN, Sensor status, sensor s at 0x5100 + s. -/
abbrev firstColumn (i : Nat) : Nat := (0x5100 + i) * 256 + 3
/-- 0x5100+s:04 LAST_COLUMN, Sensor status, sensor s at 0x5100 + s. -/
abbrev lastColumn (i : Nat) : Nat := (0x5100 + i) * 256 + 4
/-- 0x5100+s:05 SENSOR_STATE, Sensor status, sensor s at 0x5100 + s. -/
abbrev sensorState (i : Nat) : Nat := (0x5100 + i) * 256 + 5
/-- 0x5200+j:01 SEAM_MODE, Seam settings, seam j at 0x5200 + j. -/
abbrev seamMode (i : Nat) : Nat := (0x5200 + i) * 256 + 1
/-- 0x5200+j:02 SEAM_CUT_SHIFT, Seam settings, seam j at 0x5200 + j. -/
abbrev seamCutShift (i : Nat) : Nat := (0x5200 + i) * 256 + 2
/-- 0x5200+j:03 SEAM_BLEND, Seam settings, seam j at 0x5200 + j. -/
abbrev seamBlend (i : Nat) : Nat := (0x5200 + i) * 256 + 3
/-- 0x5200+j:04 SEAM_LEFT, Seam settings, seam j at 0x5200 + j. -/
abbrev seamLeft (i : Nat) : Nat := (0x5200 + i) * 256 + 4
/-- 0x5200+j:05 SEAM_RIGHT, Seam settings, seam j at 0x5200 + j. -/
abbrev seamRight (i : Nat) : Nat := (0x5200 + i) * 256 + 5
/-- 0x5200+j:06 OVERLAP_FIRST, Seam settings, seam j at 0x5200 + j. -/
abbrev overlapFirst (i : Nat) : Nat := (0x5200 + i) * 256 + 6
/-- 0x5200+j:07 OVERLAP_LAST, Seam settings, seam j at 0x5200 + j. -/
abbrev overlapLast (i : Nat) : Nat := (0x5200 + i) * 256 + 7
/-- 0x5200+j:08 SEAM_CUT, Seam settings, seam j at 0x5200 + j. -/
abbrev seamCut (i : Nat) : Nat := (0x5200 + i) * 256 + 8
/-- 0x5200+j:09 SEAM_KIND, Seam settings, seam j at 0x5200 + j. -/
abbrev seamKind (i : Nat) : Nat := (0x5200 + i) * 256 + 9
/-! ### Keys: 10_segmentation.md -/
/-- 0x6000:01 SEG_FIELDS, Segmentation, package. -/
abbrev segFields : Nat := 0x6000 * 256 + 1
/-- 0x6000:02 CONNECTIVITY, Segmentation, package. -/
abbrev connectivity : Nat := 0x6000 * 256 + 2
/-- 0x6000:03 CLOSE_GAP, Segmentation, package. -/
abbrev closeGap : Nat := 0x6000 * 256 + 3
/-- 0x6000:04 SYS_MERGE_TIMEOUT, Segmentation, package. -/
abbrev sysMergeTimeout : Nat := 0x6000 * 256 + 4
/-- 0x6010+f:01 BG_MODE, Segmentation recipe, field f at 0x6010 + f. -/
abbrev bgMode (i : Nat) : Nat := (0x6010 + i) * 256 + 1
/-- 0x6010+f:02 BG_LEVEL, Segmentation recipe, field f at 0x6010 + f. -/
abbrev bgLevel (i : Nat) : Nat := (0x6010 + i) * 256 + 2
/-- 0x6010+f:03 BG_CD_WIDTH, Segmentation recipe, field f at 0x6010 + f. -/
abbrev bgCdWidth (i : Nat) : Nat := (0x6010 + i) * 256 + 3
/-- 0x6010+f:04 POLARITY, Segmentation recipe, field f at 0x6010 + f. -/
abbrev sgPolarity (i : Nat) : Nat := (0x6010 + i) * 256 + 4
/-- 0x6010+f:05 T_LOW_ABS, Segmentation recipe, field f at 0x6010 + f. -/
abbrev tLowAbs (i : Nat) : Nat := (0x6010 + i) * 256 + 5
/-- 0x6010+f:06 T_LOW_REL, Segmentation recipe, field f at 0x6010 + f. -/
abbrev tLowRel (i : Nat) : Nat := (0x6010 + i) * 256 + 6
/-- 0x6010+f:07 T_HIGH_ABS, Segmentation recipe, field f at 0x6010 + f. -/
abbrev tHighAbs (i : Nat) : Nat := (0x6010 + i) * 256 + 7
/-- 0x6010+f:08 T_HIGH_REL, Segmentation recipe, field f at 0x6010 + f. -/
abbrev tHighRel (i : Nat) : Nat := (0x6010 + i) * 256 + 8
/-- 0x6010+f:09 SMOOTH, Segmentation recipe, field f at 0x6010 + f. -/
abbrev smooth (i : Nat) : Nat := (0x6010 + i) * 256 + 9
/-- 0x6010+f:0A RUN_GAP, Segmentation recipe, field f at 0x6010 + f. -/
abbrev runGap (i : Nat) : Nat := (0x6010 + i) * 256 + 10
/-- 0x6010+f:0B RUN_MIN, Segmentation recipe, field f at 0x6010 + f. -/
abbrev runMin (i : Nat) : Nat := (0x6010 + i) * 256 + 11
/-- 0x6010+f:0C MIN_AREA, Segmentation recipe, field f at 0x6010 + f. -/
abbrev minArea (i : Nat) : Nat := (0x6010 + i) * 256 + 12
/-- 0x6010+f:0D MIN_ROWS, Segmentation recipe, field f at 0x6010 + f. -/
abbrev minRows (i : Nat) : Nat := (0x6010 + i) * 256 + 13
/-- 0x6100:01 OPEN_COMPONENTS, Segmentation status, package. -/
abbrev openComponents : Nat := 0x6100 * 256 + 1
/-- 0x6100:02 OPEN_PEAK, Segmentation status, package. -/
abbrev segOpenPeak : Nat := 0x6100 * 256 + 2
/-- 0x6100:03 CANDIDATES, Segmentation status, package. -/
abbrev candidates : Nat := 0x6100 * 256 + 3
/-- 0x6100:04 DISCARDED, Segmentation status, package. -/
abbrev discarded : Nat := 0x6100 * 256 + 4
/-- 0x6100:05 STREAK_PARTS, Segmentation status, package. -/
abbrev streakParts : Nat := 0x6100 * 256 + 5
/-- 0x6100:06 FOLDED_RUNS, Segmentation status, package. -/
abbrev foldedRuns : Nat := 0x6100 * 256 + 6
/-- 0x6100:07 AREA_RECORDS, Segmentation status, package. -/
abbrev areaRecords : Nat := 0x6100 * 256 + 7
/-- 0x6100:08 SPLIT_COUNT, Segmentation status, package. -/
abbrev splitCount : Nat := 0x6100 * 256 + 8
/-- 0x6100:09 BOUND_MISSED, Segmentation status, package. -/
abbrev boundMissed : Nat := 0x6100 * 256 + 9
/-- 0x6100:0A SEG_FLAGS, Segmentation status, package. -/
abbrev segFlags : Nat := 0x6100 * 256 + 10
/-- 0x6100:0B DONE_MIN, Segmentation status, package. -/
abbrev doneMin : Nat := 0x6100 * 256 + 11
/-- 0x6100:0C UNIT_LOAD, Segmentation status, package. -/
abbrev unitLoad : Nat := 0x6100 * 256 + 12
/-- 0x6200+c:01 OPEN, Segmentation status, cluster c at 0x6200 + c. -/
abbrev openObj (i : Nat) : Nat := (0x6200 + i) * 256 + 1
/-- 0x6200+c:02 OPEN_PEAK, Segmentation status, cluster c at 0x6200 + c. -/
abbrev cluOpenPeak (i : Nat) : Nat := (0x6200 + i) * 256 + 2
/-- 0x6200+c:03 FOLDS, Segmentation status, cluster c at 0x6200 + c. -/
abbrev folds (i : Nat) : Nat := (0x6200 + i) * 256 + 3
/-! ### Keys: 11_classification_ledger.md -/
/-- 0x6400:01 CAND_QUEUE_USED, Classification, package. -/
abbrev candQueueUsed : Nat := 0x6400 * 256 + 1
/-- 0x6400:02 CLASS_AREA, Classification, package. -/
abbrev classArea : Nat := 0x6400 * 256 + 2
/-- 0x6400:03 CLASS_UNKNOWN, Classification, package. -/
abbrev classUnknown : Nat := 0x6400 * 256 + 3
/-- 0x6400:04 NET_MIN_CONF, Classification, package. -/
abbrev netMinConf : Nat := 0x6400 * 256 + 4
/-- 0x6400:05 DEFAULT_GRADE, Classification, package. -/
abbrev defaultGrade : Nat := 0x6400 * 256 + 5
/-- 0x6400:06 DEFAULT_RING_MASK, Classification, package. -/
abbrev defaultRingMask : Nat := 0x6400 * 256 + 6
/-- 0x6400:07 CLASSIFIED, Classification, package. -/
abbrev classified : Nat := 0x6400 * 256 + 7
/-- 0x6400:08 UNCLASSIFIED, Classification, package. -/
abbrev unclassified : Nat := 0x6400 * 256 + 8
/-- 0x6400:09 NET_RUN, Classification, package. -/
abbrev netRun : Nat := 0x6400 * 256 + 9
/-- 0x6400:0A NET_SKIPPED, Classification, package. -/
abbrev netSkipped : Nat := 0x6400 * 256 + 10
/-- 0x6400:0B GRADED_OUT, Classification, package. -/
abbrev gradedOut : Nat := 0x6400 * 256 + 11
/-- 0x6400:0C BOUND_LATE, Classification, package. -/
abbrev boundLate : Nat := 0x6400 * 256 + 12
/-- 0x6401+f:01 FEAT_MODEL, Classification, package. -/
abbrev featModel (i : Nat) : Nat := (0x6401 + i) * 256 + 1
/-- 0x6401+f:02 NET_MODEL, Classification, package. -/
abbrev netModel (i : Nat) : Nat := (0x6401 + i) * 256 + 2
/-- 0x6401+f:03 to :06 NET_CLASS_MASK, Classification, package. -/
abbrev netClassMask (i : Nat) (j : Nat) : Nat := (0x6401 + i) * 256 + 3 + j
/-- 0x6410+m:01 MODEL_IMAGE, Model slots, slot m at 0x6410 + m. -/
abbrev modelImage (i : Nat) : Nat := (0x6410 + i) * 256 + 1
/-- 0x6410+m:02 MODEL_STATE, Model slots, slot m at 0x6410 + m. -/
abbrev modelState (i : Nat) : Nat := (0x6410 + i) * 256 + 2
/-- 0x6410+m:03 MODEL_KIND, Model slots, slot m at 0x6410 + m. -/
abbrev modelKind (i : Nat) : Nat := (0x6410 + i) * 256 + 3
/-- 0x6410+m:04 MODEL_DIGEST, Model slots, slot m at 0x6410 + m. -/
abbrev modelDigest (i : Nat) : Nat := (0x6410 + i) * 256 + 4
/-- 0x6410+m:05 MODEL_MACS, Model slots, slot m at 0x6410 + m. -/
abbrev modelMacs (i : Nat) : Nat := (0x6410 + i) * 256 + 5
/-- 0x6410+m:06 MODEL_FRAME, Model slots, slot m at 0x6410 + m. -/
abbrev modelFrame (i : Nat) : Nat := (0x6410 + i) * 256 + 6
/-- 0x6410+m:07 ACC_SAT, Model slots, slot m at 0x6410 + m. -/
abbrev accSat (i : Nat) : Nat := (0x6410 + i) * 256 + 7
/-- 0x6500+r:01 ENABLE, Grading rule r at 0x6500 + r, r = 0 to 127. -/
abbrev ruleEnable (i : Nat) : Nat := (0x6500 + i) * 256 + 1
/-- 0x6500+r:02 CLASS_LO, Grading rule r at 0x6500 + r, r = 0 to 127. -/
abbrev classLo (i : Nat) : Nat := (0x6500 + i) * 256 + 2
/-- 0x6500+r:03 CLASS_HI, Grading rule r at 0x6500 + r, r = 0 to 127. -/
abbrev classHi (i : Nat) : Nat := (0x6500 + i) * 256 + 3
/-- 0x6500+r:04 FIELD_MASK, Grading rule r at 0x6500 + r, r = 0 to 127. -/
abbrev fieldMask (i : Nat) : Nat := (0x6500 + i) * 256 + 4
/-- 0x6500+r:05 MIN_CONF, Grading rule r at 0x6500 + r, r = 0 to 127. -/
abbrev minConf (i : Nat) : Nat := (0x6500 + i) * 256 + 5
/-- 0x6500+r:06 FEAT_A, Grading rule r at 0x6500 + r, r = 0 to 127. -/
abbrev featA (i : Nat) : Nat := (0x6500 + i) * 256 + 6
/-- 0x6500+r:07 A_MIN, Grading rule r at 0x6500 + r, r = 0 to 127. -/
abbrev aMin (i : Nat) : Nat := (0x6500 + i) * 256 + 7
/-- 0x6500+r:08 A_MAX, Grading rule r at 0x6500 + r, r = 0 to 127. -/
abbrev aMax (i : Nat) : Nat := (0x6500 + i) * 256 + 8
/-- 0x6500+r:09 FEAT_B, Grading rule r at 0x6500 + r, r = 0 to 127. -/
abbrev featB (i : Nat) : Nat := (0x6500 + i) * 256 + 9
/-- 0x6500+r:0A B_MIN, Grading rule r at 0x6500 + r, r = 0 to 127. -/
abbrev bMin (i : Nat) : Nat := (0x6500 + i) * 256 + 10
/-- 0x6500+r:0B B_MAX, Grading rule r at 0x6500 + r, r = 0 to 127. -/
abbrev bMax (i : Nat) : Nat := (0x6500 + i) * 256 + 11
/-- 0x6500+r:0C FLAGS_SET, Grading rule r at 0x6500 + r, r = 0 to 127. -/
abbrev flagsSet (i : Nat) : Nat := (0x6500 + i) * 256 + 12
/-- 0x6500+r:0D FLAGS_CLEAR, Grading rule r at 0x6500 + r, r = 0 to 127. -/
abbrev flagsClear (i : Nat) : Nat := (0x6500 + i) * 256 + 13
/-- 0x6500+r:0E GRADE, Grading rule r at 0x6500 + r, r = 0 to 127. -/
abbrev grade (i : Nat) : Nat := (0x6500 + i) * 256 + 14
/-- 0x6500+r:0F RING_MASK, Grading rule r at 0x6500 + r, r = 0 to 127. -/
abbrev ringMask (i : Nat) : Nat := (0x6500 + i) * 256 + 15
/-- 0x6500+r:10 MARK_MASK, Grading rule r at 0x6500 + r, r = 0 to 127. -/
abbrev markMask (i : Nat) : Nat := (0x6500 + i) * 256 + 16
/-- 0x6500+r:11 CROP, Grading rule r at 0x6500 + r, r = 0 to 127. -/
abbrev crop (i : Nat) : Nat := (0x6500 + i) * 256 + 17
/-- 0x6500+r:12 CROP_RING, Grading rule r at 0x6500 + r, r = 0 to 127. -/
abbrev cropRing (i : Nat) : Nat := (0x6500 + i) * 256 + 18
/-- 0x6500+r:13 USER_CODE, Grading rule r at 0x6500 + r, r = 0 to 127. -/
abbrev userCode (i : Nat) : Nat := (0x6500 + i) * 256 + 19
/-- 0x6600:01 CROP_W, Crops. -/
abbrev cropW : Nat := 0x6600 * 256 + 1
/-- 0x6600:02 CROP_H, Crops. -/
abbrev cropH : Nat := 0x6600 * 256 + 2
/-- 0x6600:03 CROP_DEPTH, Crops. -/
abbrev cropDepth : Nat := 0x6600 * 256 + 3
/-- 0x6600:04 CROP_FIT, Crops. -/
abbrev cropFit : Nat := 0x6600 * 256 + 4
/-- 0x6600:05 CROP_QUEUE_USED, Crops. -/
abbrev cropQueueUsed : Nat := 0x6600 * 256 + 5
/-- 0x6600:06 CROPS_CUT, Crops. -/
abbrev cropsCut : Nat := 0x6600 * 256 + 6
/-- 0x6600:07 CROPS_LOST, Crops. -/
abbrev cropsLost : Nat := 0x6600 * 256 + 7
/-- 0x6620+q:01 CR_ENABLE, Crops. -/
abbrev crEnable (i : Nat) : Nat := (0x6620 + i) * 256 + 1
/-- 0x6620+q:02 CR_BASE, Crops. -/
abbrev crBase (i : Nat) : Nat := (0x6620 + i) * 256 + 2
/-- 0x6620+q:03 CR_SLOTS, Crops. -/
abbrev crSlots (i : Nat) : Nat := (0x6620 + i) * 256 + 3
/-- 0x6620+q:04 CR_SLOT_SIZE, Crops. -/
abbrev crSlotSize (i : Nat) : Nat := (0x6620 + i) * 256 + 4
/-- 0x6620+q:05 CR_FREE, Crops. -/
abbrev crFree (i : Nat) : Nat := (0x6620 + i) * 256 + 5
/-- 0x6700:01 LEDGER_ID, Ledger. -/
abbrev ledgerId : Nat := 0x6700 * 256 + 1
/-- 0x6700:02 LEDGER_HWM, Ledger. -/
abbrev ledgerHwm : Nat := 0x6700 * 256 + 2
/-- 0x6700:03 COMPLETE_FRAME, Ledger. -/
abbrev completeFrame : Nat := 0x6700 * 256 + 3
/-- 0x6700:04 STAGED, Ledger. -/
abbrev staged : Nat := 0x6700 * 256 + 4
/-- 0x6700:05 FRAME_DONE_EN, Ledger. -/
abbrev frameDoneEn : Nat := 0x6700 * 256 + 5
/-- 0x6700:06 LEDGER_FLAGS, Ledger. -/
abbrev ledgerFlags : Nat := 0x6700 * 256 + 6
/-- 0x6710+q:01 LR_ENABLE, Ledger. -/
abbrev lrEnable (i : Nat) : Nat := (0x6710 + i) * 256 + 1
/-- 0x6710+q:02 LR_BASE, Ledger. -/
abbrev lrBase (i : Nat) : Nat := (0x6710 + i) * 256 + 2
/-- 0x6710+q:03 LR_SLOTS, Ledger. -/
abbrev lrSlots (i : Nat) : Nat := (0x6710 + i) * 256 + 3
/-- 0x6710+q:04 LR_TYPES, Ledger. -/
abbrev lrTypes (i : Nat) : Nat := (0x6710 + i) * 256 + 4
/-- 0x6710+q:05 LR_DELIVERED, Ledger. -/
abbrev lrDelivered (i : Nat) : Nat := (0x6710 + i) * 256 + 5
/-- 0x6710+q:06 LR_BACKLOG, Ledger. -/
abbrev lrBacklog (i : Nat) : Nat := (0x6710 + i) * 256 + 6
/-- 0x6710+q:07 LR_DROPPED, Ledger. -/
abbrev lrDropped (i : Nat) : Nat := (0x6710 + i) * 256 + 7
/-! ### Keys: 12_statistics_exposure.md -/
/-- 0x5800+4p:01 to :08 EXPOSURE, Exposure objects, port p. -/
abbrev exposure (i : Nat) (j : Nat) : Nat := (0x5800 + 0x4 * i) * 256 + 1 + j
/-- 0x5801+4p:01 to :08 CAM_GAIN, Exposure objects, port p. -/
abbrev camGain (i : Nat) (j : Nat) : Nat := (0x5801 + 0x4 * i) * 256 + 1 + j
/-- 0x5802+4p:01 EXP_ADDR, Exposure objects, port p. -/
abbrev expAddr (i : Nat) : Nat := (0x5802 + 0x4 * i) * 256 + 1
/-- 0x5802+4p:02 EXP_GEN_ADDR, Exposure objects, port p. -/
abbrev expGenAddr (i : Nat) : Nat := (0x5802 + 0x4 * i) * 256 + 2
/-- 0x5802+4p:03 EXP_GEN, Exposure objects, port p. -/
abbrev expGen (i : Nat) : Nat := (0x5802 + 0x4 * i) * 256 + 3
/-- 0x5802+4p:04 EXP_PENDING_GEN, Exposure objects, port p. -/
abbrev expPendingGen (i : Nat) : Nat := (0x5802 + 0x4 * i) * 256 + 4
/-- 0x5802+4p:05 EXP_PENDING_FRAME, Exposure objects, port p. -/
abbrev expPendingFrame (i : Nat) : Nat := (0x5802 + 0x4 * i) * 256 + 5
/-- 0x5802+4p:06 EXP_FLAGS, Exposure objects, port p. -/
abbrev expFlags (i : Nat) : Nat := (0x5802 + 0x4 * i) * 256 + 6
/-- 0x5802+4p:07 EXP_FAULTS, Exposure objects, port p. -/
abbrev expFaults (i : Nat) : Nat := (0x5802 + 0x4 * i) * 256 + 7
/-- 0x5803+4p:01 STAT_ENABLE, Statistics objects, port p. -/
abbrev statEnable (i : Nat) : Nat := (0x5803 + 0x4 * i) * 256 + 1
/-- 0x5803+4p:02 STAT_TAG, Statistics objects, port p. -/
abbrev statTag (i : Nat) : Nat := (0x5803 + 0x4 * i) * 256 + 2
/-- 0x5803+4p:03 STAT_FIRST_PIXEL, Statistics objects, port p. -/
abbrev statFirstPixel (i : Nat) : Nat := (0x5803 + 0x4 * i) * 256 + 3
/-- 0x5803+4p:04 STAT_LAST_PIXEL, Statistics objects, port p. -/
abbrev statLastPixel (i : Nat) : Nat := (0x5803 + 0x4 * i) * 256 + 4
/-- 0x5900:01 ST_ENABLE, Statistics ring, package. -/
abbrev statRingEnable : Nat := 0x5900 * 256 + 1
/-- 0x5900:02 ST_BASE, Statistics ring, package. -/
abbrev stBase : Nat := 0x5900 * 256 + 2
/-- 0x5900:03 ST_SLOTS, Statistics ring, package. -/
abbrev stSlots : Nat := 0x5900 * 256 + 3
/-- 0x5900:04 ST_DELIVERED, Statistics ring, package. -/
abbrev stDelivered : Nat := 0x5900 * 256 + 4
/-- 0x5900:05 ST_DROPPED, Statistics ring, package. -/
abbrev stDropped : Nat := 0x5900 * 256 + 5
/-- 0x5900:06 ST_OVERRUN, Statistics ring, package. -/
abbrev stOverrun : Nat := 0x5900 * 256 + 6
/-- 0x5900:07 ST_FLAGS, Statistics ring, package. -/
abbrev stFlags : Nat := 0x5900 * 256 + 7
/-! ### Keys: 13_streams_filters.md -/
/-- 0x6800+s:01 ENABLE, Stream configuration, stream s at 0x6800 + s. -/
abbrev streamEnable (i : Nat) : Nat := (0x6800 + i) * 256 + 1
/-- 0x6800+s:02 FIELD, Stream configuration, stream s at 0x6800 + s. -/
abbrev stField (i : Nat) : Nat := (0x6800 + i) * 256 + 2
/-- 0x6800+s:03 CD_FIRST, Stream configuration, stream s at 0x6800 + s. -/
abbrev cdFirst (i : Nat) : Nat := (0x6800 + i) * 256 + 3
/-- 0x6800+s:04 CD_LAST, Stream configuration, stream s at 0x6800 + s. -/
abbrev cdLast (i : Nat) : Nat := (0x6800 + i) * 256 + 4
/-- 0x6800+s:05 STAGES_CD, Stream configuration, stream s at 0x6800 + s. -/
abbrev stagesCd (i : Nat) : Nat := (0x6800 + i) * 256 + 5
/-- 0x6800+s:06 KIND_CD, Stream configuration, stream s at 0x6800 + s. -/
abbrev kindCd (i : Nat) : Nat := (0x6800 + i) * 256 + 6
/-- 0x6800+s:07 STAGES_MD, Stream configuration, stream s at 0x6800 + s. -/
abbrev stagesMd (i : Nat) : Nat := (0x6800 + i) * 256 + 7
/-- 0x6800+s:08 KIND_MD, Stream configuration, stream s at 0x6800 + s. -/
abbrev kindMd (i : Nat) : Nat := (0x6800 + i) * 256 + 8
/-- 0x6800+s:09 DEPTH, Stream configuration, stream s at 0x6800 + s. -/
abbrev stDepth (i : Nat) : Nat := (0x6800 + i) * 256 + 9
/-- 0x6800+s:0A MAPS, Stream configuration, stream s at 0x6800 + s. -/
abbrev maps (i : Nat) : Nat := (0x6800 + i) * 256 + 10
/-- 0x6800+s:0B COMPRESS, Stream configuration, stream s at 0x6800 + s. -/
abbrev compress (i : Nat) : Nat := (0x6800 + i) * 256 + 11
/-- 0x6800+s:0C BLOCK_LINES, Stream configuration, stream s at 0x6800 + s. -/
abbrev blockLines (i : Nat) : Nat := (0x6800 + i) * 256 + 12
/-- 0x6800+s:0D SYNC, Stream configuration, stream s at 0x6800 + s. -/
abbrev stSync (i : Nat) : Nat := (0x6800 + i) * 256 + 13
/-- 0x6810+s:01 DEST, Stream destination, stream s at 0x6810 + s. -/
abbrev dest (i : Nat) : Nat := (0x6810 + i) * 256 + 1
/-- 0x6810+s:02 UDP_DEST, Stream destination, stream s at 0x6810 + s. -/
abbrev udpDest (i : Nat) : Nat := (0x6810 + i) * 256 + 2
/-- 0x6810+s:03 SR_BASE, Stream destination, stream s at 0x6810 + s. -/
abbrev srBase (i : Nat) : Nat := (0x6810 + i) * 256 + 3
/-- 0x6810+s:04 SR_SLOTS, Stream destination, stream s at 0x6810 + s. -/
abbrev srSlots (i : Nat) : Nat := (0x6810 + i) * 256 + 4
/-- 0x6810+s:05 SR_SLOT_SIZE, Stream destination, stream s at 0x6810 + s. -/
abbrev srSlotSize (i : Nat) : Nat := (0x6810 + i) * 256 + 5
/-- 0x6820+s:01 STREAM_STATE, Stream status, stream s at 0x6820 + s, and package. -/
abbrev streamState (i : Nat) : Nat := (0x6820 + i) * 256 + 1
/-- 0x6820+s:02 STREAM_SEQ, Stream status, stream s at 0x6820 + s, and package. -/
abbrev streamSeq (i : Nat) : Nat := (0x6820 + i) * 256 + 2
/-- 0x6820+s:03 STREAM_DROPPED, Stream status, stream s at 0x6820 + s, and package. -/
abbrev streamDropped (i : Nat) : Nat := (0x6820 + i) * 256 + 3
/-- 0x6820+s:04 STREAM_FLAGS, Stream status, stream s at 0x6820 + s, and package. -/
abbrev streamFlags (i : Nat) : Nat := (0x6820 + i) * 256 + 4
/-- 0x6820+s:05 LAST_LINE, Stream status, stream s at 0x6820 + s, and package. -/
abbrev lastLine (i : Nat) : Nat := (0x6820 + i) * 256 + 5
/-- 0x6820+s:06 SYNC_FRAME, Stream status, stream s at 0x6820 + s, and package. -/
abbrev syncFrame (i : Nat) : Nat := (0x6820 + i) * 256 + 6
/-- 0x6880:01 STREAM_LOAD, Stream status, stream s at 0x6820 + s, and package. -/
abbrev streamLoad : Nat := 0x6880 * 256 + 1
/-- 0x6900+m:01 ENABLE, Monitor configuration, monitor m at 0x6900 + m. -/
abbrev monEnable (i : Nat) : Nat := (0x6900 + i) * 256 + 1
/-- 0x6900+m:02 FIELD, Monitor configuration, monitor m at 0x6900 + m. -/
abbrev monField (i : Nat) : Nat := (0x6900 + i) * 256 + 2
/-- 0x6900+m:03 COL_FIRST, Monitor configuration, monitor m at 0x6900 + m. -/
abbrev colFirst (i : Nat) : Nat := (0x6900 + i) * 256 + 3
/-- 0x6900+m:04 COL_LAST, Monitor configuration, monitor m at 0x6900 + m. -/
abbrev colLast (i : Nat) : Nat := (0x6900 + i) * 256 + 4
/-- 0x6900+m:05 STAGES, Monitor configuration, monitor m at 0x6900 + m. -/
abbrev stages (i : Nat) : Nat := (0x6900 + i) * 256 + 5
/-- 0x6900+m:06 KIND, Monitor configuration, monitor m at 0x6900 + m. -/
abbrev kind (i : Nat) : Nat := (0x6900 + i) * 256 + 6
/-- 0x6900+m:07 EDGES, Monitor configuration, monitor m at 0x6900 + m. -/
abbrev edges (i : Nat) : Nat := (0x6900 + i) * 256 + 7
/-- 0x6900+m:08 HIGH_ON, Monitor configuration, monitor m at 0x6900 + m. -/
abbrev highOn (i : Nat) : Nat := (0x6900 + i) * 256 + 8
/-- 0x6900+m:09 HIGH_OFF, Monitor configuration, monitor m at 0x6900 + m. -/
abbrev highOff (i : Nat) : Nat := (0x6900 + i) * 256 + 9
/-- 0x6900+m:0A LOW_ON, Monitor configuration, monitor m at 0x6900 + m. -/
abbrev lowOn (i : Nat) : Nat := (0x6900 + i) * 256 + 10
/-- 0x6900+m:0B LOW_OFF, Monitor configuration, monitor m at 0x6900 + m. -/
abbrev lowOff (i : Nat) : Nat := (0x6900 + i) * 256 + 11
/-- 0x6900+m:0C SYNC, Monitor configuration, monitor m at 0x6900 + m. -/
abbrev monSync (i : Nat) : Nat := (0x6900 + i) * 256 + 12
/-- 0x6980+m:01 MON_VALUE, Monitor status, monitor m at 0x6980 + m. -/
abbrev monValue (i : Nat) : Nat := (0x6980 + i) * 256 + 1
/-- 0x6980+m:02 MON_LINE, Monitor status, monitor m at 0x6980 + m. -/
abbrev monLine (i : Nat) : Nat := (0x6980 + i) * 256 + 2
/-- 0x6980+m:03 MON_STATE, Monitor status, monitor m at 0x6980 + m. -/
abbrev monState (i : Nat) : Nat := (0x6980 + i) * 256 + 3
/-- 0x6980+m:04 MON_FLAGS, Monitor status, monitor m at 0x6980 + m. -/
abbrev monFlags (i : Nat) : Nat := (0x6980 + i) * 256 + 4
/-- 0x6980+m:05 HIGH_EVENTS, Monitor status, monitor m at 0x6980 + m. -/
abbrev highEvents (i : Nat) : Nat := (0x6980 + i) * 256 + 5
/-- 0x6980+m:06 LOW_EVENTS, Monitor status, monitor m at 0x6980 + m. -/
abbrev lowEvents (i : Nat) : Nat := (0x6980 + i) * 256 + 6
/-- 0x6980+m:07 SUPPRESSED, Monitor status, monitor m at 0x6980 + m. -/
abbrev suppressed (i : Nat) : Nat := (0x6980 + i) * 256 + 7
/-! ### Keys: 14_compression.md -/
/-- 0x7400:01 ENGINES_BUSY, Compression, package. -/
abbrev enginesBusy : Nat := 0x7400 * 256 + 1
/-- 0x7400:02 COMP_QUEUE_USED, Compression, package. -/
abbrev compQueueUsed : Nat := 0x7400 * 256 + 2
/-- 0x7400:03 COMP_BYPASSED, Compression, package. -/
abbrev compBypassed : Nat := 0x7400 * 256 + 3
/-- 0x7400:04 COMP_IN_BYTES, Compression, package. -/
abbrev compInBytes : Nat := 0x7400 * 256 + 4
/-- 0x7400:05 COMP_OUT_BYTES, Compression, package. -/
abbrev compOutBytes : Nat := 0x7400 * 256 + 5
/-- 0x7410+e:01 ENGINE_STATE, Compression, engine e at 0x7410 + e. -/
abbrev engineState (i : Nat) : Nat := (0x7410 + i) * 256 + 1
/-- 0x7410+e:02 ENGINE_STREAM, Compression, engine e at 0x7410 + e. -/
abbrev engineStream (i : Nat) : Nat := (0x7410 + i) * 256 + 2
/-- 0x7410+e:03 STALL_CLOCKS, Compression, engine e at 0x7410 + e. -/
abbrev engStallClocks (i : Nat) : Nat := (0x7410 + i) * 256 + 3
/-- 0x7410+e:04 ENGINE_CMD, Compression, engine e at 0x7410 + e. -/
abbrev engineCmd (i : Nat) : Nat := (0x7410 + i) * 256 + 4
/-- 0x7410+e:05 ABORTS, Compression, engine e at 0x7410 + e. -/
abbrev aborts (i : Nat) : Nat := (0x7410 + i) * 256 + 5
/-- 0x7410+e:06 BLOCKS_DYNAMIC, Compression, engine e at 0x7410 + e. -/
abbrev blocksDynamic (i : Nat) : Nat := (0x7410 + i) * 256 + 6
/-- 0x7410+e:07 BLOCKS_STORED, Compression, engine e at 0x7410 + e. -/
abbrev blocksStored (i : Nat) : Nat := (0x7410 + i) * 256 + 7
/-! ### Keys: 15_stamper_motion.md -/
/-- 0x8800+k:01 ENABLE, Stamper output k at 0x8800 + k. -/
abbrev mkEnable (i : Nat) : Nat := (0x8800 + i) * 256 + 1
/-- 0x8800+k:02 OFFSET, Stamper output k at 0x8800 + k. -/
abbrev offset (i : Nat) : Nat := (0x8800 + i) * 256 + 2
/-- 0x8800+k:03 GATE_FIRST, Stamper output k at 0x8800 + k. -/
abbrev gateFirst (i : Nat) : Nat := (0x8800 + i) * 256 + 3
/-- 0x8800+k:04 GATE_LAST, Stamper output k at 0x8800 + k. -/
abbrev gateLast (i : Nat) : Nat := (0x8800 + i) * 256 + 4
/-- 0x8800+k:05 PULSE_MODE, Stamper output k at 0x8800 + k. -/
abbrev pulseMode (i : Nat) : Nat := (0x8800 + i) * 256 + 5
/-- 0x8800+k:06 PULSE_TIME, Stamper output k at 0x8800 + k. -/
abbrev pulseTime (i : Nat) : Nat := (0x8800 + i) * 256 + 6
/-- 0x8800+k:07 PULSE_LEN, Stamper output k at 0x8800 + k. -/
abbrev pulseLen (i : Nat) : Nat := (0x8800 + i) * 256 + 7
/-- 0x8800+k:08 ACT_LEAD, Stamper output k at 0x8800 + k. -/
abbrev actLead (i : Nat) : Nat := (0x8800 + i) * 256 + 8
/-- 0x8800+k:09 POLARITY, Stamper output k at 0x8800 + k. -/
abbrev mkPolarity (i : Nat) : Nat := (0x8800 + i) * 256 + 9
/-- 0x8800+k:0A HC_TARGET, Stamper output k at 0x8800 + k. -/
abbrev hcTarget (i : Nat) : Nat := (0x8800 + i) * 256 + 10
/-- 0x8800+k:0B MQ_CLEAR, Stamper output k at 0x8800 + k. -/
abbrev mqClear (i : Nat) : Nat := (0x8800 + i) * 256 + 11
/-- 0x8820+k:01 MQ_USED, Stamper status k at 0x8820 + k. -/
abbrev mqUsed (i : Nat) : Nat := (0x8820 + i) * 256 + 1
/-- 0x8820+k:02 MQ_FLAGS, Stamper status k at 0x8820 + k. -/
abbrev mqFlags (i : Nat) : Nat := (0x8820 + i) * 256 + 2
/-- 0x8820+k:03 FIRES, Stamper status k at 0x8820 + k. -/
abbrev fires (i : Nat) : Nat := (0x8820 + i) * 256 + 3
/-- 0x8820+k:04 MERGED, Stamper status k at 0x8820 + k. -/
abbrev merged (i : Nat) : Nat := (0x8820 + i) * 256 + 4
/-- 0x8820+k:05 LATE_COUNT, Stamper status k at 0x8820 + k. -/
abbrev lateCount (i : Nat) : Nat := (0x8820 + i) * 256 + 5
/-- 0x8820+k:06 LATE_DIST, Stamper status k at 0x8820 + k. -/
abbrev lateDist (i : Nat) : Nat := (0x8820 + i) * 256 + 6
/-- 0x8820+k:07 LATE_SEQ, Stamper status k at 0x8820 + k. -/
abbrev lateSeq (i : Nat) : Nat := (0x8820 + i) * 256 + 7
/-- 0x8820+k:08 MQ_FULL_COUNT, Stamper status k at 0x8820 + k. -/
abbrev mqFullCount (i : Nat) : Nat := (0x8820 + i) * 256 + 8
/-- 0x8820+k:09 NEXT_TARGET, Stamper status k at 0x8820 + k. -/
abbrev nextTarget (i : Nat) : Nat := (0x8820 + i) * 256 + 9
/-- 0x8820+k:0A LAST_FIRE_POS, Stamper status k at 0x8820 + k. -/
abbrev lastFirePos (i : Nat) : Nat := (0x8820 + i) * 256 + 10
/-- 0x8820+k:0B LAST_FIRE_SEQ, Stamper status k at 0x8820 + k. -/
abbrev lastFireSeq (i : Nat) : Nat := (0x8820 + i) * 256 + 11
/-- 0x8880:01 MIRROR_ACTIVE, Stamper status k at 0x8820 + k. -/
abbrev mirrorActive : Nat := 0x8880 * 256 + 1
/-- 0x8400+a:01 MAX_STEP_RATE, Axis configuration a at 0x8400 + a. -/
abbrev maxStepRate (i : Nat) : Nat := (0x8400 + i) * 256 + 1
/-- 0x8400+a:02 DIR_INVERT, Axis configuration a at 0x8400 + a. -/
abbrev dirInvert (i : Nat) : Nat := (0x8400 + i) * 256 + 2
/-- 0x8400+a:03 STEP_WIDTH, Axis configuration a at 0x8400 + a. -/
abbrev stepWidth (i : Nat) : Nat := (0x8400 + i) * 256 + 3
/-- 0x8400+a:04 DIR_SETUP, Axis configuration a at 0x8400 + a. -/
abbrev dirSetup (i : Nat) : Nat := (0x8400 + i) * 256 + 4
/-- 0x8400+a:05 V_START, Axis configuration a at 0x8400 + a. -/
abbrev vStart (i : Nat) : Nat := (0x8400 + i) * 256 + 5
/-- 0x8400+a:06 QSTOP_DECEL, Axis configuration a at 0x8400 + a. -/
abbrev qstopDecel (i : Nat) : Nat := (0x8400 + i) * 256 + 6
/-- 0x8400+a:07 BLEND_MAX, Axis configuration a at 0x8400 + a. -/
abbrev blendMax (i : Nat) : Nat := (0x8400 + i) * 256 + 7
/-- 0x8400+a:08 SOFT_MIN, Axis configuration a at 0x8400 + a. -/
abbrev softMin (i : Nat) : Nat := (0x8400 + i) * 256 + 8
/-- 0x8400+a:09 SOFT_MAX, Axis configuration a at 0x8400 + a. -/
abbrev softMax (i : Nat) : Nat := (0x8400 + i) * 256 + 9
/-- 0x8400+a:0A STANDSTILL_DELAY, Axis configuration a at 0x8400 + a. -/
abbrev standstillDelay (i : Nat) : Nat := (0x8400 + i) * 256 + 10
/-- 0x8400+a:0B CR_WAKE, Axis configuration a at 0x8400 + a. -/
abbrev crWake (i : Nat) : Nat := (0x8400 + i) * 256 + 11
/-- 0x8410+a:01 STALL_SOURCE, Axis stall and homing a at 0x8410 + a. -/
abbrev stallSource (i : Nat) : Nat := (0x8410 + i) * 256 + 1
/-- 0x8410+a:02 FB_INPUT, Axis stall and homing a at 0x8410 + a. -/
abbrev fbInput (i : Nat) : Nat := (0x8410 + i) * 256 + 2
/-- 0x8410+a:03 FB_NUM, Axis stall and homing a at 0x8410 + a. -/
abbrev fbNum (i : Nat) : Nat := (0x8410 + i) * 256 + 3
/-- 0x8410+a:04 FB_DEN, Axis stall and homing a at 0x8410 + a. -/
abbrev fbDen (i : Nat) : Nat := (0x8410 + i) * 256 + 4
/-- 0x8410+a:05 FOLLOW_LIMIT, Axis stall and homing a at 0x8410 + a. -/
abbrev followLimit (i : Nat) : Nat := (0x8410 + i) * 256 + 5
/-- 0x8410+a:06 STALL_BLANK, Axis stall and homing a at 0x8410 + a. -/
abbrev stallBlank (i : Nat) : Nat := (0x8410 + i) * 256 + 6
/-- 0x8410+a:07 HOME_DIR, Axis stall and homing a at 0x8410 + a. -/
abbrev homeDir (i : Nat) : Nat := (0x8410 + i) * 256 + 7
/-- 0x8410+a:08 HOME_VEL, Axis stall and homing a at 0x8410 + a. -/
abbrev homeVel (i : Nat) : Nat := (0x8410 + i) * 256 + 8
/-- 0x8410+a:09 HOME_ACCEL, Axis stall and homing a at 0x8410 + a. -/
abbrev homeAccel (i : Nat) : Nat := (0x8410 + i) * 256 + 9
/-- 0x8410+a:0A HOME_MAX_TRAVEL, Axis stall and homing a at 0x8410 + a. -/
abbrev homeMaxTravel (i : Nat) : Nat := (0x8410 + i) * 256 + 10
/-- 0x8410+a:0B HOME_POS, Axis stall and homing a at 0x8410 + a. -/
abbrev homePos (i : Nat) : Nat := (0x8410 + i) * 256 + 11
/-- 0x8410+a:0C HOME_BACKOFF, Axis stall and homing a at 0x8410 + a. -/
abbrev homeBackoff (i : Nat) : Nat := (0x8410 + i) * 256 + 12
/-- 0x8420+a:01 MV_KIND, Axis moves a at 0x8420 + a. -/
abbrev mvKind (i : Nat) : Nat := (0x8420 + i) * 256 + 1
/-- 0x8420+a:02 MV_TARGET, Axis moves a at 0x8420 + a. -/
abbrev mvTarget (i : Nat) : Nat := (0x8420 + i) * 256 + 2
/-- 0x8420+a:03 MV_VMAX, Axis moves a at 0x8420 + a. -/
abbrev mvVmax (i : Nat) : Nat := (0x8420 + i) * 256 + 3
/-- 0x8420+a:04 MV_ACCEL, Axis moves a at 0x8420 + a. -/
abbrev mvAccel (i : Nat) : Nat := (0x8420 + i) * 256 + 4
/-- 0x8420+a:05 MV_DECEL, Axis moves a at 0x8420 + a. -/
abbrev mvDecel (i : Nat) : Nat := (0x8420 + i) * 256 + 5
/-- 0x8420+a:06 MV_SYNC, Axis moves a at 0x8420 + a. -/
abbrev mvSync (i : Nat) : Nat := (0x8420 + i) * 256 + 6
/-- 0x8420+a:07 MV_PUSH, Axis moves a at 0x8420 + a. -/
abbrev mvPush (i : Nat) : Nat := (0x8420 + i) * 256 + 7
/-- 0x8420+a:08 MV_RESULT, Axis moves a at 0x8420 + a. -/
abbrev mvResult (i : Nat) : Nat := (0x8420 + i) * 256 + 8
/-- 0x8430+a:01 POSITION, Axis status a at 0x8430 + a, and group g at 0x8480 + g. -/
abbrev axPosition (i : Nat) : Nat := (0x8430 + i) * 256 + 1
/-- 0x8430+a:02 VELOCITY, Axis status a at 0x8430 + a, and group g at 0x8480 + g. -/
abbrev velocity (i : Nat) : Nat := (0x8430 + i) * 256 + 2
/-- 0x8430+a:03 AX_STATE, Axis status a at 0x8430 + a, and group g at 0x8480 + g. -/
abbrev axState (i : Nat) : Nat := (0x8430 + i) * 256 + 3
/-- 0x8430+a:04 AX_FLAGS, Axis status a at 0x8430 + a, and group g at 0x8480 + g. -/
abbrev axFlags (i : Nat) : Nat := (0x8430 + i) * 256 + 4
/-- 0x8430+a:05 HOMED, Axis status a at 0x8430 + a, and group g at 0x8480 + g. -/
abbrev homed (i : Nat) : Nat := (0x8430 + i) * 256 + 5
/-- 0x8430+a:06 MOVES_QUEUED, Axis status a at 0x8430 + a, and group g at 0x8480 + g. -/
abbrev movesQueued (i : Nat) : Nat := (0x8430 + i) * 256 + 6
/-- 0x8430+a:07 FOLLOW_ERR, Axis status a at 0x8430 + a, and group g at 0x8480 + g. -/
abbrev followErr (i : Nat) : Nat := (0x8430 + i) * 256 + 7
/-- 0x8430+a:08 STALLS, Axis status a at 0x8430 + a, and group g at 0x8480 + g. -/
abbrev stalls (i : Nat) : Nat := (0x8430 + i) * 256 + 8
/-- 0x8430+a:09 AX_CMD, Axis status a at 0x8430 + a, and group g at 0x8480 + g. -/
abbrev axCmd (i : Nat) : Nat := (0x8430 + i) * 256 + 9
/-- 0x8480+g:01 GROUP_POLICY, Axis status a at 0x8430 + a, and group g at 0x8480 + g. -/
abbrev groupPolicy (i : Nat) : Nat := (0x8480 + i) * 256 + 1
/-- 0x8480+g:02 GROUP_CMD, Axis status a at 0x8430 + a, and group g at 0x8480 + g. -/
abbrev groupCmd (i : Nat) : Nat := (0x8480 + i) * 256 + 2
/-! ### Keys: 16_placement.md -/
/-- 0xA000:01 EPOCH, Placement, package. -/
abbrev epoch : Nat := 0xA000 * 256 + 1
/-- 0xA000:02 EPOCH_FRAME, Placement, package. -/
abbrev epochFrame : Nat := 0xA000 * 256 + 2
/-- 0xA000:03 PENDING_FRAME, Placement, package. -/
abbrev pendingFrame : Nat := 0xA000 * 256 + 3
/-- 0xA000:04 RESERVE_UNITS, Placement, package. -/
abbrev reserveUnits : Nat := 0xA000 * 256 + 4
/-- 0xA000:05 UNIT_RATE, Placement, package. -/
abbrev unitRate : Nat := 0xA000 * 256 + 5
/-- 0xA000:06 SHED_ENABLE, Placement, package. -/
abbrev shedEnable : Nat := 0xA000 * 256 + 6
/-- 0xA000:07 SHED_HIGH, Placement, package. -/
abbrev shedHigh : Nat := 0xA000 * 256 + 7
/-- 0xA000:08 SHED_ACCEPT, Placement, package. -/
abbrev shedAccept : Nat := 0xA000 * 256 + 8
/-- 0xA000:09 SHED_TIMEOUT, Placement, package. -/
abbrev shedTimeout : Nat := 0xA000 * 256 + 9
/-- 0xA001:01 UNITS_IN_SERVICE, Placement status, package. -/
abbrev unitsInService : Nat := 0xA001 * 256 + 1
/-- 0xA001:02 SEG_DEMAND, Placement status, package. -/
abbrev segDemand : Nat := 0xA001 * 256 + 2
/-- 0xA001:03 PLACE_FLAGS, Placement status, package. -/
abbrev placeFlags : Nat := 0xA001 * 256 + 3
/-- 0xA001:04 REPLAYED_JOBS, Placement status, package. -/
abbrev replayedJobs : Nat := 0xA001 * 256 + 4
/-- 0xA001:05 SEG_LOST_JOBS, Placement status, package. -/
abbrev segLostJobs : Nat := 0xA001 * 256 + 5
/-- 0xA001:06 LATE_STARTS, Placement status, package. -/
abbrev lateStarts : Nat := 0xA001 * 256 + 6
/-- 0xA001:07 SHED_OUT, Placement status, package. -/
abbrev shedOut : Nat := 0xA001 * 256 + 7
/-- 0xA001:08 SHED_IN, Placement status, package. -/
abbrev shedIn : Nat := 0xA001 * 256 + 8
/-- 0xA001:09 SHED_RESUBMIT, Placement status, package. -/
abbrev shedResubmit : Nat := 0xA001 * 256 + 9
/-- 0xA010+c:01 CL_ROLE, Cluster c at 0xA010 + c, c = 0 to 63. -/
abbrev clRole (i : Nat) : Nat := (0xA010 + i) * 256 + 1
/-- 0xA010+c:02 CL_CMD, Cluster c at 0xA010 + c, c = 0 to 63. -/
abbrev clCmd (i : Nat) : Nat := (0xA010 + i) * 256 + 2
/-- 0xA010+c:03 CL_STATE, Cluster c at 0xA010 + c, c = 0 to 63. -/
abbrev clState (i : Nat) : Nat := (0xA010 + i) * 256 + 3
/-- 0xA010+c:04 CL_UNITS, Cluster c at 0xA010 + c, c = 0 to 63. -/
abbrev clUnits (i : Nat) : Nat := (0xA010 + i) * 256 + 4
/-- 0xA010+c:05 CL_CAUSE, Cluster c at 0xA010 + c, c = 0 to 63. -/
abbrev clCause (i : Nat) : Nat := (0xA010 + i) * 256 + 5
/-- 0xA010+c:06 CL_CMD_STATE, Cluster c at 0xA010 + c, c = 0 to 63. -/
abbrev clCmdState (i : Nat) : Nat := (0xA010 + i) * 256 + 6
/-- 0xA010+c:07 CL_REMOVALS, Cluster c at 0xA010 + c, c = 0 to 63. -/
abbrev clRemovals (i : Nat) : Nat := (0xA010 + i) * 256 + 7
/-- 0xA060+b:01 BUF_PC_MASK, Buffer class b at 0xA060 + b, b = 0 to 8. -/
abbrev bufPcMask (i : Nat) : Nat := (0xA060 + i) * 256 + 1
/-- 0xA060+b:02 BUF_BYTES, Buffer class b at 0xA060 + b, b = 0 to 8. -/
abbrev bufBytes (i : Nat) : Nat := (0xA060 + i) * 256 + 2
/-- 0xA060+b:03 BUF_REPLICA, Buffer class b at 0xA060 + b, b = 0 to 8. -/
abbrev bufReplica (i : Nat) : Nat := (0xA060 + i) * 256 + 3
/-- 0xA060+b:04 BUF_LOST, Buffer class b at 0xA060 + b, b = 0 to 8. -/
abbrev bufLost (i : Nat) : Nat := (0xA060 + i) * 256 + 4
/-! ### Keys: 17_hbm_controller.md -/
/-- 0x9000:01 RING_SIZE, Memory controller, package. -/
abbrev ringSize : Nat := 0x9000 * 256 + 1
/-- 0x9000:02 RING_DEPTH, Memory controller, package. -/
abbrev ringDepth : Nat := 0x9000 * 256 + 2
/-- 0x9000:03 RING_BYTES, Memory controller, package. -/
abbrev ringBytes : Nat := 0x9000 * 256 + 3
/-- 0x9000:04 PC_MAP, Memory controller, package. -/
abbrev pcMap : Nat := 0x9000 * 256 + 4
/-- 0x9000:05 PC_LOST_MASK, Memory controller, package. -/
abbrev pcLostMask : Nat := 0x9000 * 256 + 5
/-- 0x9000:06 HBM_FLAGS, Memory controller, package. -/
abbrev hbmFlags : Nat := 0x9000 * 256 + 6
/-- 0x9001:01 to :04 BANK_MASK, Memory controller, package. -/
abbrev bankMask (j : Nat) : Nat := 0x9001 * 256 + 1 + j
/-- 0x9002:01 AGE_LIMIT, Memory controller, package. -/
abbrev ageLimit : Nat := 0x9002 * 256 + 1
/-- 0x9003:01 REF_POSTPONE, Memory controller, package. -/
abbrev refPostpone : Nat := 0x9003 * 256 + 1
/-- 0x9003:02 STACK_TEMP_0, Memory controller, package. -/
abbrev stackTemp0 : Nat := 0x9003 * 256 + 2
/-- 0x9003:03 STACK_TEMP_1, Memory controller, package. -/
abbrev stackTemp1 : Nat := 0x9003 * 256 + 3
/-- 0x9003:04 REF_STATE, Memory controller, package. -/
abbrev refState : Nat := 0x9003 * 256 + 4
/-- 0x9003:05 HOT_ENTRIES, Memory controller, package. -/
abbrev hotEntries : Nat := 0x9003 * 256 + 5
/-- 0x9003:06 URGENT_BATCHES, Memory controller, package. -/
abbrev urgentBatches : Nat := 0x9003 * 256 + 6
/-- 0x9004:01 ACT_LIMIT, Memory controller, package. -/
abbrev actLimit : Nat := 0x9004 * 256 + 1
/-- 0x9004:02 THROTTLE_GAP, Memory controller, package. -/
abbrev throttleGap : Nat := 0x9004 * 256 + 2
/-- 0x9004:03 THROTTLE_REQ, Memory controller, package. -/
abbrev throttleReq : Nat := 0x9004 * 256 + 3
/-- 0x9004:04 THROTTLES, Memory controller, package. -/
abbrev throttles : Nat := 0x9004 * 256 + 4
/-- 0x9005:01 PD_DELAY, Memory controller, package. -/
abbrev pdDelay : Nat := 0x9005 * 256 + 1
/-- 0x9005:02 SR_DELAY, Memory controller, package. -/
abbrev srDelay : Nat := 0x9005 * 256 + 2
/-- 0x9005:03 SR_ENTRIES, Memory controller, package. -/
abbrev srEntries : Nat := 0x9005 * 256 + 3
/-- 0x9006:01 RETRAIN_PERIOD, Memory controller, package. -/
abbrev retrainPeriod : Nat := 0x9006 * 256 + 1
/-- 0x9006:02 UNCORR_LIMIT, Memory controller, package. -/
abbrev uncorrLimit : Nat := 0x9006 * 256 + 2
/-- 0x9040+n:01 PC_STATE, Pseudo-channel n at 0x9040 + n, n = 0 to 63. -/
abbrev pcState (i : Nat) : Nat := (0x9040 + i) * 256 + 1
/-- 0x9040+n:02 PC_CMD, Pseudo-channel n at 0x9040 + n, n = 0 to 63. -/
abbrev pcCmd (i : Nat) : Nat := (0x9040 + i) * 256 + 2
/-- 0x9040+n:03 PC_CMD_STATE, Pseudo-channel n at 0x9040 + n, n = 0 to 63. -/
abbrev pcCmdState (i : Nat) : Nat := (0x9040 + i) * 256 + 3
/-- 0x9040+n:04 CORR, Pseudo-channel n at 0x9040 + n, n = 0 to 63. -/
abbrev corr (i : Nat) : Nat := (0x9040 + i) * 256 + 4
/-- 0x9040+n:05 UNCORR, Pseudo-channel n at 0x9040 + n, n = 0 to 63. -/
abbrev uncorr (i : Nat) : Nat := (0x9040 + i) * 256 + 5
/-- 0x9040+n:06 RETRAINS, Pseudo-channel n at 0x9040 + n, n = 0 to 63. -/
abbrev retrains (i : Nat) : Nat := (0x9040 + i) * 256 + 6
/-- 0x9040+n:07 LOST_FRAME, Pseudo-channel n at 0x9040 + n, n = 0 to 63. -/
abbrev lostFrame (i : Nat) : Nat := (0x9040 + i) * 256 + 7
/-! ### Keys: 18_scratchpads_queues.md -/
/-- 0x9400:01 TEST_ENABLE, Scratchpad, package. -/
abbrev testEnable : Nat := 0x9400 * 256 + 1
/-- 0x9400:02 TEST_ROW_INTERVAL, Scratchpad, package. -/
abbrev testRowInterval : Nat := 0x9400 * 256 + 2
/-- 0x9410+c:01 SP_STATE, Scratchpad, cluster c at 0x9410 + c. -/
abbrev spState (i : Nat) : Nat := (0x9410 + i) * 256 + 1
/-- 0x9410+c:02 SP_CMD, Scratchpad, cluster c at 0x9410 + c. -/
abbrev spCmd (i : Nat) : Nat := (0x9410 + i) * 256 + 2
/-- 0x9410+c:03 TEST_ROW, Scratchpad, cluster c at 0x9410 + c. -/
abbrev testRow (i : Nat) : Nat := (0x9410 + i) * 256 + 3
/-- 0x9410+c:04 FAIL_ROW, Scratchpad, cluster c at 0x9410 + c. -/
abbrev failRow (i : Nat) : Nat := (0x9410 + i) * 256 + 4
/-- 0x9410+c:05 SPARES_USED, Scratchpad, cluster c at 0x9410 + c. -/
abbrev sparesUsed (i : Nat) : Nat := (0x9410 + i) * 256 + 5
/-- 0x9410+c:06 SPARES_FAILED, Scratchpad, cluster c at 0x9410 + c. -/
abbrev sparesFailed (i : Nat) : Nat := (0x9410 + i) * 256 + 6
/-- 0x9410+c:07 SP_FLAGS, Scratchpad, cluster c at 0x9410 + c. -/
abbrev spFlags (i : Nat) : Nat := (0x9410 + i) * 256 + 7
/-- 0x9410+c:08 SP_CORR, Scratchpad, cluster c at 0x9410 + c. -/
abbrev spCorr (i : Nat) : Nat := (0x9410 + i) * 256 + 8
/-- 0x9410+c:09 SP_UNCORR, Scratchpad, cluster c at 0x9410 + c. -/
abbrev spUncorr (i : Nat) : Nat := (0x9410 + i) * 256 + 9
/-- 0x9410+c:0A TEST_MISMATCH, Scratchpad, cluster c at 0x9410 + c. -/
abbrev testMismatch (i : Nat) : Nat := (0x9410 + i) * 256 + 10
/-- 0x9410+c:0B ROWS_TESTED, Scratchpad, cluster c at 0x9410 + c. -/
abbrev rowsTested (i : Nat) : Nat := (0x9410 + i) * 256 + 11
/-- 0x9800+q:01 DEPTH, Queue q at 0x9800 + q, q = 0 to 172. -/
abbrev qDepth (i : Nat) : Nat := (0x9800 + i) * 256 + 1
/-- 0x9800+q:02 LEVEL, Queue q at 0x9800 + q, q = 0 to 172. -/
abbrev level (i : Nat) : Nat := (0x9800 + i) * 256 + 2
/-- 0x9800+q:03 EMPTY, Queue q at 0x9800 + q, q = 0 to 172. -/
abbrev empty (i : Nat) : Nat := (0x9800 + i) * 256 + 3
/-- 0x9800+q:04 HIGH_WM, Queue q at 0x9800 + q, q = 0 to 172. -/
abbrev highWm (i : Nat) : Nat := (0x9800 + i) * 256 + 4
/-- 0x9800+q:05 LOW_WM, Queue q at 0x9800 + q, q = 0 to 172. -/
abbrev lowWm (i : Nat) : Nat := (0x9800 + i) * 256 + 5
/-- 0x9800+q:06 Q_FLAGS, Queue q at 0x9800 + q, q = 0 to 172. -/
abbrev qFlags (i : Nat) : Nat := (0x9800 + i) * 256 + 6
/-- 0x9800+q:07 PEAK, Queue q at 0x9800 + q, q = 0 to 172. -/
abbrev peak (i : Nat) : Nat := (0x9800 + i) * 256 + 7
/-- 0x9800+q:08 Q_CORR, Queue q at 0x9800 + q, q = 0 to 172. -/
abbrev qCorr (i : Nat) : Nat := (0x9800 + i) * 256 + 8
/-- 0x9800+q:09 Q_UNCORR, Queue q at 0x9800 + q, q = 0 to 172. -/
abbrev qUncorr (i : Nat) : Nat := (0x9800 + i) * 256 + 9
/-- 0x9800+q:0A UNDERRUNS, Queue q at 0x9800 + q, q = 0 to 172. -/
abbrev underruns (i : Nat) : Nat := (0x9800 + i) * 256 + 10
/-- 0x9800+q:0B CREDIT_WAIT, Queue q at 0x9800 + q, q = 0 to 172. -/
abbrev creditWait (i : Nat) : Nat := (0x9800 + i) * 256 + 11
/-! ### Keys: 19_dma_programs.md -/
/-- 0x7000+c:01 CH_PROGRAM, DMA channel c at 0x7000 + c, c = 0 to 31. -/
abbrev chProgram (i : Nat) : Nat := (0x7000 + i) * 256 + 1
/-- 0x7000+c:02 CH_CMD, DMA channel c at 0x7000 + c, c = 0 to 31. -/
abbrev chCmd (i : Nat) : Nat := (0x7000 + i) * 256 + 2
/-- 0x7000+c:03 CH_STATE, DMA channel c at 0x7000 + c, c = 0 to 31. -/
abbrev chState (i : Nat) : Nat := (0x7000 + i) * 256 + 3
/-- 0x7000+c:04 CH_PC, DMA channel c at 0x7000 + c, c = 0 to 31. -/
abbrev chPc (i : Nat) : Nat := (0x7000 + i) * 256 + 4
/-- 0x7000+c:05 CH_REMAIN, DMA channel c at 0x7000 + c, c = 0 to 31. -/
abbrev chRemain (i : Nat) : Nat := (0x7000 + i) * 256 + 5
/-- 0x7000+c:06 CH_SRC, DMA channel c at 0x7000 + c, c = 0 to 31. -/
abbrev chSrc (i : Nat) : Nat := (0x7000 + i) * 256 + 6
/-- 0x7000+c:07 CH_DST, DMA channel c at 0x7000 + c, c = 0 to 31. -/
abbrev chDst (i : Nat) : Nat := (0x7000 + i) * 256 + 7
/-- 0x7000+c:08 LOOP0, DMA channel c at 0x7000 + c, c = 0 to 31. -/
abbrev loop0 (i : Nat) : Nat := (0x7000 + i) * 256 + 8
/-- 0x7000+c:09 LOOP1, DMA channel c at 0x7000 + c, c = 0 to 31. -/
abbrev loop1 (i : Nat) : Nat := (0x7000 + i) * 256 + 9
/-- 0x7000+c:0A ERR_CODE, DMA channel c at 0x7000 + c, c = 0 to 31. -/
abbrev errCode (i : Nat) : Nat := (0x7000 + i) * 256 + 10
/-- 0x7000+c:0B ERR_ADDR, DMA channel c at 0x7000 + c, c = 0 to 31. -/
abbrev errAddr (i : Nat) : Nat := (0x7000 + i) * 256 + 11
/-- 0x7000+c:0C SIG_CODE, DMA channel c at 0x7000 + c, c = 0 to 31. -/
abbrev sigCode (i : Nat) : Nat := (0x7000 + i) * 256 + 12
/-- 0x7000+c:0D CH_FLAGS, DMA channel c at 0x7000 + c, c = 0 to 31. -/
abbrev chFlags (i : Nat) : Nat := (0x7000 + i) * 256 + 13
/-- 0x7000+c:0E CH_BYTES, DMA channel c at 0x7000 + c, c = 0 to 31. -/
abbrev chBytes (i : Nat) : Nat := (0x7000 + i) * 256 + 14
/-- 0x7000+c:0F CH_CMD_STATE, DMA channel c at 0x7000 + c, c = 0 to 31. -/
abbrev chCmdState (i : Nat) : Nat := (0x7000 + i) * 256 + 15
/-- 0x7100:01 DMA_BUSY, DMA, package. -/
abbrev dmaBusy : Nat := 0x7100 * 256 + 1
/-- 0x7100:02 SRAM_CORR, DMA, package. -/
abbrev sramCorr : Nat := 0x7100 * 256 + 2
/-- 0x7100:03 SRAM_UNCORR, DMA, package. -/
abbrev sramUncorr : Nat := 0x7100 * 256 + 3
/-! ### Keys: 20_event_router.md -/
/-- 0x7800+(r div 128):01 to :80 ROUTE, Route entries. -/
abbrev route (i : Nat) (j : Nat) : Nat := (0x7800 + i) * 256 + 1 + j
/-- 0x7808+(r div 128):01 to :80 ROUTE_FLAGS, Route entries. -/
abbrev routeFlags (i : Nat) (j : Nat) : Nat := (0x7808 + i) * 256 + 1 + j
/-- 0x7810+(s div 128):01 to :80 RAISED, Source and task-input status. -/
abbrev raised (i : Nat) (j : Nat) : Nat := (0x7810 + i) * 256 + 1 + j
/-- 0x7818+(t div 128):01 to :80 TASK_FLAGS, Source and task-input status. -/
abbrev taskFlags (i : Nat) (j : Nat) : Nat := (0x7818 + i) * 256 + 1 + j
/-- 0x7820+(t div 128):01 to :80 COINCIDE, Source and task-input status. -/
abbrev coincide (i : Nat) (j : Nat) : Nat := (0x7820 + i) * 256 + 1 + j
/-- 0x7828:01 ROUTE_LOOPS, Source and task-input status. -/
abbrev routeLoops : Nat := 0x7828 * 256 + 1
/-- 0x7830:01 to :10 RELAY_DELAY, Relays, pins, slots and counters. -/
abbrev relayDelay (j : Nat) : Nat := 0x7830 * 256 + 1 + j
/-- 0x7840+i:01 EVT_PULSE, Relays, pins, slots and counters. -/
abbrev evtPulse (i : Nat) : Nat := (0x7840 + i) * 256 + 1
/-- 0x7840+i:02 EVT_POLARITY, Relays, pins, slots and counters. -/
abbrev evtPolarity (i : Nat) : Nat := (0x7840 + i) * 256 + 2
/-- 0x7850+i:01 EVT_EDGE, Relays, pins, slots and counters. -/
abbrev evtEdge (i : Nat) : Nat := (0x7850 + i) * 256 + 1
/-- 0x7850+i:02 EVT_GLITCH, Relays, pins, slots and counters. -/
abbrev evtGlitch (i : Nat) : Nat := (0x7850 + i) * 256 + 2
/-- 0x7860:01 SW_RAISE, Relays, pins, slots and counters. -/
abbrev swRaise : Nat := 0x7860 * 256 + 1
/-- 0x7870:01 to :10 QEV_SEL, Relays, pins, slots and counters. -/
abbrev qevSel (j : Nat) : Nat := 0x7870 * 256 + 1 + j
/-- 0x7880:01 to :40 EVT_COUNT, Relays, pins, slots and counters. -/
abbrev evtCount (j : Nat) : Nat := 0x7880 * 256 + 1 + j
/-! ### Keys: 21_systems_mirroring.md -/
/-- 0xA400:01 YL_ADDRESS, Yalind, package. -/
abbrev ylAddress : Nat := 0xA400 * 256 + 1
/-- 0xA400:02 YL_ETHERTYPE, Yalind, package. -/
abbrev ylEthertype : Nat := 0xA400 * 256 + 2
/-- 0xA400:03 YL_VLAN, Yalind, package. -/
abbrev ylVlan : Nat := 0xA400 * 256 + 3
/-- 0xA400:04 YL_MTU, Yalind, package. -/
abbrev ylMtu : Nat := 0xA400 * 256 + 4
/-- 0xA400:05 YL_PORTS, Yalind, package. -/
abbrev ylPorts : Nat := 0xA400 * 256 + 5
/-- 0xA400:06 YL_RETRY, Yalind, package. -/
abbrev ylRetry : Nat := 0xA400 * 256 + 6
/-- 0xA400:07 YL_RETRIES, Yalind, package. -/
abbrev ylRetries : Nat := 0xA400 * 256 + 7
/-- 0xA400:08 YL_SESSION_TIMEOUT, Yalind, package. -/
abbrev ylSessionTimeout : Nat := 0xA400 * 256 + 8
/-- 0xA400:09 MGMT_ANY, Yalind, package. -/
abbrev mgmtAny : Nat := 0xA400 * 256 + 9
/-- 0xA401:01 to :08 MGMT_PEER, Yalind, package. -/
abbrev mgmtPeer (j : Nat) : Nat := 0xA401 * 256 + 1 + j
/-- 0xA402:01 SESSIONS, Yalind, package. -/
abbrev sessions : Nat := 0xA402 * 256 + 1
/-- 0xA402:02 YL_FLAGS, Yalind, package. -/
abbrev ylFlags : Nat := 0xA402 * 256 + 2
/-- 0xA402:03 RX_DROPPED, Yalind, package. -/
abbrev rxDropped : Nat := 0xA402 * 256 + 3
/-- 0xA402:04 RETRANSMITS, Yalind, package. -/
abbrev retransmits : Nat := 0xA402 * 256 + 4
/-- 0xA402:05 SESSIONS_LOST, Yalind, package. -/
abbrev sessionsLost : Nat := 0xA402 * 256 + 5
/-- 0xA410:01 PTP_ENABLE, Time and web alignment. -/
abbrev ptpEnable : Nat := 0xA410 * 256 + 1
/-- 0xA410:02 PTP_DOMAIN, Time and web alignment. -/
abbrev ptpDomain : Nat := 0xA410 * 256 + 2
/-- 0xA410:03 PTP_TRANSPORT, Time and web alignment. -/
abbrev ptpTransport : Nat := 0xA410 * 256 + 3
/-- 0xA410:04 PTP_PORTS, Time and web alignment. -/
abbrev ptpPorts : Nat := 0xA410 * 256 + 4
/-- 0xA410:05 PTP_PRIORITY1, Time and web alignment. -/
abbrev ptpPriority1 : Nat := 0xA410 * 256 + 5
/-- 0xA410:06 PTP_PRIORITY2, Time and web alignment. -/
abbrev ptpPriority2 : Nat := 0xA410 * 256 + 6
/-- 0xA410:07 PTP_STATE, Time and web alignment. -/
abbrev ptpState : Nat := 0xA410 * 256 + 7
/-- 0xA410:08 TIME_OFFSET, Time and web alignment. -/
abbrev timeOffset : Nat := 0xA410 * 256 + 8
/-- 0xA410:09 TIME_STEP_LIMIT, Time and web alignment. -/
abbrev timeStepLimit : Nat := 0xA410 * 256 + 9
/-- 0xA410:0A TIME_STEPS, Time and web alignment. -/
abbrev timeSteps : Nat := 0xA410 * 256 + 10
/-- 0xA420:01 WEB_REF, Time and web alignment. -/
abbrev webRef : Nat := 0xA420 * 256 + 1
/-- 0xA420:02 ALIGN_TOL, Time and web alignment. -/
abbrev alignTol : Nat := 0xA420 * 256 + 2
/-- 0xA420:03 ALIGN_STATE, Time and web alignment. -/
abbrev alignState : Nat := 0xA420 * 256 + 3
/-- 0xA420:04 ALIGN_ERR, Time and web alignment. -/
abbrev alignErr : Nat := 0xA420 * 256 + 4
/-- 0xA420:05 ALIGN_FLAGS, Time and web alignment. -/
abbrev alignFlags : Nat := 0xA420 * 256 + 5
/-- 0xA420:06 DIVERGE_COUNT, Time and web alignment. -/
abbrev divergeCount : Nat := 0xA420 * 256 + 6
/-- 0xA430:01 GROUP_ID, Web group and shedding. -/
abbrev groupId : Nat := 0xA430 * 256 + 1
/-- 0xA430:02 GROUP_TIMEOUT, Web group and shedding. -/
abbrev groupTimeout : Nat := 0xA430 * 256 + 2
/-- 0xA430:03 GROUP_STATE, Web group and shedding. -/
abbrev webGroupState : Nat := 0xA430 * 256 + 3
/-- 0xA430:04 ABSENT_MASK, Web group and shedding. -/
abbrev absentMask : Nat := 0xA430 * 256 + 4
/-- 0xA431:01 to :08 MEMBER_ADDR, Web group and shedding. -/
abbrev memberAddr (j : Nat) : Nat := 0xA431 * 256 + 1 + j
/-- 0xA432:01 to :08 MEMBER_PARTNER, Web group and shedding. -/
abbrev memberPartner (j : Nat) : Nat := 0xA432 * 256 + 1 + j
/-- 0xA433:01 to :08 MEMBER_BASE, Web group and shedding. -/
abbrev memberBase (j : Nat) : Nat := 0xA433 * 256 + 1 + j
/-- 0xA440:01 to :10 SHED_PEER, Web group and shedding. -/
abbrev shedPeer (j : Nat) : Nat := 0xA440 * 256 + 1 + j
/-- 0xA441:01 SHED_PEERS_LIVE, Web group and shedding. -/
abbrev shedPeersLive : Nat := 0xA441 * 256 + 1
/-- 0xA441:02 SHED_REFUSED, Web group and shedding. -/
abbrev shedRefused : Nat := 0xA441 * 256 + 2
/-- 0xA800:01 PAIR_PEER, Mirroring. -/
abbrev pairPeer : Nat := 0xA800 * 256 + 1
/-- 0xA800:02 PAIR_ROLE, Mirroring. -/
abbrev pairRole : Nat := 0xA800 * 256 + 2
/-- 0xA800:03 PAIR_POSITION, Mirroring. -/
abbrev pairPosition : Nat := 0xA800 * 256 + 3
/-- 0xA800:04 PAIR_CMD, Mirroring. -/
abbrev pairCmd : Nat := 0xA800 * 256 + 4
/-- 0xA800:05 PAIR_STATE, Mirroring. -/
abbrev pairState : Nat := 0xA800 * 256 + 5
/-- 0xA800:06 PAIR_REFUSAL, Mirroring. -/
abbrev pairRefusal : Nat := 0xA800 * 256 + 6
/-- 0xA800:07 PAIR_GUARD, Mirroring. -/
abbrev pairGuard : Nat := 0xA800 * 256 + 7
/-- 0xA800:08 PEER_COMPLETE, Mirroring. -/
abbrev peerComplete : Nat := 0xA800 * 256 + 8
/-- 0xA800:09 PEER_EPOCH, Mirroring. -/
abbrev peerEpoch : Nat := 0xA800 * 256 + 9
/-- 0xA800:0A LAST_HEARTBEAT, Mirroring. -/
abbrev lastHeartbeat : Nat := 0xA800 * 256 + 10
/-- 0xA800:0B HB_PATHS, Mirroring. -/
abbrev hbPaths : Nat := 0xA800 * 256 + 11
/-- 0xA800:0C PAIR_FLAGS, Mirroring. -/
abbrev pairFlags : Nat := 0xA800 * 256 + 12
/-- 0xA800:0D FAILOVERS, Mirroring. -/
abbrev failovers : Nat := 0xA800 * 256 + 13
/-! ### Keys: 22_host_interfaces.md -/
/-- 0xB010+r:01 RING_WB, Rings, ring r at 0xB010 + r, r = 0 to 16. -/
abbrev ringWb (i : Nat) : Nat := (0xB010 + i) * 256 + 1
/-- 0xB010+r:02 COAL_COUNT, Rings, ring r at 0xB010 + r, r = 0 to 16. -/
abbrev coalCount (i : Nat) : Nat := (0xB010 + i) * 256 + 2
/-- 0xB010+r:03 COAL_TIME, Rings, ring r at 0xB010 + r, r = 0 to 16. -/
abbrev coalTime (i : Nat) : Nat := (0xB010 + i) * 256 + 3
/-- 0xB080+n:01 ETH_MODE, Ethernet port n at 0xB080 + n. -/
abbrev ethMode (i : Nat) : Nat := (0xB080 + i) * 256 + 1
/-- 0xB080+n:02 ETH_IPV4, Ethernet port n at 0xB080 + n. -/
abbrev ethIpv4 (i : Nat) : Nat := (0xB080 + i) * 256 + 2
/-- 0xB080+n:03 ETH_LINK, Ethernet port n at 0xB080 + n. -/
abbrev ethLink (i : Nat) : Nat := (0xB080 + i) * 256 + 3
/-- 0xB080+n:04 FEC_CORR, Ethernet port n at 0xB080 + n. -/
abbrev fecCorr (i : Nat) : Nat := (0xB080 + i) * 256 + 4
/-- 0xB080+n:05 FEC_UNCORR, Ethernet port n at 0xB080 + n. -/
abbrev fecUncorr (i : Nat) : Nat := (0xB080 + i) * 256 + 5
/-- 0xB080+n:06 RX_PAUSE, Ethernet port n at 0xB080 + n. -/
abbrev rxPause (i : Nat) : Nat := (0xB080 + i) * 256 + 6
/-- 0xB090:01 ETH_MAC_BASE, Ethernet port n at 0xB080 + n. -/
abbrev ethMacBase : Nat := 0xB090 * 256 + 1
/-- 0xB100+e:01 UD_PORT, UDP destination entry e at 0xB100 + e, e = 0 to 15. -/
abbrev udPort (i : Nat) : Nat := (0xB100 + i) * 256 + 1
/-- 0xB100+e:02 UD_MAC, UDP destination entry e at 0xB100 + e, e = 0 to 15. -/
abbrev udMac (i : Nat) : Nat := (0xB100 + i) * 256 + 2
/-- 0xB100+e:03 UD_IPV4, UDP destination entry e at 0xB100 + e, e = 0 to 15. -/
abbrev udIpv4 (i : Nat) : Nat := (0xB100 + i) * 256 + 3
/-- 0xB100+e:04 UD_DST_PORT, UDP destination entry e at 0xB100 + e, e = 0 to 15. -/
abbrev udDstPort (i : Nat) : Nat := (0xB100 + i) * 256 + 4
/-- 0xB100+e:05 UD_SRC_PORT, UDP destination entry e at 0xB100 + e, e = 0 to 15. -/
abbrev udSrcPort (i : Nat) : Nat := (0xB100 + i) * 256 + 5
/-- 0xB100+e:06 UD_VLAN, UDP destination entry e at 0xB100 + e, e = 0 to 15. -/
abbrev udVlan (i : Nat) : Nat := (0xB100 + i) * 256 + 6
/-- 0xB100+e:07 UD_DSCP, UDP destination entry e at 0xB100 + e, e = 0 to 15. -/
abbrev udDscp (i : Nat) : Nat := (0xB100 + i) * 256 + 7
/-- 0xB100+e:08 UD_MTU, UDP destination entry e at 0xB100 + e, e = 0 to 15. -/
abbrev udMtu (i : Nat) : Nat := (0xB100 + i) * 256 + 8
/-- 0x1600:01 to :20 RXPDO, EtherCAT. -/
abbrev rxpdo (j : Nat) : Nat := 0x1600 * 256 + 1 + j
/-- 0x1A00:01 to :20 TXPDO, EtherCAT. -/
abbrev txpdo (j : Nat) : Nat := 0x1A00 * 256 + 1 + j
/-- 0x1C12:01 SM2 assign, EtherCAT. -/
abbrev sm2Assign : Nat := 0x1C12 * 256 + 1
/-- 0x1C13:01 SM3 assign, EtherCAT. -/
abbrev sm3Assign : Nat := 0x1C13 * 256 + 1
/-- 0xB040:01 PD_STATUS, EtherCAT. -/
abbrev pdStatus : Nat := 0xB040 * 256 + 1
/-- 0xB0C0:01 ECAT_ALIAS, EtherCAT. -/
abbrev ecatAlias : Nat := 0xB0C0 * 256 + 1
/-- 0xB0C0:02 ECAT_WDT, EtherCAT. -/
abbrev ecatWdt : Nat := 0xB0C0 * 256 + 2
/-- 0xB0C0:03 ECAT_STATE, EtherCAT. -/
abbrev ecatState : Nat := 0xB0C0 * 256 + 3
/-- 0xB0C0:04 ECAT_FLAGS, EtherCAT. -/
abbrev ecatFlags : Nat := 0xB0C0 * 256 + 4
/-! ### Keys: 23_security.md -/
/-- 0x2300:01 FW_RUNNING, Security objects. -/
abbrev fwRunning : Nat := 0x2300 * 256 + 1
/-- 0x2300:02 FW_FALLBACK, Security objects. -/
abbrev fwFallback : Nat := 0x2300 * 256 + 2
/-- 0x2300:03 FW_PREFER, Security objects. -/
abbrev fwPrefer : Nat := 0x2300 * 256 + 3
/-- 0x2300:04 ROLLBACK, Security objects. -/
abbrev rollback : Nat := 0x2300 * 256 + 4
/-- 0x2300:05 ROLLBACK_COMMIT, Security objects. -/
abbrev rollbackCommit : Nat := 0x2300 * 256 + 5
/-- 0x2300:06 DEBUG_STATE, Security objects. -/
abbrev debugState : Nat := 0x2300 * 256 + 6
/-- 0x2300:07 FUSE_CMD, Security objects. -/
abbrev fuseCmd : Nat := 0x2300 * 256 + 7
/-- 0x2300:08 FUSE_RESULT, Security objects. -/
abbrev fuseResult : Nat := 0x2300 * 256 + 8
/-- 0x2300:09 POLICY, Security objects. -/
abbrev policy : Nat := 0x2300 * 256 + 9
/-- 0x2301+s:01 FW_VERSION, Security objects. -/
abbrev fwVersion (i : Nat) : Nat := (0x2301 + i) * 256 + 1
/-- 0x2301+s:02 FW_SVN, Security objects. -/
abbrev fwSvn (i : Nat) : Nat := (0x2301 + i) * 256 + 2
/-- 0x2301+s:03 FW_DIGEST, Security objects. -/
abbrev fwDigest (i : Nat) : Nat := (0x2301 + i) * 256 + 3
/-- 0x2301+s:04 FW_STATE, Security objects. -/
abbrev fwState (i : Nat) : Nat := (0x2301 + i) * 256 + 4
/-- 0x2303:01 FW_IMAGE, Security objects. -/
abbrev fwImage : Nat := 0x2303 * 256 + 1
/-- 0x2304+k:01 OWNER_KEY_DIGEST, Security objects. -/
abbrev ownerKeyDigest (i : Nat) : Nat := (0x2304 + i) * 256 + 1
/-- 0x2304+k:02 OWNER_KEY_STATE, Security objects. -/
abbrev ownerKeyState (i : Nat) : Nat := (0x2304 + i) * 256 + 2
/-- 0x2308:01 OWNER_KEY_BURN, Security objects. -/
abbrev ownerKeyBurn : Nat := 0x2308 * 256 + 1
/-- 0x2309:01 IDENTITY_CERT, Security objects. -/
abbrev identityCert : Nat := 0x2309 * 256 + 1
/-- 0x2309:02 IDENTITY_KEY, Security objects. -/
abbrev identityKey : Nat := 0x2309 * 256 + 2
/-- 0x230A:01 QUOTE_NONCE, Security objects. -/
abbrev quoteNonce : Nat := 0x230A * 256 + 1
/-- 0x230A:02 QUOTE, Security objects. -/
abbrev quote : Nat := 0x230A * 256 + 2
/-- 0x230B:01 DEBUG_NONCE, Security objects. -/
abbrev debugNonce : Nat := 0x230B * 256 + 1
/-- 0x230B:02 DEBUG_TOKEN, Security objects. -/
abbrev debugToken : Nat := 0x230B * 256 + 2
/-! ### Keys: 24_power_clocks_thermal.md -/
/-- 0x2100:01 VIN_A_MV, Supplies, package. -/
abbrev vinAMv : Nat := 0x2100 * 256 + 1
/-- 0x2100:02 VIN_B_MV, Supplies, package. -/
abbrev vinBMv : Nat := 0x2100 * 256 + 2
/-- 0x2100:03 SUPPLY_IN_USE, Supplies, package. -/
abbrev supplyInUse : Nat := 0x2100 * 256 + 3
/-- 0x2100:04 SUPPLY_FLAGS, Supplies, package. -/
abbrev supplyFlags : Nat := 0x2100 * 256 + 4
/-- 0x2100:05 SWITCHOVERS, Supplies, package. -/
abbrev switchovers : Nat := 0x2100 * 256 + 5
/-- 0x2100:06 INPUT_POWER, Supplies, package. -/
abbrev inputPower : Nat := 0x2100 * 256 + 6
/-- 0x2100:07 VIO_A_LEVEL, Supplies, package. -/
abbrev vioALevel : Nat := 0x2100 * 256 + 7
/-- 0x2100:08 VIO_A_MV, Supplies, package. -/
abbrev vioAMv : Nat := 0x2100 * 256 + 8
/-- 0x2100:09 VIO_B_MV, Supplies, package. -/
abbrev vioBMv : Nat := 0x2100 * 256 + 9
/-- 0x2110:01 SPREAD_ENABLE, Clocks, package. -/
abbrev spreadEnable : Nat := 0x2110 * 256 + 1
/-- 0x2110:02 CLOCK_FLAGS, Clocks, package. -/
abbrev clockFlags : Nat := 0x2110 * 256 + 2
/-- 0x2120:01 TJ, Thermal, package. -/
abbrev tj : Nat := 0x2120 * 256 + 1
/-- 0x2120:02 to :05 TJ_PD, Thermal, package. -/
abbrev tjPd (j : Nat) : Nat := 0x2120 * 256 + 2 + j
/-- 0x2120:06 TJ_HUB, Thermal, package. -/
abbrev tjHub : Nat := 0x2120 * 256 + 6
/-- 0x2120:07 TJ_WARN, Thermal, package. -/
abbrev tjWarn : Nat := 0x2120 * 256 + 7
/-- 0x2120:08 TJ_THROTTLE, Thermal, package. -/
abbrev tjThrottle : Nat := 0x2120 * 256 + 8
/-- 0x2120:09 TJ_SHUTDOWN, Thermal, package. -/
abbrev tjShutdown : Nat := 0x2120 * 256 + 9
/-- 0x2120:0A TJ_RESUME, Thermal, package. -/
abbrev tjResume : Nat := 0x2120 * 256 + 10
/-- 0x2120:0B THERM_STATE, Thermal, package. -/
abbrev thermState : Nat := 0x2120 * 256 + 11
/-- 0x2120:0C THERM_FLAGS, Thermal, package. -/
abbrev thermFlags : Nat := 0x2120 * 256 + 12
/-- 0x2120:0D THROTTLE_FRAMES, Thermal, package. -/
abbrev throttleFrames : Nat := 0x2120 * 256 + 13
/-- 0x2120:0E TJ_PEAK, Thermal, package. -/
abbrev tjPeak : Nat := 0x2120 * 256 + 14
/-- 0x2130:01 LIFE_EQUIV, Thermal, package. -/
abbrev lifeEquiv : Nat := 0x2130 * 256 + 1
/-- 0x2130:02 OP_HOURS, Thermal, package. -/
abbrev opHours : Nat := 0x2130 * 256 + 2
/-- 0x2140:01 SLEW_MARK, Slow I/O, package. -/
abbrev slewMark : Nat := 0x2140 * 256 + 1
/-- 0x2140:02 SLEW_AXIS, Slow I/O, package. -/
abbrev slewAxis : Nat := 0x2140 * 256 + 2
/-- 0x2140:03 SLEW_EVT, Slow I/O, package. -/
abbrev slewEvt : Nat := 0x2140 * 256 + 3
/-- 0x2140:04 SLEW_STATUS, Slow I/O, package. -/
abbrev slewStatus : Nat := 0x2140 * 256 + 4
/-- 0x2140:05 SLEW_FLASH, Slow I/O, package. -/
abbrev slewFlash : Nat := 0x2140 * 256 + 5
/-- 0x2141:01 AX_IN_GLITCH, Slow I/O, package. -/
abbrev axInGlitch : Nat := 0x2141 * 256 + 1

end Obj

/-- The object rows of 02_object_dictionary.md. -/
def rows_dict : List ObjRow :=
  [⟨0x1000, 0x1, 1, 0, 0, "DEVICE_TYPE", .u32, .ro, .none, .const 0, .any⟩,
   ⟨0x1008, 0x1, 1, 0, 0, "DEVICE_NAME", .string, .ro, .none, .const 0, .bytes 0 255 1⟩,
   ⟨0x1009, 0x1, 1, 0, 0, "HW_VERSION", .string, .ro, .none, .const 0, .bytes 0 255 1⟩,
   ⟨0x100A, 0x1, 1, 0, 0, "SW_VERSION", .string, .ro, .none, .const 0, .bytes 0 255 1⟩,
   ⟨0x1018, 0x1, 1, 1, 1, "VENDOR_ID", .u32, .ro, .none, .const 2684, .any⟩,
   ⟨0x1018, 0x1, 1, 2, 2, "PRODUCT_CODE", .u32, .ro, .none, .calc .productCode, .any⟩,
   ⟨0x1018, 0x1, 1, 3, 3, "REVISION", .u32, .ro, .none, .calc .revision, .any⟩,
   ⟨0x1018, 0x1, 1, 4, 4, "SERIAL", .u32, .ro, .none, .calc .serial, .any⟩,
   ⟨0x1F80, 0x1, 1, 1, 1, "RESULT_PCIE", .u16, .ro, .none, .const 0, .any⟩,
   ⟨0x1F80, 0x1, 1, 2, 2, "RESULT_COE", .u16, .ro, .none, .const 0, .any⟩,
   ⟨0x1F80, 0x1, 1, 3, 3, "RESULT_YALIND", .u16, .ro, .none, .const 0, .any⟩,
   ⟨0x1F80, 0x1, 1, 4, 4, "REFUSED_OBJECT", .u32, .ro, .none, .const 0, .any⟩,
   ⟨0x1F80, 0x1, 1, 5, 5, "REFUSED_COUNT", .u32, .rw, .imm, .const 0, .counter⟩,
   ⟨0x1F81, 0x1, 3, 1, 1, "GROUP_CTRL", .u8, .wo, .imm, .const 0, .codes [1, 2, 3]⟩,
   ⟨0x1F81, 0x1, 3, 2, 2, "GROUP_STATE", .u8, .ro, .none, .const 0, .any⟩,
   ⟨0x1F81, 0x1, 3, 3, 3, "GROUP_COUNT", .u16, .ro, .none, .const 0, .any⟩,
   ⟨0x1F81, 0x1, 3, 4, 4, "GROUP_RESULT", .u16, .ro, .none, .const 0, .any⟩,
   ⟨0x1F88, 0x1, 1, 1, 1, "HOST_MARK", .u64, .rw, .imm, .const 0, .any⟩,
   ⟨0x1F90, 0x1, 1, 1, 1, "DT_TARGET", .u32, .rw, .imm, .const 0, .bits 0xFFFFFF⟩,
   ⟨0x1F90, 0x1, 1, 2, 2, "DT_HOST_ADDR", .u64, .rw, .imm, .const 0, .nums [(0, 18446744073709551615)] 8 false false⟩,
   ⟨0x1F90, 0x1, 1, 3, 3, "DT_LENGTH", .u32, .rw, .imm, .const 0, .nums [(0, 268435455)] 1 false false⟩,
   ⟨0x1F90, 0x1, 1, 4, 4, "DT_DIRECTION", .u8, .rw, .imm, .const 0, .codes [0, 1]⟩,
   ⟨0x1F90, 0x1, 1, 5, 5, "DT_CTRL", .u8, .wo, .imm, .const 0, .codes [1, 2]⟩,
   ⟨0x1F90, 0x1, 1, 6, 6, "DT_STATUS", .u8, .ro, .none, .const 0, .any⟩,
   ⟨0x1F90, 0x1, 1, 7, 7, "DT_RESULT", .u16, .ro, .none, .const 0, .any⟩,
   ⟨0x1F90, 0x1, 1, 8, 8, "DT_CRC", .u32, .ro, .none, .const 0, .any⟩,
   ⟨0x1F90, 0x1, 1, 9, 9, "DT_DONE_LENGTH", .u32, .ro, .none, .const 0, .any⟩,
   ⟨0x2200, 0x1, 1, 1, 1, "HEAD_SEQ", .u64, .ro, .none, .const 0, .any⟩,
   ⟨0x2200, 0x1, 1, 2, 2, "TAIL_SEQ", .u64, .ro, .none, .const 0, .any⟩,
   ⟨0x2200, 0x1, 1, 3, 3, "JOURNAL_ID", .u64, .ro, .none, .const 0, .any⟩,
   ⟨0x2200, 0x1, 1, 4, 4, "WARM_RESETS", .u32, .ro, .none, .const 0, .any⟩,
   ⟨0x2200, 0x1, 1, 5, 5, "LAST_MIRROR_SEQ", .u64, .ro, .none, .const 0, .any⟩,
   ⟨0x2200, 0x1, 1, 6, 6, "OVERWRITTEN", .u64, .ro, .none, .const 0, .any⟩,
   ⟨0x2202, 0x1, 1, 1, 1, "READ_FIRST", .u64, .rw, .imm, .const 1, .any⟩,
   ⟨0x2202, 0x1, 1, 2, 2, "READ_COUNT", .u32, .rw, .imm, .const 65536, .nums [(1, 65536)] 1 false false⟩,
   ⟨0x2202, 0x1, 1, 3, 3, "READ_ENTRIES", .domain, .ro, .none, .const 0, .bytes 64 4194368 1⟩]
/-- The object rows of 03_modes_startup.md. -/
def rows_modes : List ObjRow :=
  [⟨0x2000, 0x1, 1, 1, 1, "MODE", .u8, .ro, .none, .const 0, .any⟩,
   ⟨0x2000, 0x1, 1, 2, 2, "RUN_CMD", .u8, .wo, .frame, .const 0, .codes [1, 2]⟩,
   ⟨0x2000, 0x1, 1, 3, 3, "CAL_CMD", .u8, .wo, .imm, .const 0, .codes [1, 2, 3, 4]⟩,
   ⟨0x2000, 0x1, 1, 4, 4, "RESET_CMD", .u16, .wo, .imm, .const 0, .codes [42435]⟩,
   ⟨0x2000, 0x1, 1, 5, 5, "CMD_RESULT", .u8, .ro, .none, .const 0, .any⟩,
   ⟨0x2000, 0x1, 1, 6, 6, "MODE_CAUSE", .u8, .ro, .none, .const 0, .any⟩,
   ⟨0x2000, 0x1, 1, 7, 7, "MODE_FRAME", .u64, .ro, .none, .const 0, .any⟩,
   ⟨0x2000, 0x1, 1, 8, 8, "MODE_TIME", .u64, .ro, .none, .const 0, .any⟩,
   ⟨0x2000, 0x1, 1, 9, 9, "SAFE_CAUSE", .u8, .ro, .none, .const 0, .any⟩,
   ⟨0x2001, 0x1, 1, 1, 1, "COMMIT", .u8, .wo, .imm, .const 0, .codes [1]⟩,
   ⟨0x2001, 0x1, 1, 2, 2, "CONFIG_GEN", .u32, .ro, .none, .const 0, .any⟩,
   ⟨0x2001, 0x1, 1, 3, 3, "REFUSAL", .u16, .ro, .none, .const 0, .any⟩,
   ⟨0x2001, 0x1, 1, 4, 4, "REFUSAL_DETAIL", .u32, .ro, .none, .const 0, .any⟩,
   ⟨0x2001, 0x1, 1, 5, 5, "REFUSAL_MASK", .u16, .ro, .none, .const 0, .any⟩,
   ⟨0x2001, 0x1, 1, 6, 6, "ALLOW_UNCAL", .bool, .rws, .commit, .const 0, .any⟩,
   ⟨0x2001, 0x1, 1, 7, 7, "AUTO_INSPECT", .bool, .rws, .commit, .const 0, .any⟩,
   ⟨0x2002, 0x1, 1, 1, 1, "LOAD_PROFILE", .u8, .wo, .imm, .const 0, .nums [(0, 3)] 1 false false⟩,
   ⟨0x2002, 0x1, 1, 2, 2, "PROF_SEL_PINS", .u8, .ro, .none, .const 0, .any⟩,
   ⟨0x2002, 0x1, 1, 3, 3, "ACTIVE_PROFILE", .u8, .ro, .none, .const 255, .any⟩,
   ⟨0x2004, 0x1, 1, 1, 1, "IDLE_DELAY", .u32, .rw, .imm, .const 60000, .nums [(0, 0), (1000, 86400000)] 1 false false⟩,
   ⟨0x2004, 0x1, 1, 2, 2, "IDLE_STATE", .u8, .ro, .none, .const 0, .any⟩,
   ⟨0x2010, 0x1, 4, 1, 1, "PROFILE_IMAGE", .domain, .wo, .imm, .const 0, .bytes 96 33554432 1⟩,
   ⟨0x2010, 0x1, 4, 2, 2, "PROFILE_STATE", .u8, .ro, .none, .const 0, .any⟩,
   ⟨0x2010, 0x1, 4, 3, 3, "PROFILE_DIGEST", .domain, .ro, .none, .const 0, .bytes 32 32 1⟩,
   ⟨0x2010, 0x1, 4, 4, 4, "PROFILE_LENGTH", .u32, .ro, .none, .const 0, .any⟩,
   ⟨0x2010, 0x1, 4, 5, 5, "PROFILE_ERASE", .u8, .wo, .imm, .const 0, .codes [1]⟩]
/-- The object rows of 04_web_position.md, part 1. -/
def rows_position1 : List ObjRow :=
  [⟨0x8000, 0x1, 16, 1, 1, "MODE", .u8, .rws, .commit, .const 0, .nums [(0, 3)] 1 false false⟩,
   ⟨0x8000, 0x1, 16, 2, 2, "EDGE_FILTER", .u8, .rws, .commit, .const 0, .codes [0, 1]⟩,
   ⟨0x8000, 0x1, 16, 3, 3, "MIN_EDGE", .u16, .rws, .commit, .const 8, .nums [(2, 4000)] 1 false false⟩,
   ⟨0x8000, 0x1, 16, 4, 4, "GLITCH", .u8, .rw, .imm, .const 2, .nums [(1, 16)] 1 false false⟩,
   ⟨0x8000, 0x1, 16, 5, 5, "DIRECTION", .bool, .rws, .commit, .const 0, .any⟩,
   ⟨0x8000, 0x1, 16, 6, 6, "COUNT", .i64, .rw, .imm, .const 0, .any⟩,
   ⟨0x8000, 0x1, 16, 7, 7, "LIMIT_MIN", .i64, .rw, .imm, .const (-9223372036854775807), .any⟩,
   ⟨0x8000, 0x1, 16, 8, 8, "LIMIT_MAX", .i64, .rw, .imm, .const 9223372036854775807, .any⟩,
   ⟨0x8000, 0x1, 16, 9, 9, "Z_GATE", .u8, .rws, .commit, .const 0, .codes [0, 1, 2, 3, 4]⟩,
   ⟨0x8000, 0x1, 16, 10, 10, "SSI_BITS", .u8, .rws, .commit, .const 25, .nums [(8, 48)] 1 false false⟩,
   ⟨0x8000, 0x1, 16, 11, 11, "SSI_CLOCK", .u32, .rws, .commit, .const 1000000, .nums [(100000, 10000000)] 1 false false⟩,
   ⟨0x8000, 0x1, 16, 12, 12, "SSI_CODE", .u8, .rws, .commit, .const 0, .codes [0, 1]⟩,
   ⟨0x8000, 0x1, 16, 13, 13, "SSI_PERIOD", .u32, .rws, .commit, .const 10000, .nums [(1000, 1000000)] 1 false false⟩,
   ⟨0x8000, 0x1, 16, 14, 14, "SPEED_EDGES", .u16, .rw, .imm, .const 16, .nums [(1, 256)] 1 false false⟩,
   ⟨0x8000, 0x1, 16, 15, 15, "SPEED_TIMEOUT", .u32, .rw, .imm, .const 10000, .nums [(100, 1000000)] 1 false false⟩,
   ⟨0x8020, 0x1, 16, 1, 1, "STATUS", .u16, .rw, .w1c, .const 0, .bits 0xFFFF⟩,
   ⟨0x8020, 0x1, 16, 2, 2, "SPEED", .i64, .ro, .none, .const 0, .any⟩,
   ⟨0x8020, 0x1, 16, 3, 3, "MOTION", .u8, .ro, .none, .const 0, .any⟩,
   ⟨0x8020, 0x1, 16, 4, 4, "FAULT_COUNT", .u32, .rw, .imm, .const 0, .counter⟩,
   ⟨0x8020, 0x1, 16, 5, 5, "RAW_STATE", .u8, .ro, .none, .const 0, .any⟩,
   ⟨0x8040, 0x1, 16, 1, 1, "INDEX_MODE", .u8, .rw, .imm, .const 0, .codes [0, 1, 2]⟩,
   ⟨0x8040, 0x1, 16, 2, 2, "INDEX_PERIOD", .u32, .rws, .commit, .const 0, .nums [(0, 4294967295)] 1 false false⟩,
   ⟨0x8040, 0x1, 16, 3, 3, "INDEX_REF", .i64, .rw, .imm, .const 0, .any⟩,
   ⟨0x8040, 0x1, 16, 4, 4, "INDEX_REF_VALID", .bool, .rw, .imm, .const 0, .any⟩,
   ⟨0x8040, 0x1, 16, 5, 5, "INDEX_TOL", .u16, .rw, .imm, .const 0, .nums [(0, 1023)] 1 false false⟩,
   ⟨0x8040, 0x1, 16, 6, 6, "INDEX_ERR", .i32, .ro, .none, .const 0, .any⟩,
   ⟨0x8040, 0x1, 16, 7, 7, "INDEX_AT", .i64, .ro, .none, .const 0, .any⟩,
   ⟨0x8040, 0x1, 16, 8, 8, "SLIP_COUNT", .u32, .rw, .imm, .const 0, .counter⟩,
   ⟨0x8100, 0x1, 1, 1, 1, "WEB_SOURCE", .u8, .rws, .commit, .const 0, .nums [(0, 16)] 1 false false⟩,
   ⟨0x8100, 0x1, 1, 2, 2, "SCALE_NUM", .u32, .rws, .commit, .const 1, .nums [(1, 1048576)] 1 false false⟩,
   ⟨0x8100, 0x1, 1, 3, 3, "SCALE_DEN", .u32, .rws, .commit, .const 1, .nums [(1, 1048576)] 1 false false⟩,
   ⟨0x8100, 0x1, 1, 4, 4, "MAX_LINE_RATE", .u32, .rws, .commit, .const 100000, .nums [(1000, 2000000)] 1 false false⟩,
   ⟨0x8100, 0x1, 1, 5, 5, "FRAME_LENGTH", .u32, .rws, .commit, .const 4096, .nums [(1024, 65536)] 256 false false⟩,
   ⟨0x8100, 0x1, 1, 6, 6, "FREE_SPEED", .u32, .rw, .imm, .const 0, .nums [(0, 4294967295)] 1 false false⟩,
   ⟨0x8100, 0x1, 1, 7, 7, "LAG_TOL", .u16, .rw, .imm, .const 256, .nums [(64, 65535)] 1 false false⟩,
   ⟨0x8101, 0x1, 1, 1, 1, "POSITION", .u64, .ro, .none, .const 0, .any⟩,
   ⟨0x8101, 0x1, 1, 2, 2, "TRIGGER_INDEX", .u64, .ro, .none, .const 0, .any⟩,
   ⟨0x8101, 0x1, 1, 3, 3, "FRAME", .u64, .ro, .none, .const 0, .any⟩,
   ⟨0x8101, 0x1, 1, 4, 4, "LINE_RATE", .u32, .ro, .none, .const 0, .any⟩,
   ⟨0x8101, 0x1, 1, 5, 5, "LAG", .i32, .ro, .none, .const 0, .any⟩]
/-- The object rows of 04_web_position.md, part 2. -/
def rows_position2 : List ObjRow :=
  [⟨0x8101, 0x1, 1, 6, 6, "WEB_STATUS", .u8, .rw, .w1c, .const 0, .bits 0x7⟩,
   ⟨0x8101, 0x1, 1, 7, 7, "LAG_LINES", .u64, .rw, .imm, .const 0, .counter⟩,
   ⟨0x8101, 0x1, 1, 8, 8, "TRIGGER_HWM", .u64, .ro, .none, .const 0, .any⟩]
/-- All rows of 04_web_position.md. -/
def rows_position : List ObjRow := rows_position1 ++ rows_position2
/-- The object rows of 05_camera_lanes.md. -/
def rows_lanes : List ObjRow :=
  [⟨0x3400, 0x8, 128, 1, 1, "RATE", .u8, .rws, .commit, .const 0, .nums [(0, 3), (16, 22)] 1 false false⟩,
   ⟨0x3400, 0x8, 128, 2, 2, "RX_INVERT", .bool, .rws, .commit, .const 0, .any⟩,
   ⟨0x3400, 0x8, 128, 3, 3, "TX_INVERT", .bool, .rws, .commit, .const 0, .any⟩,
   ⟨0x3400, 0x8, 128, 4, 4, "TX_AMPLITUDE", .u8, .rw, .imm, .const 10, .nums [(0, 15)] 1 false false⟩,
   ⟨0x3400, 0x8, 128, 5, 5, "TX_PRE", .u8, .rw, .imm, .const 0, .nums [(0, 7)] 1 false false⟩,
   ⟨0x3400, 0x8, 128, 6, 6, "TX_POST", .u8, .rw, .imm, .const 4, .nums [(0, 15)] 1 false false⟩,
   ⟨0x3400, 0x8, 128, 7, 7, "RX_EQ_MODE", .u8, .rw, .imm, .const 0, .codes [0, 1, 2]⟩,
   ⟨0x3400, 0x8, 128, 8, 8, "RX_CTLE", .u8, .rw, .imm, .const 12, .nums [(0, 31)] 1 false false⟩,
   ⟨0x3400, 0x8, 128, 9, 9, "ALIGN_MODE", .u8, .rw, .imm, .const 0, .codes [0, 1]⟩,
   ⟨0x3401, 0x8, 128, 1, 1, "BITSLIP", .u8, .wo, .imm, .const 0, .codes [1]⟩,
   ⟨0x3401, 0x8, 128, 2, 2, "SLIP_POS", .u8, .ro, .none, .const 0, .any⟩,
   ⟨0x3401, 0x8, 128, 3, 3, "DESKEW_TAP", .u8, .rw, .imm, .const 0, .nums [(0, 31)] 1 false false⟩,
   ⟨0x3401, 0x8, 128, 4, 4, "MARKER_LEAD", .u8, .ro, .none, .const 0, .any⟩,
   ⟨0x3401, 0x8, 128, 5, 5, "LANE_ID", .u8, .ro, .none, .const 255, .any⟩,
   ⟨0x3402, 0x8, 128, 1, 1, "STATE", .u8, .ro, .none, .const 0, .any⟩,
   ⟨0x3402, 0x8, 128, 2, 2, "FLAGS", .u16, .rw, .w1c, .const 0, .bits 0xFFFF⟩,
   ⟨0x3402, 0x8, 128, 3, 3, "LOCK_LOSS", .u32, .rw, .imm, .const 0, .counter⟩,
   ⟨0x3402, 0x8, 128, 4, 4, "SH_ERR", .u64, .rw, .imm, .const 0, .counter⟩,
   ⟨0x3402, 0x8, 128, 5, 5, "BIP_ERR", .u64, .rw, .imm, .const 0, .counter⟩,
   ⟨0x3402, 0x8, 128, 6, 6, "CODE_ERR", .u64, .rw, .imm, .const 0, .counter⟩,
   ⟨0x3403, 0x8, 128, 1, 1, "LANE_CMD", .u8, .wo, .imm, .const 0, .codes [1, 4, 5]⟩,
   ⟨0x3403, 0x8, 128, 2, 2, "CMD_STATE", .u8, .ro, .none, .const 0, .any⟩,
   ⟨0x3404, 0x8, 128, 1, 1, "PRBS_SEL", .u8, .rw, .imm, .const 0, .codes [0, 1]⟩,
   ⟨0x3404, 0x8, 128, 2, 2, "PRBS_LOCK", .bool, .ro, .none, .const 0, .any⟩,
   ⟨0x3404, 0x8, 128, 3, 3, "PRBS_BITS", .u64, .rw, .imm, .const 0, .counter⟩,
   ⟨0x3404, 0x8, 128, 4, 4, "PRBS_ERRORS", .u64, .rw, .imm, .const 0, .counter⟩,
   ⟨0xC000, 0x1, 128, 1, 1, "EYE_CTRL", .u8, .wo, .imm, .const 0, .codes [1, 2, 3]⟩,
   ⟨0xC000, 0x1, 128, 2, 2, "EYE_VOFF", .i32, .rw, .imm, .const 0, .nums [((-127), 127)] 1 false false⟩,
   ⟨0xC000, 0x1, 128, 3, 3, "EYE_PHASE", .i32, .rw, .imm, .const 0, .nums [((-64), 63)] 1 false false⟩,
   ⟨0xC000, 0x1, 128, 4, 4, "EYE_DWELL", .u8, .rw, .imm, .const 24, .nums [(16, 40)] 1 false false⟩,
   ⟨0xC000, 0x1, 128, 5, 5, "EYE_STATUS", .u8, .ro, .none, .const 0, .any⟩,
   ⟨0xC000, 0x1, 128, 6, 6, "EYE_BITS", .u64, .ro, .none, .const 0, .any⟩,
   ⟨0xC000, 0x1, 128, 7, 7, "EYE_ERRORS", .u64, .ro, .none, .const 0, .any⟩,
   ⟨0xC000, 0x1, 128, 8, 8, "EYE_MAP", .domain, .ro, .none, .const 0, .bytes 130592 130592 1⟩,
   ⟨0xC000, 0x1, 128, 9, 9, "EYE_POINTS", .u16, .ro, .none, .const 0, .any⟩]
/-- The object rows of 06_camera_ports.md. -/
def rows_ports : List ObjRow :=
  [⟨0x3000, 0x20, 32, 1, 1, "ENABLE", .bool, .rws, .commit, .const 0, .any⟩,
   ⟨0x3000, 0x20, 32, 2, 2, "PROTOCOL", .u8, .rws, .commit, .const 0, .codes [0, 1]⟩,
   ⟨0x3000, 0x20, 32, 3, 3, "LANES", .u8, .rws, .commit, .const 4, .codes [1, 2, 4, 8]⟩,
   ⟨0x3000, 0x20, 32, 4, 4, "DEPTH", .u8, .rws, .commit, .const 12, .codes [8, 10, 12, 14, 16]⟩,
   ⟨0x3000, 0x20, 32, 5, 5, "TAG_COUNT", .u8, .rws, .commit, .const 1, .nums [(1, 8)] 1 false false⟩,
   ⟨0x3000, 0x20, 32, 6, 6, "FIELD_MODE", .u8, .rws, .commit, .const 0, .codes [0, 1, 2]⟩,
   ⟨0x3000, 0x20, 32, 7, 7, "FIELD_COUNT", .u8, .rws, .commit, .const 1, .nums [(1, 8)] 1 false false⟩,
   ⟨0x3000, 0x20, 32, 8, 8, "FIELD_PHASE", .u8, .rws, .commit, .const 0, .any⟩,
   ⟨0x3000, 0x20, 32, 9, 9, "FILL", .u16, .rw, .line, .const 0, .any⟩,
   ⟨0x3000, 0x20, 32, 10, 10, "LINE_TIMEOUT", .u32, .rw, .imm, .const 100000, .nums [(1000, 10000000)] 1 false false⟩,
   ⟨0x3000, 0x20, 32, 11, 11, "LOST_FRAMES", .u8, .rw, .imm, .const 2, .nums [(1, 255)] 1 false false⟩,
   ⟨0x3000, 0x20, 32, 12, 12, "IDENT_CHECK", .u8, .rws, .commit, .const 0, .codes [0, 1]⟩,
   ⟨0x3000, 0x20, 32, 13, 13, "EXPECT_MODEL", .string, .rws, .commit, .const 0, .bytes 0 32 1⟩,
   ⟨0x3001, 0x20, 32, 1, 8, "TAG_PIXELS", .u16, .rws, .commit, .const 0, .nums [(0, 0), (16, 32768)] 16 false false⟩,
   ⟨0x3002, 0x20, 32, 1, 1, "PORT_STATE", .u8, .ro, .none, .const 0, .any⟩,
   ⟨0x3002, 0x20, 32, 2, 2, "PORT_FLAGS", .u16, .rw, .w1c, .const 0, .bits 0xFFFF⟩,
   ⟨0x3002, 0x20, 32, 3, 3, "LINES_OK", .u64, .rw, .imm, .const 0, .counter⟩,
   ⟨0x3002, 0x20, 32, 4, 4, "SHORT_LINE", .u32, .rw, .imm, .const 0, .counter⟩,
   ⟨0x3002, 0x20, 32, 5, 5, "LONG_LINE", .u32, .rw, .imm, .const 0, .counter⟩,
   ⟨0x3002, 0x20, 32, 6, 6, "MISSING_LINE", .u32, .rw, .imm, .const 0, .counter⟩,
   ⟨0x3002, 0x20, 32, 7, 7, "SURPLUS_LINE", .u32, .rw, .imm, .const 0, .counter⟩,
   ⟨0x3002, 0x20, 32, 8, 8, "CRC_ERR", .u32, .rw, .imm, .const 0, .counter⟩,
   ⟨0x3002, 0x20, 32, 9, 9, "ECHO_ERR", .u32, .rw, .imm, .const 0, .counter⟩,
   ⟨0x3002, 0x20, 32, 10, 10, "FORMAT_ERR", .u32, .rw, .imm, .const 0, .counter⟩,
   ⟨0x3002, 0x20, 32, 11, 11, "FIFO_PEAK", .u16, .rw, .imm, .const 0, .counter⟩,
   ⟨0x3002, 0x20, 32, 12, 12, "LAST_WEB_LINE", .u64, .ro, .none, .const 0, .any⟩,
   ⟨0x3002, 0x20, 32, 13, 13, "FOUND_MODEL", .string, .ro, .none, .const 0, .bytes 0 255 1⟩,
   ⟨0x3002, 0x20, 32, 14, 14, "FOUND_SERIAL", .string, .ro, .none, .const 0, .bytes 0 255 1⟩,
   ⟨0x3002, 0x20, 32, 15, 15, "CXP_TRIG_LATENCY", .u32, .ro, .none, .const 0, .any⟩,
   ⟨0x3003, 0x20, 32, 1, 1, "REG_ADDR", .u32, .rw, .imm, .const 0, .nums [(0, 4294967295)] 4 false false⟩,
   ⟨0x3003, 0x20, 32, 2, 2, "REG_LENGTH", .u16, .rw, .imm, .const 4, .nums [(4, 1024)] 4 false false⟩,
   ⟨0x3003, 0x20, 32, 3, 3, "REG_DATA", .domain, .rw, .imm, .const 0, .bytes 0 268435455 1⟩,
   ⟨0x3003, 0x20, 32, 4, 4, "REG_CMD", .u8, .wo, .imm, .const 0, .codes [1, 2]⟩,
   ⟨0x3003, 0x20, 32, 5, 5, "REG_STATUS", .u8, .ro, .none, .const 0, .any⟩,
   ⟨0x3003, 0x20, 32, 6, 6, "REG_RESULT", .u32, .ro, .none, .const 0, .any⟩,
   ⟨0x3004, 0x20, 32, 1, 1, "PORT_CMD", .u8, .wo, .frame, .const 0, .codes [1, 2]⟩,
   ⟨0x3004, 0x20, 32, 2, 2, "PORT_CMD_STATE", .u8, .ro, .none, .const 0, .any⟩,
   ⟨0x3004, 0x20, 32, 3, 3, "SERVICE_IMAGE", .domain, .rw, .imm, .const 0, .bytes 8 1048576 1⟩]
/-- The object rows of 07_fuller_line_correction.md. -/
def rows_fuller : List ObjRow :=
  [⟨0x4000, 0x8, 32, 1, 1, "OUT_DEPTH", .u8, .rws, .commit, .const 0, .codes [0, 8, 12, 16]⟩,
   ⟨0x4000, 0x8, 32, 2, 2, "CORR_BYPASS", .u8, .rwl, .span, .const 0, .bits 0xF⟩,
   ⟨0x4000, 0x8, 32, 3, 3, "ACTIVE_GEN", .u32, .ro, .none, .const 0, .any⟩,
   ⟨0x4000, 0x8, 32, 4, 4, "PENDING_GEN", .u32, .ro, .none, .const 0, .any⟩,
   ⟨0x4000, 0x8, 32, 5, 5, "SWITCH_FRAME", .u64, .ro, .none, .const 281474976710655, .any⟩,
   ⟨0x4000, 0x8, 32, 6, 6, "CLIP_HIGH", .u64, .rw, .imm, .const 0, .counter⟩,
   ⟨0x4000, 0x8, 32, 7, 7, "DEAD_PIXELS", .u32, .ro, .none, .const 0, .any⟩,
   ⟨0x4000, 0x8, 32, 8, 8, "STORE_CORR", .u32, .rw, .imm, .const 0, .counter⟩,
   ⟨0x4000, 0x8, 32, 9, 9, "STORE_UNCORR", .u32, .rw, .imm, .const 0, .counter⟩,
   ⟨0x4001, 0x8, 32, 1, 64, "LUT_SEL", .u8, .rwl, .span, .const 255, .nums [(0, 63), (255, 255)] 1 false false⟩,
   ⟨0x4002, 0x8, 32, 1, 8, "DGAIN", .u16, .rwl, .span, .const 4096, .nums [(0, 65535)] 1 false false⟩,
   ⟨0x4100, 0x1, 256, 1, 1, "LUT_TABLE", .domain, .rw, .span, .const 0, .bytes 2058 2058 1⟩,
   ⟨0x4200, 0x1, 4, 1, 1, "STORE_USED", .u32, .ro, .none, .const 0, .any⟩,
   ⟨0x4200, 0x1, 4, 2, 2, "STALL_CLOCKS", .u64, .rw, .imm, .const 0, .counter⟩,
   ⟨0x4200, 0x1, 4, 3, 3, "OUT_BUF_PEAK", .u16, .rw, .imm, .const 0, .counter⟩,
   ⟨0x4200, 0x1, 4, 4, 4, "PIPE_LOAD", .u16, .ro, .none, .const 0, .any⟩]
/-- The object rows of 08_calibration.md, part 1. -/
def rows_calibration1 : List ObjRow :=
  [⟨0x4800, 0x1, 1, 1, 1, "CAL_COMMIT", .u32, .wo, .span, .const 0, .any⟩,
   ⟨0x4800, 0x1, 1, 2, 2, "CAL_PORT_MASK", .u32, .rw, .imm, .const 4294967295, .any⟩,
   ⟨0x4800, 0x1, 1, 3, 3, "CAL_TRIG_SOURCE", .u8, .rw, .imm, .const 0, .codes [0, 1]⟩,
   ⟨0x4800, 0x1, 1, 4, 4, "CAL_LINE_RATE", .u32, .rw, .imm, .const 10000, .nums [(1000, 4294967295)] 1 false false⟩,
   ⟨0x4800, 0x1, 1, 5, 5, "CAL_CONFIRM", .u8, .wo, .imm, .const 0, .codes [1, 2]⟩,
   ⟨0x4800, 0x1, 1, 6, 6, "REF_TIMEOUT", .u32, .rw, .imm, .const 60000, .nums [(1000, 3600000)] 1 false false⟩,
   ⟨0x4800, 0x1, 1, 7, 7, "CAL_STATE", .u8, .ro, .none, .const 0, .any⟩,
   ⟨0x4800, 0x1, 1, 8, 8, "NEXT_GEN", .u32, .ro, .none, .const 1, .any⟩,
   ⟨0x4801, 0x1, 1, 1, 1, "TRAV_AXIS", .u8, .rw, .imm, .const 255, .nums [(0, 15), (255, 255)] 1 false false⟩,
   ⟨0x4801, 0x1, 1, 2, 2, "TRAV_PARK", .i64, .rw, .imm, .const 0, .any⟩,
   ⟨0x4801, 0x1, 1, 3, 3, "TRAV_START", .i64, .rw, .imm, .const 0, .any⟩,
   ⟨0x4801, 0x1, 1, 4, 4, "TRAV_STEP", .i64, .rw, .imm, .const 0, .any⟩,
   ⟨0x4801, 0x1, 1, 5, 5, "TRAV_STOPS", .u16, .rw, .imm, .const 1, .nums [(1, 256)] 1 false false⟩,
   ⟨0x4801, 0x1, 1, 6, 6, "SETTLE_LINES", .u32, .rw, .imm, .const 1024, .nums [(0, 65536)] 1 false false⟩,
   ⟨0x4810, 0x1, 32, 1, 1, "PCAL_CMD", .u8, .wo, .frame, .const 0, .codes [1, 2, 4]⟩,
   ⟨0x4810, 0x1, 32, 2, 2, "WORK_CMD", .u8, .wo, .imm, .const 0, .codes [1, 2, 3]⟩,
   ⟨0x4810, 0x1, 32, 3, 3, "ACC_LINES", .u8, .rw, .imm, .const 12, .nums [(8, 16)] 1 false false⟩,
   ⟨0x4810, 0x1, 32, 4, 4, "PEDESTAL", .u16, .rw, .imm, .const 0, .nums [(0, 4096)] 1 false false⟩,
   ⟨0x4810, 0x1, 32, 5, 5, "FLAT_TARGET", .u16, .rw, .imm, .const 0, .nums [(0, 65535)] 1 false false⟩,
   ⟨0x4810, 0x1, 32, 6, 6, "HOT_LIMIT", .u16, .rw, .imm, .const 2048, .nums [(1, 65535)] 1 false false⟩,
   ⟨0x4810, 0x1, 32, 7, 7, "DEFECT_DEV", .q0, .rw, .imm, .const 16384, .nums [(1, 65535)] 1 false false⟩,
   ⟨0x4810, 0x1, 32, 8, 8, "DARK_MAX", .u16, .rw, .imm, .const 8192, .nums [(0, 65535)] 1 false false⟩,
   ⟨0x4810, 0x1, 32, 9, 9, "FLAT_MIN", .u16, .rw, .imm, .const 8192, .nums [(1, 65535)] 1 false false⟩,
   ⟨0x4810, 0x1, 32, 10, 10, "PCAL_STATE", .u8, .ro, .none, .const 0, .any⟩,
   ⟨0x4810, 0x1, 32, 11, 11, "CAL_RESULT", .u8, .ro, .none, .const 0, .any⟩,
   ⟨0x4810, 0x1, 32, 12, 12, "WORK_STATE", .u8, .ro, .none, .const 0, .any⟩,
   ⟨0x4810, 0x1, 32, 13, 13, "CAL_FIRST_FRAME", .u64, .ro, .none, .const 0, .any⟩,
   ⟨0x4810, 0x1, 32, 14, 14, "CAL_LAST_FRAME", .u64, .ro, .none, .const 0, .any⟩,
   ⟨0x4810, 0x1, 32, 15, 15, "FOUND_PIXELS", .u16, .ro, .none, .const 0, .any⟩,
   ⟨0x4810, 0x1, 32, 16, 16, "SKIPPED_LINES", .u32, .rw, .imm, .const 0, .counter⟩,
   ⟨0x4810, 0x1, 32, 17, 17, "PCAL_CONFIRM", .u8, .wo, .imm, .const 0, .codes [1, 2]⟩,
   ⟨0x4830, 0x1, 32, 1, 1, "PIN_MAP", .domain, .rw, .imm, .const 0, .bytes 0 16384 1⟩,
   ⟨0x4830, 0x1, 32, 2, 2, "CAL_EXPORT", .domain, .ro, .none, .const 0, .bytes 0 268435455 1⟩,
   ⟨0x4830, 0x1, 32, 3, 3, "WORK_EXPORT", .domain, .ro, .none, .const 0, .bytes 0 268435455 1⟩,
   ⟨0x4830, 0x1, 32, 4, 4, "CAL_IMPORT", .domain, .wo, .imm, .const 0, .bytes 0 268435455 1⟩,
   ⟨0x4830, 0x1, 32, 5, 5, "ACTIVE_FLAGS", .u16, .ro, .none, .const 0, .any⟩,
   ⟨0x4880, 0x1, 1, 1, 1, "GRID_CD_PITCH", .u32, .rw, .imm, .const 2000000, .nums [(100000, 100000000)] 1 false false⟩,
   ⟨0x4880, 0x1, 1, 2, 2, "GRID_MD_PITCH", .u32, .rw, .imm, .const 2000000, .nums [(100000, 100000000)] 1 false false⟩,
   ⟨0x4880, 0x1, 1, 3, 3, "DOT_DIAMETER", .u32, .rw, .imm, .const 500000, .nums [(50000, 50000000)] 1 false false⟩,
   ⟨0x4880, 0x1, 1, 4, 4, "DOT_POLARITY", .u8, .rw, .imm, .const 0, .codes [0, 1]⟩]
/-- The object rows of 08_calibration.md, part 2. -/
def rows_calibration2 : List ObjRow :=
  [⟨0x4880, 0x1, 1, 5, 5, "GEOM_FIELD", .u8, .rw, .imm, .const 0, .nums [(0, 7)] 1 false false⟩,
   ⟨0x4880, 0x1, 1, 6, 6, "GEOM_DEGREE", .u8, .rw, .imm, .const 3, .nums [(1, 5)] 1 false false⟩,
   ⟨0x4880, 0x1, 1, 7, 7, "GEOM_ROWS", .u16, .rw, .imm, .const 16, .nums [(4, 1024)] 1 false false⟩,
   ⟨0x4880, 0x1, 1, 8, 8, "GEOM_TOL", .u16, .rw, .imm, .const 64, .nums [(1, 65535)] 1 false false⟩,
   ⟨0x4880, 0x1, 1, 9, 9, "GRID_ORIGIN_CD", .u32, .rw, .imm, .const 0, .any⟩,
   ⟨0x4880, 0x1, 1, 10, 10, "GEOM_RMS", .u16, .ro, .none, .const 0, .any⟩,
   ⟨0x4880, 0x1, 1, 11, 11, "GEOM_MAX", .u16, .ro, .none, .const 0, .any⟩,
   ⟨0x4880, 0x1, 1, 12, 12, "GEOM_RESULT", .u8, .ro, .none, .const 0, .any⟩,
   ⟨0x4880, 0x1, 1, 13, 13, "GEOM_WORST_PORT", .u8, .ro, .none, .const 255, .any⟩,
   ⟨0x4880, 0x1, 1, 14, 14, "GEOM_EXPORT", .domain, .ro, .none, .const 0, .bytes 0 268435455 1⟩,
   ⟨0x4880, 0x1, 1, 15, 15, "GEOM_IMPORT", .domain, .wo, .commit, .const 0, .bytes 0 268435455 1⟩]
/-- All rows of 08_calibration.md. -/
def rows_calibration : List ObjRow := rows_calibration1 ++ rows_calibration2
/-- The object rows of 09_loom_stitching.md. -/
def rows_loom : List ObjRow :=
  [⟨0x5000, 0x1, 1, 1, 1, "PLANE_WIDTH", .u32, .rws, .commit, .const 0, .nums [(0, 524288)] 1 false false⟩,
   ⟨0x5000, 0x1, 1, 2, 2, "CD_PITCH", .u32, .rws, .commit, .const 10000000, .nums [(100000, 1000000000)] 1 false false⟩,
   ⟨0x5000, 0x1, 1, 3, 3, "MD_PITCH", .u32, .rws, .commit, .const 10000000, .nums [(100000, 1000000000)] 1 false false⟩,
   ⟨0x5000, 0x1, 1, 4, 4, "GROUP_BASE", .u32, .rws, .commit, .const 0, .nums [(0, 4192256)] 2048 false false⟩,
   ⟨0x5000, 0x1, 1, 5, 5, "MAX_GAP", .u16, .rws, .commit, .const 0, .nums [(0, 65535)] 1 false false⟩,
   ⟨0x5000, 0x1, 1, 6, 6, "KERNEL_SEL", .u8, .rws, .commit, .const 2, .nums [(0, 3)] 1 false false⟩,
   ⟨0x5000, 0x1, 1, 7, 7, "KERNEL_TABLE", .domain, .rws, .commit, .const 0, .bytes 0 268435455 1⟩,
   ⟨0x5000, 0x1, 1, 8, 8, "GEOM_GEN", .u32, .ro, .none, .const 0, .any⟩,
   ⟨0x5000, 0x1, 1, 9, 9, "SENSORS", .u16, .ro, .none, .const 0, .any⟩,
   ⟨0x5000, 0x1, 1, 10, 10, "SEAMS", .u16, .ro, .none, .const 0, .any⟩,
   ⟨0x5000, 0x1, 1, 11, 11, "HALO_TIMEOUT", .u32, .rw, .imm, .const 1000, .nums [(10, 100000)] 1 false false⟩,
   ⟨0x5001, 0x1, 1, 1, 1, "SWEEP_LINE", .u64, .ro, .none, .const 0, .any⟩,
   ⟨0x5001, 0x1, 1, 2, 2, "SWEEP_LAG", .u32, .ro, .none, .const 0, .any⟩,
   ⟨0x5001, 0x1, 1, 3, 3, "LOOM_FLAGS", .u16, .rw, .w1c, .const 0, .bits 0xF⟩,
   ⟨0x5001, 0x1, 1, 4, 4, "HALO_LATE_COUNT", .u32, .rw, .imm, .const 0, .counter⟩,
   ⟨0x5001, 0x1, 1, 5, 5, "COVERAGE_RUNS", .u64, .rw, .imm, .const 0, .counter⟩,
   ⟨0x5001, 0x1, 1, 6, 6, "MAP_CORR", .u32, .rw, .imm, .const 0, .counter⟩,
   ⟨0x5001, 0x1, 1, 7, 7, "MAP_UNCORR", .u32, .rw, .imm, .const 0, .counter⟩,
   ⟨0x5001, 0x1, 1, 8, 8, "COLUMN_MAP", .domain, .ro, .none, .const 0, .bytes 0 268435455 1⟩,
   ⟨0x5100, 0x1, 256, 1, 1, "STAGGER", .u32, .ro, .none, .const 0, .any⟩,
   ⟨0x5100, 0x1, 256, 2, 2, "MD_FRAC", .u8, .ro, .none, .const 0, .any⟩,
   ⟨0x5100, 0x1, 256, 3, 3, "FIRST_COLUMN", .u32, .ro, .none, .const 0, .any⟩,
   ⟨0x5100, 0x1, 256, 4, 4, "LAST_COLUMN", .u32, .ro, .none, .const 0, .any⟩,
   ⟨0x5100, 0x1, 256, 5, 5, "SENSOR_STATE", .u8, .ro, .none, .const 0, .any⟩,
   ⟨0x5200, 0x1, 255, 1, 1, "SEAM_MODE", .u8, .rwl, .frame, .const 1, .codes [0, 1]⟩,
   ⟨0x5200, 0x1, 255, 2, 2, "SEAM_CUT_SHIFT", .i32, .rwl, .frame, .const 0, .any⟩,
   ⟨0x5200, 0x1, 255, 3, 3, "SEAM_BLEND", .u16, .rwl, .frame, .calc .seamBlend, .nums [(2, 256)] 1 true false⟩,
   ⟨0x5200, 0x1, 255, 4, 4, "SEAM_LEFT", .u8, .ro, .none, .const 0, .any⟩,
   ⟨0x5200, 0x1, 255, 5, 5, "SEAM_RIGHT", .u8, .ro, .none, .const 0, .any⟩,
   ⟨0x5200, 0x1, 255, 6, 6, "OVERLAP_FIRST", .u32, .ro, .none, .const 0, .any⟩,
   ⟨0x5200, 0x1, 255, 7, 7, "OVERLAP_LAST", .u32, .ro, .none, .const 0, .any⟩,
   ⟨0x5200, 0x1, 255, 8, 8, "SEAM_CUT", .u32, .ro, .none, .const 0, .any⟩,
   ⟨0x5200, 0x1, 255, 9, 9, "SEAM_KIND", .u8, .ro, .none, .const 0, .any⟩]
/-- The object rows of 10_segmentation.md. -/
def rows_segmentation : List ObjRow :=
  [⟨0x6000, 0x1, 1, 1, 1, "SEG_FIELDS", .u8, .rws, .commit, .const 1, .any⟩,
   ⟨0x6000, 0x1, 1, 2, 2, "CONNECTIVITY", .u8, .rws, .commit, .const 0, .codes [0, 1]⟩,
   ⟨0x6000, 0x1, 1, 3, 3, "CLOSE_GAP", .u8, .rwl, .frame, .const 1, .nums [(1, 255)] 1 false false⟩,
   ⟨0x6000, 0x1, 1, 4, 4, "SYS_MERGE_TIMEOUT", .u32, .rw, .imm, .const 2000, .nums [(100, 100000)] 1 false false⟩,
   ⟨0x6010, 0x1, 8, 1, 1, "BG_MODE", .u8, .rwl, .frame, .const 1, .codes [0, 1]⟩,
   ⟨0x6010, 0x1, 8, 2, 2, "BG_LEVEL", .u16, .rwl, .frame, .const 32768, .nums [(0, 65535)] 1 false false⟩,
   ⟨0x6010, 0x1, 8, 3, 3, "BG_CD_WIDTH", .u8, .rwl, .frame, .const 15, .nums [(1, 63)] 1 false true⟩,
   ⟨0x6010, 0x1, 8, 4, 4, "POLARITY", .u8, .rwl, .frame, .const 3, .codes [1, 2, 3]⟩,
   ⟨0x6010, 0x1, 8, 5, 5, "T_LOW_ABS", .u16, .rwl, .frame, .const 2048, .nums [(0, 65535)] 1 false false⟩,
   ⟨0x6010, 0x1, 8, 6, 6, "T_LOW_REL", .q0, .rwl, .frame, .const 0, .nums [(0, 65535)] 1 false false⟩,
   ⟨0x6010, 0x1, 8, 7, 7, "T_HIGH_ABS", .u16, .rwl, .frame, .const 4096, .nums [(0, 65535)] 1 false false⟩,
   ⟨0x6010, 0x1, 8, 8, 8, "T_HIGH_REL", .q0, .rwl, .frame, .const 0, .nums [(0, 65535)] 1 false false⟩,
   ⟨0x6010, 0x1, 8, 9, 9, "SMOOTH", .u8, .rwl, .frame, .const 0, .codes [0, 1]⟩,
   ⟨0x6010, 0x1, 8, 10, 10, "RUN_GAP", .u8, .rwl, .frame, .const 0, .nums [(0, 15)] 1 false false⟩,
   ⟨0x6010, 0x1, 8, 11, 11, "RUN_MIN", .u8, .rwl, .frame, .const 1, .nums [(1, 16)] 1 false false⟩,
   ⟨0x6010, 0x1, 8, 12, 12, "MIN_AREA", .u32, .rwl, .frame, .const 1, .nums [(1, 4294967295)] 1 false false⟩,
   ⟨0x6010, 0x1, 8, 13, 13, "MIN_ROWS", .u32, .rwl, .frame, .const 1, .nums [(1, 4294967295)] 1 false false⟩,
   ⟨0x6100, 0x1, 1, 1, 1, "OPEN_COMPONENTS", .u32, .ro, .none, .const 0, .any⟩,
   ⟨0x6100, 0x1, 1, 2, 2, "OPEN_PEAK", .u32, .rw, .imm, .const 0, .counter⟩,
   ⟨0x6100, 0x1, 1, 3, 3, "CANDIDATES", .u64, .rw, .imm, .const 0, .counter⟩,
   ⟨0x6100, 0x1, 1, 4, 4, "DISCARDED", .u64, .rw, .imm, .const 0, .counter⟩,
   ⟨0x6100, 0x1, 1, 5, 5, "STREAK_PARTS", .u64, .rw, .imm, .const 0, .counter⟩,
   ⟨0x6100, 0x1, 1, 6, 6, "FOLDED_RUNS", .u64, .rw, .imm, .const 0, .counter⟩,
   ⟨0x6100, 0x1, 1, 7, 7, "AREA_RECORDS", .u32, .rw, .imm, .const 0, .counter⟩,
   ⟨0x6100, 0x1, 1, 8, 8, "SPLIT_COUNT", .u32, .rw, .imm, .const 0, .counter⟩,
   ⟨0x6100, 0x1, 1, 9, 9, "BOUND_MISSED", .u32, .rw, .imm, .const 0, .counter⟩,
   ⟨0x6100, 0x1, 1, 10, 10, "SEG_FLAGS", .u16, .rw, .w1c, .const 0, .bits 0xF⟩,
   ⟨0x6100, 0x1, 1, 11, 11, "DONE_MIN", .u64, .ro, .none, .const 0, .any⟩,
   ⟨0x6100, 0x1, 1, 12, 12, "UNIT_LOAD", .q16, .ro, .none, .const 0, .any⟩,
   ⟨0x6200, 0x1, 64, 1, 1, "OPEN", .u16, .ro, .none, .const 0, .any⟩,
   ⟨0x6200, 0x1, 64, 2, 2, "OPEN_PEAK", .u16, .rw, .imm, .const 0, .counter⟩,
   ⟨0x6200, 0x1, 64, 3, 3, "FOLDS", .u32, .rw, .imm, .const 0, .counter⟩]
/-- The object rows of 11_classification_ledger.md, part 1. -/
def rows_classify1 : List ObjRow :=
  [⟨0x6400, 0x1, 1, 1, 1, "CAND_QUEUE_USED", .u32, .ro, .none, .const 0, .any⟩,
   ⟨0x6400, 0x1, 1, 2, 2, "CLASS_AREA", .u8, .rwl, .frame, .const 254, .nums [(0, 255)] 1 false false⟩,
   ⟨0x6400, 0x1, 1, 3, 3, "CLASS_UNKNOWN", .u8, .rwl, .frame, .const 255, .nums [(0, 255)] 1 false false⟩,
   ⟨0x6400, 0x1, 1, 4, 4, "NET_MIN_CONF", .q0, .rwl, .frame, .const 32768, .nums [(0, 65535)] 1 false false⟩,
   ⟨0x6400, 0x1, 1, 5, 5, "DEFAULT_GRADE", .u8, .rwl, .frame, .const 1, .nums [(0, 15)] 1 false false⟩,
   ⟨0x6400, 0x1, 1, 6, 6, "DEFAULT_RING_MASK", .u8, .rwl, .frame, .const 1, .bits 0xF⟩,
   ⟨0x6400, 0x1, 1, 7, 7, "CLASSIFIED", .u64, .rw, .imm, .const 0, .counter⟩,
   ⟨0x6400, 0x1, 1, 8, 8, "UNCLASSIFIED", .u64, .rw, .imm, .const 0, .counter⟩,
   ⟨0x6400, 0x1, 1, 9, 9, "NET_RUN", .u64, .rw, .imm, .const 0, .counter⟩,
   ⟨0x6400, 0x1, 1, 10, 10, "NET_SKIPPED", .u64, .rw, .imm, .const 0, .counter⟩,
   ⟨0x6400, 0x1, 1, 11, 11, "GRADED_OUT", .u64, .rw, .imm, .const 0, .counter⟩,
   ⟨0x6400, 0x1, 1, 12, 12, "BOUND_LATE", .u32, .rw, .imm, .const 0, .counter⟩,
   ⟨0x6401, 0x1, 8, 1, 1, "FEAT_MODEL", .u8, .rwl, .frame, .const 255, .nums [(0, 7), (255, 255)] 1 false false⟩,
   ⟨0x6401, 0x1, 8, 2, 2, "NET_MODEL", .u8, .rwl, .frame, .const 255, .nums [(0, 7), (255, 255)] 1 false false⟩,
   ⟨0x6401, 0x1, 8, 3, 6, "NET_CLASS_MASK", .u64, .rwl, .frame, .const 0, .any⟩,
   ⟨0x6410, 0x1, 8, 1, 1, "MODEL_IMAGE", .domain, .rw, .frame, .const 0, .bytes 160 33554432 1⟩,
   ⟨0x6410, 0x1, 8, 2, 2, "MODEL_STATE", .u8, .ro, .none, .const 0, .any⟩,
   ⟨0x6410, 0x1, 8, 3, 3, "MODEL_KIND", .u8, .ro, .none, .const 255, .any⟩,
   ⟨0x6410, 0x1, 8, 4, 4, "MODEL_DIGEST", .domain, .ro, .none, .const 0, .bytes 32 32 1⟩,
   ⟨0x6410, 0x1, 8, 5, 5, "MODEL_MACS", .u64, .ro, .none, .const 0, .any⟩,
   ⟨0x6410, 0x1, 8, 6, 6, "MODEL_FRAME", .u64, .ro, .none, .const 281474976710655, .any⟩,
   ⟨0x6410, 0x1, 8, 7, 7, "ACC_SAT", .u32, .rw, .imm, .const 0, .counter⟩,
   ⟨0x6500, 0x1, 128, 1, 1, "ENABLE", .bool, .rwl, .frame, .const 0, .any⟩,
   ⟨0x6500, 0x1, 128, 2, 2, "CLASS_LO", .u8, .rwl, .frame, .const 0, .nums [(0, 255)] 1 false false⟩,
   ⟨0x6500, 0x1, 128, 3, 3, "CLASS_HI", .u8, .rwl, .frame, .const 255, .nums [(0, 255)] 1 false false⟩,
   ⟨0x6500, 0x1, 128, 4, 4, "FIELD_MASK", .u8, .rwl, .frame, .const 255, .any⟩,
   ⟨0x6500, 0x1, 128, 5, 5, "MIN_CONF", .q0, .rwl, .frame, .const 0, .nums [(0, 65535)] 1 false false⟩,
   ⟨0x6500, 0x1, 128, 6, 6, "FEAT_A", .u8, .rwl, .frame, .const 255, .nums [(0, 63), (255, 255)] 1 false false⟩,
   ⟨0x6500, 0x1, 128, 7, 7, "A_MIN", .i64, .rwl, .frame, .const (-9223372036854775808), .any⟩,
   ⟨0x6500, 0x1, 128, 8, 8, "A_MAX", .i64, .rwl, .frame, .const 9223372036854775807, .any⟩,
   ⟨0x6500, 0x1, 128, 9, 9, "FEAT_B", .u8, .rwl, .frame, .const 255, .nums [(0, 63), (255, 255)] 1 false false⟩,
   ⟨0x6500, 0x1, 128, 10, 10, "B_MIN", .i64, .rwl, .frame, .const (-9223372036854775808), .any⟩,
   ⟨0x6500, 0x1, 128, 11, 11, "B_MAX", .i64, .rwl, .frame, .const 9223372036854775807, .any⟩,
   ⟨0x6500, 0x1, 128, 12, 12, "FLAGS_SET", .u16, .rwl, .frame, .const 0, .any⟩,
   ⟨0x6500, 0x1, 128, 13, 13, "FLAGS_CLEAR", .u16, .rwl, .frame, .const 0, .any⟩,
   ⟨0x6500, 0x1, 128, 14, 14, "GRADE", .u8, .rwl, .frame, .const 1, .nums [(0, 15)] 1 false false⟩,
   ⟨0x6500, 0x1, 128, 15, 15, "RING_MASK", .u8, .rwl, .frame, .const 1, .bits 0xF⟩,
   ⟨0x6500, 0x1, 128, 16, 16, "MARK_MASK", .u16, .rwl, .frame, .const 0, .any⟩,
   ⟨0x6500, 0x1, 128, 17, 17, "CROP", .u8, .rwl, .frame, .const 0, .codes [0, 1, 2]⟩,
   ⟨0x6500, 0x1, 128, 18, 18, "CROP_RING", .u8, .rwl, .frame, .const 0, .nums [(0, 3)] 1 false false⟩]
/-- The object rows of 11_classification_ledger.md, part 2. -/
def rows_classify2 : List ObjRow :=
  [⟨0x6500, 0x1, 128, 19, 19, "USER_CODE", .u8, .rwl, .frame, .const 0, .nums [(0, 255)] 1 false false⟩,
   ⟨0x6600, 0x1, 1, 1, 1, "CROP_W", .u16, .rwl, .frame, .const 256, .nums [(16, 4096)] 16 false false⟩,
   ⟨0x6600, 0x1, 1, 2, 2, "CROP_H", .u16, .rwl, .frame, .const 256, .nums [(16, 4096)] 16 false false⟩,
   ⟨0x6600, 0x1, 1, 3, 3, "CROP_DEPTH", .u8, .rwl, .frame, .const 16, .codes [8, 16]⟩,
   ⟨0x6600, 0x1, 1, 4, 4, "CROP_FIT", .bool, .rwl, .frame, .const 0, .any⟩,
   ⟨0x6600, 0x1, 1, 5, 5, "CROP_QUEUE_USED", .u16, .ro, .none, .const 0, .any⟩,
   ⟨0x6600, 0x1, 1, 6, 6, "CROPS_CUT", .u64, .rw, .imm, .const 0, .counter⟩,
   ⟨0x6600, 0x1, 1, 7, 7, "CROPS_LOST", .u64, .rw, .imm, .const 0, .counter⟩,
   ⟨0x6620, 0x1, 4, 1, 1, "CR_ENABLE", .bool, .rw, .imm, .const 0, .any⟩,
   ⟨0x6620, 0x1, 4, 2, 2, "CR_BASE", .u64, .rw, .imm, .const 0, .nums [(0, 18446744073709551615)] 4096 false false⟩,
   ⟨0x6620, 0x1, 4, 3, 3, "CR_SLOTS", .u32, .rw, .imm, .const 256, .nums [(16, 65536)] 1 true false⟩,
   ⟨0x6620, 0x1, 4, 4, 4, "CR_SLOT_SIZE", .u32, .rw, .imm, .const 262144, .nums [(8192, 67108864)] 4096 false false⟩,
   ⟨0x6620, 0x1, 4, 5, 5, "CR_FREE", .u32, .ro, .none, .const 0, .any⟩,
   ⟨0x6700, 0x1, 1, 1, 1, "LEDGER_ID", .u64, .ro, .none, .const 0, .any⟩,
   ⟨0x6700, 0x1, 1, 2, 2, "LEDGER_HWM", .u64, .ro, .none, .const 0, .any⟩,
   ⟨0x6700, 0x1, 1, 3, 3, "COMPLETE_FRAME", .u64, .ro, .none, .const 281474976710655, .any⟩,
   ⟨0x6700, 0x1, 1, 4, 4, "STAGED", .u32, .ro, .none, .const 0, .any⟩,
   ⟨0x6700, 0x1, 1, 5, 5, "FRAME_DONE_EN", .bool, .rw, .frame, .const 1, .any⟩,
   ⟨0x6700, 0x1, 1, 6, 6, "LEDGER_FLAGS", .u8, .rw, .w1c, .const 0, .bits 0x3⟩,
   ⟨0x6710, 0x1, 4, 1, 1, "LR_ENABLE", .bool, .rw, .imm, .const 0, .any⟩,
   ⟨0x6710, 0x1, 4, 2, 2, "LR_BASE", .u64, .rw, .imm, .const 0, .nums [(0, 18446744073709551615)] 4096 false false⟩,
   ⟨0x6710, 0x1, 4, 3, 3, "LR_SLOTS", .u32, .rw, .imm, .const 65536, .nums [(1024, 16777216)] 1 true false⟩,
   ⟨0x6710, 0x1, 4, 4, 4, "LR_TYPES", .u8, .rw, .imm, .const 3, .bits 0x3⟩,
   ⟨0x6710, 0x1, 4, 5, 5, "LR_DELIVERED", .u64, .ro, .none, .const 0, .any⟩,
   ⟨0x6710, 0x1, 4, 6, 6, "LR_BACKLOG", .u16, .ro, .none, .const 0, .any⟩,
   ⟨0x6710, 0x1, 4, 7, 7, "LR_DROPPED", .u64, .rw, .imm, .const 0, .counter⟩]
/-- All rows of 11_classification_ledger.md. -/
def rows_classify : List ObjRow := rows_classify1 ++ rows_classify2
/-- The object rows of 12_statistics_exposure.md. -/
def rows_statistics : List ObjRow :=
  [⟨0x5800, 0x4, 32, 1, 8, "EXPOSURE", .u32, .rwl, .frame2, .const 0, .any⟩,
   ⟨0x5801, 0x4, 32, 1, 8, "CAM_GAIN", .u32, .rwl, .frame2, .const 0, .any⟩,
   ⟨0x5802, 0x4, 32, 1, 1, "EXP_ADDR", .u32, .rws, .commit, .const 0, .nums [(0, 0), (4096, 4294967232)] 4 false false⟩,
   ⟨0x5802, 0x4, 32, 2, 2, "EXP_GEN_ADDR", .u32, .rws, .commit, .const 0, .nums [(0, 0), (4096, 4294967292)] 4 false false⟩,
   ⟨0x5802, 0x4, 32, 3, 3, "EXP_GEN", .u32, .ro, .none, .const 1, .any⟩,
   ⟨0x5802, 0x4, 32, 4, 4, "EXP_PENDING_GEN", .u32, .ro, .none, .const 1, .any⟩,
   ⟨0x5802, 0x4, 32, 5, 5, "EXP_PENDING_FRAME", .u64, .ro, .none, .const 281474976710655, .any⟩,
   ⟨0x5802, 0x4, 32, 6, 6, "EXP_FLAGS", .u8, .rw, .w1c, .const 0, .bits 0x3⟩,
   ⟨0x5802, 0x4, 32, 7, 7, "EXP_FAULTS", .u32, .rw, .imm, .const 0, .counter⟩,
   ⟨0x5803, 0x4, 32, 1, 1, "STAT_ENABLE", .bool, .rws, .commit, .const 1, .any⟩,
   ⟨0x5803, 0x4, 32, 2, 2, "STAT_TAG", .u8, .rws, .commit, .const 0, .nums [(0, 7)] 1 false false⟩,
   ⟨0x5803, 0x4, 32, 3, 3, "STAT_FIRST_PIXEL", .u16, .rwl, .frame, .const 0, .nums [(0, 32704)] 1 false false⟩,
   ⟨0x5803, 0x4, 32, 4, 4, "STAT_LAST_PIXEL", .u16, .rwl, .frame, .const 32767, .nums [(63, 32767)] 1 false false⟩,
   ⟨0x5900, 0x1, 1, 1, 1, "ST_ENABLE", .bool, .rw, .imm, .const 0, .any⟩,
   ⟨0x5900, 0x1, 1, 2, 2, "ST_BASE", .u64, .rw, .imm, .const 0, .nums [(0, 18446744073709551615)] 4096 false false⟩,
   ⟨0x5900, 0x1, 1, 3, 3, "ST_SLOTS", .u32, .rw, .imm, .const 1024, .nums [(64, 65536)] 1 true false⟩,
   ⟨0x5900, 0x1, 1, 4, 4, "ST_DELIVERED", .u64, .ro, .none, .const 0, .any⟩,
   ⟨0x5900, 0x1, 1, 5, 5, "ST_DROPPED", .u64, .rw, .imm, .const 0, .counter⟩,
   ⟨0x5900, 0x1, 1, 6, 6, "ST_OVERRUN", .u32, .rw, .imm, .const 0, .counter⟩,
   ⟨0x5900, 0x1, 1, 7, 7, "ST_FLAGS", .u8, .rw, .w1c, .const 0, .bits 0x3⟩]
/-- The object rows of 13_streams_filters.md, part 1. -/
def rows_streams1 : List ObjRow :=
  [⟨0x6800, 0x1, 8, 1, 1, "ENABLE", .bool, .rwl, .frame, .const 0, .any⟩,
   ⟨0x6800, 0x1, 8, 2, 2, "FIELD", .u8, .rwl, .frame, .const 0, .nums [(0, 7)] 1 false false⟩,
   ⟨0x6800, 0x1, 8, 3, 3, "CD_FIRST", .u32, .rwl, .frame, .const 0, .any⟩,
   ⟨0x6800, 0x1, 8, 4, 4, "CD_LAST", .u32, .rwl, .frame, .const 0, .any⟩,
   ⟨0x6800, 0x1, 8, 5, 5, "STAGES_CD", .u8, .rwl, .frame, .const 0, .nums [(0, 6)] 1 false false⟩,
   ⟨0x6800, 0x1, 8, 6, 6, "KIND_CD", .u8, .rwl, .frame, .const 0, .codes [0, 1]⟩,
   ⟨0x6800, 0x1, 8, 7, 7, "STAGES_MD", .u8, .rwl, .frame, .const 0, .nums [(0, 6)] 1 false false⟩,
   ⟨0x6800, 0x1, 8, 8, 8, "KIND_MD", .u8, .rwl, .frame, .const 0, .codes [0, 1]⟩,
   ⟨0x6800, 0x1, 8, 9, 9, "DEPTH", .u8, .rwl, .frame, .const 8, .codes [8, 12, 16]⟩,
   ⟨0x6800, 0x1, 8, 10, 10, "MAPS", .bool, .rwl, .frame, .const 0, .any⟩,
   ⟨0x6800, 0x1, 8, 11, 11, "COMPRESS", .bool, .rwl, .frame, .const 0, .any⟩,
   ⟨0x6800, 0x1, 8, 12, 12, "BLOCK_LINES", .u16, .rwl, .frame, .const 64, .nums [(1, 4096)] 1 false false⟩,
   ⟨0x6800, 0x1, 8, 13, 13, "SYNC", .u8, .wo, .frame, .const 0, .codes [1]⟩,
   ⟨0x6810, 0x1, 8, 1, 1, "DEST", .u8, .rwl, .frame, .const 0, .codes [0, 1, 2]⟩,
   ⟨0x6810, 0x1, 8, 2, 2, "UDP_DEST", .u8, .rwl, .frame, .const 0, .nums [(0, 15)] 1 false false⟩,
   ⟨0x6810, 0x1, 8, 3, 3, "SR_BASE", .u64, .rw, .imm, .const 0, .nums [(0, 18446744073709551615)] 4096 false false⟩,
   ⟨0x6810, 0x1, 8, 4, 4, "SR_SLOTS", .u32, .rw, .imm, .const 64, .nums [(16, 65536)] 1 true false⟩,
   ⟨0x6810, 0x1, 8, 5, 5, "SR_SLOT_SIZE", .u32, .rw, .imm, .const 4194304, .nums [(65536, 268435456)] 4096 false false⟩,
   ⟨0x6820, 0x1, 8, 1, 1, "STREAM_STATE", .u8, .ro, .none, .const 0, .any⟩,
   ⟨0x6820, 0x1, 8, 2, 2, "STREAM_SEQ", .u32, .ro, .none, .const 0, .any⟩,
   ⟨0x6820, 0x1, 8, 3, 3, "STREAM_DROPPED", .u64, .rw, .imm, .const 0, .counter⟩,
   ⟨0x6820, 0x1, 8, 4, 4, "STREAM_FLAGS", .u8, .rw, .w1c, .const 0, .bits 0x3⟩,
   ⟨0x6820, 0x1, 8, 5, 5, "LAST_LINE", .u64, .ro, .none, .const 0, .any⟩,
   ⟨0x6820, 0x1, 8, 6, 6, "SYNC_FRAME", .u64, .ro, .none, .const 281474976710655, .any⟩,
   ⟨0x6880, 0x1, 1, 1, 1, "STREAM_LOAD", .u32, .ro, .none, .const 0, .any⟩,
   ⟨0x6900, 0x1, 64, 1, 1, "ENABLE", .bool, .rwl, .frame, .const 0, .any⟩,
   ⟨0x6900, 0x1, 64, 2, 2, "FIELD", .u8, .rwl, .frame, .const 0, .nums [(0, 7)] 1 false false⟩,
   ⟨0x6900, 0x1, 64, 3, 3, "COL_FIRST", .u32, .rwl, .frame, .const 0, .any⟩,
   ⟨0x6900, 0x1, 64, 4, 4, "COL_LAST", .u32, .rwl, .frame, .const 0, .any⟩,
   ⟨0x6900, 0x1, 64, 5, 5, "STAGES", .u8, .rwl, .frame, .const 0, .nums [(0, 6)] 1 false false⟩,
   ⟨0x6900, 0x1, 64, 6, 6, "KIND", .u8, .rwl, .frame, .const 0, .codes [0, 1]⟩,
   ⟨0x6900, 0x1, 64, 7, 7, "EDGES", .u8, .rwl, .frame, .const 0, .bits 0x3⟩,
   ⟨0x6900, 0x1, 64, 8, 8, "HIGH_ON", .u16, .rwl, .frame, .const 65535, .any⟩,
   ⟨0x6900, 0x1, 64, 9, 9, "HIGH_OFF", .u16, .rwl, .frame, .const 64511, .any⟩,
   ⟨0x6900, 0x1, 64, 10, 10, "LOW_ON", .u16, .rwl, .frame, .const 0, .any⟩,
   ⟨0x6900, 0x1, 64, 11, 11, "LOW_OFF", .u16, .rwl, .frame, .const 1024, .any⟩,
   ⟨0x6900, 0x1, 64, 12, 12, "SYNC", .u8, .wo, .frame, .const 0, .codes [1]⟩,
   ⟨0x6980, 0x1, 64, 1, 1, "MON_VALUE", .u16, .ro, .none, .const 0, .any⟩,
   ⟨0x6980, 0x1, 64, 2, 2, "MON_LINE", .u64, .ro, .none, .const 0, .any⟩,
   ⟨0x6980, 0x1, 64, 3, 3, "MON_STATE", .u8, .ro, .none, .const 0, .any⟩]
/-- The object rows of 13_streams_filters.md, part 2. -/
def rows_streams2 : List ObjRow :=
  [⟨0x6980, 0x1, 64, 4, 4, "MON_FLAGS", .u8, .rw, .w1c, .const 0, .bits 0x3⟩,
   ⟨0x6980, 0x1, 64, 5, 5, "HIGH_EVENTS", .u32, .rw, .imm, .const 0, .counter⟩,
   ⟨0x6980, 0x1, 64, 6, 6, "LOW_EVENTS", .u32, .rw, .imm, .const 0, .counter⟩,
   ⟨0x6980, 0x1, 64, 7, 7, "SUPPRESSED", .u32, .rw, .imm, .const 0, .counter⟩]
/-- All rows of 13_streams_filters.md. -/
def rows_streams : List ObjRow := rows_streams1 ++ rows_streams2
/-- The object rows of 14_compression.md. -/
def rows_compression : List ObjRow :=
  [⟨0x7400, 0x1, 1, 1, 1, "ENGINES_BUSY", .u8, .ro, .none, .const 0, .any⟩,
   ⟨0x7400, 0x1, 1, 2, 2, "COMP_QUEUE_USED", .u8, .ro, .none, .const 0, .any⟩,
   ⟨0x7400, 0x1, 1, 3, 3, "COMP_BYPASSED", .u64, .rw, .imm, .const 0, .counter⟩,
   ⟨0x7400, 0x1, 1, 4, 4, "COMP_IN_BYTES", .u64, .rw, .imm, .const 0, .counter⟩,
   ⟨0x7400, 0x1, 1, 5, 5, "COMP_OUT_BYTES", .u64, .rw, .imm, .const 0, .counter⟩,
   ⟨0x7410, 0x1, 4, 1, 1, "ENGINE_STATE", .u8, .ro, .none, .const 0, .any⟩,
   ⟨0x7410, 0x1, 4, 2, 2, "ENGINE_STREAM", .u8, .ro, .none, .const 255, .any⟩,
   ⟨0x7410, 0x1, 4, 3, 3, "STALL_CLOCKS", .u64, .rw, .imm, .const 0, .counter⟩,
   ⟨0x7410, 0x1, 4, 4, 4, "ENGINE_CMD", .u8, .wo, .imm, .const 0, .codes [1]⟩,
   ⟨0x7410, 0x1, 4, 5, 5, "ABORTS", .u32, .rw, .imm, .const 0, .counter⟩,
   ⟨0x7410, 0x1, 4, 6, 6, "BLOCKS_DYNAMIC", .u64, .rw, .imm, .const 0, .counter⟩,
   ⟨0x7410, 0x1, 4, 7, 7, "BLOCKS_STORED", .u64, .rw, .imm, .const 0, .counter⟩]
/-- The object rows of 15_stamper_motion.md, part 1. -/
def rows_motion1 : List ObjRow :=
  [⟨0x8800, 0x1, 16, 1, 1, "ENABLE", .bool, .rw, .imm, .const 0, .any⟩,
   ⟨0x8800, 0x1, 16, 2, 2, "OFFSET", .i64, .rw, .imm, .const 0, .nums [((-36028797018963968), 36028797018963968)] 1 false false⟩,
   ⟨0x8800, 0x1, 16, 3, 3, "GATE_FIRST", .u32, .rw, .imm, .const 0, .nums [(0, 4194303)] 1 false false⟩,
   ⟨0x8800, 0x1, 16, 4, 4, "GATE_LAST", .u32, .rw, .imm, .const 4194303, .nums [(0, 4194303)] 1 false false⟩,
   ⟨0x8800, 0x1, 16, 5, 5, "PULSE_MODE", .u8, .rw, .imm, .const 0, .codes [0, 1]⟩,
   ⟨0x8800, 0x1, 16, 6, 6, "PULSE_TIME", .u32, .rw, .imm, .const 1000000, .nums [(10, 100000000)] 1 false false⟩,
   ⟨0x8800, 0x1, 16, 7, 7, "PULSE_LEN", .u32, .rw, .imm, .const 256, .nums [(1, 4294967295)] 1 false false⟩,
   ⟨0x8800, 0x1, 16, 8, 8, "ACT_LEAD", .u32, .rw, .imm, .const 0, .nums [(0, 1000000)] 1 false false⟩,
   ⟨0x8800, 0x1, 16, 9, 9, "POLARITY", .bool, .rw, .imm, .const 0, .any⟩,
   ⟨0x8800, 0x1, 16, 10, 10, "HC_TARGET", .u64, .wo, .imm, .const 0, .bits 0xFFFFFFFFFFFFFF⟩,
   ⟨0x8800, 0x1, 16, 11, 11, "MQ_CLEAR", .u8, .wo, .imm, .const 0, .codes [1]⟩,
   ⟨0x8820, 0x1, 16, 1, 1, "MQ_USED", .u8, .ro, .none, .const 0, .any⟩,
   ⟨0x8820, 0x1, 16, 2, 2, "MQ_FLAGS", .u8, .rw, .w1c, .const 0, .bits 0x7⟩,
   ⟨0x8820, 0x1, 16, 3, 3, "FIRES", .u64, .rw, .imm, .const 0, .counter⟩,
   ⟨0x8820, 0x1, 16, 4, 4, "MERGED", .u32, .rw, .imm, .const 0, .counter⟩,
   ⟨0x8820, 0x1, 16, 5, 5, "LATE_COUNT", .u32, .rw, .imm, .const 0, .counter⟩,
   ⟨0x8820, 0x1, 16, 6, 6, "LATE_DIST", .u64, .ro, .none, .const 0, .any⟩,
   ⟨0x8820, 0x1, 16, 7, 7, "LATE_SEQ", .u64, .ro, .none, .const 0, .any⟩,
   ⟨0x8820, 0x1, 16, 8, 8, "MQ_FULL_COUNT", .u32, .rw, .imm, .const 0, .counter⟩,
   ⟨0x8820, 0x1, 16, 9, 9, "NEXT_TARGET", .u64, .ro, .none, .const 0, .any⟩,
   ⟨0x8820, 0x1, 16, 10, 10, "LAST_FIRE_POS", .u64, .ro, .none, .const 0, .any⟩,
   ⟨0x8820, 0x1, 16, 11, 11, "LAST_FIRE_SEQ", .u64, .ro, .none, .const 0, .any⟩,
   ⟨0x8880, 0x1, 1, 1, 1, "MIRROR_ACTIVE", .bool, .ro, .none, .const 0, .any⟩,
   ⟨0x8400, 0x1, 16, 1, 1, "MAX_STEP_RATE", .u32, .rws, .commit, .const 5000000, .nums [(1000, 5000000)] 1 false false⟩,
   ⟨0x8400, 0x1, 16, 2, 2, "DIR_INVERT", .bool, .rws, .commit, .const 0, .any⟩,
   ⟨0x8400, 0x1, 16, 3, 3, "STEP_WIDTH", .u16, .rw, .imm, .const 40, .nums [(4, 10000)] 1 false false⟩,
   ⟨0x8400, 0x1, 16, 4, 4, "DIR_SETUP", .u16, .rw, .imm, .const 80, .nums [(4, 40000)] 1 false false⟩,
   ⟨0x8400, 0x1, 16, 5, 5, "V_START", .u32, .rw, .imm, .const 0, .nums [(0, 4294967295)] 1 false false⟩,
   ⟨0x8400, 0x1, 16, 6, 6, "QSTOP_DECEL", .u32, .rw, .imm, .const 100000000, .nums [(1, 4294967295)] 1 false false⟩,
   ⟨0x8400, 0x1, 16, 7, 7, "BLEND_MAX", .u32, .rw, .imm, .const 5000000, .nums [(0, 5000000)] 1 false false⟩,
   ⟨0x8400, 0x1, 16, 8, 8, "SOFT_MIN", .i64, .rw, .imm, .const (-9223372036854775807), .any⟩,
   ⟨0x8400, 0x1, 16, 9, 9, "SOFT_MAX", .i64, .rw, .imm, .const 9223372036854775807, .any⟩,
   ⟨0x8400, 0x1, 16, 10, 10, "STANDSTILL_DELAY", .u32, .rw, .imm, .const 500000, .nums [(0, 10000000)] 1 false false⟩,
   ⟨0x8400, 0x1, 16, 11, 11, "CR_WAKE", .u32, .rw, .imm, .const 2000, .nums [(0, 100000)] 1 false false⟩,
   ⟨0x8410, 0x1, 16, 1, 1, "STALL_SOURCE", .u8, .rw, .imm, .const 0, .codes [0, 1]⟩,
   ⟨0x8410, 0x1, 16, 2, 2, "FB_INPUT", .u8, .rw, .imm, .const 255, .nums [(0, 15), (255, 255)] 1 false false⟩,
   ⟨0x8410, 0x1, 16, 3, 3, "FB_NUM", .i32, .rw, .imm, .const 1, .nums [((-2147483648), (-1)), (1, 2147483647)] 1 false false⟩,
   ⟨0x8410, 0x1, 16, 4, 4, "FB_DEN", .u32, .rw, .imm, .const 1, .nums [(1, 4294967295)] 1 false false⟩,
   ⟨0x8410, 0x1, 16, 5, 5, "FOLLOW_LIMIT", .u32, .rw, .imm, .const 64, .nums [(1, 4294967295)] 1 false false⟩,
   ⟨0x8410, 0x1, 16, 6, 6, "STALL_BLANK", .u32, .rw, .imm, .const 64, .nums [(0, 1000000)] 1 false false⟩]
/-- The object rows of 15_stamper_motion.md, part 2. -/
def rows_motion2 : List ObjRow :=
  [⟨0x8410, 0x1, 16, 7, 7, "HOME_DIR", .u8, .rw, .imm, .const 0, .codes [0, 1]⟩,
   ⟨0x8410, 0x1, 16, 8, 8, "HOME_VEL", .u32, .rw, .imm, .const 10000, .nums [(1, 4294967295)] 1 false false⟩,
   ⟨0x8410, 0x1, 16, 9, 9, "HOME_ACCEL", .u32, .rw, .imm, .const 1000000, .nums [(1, 4294967295)] 1 false false⟩,
   ⟨0x8410, 0x1, 16, 10, 10, "HOME_MAX_TRAVEL", .u64, .rw, .imm, .const 1000000, .nums [(1, 9223372036854775807)] 1 false false⟩,
   ⟨0x8410, 0x1, 16, 11, 11, "HOME_POS", .i64, .rw, .imm, .const 0, .any⟩,
   ⟨0x8410, 0x1, 16, 12, 12, "HOME_BACKOFF", .u32, .rw, .imm, .const 200, .nums [(0, 1000000)] 1 false false⟩,
   ⟨0x8420, 0x1, 16, 1, 1, "MV_KIND", .u8, .rw, .imm, .const 1, .codes [1, 2, 3, 4]⟩,
   ⟨0x8420, 0x1, 16, 2, 2, "MV_TARGET", .i64, .rw, .imm, .const 0, .any⟩,
   ⟨0x8420, 0x1, 16, 3, 3, "MV_VMAX", .u32, .rw, .imm, .const 10000, .nums [(1, 4294967295)] 1 false false⟩,
   ⟨0x8420, 0x1, 16, 4, 4, "MV_ACCEL", .u32, .rw, .imm, .const 1000000, .nums [(1, 4294967295)] 1 false false⟩,
   ⟨0x8420, 0x1, 16, 5, 5, "MV_DECEL", .u32, .rw, .imm, .const 1000000, .nums [(1, 4294967295)] 1 false false⟩,
   ⟨0x8420, 0x1, 16, 6, 6, "MV_SYNC", .bool, .rw, .imm, .const 0, .any⟩,
   ⟨0x8420, 0x1, 16, 7, 7, "MV_PUSH", .u8, .wo, .imm, .const 0, .codes [1]⟩,
   ⟨0x8420, 0x1, 16, 8, 8, "MV_RESULT", .u8, .ro, .none, .const 0, .any⟩,
   ⟨0x8430, 0x1, 16, 1, 1, "POSITION", .i64, .ro, .none, .const 0, .any⟩,
   ⟨0x8430, 0x1, 16, 2, 2, "VELOCITY", .i32, .ro, .none, .const 0, .any⟩,
   ⟨0x8430, 0x1, 16, 3, 3, "AX_STATE", .u8, .ro, .none, .const 0, .any⟩,
   ⟨0x8430, 0x1, 16, 4, 4, "AX_FLAGS", .u16, .rw, .w1c, .const 0, .bits 0xFFFF⟩,
   ⟨0x8430, 0x1, 16, 5, 5, "HOMED", .bool, .ro, .none, .const 0, .any⟩,
   ⟨0x8430, 0x1, 16, 6, 6, "MOVES_QUEUED", .u8, .ro, .none, .const 0, .any⟩,
   ⟨0x8430, 0x1, 16, 7, 7, "FOLLOW_ERR", .i32, .ro, .none, .const 0, .any⟩,
   ⟨0x8430, 0x1, 16, 8, 8, "STALLS", .u32, .rw, .imm, .const 0, .counter⟩,
   ⟨0x8430, 0x1, 16, 9, 9, "AX_CMD", .u8, .wo, .imm, .const 0, .codes [1, 2, 3, 4, 5, 6]⟩,
   ⟨0x8480, 0x1, 4, 1, 1, "GROUP_POLICY", .u8, .rw, .imm, .const 0, .codes [0, 1]⟩,
   ⟨0x8480, 0x1, 4, 2, 2, "GROUP_CMD", .u8, .wo, .imm, .const 0, .codes [1, 2]⟩]
/-- All rows of 15_stamper_motion.md. -/
def rows_motion : List ObjRow := rows_motion1 ++ rows_motion2
/-- The object rows of 16_placement.md. -/
def rows_placement : List ObjRow :=
  [⟨0xA000, 0x1, 1, 1, 1, "EPOCH", .u32, .ro, .none, .const 0, .any⟩,
   ⟨0xA000, 0x1, 1, 2, 2, "EPOCH_FRAME", .u64, .ro, .none, .const 0, .any⟩,
   ⟨0xA000, 0x1, 1, 3, 3, "PENDING_FRAME", .u64, .ro, .none, .const 281474976710655, .any⟩,
   ⟨0xA000, 0x1, 1, 4, 4, "RESERVE_UNITS", .u16, .rwl, .frame2, .const 16, .nums [(0, 128)] 1 false false⟩,
   ⟨0xA000, 0x1, 1, 5, 5, "UNIT_RATE", .u16, .rwl, .frame2, .const 256, .nums [(64, 512)] 1 false false⟩,
   ⟨0xA000, 0x1, 1, 6, 6, "SHED_ENABLE", .bool, .rwl, .frame2, .const 0, .any⟩,
   ⟨0xA000, 0x1, 1, 7, 7, "SHED_HIGH", .u32, .rwl, .frame2, .const 131072, .nums [(1024, 262144)] 1 false false⟩,
   ⟨0xA000, 0x1, 1, 8, 8, "SHED_ACCEPT", .bool, .rwl, .frame2, .const 0, .any⟩,
   ⟨0xA000, 0x1, 1, 9, 9, "SHED_TIMEOUT", .u32, .rw, .imm, .const 5000, .nums [(500, 1000000)] 1 false false⟩,
   ⟨0xA001, 0x1, 1, 1, 1, "UNITS_IN_SERVICE", .u16, .ro, .none, .const 1024, .any⟩,
   ⟨0xA001, 0x1, 1, 2, 2, "SEG_DEMAND", .q16, .ro, .none, .const 0, .any⟩,
   ⟨0xA001, 0x1, 1, 3, 3, "PLACE_FLAGS", .u8, .rw, .w1c, .const 0, .bits 0xF⟩,
   ⟨0xA001, 0x1, 1, 4, 4, "REPLAYED_JOBS", .u64, .rw, .imm, .const 0, .counter⟩,
   ⟨0xA001, 0x1, 1, 5, 5, "SEG_LOST_JOBS", .u64, .rw, .imm, .const 0, .counter⟩,
   ⟨0xA001, 0x1, 1, 6, 6, "LATE_STARTS", .u64, .rw, .imm, .const 0, .counter⟩,
   ⟨0xA001, 0x1, 1, 7, 7, "SHED_OUT", .u64, .rw, .imm, .const 0, .counter⟩,
   ⟨0xA001, 0x1, 1, 8, 8, "SHED_IN", .u64, .rw, .imm, .const 0, .counter⟩,
   ⟨0xA001, 0x1, 1, 9, 9, "SHED_RESUBMIT", .u32, .rw, .imm, .const 0, .counter⟩,
   ⟨0xA010, 0x1, 64, 1, 1, "CL_ROLE", .u8, .rwl, .frame2, .const 0, .codes [0, 1, 2]⟩,
   ⟨0xA010, 0x1, 64, 2, 2, "CL_CMD", .u8, .wo, .frame2, .const 0, .codes [1, 2]⟩,
   ⟨0xA010, 0x1, 64, 3, 3, "CL_STATE", .u8, .ro, .none, .const 0, .any⟩,
   ⟨0xA010, 0x1, 64, 4, 4, "CL_UNITS", .u16, .ro, .none, .const 65535, .any⟩,
   ⟨0xA010, 0x1, 64, 5, 5, "CL_CAUSE", .u8, .ro, .none, .const 0, .any⟩,
   ⟨0xA010, 0x1, 64, 6, 6, "CL_CMD_STATE", .u8, .ro, .none, .const 0, .any⟩,
   ⟨0xA010, 0x1, 64, 7, 7, "CL_REMOVALS", .u32, .rw, .imm, .const 0, .counter⟩,
   ⟨0xA060, 0x1, 9, 1, 1, "BUF_PC_MASK", .u64, .rwl, .frame2, .const 18446744073709551615, .any⟩,
   ⟨0xA060, 0x1, 9, 2, 2, "BUF_BYTES", .u32, .ro, .none, .calc .bufBytes, .any⟩,
   ⟨0xA060, 0x1, 9, 3, 3, "BUF_REPLICA", .bool, .ro, .none, .calc .bufReplica, .any⟩,
   ⟨0xA060, 0x1, 9, 4, 4, "BUF_LOST", .u32, .rw, .imm, .const 0, .counter⟩]
/-- The object rows of 17_hbm_controller.md. -/
def rows_hbm : List ObjRow :=
  [⟨0x9000, 0x1, 1, 1, 1, "RING_SIZE", .u8, .rws, .commit, .const 32, .nums [(4, 40)] 1 false false⟩,
   ⟨0x9000, 0x1, 1, 2, 2, "RING_DEPTH", .u32, .ro, .none, .const 0, .any⟩,
   ⟨0x9000, 0x1, 1, 3, 3, "RING_BYTES", .u64, .ro, .none, .const 0, .any⟩,
   ⟨0x9000, 0x1, 1, 4, 4, "PC_MAP", .u64, .ro, .none, .const 0, .any⟩,
   ⟨0x9000, 0x1, 1, 5, 5, "PC_LOST_MASK", .u64, .ro, .none, .const 0, .any⟩,
   ⟨0x9000, 0x1, 1, 6, 6, "HBM_FLAGS", .u8, .rw, .w1c, .const 0, .bits 0xF⟩,
   ⟨0x9001, 0x1, 1, 1, 4, "BANK_MASK", .u32, .rw, .reset, .perSub [279552, 559104, 1118208, 2236416], .any⟩,
   ⟨0x9002, 0x1, 1, 1, 1, "AGE_LIMIT", .u32, .rw, .imm, .const 2000, .nums [(100, 100000)] 1 false false⟩,
   ⟨0x9003, 0x1, 1, 1, 1, "REF_POSTPONE", .u8, .rw, .imm, .const 4, .nums [(0, 8)] 1 false false⟩,
   ⟨0x9003, 0x1, 1, 2, 2, "STACK_TEMP_0", .u8, .ro, .none, .const 0, .any⟩,
   ⟨0x9003, 0x1, 1, 3, 3, "STACK_TEMP_1", .u8, .ro, .none, .const 0, .any⟩,
   ⟨0x9003, 0x1, 1, 4, 4, "REF_STATE", .u8, .ro, .none, .const 0, .any⟩,
   ⟨0x9003, 0x1, 1, 5, 5, "HOT_ENTRIES", .u32, .rw, .imm, .const 0, .counter⟩,
   ⟨0x9003, 0x1, 1, 6, 6, "URGENT_BATCHES", .u32, .rw, .imm, .const 0, .counter⟩,
   ⟨0x9004, 0x1, 1, 1, 1, "ACT_LIMIT", .u32, .rw, .imm, .const 65536, .nums [(1024, 1048576)] 1 false false⟩,
   ⟨0x9004, 0x1, 1, 2, 2, "THROTTLE_GAP", .u32, .rw, .imm, .const 1000, .nums [(50, 100000)] 1 false false⟩,
   ⟨0x9004, 0x1, 1, 3, 3, "THROTTLE_REQ", .u8, .ro, .none, .const 0, .any⟩,
   ⟨0x9004, 0x1, 1, 4, 4, "THROTTLES", .u64, .rw, .imm, .const 0, .counter⟩,
   ⟨0x9005, 0x1, 1, 1, 1, "PD_DELAY", .u32, .rw, .imm, .const 200, .nums [(0, 0), (50, 100000)] 1 false false⟩,
   ⟨0x9005, 0x1, 1, 2, 2, "SR_DELAY", .u32, .rw, .imm, .const 10000, .nums [(1, 10000000)] 1 false false⟩,
   ⟨0x9005, 0x1, 1, 3, 3, "SR_ENTRIES", .u32, .rw, .imm, .const 0, .counter⟩,
   ⟨0x9006, 0x1, 1, 1, 1, "RETRAIN_PERIOD", .u32, .rw, .imm, .const 60000, .nums [(1000, 3600000)] 1 false false⟩,
   ⟨0x9006, 0x1, 1, 2, 2, "UNCORR_LIMIT", .u16, .rw, .imm, .const 16, .nums [(1, 65535)] 1 false false⟩,
   ⟨0x9040, 0x1, 64, 1, 1, "PC_STATE", .u8, .ro, .none, .const 0, .any⟩,
   ⟨0x9040, 0x1, 64, 2, 2, "PC_CMD", .u8, .wo, .imm, .const 0, .codes [1]⟩,
   ⟨0x9040, 0x1, 64, 3, 3, "PC_CMD_STATE", .u8, .ro, .none, .const 0, .any⟩,
   ⟨0x9040, 0x1, 64, 4, 4, "CORR", .u64, .rw, .imm, .const 0, .counter⟩,
   ⟨0x9040, 0x1, 64, 5, 5, "UNCORR", .u32, .rw, .imm, .const 0, .counter⟩,
   ⟨0x9040, 0x1, 64, 6, 6, "RETRAINS", .u32, .rw, .imm, .const 0, .counter⟩,
   ⟨0x9040, 0x1, 64, 7, 7, "LOST_FRAME", .u64, .ro, .none, .const 281474976710655, .any⟩]
/-- The object rows of 18_scratchpads_queues.md. -/
def rows_scratchpads : List ObjRow :=
  [⟨0x9400, 0x1, 1, 1, 1, "TEST_ENABLE", .bool, .rw, .imm, .const 1, .any⟩,
   ⟨0x9400, 0x1, 1, 2, 2, "TEST_ROW_INTERVAL", .u32, .rw, .imm, .const 1000, .nums [(10, 1000000)] 1 false false⟩,
   ⟨0x9410, 0x1, 64, 1, 1, "SP_STATE", .u8, .ro, .none, .const 0, .any⟩,
   ⟨0x9410, 0x1, 64, 2, 2, "SP_CMD", .u8, .wo, .imm, .const 0, .codes [1, 2, 3]⟩,
   ⟨0x9410, 0x1, 64, 3, 3, "TEST_ROW", .u16, .ro, .none, .const 0, .any⟩,
   ⟨0x9410, 0x1, 64, 4, 4, "FAIL_ROW", .u16, .ro, .none, .const 65535, .any⟩,
   ⟨0x9410, 0x1, 64, 5, 5, "SPARES_USED", .u16, .ro, .none, .const 0, .any⟩,
   ⟨0x9410, 0x1, 64, 6, 6, "SPARES_FAILED", .u16, .ro, .none, .const 0, .any⟩,
   ⟨0x9410, 0x1, 64, 7, 7, "SP_FLAGS", .u8, .rw, .w1c, .const 0, .bits 0x7⟩,
   ⟨0x9410, 0x1, 64, 8, 8, "SP_CORR", .u32, .rw, .imm, .const 0, .counter⟩,
   ⟨0x9410, 0x1, 64, 9, 9, "SP_UNCORR", .u32, .rw, .imm, .const 0, .counter⟩,
   ⟨0x9410, 0x1, 64, 10, 10, "TEST_MISMATCH", .u32, .rw, .imm, .const 0, .counter⟩,
   ⟨0x9410, 0x1, 64, 11, 11, "ROWS_TESTED", .u64, .rw, .imm, .const 0, .counter⟩,
   ⟨0x9800, 0x1, 173, 1, 1, "DEPTH", .u16, .ro, .none, .calc .queueDepth, .any⟩,
   ⟨0x9800, 0x1, 173, 2, 2, "LEVEL", .u16, .ro, .none, .const 0, .any⟩,
   ⟨0x9800, 0x1, 173, 3, 3, "EMPTY", .bool, .ro, .none, .const 1, .any⟩,
   ⟨0x9800, 0x1, 173, 4, 4, "HIGH_WM", .u16, .rw, .imm, .calc .queueHighWm, .any⟩,
   ⟨0x9800, 0x1, 173, 5, 5, "LOW_WM", .u16, .rw, .imm, .const 0, .any⟩,
   ⟨0x9800, 0x1, 173, 6, 6, "Q_FLAGS", .u8, .rw, .w1c, .const 0, .bits 0xF⟩,
   ⟨0x9800, 0x1, 173, 7, 7, "PEAK", .u16, .rw, .imm, .const 0, .counter⟩,
   ⟨0x9800, 0x1, 173, 8, 8, "Q_CORR", .u32, .rw, .imm, .const 0, .counter⟩,
   ⟨0x9800, 0x1, 173, 9, 9, "Q_UNCORR", .u32, .rw, .imm, .const 0, .counter⟩,
   ⟨0x9800, 0x1, 173, 10, 10, "UNDERRUNS", .u32, .rw, .imm, .const 0, .counter⟩,
   ⟨0x9800, 0x1, 173, 11, 11, "CREDIT_WAIT", .u64, .rw, .imm, .const 0, .counter⟩]
/-- The object rows of 19_dma_programs.md. -/
def rows_dma : List ObjRow :=
  [⟨0x7000, 0x1, 32, 1, 1, "CH_PROGRAM", .domain, .rw, .imm, .const 0, .bytes 16 1024 16⟩,
   ⟨0x7000, 0x1, 32, 2, 2, "CH_CMD", .u8, .wo, .imm, .const 0, .codes [1, 2, 3]⟩,
   ⟨0x7000, 0x1, 32, 3, 3, "CH_STATE", .u8, .ro, .none, .const 0, .any⟩,
   ⟨0x7000, 0x1, 32, 4, 4, "CH_PC", .u8, .ro, .none, .const 0, .any⟩,
   ⟨0x7000, 0x1, 32, 5, 5, "CH_REMAIN", .u32, .ro, .none, .const 0, .any⟩,
   ⟨0x7000, 0x1, 32, 6, 6, "CH_SRC", .u64, .ro, .none, .const 0, .any⟩,
   ⟨0x7000, 0x1, 32, 7, 7, "CH_DST", .u64, .ro, .none, .const 0, .any⟩,
   ⟨0x7000, 0x1, 32, 8, 8, "LOOP0", .u32, .ro, .none, .const 0, .counter⟩,
   ⟨0x7000, 0x1, 32, 9, 9, "LOOP1", .u32, .ro, .none, .const 0, .counter⟩,
   ⟨0x7000, 0x1, 32, 10, 10, "ERR_CODE", .u8, .ro, .none, .const 0, .any⟩,
   ⟨0x7000, 0x1, 32, 11, 11, "ERR_ADDR", .u64, .ro, .none, .const 0, .any⟩,
   ⟨0x7000, 0x1, 32, 12, 12, "SIG_CODE", .u16, .ro, .none, .const 0, .any⟩,
   ⟨0x7000, 0x1, 32, 13, 13, "CH_FLAGS", .u8, .rw, .w1c, .const 0, .bits 0xF⟩,
   ⟨0x7000, 0x1, 32, 14, 14, "CH_BYTES", .u64, .rw, .imm, .const 0, .counter⟩,
   ⟨0x7000, 0x1, 32, 15, 15, "CH_CMD_STATE", .u8, .ro, .none, .const 0, .any⟩,
   ⟨0x7100, 0x1, 1, 1, 1, "DMA_BUSY", .u32, .ro, .none, .const 0, .any⟩,
   ⟨0x7100, 0x1, 1, 2, 2, "SRAM_CORR", .u32, .rw, .imm, .const 0, .counter⟩,
   ⟨0x7100, 0x1, 1, 3, 3, "SRAM_UNCORR", .u32, .rw, .imm, .const 0, .counter⟩]
/-- The object rows of 20_event_router.md. -/
def rows_router : List ObjRow :=
  [⟨0x7800, 0x1, 8, 1, 128, "ROUTE", .u32, .rw, .evt, .const 0, .bits 0xFFFFFFFF⟩,
   ⟨0x7808, 0x1, 8, 1, 128, "ROUTE_FLAGS", .u8, .rw, .w1c, .const 0, .bits 0x1⟩,
   ⟨0x7810, 0x1, 3, 1, 128, "RAISED", .u32, .rw, .imm, .const 0, .counter⟩,
   ⟨0x7818, 0x1, 3, 1, 128, "TASK_FLAGS", .u8, .rw, .w1c, .const 0, .bits 0x1⟩,
   ⟨0x7820, 0x1, 3, 1, 128, "COINCIDE", .u32, .rw, .imm, .const 0, .counter⟩,
   ⟨0x7828, 0x1, 1, 1, 1, "ROUTE_LOOPS", .u32, .rw, .imm, .const 0, .counter⟩,
   ⟨0x7830, 0x1, 1, 1, 16, "RELAY_DELAY", .u16, .rw, .evt, .const 1, .nums [(1, 65535)] 1 false false⟩,
   ⟨0x7840, 0x1, 16, 1, 1, "EVT_PULSE", .u32, .rw, .evt, .const 20, .nums [(1, 4294967295)] 1 false false⟩,
   ⟨0x7840, 0x1, 16, 2, 2, "EVT_POLARITY", .bool, .rw, .evt, .const 0, .any⟩,
   ⟨0x7850, 0x1, 16, 1, 1, "EVT_EDGE", .u8, .rw, .evt, .const 1, .codes [1, 2, 3]⟩,
   ⟨0x7850, 0x1, 16, 2, 2, "EVT_GLITCH", .u16, .rw, .evt, .const 40, .nums [(1, 40000)] 1 false false⟩,
   ⟨0x7860, 0x1, 1, 1, 1, "SW_RAISE", .u16, .wo, .evt, .const 0, .any⟩,
   ⟨0x7870, 0x1, 1, 1, 16, "QEV_SEL", .u8, .rw, .evt, .const 255, .nums [(0, 172), (255, 255)] 1 false false⟩,
   ⟨0x7880, 0x1, 1, 1, 64, "EVT_COUNT", .u32, .rw, .imm, .const 0, .counter⟩]
/-- The object rows of 21_systems_mirroring.md, part 1. -/
def rows_systems1 : List ObjRow :=
  [⟨0xA400, 0x1, 1, 1, 1, "YL_ADDRESS", .u16, .rws, .commit, .const 0, .nums [(0, 1023)] 1 false false⟩,
   ⟨0xA400, 0x1, 1, 2, 2, "YL_ETHERTYPE", .u16, .rws, .commit, .const 34997, .nums [(1536, 65535)] 1 false false⟩,
   ⟨0xA400, 0x1, 1, 3, 3, "YL_VLAN", .u16, .rws, .commit, .const 0, .nums [(0, 0), (1, 4094)] 1 false false⟩,
   ⟨0xA400, 0x1, 1, 4, 4, "YL_MTU", .u16, .rws, .commit, .const 1500, .nums [(1500, 9000)] 1 false false⟩,
   ⟨0xA400, 0x1, 1, 5, 5, "YL_PORTS", .u8, .rws, .commit, .const 15, .bits 0xF⟩,
   ⟨0xA400, 0x1, 1, 6, 6, "YL_RETRY", .u32, .rw, .imm, .const 50, .nums [(10, 10000)] 1 false false⟩,
   ⟨0xA400, 0x1, 1, 7, 7, "YL_RETRIES", .u8, .rw, .imm, .const 8, .nums [(1, 32)] 1 false false⟩,
   ⟨0xA400, 0x1, 1, 8, 8, "YL_SESSION_TIMEOUT", .u32, .rw, .imm, .const 10000, .nums [(1000, 1000000)] 1 false false⟩,
   ⟨0xA400, 0x1, 1, 9, 9, "MGMT_ANY", .bool, .rw, .imm, .const 0, .any⟩,
   ⟨0xA401, 0x1, 1, 1, 8, "MGMT_PEER", .u16, .rw, .imm, .const 65535, .nums [(0, 1023), (65535, 65535)] 1 false false⟩,
   ⟨0xA402, 0x1, 1, 1, 1, "SESSIONS", .u16, .ro, .none, .const 0, .any⟩,
   ⟨0xA402, 0x1, 1, 2, 2, "YL_FLAGS", .u8, .rw, .w1c, .const 0, .bits 0x1⟩,
   ⟨0xA402, 0x1, 1, 3, 3, "RX_DROPPED", .u64, .rw, .imm, .const 0, .counter⟩,
   ⟨0xA402, 0x1, 1, 4, 4, "RETRANSMITS", .u64, .rw, .imm, .const 0, .counter⟩,
   ⟨0xA402, 0x1, 1, 5, 5, "SESSIONS_LOST", .u32, .rw, .imm, .const 0, .counter⟩,
   ⟨0xA410, 0x1, 1, 1, 1, "PTP_ENABLE", .bool, .rws, .commit, .const 0, .any⟩,
   ⟨0xA410, 0x1, 1, 2, 2, "PTP_DOMAIN", .u8, .rws, .commit, .const 0, .nums [(0, 127)] 1 false false⟩,
   ⟨0xA410, 0x1, 1, 3, 3, "PTP_TRANSPORT", .u8, .rws, .commit, .const 0, .codes [0, 1]⟩,
   ⟨0xA410, 0x1, 1, 4, 4, "PTP_PORTS", .u8, .rws, .commit, .const 1, .bits 0xF⟩,
   ⟨0xA410, 0x1, 1, 5, 5, "PTP_PRIORITY1", .u8, .rws, .commit, .const 128, .nums [(0, 255)] 1 false false⟩,
   ⟨0xA410, 0x1, 1, 6, 6, "PTP_PRIORITY2", .u8, .rws, .commit, .const 128, .nums [(0, 255)] 1 false false⟩,
   ⟨0xA410, 0x1, 1, 7, 7, "PTP_STATE", .u8, .ro, .none, .const 0, .any⟩,
   ⟨0xA410, 0x1, 1, 8, 8, "TIME_OFFSET", .i64, .ro, .none, .const 0, .any⟩,
   ⟨0xA410, 0x1, 1, 9, 9, "TIME_STEP_LIMIT", .u32, .rw, .imm, .const 1000000, .nums [(1000, 1000000000)] 1 false false⟩,
   ⟨0xA410, 0x1, 1, 10, 10, "TIME_STEPS", .u32, .rw, .imm, .const 0, .counter⟩,
   ⟨0xA420, 0x1, 1, 1, 1, "WEB_REF", .u16, .rws, .commit, .const 65535, .nums [(0, 1023), (65535, 65535)] 1 false false⟩,
   ⟨0xA420, 0x1, 1, 2, 2, "ALIGN_TOL", .u16, .rw, .imm, .const 64, .nums [(1, 65535)] 1 false false⟩,
   ⟨0xA420, 0x1, 1, 3, 3, "ALIGN_STATE", .u8, .ro, .none, .const 0, .any⟩,
   ⟨0xA420, 0x1, 1, 4, 4, "ALIGN_ERR", .i32, .ro, .none, .const 0, .any⟩,
   ⟨0xA420, 0x1, 1, 5, 5, "ALIGN_FLAGS", .u8, .rw, .w1c, .const 0, .bits 0x1⟩,
   ⟨0xA420, 0x1, 1, 6, 6, "DIVERGE_COUNT", .u32, .rw, .imm, .const 0, .counter⟩,
   ⟨0xA430, 0x1, 1, 1, 1, "GROUP_ID", .u16, .rws, .commit, .const 0, .nums [(0, 65535)] 1 false false⟩,
   ⟨0xA430, 0x1, 1, 2, 2, "GROUP_TIMEOUT", .u32, .rw, .imm, .const 2000, .nums [(100, 100000)] 1 false false⟩,
   ⟨0xA430, 0x1, 1, 3, 3, "GROUP_STATE", .u8, .ro, .none, .const 0, .any⟩,
   ⟨0xA430, 0x1, 1, 4, 4, "ABSENT_MASK", .u8, .ro, .none, .const 0, .any⟩,
   ⟨0xA431, 0x1, 1, 1, 8, "MEMBER_ADDR", .u16, .rws, .commit, .const 65535, .nums [(0, 1023), (65535, 65535)] 1 false false⟩,
   ⟨0xA432, 0x1, 1, 1, 8, "MEMBER_PARTNER", .u16, .rws, .commit, .const 65535, .nums [(0, 1023), (65535, 65535)] 1 false false⟩,
   ⟨0xA433, 0x1, 1, 1, 8, "MEMBER_BASE", .u32, .ro, .none, .const 0, .any⟩,
   ⟨0xA440, 0x1, 1, 1, 16, "SHED_PEER", .u16, .rw, .imm, .const 65535, .nums [(0, 1023), (65535, 65535)] 1 false false⟩,
   ⟨0xA441, 0x1, 1, 1, 1, "SHED_PEERS_LIVE", .u16, .ro, .none, .const 0, .any⟩]
/-- The object rows of 21_systems_mirroring.md, part 2. -/
def rows_systems2 : List ObjRow :=
  [⟨0xA441, 0x1, 1, 2, 2, "SHED_REFUSED", .u32, .rw, .imm, .const 0, .counter⟩,
   ⟨0xA800, 0x1, 1, 1, 1, "PAIR_PEER", .u16, .rws, .commit, .const 65535, .nums [(0, 1023), (65535, 65535)] 1 false false⟩,
   ⟨0xA800, 0x1, 1, 2, 2, "PAIR_ROLE", .u8, .rws, .commit, .const 0, .codes [0, 1]⟩,
   ⟨0xA800, 0x1, 1, 3, 3, "PAIR_POSITION", .u8, .rws, .commit, .const 0, .codes [0, 1]⟩,
   ⟨0xA800, 0x1, 1, 4, 4, "PAIR_CMD", .u8, .wo, .imm, .const 0, .codes [1, 2]⟩,
   ⟨0xA800, 0x1, 1, 5, 5, "PAIR_STATE", .u8, .ro, .none, .const 0, .any⟩,
   ⟨0xA800, 0x1, 1, 6, 6, "PAIR_REFUSAL", .u8, .ro, .none, .const 0, .any⟩,
   ⟨0xA800, 0x1, 1, 7, 7, "PAIR_GUARD", .u16, .rw, .imm, .const 256, .nums [(64, 16384)] 1 false false⟩,
   ⟨0xA800, 0x1, 1, 8, 8, "PEER_COMPLETE", .u64, .ro, .none, .const 281474976710655, .any⟩,
   ⟨0xA800, 0x1, 1, 9, 9, "PEER_EPOCH", .u32, .ro, .none, .const 0, .any⟩,
   ⟨0xA800, 0x1, 1, 10, 10, "LAST_HEARTBEAT", .u64, .ro, .none, .const 0, .any⟩,
   ⟨0xA800, 0x1, 1, 11, 11, "HB_PATHS", .u8, .ro, .none, .const 0, .any⟩,
   ⟨0xA800, 0x1, 1, 12, 12, "PAIR_FLAGS", .u8, .rw, .w1c, .const 0, .bits 0xF⟩,
   ⟨0xA800, 0x1, 1, 13, 13, "FAILOVERS", .u32, .rw, .imm, .const 0, .counter⟩]
/-- All rows of 21_systems_mirroring.md. -/
def rows_systems : List ObjRow := rows_systems1 ++ rows_systems2
/-- The object rows of 22_host_interfaces.md. -/
def rows_hostif : List ObjRow :=
  [⟨0xB010, 0x1, 17, 1, 1, "RING_WB", .u64, .rw, .imm, .const 0, .nums [(0, 18446744073709551615)] 8 false false⟩,
   ⟨0xB010, 0x1, 17, 2, 2, "COAL_COUNT", .u16, .rw, .imm, .const 1, .nums [(1, 65535)] 1 false false⟩,
   ⟨0xB010, 0x1, 17, 3, 3, "COAL_TIME", .u32, .rw, .imm, .const 0, .nums [(0, 1000000)] 1 false false⟩,
   ⟨0xB080, 0x1, 4, 1, 1, "ETH_MODE", .u8, .rws, .commit, .const 0, .codes [0, 1, 2]⟩,
   ⟨0xB080, 0x1, 4, 2, 2, "ETH_IPV4", .u32, .rws, .commit, .const 0, .any⟩,
   ⟨0xB080, 0x1, 4, 3, 3, "ETH_LINK", .u8, .ro, .none, .const 0, .any⟩,
   ⟨0xB080, 0x1, 4, 4, 4, "FEC_CORR", .u64, .rw, .imm, .const 0, .counter⟩,
   ⟨0xB080, 0x1, 4, 5, 5, "FEC_UNCORR", .u64, .rw, .imm, .const 0, .counter⟩,
   ⟨0xB080, 0x1, 4, 6, 6, "RX_PAUSE", .u32, .rw, .imm, .const 0, .counter⟩,
   ⟨0xB090, 0x1, 1, 1, 1, "ETH_MAC_BASE", .u64, .ro, .none, .calc .macBase, .any⟩,
   ⟨0xB100, 0x1, 16, 1, 1, "UD_PORT", .u8, .rwl, .frame, .const 0, .nums [(0, 3)] 1 false false⟩,
   ⟨0xB100, 0x1, 16, 2, 2, "UD_MAC", .u64, .rwl, .frame, .const 0, .bits 0xFFFFFFFFFFFF⟩,
   ⟨0xB100, 0x1, 16, 3, 3, "UD_IPV4", .u32, .rwl, .frame, .const 0, .any⟩,
   ⟨0xB100, 0x1, 16, 4, 4, "UD_DST_PORT", .u16, .rwl, .frame, .const 0, .nums [(1, 65535)] 1 false false⟩,
   ⟨0xB100, 0x1, 16, 5, 5, "UD_SRC_PORT", .u16, .rwl, .frame, .const 49152, .nums [(1, 65535)] 1 false false⟩,
   ⟨0xB100, 0x1, 16, 6, 6, "UD_VLAN", .u16, .rwl, .frame, .const 0, .nums [(0, 0), (1, 4094)] 1 false false⟩,
   ⟨0xB100, 0x1, 16, 7, 7, "UD_DSCP", .u8, .rwl, .frame, .const 0, .nums [(0, 63)] 1 false false⟩,
   ⟨0xB100, 0x1, 16, 8, 8, "UD_MTU", .u16, .rwl, .frame, .const 1500, .nums [(576, 9000)] 1 false false⟩,
   ⟨0x1600, 0x1, 1, 1, 32, "RXPDO", .u32, .rw, .imm, .const 0, .any⟩,
   ⟨0x1A00, 0x1, 1, 1, 32, "TXPDO", .u32, .rw, .imm, .perSub [2956984608], .any⟩,
   ⟨0x1C12, 0x1, 1, 1, 1, "SM2 assign", .u16, .ro, .none, .const 5632, .any⟩,
   ⟨0x1C13, 0x1, 1, 1, 1, "SM3 assign", .u16, .ro, .none, .const 6656, .any⟩,
   ⟨0xB040, 0x1, 1, 1, 1, "PD_STATUS", .u32, .ro, .none, .const 8, .any⟩,
   ⟨0xB0C0, 0x1, 1, 1, 1, "ECAT_ALIAS", .u16, .rws, .commit, .const 0, .nums [(0, 65535)] 1 false false⟩,
   ⟨0xB0C0, 0x1, 1, 2, 2, "ECAT_WDT", .u16, .rw, .imm, .const 100, .nums [(0, 65535)] 1 false false⟩,
   ⟨0xB0C0, 0x1, 1, 3, 3, "ECAT_STATE", .u8, .ro, .none, .const 1, .any⟩,
   ⟨0xB0C0, 0x1, 1, 4, 4, "ECAT_FLAGS", .u8, .rw, .w1c, .const 0, .bits 0x1⟩]
/-- The object rows of 23_security.md. -/
def rows_security : List ObjRow :=
  [⟨0x2300, 0x1, 1, 1, 1, "FW_RUNNING", .u8, .ro, .none, .const 0, .any⟩,
   ⟨0x2300, 0x1, 1, 2, 2, "FW_FALLBACK", .bool, .ro, .none, .const 0, .any⟩,
   ⟨0x2300, 0x1, 1, 3, 3, "FW_PREFER", .u8, .ro, .none, .const 0, .any⟩,
   ⟨0x2300, 0x1, 1, 4, 4, "ROLLBACK", .u8, .ro, .none, .const 0, .any⟩,
   ⟨0x2300, 0x1, 1, 5, 5, "ROLLBACK_COMMIT", .u8, .wo, .imm, .const 0, .codes [1]⟩,
   ⟨0x2300, 0x1, 1, 6, 6, "DEBUG_STATE", .u8, .ro, .none, .const 0, .any⟩,
   ⟨0x2300, 0x1, 1, 7, 7, "FUSE_CMD", .u32, .wo, .imm, .const 0, .any⟩,
   ⟨0x2300, 0x1, 1, 8, 8, "FUSE_RESULT", .u8, .ro, .none, .const 0, .any⟩,
   ⟨0x2300, 0x1, 1, 9, 9, "POLICY", .u8, .ro, .none, .const 0, .any⟩,
   ⟨0x2301, 0x1, 2, 1, 1, "FW_VERSION", .string, .ro, .none, .const 0, .bytes 0 255 1⟩,
   ⟨0x2301, 0x1, 2, 2, 2, "FW_SVN", .u16, .ro, .none, .const 0, .any⟩,
   ⟨0x2301, 0x1, 2, 3, 3, "FW_DIGEST", .domain, .ro, .none, .const 0, .bytes 32 32 1⟩,
   ⟨0x2301, 0x1, 2, 4, 4, "FW_STATE", .u8, .ro, .none, .const 0, .any⟩,
   ⟨0x2303, 0x1, 1, 1, 1, "FW_IMAGE", .domain, .wo, .reset, .const 0, .bytes 3424 16777216 1⟩,
   ⟨0x2304, 0x1, 4, 1, 1, "OWNER_KEY_DIGEST", .domain, .ro, .none, .const 0, .bytes 32 32 1⟩,
   ⟨0x2304, 0x1, 4, 2, 2, "OWNER_KEY_STATE", .u8, .ro, .none, .const 0, .any⟩,
   ⟨0x2308, 0x1, 1, 1, 1, "OWNER_KEY_BURN", .domain, .wo, .imm, .const 0, .bytes 1793 1793 1⟩,
   ⟨0x2309, 0x1, 1, 1, 1, "IDENTITY_CERT", .domain, .ro, .none, .const 0, .bytes 5224 5224 1⟩,
   ⟨0x2309, 0x1, 1, 2, 2, "IDENTITY_KEY", .domain, .ro, .none, .const 0, .bytes 1793 1793 1⟩,
   ⟨0x230A, 0x1, 1, 1, 1, "QUOTE_NONCE", .domain, .rw, .imm, .const 0, .bytes 32 32 1⟩,
   ⟨0x230A, 0x1, 1, 2, 2, "QUOTE", .domain, .ro, .none, .const 0, .bytes 3936 3936 1⟩,
   ⟨0x230B, 0x1, 1, 1, 1, "DEBUG_NONCE", .domain, .ro, .none, .const 0, .bytes 32 32 1⟩,
   ⟨0x230B, 0x1, 1, 2, 2, "DEBUG_TOKEN", .domain, .wo, .imm, .const 0, .bytes 3328 3328 1⟩]
/-- The object rows of 24_power_clocks_thermal.md. -/
def rows_supplies : List ObjRow :=
  [⟨0x2100, 0x1, 1, 1, 1, "VIN_A_MV", .u16, .ro, .none, .const 0, .any⟩,
   ⟨0x2100, 0x1, 1, 2, 2, "VIN_B_MV", .u16, .ro, .none, .const 0, .any⟩,
   ⟨0x2100, 0x1, 1, 3, 3, "SUPPLY_IN_USE", .u8, .ro, .none, .const 0, .any⟩,
   ⟨0x2100, 0x1, 1, 4, 4, "SUPPLY_FLAGS", .u8, .rw, .w1c, .const 0, .bits 0x1F⟩,
   ⟨0x2100, 0x1, 1, 5, 5, "SWITCHOVERS", .u32, .rw, .imm, .const 0, .counter⟩,
   ⟨0x2100, 0x1, 1, 6, 6, "INPUT_POWER", .u32, .ro, .none, .const 0, .any⟩,
   ⟨0x2100, 0x1, 1, 7, 7, "VIO_A_LEVEL", .u8, .ro, .none, .const 0, .any⟩,
   ⟨0x2100, 0x1, 1, 8, 8, "VIO_A_MV", .u16, .ro, .none, .const 0, .any⟩,
   ⟨0x2100, 0x1, 1, 9, 9, "VIO_B_MV", .u16, .ro, .none, .const 0, .any⟩,
   ⟨0x2110, 0x1, 1, 1, 1, "SPREAD_ENABLE", .bool, .rws, .commit, .const 0, .any⟩,
   ⟨0x2110, 0x1, 1, 2, 2, "CLOCK_FLAGS", .u8, .rw, .w1c, .const 0, .bits 0x7⟩,
   ⟨0x2120, 0x1, 1, 1, 1, "TJ", .q16, .ro, .none, .const 0, .any⟩,
   ⟨0x2120, 0x1, 1, 2, 5, "TJ_PD", .q16, .ro, .none, .const 0, .any⟩,
   ⟨0x2120, 0x1, 1, 6, 6, "TJ_HUB", .q16, .ro, .none, .const 0, .any⟩,
   ⟨0x2120, 0x1, 1, 7, 7, "TJ_WARN", .q16, .rw, .imm, .const 6553600, .nums [(3932160, 6881280)] 1 false false⟩,
   ⟨0x2120, 0x1, 1, 8, 8, "TJ_THROTTLE", .q16, .rw, .imm, .const 6750208, .nums [(4587520, 7077888)] 1 false false⟩,
   ⟨0x2120, 0x1, 1, 9, 9, "TJ_SHUTDOWN", .q16, .ro, .none, .const 7340032, .any⟩,
   ⟨0x2120, 0x1, 1, 10, 10, "TJ_RESUME", .q16, .ro, .none, .const 6225920, .any⟩,
   ⟨0x2120, 0x1, 1, 11, 11, "THERM_STATE", .u8, .ro, .none, .const 0, .any⟩,
   ⟨0x2120, 0x1, 1, 12, 12, "THERM_FLAGS", .u8, .rw, .w1c, .const 0, .bits 0xF⟩,
   ⟨0x2120, 0x1, 1, 13, 13, "THROTTLE_FRAMES", .u64, .rw, .imm, .const 0, .counter⟩,
   ⟨0x2120, 0x1, 1, 14, 14, "TJ_PEAK", .q16, .rw, .imm, .const 0, .counter⟩,
   ⟨0x2130, 0x1, 1, 1, 1, "LIFE_EQUIV", .u64, .ro, .none, .const 0, .any⟩,
   ⟨0x2130, 0x1, 1, 2, 2, "OP_HOURS", .u64, .ro, .none, .const 0, .any⟩,
   ⟨0x2140, 0x1, 1, 1, 1, "SLEW_MARK", .u8, .rw, .imm, .const 1, .nums [(0, 3)] 1 false false⟩,
   ⟨0x2140, 0x1, 1, 2, 2, "SLEW_AXIS", .u8, .rw, .imm, .const 1, .nums [(0, 3)] 1 false false⟩,
   ⟨0x2140, 0x1, 1, 3, 3, "SLEW_EVT", .u8, .rw, .imm, .const 1, .nums [(0, 3)] 1 false false⟩,
   ⟨0x2140, 0x1, 1, 4, 4, "SLEW_STATUS", .u8, .rw, .imm, .const 1, .nums [(0, 3)] 1 false false⟩,
   ⟨0x2140, 0x1, 1, 5, 5, "SLEW_FLASH", .u8, .rw, .reset, .const 3, .nums [(0, 3)] 1 false false⟩,
   ⟨0x2141, 0x1, 1, 1, 1, "AX_IN_GLITCH", .u16, .rw, .imm, .const 40, .nums [(1, 40000)] 1 false false⟩]
end Sys2Proof.Machine
end

