-- ==== Sys2Proof/Machine/State.lean ====
section
/-! DEFINITION. The state of the TZ-1280 as plain data: every register, queue, buffer, counter, mode and pin the spec names,
the reasons a step can stop, and the state after reset. -/
namespace Sys2Proof.Machine

/-! ### Modes (chapter 03) -/

/-- The twelve modes of R65. -/
inductive Mode where
  | reset | boot | train | hold | ready | calDark | calFlat | calGeom | inspect | degraded | shadow | safe
  deriving DecidableEq, Repr

/-! ### Time (R31, R34) -/

/-- The clocks. `ctl` counts control clocks of 2.5 ns since the last loss of both supplies; `tb` is the timebase in units of
10^-8 ns, so that the servo's trim of the 10 ns increment is exact; `trim` is that trim in parts per billion (R34, R461). -/
structure Clock where
  ctl  : Nat := 0
  tb   : Nat := 0
  trim : Int := 0
  deriving DecidableEq, Repr

/-! ### The dictionary and the Tally journal (chapter 02) -/

/-- One Tally entry, field by field (R61). -/
structure TallyEntry where
  seq         : Nat
  time        : Nat
  effectFrame : Nat
  index       : Nat
  sub         : Nat
  path        : Nat
  group       : Bool := false
  mirrored    : Bool := false
  deferred    : Bool := false
  domain      : Bool := false
  result      : Nat
  sourceId    : Nat
  dlen        : Nat := 0
  value       : Nat
  deriving DecidableEq, Repr

/-- The journal ring: the retained entries, newest first; the count of the next number; the failover gaps (R61 to R64). -/
structure Journal where
  entries : List TallyEntry := []
  head    : Nat := 0
  gaps    : List (Nat × Nat) := []
  deriving DecidableEq, Repr

/-- One accepted value with the first frame it governs (R46); `frame` 0 for a value in effect from the next line on. -/
structure Change where
  frame : Nat
  key   : Nat
  value : Int
  deriving DecidableEq, Repr

/-- One accepted DOMAIN or STRING value with the first frame it governs. -/
structure BlobChange where
  frame : Nat
  key   : Nat
  bytes : Bytes
  deriving DecidableEq, Repr

/-- The write group of one path (R56): the source that opened it and the staged writes, oldest first. -/
structure WriteGroup where
  isOpen : Bool := false
  owner  : Nat := 0
  staged : List (Nat × Int) := []
  deriving DecidableEq, Repr

/-- The domain transfer of PCIe (R52, R53): the target, the direction and the staged bytes. -/
structure DomXfer where
  busy   : Bool := false
  key    : Nat := 0
  upload : Bool := false
  bytes  : Bytes := []
  addr   : Nat := 0
  deriving DecidableEq, Repr

/-- The object dictionary. `regs` holds the value of every numeric object that differs from never-written, by key
index·256 + subindex; `conf` the RWS values in force since the last commit; `changes` the accepted values of RWL objects with
their frames, newest first; `blobs` and `blobConf` the same for DOMAIN and STRING objects. -/
structure Dict where
  regs        : List (Nat × Int) := []
  conf        : List (Nat × Int) := []
  changes     : List Change := []
  blobs       : List (Nat × Bytes) := []
  blobConf    : List (Nat × Bytes) := []
  blobChanges : List BlobChange := []
  groupPcie   : WriteGroup := {}
  groupCoe    : WriteGroup := {}
  groupYal    : WriteGroup := {}
  dt          : DomXfer := {}
  deriving DecidableEq, Repr

/-! ### Timers -/

/-- The timers of the part whose expiry is a command of its own; each holds the control clock at which it started. -/
inductive Timer where
  | lineTimeout (port : Nat)
  | refCal | refPcal (port : Nat)
  | idle | train | camWait | holdup | vinRange | returnA | supplyRange | vio
  | session (peer : Nat) | heartbeat | pairPath (path : Nat) | groupMember (j : Nat) | shedPeer (addr : Nat) | shedBatch (id : Nat)
  | discovery (port : Nat) | regCmd (port : Nat) | expWrite (port : Nat) | halo | sysMerge | ecatWdt
  | coal (ring : Nat) | relay (n : Nat) | evtPulse (i : Nat) | markPulse (k : Nat) | standstill (axis : Nat) | crWake (axis : Nat)
  | dmaWait (ch : Nat) | spWake (c : Nat) | fragment (peer msg : Nat) | resend (peer msg : Nat) | idleWake | unitBand (u : Nat)
  | rowTest | tempRead | retrain | thermal | hello | offer | heartbeatSend | resetRelease
  deriving DecidableEq, Repr

/-! ### The event router (chapter 20) -/

/-- One raised event on its way: its source, its hop count (R451) and the event clock edge of its delivery (R447). -/
structure Raise where
  source : Nat
  hop    : Nat
  due    : Nat
  deriving DecidableEq, Repr

/-- A relay whose delay runs: the hop count it took and the route entries that carried the event in (R451). -/
structure RelayRun where
  hop     : Nat
  entries : List Nat
  deriving DecidableEq, Repr

/-- The event router: raised events not yet delivered, running relays, event output pulses, levels of the event inputs. -/
structure Router where
  raised  : List Raise := []
  relays  : List (Nat × RelayRun) := []
  pulses  : List Nat := []
  evtIn   : List Nat := []
  deriving DecidableEq, Repr

/-! ### Host interfaces (chapter 22) -/

/-- One ring in host memory (R485): the counts and the last signalled PI. -/
structure Ring where
  enabled  : Bool := false
  pi       : Nat := 0
  ci       : Nat := 0
  signalled : Nat := 0
  ciErr    : Bool := false
  wbErr    : Bool := false
  deriving DecidableEq, Repr

/-- PCIe: the link, host memory as the module's writes have left it (canonical, R484), the 17 rings, and MSI-X (R490). -/
structure HostIf where
  linkUp     : Bool := false
  perst      : Bool := false
  hostMem    : List Host.Cell := []
  rings      : List Ring := List.replicate 17 {}
  unmasked   : List Nat := []
  funcMasked : Bool := true
  pending    : List Nat := []
  deriving DecidableEq, Repr

/-- Ethernet: for each stream its UDP queue of record fragments waiting (R494). -/
structure Net where
  udpQueue : List (Nat × Bytes) := []
  deriving DecidableEq, Repr

/-- EtherCAT: the value every RxPDO entry held after the previous SM2 write, the TxPDO values latched last, and whether
the watchdog has stopped writes (R497, R498). -/
structure Ecat where
  rxHeld  : List (Option Int) := []
  txHeld  : List (Nat × Int) := []
  stopped : Bool := false
  deriving DecidableEq, Repr

/-! ### Ledger records (chapter 11) -/

/-- A coverage record (R286), before it is numbered. -/
structure CovRec where
  reason    : Nat
  sensor    : Nat := 0xFF
  detail    : Nat := 0
  firstLine : Nat
  lastLine  : Nat
  cdFirst   : Nat
  cdLast    : Nat
  fieldMask : Nat := 0xFF
  inspected : Bool := false
  redelivered : Bool := false
  deriving DecidableEq, Repr

/-- An event record (R286, R289), before it is numbered. -/
structure EvtRec where
  event : Nat
  frame : Nat
  d0    : Nat := 0
  d1    : Nat := 0
  d2    : Nat := 0
  redelivered : Bool := false
  deriving DecidableEq, Repr

/-- A defect record (R286). -/
structure DefRec where
  dIntegral : Nat := 0
  vMean     : Nat := 0
  expGen    : Nat := 0
  corrGen   : Nat := 0
  geomGen   : Nat := 0
  userCode  : Nat := 0
  netModel  : Nat := 0xF
  featModel : Nat := 0xF
  sensor    : Nat := 0
  cropRing  : Nat := 0xFF
  cropIndex : Nat := 0xFFFFFFFF
  orientation : Nat := 0
  dMean     : Nat := 0
  lengthUm  : Nat := 0
  widthUm   : Nat := 0
  dPeak     : Nat := 0
  areaUm2   : Nat := 0
  lineTime  : Nat := 0
  flags     : Nat := 0
  area      : Nat := 0
  cdMax     : Nat := 0
  cdMin     : Nat := 0
  markMask  : Nat := 0
  lastLine  : Nat := 0
  part      : Nat := 0
  firstLine : Nat := 0
  cd        : Nat := 0
  rule      : Nat := 0xFF
  md        : Nat := 0
  candId    : Nat := 0
  featConf  : Nat := 0
  conf      : Nat := 0
  featClass : Nat := 0
  cls       : Nat := 0
  grade     : Nat := 0
  field     : Nat := 0
  ringMask  : Nat := 0
  crop      : Nat := 0
  ruleCropRing : Nat := 0
  wantMarks : Nat := 0
  deriving DecidableEq, Repr

/-- The three kinds of Ledger record, in the order in which records of one clock are numbered (R294). -/
inductive LRec where
  | cov (c : CovRec)
  | dfx (d : DefRec)
  | evt (e : EvtRec)
  deriving DecidableEq, Repr

/-- A record that has reached the Ledger and waits for its number; `only` names the one ring of a RECORDS_LOST record; `stamp` is the control
clock of its arrival. -/
structure Incoming where
  body  : LRec
  only  : Option Nat := none
  stamp : Nat := 0
  deriving DecidableEq, Repr

/-- A numbered record in staging: its number, its bytes (128 for a defect record, 64 for others), the rings that have still to take it, and the
least and greatest web line it names (R297, R298). -/
structure Staged where
  seq   : Nat
  bytes : Bytes
  rings : List Nat
  first : Nat
  last  : Nat
  deriving DecidableEq, Repr

/-- What a ring has dropped since it was last full (R298): how many, and the span of their lines. -/
structure RingLoss where
  count : Nat := 0
  first : Nat := 0
  last  : Nat := 0
  deriving DecidableEq, Repr

/-- The Ledger (R294 to R300). `defects` and `covers` count the records of frames; `done` is the last frame done; `window` the Ledger window's slots (R433), newest first; `unacked` the records a partner has still to acknowledge (R299); `suppress` the keys of mirrored records after a failover (R300). -/
structure Ledger where
  incoming : List Incoming := []
  staged   : List Staged := []
  losses   : List RingLoss := List.replicate 4 {}
  mirrored : List Staged := []
  held     : List LRec := []
  defects  : List (Nat × Nat) := []
  covers   : List (Nat × Nat) := []
  done     : Nat := 0xFFFFFFFFFFFF
  window   : List (Nat × Bytes) := []
  unacked  : List Nat := []
  suppress : List (List Nat) := []
  deriving DecidableEq, Repr

/-! ### Position inputs and the web axis (chapter 04) -/

/-- A position input: the accepted levels of A, B and Z (or U, V and W), the stamps of counted edges, newest first, the
direction of the window, the clock of the last accepted edge, a correction waiting for INDEX_CORRECTION with the frame of its slip,
and the last raw SSI reading. -/
structure PosIn where
  levels  : BitVec 3 := 0
  stamps  : List Nat := []
  dir     : Int := 0
  lastEdge : Option Nat := none
  corr    : Option Int := none
  corrFrame : Nat := 0
  ssiLast : Option Nat := none
  ssiStamps : List (Nat × Int) := []
  deriving DecidableEq, Repr

/-- The run of web lines whose triggers were issued with LAG over LAG_TOL (R110). -/
structure LagRun where
  first : Nat
  last  : Nat
  peak  : Nat
  deriving DecidableEq, Repr

/-- The web axis (R105 to R111). `origin` is COUNT_ORIGIN; `genBase` and `genAt` hold the internal generator's position in
1/400,000,000 line at a control clock; `last` is the last trigger issued since reset, `hwm` the highest ever; `due` the control clock
at which the trigger timer expires; `first` the first index an alignment gives (R463). -/
structure Axis where
  started   : Bool := false
  origin    : Int := 0
  genBase   : Int := 0
  genAt     : Nat := 0
  last      : Option Nat := none
  lastAt    : Nat := 0
  hwm       : Option Nat := none
  due       : Option Nat := none
  backtrack : Bool := false
  frameLen  : Option Nat := none
  lag       : Option LagRun := none
  times     : List (Nat × Nat) := []
  first     : Option Nat := none
  deriving DecidableEq, Repr

/-! ### Camera lanes (chapter 05) -/

/-- An eye scan of a lane (R133, R134): 0 none, 1 a point, 2 a map; the map's counts in order of measurement. -/
structure EyeScan where
  kind     : Nat := 0
  time     : Nat := 0
  frame    : Nat := 0
  dwell    : Nat := 0
  rate     : Nat := 0
  complete : Bool := false
  counts   : List Nat := []
  deriving DecidableEq, Repr

/-- A lane receiver: consecutive valid sync headers, the last 64 headers and characters (true for a valid one, newest first), the markers
since lock, the last marker's number, block period, LANE and LINK_LANES, whether a retrain commanded by the host runs, the error-free
bits of the pattern checker, whether the pattern runs, and the eye scan. -/
structure Lane where
  good     : Nat := 0
  window   : List Bool := []
  chars    : List Bool := []
  markers  : Nat := 0
  mkSeq    : Nat := 0
  mkAt     : Nat := 0
  mkLane   : Nat := 0
  mkLinks  : Nat := 0
  hostRetrain : Bool := false
  keepTap  : Bool := false
  prbsGood : Nat := 0
  pattern  : Bool := false
  errored  : Bool := false
  eye      : EyeScan := {}
  deriving DecidableEq, Repr


/-! ### Modes, starts and capacity (chapter 03) -/

/-- What can be lost of the module's capacity (R70 cause 12, R87, R160, R389, R413, R526). -/
inductive Cap where
  | port (p : Nat)
  | pc (n : Nat)
  | cluster (c : Nat)
  | unit (u : Nat)
  | absent (p : Nat)
  | thermal
  | pinned
  deriving DecidableEq, Repr

/-- A command that waits for the end of work in progress or for the wake from idle (R90, R555). -/
inductive Waiting where
  | commit
  | load (slot : Nat)
  | cal (kind : Nat)
  deriving DecidableEq, Repr

/-- The mode machine's own memory: the frame of a START or STOP waiting, the inspected spans of frames, newest first (first frame, and the
first frame no longer inspected), work of a stop still draining, whether a START has acted since reset, lost capacity, the frame of a return to
INSPECT, the shutdown latch, BOOT failed, a command waiting, the frame in which inspection last stopped (R68), and COMPLETE_FRAME
before a warm reset. Of start-up: whether it follows a cold start, the die links, CAM_WAIT_MS, whether that wait is over, and whether the
profile selected passed its checks (R85, R556). -/
structure Run where
  startAt   : Option Nat := none
  stopAt    : Option Nat := none
  spans     : List (Nat × Option Nat) := []
  draining  : Bool := false
  started   : Bool := false
  capacity  : List Cap := []
  returnAt  : Option Nat := none
  latch     : Bool := false
  bootFailed : Bool := false
  waiting   : Option Waiting := none
  stopped   : Option Nat := none
  keptDone  : Nat := 0xFFFFFFFFFFFF
  coldStart : Bool := true
  dieLinks  : Bool := false
  camWait   : Nat := 0
  camOver   : Bool := false
  profileOk : Bool := false
  deriving DecidableEq, Repr

/-! ### Camera ports (chapter 06) -/

/-- A trigger sent and not yet answered (R150): TRIG_SEQ, trigger index or calibration count, web line (none with the calibration timer),
field, exposure generation, and the control clock of its sending. -/
structure Trig where
  seq    : Nat
  k      : Nat
  line   : Option Nat
  field  : Nat
  gen    : Nat
  sentAt : Nat
  deriving DecidableEq, Repr

/-- A line in the port's receive FIFO, with what its descriptor will say (table Line descriptor). -/
structure RxLine where
  k        : Nat
  line     : Option Nat
  tag      : Nat
  field    : Nat
  state    : Nat
  valid    : Nat
  gen      : Nat
  repeatOf : Nat := 0
  echoDiff : Bool := false
  pixels   : List Nat := []
  deriving DecidableEq, Repr

/-- What a register message is for: discovery's reads and writes, the host's pass-through, an exposure set or its generation. -/
inductive TxnUse where
  | identify | configure | passRead | passWrite | expSet | expGen
  deriving DecidableEq, Repr

/-- The one outstanding register transaction of a port (R167). -/
structure Txn where
  use   : TxnUse
  tag   : Nat
  write : Bool
  addr  : Nat
  words : Nat
  deriving DecidableEq, Repr

/-- The exposure delivery of a port (R307 to R310): the generations with the first frame of each, newest first; the effect frames whose set is
to be sent; a set to be resent; the generation being delivered; the last generation acknowledged. -/
structure ExpState where
  gens    : List (Nat × Nat) := []
  dueFor  : List Nat := []
  resend  : Bool := false
  sending : Option Nat := none
  acked   : Nat := 0
  deriving DecidableEq, Repr

/-- A camera port. `waiting` holds the outstanding triggers of each tag, oldest first; `lastOwn` the last web line with data of its own for
tag·8 + field; `passWait` a pass-through that waits for discovery; `poison` a poisoned line-publication
item, which makes the port's next web line a line error (R429), with that web line once it is known. -/
structure Port where
  waiting  : List (List Trig) := List.replicate 8 []
  rx       : List RxLine := []
  lastOwn  : List (Nat × Nat) := []
  downBounds : Nat := 0
  matched  : Option Nat := none
  txn      : Option Txn := none
  msgNo    : Nat := 0
  passWait : Option Bool := none
  expWait  : Bool := false
  suspended : Bool := false
  suspendAt : Option Nat := none
  resuming : Bool := false
  readyAt  : Option Nat := none
  exp      : ExpState := {}
  poison   : Option (Option Nat) := none
  deriving DecidableEq, Repr

/-- Frames over which a port is out of stitching, for service or calibration (R229): the reason code, the first frame, and the frame of its
return when that is known. -/
structure Excl where
  port   : Nat
  reason : Nat
  first  : Nat
  stop   : Option Nat := none
  deriving DecidableEq, Repr

/-! ### Line correction (chapter 07) and calibration sets (chapter 08) -/

/-- A correction set: its header's fields (R212), its coefficient words in the order of R175 and its map entries (R178). -/
structure CalSet where
  gen        : Nat := 0
  created    : Nat := 0
  effFrame   : Nat := 0xFFFFFFFFFFFF
  originSerial : Nat := 0
  originGen  : Nat := 0
  depth      : Nat := 0
  tagCount   : Nat := 0
  fieldCount : Nat := 0
  tagPixels  : List Nat := []
  dark       : Bool := false
  flat       : Bool := false
  imported   : Bool := false
  words      : List Nat := []
  map        : List Nat := []
  deriving DecidableEq, Repr

/-- The descriptor of a line in the ring: the port's 16 bytes and Fuller's correction tag (R161, R185). -/
structure LineDesc where
  line     : Nat
  valid    : Nat
  gen      : Nat
  port     : Nat
  tag      : Nat
  field    : Nat
  state    : Nat
  repeatOf : Nat
  corrGen  : Nat := 0
  lut      : Nat := 0xFF
  bypass   : Nat := 0
  outDepth : Nat := 0
  storeErr : Bool := false
  uncal    : Bool := false
  dead     : Bool := false
  clipped  : Bool := false
  copied   : Bool := false
  deriving DecidableEq, Repr

/-- A packed line: its trigger row, its sensor, its descriptor, its packed bytes and its dead pixels (R179, R183). -/
structure Packed where
  k      : Nat
  sensor : Nat
  desc   : LineDesc
  data   : Bytes
  dead   : List Nat := []
  deriving DecidableEq, Repr

/-- A die's Fuller pipe: the output buffer (R191), the filled pixel slots of the present frame and the clock at which it began. -/
structure FullerDie where
  outq    : List Packed := []
  slots   : Nat := 0
  slotsAt : Nat := 0
  deriving DecidableEq, Repr

/-- What a calibration stop accumulates (R201): the lines summed of each field, and for each pixel of each tag and field in the order of
R175 the sum and the lines at full scale. -/
structure Sums where
  lines : List Nat := []
  sums  : List Nat := []
  full  : List Nat := []
  deriving DecidableEq, Repr

/-- A port's calibration (R194 to R202). `sets` holds the banks, newest first, each with the first frame it governs (R186). `kind` is 1 dark,
2 flat, 3 geometry while one runs; `trigs` the triggers since settling began; `stop` the traverse stop; `taken` the S of each pixel with a
result; `satur` the pixels' lines at full scale over all stops; `backAt` the frame m of its return; `failed` a failure that passes through
WAIT_REMOVAL; `downFrames` the frame boundaries with the link down;
`moved` whether the traverse axis was sent off, `ready` whether lines are being summed, `before` the working set as it was (R206);
`badWords` the 64-bit words of the active bank with an uncorrectable error (R177). -/
structure PortCal where
  sets      : List (Nat × CalSet) := []
  work      : Option CalSet := none
  kind      : Nat := 0
  device    : Bool := false
  startAt   : Nat := 0
  trigs     : Nat := 0
  stop      : Nat := 0
  acc       : Sums := {}
  taken     : List (Option Nat) := []
  satur     : List Nat := []
  gen       : Option Nat := none
  restarts  : Nat := 0
  backAt    : Option Nat := none
  failed    : Bool := false
  downFrames : Nat := 0
  moved     : Bool := false
  ready     : Bool := false
  before    : Option CalSet := none
  badWords  : List Nat := []
  deriving DecidableEq, Repr

/-- The package's calibration state: whether the calibration timer triggers (read at the entry of a CAL mode), the calibration count, and the
control clock of the next timer trigger (R195). -/
structure CalDevice where
  timer : Bool := false
  count : Nat := 0
  dueAt : Nat := 0
  deriving DecidableEq, Repr

/-! ### The history ring and the memory controller (chapter 17) -/

/-- A trigger row in the ring (R398): its trigger index, the pieces it lies in (piece, offset, length), the lines published of it, and the control
clock of the last publication. -/
structure Row where
  k     : Nat
  spans : List (Nat × Nat × Nat)
  lines : List Packed
  pubAt : Nat := 0
  deriving DecidableEq, Repr

/-- The memory controller. `ringMap` lists the pseudo-channels of the piece table made at the last commit, `gone` those deleted since;
the write position is a piece and an offset; `rows` is newest first; `lostLines` holds trigger row, sensor and pseudo-channel of lines gone
with it; `retraining` the pseudo-channel being retrained and whether by command; `cmdWait` those that wait, likewise; `postponed` the
refreshes postponed; `acts` the row activations by requester, pseudo-channel and bank and `throttled` those at their limit, in the refresh window of each stack
that began at `windowAt`; `uncorr` the control clocks of uncorrectable errors,
newest first; `lossDue` the losses by the frame at which their depth applies; `records` the losses of start-up not yet numbered. -/
structure Hbm where
  ringMap    : List Nat := []
  gone       : List Nat := []
  piece      : Nat := 0
  offset     : Nat := 0
  rows       : List Row := []
  lostLines  : List (Nat × Nat × Nat) := []
  retraining : Option (Nat × Bool) := none
  cmdWait    : List (Nat × Bool) := []
  nextPc     : Nat := 0
  postponed  : List Nat := List.replicate 64 0
  acts       : List (Nat × Nat) := []
  throttled  : List Nat := []
  windowAt   : List Nat := [0, 0]
  uncorr     : List (List Nat) := List.replicate 64 []
  lossDue    : List (Nat × Nat) := []
  records    : List Nat := []
  lastUse    : List Nat := List.replicate 64 0
  banks      : List Nat := [0x00044400, 0x00088800, 0x00111000, 0x00222000]
  phyFailed  : Nat := 0
  trained    : Bool := false
  deriving DecidableEq, Repr

/-! ### Stitching (chapter 09) -/

/-- A geometry set: the header's fields (R212) and its records as 512-bit numbers in the layout of R217. -/
structure GeomSet where
  gen        : Nat := 0
  created    : Nat := 0
  effFrame   : Nat := 0xFFFFFFFFFFFF
  originSerial : Nat := 0
  originGen  : Nat := 0
  imported   : Bool := false
  recs       : List Nat := []
  deriving DecidableEq, Repr

/-- A geometry record, field by field (R217); coefficients in 1/2^32 column. -/
structure Geo where
  port    : Nat
  tag     : Nat
  first   : Nat
  last    : Nat
  stagger : Nat
  frac    : Nat
  degree  : Nat
  descend : Bool
  coef    : List Int
  deriving DecidableEq, Repr

/-- A sensor of the plane in force: its number, its record and the columns it covers (R219). -/
structure Sensor where
  s   : Nat
  geo : Geo
  c0  : Nat
  c1  : Nat
  deriving DecidableEq, Repr

/-- A run of columns not inspected, over consecutive web lines (R230). -/
structure CovRun where
  reason : Nat
  sensor : Nat
  detail : Nat
  c0     : Nat
  c1     : Nat
  mask   : Nat
  first  : Nat
  last   : Nat
  deriving DecidableEq, Repr

/-- A line of a neighbour module's edge columns in the halo strip (R237): which edge it serves (true for the upper one), the web line and
field, the 32 values, the valid and UNCAL bits, and whether it stands for columns that came late. -/
structure HaloLine where
  upper  : Bool
  line   : Nat
  field  : Nat
  values : List Nat
  valid  : Nat
  uncal  : Nat
  late   : Bool := false
  deriving DecidableEq, Repr

/-- Loom: the committed geometry set, the geometry working set, the plane's sensors by rising FIRST_COLUMN, exclusions, cut-backs
(sensor, frame, depth), the next web line to sweep, open runs, the halo strips, the columns whose map entry is faulty, and
the last tile-frame delivered with its request number. -/
structure Loom where
  geom    : Option GeomSet := none
  work    : Option GeomSet := none
  sensors : List Sensor := []
  width   : Nat := 0
  excl    : List Excl := []
  cut     : List (Nat × Nat × Nat) := []
  next    : Option Nat := none
  runs    : List CovRun := []
  halo    : List HaloLine := []
  badMap  : List Nat := []
  delivered : Option (Nat × Bytes) := none
  deriving DecidableEq, Repr

/-! ### Markers and axes (chapter 15) -/

/-- An entry of a compare queue: its target in 1/256 line and the SEQ of the record that placed it, 0 for a host compare (R347). -/
structure Compare where
  target : Int
  seq    : Nat
  deriving DecidableEq, Repr

/-- A marker output: its queue by rising target, whether it is active, and the control clock and target of the fire that drives it (R352). -/
structure Marker where
  queue  : List Compare := []
  active : Bool := false
  since  : Nat := 0
  target : Int := 0
  deriving DecidableEq, Repr

/-- A move (R359): kind 1 absolute, 2 relative, 3 velocity, 4 homing, and 0 for a braking to rest; `goal` the end position where it is
fixed. -/
structure Move where
  kind   : Nat
  target : Int
  vmax   : Nat
  accel  : Nat
  decel  : Nat
  sync   : Bool
  goal   : Option Int := none
  deriving DecidableEq, Repr

/-- A motion axis (R357 to R369). The head of the queue is the present move once `running`; `v` is the speed in 1/65,536 step/s, `due` the
control clock of the next step, `home` the phase of homing (1 searching, 2 backing off), `since` the steps since the start from
standstill, `p0` and `c0` the feedback origins; `enabled`, `shorted`, `cr`, `dirPin` and `faultLow` the driver signals. -/
structure MotionAxis where
  queue    : List Move := []
  running  : Bool := false
  v        : Nat := 0
  dir      : Int := 1
  due      : Option Nat := none
  home     : Nat := 0
  travelled : Nat := 0
  since    : Nat := 0
  p0       : Int := 0
  c0       : Int := 0
  enabled  : Bool := false
  shorted  : Bool := false
  cr       : Bool := false
  dirPin   : Bool := false
  faultLow : Bool := false
  deriving DecidableEq, Repr

/-! ### Segmentation (chapter 10) -/

/-- An open component or a piece of one (R251 to R254): the number that stands for it in shadow rows, its label (16,384·cluster + slot), its
field, the clusters its jobs ran in, its member pixels (`old` those of parts emitted), the parts and the last web line they cover, the flags jobs set on it, and its
pieces in the neighbour module; `given` once a piece belongs to the lower neighbour, `split` once its owner split (R262, R263). -/
structure Piece where
  id    : Nat
  label : Nat
  field : Nat
  clusters : List Nat
  pix   : List Pix
  old   : List Pix := []
  parts : Nat := 0
  cutAt : Option Nat := none
  trunc : Bool := false
  replayed : Bool := false
  late  : Bool := false
  foreign : List Nat := []
  given : Bool := false
  split : Bool := false
  deriving DecidableEq, Repr

/-- A shadow entry: the piece last seen in a column, 0 for FOLD, and the web line (R249, R261). -/
structure Seen where
  id   : Nat
  line : Nat
  deriving DecidableEq, Repr

/-- The entries of a job's outer core columns after a field line (R252). -/
structure EdgeEntry where
  line : Nat
  lo   : Option Seen
  hi   : Option Seen
  deriving DecidableEq, Repr

/-- The fold of a job (R261). -/
structure Fold where
  cd0 : Nat
  cd1 : Nat
  y0  : Nat
  y1  : Nat
  px  : Nat
  runs : Nat
  peak : Nat
  dMin : Int
  dMax : Int
  seedY : Nat
  seedC : Nat
  deriving DecidableEq, Repr

/-- A segmentation job (R242): one tile-frame of one field. `unit` is where it runs, none while it waits; `band` counts the published bands;
`shadow` the shadow row by core column; `edges` and `head` its seam exports; `lost` a run of lost lines; `replay` a job that runs again. -/
structure Job where
  frame : Nat
  tile  : Nat
  field : Nat
  unit  : Option Nat := none
  cluster : Nat := 0
  band  : Nat := 0
  ready : Nat := 0
  startedAt : Nat := 0
  shadow : List (Nat × Seen) := []
  edges  : List EdgeEntry := []
  head   : List (Nat × Seen) := []
  lost   : Option (Nat × Nat) := none
  fold   : Option Fold := none
  late   : Bool := false
  replay : Bool := false
  dropped : Bool := false
  deriving DecidableEq, Repr

/-- A meeting of two pieces at a seam, exported to a merge engine: the tiles whose DONE waits for it and its web line (R252, R253). -/
structure Meet where
  a : Nat
  b : Nat
  field : Nat
  tiles : List Nat
  line  : Nat
  deriving DecidableEq, Repr

/-- The sums and counts of valid values by column over a frame and over its band 0 (R244). -/
structure Prof where
  frame : Nat
  field : Nat
  cols  : List (Nat × Nat)
  band0 : List (Nat × Nat)
  deriving DecidableEq, Repr

/-- A module seam: the neighbour's bands of edge entries received (frame, field, band; a band given up counts), its edge entries by field, the
first line its DONE has not reached by field, accumulators received by piece, and pieces of the neighbour split off (R262, R263). -/
structure Seam where
  bands : List (Nat × Nat × Nat) := []
  edges : List (Nat × EdgeEntry) := []
  done  : List (Nat × Nat) := []
  accum : List (Nat × List Pix) := []
  split : List Nat := []
  deriving DecidableEq, Repr

/-- Segmentation. `done` holds, by tile·8 + field, the first web line not yet done; `emitted` the candidate IDs and parts handed over. -/
structure Seg where
  nextFrame : Nat := 0
  jobs   : List Job := []
  pieces : List Piece := []
  nextId : Nat := 1
  meets  : List Meet := []
  profs  : List Prof := []
  done   : List (Nat × Nat) := []
  lower  : Seam := {}
  upper  : Seam := {}
  emitted : List (Nat × Nat) := []
  deriving DecidableEq, Repr

/-! ### Classification (chapter 11) and placement (chapter 16) -/

/-- A candidate (R258, R259, R261): its 64 features as raw integers. -/
structure Candidate where
  id    : Nat
  field : Nat
  part  : Nat
  first : Nat
  last  : Nat
  flags : Nat
  feats : List Int
  deriving DecidableEq, Repr

/-- A classification batch in a unit or at a peer (R382, R384). -/
structure Batch where
  id    : Nat
  unit  : Option Nat
  peer  : Option Nat
  cands : List Candidate
  deriving DecidableEq, Repr

/-- A crop request (R290 to R292): the crop ring and slot, and what the header says of the record. -/
structure CropReq where
  seq   : Nat
  id    : Nat
  part  : Nat
  field : Nat
  ring  : Nat
  slot  : Nat
  line0 : Nat
  col0  : Int
  width : Nat
  height : Nat
  depth : Nat
  clipped : Bool
  deriving DecidableEq, Repr

/-- A model slot: the images with their effect frames, newest first (R282). -/
structure ModelSlot where
  images : List (Nat × Bytes) := []
  deriving DecidableEq, Repr

/-- Classification: the candidate queue in handover order, batches, the network queue's entries, model slots, crops waiting, and the crop
slots taken and not yet written by ring. -/
structure Classify where
  queue   : List Candidate := []
  batches : List Batch := []
  nextBatch : Nat := 0
  netQueue : Nat := 0
  slots   : List ModelSlot := List.replicate 8 {}
  crops   : List CropReq := []
  cropAhead : List Nat := List.replicate 4 0
  deriving DecidableEq, Repr

/-- A cluster in the placement (R389 to R393): its service by frame, newest first, whether a fault removed it, its units out, whether a full
background test has passed since it left service or the last one failed, the epoch frames of its release and return, and the frame of its
last fault. -/
structure Clus where
  service : List (Nat × Bool) := []
  faulted : Bool := false
  unitsOut : List Nat := []
  tested  : Bool := false
  released : Option Nat := none
  returnAt : Option Nat := none
  faultAt : Option Nat := none
  failed  : Bool := false
  deriving DecidableEq, Repr

/-- The placement engine: epochs to come, and the clusters (R372 to R393). -/
structure Place where
  epochs : List Nat := []
  clus   : List Clus := List.replicate 64 {}
  deriving DecidableEq, Repr

/-! ### Frame statistics (chapter 12) -/

/-- One accumulator bank of a port and field (R301 to R306): the frame, the counts of the header, the setting of the last counted line (with
whether a second setting applied), the bins, and each zone's count and sum. -/
structure StatBank where
  frame   : Nat
  lines   : Nat := 0
  pixels  : Nat := 0
  satur   : Nat := 0
  echo    : Nat := 0
  corrGen : Nat := 0
  setting : Option (List Nat) := none
  changed : Bool := false
  bins    : List Nat := List.replicate 1024 0
  counts  : List Nat := List.replicate 64 0
  zoneSums : List Nat := List.replicate 64 0
  deriving DecidableEq, Repr

/-- The statistics of one port and field: the banks that accumulate, oldest first; the bank in readout; the records lost since the last one
delivered. -/
structure StatAcc where
  banks   : List StatBank := []
  readout : Option StatBank := none
  lost    : Nat := 0
  deriving DecidableEq, Repr
/-! ### Scratchpads, credit queues and DMA (chapters 18 and 19) -/

/-- A cluster's scratchpad (R419 to R423): the repair map from row to spare, the next row of the background test and the control clock of its last
one, and the control clock at which a full test began. -/
structure Scratch where
  repair : List (Nat × Nat) := []
  next   : Nat := 0
  lastAt : Nat := 0
  fullAt : Nat := 0
  deriving DecidableEq, Repr

/-- A credit queue (R424 to R428): its words, oldest first, and the last word delivered. -/
structure CQueue where
  words : List Word64 := []
  last  : Word64 := 0
  deriving DecidableEq, Repr

/-- A DMA channel beside its objects (R430 to R443): the wraps of the source and destination register, the active loop counters, the pending
event, whether a MOVE is under way, the holding register, whether a stop was taken, the bytes written to host memory without a response and the
address of the last beat written there. -/
structure Chan where
  wrapSrc : Nat := 0
  wrapDst : Nat := 0
  loopOn0 : Bool := false
  loopOn1 : Bool := false
  pending : Bool := false
  inMove  : Bool := false
  hold    : Bytes := []
  stopping : Bool := false
  posted  : Nat := 0
  lastHost : Option Nat := none
  deriving DecidableEq, Repr

/-- The DMA channels and the DMA SRAM by address, in canonical form (R432). -/
structure Dma where
  chans : List Chan := List.replicate 32 {}
  sram  : List Host.Cell := []
  deriving DecidableEq, Repr

/-! ### Supplies, clocks and temperature (chapter 24) -/

/-- Supplies, clocks and temperature: whether VIN_A and VIN_B are good and inside the operating range (R515, R516), whether the rails are good and
VIO_A has settled and at which level in tenths of a volt (R519, R548, R549), whether the root PLL is locked and reset is released; TJ, the frames
from which throttling holds or ends, newest first (R526), the first frame that began below the exit threshold (R525), the readings in a row at
TJ_SHUTDOWN or above, and what LIFE_EQUIV, in 2^-32 readings, and OP_HOURS have accumulated below their units (R533). -/
structure Power where
  goodA    : Bool := false
  goodB    : Bool := false
  rangeA   : Bool := false
  rangeB   : Bool := false
  rails    : Bool := false
  vioReady : Bool := false
  vioLevel : Nat := 0
  pll      : Bool := false
  released : Bool := false
  tj       : Int := 0
  throttle : List (Nat × Bool) := []
  coolSince : Option Nat := none
  hot      : Nat := 0
  lifeRest : Nat := 0
  hourRest : Nat := 0
  deriving DecidableEq, Repr
/-! ### Streams, monitors and compression (chapters 13 and 14) -/

/-- A sample of a stream or monitor: its value, and whether it is valid, STALE and UNCAL (R318). -/
structure Samp where
  v     : Nat
  ok    : Bool
  stale : Bool
  uncal : Bool
  deriving DecidableEq, Repr

/-- A stream record being filled (R321): its frame, its packed lines, the WEB_LINE of line 0, and its flags so far. -/
structure OpenRec where
  frame : Nat
  lines : List Bytes
  first : Nat
  flags : Nat
  deriving DecidableEq, Repr

/-- A closed stream record on its way: its stream, frame and number, its header without DROPPED_BEFORE, BODY_LENGTH and COMPRESSED, and its
uncompressed body. -/
structure ClosedRec where
  stream : Nat
  frame  : Nat
  seq    : Nat
  head   : Nat
  raw    : Bytes
  compress : Bool
  deriving DecidableEq, Repr

/-- A stream: the inputs of its MD chain since the reset, newest first, their count and the reset line (R317); the record being filled; whether the
next line is output 0; records lost since the last delivery; the last line formed with its WEB_LINE; closed records not yet handed off; the frames
for which SYNC is due; and the first frame delivered after a failover (R334). -/
structure StreamSt where
  inputs : List (List Samp) := []
  count  : Nat := 0
  l0     : Nat := 0
  cur    : Option OpenRec := none
  lost   : Nat := 0
  last   : Option (List Samp × Nat) := none
  ready  : List ClosedRec := []
  syncAt : List Nat := []
  deliverFrom : Nat := 0
  deriving DecidableEq, Repr

/-- A monitor: the inputs of its chain since the reset, newest first, their count, the reset line, the frames for which SYNC is due. -/
structure MonSt where
  inputs : List Samp := []
  count  : Nat := 0
  l0     : Nat := 0
  syncAt : List Nat := []
  syncFrame : Nat := 0xFFFFFFFFFFFF
  deriving DecidableEq, Repr

/-- A DEFLATE engine (R341, R344): the record it holds and whether it is stalled. -/
structure Engine where
  held    : Option ClosedRec := none
  stalled : Bool := false
  deriving DecidableEq, Repr

/-- Streams, monitors, the compression queue and the engines; the last swept line of each field, and the columns held for a port's calibration
(port, field, column, sample) (R333). -/
structure Streams where
  st      : List StreamSt := List.replicate 8 {}
  mons    : List MonSt := List.replicate 64 {}
  queue   : List ClosedRec := []
  engines : List Engine := List.replicate 4 {}
  lastLine : List (Nat × List Samp) := []
  held    : List (Nat × Nat × Nat × Samp) := []
  deriving DecidableEq, Repr

/-! ### Joined systems (chapter 21) -/

/-- A message between modules: its class and type, its number within its class, its fields in the order its contents are listed, and the bytes
that follow them. -/
structure YMsg where
  cls    : Nat
  typ    : Nat
  seq    : Nat
  fields : List Nat
  data   : Bytes
  deriving DecidableEq, Repr

/-- A message sent with ACK_REQ and not yet acknowledged: its repeats so far and the control clock of the last sending (R458). -/
structure YWait where
  msg    : YMsg
  tries  : Nat
  sentAt : Nat
  deriving DecidableEq, Repr

/-- A message received in part: its fragments by number, the number of its last fragment once that is known, and the control clock of its first
fragment (R458); `whole` once every fragment has come and earlier messages of its class are awaited. -/
structure YFrag where
  peer  : Nat
  cls   : Nat
  seq   : Nat
  parts : List (Nat × Bytes)
  last  : Option Nat
  since : Nat
  whole : Bool := false
  deriving DecidableEq, Repr

/-- A session (R457, R458): the peer, the number, the control clock of the last frame from the peer, the next number to send and the next number
to deliver by class, messages delivered (class and number), messages not yet acknowledged, and requests not yet answered. -/
structure Session where
  peer    : Nat
  number  : Nat
  lastRx  : Nat
  nextOut : List Nat := List.replicate 8 0
  nextIn  : List Nat := List.replicate 8 0
  seen    : List (Nat × Nat) := []
  waits   : List YWait := []
  requests : Nat := 0
  deriving DecidableEq, Repr

/-- What a peer's last HELLO said (R456): its address, serial, mode, group and pair peer, with the port and MAC address it came by. -/
structure Hello where
  addr   : Nat
  serial : Nat
  mode   : Nat
  group  : Nat
  pair   : Nat
  port   : Nat
  mac    : Nat
  deriving DecidableEq, Repr

/-- What a group member's last DESC said (R466): its base, its width and the settings that must be equal. -/
structure DescMsg where
  base     : Nat
  width    : Nat
  settings : List Int
  deriving DecidableEq, Repr

/-- A group member as this module knows it (R468): its last DESC, the control clock of its last ALIGN, HALO or DESC, whether it is absent, and the
first frame at which it counts as present again. -/
structure Member where
  desc    : Option DescMsg := none
  heardAt : Option Nat := none
  absent  : Bool := false
  backAt  : Option Nat := none
  deriving DecidableEq, Repr

/-- A peer's last OFFER (R469): its address, candidates per second, model digests and control clock. -/
structure OfferMsg where
  addr    : Nat
  rate    : Nat
  digests : List Bytes
  at_     : Nat
  deriving DecidableEq, Repr

/-- Shedding: live offers, batches sent to peers with the control clock of each, and whether OFFERs have gone out since the last LEAVE. -/
structure Shed where
  offers  : List OfferMsg := []
  sentAt  : List (Nat × Nat) := []
  leaving : Bool := false
  deriving DecidableEq, Repr

/-- An access that a paired primary holds (R476): the path, the object, the value written (none for a read, which waits behind a write of its
path), the number of its PROPOSE (none while an earlier write of its path waits), whether its ACK has come, and, where the sender waits for an answer, the
TAG of its MGMT request, or 0 for an SDO or a domain transfer. -/
structure Proposal where
  path : Path
  key  : Nat
  val  : Option DictVal
  seq  : Option Nat
  acked : Bool := false
  tag  : Option Nat := none
  deriving DecidableEq, Repr

/-- The mirrored pair (R472 to R482). `proposals` are the primary's waiting accesses and `accepting` whether one is being accepted; `heardYal` and
`heardPin` the control clocks of the last heartbeat on each path; `hbIn` and `hbOut` the levels of PAIR_HB_IN and PAIR_HB_OUT; `reported` the mode
the module's own last heartbeat gave. Of the partner: `peerMode`, `peerDelivered`, `peerFires` and `completion` from heartbeats; `records` its mirrored
records, oldest first; `queues` its Stamper queues with `syncHwm`, its LEDGER_HWM at that time; `shadowAt` the first frame of SHADOW; `declared`
the frame in which it was declared failed. `setsDue` says that FRAME_SYNC has sets to send since a commit. -/
structure Pair where
  proposals : List Proposal := []
  accepting : Bool := false
  heardYal  : Option Nat := none
  heardPin  : Option Nat := none
  hbIn      : Bool := false
  hbOut     : Bool := false
  reported  : Nat := 0
  peerMode  : Nat := 0
  peerDelivered : List Nat := List.replicate 4 0
  peerFires : List Int := List.replicate 16 0
  completion : Nat := 0xFFFFFFFFFFFF
  records   : List Staged := []
  queues    : List (List Compare) := List.replicate 16 []
  syncHwm   : Nat := 0
  shadowAt  : Option Nat := none
  declared  : Option Nat := none
  setsDue   : Bool := false
  deriving DecidableEq, Repr

/-- Everything of the joined systems. -/
structure Sys where
  hellos   : List Hello := []
  shut     : List Nat := []
  sessions : List Session := []
  frags    : List YFrag := []
  members  : List Member := List.replicate 8 {}
  shed     : Shed := {}
  pair     : Pair := {}
  deriving DecidableEq, Repr


/-! ### What leaves the module -/

/-- What the module sends: interrupt messages, camera downlink blocks and packets, answers to reads, ends of SDO transfers with the
abort code (0 for none), SDO Information, answers to ARP and echo requests,
messages to peers. -/
inductive Sent where
  | msix (vector : Nat)
  | trigger (port : Nat) (block : Word64)
  | message (port : Nat) (block : Word64) (data : List Word64)
  | cxpTrigger (port : Nat)
  | cxpControl (port tag : Nat) (write : Bool) (addr : Nat) (data : List Nat)
  | reply (path : Path) (key : Nat) (data : Bytes)
  | sdoEnd (key abort : Nat)
  | sdoInfo (index : Nat) (fields : List Nat)
  | edgeLines (upper : Bool) (line field : Nat) (values : List Nat) (valid uncal : Nat)
  | yalind (dest cls typ seq : Nat) (fields : List Nat) (data : Bytes)
  | udp (stream : Nat) (entry : Nat) (datagram : Bytes)
  | arpReply (port ip mac : Nat) (toIp toMac : Nat)
  | echoReply (port toIp id seq : Nat) (data : Bytes)
  | mergeEdges (upper : Bool) (frame field band : Nat) (entries : List EdgeMsg)
  | mergeDone (upper : Bool) (field line : Nat)
  | mergeAccum (ids : List Nat) (pixels : List Pix)
  | mergeSplit (upper : Bool) (ids : List Nat)
  deriving DecidableEq, Repr

/-! ### The whole state -/

/-- An owner key slot in fuses (R503): the digest, burnt before its valid bit, the valid bit and the revoked bit. -/
structure KeySlot where
  digest  : Bytes := []
  valid   : Bool := false
  revoked : Bool := false
  deriving DecidableEq, Repr

/-- The one-time fuses (R503) but for the identity seed, which nothing but the identity key shows: owner keys, policy bits, DEBUG_LOCK
and the count of burnt bits of the rollback counter. -/
structure Fuses where
  keys         : List KeySlot := List.replicate 4 {}
  signProfiles : Bool := false
  signModels   : Bool := false
  debugLock    : Bool := false
  rollback     : Nat := 0
  deriving DecidableEq, Repr

/-- An image slot of the boot flash: its bytes, none when empty, and whether its programming was cut short (R82, R508). -/
structure FlashSlot where
  bytes : Bytes := []
  torn  : Bool := false
  deriving DecidableEq, Repr

/-- The programming that runs, one at a time (R500): a profile slot or a firmware slot. -/
inductive FlashOp where
  | profile (slot : Nat)
  | firmware (slot : Nat)
  deriving DecidableEq, Repr

/-- The boot flash (R499): the firmware slots A and B, PREFER of the boot descriptor, the profile slots, the identity certificate and the
programming that runs. -/
structure Flash where
  firmware : List FlashSlot := [{ bytes := Config.factoryFirmware 0 }, { bytes := Config.factoryFirmware 1 }]
  prefer   : Nat := 0
  profiles : List FlashSlot := List.replicate 4 {}
  cert     : Bytes := Config.identityCert
  op       : Option FlashOp := none
  deriving DecidableEq, Repr

/-- What survives the loss of both supplies (R88): the fuses and the boot flash. -/
structure NonVol where
  fuses : Fuses := {}
  flash : Flash := {}
  deriving DecidableEq, Repr

/-- The security block's working state: the firmware image started, the images tried since reset (R506), and whether the identity key
is ready (R511). -/
structure Sec where
  running  : Option Nat := none
  tried    : List Nat := []
  keyReady : Bool := false
  deriving DecidableEq, Repr

/-- Everything else the spec gives the machine; the result code of the last access on any path, 0xFFFF while a partner's ACK is awaited, which the
access answers to its sender (R57); and the model's own counters of draws and free values. -/
structure Work where
  mode    : Mode := .reset
  clk     : Clock := {}
  timers  : List (Timer × Nat) := []
  d       : Dict := {}
  journal : Journal := {}
  router  : Router := {}
  host    : HostIf := {}
  net     : Net := {}
  ecat    : Ecat := {}
  ledger  : Ledger := {}
  posIn   : List PosIn := List.replicate 16 {}
  axis    : Axis := {}
  lanes   : List Lane := List.replicate 128 {}
  run     : Run := {}
  ports   : List Port := List.replicate 32 {}
  fuller  : List FullerDie := List.replicate 4 {}
  cal     : List PortCal := List.replicate 32 {}
  calDev  : CalDevice := {}
  hbm     : Hbm := {}
  loom    : Loom := {}
  stats   : List StatAcc := List.replicate 256 {}
  markers : List Marker := List.replicate 16 {}
  axes    : List MotionAxis := List.replicate 16 {}
  seg     : Seg := {}
  cls     : Classify := {}
  place   : Place := {}
  sec     : Sec := {}
  power   : Power := {}
  sys     : Sys := {}
  streams : Streams := {}
  scratch : List Scratch := List.replicate 64 {}
  queues  : List CQueue := List.replicate 173 {}
  dma     : Dma := {}
  lastRes : Nat := 0
  sent    : List Sent := []
  drawCount : Nat := 0
  freeCount : Nat := 0
  deriving DecidableEq, Repr

/-- The state of the block: what is kept without supplies, everything else, and the queue of waiting commands, first in, first out. -/
structure State where
  nv      : NonVol := {}
  w       : Work := {}
  pending : List Instr := []
  deriving DecidableEq, Repr

/-- The reasons for a fault. The spec lets every command go on, so the model raises no fault; the one reason stands for a state no
command reaches. -/
inductive Fault where
  /-- Raised by no meaning; safe. -/
  | unreachable
  deriving DecidableEq, Repr

/-- The reasons for a refusal. -/
inductive Refusal where
  /-- A command that has no meaning in the model yet, by its mnemonic; safe. -/
  | notModelled (mnemonic : String)
  deriving DecidableEq, Repr

/-- The module after loss of both supplies, before power returns: mode RESET, every object at its default, the journal empty, nothing
waiting (R65, R70 cause 1, R88). -/
def State.reset : State := {}

end Sys2Proof.Machine
end

