-- ==== Sys2Proof/Machine/Ops.lean ====
section
/-! DEFINITION. The named operations every family's meanings are written over: association lists, registers by key, time, events,
interrupts, the Ledger's intake, the journal, and the rings in host memory. -/
namespace Sys2Proof.Machine

/-! ### Lists -/

/-- The value a sorted association list holds under a key. -/
def alGet {α : Type} : List (Nat × α) → Nat → Option α
  | [], _ => none
  | (k, v) :: m, k' => if k = k' then some v else alGet m k'

/-- Store a value under a key, keeping the keys strictly rising. -/
def alSet {α : Type} : List (Nat × α) → Nat → α → List (Nat × α)
  | [], k', v' => [(k', v')]
  | (k, v) :: m, k', v' =>
    if k' < k then (k', v') :: (k, v) :: m
    else if k = k' then (k, v') :: m
    else (k, v) :: alSet m k' v'

/-- Remove a key. -/
def alDel {α : Type} (m : List (Nat × α)) (k : Nat) : List (Nat × α) := m.filter (fun e => e.1 ≠ k)

/-- The entry at a place, or a given value beyond the end. -/
def nth {α : Type} (d : α) (xs : List α) (i : Nat) : α := xs.getD i d

/-- Change the entry at a place. -/
def upd {α : Type} (xs : List α) (i : Nat) (f : α → α) : List α :=
  match xs, i with
  | [], _ => []
  | x :: xs, 0 => f x :: xs
  | x :: xs, i + 1 => x :: upd xs i f

/-- The sum of a list of naturals. -/
def sumNat (xs : List Nat) : Nat := xs.foldl (· + ·) 0

/-- The greatest of a list of naturals, 0 when empty. -/
def maxNat (xs : List Nat) : Nat := xs.foldl Nat.max 0

/-- The first `n` naturals. -/
def upTo (n : Nat) : List Nat := List.range n

/-! ### Bits and numbers -/

/-- Bit `i` of a natural number. -/
def bitOf (n i : Nat) : Bool := n.testBit i

/-- Bits `lo` to `lo + w - 1` of a natural number. -/
def bitsOf (n lo w : Nat) : Nat := (n >>> lo) % 2 ^ w

/-- The integer nearest `a ÷ b`, halves up, for `b > 0`. -/
def roundDiv (a : Int) (b : Nat) : Int := (2 * a + b) / (2 * b)

/-- `a ÷ b` rounded up, for naturals. -/
def ceilDiv (a b : Nat) : Nat := if b = 0 then 0 else (a + b - 1) / b

/-- Clamp an integer between two bounds. -/
def clampInt (lo hi v : Int) : Int := if v < lo then lo else if hi < v then hi else v

/-- The integer a two's complement field of `w` bits holds. -/
def signed (w n : Nat) : Int := if n % 2 ^ w < 2 ^ (w - 1) then ↑(n % 2 ^ w) else ↑(n % 2 ^ w) - 2 ^ w

/-- An integer as an unsigned field of `w` bits. -/
def field (w : Nat) (v : Int) : Nat := (v % (2 ^ w : Nat)).toNat

/-- The little-endian value of a byte string (R10). -/
def leNat : Bytes → Nat
  | [] => 0
  | b :: bs => b.toNat + 256 * leNat bs

/-- A natural number as `n` little-endian bytes (R10). -/
def leBytes : Nat → Nat → Bytes
  | 0, _ => []
  | n + 1, v => BitVec.ofNat 8 (v % 256) :: leBytes n (v / 256)

/-- A record assembled from fields given as (lowest bit, width, value). -/
def packBits (fs : List (Nat × Nat × Nat)) : Nat :=
  fs.foldl (fun acc f => acc + (f.2.2 % 2 ^ f.2.1) * 2 ^ f.1) 0

/-- The bytes `from` to `from + n - 1` of a byte string. -/
def slice (bs : Bytes) (start n : Nat) : Bytes := (bs.drop start).take n

/-- A little-endian field of `n` bytes of a byte string. -/
def leAt (bs : Bytes) (start n : Nat) : Nat := leNat (slice bs start n)

/-- Whether every byte of a byte string is 0. -/
def allZero (bs : Bytes) : Bool := bs.all (fun b => b == 0)

/-- Zero-pad a byte string to a multiple of `n` bytes. -/
def padTo (n : Nat) (bs : Bytes) : Bytes :=
  bs ++ List.replicate ((n - bs.length % n) % n) 0

/-! ### The rows of the object tables (R36 to R41) -/

/-- The object tables whose indices contain an index (R38). -/
def rowsOf (idx : Nat) : List ObjRow :=
  if idx < 0x1600 then rows_dict
  else if idx < 0x1F80 then rows_hostif
  else if idx < 0x2000 then rows_dict
  else if idx < 0x2100 then rows_modes
  else if idx < 0x2200 then rows_supplies
  else if idx < 0x2300 then rows_dict
  else if idx < 0x3000 then rows_security
  else if idx < 0x3400 then rows_ports
  else if idx < 0x4000 then rows_lanes
  else if idx < 0x4800 then rows_fuller
  else if idx < 0x5000 then rows_calibration
  else if idx < 0x5800 then rows_loom
  else if idx < 0x6000 then rows_statistics
  else if idx < 0x6400 then rows_segmentation
  else if idx < 0x6800 then rows_classify
  else if idx < 0x7000 then rows_streams
  else if idx < 0x7400 then rows_dma
  else if idx < 0x7800 then rows_compression
  else if idx < 0x8000 then rows_router
  else if idx < 0x8400 then rows_position
  else if idx < 0x9000 then rows_motion
  else if idx < 0x9400 then rows_hbm
  else if idx < 0xA000 then rows_scratchpads
  else if idx < 0xA400 then rows_placement
  else if idx < 0xB000 then rows_systems
  else if idx < 0xC000 then rows_hostif
  else rows_lanes

/-- Whether a row has the index. -/
def ObjRow.hasIndex (r : ObjRow) (idx : Nat) : Bool :=
  decide (r.base ≤ idx) && (idx - r.base) % r.stride == 0 && decide ((idx - r.base) / r.stride < r.count)

/-- Whether a row has the object index:subindex. -/
def ObjRow.hits (r : ObjRow) (idx sub : Nat) : Bool :=
  r.hasIndex idx && decide (r.subLo ≤ sub) && decide (sub ≤ r.subHi)

/-- The row of an object. -/
def findRow (idx sub : Nat) : Option ObjRow := (rowsOf idx).find? (·.hits idx sub)

/-- Whether the index exists (R38). -/
def indexExists (idx : Nat) : Bool := (rowsOf idx).any (·.hasIndex idx)

/-- The highest subindex in use of an index (R37). -/
def highestSub (idx : Nat) : Nat := maxNat (((rowsOf idx).filter (·.hasIndex idx)).map (·.subHi))

/-- The key of an object. -/
def objKey (idx sub : Nat) : Nat := idx * 256 + sub

/-- DEPTH of queue q (R429). -/
def queueDepth (q : Nat) : Nat :=
  if q < 32 then 512 else if q < 96 then 2048 else if q < 104 then 4096 else if q < 108 then 8192
  else if q < 172 then 4096 else 16384

/-- BUF_BYTES of buffer class b in MiB, and whether it is replicated (table of R386). -/
def bufClass (b : Nat) : Nat × Bool :=
  match b with
  | 0 => (128, true) | 1 => (128, false) | 2 => (256, true) | 3 => (512, false) | 4 => (1024, false)
  | 5 => (512, false) | 6 => (512, false) | 7 => (1024, false) | _ => (256, false)

/-- The default of an object row at an index and subindex. -/
def ObjRow.default (r : ObjRow) (idx sub : Nat) : Int :=
  match r.dflt with
  | .const v => v
  | .perSub vs => vs.getD (sub - r.subLo) 0
  | .calc .productCode => if Config.orderingX then 0x00128001 else 0x00128000
  | .calc .revision => Config.hwRevision.toNat * 65536
  | .calc .serial => Config.serial.toNat
  | .calc .seamBlend => 0
  | .calc .bufBytes => (bufClass (idx - r.base)).1
  | .calc .bufReplica => if (bufClass (idx - r.base)).2 then 1 else 0
  | .calc .queueDepth => queueDepth (idx - r.base)
  | .calc .queueHighWm => ↑(queueDepth (idx - r.base) * 3 / 4)
  | .calc .macBase => Config.macBase.toNat

/-- The default of an object by key: what the object reads when nothing has written it since reset. -/
def defaultOf (key : Nat) : Int :=
  match findRow (key / 256) (key % 256) with
  | some r => r.default (key / 256) (key % 256)
  | none => 0

/-- The least and greatest value of a numeric type (R39). -/
def ObjType.bounds : ObjType → Int × Int
  | .bool => (0, 1)
  | .u8 => (0, 0xFF)
  | .u16 => (0, 0xFFFF)
  | .q0 => (0, 0xFFFF)
  | .u32 => (0, 0xFFFFFFFF)
  | .u64 => (0, 0xFFFFFFFFFFFFFFFF)
  | .i32 => (-0x80000000, 0x7FFFFFFF)
  | .q16 => (-0x80000000, 0x7FFFFFFF)
  | .i64 => (-0x8000000000000000, 0x7FFFFFFFFFFFFFFF)
  | .string => (0, 255)
  | .domain => (0, 268435455)

/-- The size in bytes of a numeric type, 0 for STRING and DOMAIN (R39). -/
def ObjType.size : ObjType → Nat
  | .bool => 1 | .u8 => 1 | .u16 => 2 | .q0 => 2 | .u32 => 4 | .i32 => 4 | .q16 => 4 | .u64 => 8 | .i64 => 8
  | .string => 0 | .domain => 0

/-- Whether a type is a byte string. -/
def ObjType.isBlob : ObjType → Bool
  | .string => true | .domain => true | _ => false

/-! ### Registers by key -/

/-- The value of a numeric object: the value most recently accepted, or its default (R41). -/
def Work.get (w : Work) (key : Nat) : Int := (alGet w.d.regs key).getD (defaultOf key)

/-- The value of a numeric object that is never negative. -/
def Work.getN (w : Work) (key : Nat) : Nat := (w.get key).toNat

/-- Store the value of a numeric object. -/
def Work.set (w : Work) (key : Nat) (v : Int) : Work :=
  { w with d := { w.d with regs := alSet w.d.regs key v } }

/-- Store several values. -/
def Work.setMany (w : Work) : List (Nat × Int) → Work
  | [] => w
  | (k, v) :: kvs => (w.set k v).setMany kvs

/-- The value of an RWS object in force: the one of the last commit that passed (R40, R76). -/
def Work.conf (w : Work) (key : Nat) : Int := (alGet w.d.conf key).getD (defaultOf key)

/-- The value in force of an RWS object that is never negative. -/
def Work.confN (w : Work) (key : Nat) : Nat := (w.conf key).toNat

/-- The value of an RWL object in effect at a frame: the newest accepted write whose frame is not after it (R46). -/
def Work.valueAt (w : Work) (key n : Nat) : Int :=
  match w.d.changes.find? (fun c => c.key == key && decide (c.frame ≤ n)) with
  | some c => c.value
  | none => defaultOf key

/-- The same for an object that is never negative. -/
def Work.valueAtN (w : Work) (key n : Nat) : Nat := (w.valueAt key n).toNat

/-- The bytes of a DOMAIN or STRING object most recently accepted. -/
def Work.blob (w : Work) (key : Nat) : Bytes := (alGet w.d.blobs key).getD []

/-- The bytes of a DOMAIN or STRING object in effect at a frame. -/
def Work.blobAt (w : Work) (key n : Nat) : Bytes :=
  match w.d.blobChanges.find? (fun c => c.key == key && decide (c.frame ≤ n)) with
  | some c => c.bytes
  | none => []

/-- Store the bytes of a DOMAIN or STRING object. -/
def Work.setBlob (w : Work) (key : Nat) (b : Bytes) : Work :=
  { w with d := { w.d with blobs := alSet w.d.blobs key b } }

/-- Store the bytes of a status DOMAIN or STRING that the hardware sets. -/
def Work.addBlobChange (w : Work) (frame key : Nat) (b : Bytes) : Work :=
  { w with d := { w.d with blobChanges := ⟨frame, key, b⟩ :: w.d.blobChanges } }

/-- Record a value with the first frame it governs. -/
def Work.addChange (w : Work) (frame key : Nat) (v : Int) : Work :=
  { w with d := { w.d with changes := ⟨frame, key, v⟩ :: w.d.changes } }

/-- The greatest value a counter holds: the largest of its type (R59). -/
def counterMax (key : Nat) : Int :=
  match findRow (key / 256) (key % 256) with
  | some r => r.typ.bounds.2
  | none => 0

/-- Add to a counter, which saturates (R59). -/
def Work.bump (w : Work) (key : Nat) (by_ : Nat := 1) : Work :=
  w.set key (min (w.get key + by_) (counterMax key))

/-- Add to a counter that its table calls modular, of `width` bits. -/
def Work.bumpMod (w : Work) (key width : Nat) : Work :=
  w.set key ((w.get key + 1) % (2 ^ width : Nat))

/-- Set bits of a flag object (R58). -/
def Work.flag (w : Work) (key mask : Nat) : Work := w.set key (Int.ofNat (w.getN key ||| mask))

/-- Clear bits of an object that the hardware keeps. -/
def Work.unflag (w : Work) (key mask : Nat) : Work := w.set key (Int.ofNat (w.getN key &&& ((2 ^ 64 - 1) ^^^ mask)))

/-- Keep the greatest value seen. -/
def Work.peak (w : Work) (key v : Nat) : Work := if w.get key < v then w.set key v else w

/-! ### Modes -/

/-- The value of a mode in 0x2000:01 (R65). -/
def Mode.code : Mode → Nat
  | .reset => 0 | .boot => 1 | .train => 2 | .hold => 3 | .ready => 4 | .calDark => 5 | .calFlat => 6 | .calGeom => 7
  | .inspect => 8 | .degraded => 9 | .shadow => 10 | .safe => 11

/-- INSPECT or DEGRADED. -/
def Mode.inspecting : Mode → Bool
  | .inspect => true | .degraded => true | _ => false

/-- A CAL mode. -/
def Mode.calibrating : Mode → Bool
  | .calDark => true | .calFlat => true | .calGeom => true | _ => false

/-- The dictionary is open: from the entry to TRAIN (R62, R86). -/
def Mode.dictOpen : Mode → Bool
  | .reset => false | .boot => false | _ => true

/-- Modes in which camera triggers are sent (R66). -/
def Mode.triggers : Mode → Bool
  | .inspect => true | .degraded => true | .shadow => true | .calDark => true | .calFlat => true | .calGeom => true | _ => false

/-! ### Time and frames -/

/-- The timebase in nanoseconds, 64 bits (R31, R34). -/
def Work.timeNs (w : Work) : Nat := (w.clk.tb / 10 ^ 8) % 2 ^ 64

/-- Control clocks in a number of nanoseconds. -/
def nsClocks (ns : Nat) : Nat := ns * 2 / 5

/-- Start a timer now. -/
def Work.startTimer (w : Work) (t : Timer) : Work :=
  { w with timers := (t, w.clk.ctl) :: w.timers.filter (fun e => e.1 ≠ t) }

/-- Stop a timer. -/
def Work.stopTimer (w : Work) (t : Timer) : Work := { w with timers := w.timers.filter (fun e => e.1 ≠ t) }

/-- Whether a timer runs. -/
def Work.running (w : Work) (t : Timer) : Bool := w.timers.any (fun e => e.1 = t)

/-- Whether a timer runs and a duration has passed since its start. -/
def Work.expired (w : Work) (t : Timer) (ns : Nat) : Bool :=
  w.timers.any (fun e => decide (e.1 = t) && decide (e.2 + nsClocks ns ≤ w.clk.ctl))

/-- The frame length F in force (R5, R107). -/
def Work.frameLen (w : Work) : Nat := w.axis.frameLen.getD (w.confN Obj.frameLength)

/-- The frame of a web line (R5, R19). -/
def Work.frameOf (w : Work) (line : Nat) : Nat := line / w.frameLen

/-- The present frame (R20). -/
def Work.frame (w : Work) : Nat :=
  match w.axis.last with
  | some k => w.frameOf k
  | none => match w.axis.hwm with
    | some k => w.frameOf k
    | none => 0

/-- The frame number shown where none stands: 0xFFFF_FFFF_FFFF. -/
def noFrame : Nat := 0xFFFFFFFFFFFF

/-! ### Events and interrupts (R444 to R454, R488 to R490) -/

/-- Whether a source lies in a clean clock domain (table Event sources). -/
def cleanSource (s : Nat) : Bool :=
  s == 0 || s == 1 || (decide (8 ≤ s) && decide (s < 40)) || (decide (72 ≤ s) && decide (s < 120)) || (decide (328 ≤ s) && decide (s < 376))

/-- The key of RAISED of a source. -/
def raisedKey (s : Nat) : Nat := Obj.raised (s / 128) (s % 128)

/-- Put an event on its way to the router: counted in RAISED, delivered 1 event clock after the edge that takes it when the source is
clean and 2 when it is spread; raises of one source for one edge are one event (R447, R448). A reserved source raises nothing. -/
def Work.raiseHop (w : Work) (source hop : Nat) : Work :=
  if 376 ≤ source then w else
  let due := w.clk.ctl / 2 + 1 + (if cleanSource source then 1 else 2)
  let w := w.bump (raisedKey source)
  let same := fun (r : Raise) => r.source == source && r.due == due
  if w.router.raised.any same then
    { w with router := { w.router with raised := w.router.raised.map (fun r => if same r then { r with hop := max r.hop hop } else r) } }
  else { w with router := { w.router with raised := w.router.raised ++ [⟨source, hop, due⟩] } }

/-- Raise an event of a source that is no relay. -/
def Work.raise (w : Work) (source : Nat) : Work := w.raiseHop source 0

/-- Record something the module sends on its way out, newest first. -/
def Work.send (w : Work) (m : Sent) : Work := { w with sent := m :: w.sent }

/-- Whether a vector is assigned (R488). -/
def vectorAssigned (v : Nat) : Bool :=
  v == 0 || v == 1 || (decide (16 ≤ v) && decide (v < 33)) || (decide (64 ≤ v) && decide (v < 96)) || (decide (128 ≤ v) && decide (v < 192))

/-- Send an MSI-X message, or set its pending bit while its entry or the function is masked (R488, R490). -/
def Work.msix (w : Work) (v : Nat) : Work :=
  if !vectorAssigned v then w
  else if w.host.funcMasked || !w.host.unmasked.contains v then
    { w with host := { w.host with pending := if w.host.pending.contains v then w.host.pending else v :: w.host.pending } }
  else w.send (.msix v)

/-! ### The Ledger's intake -/

/-- Whether the Ledger takes a record in the present mode: all in INSPECT, DEGRADED and SHADOW; in READY and the CAL modes coverage and event
records, and defect records only of the work a STOP left (R66, R555); none in other modes. -/
def Work.ledgerTakes (w : Work) (r : LRec) : Bool :=
  match w.mode with
  | .inspect => true | .degraded => true | .shadow => true
  | .ready => (match r with | .dfx _ => w.run.draining | _ => true)
  | .calDark => (match r with | .dfx _ => w.run.draining | _ => true)
  | .calFlat => (match r with | .dfx _ => w.run.draining | _ => true)
  | .calGeom => (match r with | .dfx _ => w.run.draining | _ => true)
  | _ => false

/-- Hand a record to the Ledger, where it waits for its number (R294). -/
def Work.emit (w : Work) (r : LRec) : Work :=
  if w.ledgerTakes r then { w with ledger := { w.ledger with incoming := w.ledger.incoming ++ [⟨r, none, w.clk.ctl⟩] } } else w

/-- Hand a coverage record to the Ledger. -/
def Work.cover (w : Work) (c : CovRec) : Work := w.emit (.cov c)

/-- Hand an event record to the Ledger. -/
def Work.event (w : Work) (e : EvtRec) : Work := w.emit (.evt e)

/-! ### Free values -/

/-- The next value the spec leaves open, and the state with the counter of free values advanced. -/
def Work.free (w : Work) : Nat × Work := (Config.freeValue w.freeCount, { w with freeCount := w.freeCount + 1 })

/-- The next random draw. -/
def Work.draw (w : Work) : Nat × Work := (Config.draw w.drawCount, { w with drawCount := w.drawCount + 1 })

/-! ### Host memory (R484) -/

/-- What a byte of host memory that the module has not written reads as. -/
def unlistedByte : Byte := 0

/-- A byte of a memory in canonical form. -/
def memGet : List Host.Cell → Nat → Byte
  | [], _ => unlistedByte
  | (a, b) :: m, a' => if a = a' then b else memGet m a'

/-- Write one byte, keeping the canonical form: addresses strictly rising, no entry that equals an unlisted byte. -/
def memSet : List Host.Cell → Nat → Byte → List Host.Cell
  | [], a', b' => if b' = unlistedByte then [] else [(a', b')]
  | (a, b) :: m, a', b' =>
    if a' < a then (if b' = unlistedByte then (a, b) :: m else (a', b') :: (a, b) :: m)
    else if a = a' then (if b' = unlistedByte then m else (a, b') :: m)
    else (a, b) :: memSet m a' b'

/-- Write bytes at consecutive addresses. -/
def memWrite (m : List Host.Cell) (a : Nat) : Bytes → List Host.Cell
  | [] => m
  | b :: bs => memWrite (memSet m a b) (a + 1) bs

/-- Read bytes at consecutive addresses. -/
def memRead (m : List Host.Cell) (a : Nat) : Nat → Bytes
  | 0 => []
  | n + 1 => memGet m a :: memRead m (a + 1) n

/-- The canonical form from an address on: addresses strictly rising, no entry that equals an unlisted byte. -/
def memWfFrom : Nat → List Host.Cell → Bool
  | _, [] => true
  | lo, (a, b) :: m => decide (lo ≤ a) && decide (b ≠ unlistedByte) && memWfFrom (a + 1) m

/-- The canonical form of a memory. -/
def Memory.wf (m : List Host.Cell) : Bool := memWfFrom 0 m

/-- A bus-master write of the module. -/
def Work.hostWrite (w : Work) (addr : Nat) (bs : Bytes) : Work :=
  { w with host := { w.host with hostMem := memWrite w.host.hostMem addr bs } }

/-! ### Rings in host memory (R485 to R489) -/

/-- Base, slot count and slot size of ring r, from the objects of the owning chapters (R485). -/
def Work.ringShape (w : Work) (r : Nat) : Nat × Nat × Nat :=
  if r < 4 then (w.getN (Obj.lrBase r), w.getN (Obj.lrSlots r), 128)
  else if r = 4 then (w.getN Obj.stBase, w.getN Obj.stSlots, 8448)
  else if r < 13 then (w.getN (Obj.srBase (r - 5)), w.getN (Obj.srSlots (r - 5)), w.getN (Obj.srSlotSize (r - 5)))
  else (w.getN (Obj.crBase (r - 13)), w.getN (Obj.crSlots (r - 13)), w.getN (Obj.crSlotSize (r - 13)))

/-- Ring r. -/
def Work.ring (w : Work) (r : Nat) : Ring := nth {} w.host.rings r

/-- Change ring r. -/
def Work.updRing (w : Work) (r : Nat) (f : Ring → Ring) : Work :=
  { w with host := { w.host with rings := upd w.host.rings r f } }

/-- The free slots of ring r (R485). -/
def Work.ringFree (w : Work) (r : Nat) : Nat := (w.ringShape r).2.1 - ((w.ring r).pi - (w.ring r).ci)

/-- Send ring r's vector; PI_SIGNALLED takes PI (R489). -/
def Work.signalRing (w : Work) (r : Nat) : Work :=
  ((w.updRing r (fun g => { g with signalled := g.pi })).stopTimer (.coal r)).msix (16 + r)

/-- After a slot write: the message of R489, at once with COAL_TIME 0 or when COAL_COUNT is reached, otherwise COAL_TIME runs
from the first slot since the last message. -/
def Work.coalesce (w : Work) (r : Nat) : Work :=
  let g := w.ring r
  if w.getN (Obj.coalTime r) = 0 || decide (w.getN (Obj.coalCount r) ≤ g.pi - g.signalled) then w.signalRing r
  else if w.running (.coal r) then w else w.startTimer (.coal r)

/-- Write one slot of ring r: the slot data, then PI to BAR2 and to RING_WB (R486), then the interrupt rule. -/
def Work.ringPut (w : Work) (r : Nat) (bs : Bytes) : Work :=
  let sh := w.ringShape r
  let g := w.ring r
  let w := w.hostWrite (sh.1 + (g.pi % sh.2.1) * sh.2.2) bs
  let w := w.updRing r (fun g => { g with pi := g.pi + 1 })
  let wb := w.getN (Obj.ringWb r)
  let w := if wb = 0 then w else w.hostWrite wb (leBytes 8 (g.pi + 1))
  w.coalesce r

/-- Enable a ring: PI and CI return to 0 (R487). -/
def Work.ringOn (w : Work) (r : Nat) : Work := w.updRing r (fun _ => { enabled := true })

/-- Disable a ring: PI and CI are kept for reading (R487). -/
def Work.ringOff (w : Work) (r : Nat) : Work := (w.updRing r (fun g => { g with enabled := false })).stopTimer (.coal r)

end Sys2Proof.Machine
end

