-- ==== Sys2Proof/Machine/Crypto.lean ====
section
/-! DEFINITION. The check functions the spec names by their standards: CRC-32 as in RFC 1952 (R52, R182, R292), the lane parity BIP8
(R124), and SHAKE256 with a 256-bit output (R61, R80, R276; FIPS 202). -/
namespace Sys2Proof.Machine

/-! ### CRC-32 (RFC 1952: reflected, polynomial 0xEDB88320, start and end inverted) -/

/-- One bit of CRC-32. -/
def crcBit (c : BitVec 32) : BitVec 32 := if c.getLsbD 0 then (c >>> 1) ^^^ 0xEDB88320#32 else c >>> 1

/-- One byte of CRC-32. -/
def crcByte (c : BitVec 32) (b : Byte) : BitVec 32 :=
  let c := c ^^^ b.setWidth 32
  crcBit (crcBit (crcBit (crcBit (crcBit (crcBit (crcBit (crcBit c)))))))

/-- CRC-32 over a byte string. -/
def crc32 (bs : Bytes) : BitVec 32 := (bs.foldl crcByte 0xFFFFFFFF#32) ^^^ 0xFFFFFFFF#32

/-- The number of bits in which two bytes differ (R125). -/
def bitDiff (a b : Byte) : Nat := ((List.range 8).filter (fun i => (a ^^^ b).getLsbD i)).length

/-! ### Keccak-f[1600] and SHAKE256 -/

/-- The state of Keccak: 25 lanes of 64 bits, lane (x, y) at 5y + x. -/
abbrev Keccak := List Word64

/-- Lane (x, y). -/
def klane (a : Keccak) (x y : Nat) : Word64 := a.getD (5 * (y % 5) + x % 5) 0

/-- The rotation offsets of step rho, by lane place. -/
def rhoOffsets : List Nat :=
  [0, 1, 62, 28, 27, 36, 44, 6, 55, 20, 3, 10, 43, 25, 39, 41, 45, 15, 21, 8, 18, 2, 61, 56, 14]

/-- The round constants of step iota. -/
def roundConstants : List Word64 :=
  [0x0000000000000001, 0x0000000000008082, 0x800000000000808A, 0x8000000080008000, 0x000000000000808B, 0x0000000080000001,
   0x8000000080008081, 0x8000000000008009, 0x000000000000008A, 0x0000000000000088, 0x0000000080008009, 0x000000008000000A,
   0x000000008000808B, 0x800000000000008B, 0x8000000000008089, 0x8000000000008003, 0x8000000000008002, 0x8000000000000080,
   0x000000000000800A, 0x800000008000000A, 0x8000000080008081, 0x8000000000008080, 0x0000000080000001, 0x8000000080008008]

/-- The lanes built from a function of (x, y). -/
def kmap (f : Nat → Nat → Word64) : Keccak := (List.range 25).map (fun i => f (i % 5) (i / 5))

/-- One round: theta, rho, pi, chi, iota. -/
def keccakRound (a : Keccak) (rc : Word64) : Keccak :=
  let c := (List.range 5).map (fun x => klane a x 0 ^^^ klane a x 1 ^^^ klane a x 2 ^^^ klane a x 3 ^^^ klane a x 4)
  let cc := fun (x : Nat) => c.getD (x % 5) 0
  let t := kmap (fun x y => klane a x y ^^^ cc (x + 4) ^^^ (cc (x + 1)).rotateLeft 1)
  let r := fun (x y : Nat) => (klane t x y).rotateLeft (rhoOffsets.getD (5 * (y % 5) + x % 5) 0)
  -- pi: B[y, 2x + 3y] = rot A[x, y], so lane (x, y) of B comes from lane (x + 3y, x) of A
  let b := kmap (fun x y => r (x + 3 * y) x)
  let ch := kmap (fun x y => klane b x y ^^^ ((~~~ klane b (x + 1) y) &&& klane b (x + 2) y))
  match ch with
  | l :: ls => (l ^^^ rc) :: ls
  | [] => []

/-- The permutation of 24 rounds. -/
def keccakF (a : Keccak) : Keccak := roundConstants.foldl keccakRound a

/-- The rate of SHAKE256 in bytes. -/
def shakeRate : Nat := 136

/-- A block of the rate as lanes, the capacity 0. -/
def rateLanes (block : Bytes) : Keccak :=
  (List.range 25).map (fun i => BitVec.ofNat 64 (leNat ((block.drop (8 * i)).take 8)))

/-- Absorb a padded message, block by block; the fuel is the count of blocks. -/
def absorb : Nat → Keccak → Bytes → Keccak
  | 0, a, _ => a
  | n + 1, a, m => absorb n (keccakF (List.zipWith (· ^^^ ·) a (rateLanes (m.take shakeRate)))) (m.drop shakeRate)

/-- SHAKE256's padding: 0x1F, zeros, and the top bit of the last byte of the block. -/
def shakePad (m : Bytes) : Bytes :=
  let z := (shakeRate - (m.length + 1) % shakeRate) % shakeRate
  match (m ++ [0x1F#8] ++ List.replicate z 0#8).reverse with
  | l :: r => ((l ||| 0x80#8) :: r).reverse
  | [] => []

/-- SHAKE256 with an output of 32 bytes. -/
def shake256 (m : Bytes) : Bytes :=
  let p := shakePad m
  let a := absorb (p.length / shakeRate) (List.replicate 25 0) p
  ((a.take 4).map (fun l => leBytes 8 l.toNat)).flatten

end Sys2Proof.Machine
end

