-- ==== Sys2Proof/Machine/Link.lean ====
section
/-! DEFINITION. Sending over the Yalind link (R455 to R458): sessions, message numbers, and what waits for its ACK. -/
namespace Sys2Proof.Machine

/-- The address that stands for BROADCAST. -/
def ylBroadcast : Nat := 0xFFFF

/-- The module's own address (R456). -/
def Work.ylAddress (w : Work) : Nat := w.confN Obj.ylAddress

/-- The session with a peer. -/
def Work.session (w : Work) (peer : Nat) : Option Session := w.sys.sessions.find? (fun s => s.peer == peer)

/-- Change the session with a peer. -/
def Work.updSession (w : Work) (peer : Nat) (f : Session → Session) : Work :=
  { w with sys := { w.sys with sessions := w.sys.sessions.map (fun s => if s.peer = peer then f s else s) } }

/-- Whether messages of a class and type ask for acknowledgement (table Yalind classes and messages). -/
def ylAckReq (cls typ : Nat) : Bool :=
  match cls with
  | 1 => true | 4 => true | 5 => true
  | 6 => typ != 1 && typ != 6
  | 7 => typ != 1
  | _ => false

/-- Send a message to a peer with which a session is held; its number is the next of its class, modulo 2^32. One that asks for acknowledgement
waits for its ACK. Without a session nothing is sent. The number is answered. -/
def Work.ylSend (w : Work) (peer cls typ : Nat) (fields : List Nat) (data : Bytes) : Work × Option Nat :=
  match w.session peer with
  | none => (w, none)
  | some s =>
    let n := nth 0 s.nextOut cls
    let w := w.updSession peer (fun s => { s with
      nextOut := upd s.nextOut cls (fun _ => (n + 1) % 2 ^ 32)
      waits := if ylAckReq cls typ then s.waits ++ [⟨⟨cls, typ, n, fields, data⟩, 0, w.clk.ctl⟩] else s.waits })
    (w.send (.yalind peer cls typ n fields data), some n)

/-- Send a message that goes to every module on the link, outside any session (R456). -/
def Work.ylCast (w : Work) (cls typ : Nat) (fields : List Nat) (data : Bytes) : Work := w.send (.yalind ylBroadcast cls typ 0 fields data)

/-- The partner of the mirrored pair (R473). -/
def Work.partner (w : Work) : Nat := w.confN Obj.pairPeer

/-- Whether the module is a paired primary. -/
def Work.pairedPrimary (w : Work) : Bool := w.get Obj.pairState == 3

/-- Whether the module is a secondary. -/
def Work.pairedSecondary (w : Work) : Bool := w.get Obj.pairState == 4

end Sys2Proof.Machine
end

