-- ==== Sys2Proof/Machine/Dictionary.lean ====
section
/-! DEFINITION. The dictionary's rules for an access (R36 to R61): result codes, the checks of a write in the order object, access,
length, range, mode, owner (log entry 5), effect frames, acceptance with its journal entry, refusal, and the reads. -/
namespace Sys2Proof.Machine

/-! ### Result codes (R57) -/

/-- The result codes. -/
inductive Res where
  | ok | scheduled | staged
  | noObject | noSubindex | readOnly | writeOnly | length | aboveRange | belowRange | notInSet | mode | inconsistent | format
  | signature | locked | busy | hardware | path | standby | notGroupable | groupFull | groupState | notMappable
  deriving DecidableEq, Repr

/-- The 16-bit code. -/
def Res.code : Res → Nat
  | .ok => 0x0000 | .scheduled => 0x0001 | .staged => 0x0002
  | .noObject => 0x0101 | .noSubindex => 0x0102 | .readOnly => 0x0103 | .writeOnly => 0x0104 | .length => 0x0105
  | .aboveRange => 0x0106 | .belowRange => 0x0107 | .notInSet => 0x0108 | .mode => 0x0109 | .inconsistent => 0x010A
  | .format => 0x010B | .signature => 0x010C | .locked => 0x010D | .busy => 0x010E | .hardware => 0x010F | .path => 0x0110
  | .standby => 0x0111 | .notGroupable => 0x0112 | .groupFull => 0x0113 | .groupState => 0x0114 | .notMappable => 0x0115

/-- Acceptance: codes up to 0x00FF. -/
def Res.accepted (r : Res) : Bool := decide (r.code ≤ 0xFF)

/-- The CiA 301 abort code of a refusal (R54, R57). -/
def Res.abort : Res → Nat
  | .ok => 0 | .scheduled => 0 | .staged => 0
  | .noObject => 0x06020000 | .noSubindex => 0x06090011 | .readOnly => 0x06010002 | .writeOnly => 0x06010001
  | .length => 0x06070010 | .aboveRange => 0x06090031 | .belowRange => 0x06090032 | .notInSet => 0x06090030
  | .mode => 0x08000022 | .inconsistent => 0x06040043 | .format => 0x08000020 | .signature => 0x08000020
  | .locked => 0x08000021 | .busy => 0x08000020 | .hardware => 0x06060000 | .path => 0x06010000 | .standby => 0x08000021
  | .notGroupable => 0x06040047 | .groupFull => 0x05040005 | .groupState => 0x08000022 | .notMappable => 0x06040041

/-! ### Paths (R48, R61) -/

/-- PATH of a Tally entry. -/
def pathCode : Path → Nat
  | .device => 0 | .pcie => 1 | .coe => 2 | .yalind _ => 3 | .profile _ => 4

/-- SOURCE_ID of a Tally entry. -/
def sourceId : Path → Nat
  | .yalind a => a.val | .profile n => n.val | _ => 0

/-- A host path: one that a module in SHADOW refuses (R45). -/
def hostPath : Path → Bool
  | .pcie => true | .coe => true | .yalind _ => true | _ => false

/-- The object that holds the last result of a path. -/
def resultKey : Path → Option Nat
  | .pcie => some Obj.resultPcie
  | .coe => some Obj.resultCoe
  | .yalind _ => some Obj.resultYalind
  | _ => none

/-- Record the result of an access: the answer to its sender, and the object of its path. -/
def Work.setResult (w : Work) (p : Path) (r : Res) : Work :=
  let w := { w with lastRes := r.code }
  match resultKey p with
  | some k => w.set k r.code
  | none => w

/-- A refusal: counted and recorded on any path; nothing else changes (R57). -/
def Work.refuse (w : Work) (p : Path) (key : Nat) (r : Res) : Work :=
  ((w.bump Obj.refusedCount).set Obj.refusedObject (Int.ofNat (key % 2 ^ 24))).setResult p r

/-! ### Ranges (R50, R53, R58 to R60, R553) -/

/-- A natural number is a power of two. -/
def isPow2 (n : Nat) : Bool := n != 0 && (n &&& (n - 1)) == 0

/-- The check of a value against a range, or its refusal. Values outside the type or the bounds are above or below the range; values the
range does not admit within its bounds, and values outside a list of codes, are not in the set (R553). -/
def Rng.check (g : Rng) (t : ObjType) (v : Int) : Option Res :=
  if t.bounds.2 < v then some .aboveRange
  else if v < t.bounds.1 then some .belowRange
  else match g with
    | .any => none
    | .bits _ => none
    | .counter => if v = 0 then none else some .aboveRange
    | .codes cs => if cs.any (fun c => v == ↑c) then none else some .notInSet
    | .bytes _ _ _ => none
    | .nums segs mult pow2 odd =>
      if segs.all (fun s => decide (s.2 < v)) then some .aboveRange
      else if segs.all (fun s => decide (v < s.1)) then some .belowRange
      else if !segs.any (fun s => decide (s.1 ≤ v) && decide (v ≤ s.2)) then some .notInSet
      else if v % ↑mult ≠ 0 then some .notInSet
      else if pow2 && !isPow2 v.toNat then some .notInSet
      else if odd && v % 2 = 0 then some .notInSet
      else none

/-- The check of the length of a DOMAIN or STRING value (R53). -/
def Rng.checkLen (g : Rng) (n : Nat) : Option Res :=
  match g with
  | .bytes lo hi mult => if n < lo || hi < n || n % mult ≠ 0 then some .length else none
  | _ => none

/-- The number an encoded value spells in a numeric type (R39). -/
def ObjType.decode (t : ObjType) (bs : Bytes) : Int :=
  match t with
  | .i32 => signed 32 (leNat bs)
  | .q16 => signed 32 (leNat bs)
  | .i64 => signed 64 (leNat bs)
  | _ => leNat bs

/-- The encoding of a number in a numeric type (R39). -/
def ObjType.encode (t : ObjType) (v : Int) : Bytes := leBytes t.size (field (8 * t.size) v)

/-! ### Effect frames (R43) -/

/-- SPAN as FRAME: always in a web group, and when the active cameras sit on more than one pixel die (R43, R186). -/
def Work.spanIsFrame (w : Work) : Bool :=
  w.confN Obj.groupId ≠ 0 ||
    decide (1 < ((upTo 4).filter (fun d => (upTo 8).any (fun i => w.confN (Obj.portEnable (8 * d + i)) ≠ 0))).length)

/-- EFFECT_FRAME of a class at acceptance. -/
def Work.effectFrame (w : Work) : Effect → Nat
  | .span => if w.spanIsFrame then w.frame + 1 else w.frame
  | .frame => w.frame + 1
  | .frame2 => w.frame + 2
  | .commit => 0xFFFFFFFFFFFF
  | .reset => 0xFFFFFFFFFFFE
  | _ => w.frame

/-! ### The journal (R61, R62) -/

/-- The entries the ring retains. -/
def journalSize : Nat := 65536

/-- Enter an entry with the next number, overwriting the oldest when the ring is full. -/
def Work.journalPut (w : Work) (e : TallyEntry) : Work :=
  let full := decide (journalSize ≤ w.journal.entries.length)
  let w := if full then w.bump Obj.overwritten else w
  { w with journal := { w.journal with
      entries := { e with seq := w.journal.head + 1 } :: w.journal.entries.take (journalSize - 1)
      head := w.journal.head + 1 } }

/-- The entry of an accepted write of a number. -/
def Work.tally (w : Work) (p : Path) (key : Nat) (raw : Nat) (ef : Nat) (group : Bool) : Work :=
  let deferred := decide (ef ≠ w.frame)
  w.journalPut
    { seq := 0, time := w.timeNs, effectFrame := ef, index := key / 256, sub := key % 256, path := pathCode p,
      group := group, deferred := deferred, result := if deferred then 1 else 0, sourceId := sourceId p, value := raw }

/-- The entry of an accepted write of bytes: the digest and the length (R61). -/
def Work.tallyBlob (w : Work) (p : Path) (key : Nat) (b : Bytes) (ef : Nat) : Work :=
  let deferred := decide (ef ≠ w.frame)
  w.journalPut
    { seq := 0, time := w.timeNs, effectFrame := ef, index := key / 256, sub := key % 256, path := pathCode p,
      deferred := deferred, domain := true, result := if deferred then 1 else 0, sourceId := sourceId p,
      dlen := b.length, value := leNat (shake256 b) }

/-- SEQ of the oldest retained entry, 0 when empty. -/
def Work.tailSeq (w : Work) : Nat :=
  match w.journal.entries.getLast? with
  | some e => e.seq
  | none => 0

/-! ### Write groups (R56) -/

/-- The group of a path. -/
def Work.group (w : Work) : Path → WriteGroup
  | .pcie => w.d.groupPcie
  | .coe => w.d.groupCoe
  | .yalind _ => w.d.groupYal
  | _ => {}

/-- Set the group of a path, and its GROUP_STATE and GROUP_COUNT. -/
def Work.setGroup (w : Work) (p : Path) (g : WriteGroup) : Work :=
  let put := fun (w : Work) (i : Nat) =>
    (w.set (Obj.wgGroupState i) (if g.isOpen then 1 else 0)).set (Obj.groupCount i) g.staged.length
  match p with
  | .pcie => put { w with d := { w.d with groupPcie := g } } 0
  | .coe => put { w with d := { w.d with groupCoe := g } } 1
  | .yalind _ => put { w with d := { w.d with groupYal := g } } 2
  | _ => w

/-- Which group a path has: 0 PCIe, 1 CoE, 2 Yalind. -/
def groupNo : Path → Option Nat
  | .pcie => some 0 | .coe => some 1 | .yalind _ => some 2 | _ => none

/-- Whether a key is a GROUP_CTRL of a group other than the path's own (R56). -/
def foreignGroup (p : Path) (key : Nat) : Bool :=
  (List.range 3).any (fun i => key == Obj.groupCtrl i && groupNo p != some i)

/-! ### The checks of a write -/

/-- What the checks of a write ask of the state: the owner's own check, with the value as it is to be stored. -/
abbrev OwnerCheck := Work → Int → Option Res

/-- The access check: SHADOW, the object, another path's group, RO. -/
def Work.checkAccess (w : Work) (p : Path) (key : Nat) : Except Res ObjRow :=
  let idx := key / 256
  let sub := key % 256
  if hostPath p && w.mode == .shadow then .error .standby
  else if !indexExists idx then .error .noObject
  else match findRow idx sub with
    | none =>
      -- subindex 0 of an index with subindices 1 and above is RO (R37)
      if sub = 0 then .error .readOnly else .error .noSubindex
    | some r =>
      if foreignGroup p key then .error .path
      else if r.access == .ro then .error .readOnly
      else .ok r

/-- The mode check of an RWS object (R40, R42): HOLD and READY, but for the profile loader and the device. -/
def Work.checkMode (w : Work) (p : Path) (r : ObjRow) : Option Res :=
  if r.access == .rws && hostPath p && w.mode != .hold && w.mode != .ready then some .mode else none

/-- The value as it is stored: reserved bits are ignored (R60). -/
def ObjRow.mask (r : ObjRow) (v : Int) : Int :=
  match r.rng with
  | .bits m => Int.ofNat (v.toNat &&& m)
  | _ => v

/-- The checks on a number for a numeric object: access, length, range, mode (log entry 5). -/
def Work.checkNum (w : Work) (p : Path) (key : Nat) (v : DictVal) : Except Res (ObjRow × Int) :=
  match w.checkAccess p key with
  | .error e => .error e
  | .ok r =>
    if r.typ.isBlob then .error .length
    else
      let num : Except Res Int := match v with
        | .num n => .ok n
        | .bytes b => if b.length = r.typ.size then .ok (r.typ.decode b) else .error .length
      match num with
      | .error e => .error e
      | .ok n =>
        match r.rng.check r.typ n with
        | some e => .error e
        | none =>
          match w.checkMode p r with
          | some e => .error e
          | none => .ok (r, r.mask n)

/-- The checks on bytes for a DOMAIN or STRING object: access, length, mode. -/
def Work.checkBlob (w : Work) (p : Path) (key : Nat) (b : Bytes) : Except Res ObjRow :=
  match w.checkAccess p key with
  | .error e => .error e
  | .ok r =>
    if !r.typ.isBlob then .error .length
    else match r.rng.checkLen b.length with
      | some e => .error e
      | none =>
        match w.checkMode p r with
        | some e => .error e
        | none => .ok r

/-! ### Acceptance -/

/-- What an accepted number does to the object itself: a counter clears, a flag object clears the bits written 1 (R58, R59), a command
object stores nothing, every other object takes the value, and one with a frame class records it for its frame (R46). -/
def Work.store (w : Work) (r : ObjRow) (key : Nat) (v : Int) (ef : Nat) : Work :=
  match r.access, r.effect with
  | .wo, _ => w
  | _, .w1c => w.set key (Int.ofNat (w.getN key &&& ((2 ^ 64 - 1) ^^^ v.toNat)))
  | _, .frame => (w.set key v).addChange ef key v
  | _, .frame2 => (w.set key v).addChange ef key v
  | _, .line => (w.set key v).addChange 0 key v
  | _, .span => (w.set key v).addChange (if ef = w.frame then 0 else ef) key v
  | _, _ => w.set key v

/-- The result of an accepted write with an effect frame (R57). -/
def Work.resOf (w : Work) (ef : Nat) : Res := if ef = w.frame then .ok else .scheduled

/-- Send an accepted write to the partner as ENTRY (R475, R476). -/
def Work.sendEntry (w : Work) (p : Path) (key ef raw : Nat) (data : Bytes) : Work :=
  if w.pairedPrimary then (w.ylSend w.partner 7 3 [w.journal.head, pathCode p, sourceId p, key, ef, raw] data).1 else w

/-- Accept a number: journaled, stored, its result shown. -/
def Work.acceptNum (w : Work) (p : Path) (r : ObjRow) (key : Nat) (v : Int) (ef : Nat) (group : Bool := false) : Work :=
  let res := w.resOf ef
  let raw := field (8 * r.typ.size) v
  (((w.tally p key raw ef group).sendEntry p key ef raw []).store r key v ef).setResult p res

/-- Accept bytes: journaled, stored, recorded for their frame where the class is one of frames. -/
def Work.acceptBlob (w : Work) (p : Path) (r : ObjRow) (key : Nat) (b : Bytes) (ef : Nat) : Work :=
  let res := w.resOf ef
  let w := (w.tallyBlob p key b ef).sendEntry p key ef b.length b
  let w := if r.access == .wo then w else w.setBlob key b
  let w := match r.effect with
    | .frame => w.addBlobChange ef key b
    | .frame2 => w.addBlobChange ef key b
    | .span => w.addBlobChange (if ef = w.frame then 0 else ef) key b
    | _ => w
  w.setResult p res

/-- Stage a number in the path's open group (R56): a FRAME write is staged up to 256, a FRAME2, SPAN or COMMIT write is refused, every
other class passes through. `none` means the write goes on. -/
def Work.groupStage (w : Work) (p : Path) (r : ObjRow) (key : Nat) (v : Int) : Option Work :=
  let g := w.group p
  if !g.isOpen then none
  else match r.effect with
    | .frame =>
      if 256 ≤ g.staged.length then some (w.refuse p key .groupFull)
      else some ((w.setGroup p { g with staged := g.staged ++ [(key, v)] }).setResult p .staged)
    | .frame2 => some (w.refuse p key .notGroupable)
    | .span => some (w.refuse p key .notGroupable)
    | .commit => some (w.refuse p key .notGroupable)
    | _ => none

/-- Whether a write must go to the partner before it is accepted (R476): a host path's, on a paired primary, unless it is being accepted now. -/
def Work.mustPropose (w : Work) (p : Path) : Bool := w.pairedPrimary && hostPath p && !w.sys.pair.accepting

/-- Hold a write for its partner's ACK (R476): it is proposed at once unless an earlier write of its path waits. -/
def Work.propose (w : Work) (p : Path) (key : Nat) (v : DictVal) : Work :=
  let waits := w.sys.pair.proposals.any (fun q => q.path == p)
  let content := match v with
    | .num n => (field 64 n, ([] : Bytes))
    | .bytes b => (b.length, b)
  let r := if waits then (w, none) else w.ylSend w.partner 7 2 [pathCode p, sourceId p, key, content.1] content.2
  { r.1 with
    lastRes := 0xFFFF
    sys := { r.1.sys with pair := { r.1.sys.pair with proposals := r.1.sys.pair.proposals ++ [⟨p, key, some v, r.2, false, none⟩] } } }

/-- A write of a number in whole: the checks, the group, the owner's check, acceptance, then the owner's effect. `ef` gives the effect frame
where the owner's rule differs from the class. The dictionary is open from TRAIN on; before it a write is dropped (R62, R86). -/
def Work.writeNum (w : Work) (p : Path) (key : Nat) (v : DictVal) (chk : OwnerCheck) (eff : Int → Work → Work)
    (ef : Option Nat := none) : Work :=
  if !w.mode.dictOpen then w
  else match w.checkNum p key v with
    | .error e => w.refuse p key e
    | .ok (r, n) =>
      match w.groupStage p r key n with
      | some w' => w'
      | none =>
        match chk w n with
        | some e => w.refuse p key e
        | none =>
          if w.mustPropose p then w.propose p key (.num n)
          else eff n (w.acceptNum p r key n (ef.getD (w.effectFrame r.effect)))

/-- A write of bytes in whole. -/
def Work.writeBlob (w : Work) (p : Path) (key : Nat) (b : Bytes) (chk : Work → Bytes → Option Res) (eff : Bytes → Work → Work)
    (ef : Option Nat := none) : Work :=
  if !w.mode.dictOpen then w
  else match w.checkBlob p key b with
    | .error e => w.refuse p key e
    | .ok r =>
      match chk w b with
      | some e => w.refuse p key e
      | none =>
        if w.mustPropose p then w.propose p key (.bytes b)
        else eff b (w.acceptBlob p r key b (ef.getD (w.effectFrame r.effect)))

/-- No check of the owner's own. -/
def noCheck : OwnerCheck := fun _ _ => none

/-- A command object written with one code: the row of the table that has a command of its own. -/
def Work.command (w : Work) (p : Path) (key : Nat) (code : Int) (chk : Work → Option Res) (eff : Work → Work)
    (ef : Option Nat := none) : Work :=
  w.writeNum p key (.num code) (fun w _ => chk w) (fun _ => eff) ef

/-- No check on a command. -/
def always : Work → Option Res := fun _ => none

/-- Lift a change of everything but the non-volatile part to the whole state: the outcome is a next state. -/
def onWork (f : Work → Work) (s : State) : Host.Outcome State Fault Refusal := .next { s with w := f s.w }

/-- The same for a change that reads the non-volatile part. -/
def onWorkNv (f : NonVol → Work → Work) (s : State) : Host.Outcome State Fault Refusal := .next { s with w := f s.nv s.w }

end Sys2Proof.Machine
end

