-- ==== Sys2Proof/Machine/Lanes.lean ====
section
/-! DEFINITION. Camera lanes (chapter 05, R112 to R135): lane states, alignment, markers and deskew, retraining, the pattern test and the
eye scan. -/
namespace Sys2Proof.Machine

/-! ### Lane states and links -/

/-- The values of STATE (R118). -/
def lsOff : Nat := 0
def lsNoSignal : Nat := 1
def lsCdr : Nat := 2
def lsLock : Nat := 3
def lsUp : Nat := 4
def lsPrbs : Nat := 5
def lsRetrain : Nat := 6

/-- STATE of a lane. -/
def Work.laneState (w : Work) (l : Nat) : Nat := w.getN (Obj.state l)

/-- Lane l. -/
def Work.lane (w : Work) (l : Nat) : Lane := nth {} w.lanes l

/-- Change lane l. -/
def Work.updLane (w : Work) (l : Nat) (f : Lane → Lane) : Work := { w with lanes := upd w.lanes l f }

/-- Set STATE of a lane. -/
def Work.setLane (w : Work) (l st : Nat) : Work := w.set (Obj.state l) st

/-- RSL rate codes (R113). -/
def isRslRate (r : Nat) : Bool := decide (1 ≤ r) && decide (r ≤ 3)

/-- CoaXPress rate codes (R113). -/
def isCxpRate (r : Nat) : Bool := decide (16 ≤ r) && decide (r ≤ 22)

/-- Whether lanes are powered: from TRAIN on, but not in SAFE (R117). -/
def Mode.lanesPowered : Mode → Bool
  | .reset => false | .boot => false | .safe => false | _ => true

/-- Whether lane l is powered: its RATE in force is nonzero, and the mode powers lanes (R117). -/
def Work.lanePowered (w : Work) (l : Nat) : Bool := w.mode.lanesPowered && w.confN (Obj.rateObj l) ≠ 0

/-- The lanes of port p's link (R136). -/
def Work.linkLanes (w : Work) (p : Nat) : List Nat := (upTo (w.confN (Obj.lanes p))).map (4 * p + ·)

/-- The port a lane serves: its quad's, or the lower port of a bonded pair (R13, R136). -/
def Work.portOfLane (w : Work) (l : Nat) : Nat :=
  let p := l / 4
  if p % 2 = 1 && w.confN (Obj.lanes (p - 1)) = 8 then p - 1 else p

/-- Whether every lane of a port's link is UP (R118). -/
def Work.linkUp (w : Work) (p : Nat) : Bool := (w.linkLanes p).all (fun l => w.laneState l == lsUp)

/-- Set a lane flag; LOCK_LOSS, SIGNAL_LOSS, HIGH_BER and DESKEW_ERR raise the port's PORT_ALARM (table Event sources). -/
def Work.laneFlag (w : Work) (l bit : Nat) : Work :=
  let w := w.flag (Obj.flags l) (2 ^ bit)
  if bit = 0 || bit = 1 || bit = 4 || bit = 5 then w.raise (40 + w.portOfLane l) else w

/-- A retrain, a loss of lock or power-down aborts a running eye scan (R134). -/
def Work.eyeAbort (w : Work) (l : Nat) : Work :=
  if w.get (Obj.eyeStatus l) = 1 then (w.set (Obj.eyeStatus l) 3).updLane l (fun n => { n with eye := { n.eye with kind := 0 } }) else w

/-- Lock lost: LOCK_LOSS counts and flags, the lane falls to CDR_LOCK (R120, R121, R123). -/
def Work.loseLock (w : Work) (l : Nat) : Work :=
  let w := ((w.laneFlag l 1).bump (Obj.lockLoss l)).eyeAbort l
  (w.setLane l lsCdr).updLane l (fun n => { n with good := 0, window := [], chars := [], markers := 0 })

/-! ### Signal and clock (R115, R118) -/

/-- CDR_LOCK: clock recovered within ±200 ppm (R115, R118). -/
def cdrLock (l : LaneNo) (ppm : Int) (w : Work) : Work :=
  if !w.lanePowered l || w.laneState l = lsPrbs || lsCdr ≤ w.laneState l && w.laneState l ≠ lsRetrain then w
  else if 200 < ppm.natAbs then w
  else (w.setLane l lsCdr).updLane l (fun n => { n with good := 0, window := [], chars := [], markers := 0 })

def execCdrLock (l : LaneNo) (ppm : Int) : State → Host.Outcome State Fault Refusal := onWork (cdrLock l ppm)

/-- SIGNAL_LOSS: the receiver squelches after CDR_LOCK (R118). -/
def signalLoss (l : LaneNo) (w : Work) : Work :=
  if w.laneState l < lsCdr then w
  else
    let w := ((w.laneFlag l 0).eyeAbort l).setLane l lsNoSignal
    w.updLane l (fun n => { n with good := 0, window := [], chars := [], markers := 0, pattern := false, hostRetrain := false })

def execSignalLoss (l : LaneNo) : State → Host.Outcome State Fault Refusal := onWork (signalLoss l)

/-- FREQ_ERR: an incoming rate beyond ±200 ppm; the lane does not hold lock (R115). -/
def freqErr (l : LaneNo) (ppm : Int) (w : Work) : Work :=
  if !w.lanePowered l || ppm.natAbs ≤ 200 then w
  else
    let w := w.laneFlag l 8
    let w := if lsLock ≤ w.laneState l && w.laneState l ≤ lsUp then w.loseLock l else w
    if w.laneState l = lsCdr then w.setLane l lsNoSignal else w

def execFreqErr (l : LaneNo) (ppm : Int) : State → Host.Outcome State Fault Refusal := onWork (freqErr l ppm)

/-! ### Block alignment at RSL rates (R120 to R122) -/

/-- A sync header is valid when it is 0b01 or 0b10. -/
def validHeader (h : BitVec 2) : Bool := h == 0b01#2 || h == 0b10#2

/-- BLOCK_LOCK: sync headers seen at the present boundary of a lane in CDR_LOCK; 64 consecutive valid ones reach BLOCK_LOCK (R120). -/
def blockLock (l : LaneNo) (headers : List (BitVec 2)) (w : Work) : Work :=
  if w.laneState l ≠ lsCdr || !isRslRate (w.confN (Obj.rateObj l)) then w
  else
    let good := headers.foldl (fun n h => if validHeader h then n + 1 else 0) (w.lane l).good
    let w := w.updLane l (fun n => { n with good := good })
    if 64 ≤ good then (w.setLane l lsLock).updLane l (fun n => { n with window := [], markers := 0 }) else w

def execBlockLock (l : LaneNo) (headers : List (BitVec 2)) : State → Host.Outcome State Fault Refusal := onWork (blockLock l headers)

/-- One sync header seen while locked: an invalid one counts in SH_ERR; 16 invalid within 64 lose lock; 16 within 125 µs, which 64 blocks
never exceed, set HIGH_BER (R120). -/
def Work.lockedHeader (w : Work) (l : Nat) (h : BitVec 2) : Work :=
  if w.laneState l ≠ lsLock && w.laneState l ≠ lsUp then w
  else
    let win := (validHeader h :: (w.lane l).window).take 64
    let w := w.updLane l (fun n => { n with window := win })
    let w := if validHeader h then w else w.bump (Obj.shErr l)
    if 16 ≤ (win.filter (fun b => !b)).length then ((w.laneFlag l 4).loseLock l) else w

/-- BLOCK_LOCK_LOSS: sync headers seen while the lane is locked (R120). -/
def blockLockLoss (l : LaneNo) (headers : List (BitVec 2)) (w : Work) : Work :=
  if isRslRate (w.confN (Obj.rateObj l)) then headers.foldl (fun w h => w.lockedHeader l h) w else w

def execBlockLockLoss (l : LaneNo) (headers : List (BitVec 2)) : State → Host.Outcome State Fault Refusal :=
  onWork (blockLockLoss l headers)

/-- The owner's check of BITSLIP (R122, R123). -/
def bitslipCheck (l : Nat) (w : Work) : Option Res :=
  if w.get (Obj.alignMode l) = 0 || isCxpRate (w.confN (Obj.rateObj l)) then some .inconsistent else none

/-- An accepted BITSLIP: the boundary moves one bit later, the count restarts, a held lock breaks (R121). -/
def Work.slip (w : Work) (l : Nat) : Work :=
  let w := w.set (Obj.slipPos l) (Int.ofNat ((w.getN (Obj.slipPos l) + 1) % 66))
  let w := w.updLane l (fun n => { n with good := 0 })
  if w.laneState l = lsLock || w.laneState l = lsUp then w.loseLock l else w

/-- BITSLIP: a write of the object (R121). -/
def bitslip (p : Path) (l : LaneNo) (w : Work) : Work :=
  w.command p (Obj.bitslip l) 1 (bitslipCheck l) (fun w => w.slip l)

def execBitslip (p : Path) (l : LaneNo) : State → Host.Outcome State Fault Refusal := onWork (bitslip p l)

/-- ALIGN_SEARCH: the firmware's search on a lane in CDR_LOCK with ALIGN_MODE 0; `boundary` is the one at which headers hold, none when no
boundary of the 66 holds (R122). -/
def alignSearch (l : LaneNo) (boundary : Option (Fin 66)) (w : Work) : Work :=
  if w.laneState l ≠ lsCdr || w.get (Obj.alignMode l) ≠ 0 || !isRslRate (w.confN (Obj.rateObj l)) then w
  else match boundary with
    | some b => (w.set (Obj.slipPos l) b.val).updLane l (fun n => { n with good := 0 })
    | none => w.updLane l (fun n => { n with good := 0 })

def execAlignSearch (l : LaneNo) (boundary : Option (Fin 66)) : State → Host.Outcome State Fault Refusal :=
  onWork (alignSearch l boundary)

/-! ### CoaXPress alignment (R118, R123) -/

/-- One character at a CoaXPress rate: a code or disparity violation counts; 16 within 64 characters lose lock (R123). -/
def Work.cxpChar (w : Work) (l : Nat) (ok : Bool) : Work :=
  let win := (ok :: (w.lane l).chars).take 64
  let w := w.updLane l (fun n => { n with chars := win })
  let w := if ok then w else (w.laneFlag l 2).bump (Obj.codeErr l)
  if 16 ≤ (win.filter (fun b => !b)).length && (w.laneState l = lsLock || w.laneState l = lsUp) then w.loseLock l else w

/-- COMMA_LOCK: K28.5 alignment in hardware, then the characters seen, true for one without a violation (R123). -/
def commaLock (l : LaneNo) (comma : Bool) (chars : List Bool) (w : Work) : Work :=
  if !isCxpRate (w.confN (Obj.rateObj l)) || w.laneState l < lsCdr then w
  else
    let w := if comma && w.laneState l = lsCdr then (w.setLane l lsLock).updLane l (fun n => { n with chars := [] }) else w
    chars.foldl (fun w c => w.cxpChar l c) w

def execCommaLock (l : LaneNo) (comma : Bool) (chars : List Bool) : State → Host.Outcome State Fault Refusal :=
  onWork (commaLock l comma chars)

/-- CXP_LANE_UP: aligned for 1 ms without code errors, the lane goes UP and passes data to its port (R118). -/
def cxpLaneUp (l : LaneNo) (w : Work) : Work :=
  if isCxpRate (w.confN (Obj.rateObj l)) && w.laneState l = lsLock && (w.lane l).chars.all id then w.setLane l lsUp else w

def execCxpLaneUp (l : LaneNo) : State → Host.Outcome State Fault Refusal := onWork (cxpLaneUp l)

/-! ### Lane markers and deskew (R124 to R127) -/

/-- The fields of a marker payload (R124): BIP8, MARKER_SEQ, LINK_LANES, LANE. -/
def markerFields (m : Word64) : Nat × Nat × Nat × Nat :=
  (bitsOf m.toNat 40 8, bitsOf m.toNat 24 16, bitsOf m.toNat 16 8, bitsOf m.toNat 8 8)

/-- Whether every lane of a link holds BLOCK_LOCK or UP and has seen one MARKER_SEQ (R126). -/
def Work.markersAgree (w : Work) (ls : List Nat) : Bool :=
  match ls with
  | [] => false
  | l :: rest =>
    ls.all (fun x => (w.laneState x == lsLock || w.laneState x == lsUp) && decide (0 < (w.lane x).markers))
      && rest.all (fun x => (w.lane x).mkSeq == (w.lane l).mkSeq)

/-- The latest arrival among the markers of a link. -/
def Work.latestMarker (w : Work) (ls : List Nat) : Nat := maxNat (ls.map (fun l => (w.lane l).mkAt))

/-- The block period in which a lane's marker leaves its delay line. -/
def Work.markerOut (w : Work) (l : Nat) : Nat := (w.lane l).mkAt + w.getN (Obj.deskewTap l)

/-- The markers of all lanes leave the delay lines in one block period. -/
def Work.aligned (w : Work) (ls : List Nat) : Bool :=
  match ls with
  | [] => false
  | l :: rest => rest.all (fun x => w.markerOut x == w.markerOut l)

/-- LINK_LANES or LANE inconsistent on a link (R125). -/
def Work.markerConflict (w : Work) (p : Nat) (ls : List Nat) (l : Nat) : Bool :=
  (w.lane l).mkLinks ≠ w.confN (Obj.lanes p)
    || ls.any (fun x => x != l && decide (0 < (w.lane x).markers) && (w.lane x).mkLane == (w.lane l).mkLane)

/-- Record the leads over the latest lane, set the taps with ALIGN_MODE 0, and flag a lead over 31 blocks (R126). -/
def Work.recordLeads (w : Work) (ls : List Nat) : Work :=
  let latest := w.latestMarker ls
  ls.foldl (fun w l =>
    let lead := latest - (w.lane l).mkAt
    let w := w.set (Obj.markerLead l) (Int.ofNat (min lead 255))
    if 31 < lead then w.laneFlag l 6
    else if w.get (Obj.alignMode l) = 0 && !(w.lane l).keepTap then w.set (Obj.deskewTap l) lead else w) w

/-- A link out of deskew falls to BLOCK_LOCK with DESKEW_ERR, and its blocks are errored until it is UP again (R127). -/
def Work.deskewErr (w : Work) (ls : List Nat) : Work :=
  ls.foldl (fun w l => ((w.laneFlag l 5).setLane l lsLock).updLane l (fun n => { n with markers := 0, errored := true })) w

/-- Two markers that leave in one block period bear different numbers. -/
def Work.markerMixed (w : Work) (ls : List Nat) : Bool :=
  ls.any (fun a => ls.any (fun b => w.markerOut a == w.markerOut b && (w.lane a).mkSeq != (w.lane b).mkSeq
    && decide (0 < (w.lane a).markers) && decide (0 < (w.lane b).markers)))

/-- A link whose lanes have all seen one marker number: while UP it is checked, otherwise it deskews and goes UP once its markers leave
together (R126, R127). -/
def Work.linkMarker (w : Work) (p : Nat) : Work :=
  let ls := w.linkLanes p
  if w.linkUp p && w.markerMixed ls then w.deskewErr ls
  else if !w.markersAgree ls then w
  else if ls.any (fun l => w.markerConflict p ls l) then w
  else if w.linkUp p then
    if w.aligned ls then w
    else w.deskewErr ls
  else if w.aligned ls && ls.all (fun l => decide (2 ≤ (w.lane l).markers) && decide (w.latestMarker ls - (w.lane l).mkAt ≤ 31)) then
    ls.foldl (fun w l => (w.setLane l lsUp).updLane l (fun n => { n with errored := false, keepTap := false })) w
  else w.recordLeads ls

/-- LANE_MARKER: a marker's payload, the parity computed over the blocks since the marker before, and the block period of its arrival
(R124 to R127). -/
def laneMarker (l : LaneNo) (payload : Word64) (parity : Byte) (block : Nat) (w : Work) : Work :=
  if !isRslRate (w.confN (Obj.rateObj l)) || (w.laneState l ≠ lsLock && w.laneState l ≠ lsUp) || payload.toNat % 256 ≠ 0xD2 then w
  else
    let f := markerFields payload
    let p := w.portOfLane l
    let diff := bitDiff (BitVec.ofNat 8 f.1) parity
    let w := if 0 < (w.lane l).markers && 0 < diff then (w.laneFlag l 3).bump (Obj.bipErr l) diff else w
    let w := w.updLane l (fun n => { n with
      markers := n.markers + 1, mkSeq := f.2.1, mkAt := block, mkLane := f.2.2.2, mkLinks := f.2.2.1 })
    let w := w.set (Obj.laneId l) f.2.2.2
    let w := if w.markerConflict p (w.linkLanes p) l then w.laneFlag l 7 else w
    w.linkMarker p

def execLaneMarker (l : LaneNo) (payload : Word64) (parity : Byte) (block : Nat) : State → Host.Outcome State Fault Refusal :=
  onWork (laneMarker l payload parity block)

/-! ### Retraining (R129, R130) -/

/-- LANE_CMD 1 acts unless another lane is in a host-commanded retrain, or this lane retrains already (R130). -/
def Work.startRetrain (w : Work) (l : Nat) : Work :=
  if w.laneState l = lsRetrain then w.set (Obj.cmdState l) 4
  else if (upTo 128).any (fun x => x != l && (w.lane x).hostRetrain) || !w.lanePowered l then w.set (Obj.cmdState l) 3
  else
    let w := (w.set (Obj.cmdState l) 2).eyeAbort l
    (w.setLane l lsRetrain).updLane l (fun n => { n with hostRetrain := true, good := 0, window := [], chars := [], markers := 0 })

/-- LANE_RETRAIN: LANE_CMD 1. -/
def laneRetrain (p : Path) (l : LaneNo) (w : Work) : Work :=
  w.command p (Obj.laneCmd l) 1 always (fun w => w.startRetrain l)

def execLaneRetrain (p : Path) (l : LaneNo) : State → Host.Outcome State Fault Refusal := onWork (laneRetrain p l)

/-- LANE_RETRAIN_DONE: the lane holds its lock again; `lead` is its marker's lead over the other lanes' delayed markers. A tap of at most 31
matches it to the link, which comes UP; a greater one makes the whole link deskew (R129). -/
def laneRetrainDone (l : LaneNo) (lead : Nat) (w : Work) : Work :=
  if w.laneState l ≠ lsRetrain && !(w.lane l).hostRetrain then w
  else
    let w := (w.updLane l (fun n => { n with hostRetrain := false })).set (Obj.cmdState l) 1
    let p := w.portOfLane l
    if lead ≤ 31 then
      (((w.set (Obj.markerLead l) lead).set (Obj.deskewTap l) lead).setLane l lsUp).updLane l (fun n => { n with keepTap := true, markers := 1 })
    else
      let w := w.laneFlag l 6
      (w.linkLanes p).foldl (fun w x => (w.setLane x lsLock).updLane x (fun n => { n with markers := 0, errored := true })) w

def execLaneRetrainDone (l : LaneNo) (lead : Nat) : State → Host.Outcome State Fault Refusal := onWork (laneRetrainDone l lead)

/-! ### The pattern test (R132) -/

/-- The pattern acts at RSL rates, on a lane whose port is not active in the configuration in force (R132). -/
def Work.patternAllowed (w : Work) (l : Nat) : Bool :=
  isRslRate (w.confN (Obj.rateObj l)) && w.conf (Obj.portEnable (w.portOfLane l)) = 0 && w.lanePowered l

/-- PATTERN_START: LANE_CMD 4. -/
def patternStart (p : Path) (l : LaneNo) (w : Work) : Work :=
  w.command p (Obj.laneCmd l) 4 always (fun w =>
    if w.patternAllowed l then
      (((w.set (Obj.cmdState l) 1).setLane l lsPrbs).set (Obj.prbsLock l) 0).updLane l (fun n => { n with pattern := true, prbsGood := 0 })
    else w.set (Obj.cmdState l) 3)

def execPatternStart (p : Path) (l : LaneNo) : State → Host.Outcome State Fault Refusal := onWork (patternStart p l)

/-- PATTERN_STOP: LANE_CMD 5. -/
def patternStop (p : Path) (l : LaneNo) (w : Work) : Work :=
  w.command p (Obj.laneCmd l) 5 always (fun w =>
    if w.patternAllowed l then
      let w := (w.set (Obj.cmdState l) 1).set (Obj.prbsLock l) 0
      let w := if w.laneState l = lsPrbs then w.setLane l lsNoSignal else w
      w.updLane l (fun n => { n with pattern := false, prbsGood := 0 })
    else w.set (Obj.cmdState l) 3)

def execPatternStop (p : Path) (l : LaneNo) : State → Host.Outcome State Fault Refusal := onWork (patternStop p l)

/-- One compared bit of the checker, true when it matches: 64 consecutive error-free bits lock; then bits and mismatches count (R132). -/
def Work.prbsBit (w : Work) (l : Nat) (ok : Bool) : Work :=
  if w.get (Obj.prbsLock l) = 1 then
    let w := w.bump (Obj.prbsBits l)
    if ok then w else w.bump (Obj.prbsErrors l)
  else
    let n := if ok then (w.lane l).prbsGood + 1 else 0
    let w := w.updLane l (fun x => { x with prbsGood := n })
    if 64 ≤ n then w.set (Obj.prbsLock l) 1 else w

/-- PRBS_LOCK: bits compared by the pattern checker, true for a match (R132). -/
def prbsLock (l : LaneNo) (bits : List Bool) (w : Work) : Work :=
  if w.laneState l = lsPrbs then bits.foldl (fun w b => w.prbsBit l b) w else w

def execPrbsLock (l : LaneNo) (bits : List Bool) : State → Host.Outcome State Fault Refusal := onWork (prbsLock l bits)

/-! ### Eye scan (R133, R134) -/

/-- The points of a map (R134). -/
def eyePoints : Nat := 32640

/-- Start a scan of a kind. A lane that is not carrying a signal has no data sampler's decision to compare with (log entry 17). -/
def Work.eyeStart (w : Work) (l kind : Nat) : Work :=
  let w := (w.set (Obj.eyeStatus l) 1)
  let w := if kind = 2 then w.set (Obj.eyePoints l) 0 else w
  let counts := if kind = 2 then [] else (w.lane l).eye.counts
  let scan : EyeScan := ⟨kind, w.timeNs, w.frame, w.getN (Obj.eyeDwell l), w.confN (Obj.rateObj l), false, counts⟩
  w.updLane l (fun n => { n with eye := scan })

/-- EYE_POINT: EYE_CTRL 1. -/
def eyePoint (p : Path) (l : LaneNo) (w : Work) : Work :=
  w.command p (Obj.eyeCtrl l) 1 always (fun w => w.eyeStart l 1)

def execEyePoint (p : Path) (l : LaneNo) : State → Host.Outcome State Fault Refusal := onWork (eyePoint p l)

/-- EYE_MAP: EYE_CTRL 2. -/
def eyeMap (p : Path) (l : LaneNo) (w : Work) : Work :=
  w.command p (Obj.eyeCtrl l) 2 always (fun w => w.eyeStart l 2)

def execEyeMap (p : Path) (l : LaneNo) : State → Host.Outcome State Fault Refusal := onWork (eyeMap p l)

/-- EYE_ABORT: EYE_CTRL 3. -/
def eyeAbortCmd (p : Path) (l : LaneNo) (w : Work) : Work :=
  w.command p (Obj.eyeCtrl l) 3 always (fun w => w.eyeAbort l)

def execEyeAbort (p : Path) (l : LaneNo) : State → Host.Outcome State Fault Refusal := onWork (eyeAbortCmd p l)

/-- EYE_SCAN_DONE: the disagreements measured: one count for a point, the counts of all points in order for a map (R134). -/
def eyeScanDone (l : LaneNo) (counts : List Nat) (w : Work) : Work :=
  let e := (w.lane l).eye
  if w.get (Obj.eyeStatus l) ≠ 1 then w
  else if e.kind = 1 then
    let w := (w.set (Obj.eyeBits l) (2 ^ e.dwell : Nat)).set (Obj.eyeErrors l) (counts.headD 0)
    (w.set (Obj.eyeStatus l) 2).updLane l (fun n => { n with eye := { n.eye with kind := 0 } })
  else
    let cs := (counts.take eyePoints).map (fun c => min c 0xFFFFFFFF)
    let w := w.set (Obj.eyePoints l) cs.length
    let w := (w.set (Obj.eyeBits l) (2 ^ e.dwell : Nat)).set (Obj.eyeErrors l) (cs.getLastD 0)
    (w.set (Obj.eyeStatus l) 2).updLane l (fun n => { n with
      eye := { n.eye with kind := 0, complete := decide (cs.length = eyePoints), counts := cs } })

def execEyeScanDone (l : LaneNo) (counts : List Nat) : State → Host.Outcome State Fault Refusal := onWork (eyeScanDone l counts)

/-- The bytes of EYE_MAP: the header, then one U32 for each point, 0xFFFF_FFFF for a point not measured (R134). -/
def Work.eyeMapBytes (w : Work) (l : Nat) : Bytes :=
  let e := (w.lane l).eye
  leBytes 32 (packBits [(192, 64, e.time), (144, 48, e.frame), (136, 8, e.dwell), (128, 1, if e.complete then 1 else 0),
    (112, 16, e.counts.length), (104, 8, e.rate), (96, 8, l), (0, 32, 0x4D455A54)])
  ++ ((upTo eyePoints).map (fun i => leBytes 4 (e.counts.getD i 0xFFFFFFFF))).flatten

/-! ### The owner's checks of lane settings -/

/-- RATE: every nonzero staged RATE of one quad is equal (R113). -/
def rateCheck (l : Nat) : OwnerCheck := fun w v =>
  if v ≠ 0 && (upTo 4).any (fun i => 4 * (l / 4) + i != l && w.get (Obj.rateObj (4 * (l / 4) + i)) != 0
      && w.get (Obj.rateObj (4 * (l / 4) + i)) != v) then some .inconsistent else none

/-- EYE_VOFF, EYE_PHASE and EYE_DWELL while a scan runs (R134). -/
def eyeSettingCheck (l : Nat) : OwnerCheck := fun w _ => if w.get (Obj.eyeStatus l) = 1 then some .inconsistent else none

/-- Power every lane down, as RESET, BOOT and SAFE do (R117). -/
def Work.lanesDown (w : Work) : Work :=
  (upTo 128).foldl (fun w l => (w.eyeAbort l).setLane l lsOff) { w with lanes := w.lanes.map (fun n => { eye := n.eye }) }

/-- Power lanes up by their RATE in force: a lane that was off shows NO_SIGNAL, a lane of RATE 0 is off (R117, R118). -/
def Work.lanesPower (w : Work) : Work :=
  (upTo 128).foldl (fun w l =>
    if !w.lanePowered l then (if w.laneState l = lsOff then w else (w.eyeAbort l).setLane l lsOff)
    else if w.laneState l = lsOff then w.setLane l lsNoSignal else w) w

end Sys2Proof.Machine
end

