-- ==== Sys2Proof/Machine/ModeOps.lean ====
section
/-! DEFINITION. What every chapter that changes the mode shares (R65 to R75): the transition itself, lost capacity, inspected frames. -/
namespace Sys2Proof.Machine

/-- The modes in which MIRROR_ACTIVE is high: READY, CAL, INSPECT and DEGRADED (R355); SHADOW is the mode of a secondary. -/
def Mode.drivesMarkers : Mode → Bool
  | .ready => true | .calDark => true | .calFlat => true | .calGeom => true | .inspect => true | .degraded => true | _ => false

/-- Whether the module is in idle READY (R89): no START pending, no command waiting, no wake under way. -/
def Work.idleReady (w : Work) : Bool :=
  w.mode == .ready && w.run.startAt.isNone && w.run.waiting.isNone && !w.running .idleWake

/-- Idle READY begins: IDLE_DELAY counts anew (R89). -/
def Work.idleBegin (w : Work) : Work := if w.idleReady then w.startTimer .idle else w

/-- A transition of the table of R70: MODE, MODE_CAUSE, MODE_FRAME, MODE_TIME, the MODE_CHANGE event and its vector (R69); MIRROR_ACTIVE
follows the mode (R355); idle READY begins or ends (R89). -/
def Work.modeTo (w : Work) (m : Mode) (cause : Nat) : Work :=
  let w := { w with mode := m }
  let w := w.set Obj.mirrorActive (if m.drivesMarkers then 1 else 0)
  let w := (((w.set Obj.devMode m.code).set Obj.modeCause cause).set Obj.modeFrame w.frame).set Obj.modeTime w.timeNs
  (((w.raise 2).msix 1).stopTimer .idle).idleBegin

/-- Whether frame n is inspected: it lies in a span begun by a START and not ended by a STOP, a CAL entry or a SAFE cause (R68, R230). -/
def Work.inspected (w : Work) (n : Nat) : Bool :=
  w.run.spans.any (fun s => decide (s.1 ≤ n) && (match s.2 with
    | some e => decide (n < e)
    | none => true))

/-- End the newest span of inspected frames at frame n, or leave it where it ends earlier. -/
def Work.endSpan (w : Work) (n : Nat) : Work :=
  match w.run.spans with
  | (a, e) :: rest => { w with run := { w.run with spans := (a, some (min n (e.getD n))) :: rest } }
  | _ => w

/-- Some capacity is lost. -/
def Work.capacityLost (w : Work) : Bool := !w.run.capacity.isEmpty

/-- Capacity is lost (R70 cause 12): INSPECT becomes DEGRADED at once; a return to INSPECT on its way is undone (R74). -/
def Work.loseCapacity (w : Work) (c : Cap) : Work :=
  let w := if w.run.capacity.contains c then w else { w with run := { w.run with capacity := c :: w.run.capacity } }
  let w := { w with run := { w.run with returnAt := none } }
  if w.mode == .inspect then w.modeTo .degraded 12 else w

/-- Capacity returns (R70 cause 13): when the last has returned, the module goes back to INSPECT at frame p+1. -/
def Work.returnCapacity (w : Work) (c : Cap) : Work :=
  let w := { w with run := { w.run with capacity := w.run.capacity.filter (fun d => d ≠ c) } }
  if w.mode == .degraded && !w.capacityLost then { w with run := { w.run with returnAt := some (w.frame + 1) } } else w

end Sys2Proof.Machine
end

