-- ==== Sys2Proof/Machine/Plant.lean ====
section
/-! DEFINITION. The configuration in force as the camera data path reads it: active ports, tags, fields, sensors, staggers, packed
sizes (R13, R17, R140 to R142, R183, R216). -/
namespace Sys2Proof.Machine

/-- Port p. -/
def Work.port (w : Work) (p : Nat) : Port := nth {} w.ports p

/-- Change port p. -/
def Work.updPort (w : Work) (p : Nat) (f : Port → Port) : Work := { w with ports := upd w.ports p f }

/-- ENABLE in force. -/
def Work.portActive (w : Work) (p : Nat) : Bool := w.confN (Obj.portEnable p) ≠ 0

/-- The active ports. -/
def Work.activePorts (w : Work) : List Nat := (upTo 32).filter w.portActive

/-- The die of a port (R13). -/
def dieOfPort (p : Nat) : Nat := p / 8

/-- CoaXPress rather than RSL. -/
def Work.portCxp (w : Work) (p : Nat) : Bool := w.confN (Obj.protocol p) = 1

/-- The active tags of a port (R140). -/
def Work.tagsOf (w : Work) (p : Nat) : List Nat := upTo (w.confN (Obj.tagCount p))

/-- FIELD_MODE in force. -/
def Work.fieldModeOf (w : Work) (p : Nat) : Nat := w.confN (Obj.fieldMode p)

/-- FIELD_COUNT in force; in FIELD_MODE 0 every line is field 0 but correction sets are shaped by FIELD_COUNT all the same. -/
def Work.fieldsOf (w : Work) (p : Nat) : Nat := w.confN (Obj.fieldCount p)

/-- TAG_PIXELS in force. -/
def Work.tagPx (w : Work) (p t : Nat) : Nat := w.confN (Obj.tagPixels p t)

/-- The sensor of a tag (R216): tag 0's in FIELD_MODE 2. -/
def Work.sensorOf (w : Work) (p t : Nat) : Nat := if w.fieldModeOf p = 2 then 8 * p else 8 * p + t

/-- The sensors of a port. -/
def Work.portSensors (w : Work) (p : Nat) : List Nat :=
  if w.fieldModeOf p = 2 then [8 * p] else (w.tagsOf p).map (8 * p + ·)

/-- The active sensors, rising. -/
def Work.activeSensors (w : Work) : List Nat := (w.activePorts.map w.portSensors).flatten

/-- A sensor of the plane in force. -/
def Work.sensor? (w : Work) (s : Nat) : Option Sensor := w.loom.sensors.find? (fun x => x.s == s)

/-- The stagger s_c of a sensor (R17), 0 before a plane is in force. -/
def Work.staggerOf (w : Work) (s : Nat) : Nat := ((w.sensor? s).map (fun x => x.geo.stagger)).getD 0

/-- Whether a sensor is cut back at frame n (R229, R240). -/
def Work.cutBack (w : Work) (s n : Nat) : Bool := w.loom.cut.any (fun c => c.1 == s && decide (c.2.1 ≤ n))

/-- The package stagger s_max at frame n (R17). -/
def Work.sMax (w : Work) (n : Nat) : Nat :=
  maxNat ((w.loom.sensors.filter (fun x => !w.cutBack x.s n)).map (fun x => x.geo.stagger))

/-- The field of web line L on a port in FIELD_MODE 0 and 1 (R141). -/
def Work.fieldOfLine (w : Work) (p line : Nat) : Nat :=
  if w.fieldModeOf p = 1 then (line + w.confN (Obj.fieldPhase p)) % w.fieldsOf p else 0

/-- Packed bits per pixel (R183). -/
def Work.packBitsOf (w : Work) (p : Nat) : Nat :=
  match w.confN (Obj.outDepth p) with
  | 0 => let d := w.confN (Obj.portDepth p)
         if d ≤ 8 then 8 else if d ≤ 12 then 12 else 16
  | n => n

/-- The packed bytes of one line of a tag. -/
def Work.lineBytes (w : Work) (p t : Nat) : Nat := w.tagPx p t * w.packBitsOf p / 8

/-- The packed slot size of a sensor in a trigger row (R180, R398). -/
def Work.slotBytes (w : Work) (s : Nat) : Nat :=
  let p := s / 8
  if w.fieldModeOf p = 2 then sumNat ((w.tagsOf p).map (w.lineBytes p)) else w.lineBytes p (s % 8)

/-- B, the bytes of a trigger row (R398). -/
def Work.rowBytes (w : Work) : Nat := sumNat (w.activeSensors.map w.slotBytes)

/-- Every pixel die with an active camera. -/
def Work.activeDies (w : Work) : List Nat := (upTo 4).filter (fun d => w.activePorts.any (fun p => dieOfPort p == d))

/-- The exposure generation of web line's frame n on a port (R307). -/
def Work.expGenAt (w : Work) (p n : Nat) : Nat :=
  match (w.port p).exp.gens.find? (fun g => decide (g.1 ≤ n)) with
  | some g => g.2
  | none => 1

/-- Set bits of PORT_FLAGS. -/
def Work.portFlag (w : Work) (p bit : Nat) : Work := w.flag (Obj.portFlags p) (2 ^ bit)

/-- Whether a port is out of stitching with a reason at frame n (R229). -/
def Work.excludedAt (w : Work) (p n : Nat) : Option Nat :=
  (w.loom.excl.find? (fun e => e.port == p && decide (e.first ≤ n) && (match e.stop with
    | some m => decide (n < m)
    | none => true))).map (fun e => e.reason)

/-- The exclusions of a port for a reason end at frame m. -/
def Work.closeExcl (w : Work) (p reason m : Nat) : Work :=
  let close := fun (e : Excl) => if e.port = p && e.reason = reason && e.stop.isNone then { e with stop := some m } else e
  { w with loom := { w.loom with excl := w.loom.excl.map close } }

/-- Camera lines of the module's frames are inspected or swept: the line's trigger row is k = L + s. -/
def Work.rowOf (w : Work) (s line : Nat) : Nat := line + w.staggerOf s

end Sys2Proof.Machine
end

