-- ==== Sys2Proof/Machine/Ports.lean ====
section
/-! DEFINITION. Camera ports (chapter 06, R136 to R170): matching lines to triggers, line faults, register messages, discovery,
pass-through and service, with the delivery of exposure sets over register messages (R308 to R310). -/
namespace Sys2Proof.Machine

/-! ### The receive FIFO and line faults -/

/-- Bytes of the port FIFO (R139). -/
def fifoBytes : Nat := 262144

/-- The bytes a line takes in the FIFO: its data blocks and the two of its packet; a replaced line takes none. -/
def rxSize (b : Nat) (r : RxLine) : Nat := if r.pixels.isEmpty then 0 else ceilDiv (r.pixels.length * b) 64 * 8 + 16

/-- The fill of port p's FIFO in bytes. -/
def Work.fifoFill (w : Work) (p : Nat) : Nat := sumNat ((w.port p).rx.map (rxSize (w.confN (Obj.portDepth p))))

/-- Put a line into the FIFO and keep FIFO_PEAK, in KiB rounded up. -/
def Work.rxPush (w : Work) (p : Nat) (r : RxLine) : Work :=
  let w := w.updPort p (fun q => { q with rx := q.rx ++ [r] })
  w.peak (Obj.fifoPeak p) (ceilDiv (w.fifoFill p) 1024)

/-- Whether line L of a sensor and field is still held: in the ring, in the die's output buffer, or on its way there (R157). -/
def Work.lineHeld (w : Work) (s f line : Nat) : Bool :=
  let hit := fun (q : Packed) => q.sensor == s && q.desc.field == f && q.desc.line == line
  w.hbm.rows.any (fun r => r.lines.any hit) || (nth {} w.fuller (dieOfPort (s / 8))).outq.any hit ||
    (w.port (s / 8)).rx.any (fun r => r.line == some line && r.field == f && w.sensorOf (s / 8) r.tag == s)

/-- Close a trigger with a replaced line of a STATE from 3 to 6 (R157): the line data of the last own line of the tag and field, or FILL. -/
def Work.closeMissing (w : Work) (p t : Nat) (g : Trig) (st : Nat) : Work :=
  let back := match g.line, alGet (w.port p).lastOwn (t * 8 + g.field) with
    | some l, some l0 => if w.lineHeld (w.sensorOf p t) g.field l0 then l - l0 else 0
    | _, _ => 0
  let w := if st = 5 then w.bump (Obj.crcErr p) else w.bump (Obj.missingLine p)
  (w.portFlag p 0).rxPush p { k := g.k, line := g.line, tag := t, field := g.field, state := st, valid := 0, gen := g.gen, repeatOf := back }

/-- STATE of a line closed by timeout: link down when the link is not UP, otherwise missing (R157, R161). -/
def Work.missState (w : Work) (p : Nat) : Nat := if w.linkUp p then 3 else 4

/-- The outstanding triggers of a tag. -/
def Work.outstanding (w : Work) (p t : Nat) : List Trig := nth [] (w.port p).waiting t

/-- Set the outstanding triggers of a tag. -/
def Work.setOutstanding (w : Work) (p t : Nat) (gs : List Trig) : Work :=
  w.updPort p (fun q => { q with waiting := upd q.waiting t (fun _ => gs) })

/-- Keep a trigger sent; a 257th closes the oldest as a missing line (R150). -/
def Work.addTrig (w : Work) (p t : Nat) (g : Trig) : Work :=
  let gs := w.outstanding p t ++ [g]
  match gs with
  | old :: rest => if 256 < gs.length then (w.setOutstanding p t rest).closeMissing p t old (w.missState p) else w.setOutstanding p t gs
  | [] => w

/-- Whether a poisoned item makes a line of the port a line error: every line of the first web line after it (R429). -/
def Port.poisons (q : Port) (line : Option Nat) : Bool :=
  match q.poison with
  | none => false
  | some none => true
  | some (some l) => line == some l

/-- The poison after a line of a web line: fixed to the first, ended by any later one. -/
def Port.poisonNext (q : Port) (line : Option Nat) : Option (Option Nat) :=
  match q.poison, line with
  | some none, some l => some (some l)
  | some (some l), some m => if l = m then some (some l) else none
  | _, _ => none

/-- A matched line as received: padded short, cut long, or good (R147, R153 to R155); a line for which the FIFO has no room is overload (R158). -/
def Work.takeLine (w : Work) (p t : Nat) (g : Trig) (count : Nat) (px : List Nat) (diff expDiff : Bool) : Work :=
  let n := w.tagPx p t
  let px := px.take (min count px.length)
  let st := if px.length < n then 1 else if n < count then 2 else 0
  let px := px.take n
  let r : RxLine := { k := g.k, line := g.line, tag := t, field := g.field, state := st, valid := px.length, gen := g.gen,
                      echoDiff := expDiff, pixels := px }
  let w := if diff then (w.bump (Obj.echoErr p)).portFlag p 2 else w
  let bad := (w.port p).poisons g.line
  let w := w.updPort p (fun q => { q with poison := q.poisonNext g.line })
  if bad then w.closeMissing p t g 5
  else if fifoBytes < w.fifoFill p + rxSize (w.confN (Obj.portDepth p)) r then (w.portFlag p 4).closeMissing p t g 6
  else
    let w := if st = 1 then w.bump (Obj.shortLine p) else if st = 2 then w.bump (Obj.longLine p) else w
    let w := match g.line with
      | some l => w.updPort p (fun q => { q with lastOwn := alSet q.lastOwn (t * 8 + g.field) l })
      | none => w
    (w.updPort p (fun q => { q with matched := some w.frame })).rxPush p r

/-- Take the trigger a sequence number answers: older ones of the tag are closed as missing (R151). -/
def splitMatch (gs : List Trig) (seq : Nat) : Option (List Trig × Trig × List Trig) :=
  match gs with
  | [] => none
  | g :: rest =>
    if g.seq = seq then some ([], g, rest)
    else match splitMatch rest seq with
      | some (old, m, r) => some (g :: old, m, r)
      | none => none

/-- A surplus line: dropped and counted (R151). -/
def Work.surplus (w : Work) (p : Nat) : Work := (w.bump (Obj.surplusLine p)).portFlag p 1

/-- Match a line to its trigger and hand on what is to be done with it. -/
def Work.matchLine (w : Work) (p t seq : Nat) (f : Trig → Work → Work) : Work :=
  if w.confN (Obj.tagCount p) ≤ t then w.surplus p
  else match splitMatch (w.outstanding p t) seq with
    | none => w.surplus p
    | some (old, g, rest) =>
      let w := w.setOutstanding p t rest
      f g (old.foldl (fun w o => w.closeMissing p t o (w.missState p)) w)

/-- The little-endian value of data blocks (R146). -/
def blocksNat : List Word64 → Nat
  | [] => 0
  | b :: bs => b.toNat + 2 ^ 64 * blocksNat bs

/-- The bytes of data blocks (R146). -/
def blocksBytes (ds : List Word64) : Bytes := (ds.map (fun d => leBytes 8 d.toNat)).flatten

/-- The pixels of depth b that data blocks hold, at most n (R146, R147). -/
def unpackPixels (b n : Nat) (ds : List Word64) : List Nat :=
  let v := blocksNat ds
  (upTo (min n (ds.length * 64 / b))).map (fun i => bitsOf v (i * b) b)

/-- Whether a port takes camera lines: active, RSL or CoaXPress as asked, and powered. -/
def Work.portLive (w : Work) (p : Nat) (cxp : Bool) : Bool := w.portActive p && w.mode.lanesPowered && w.portCxp p == cxp

/-- Count blocks of unknown type (R144). -/
def Work.unknownBlocks (w : Work) (p n : Nat) : Work := if n = 0 then w else (w.bump (Obj.formatErr p) n).portFlag p 3

/-- LINE_PACKET: a LINE_START, the data blocks and the LINE_END of a packet; whether an errored block fell inside (R127), whether a control
block interrupted it, and how many blocks of unknown type it held (R144 to R156, R161). -/
def linePacket (p : PortNo) (start : Word64) (data : List Word64) (stop : Word64) (errored interrupted : Bool) (unknown : Nat)
    (w : Work) : Work :=
  if !w.portLive p false then w
  else
    let w := w.unknownBlocks p unknown
    let t := bitsOf start.toNat 8 3
    w.matchLine p t (bitsOf start.toNat 32 16) (fun g w =>
      let bad := errored || interrupted || unknown ≠ 0 || bitsOf stop.toNat 16 16 ≠ data.length % 65536 ||
        bitsOf stop.toNat 32 32 ≠ crc32 (blocksBytes data)
      let count := bitsOf start.toNat 48 16
      let b := w.confN (Obj.portDepth p)
      if fifoBytes < w.fifoFill p + data.length * 8 + 16 then (w.portFlag p 4).closeMissing p t g 6
      else if bad then w.closeMissing p t g (if w.linkUp p then 5 else 4)
      else
        let expDiff := decide (bitsOf start.toNat 24 8 ≠ g.gen % 256)
        w.takeLine p t g count (unpackPixels b (min count 32768) data) (expDiff || bitsOf start.toNat 16 3 ≠ g.field) expDiff)

def execLinePacket (p : PortNo) (start : Word64) (data : List Word64) (stop : Word64) (errored interrupted : Bool) (unknown : Nat) :
    State → Host.Outcome State Fault Refusal := onWork (linePacket p start data stop errored interrupted unknown)

/-- CXP_STREAM_PACKET: a stream packet's line, matched in order of arrival (R164); one of an unsupported kind is counted and discarded
(R162). -/
def cxpStreamPacket (p : PortNo) (stream : Fin 8) (supported crcOk : Bool) (width : Nat) (pixels : List Nat) (w : Work) : Work :=
  if !w.portLive p true then w
  else if !supported then w.unknownBlocks p 1
  else
    let t := stream.val
    match w.outstanding p t with
    | [] => w.surplus p
    | g :: rest =>
      if w.confN (Obj.tagCount p) ≤ t then w.surplus p
      else
        let w := w.setOutstanding p t rest
        if !crcOk then w.closeMissing p t g (if w.linkUp p then 5 else 4)
        else w.takeLine p t g width (pixels.map (· % 2 ^ w.confN (Obj.portDepth p))) false false

def execCxpStreamPacket (p : PortNo) (stream : Fin 8) (supported crcOk : Bool) (width : Nat) (pixels : List Nat) :
    State → Host.Outcome State Fault Refusal := onWork (cxpStreamPacket p stream supported crcOk width pixels)

/-- CXP_HEARTBEAT: a heartbeat packet is received; the port supports it and it changes nothing (R162). On a port that is no CoaXPress host the
blocks are of unknown type (R144). -/
def cxpHeartbeat (p : PortNo) (w : Work) : Work := if w.portLive p false then w.unknownBlocks p 1 else w

def execCxpHeartbeat (p : PortNo) : State → Host.Outcome State Fault Refusal := onWork (cxpHeartbeat p)

/-- LINE_TIMEOUT: the oldest outstanding trigger of a tag, unanswered within LINE_TIMEOUT of its sending, is closed (R152, R157). -/
def lineTimeout (p : PortNo) (t : Fin 8) (w : Work) : Work :=
  match w.outstanding p t with
  | [] => w
  | g :: rest =>
    if g.sentAt + nsClocks (w.getN (Obj.lineTimeout p)) ≤ w.clk.ctl then (w.setOutstanding p t rest).closeMissing p t g (w.missState p)
    else w

def execLineTimeout (p : PortNo) (t : Fin 8) : State → Host.Outcome State Fault Refusal := onWork (lineTimeout p t)

/-- PORT_OVERLOAD: a line in reception, named by its LINE_START and the data blocks that arrived, finds no room in the FIFO: it is discarded
up to its LINE_END and closed with the reason port overload (R158). -/
def portOverload (p : PortNo) (start : Word64) (blocks : Nat) (w : Work) : Work :=
  if !w.portLive p false || w.fifoFill p + blocks * 8 + 8 ≤ fifoBytes then w
  else
    let t := bitsOf start.toNat 8 3
    w.matchLine p t (bitsOf start.toNat 32 16) (fun g w => (w.portFlag p 4).closeMissing p t g 6)

def execPortOverload (p : PortNo) (start : Word64) (blocks : Nat) : State → Host.Outcome State Fault Refusal :=
  onWork (portOverload p start blocks)

/-- At a frame boundary: each enabled port counts consecutive boundaries with its link not UP (R160). -/
def Work.portsBoundary (w : Work) : Work :=
  w.activePorts.foldl (fun w p => w.updPort p (fun q => { q with downBounds := if w.linkUp p then 0 else q.downBounds + 1 })) w

/-- PORT_CAPACITY_LOST: LOST_FRAMES boundaries with the link down (R160). -/
def portCapacityLost (p : PortNo) (w : Work) : Work :=
  if !w.portActive p || (w.port p).downBounds < w.getN (Obj.lostFrames p) || w.run.capacity.contains (.port p) then w
  else
    let w := (w.portFlag p 6).updPort p (fun q => { q with matched := none })
    w.loseCapacity (.port p)

def execPortCapacityLost (p : PortNo) : State → Host.Outcome State Fault Refusal := onWork (portCapacityLost p)

/-- PORT_CAPACITY_RETURN: the first frame boundary after the port delivered a matched line (R160). -/
def portCapacityReturn (p : PortNo) (w : Work) : Work :=
  match (w.port p).matched with
  | some f => if w.run.capacity.contains (.port p) && f < w.frame then w.returnCapacity (.port p) else w
  | none => w

def execPortCapacityReturn (p : PortNo) : State → Host.Outcome State Fault Refusal := onWork (portCapacityReturn p)

/-! ### Register messages (R162, R167) -/

/-- A MESSAGE block (table MESSAGE payload). -/
def messageBlock (addr tag words op : Nat) : Word64 :=
  BitVec.ofNat 64 (packBits [(0, 8, 0xB4), (8, 8, op), (16, 8, words - 1), (24, 8, tag), (32, 32, addr)])

/-- 32-bit words as data blocks, two to a block (R167). -/
def wordBlocks : List Nat → List Word64
  | [] => []
  | [a] => [BitVec.ofNat 64 (a % 2 ^ 32)]
  | a :: b :: rest => BitVec.ofNat 64 (a % 2 ^ 32 + 2 ^ 32 * (b % 2 ^ 32)) :: wordBlocks rest

/-- The 32-bit words of data blocks. -/
def blockWords (ds : List Word64) : List Nat := (ds.map (fun d => [bitsOf d.toNat 0 32, bitsOf d.toNat 32 32])).flatten

/-- The timer of a transaction: 200 ms each (R165, R168, R310). -/
def txnTimer (p : Nat) : TxnUse → Timer
  | .identify => .discovery p | .configure => .discovery p
  | .passRead => .regCmd p | .passWrite => .regCmd p
  | .expSet => .expWrite p | .expGen => .expWrite p

/-- Send a register message, or a tagged control command at CoaXPress rates, and wait for its answer. -/
def Work.startTxn (w : Work) (p : Nat) (use : TxnUse) (write : Bool) (addr words : Nat) (data : List Nat) : Work :=
  let tag := (w.port p).msgNo % 256
  let w := w.updPort p (fun q => { q with msgNo := tag + 1, txn := some ⟨use, tag, write, addr, words⟩ })
  let w := w.startTimer (txnTimer p use)
  if w.portCxp p then w.send (.cxpControl p tag write addr data)
  else w.send (.message p (messageBlock addr tag words (if write then 2 else 1)) (wordBlocks data))

/-- The 32-bit words of a byte string. -/
def bytesWords (b : Bytes) : List Nat := (upTo (b.length / 4)).map (fun i => leAt b (4 * i) 4)

/-- The bytes of 32-bit words. -/
def wordsBytes (ws : List Nat) : Bytes := (ws.map (leBytes 4)).flatten

/-- Whether discovery of a port runs (R165). -/
def Work.discovering (w : Work) (p : Nat) : Bool := decide (w.getN (Obj.portState p) < 4)

/-- The exposure set that governs frame n, as 32-bit words (R308). -/
def Work.expWords (w : Work) (p n : Nat) : List Nat :=
  ((upTo (w.fieldsOf p)).map (fun f => [w.valueAtN (Obj.exposure p f) n, w.valueAtN (Obj.camGain p f) n])).flatten

/-- Send the exposure set of frame n (R308, R309). -/
def Work.sendExposure (w : Work) (p n : Nat) : Work :=
  let ws := w.expWords p n
  let w := w.updPort p (fun q => { q with expWait := false, exp := { q.exp with sending := some n } })
  w.startTxn p .expSet true (w.confN (Obj.expAddr p)) ws.length ws

/-- Start what waits for the port's one outstanding message: an exposure set, then a pass-through (R167, R168, R308). -/
def Work.nextTxn (w : Work) (p : Nat) : Work :=
  if (w.port p).txn.isSome || w.discovering p then w
  else if (w.port p).expWait then
    match (w.port p).exp.sending with
    | some n => w.sendExposure p n
    | none => w.updPort p (fun q => { q with expWait := false })
  else match (w.port p).passWait with
    | none => w
    | some write =>
      let w := w.updPort p (fun q => { q with passWait := none })
      let len := w.getN (Obj.regLength p)
      let ws := if write then bytesWords (w.blob (Obj.regData p)) else []
      w.startTxn p (if write then .passWrite else .passRead) write (w.getN (Obj.regAddr p)) (len / 4) ws

/-- An exposure delivery refused or unanswered (R310): the whole set is resent at the camera's next frame start. -/
def Work.expFail (w : Work) (p : Nat) : Work :=
  let w := (w.flag (Obj.expFlags p) 1).bump (Obj.expFaults p)
  w.updPort p (fun q => { q with exp := { q.exp with resend := true } })

/-! ### Discovery (R165, R166) -/

/-- What a camera offers in its bootstrap registers (table RSL bootstrap registers). -/
structure Offer where
  lanes  : Nat
  model  : Bytes
  serial : Bytes
  tags   : Nat
  pixels : Nat
  depths : Nat
  deriving DecidableEq, Repr

/-- A zero-padded string without its padding. -/
def unpad (b : Bytes) : Bytes := (b.reverse.dropWhile (fun x => x == 0)).reverse

/-- The offer in the words of the bootstrap registers from 0x0000 on. -/
def offerOf (ws : List Nat) : Offer :=
  let b := wordsBytes ws
  ⟨leAt b 8 4, unpad (slice b 0x10 32), unpad (slice b 0x30 16), leAt b 0x40 4, leAt b 0x44 4, leAt b 0x48 4⟩

/-- The place of a depth in the register of depths offered. -/
def depthBit (d : Nat) : Nat := (d - 8) / 2

/-- Identification fails (R166). -/
def Work.offerFails (w : Work) (p : Nat) (o : Offer) : Bool :=
  decide (o.tags < w.confN (Obj.tagCount p)) || (w.tagsOf p).any (fun t => decide (o.pixels < w.tagPx p t)) ||
    !bitOf o.depths (depthBit (w.confN (Obj.portDepth p))) || o.lanes ≠ w.confN (Obj.lanes p) ||
    (w.confN (Obj.identCheck p) = 1 && o.model ≠ (alGet w.d.blobConf (Obj.expectModel p)).getD [])

/-- The words discovery writes from 0x0050 on: tags in use, pixels of tags 0 to 7, depth, trigger mode, stream enable. -/
def Work.configWords (w : Work) (p : Nat) : List Nat :=
  [w.confN (Obj.tagCount p)] ++ (upTo 8).map (fun t => if t < w.confN (Obj.tagCount p) then w.tagPx p t else 0) ++
    [w.confN (Obj.portDepth p), 1, 1]

/-- IDENTIFY answered: MISMATCH, or CONFIGURE (R165, R166). -/
def Work.identified (w : Work) (p : Nat) (o : Offer) : Work :=
  let w := (w.setBlob (Obj.foundModel p) o.model).setBlob (Obj.foundSerial p) o.serial
  if w.offerFails p o then (w.set (Obj.portState p) 6).portFlag p 5
  else
    let ws := w.configWords p
    (w.set (Obj.portState p) 3).startTxn p .configure true 0x50 ws.length ws

/-- CONFIGURE done: READY; a port serviced resumes at the next frame boundary (R165, R170, R310). -/
def Work.discovered (w : Work) (p : Nat) : Work :=
  let w := w.set (Obj.portState p) (if (w.port p).suspended then 7 else 4)
  let w := w.returnCapacity (.absent p)
  let w := if (w.port p).resuming then
      let m := w.frame + 1
      (w.updPort p (fun q => { q with readyAt := some m })).closeExcl p 6 m
    else w
  if w.confN (Obj.expAddr p) = 0 then w.nextTxn p
  else (w.updPort p (fun q => { q with expWait := true, exp := { q.exp with sending := some w.frame } })).nextTxn p

/-- PORT_DISCOVERY: an enabled port waits for its link, and once every lane is UP reads the bootstrap registers (R165). -/
def portDiscovery (p : PortNo) (w : Work) : Work :=
  if !w.portActive p || !w.mode.lanesPowered || 1 < w.getN (Obj.portState p) then w
  else
    let w := w.set (Obj.portState p) 1
    if !w.linkUp p || (w.port p).txn.isSome then w
    else (w.set (Obj.portState p) 2).startTxn p .identify false 0 19 []

def execPortDiscovery (p : PortNo) : State → Host.Outcome State Fault Refusal := onWork (portDiscovery p)

/-- Discovery returns to WAIT_LINK (R165). -/
def Work.discoveryFails (w : Work) (p : Nat) : Work :=
  (w.set (Obj.portState p) 1).updPort p (fun q => { q with txn := none })

/-- DISCOVERY_ACCESS_TIMEOUT: 200 ms without an answer (R165). -/
def discoveryAccessTimeout (p : PortNo) (w : Work) : Work :=
  if w.expired (.discovery p) 200000000 then (w.stopTimer (.discovery p)).discoveryFails p else w

def execDiscoveryAccessTimeout (p : PortNo) : State → Host.Outcome State Fault Refusal := onWork (discoveryAccessTimeout p)

/-- The outstanding transaction is acknowledged with words, or refused with a camera code. -/
def Work.answer (w : Work) (p : Nat) (x : Txn) (ok : Bool) (code : Nat) (ws : List Nat) (offer : Offer) : Work :=
  let w := (w.stopTimer (txnTimer p x.use)).updPort p (fun q => { q with txn := none })
  match x.use with
  | .identify => if ok then w.identified p offer else w.discoveryFails p
  | .configure => if ok then w.discovered p else w.discoveryFails p
  | .passRead =>
    let w := if ok then (w.setBlob (Obj.regData p) (wordsBytes (ws.take x.words))).set (Obj.regStatus p) 2
      else (w.set (Obj.regStatus p) 3).set (Obj.regResult p) code
    w.nextTxn p
  | .passWrite =>
    let w := if ok then w.set (Obj.regStatus p) 2 else (w.set (Obj.regStatus p) 3).set (Obj.regResult p) code
    w.nextTxn p
  | .expSet =>
    if !ok then (w.expFail p).nextTxn p
    else if w.confN (Obj.expGenAddr p) = 0 || w.portCxp p then
      (w.updPort p (fun q => { q with exp := { q.exp with resend := false, acked := w.expGenAt p (q.exp.sending.getD 0) } })).nextTxn p
    else w.startTxn p .expGen true (w.confN (Obj.expGenAddr p)) 1 [w.expGenAt p ((w.port p).exp.sending.getD 0) % 256]
  | .expGen =>
    if !ok then (w.expFail p).nextTxn p
    else (w.updPort p (fun q => { q with exp := { q.exp with resend := false, acked := w.expGenAt p (q.exp.sending.getD 0) } })).nextTxn p

/-- RSL_MESSAGE: a MESSAGE block and its data blocks from the camera; an acknowledgement or refusal that carries the transaction number of
the outstanding message completes it (R167, R168). -/
def rslMessage (p : PortNo) (block : Word64) (data : List Word64) (w : Work) : Work :=
  if !w.portLive p false then w
  else match (w.port p).txn with
    | none => w
    | some x =>
      let op := bitsOf block.toNat 8 8
      if bitsOf block.toNat 24 8 ≠ x.tag || (op ≠ 3 && op ≠ 4) then w
      else
        let ws := (blockWords data).take (bitsOf block.toNat 16 8 + 1)
        w.answer p x (op = 3) (bitsOf block.toNat 32 32) ws (offerOf ws)

def execRslMessage (p : PortNo) (block : Word64) (data : List Word64) : State → Host.Outcome State Fault Refusal :=
  onWork (rslMessage p block data)

/-- CXP_CONTROL_ACK: the acknowledgement of a tagged control command at CoaXPress rates: its tag, a camera code other than 0 for a refusal,
the words read, and what the bootstrap registers offer when discovery asked (R162, R165, R168). -/
def cxpControlAck (p : PortNo) (tag code : Nat) (words : List Nat) (tags pixels depths lanes : Nat) (model serial : Bytes)
    (w : Work) : Work :=
  if !w.portLive p true then w
  else match (w.port p).txn with
    | none => w
    | some x => if tag ≠ x.tag then w else w.answer p x (code = 0) code words ⟨lanes, unpad model, unpad serial, tags, pixels, depths⟩

def execCxpControlAck (p : PortNo) (tag code : Nat) (words : List Nat) (tags pixels depths lanes : Nat) (model serial : Bytes) :
    State → Host.Outcome State Fault Refusal := onWork (cxpControlAck p tag code words tags pixels depths lanes model serial)

/-! ### Pass-through (R168) -/

/-- The first address past the bootstrap registers the port manages: 0x1000 at RSL rates (R168); PRESUMED 0x6000 at CoaXPress rates, as the
CoaXPress standard lays its address space out (log entry 19). -/
def bootstrapEnd (cxp : Bool) : Nat := if cxp then 0x6000 else 0x1000

/-- The check of REG_CMD (R168): before discovery ends no camera is reachable. -/
def regCheck (p : Nat) (write : Bool) (w : Work) : Option Res :=
  if w.get (Obj.regStatus p) = 1 then some .busy
  else if !w.portActive p then some .mode
  else if write && decide (w.getN (Obj.regAddr p) < bootstrapEnd (w.portCxp p)) then some .inconsistent
  else none

/-- A pass-through command: REG_STATUS busy, and the access when its turn comes. -/
def Work.passThrough (w : Work) (p : Nat) (write : Bool) : Work :=
  ((w.set (Obj.regStatus p) 1).updPort p (fun q => { q with passWait := some write })).nextTxn p

/-- REG_READ: REG_CMD 1. -/
def regRead (path : Path) (p : PortNo) (w : Work) : Work :=
  w.command path (Obj.regCmd p) 1 (regCheck p false) (fun w => w.passThrough p false)

def execRegRead (path : Path) (p : PortNo) : State → Host.Outcome State Fault Refusal := onWork (regRead path p)

/-- REG_WRITE: REG_CMD 2. -/
def regWrite (path : Path) (p : PortNo) (w : Work) : Work :=
  w.command path (Obj.regCmd p) 2 (regCheck p true) (fun w => w.passThrough p true)

def execRegWrite (path : Path) (p : PortNo) : State → Host.Outcome State Fault Refusal := onWork (regWrite path p)

/-- REG_TIMEOUT: 200 ms without an answer (R168). -/
def regTimeout (p : PortNo) (w : Work) : Work :=
  if w.expired (.regCmd p) 200000000 then
    (((w.stopTimer (.regCmd p)).set (Obj.regStatus p) 4).updPort p (fun q => { q with txn := none })).nextTxn p
  else w

def execRegTimeout (p : PortNo) : State → Host.Outcome State Fault Refusal := onWork (regTimeout p)

/-! ### Service of one port (R169, R170) -/

/-- PORT_CMD 1 accepted: the port is out from frame p+1 (R169); it acts while the module inspects on an active port not suspended. -/
def Work.suspend (w : Work) (p : Nat) : Work :=
  if !w.mode.inspecting || !w.portActive p || (w.port p).suspended || (w.port p).suspendAt.isSome then w.set (Obj.portCmdState p) 3
  else
    let n := w.frame + 1
    let w := (w.set (Obj.portCmdState p) 2).updPort p (fun q => { q with suspendAt := some n })
    { w with loom := { w.loom with excl := ⟨p, 6, n, none⟩ :: w.loom.excl } }

/-- PORT_SUSPEND: PORT_CMD 1. -/
def portSuspend (path : Path) (p : PortNo) (w : Work) : Work :=
  w.writeNum path (Obj.portCmd p) (.num 1) noCheck (fun _ w => w.suspend p) (some (w.frame + 1))

def execPortSuspend (path : Path) (p : PortNo) : State → Host.Outcome State Fault Refusal := onWork (portSuspend path p)

/-- At a frame boundary: suspensions begin (R169), and exclusions that begin or end show in SENSOR_STATE. -/
def Work.suspendBoundary (w : Work) : Work :=
  (upTo 32).foldl (fun w p =>
    match (w.port p).suspendAt with
    | some n =>
      if n ≤ w.frame then
        ((w.set (Obj.portState p) 7).set (Obj.portCmdState p) 1).updPort p (fun q => { q with suspended := true, suspendAt := none })
      else w
    | none => w) w

/-- PORT_RESUME: the first frame boundary after the serviced port's discovery ended (R170). -/
def portResume (p : PortNo) (w : Work) : Work :=
  match (w.port p).readyAt with
  | some m =>
    if (w.port p).resuming && decide (m ≤ w.frame) then
      let w := w.updPort p (fun q => { q with suspended := false, resuming := false, readyAt := none })
      ((w.set (Obj.portState p) 5).set (Obj.portCmdState p) 1).setBlob (Obj.serviceImage p) []
    else w
  | none => w

def execPortResume (p : PortNo) : State → Host.Outcome State Fault Refusal := onWork (portResume p)

end Sys2Proof.Machine
end

