-- ==== Sys2Proof/Machine/Ring.lean ====
section
/-! DEFINITION. The history ring (R22, R27, R28, R397 to R399): the piece table, trigger rows, the directory, the depth D. -/
namespace Sys2Proof.Machine

/-- Bytes of a ring piece (R398). -/
def pieceBytes : Nat := 65536

/-- The ring share of a pseudo-channel in bytes (R397). -/
def Work.ringShare (w : Work) : Nat := w.confN Obj.ringSize * 2 ^ 30 / 64

/-- The ring bytes with so many pseudo-channels in the map (R397). -/
def Work.ringBytesWith (w : Work) (n : Nat) : Nat := n * w.ringShare

/-- The pseudo-channels the piece table still uses. -/
def Work.ringPcs (w : Work) : List Nat := w.hbm.ringMap.filter (fun n => !w.hbm.gone.contains n)

/-- D for so many ring bytes: rows rounded down to a multiple of 256 (R27). -/
def Work.depthOf (w : Work) (bytes : Nat) : Nat := if w.rowBytes = 0 then 0 else bytes / w.rowBytes / 256 * 256

/-- The pieces of the table made at the commit. -/
def Work.pieces (w : Work) : Nat := w.hbm.ringMap.length * (w.ringShare / pieceBytes)

/-- The pseudo-channel of piece j (R398). -/
def Work.piecePc (w : Work) (j : Nat) : Nat := nth 0 w.hbm.ringMap (j % w.hbm.ringMap.length)

/-- The first piece from j on, in table order, whose pseudo-channel is still there. -/
def Work.nextPiece (w : Work) : Nat → Nat → Nat
  | 0, j => j
  | n + 1, j => if w.hbm.gone.contains (w.piecePc (j % w.pieces)) then w.nextPiece n (j + 1) else j % w.pieces

/-- The bytes of a row from a piece and an offset on: the spans, and the position after them. -/
def Work.rowSpans (w : Work) : Nat → Nat → Nat → Nat → List (Nat × Nat × Nat) × Nat × Nat
  | 0, j, o, _ => ([], j, o)
  | n + 1, j, o, need =>
    if need = 0 then ([], j, o)
    else
      let j := w.nextPiece w.hbm.ringMap.length j
      let len := min need (pieceBytes - o)
      let full := o + len = pieceBytes
      let rest := w.rowSpans n (if full then j + 1 else j) (if full then 0 else o + len) (need - len)
      ((j, o, len) :: rest.1, rest.2)

/-- Whether two spans share a byte. -/
def spansMeet (a b : Nat × Nat × Nat) : Bool :=
  a.1 == b.1 && decide (a.2.1 < b.2.1 + b.2.2) && decide (b.2.1 < a.2.1 + a.2.2)

/-- Start trigger row k: it overwrites the rows that hold any of its bytes (R399). -/
def Work.newRow (w : Work) (k : Nat) : Work :=
  if w.hbm.ringMap.isEmpty then w
  else
    let r := w.rowSpans w.pieces w.hbm.piece w.hbm.offset w.rowBytes
    let keep := w.hbm.rows.filter (fun row => !row.spans.any (fun a => r.1.any (spansMeet a)))
    { w with hbm := { w.hbm with rows := ⟨k, r.1, [], w.clk.ctl⟩ :: keep, piece := r.2.1, offset := r.2.2 } }

/-- Start every row up to trigger k: rows follow one another without a gap (R398). -/
def Work.rowsTo (w : Work) (k : Nat) : Work :=
  match w.hbm.rows with
  | [] => w.newRow k
  | r :: _ => (upTo (k - r.k)).foldl (fun w i => w.newRow (r.k + 1 + i)) w

/-- A request reaches pseudo-channels: it ends their power-down (R405). -/
def Work.hbmUse (w : Work) (pcs : List Nat) : Work :=
  let w := { w with hbm := { w.hbm with lastUse := w.hbm.lastUse.zipIdx.map (fun x => if pcs.contains x.2 then w.clk.ctl else x.1) } }
  pcs.foldl (fun w n => if w.get (Obj.pcState n) = 1 then w.set (Obj.pcState n) 0 else w) w

/-- The pseudo-channels a row lies on. -/
def Work.rowPcs (w : Work) (r : Row) : List Nat := (r.spans.map (fun a => w.piecePc a.1)).eraseDups

/-- Write a packed line into its trigger row (R22, R398); a line whose row is no longer held, or whose place was lost with a pseudo-channel, is
not kept. -/
def Work.ringWrite (w : Work) (q : Packed) : Work :=
  let w := w.rowsTo q.k
  let w := match w.hbm.rows.find? (fun r => r.k == q.k) with
    | some r => w.hbmUse (w.rowPcs r)
    | none => w
  if w.hbm.lostLines.any (fun e => e.1 == q.k && e.2.1 == q.sensor) then w else
  { w with hbm := { w.hbm with rows := w.hbm.rows.map (fun r => if r.k = q.k then { r with lines := r.lines ++ [q], pubAt := w.clk.ctl } else r) } }

/-- A line of a sensor and field in the ring. -/
def Work.ringLine (w : Work) (s f line : Nat) : Option Packed :=
  (w.hbm.rows.find? (fun r => r.k == w.rowOf s line)).bind
    (fun r => r.lines.find? (fun q => q.sensor == s && q.desc.field == f && q.desc.line == line))

/-- Empty the ring and make the piece table of the pseudo-channels in the map (R398). -/
def Work.ringEmpty (w : Work) (map : List Nat) : Work :=
  { w with hbm := { w.hbm with ringMap := map, gone := [], piece := 0, offset := 0, rows := [], lostLines := [] } }

end Sys2Proof.Machine
end

