-- ==== Sys2Proof/Machine/Fuller.lean ====
section
/-! DEFINITION. Line correction (chapter 07, R171 to R192): the Fuller stages, the raw tap of calibration (R201), the statistics tap
(R301 to R303), publication in the ring, and the swap of correction settings. -/
namespace Sys2Proof.Machine

/-! ### The set, tables and settings that correct a line (R186 to R189) -/

/-- Calibration of port p. -/
def Work.calOf (w : Work) (p : Nat) : PortCal := nth {} w.cal p

/-- Change the calibration of port p. -/
def Work.updCal (w : Work) (p : Nat) (f : PortCal → PortCal) : Work := { w with cal := upd w.cal p f }

/-- The identity set (R188). -/
def identitySet : CalSet := {}

/-- The set that governs frame n on port p (R186, R19). -/
def Work.setAt (w : Work) (p n : Nat) : CalSet :=
  match (w.calOf p).sets.find? (fun e => decide (e.1 ≤ n)) with
  | some e => e.2
  | none => identitySet

/-- The place of the word of a tag, field and pixel in a set (R175). -/
def CalSet.wordAt (c : CalSet) (t f i : Nat) : Nat :=
  sumNat ((c.tagPixels.take t).map (· * c.fieldCount)) + f * nth 0 c.tagPixels t + i

/-- OFFSET and GAIN of a pixel: the identity word where the set has none. -/
def CalSet.coef (c : CalSet) (t f i : Nat) : Int × Nat :=
  match c.words[c.wordAt t f i]? with
  | some x => (signed 16 (x % 65536), x / 65536)
  | none => (0, 0x4000)

/-- The map entries of a tag: pixel and ACTION (R178). -/
def CalSet.mapOf (c : CalSet) (t : Nat) : List (Nat × Nat) :=
  (c.map.filter (fun e => bitsOf e 16 3 == t)).map (fun e => (e % 32768, bitsOf e 30 2))

/-! ### The stages -/

/-- Stage 1 (R172). -/
def align (b x : Nat) : Nat := x * 2 ^ (16 - b)

/-- Stage 3 before the clamp (R174, R189). -/
def gainOf (bypass : Nat) (y1 : Int) (gain dgain : Nat) : Int :=
  if bitOf bypass 1 then y1 else (y1 * gain * dgain + 2 ^ 25) / 2 ^ 26

/-- The nearest good pixel on a side, within 4 pixels (R179). -/
def nearest (good : Nat → Bool) (i : Nat) (left : Bool) : Option Nat :=
  ((upTo 4).map (fun d => if left then (if d + 1 ≤ i then some (i - 1 - d) else none) else some (i + 1 + d))).findSome?
    (fun j => match j with
      | some j => if good j then some j else none
      | none => none)

/-- Stage 4 on a listed pixel: the repaired value, or none when the pixel is dead (R179). -/
def repairOf (y2 : Nat → Nat) (good : Nat → Bool) (i action : Nat) : Option Nat :=
  let l := nearest good i true
  let r := nearest good i false
  match action with
  | 0 => (match l with
    | some j => some (y2 j)
    | none => r.map y2)
  | 1 => (match r with
    | some j => some (y2 j)
    | none => l.map y2)
  | 2 => (match l, r with
    | some a, some b => some ((y2 a + y2 b + 1) / 2)
    | some a, none => some (y2 a)
    | none, some b => some (y2 b)
    | none, none => none)
  | _ => none

/-- A dead pixel carries the y2 of pixel i − 1, or i + 1 when i is 0, and FILL when that lies at or beyond VALID_PIXELS (R179). -/
def deadValue (y2 : Nat → Nat) (valid fillX i : Nat) : Nat :=
  let j := if i = 0 then 1 else i - 1
  if j < valid then y2 j else fillX

/-- Entry s of a response table image, the identity table when nothing was written (R181, R182). -/
def lutEntry (img : Bytes) (s : Nat) : Nat := if img.isEmpty then min (64 * s) 65535 else leAt img (4 + 2 * s) 2

/-- Stage 6 (R181). -/
def linearise (img : Bytes) (y3 : Nat) : Nat :=
  let s := y3 / 64
  let u := y3 - 64 * s
  let a : Int := lutEntry img s
  let b : Int := lutEntry img (s + 1)
  (clampInt 0 65535 (a + ((b - a) * u + 32) / 64)).toNat

/-- Stage 7 (R183). -/
def packValue (bits y4 : Nat) : Nat :=
  match bits with
  | 8 => min ((y4 + 128) / 256) 255
  | 12 => min ((y4 + 8) / 16) 4095
  | _ => y4

/-- The code of OUT_DEPTH in the correction tag (R185). -/
def outDepthCode (bits : Nat) : Nat := if bits = 8 then 0 else if bits = 12 then 1 else 2

/-- Packed pixels as a little-endian bit string (R183). -/
def packLine (bits : Nat) (ys : List Nat) : Bytes :=
  leBytes (ys.length * bits / 8) (ys.foldr (fun y acc => packValue bits y + 2 ^ bits * acc) 0)

/-- The unpacked working-unit value of pixel i of packed data (R224). -/
def unpackAt (bits : Nat) (data : Bytes) (i : Nat) : Nat :=
  bitsOf (leAt data (i * bits / 8) 3) (i * bits % 8) bits * 2 ^ (16 - bits)

/-- What the stages make of a line: y4 of its valid pixels, the dead pixels, and the number clamped at 65,535. -/
structure Corrected where
  ys    : List Nat
  dead  : List Nat
  clips : Nat

/-- Stages 1 to 6 on the valid pixels of a line (R171 to R182): the set, the field's DGAIN, the bypass bits, the table image if one is
selected, the pixels with an uncorrectable store word, and open values for what such a word reads. -/
def correctLine (c : CalSet) (t f b dgain bypass : Nat) (lut : Option Bytes) (badPx : List Nat) (openValue : Nat → Nat) (fillX : Nat)
    (px : List Nat) : Corrected :=
  let valid := px.length
  let y1 := fun i =>
    let x : Int := align b (nth 0 px i)
    if bitOf bypass 0 then x else x - (c.coef t f i).1
  let raw := fun i => gainOf bypass (y1 i) (c.coef t f i).2 dgain
  let y2s := (upTo valid).map (fun i => if badPx.contains i then openValue i % 65536 else (clampInt 0 65535 (raw i)).toNat)
  let y2 := fun i => nth 0 y2s i
  let map := (c.mapOf t).filter (fun e => decide (e.1 < valid))
  let listed := map.map (fun e => e.1)
  let good := fun i => decide (i < valid) && !listed.contains i && !badPx.contains i
  let fixed : List (Nat × Option Nat) := (upTo valid).map (fun i =>
    if badPx.contains i then (deadValue y2 valid fillX i, some i)
    else if bitOf bypass 2 then (y2 i, none)
    else match map.find? (fun e => e.1 == i) with
      | none => (y2 i, none)
      | some e => match repairOf y2 good i e.2 with
        | some v => (v, none)
        | none => (deadValue y2 valid fillX i, some i))
  let lin := fun y => match lut with
    | some img => if bitOf bypass 3 then y else linearise img y
    | none => y
  ⟨fixed.map (fun e => lin e.1), fixed.filterMap (fun e => e.2),
    ((upTo valid).filter (fun i => !badPx.contains i && decide (65535 < raw i))).length⟩

/-! ### The raw tap (R171, R201) -/

/-- The states of PCAL_STATE (R197). -/
def pcIdle : Nat := 0
def pcWaitRef : Nat := 1
def pcSettle : Nat := 2
def pcAccum : Nat := 3
def pcCompute : Nat := 4
def pcWaitRemoval : Nat := 5
def pcReturn : Nat := 6

/-- Fields whose lines a calibration sums: FIELD_COUNT, 1 in FIELD_MODE 0. -/
def Work.calFields (w : Work) (p : Nat) : Nat := if w.fieldModeOf p = 0 then 1 else w.fieldsOf p

/-- Whether N lines of a tag and field are summed. -/
def Work.accFull (w : Work) (p t f : Nat) : Bool := decide (2 ^ w.getN (Obj.accLines p) ≤ nth 0 (w.calOf p).acc.lines (t * 8 + f))

/-- Add a list into another from a place on. -/
def addAt (xs : List Nat) (start : Nat) (ys : List Nat) : List Nat :=
  xs.take start ++ List.zipWith (· + ·) (slice' xs start ys.length) ys ++ xs.drop (start + ys.length)
where
  slice' (xs : List Nat) (a n : Nat) : List Nat := (xs.drop a).take n

/-- Empty sums for a port. -/
def Work.emptySums (w : Work) (p : Nat) : Sums :=
  let n := sumNat ((w.tagsOf p).map (w.tagPx p)) * w.fieldsOf p
  ⟨List.replicate 64 0, List.replicate n 0, List.replicate n 0⟩

/-- A calibration ends without a result (R198, R201): the code, and WORK_STATE failed; a geometry calibration shows it in GEOM_RESULT. -/
def Work.calFail (w : Work) (p code : Nat) : Work :=
  let w := w.set (Obj.calResult p) code
  let w := if (w.calOf p).kind = 3 then w.set Obj.geomResult code else w.set (Obj.workState p) 4
  w.updCal p (fun c => { c with failed := true })

/-- The raw tap: a line is summed when its STATE is 0 or 2 and its exposure generation is that of the stop's first; a change of generation
restarts the stop's sums, and the third restart fails with code 15 (R201). -/
def Work.rawTap (w : Work) (p : Nat) (r : RxLine) : Work :=
  let c := w.calOf p
  if w.get (Obj.pcalState p) ≠ 3 || !c.ready || 2 < c.kind || c.failed then w
  else if r.state ≠ 0 && r.state ≠ 2 then w.bump (Obj.skippedLines p)
  else
    let changed := match c.gen with
      | some g => decide (g ≠ r.gen)
      | none => false
    let w := if changed then
        let w := w.updCal p (fun c => { c with acc := w.emptySums p, restarts := c.restarts + 1 })
        if 3 ≤ c.restarts + 1 then w.calFail p 15 else w
      else w
    if w.accFull p r.tag r.field || (w.calOf p).failed then w
    else
      let b := w.confN (Obj.portDepth p)
      let shape : CalSet := { fieldCount := w.fieldsOf p, tagPixels := (upTo 8).map (w.tagPx p) }
      let at0 := shape.wordAt r.tag r.field 0
      w.updCal p (fun c => { c with
        gen := some r.gen
        acc := ⟨upd c.acc.lines (r.tag * 8 + r.field) (· + 1), addAt c.acc.sums at0 (r.pixels.map (align b)),
          addAt c.acc.full at0 (r.pixels.map (fun x => if x = 2 ^ b - 1 then 1 else 0))⟩ })

/-! ### The statistics tap (R301 to R303) -/

/-- The statistics of a port and field. -/
def Work.statOf (w : Work) (p f : Nat) : StatAcc := nth {} w.stats (8 * p + f)

/-- Change the statistics of a port and field. -/
def Work.updStat (w : Work) (p f : Nat) (g : StatAcc → StatAcc) : Work := { w with stats := upd w.stats (8 * p + f) g }

/-- First pixel, last pixel, clamped or not, and W for a frame (R303). -/
def Work.statRange (w : Work) (p f n : Nat) : Nat × Nat × Bool × Nat :=
  let t := if w.fieldModeOf p = 2 then f else w.confN (Obj.statTag p)
  let a := w.valueAtN (Obj.statFirstPixel p) n
  let e0 := w.valueAtN (Obj.statLastPixel p) n
  let clamped := decide (w.tagPx p t ≤ e0)
  let e := if clamped then w.tagPx p t - 1 else e0
  (a, e, clamped, e + 1 - a)

/-- Add the counted pixels of a line to a bank. -/
def StatBank.add (k : StatBank) (first width : Nat) (pxs : List (Nat × Nat)) (echo : Bool) (gen : Nat) (setting : List Nat) : StatBank :=
  let bump := fun (xs : List Nat) (i by_ : Nat) => upd xs i (fun v => min (v + by_) 0xFFFFFFFF)
  let zone := fun i => (upTo 64).find? (fun z => decide (first + z * width / 64 ≤ i) && decide (i < first + (z + 1) * width / 64))
  let k := pxs.foldl (fun k e =>
    let k := { k with bins := bump k.bins (e.2 / 64) 1, pixels := k.pixels + 1, satur := k.satur + (if e.2 = 65535 then 1 else 0) }
    match zone e.1 with
    | some z => { k with counts := bump k.counts z 1, zoneSums := upd k.zoneSums z (· + e.2) }
    | none => k) k
  let k := { k with echo := k.echo + (if echo then 1 else 0) }
  if pxs.isEmpty then k
  else { k with lines := k.lines + 1, corrGen := gen, setting := some setting,
                changed := k.changed || (match k.setting with
                  | some s => s ≠ setting
                  | none => false) }

/-- The statistics tap of one line: the frame's bank is opened by its first line of the field, whether or not it is counted (R301). -/
def Work.statTap (w : Work) (p : Nat) (r : RxLine) (line : Nat) (ys : List Nat) (dead : List Nat) (gen : Nat) (setting : List Nat) : Work :=
  if w.confN (Obj.statEnable p) = 0 || (w.fieldModeOf p ≠ 2 && r.tag ≠ w.confN (Obj.statTag p)) then w
  else
    let n := w.frameOf line
    let rg := w.statRange p r.field n
    let counted := (r.state = 0 || r.state = 2) && rg.2.2.2 ≠ 0
    let pxs := if counted then
        ((upTo ys.length).filter (fun i => decide (rg.1 ≤ i) && decide (i ≤ rg.2.1) && !dead.contains i)).map (fun i => (i, nth 0 ys i))
      else []
    w.updStat p r.field (fun s =>
      let s := if s.banks.any (fun k => k.frame == n) then s else { s with banks := s.banks ++ [{ frame := n }] }
      { s with banks := s.banks.map (fun k => if k.frame = n then k.add rg.1 rg.2.2.2 pxs r.echoDiff gen setting else k) })

/-! ### A line through the pipe -/

/-- The response table a tag and field selects for frame n, none when bypassed (R181). -/
def Work.lutOf (w : Work) (p t f n : Nat) : Nat × Option Bytes :=
  let sel := w.valueAtN (Obj.lutSel p (8 * t + f)) n
  if 64 ≤ sel then (0xFF, none) else (sel, some (w.blobAt (Obj.lutTable (64 * dieOfPort p + sel)) n))

/-- The bytes waiting in a die's output buffer (R191). -/
def Work.outFill (w : Work) (d : Nat) : Nat := sumNat ((nth {} w.fuller d).outq.map (fun q => q.data.length))

/-- Put a packed line into the die's output buffer. -/
def Work.outPush (w : Work) (p : Nat) (q : Packed) (pixels : Nat) : Work :=
  let d := dieOfPort p
  let w := { w with fuller := upd w.fuller d (fun x => { x with outq := x.outq ++ [q], slots := x.slots + pixels }) }
  w.peak (Obj.outBufPeak d) (ceilDiv (w.outFill d) 1024)

/-- The line corrected by every stage. -/
def Work.fullLine (w : Work) (p : Nat) (r : RxLine) (line : Nat) (corrected : Nat) (badWords : List Nat) : Work :=
  let n := w.frameOf line
  let t := r.tag
  let f := r.field
  let b := w.confN (Obj.portDepth p)
  let bits := w.packBitsOf p
  let set := w.setAt p n
  let bypass := w.valueAtN (Obj.corrBypass p) n
  let dgain := w.valueAtN (Obj.dgain p f) n
  let lut := w.lutOf p t f n
  let w := w.updCal p (fun c => { c with badWords := c.badWords ++ badWords.filter (fun x => !c.badWords.contains x) })
  let touched := (w.calOf p).badWords.filter (fun x =>
    decide (set.wordAt t f 0 ≤ 2 * x) && decide (2 * x < set.wordAt t f 0 + r.valid) && !set.words.isEmpty)
  let badPx := (touched.map (fun x => [2 * x - set.wordAt t f 0, 2 * x + 1 - set.wordAt t f 0])).flatten
  let w := (w.bump (Obj.storeCorr p) corrected).bump (Obj.storeUncorr p) touched.length
  let base := w.freeCount
  let w := if badPx.isEmpty then w else { w with freeCount := w.freeCount + r.valid }
  let fillX := align b (w.valueAtN (Obj.fill p) n)
  let c := correctLine set t f b dgain bypass lut.2 badPx (fun i => Config.freeValue (base + i)) fillX r.pixels
  let w := w.bump (Obj.clipHigh p) c.clips
  let w := w.statTap p r line c.ys c.dead set.gen [set.gen, dgain, lut.1, bypass]
  let desc : LineDesc :=
    { line := line, valid := r.valid, gen := r.gen % 65536, port := p, tag := t, field := f, state := r.state, repeatOf := 0,
      corrGen := set.gen, lut := lut.1, bypass := bypass, outDepth := outDepthCode bits, storeErr := !touched.isEmpty,
      uncal := !set.flat || bypass ≠ 0, dead := !c.dead.isEmpty, clipped := c.clips ≠ 0 }
  let ys := c.ys ++ List.replicate (w.tagPx p t - c.ys.length) fillX
  w.outPush p ⟨r.k, w.sensorOf p t, desc, packLine bits ys, c.dead⟩ (w.tagPx p t)

/-- A line in STATE 3 to 7: copied from the packed line it names, or FILL through stage 1 alone (R184). -/
def Work.heldLine (w : Work) (p : Nat) (r : RxLine) (line : Nat) : Work :=
  let s := w.sensorOf p r.tag
  let bits := w.packBitsOf p
  let n := w.frameOf line
  let w := w.statTap p r line [] [] 0 []
  let d0 : LineDesc :=
    { line := line, valid := 0, gen := r.gen % 65536, port := p, tag := r.tag, field := r.field, state := r.state, repeatOf := r.repeatOf,
      outDepth := outDepthCode bits }
  let src := if r.repeatOf = 0 then none
    else match w.ringLine s r.field (line - r.repeatOf) with
      | some q => some q
      | none => (nth {} w.fuller (dieOfPort p)).outq.find?
          (fun q => q.sensor == s && q.desc.field == r.field && q.desc.line == line - r.repeatOf)
  match src with
  | some q =>
    let d := { d0 with corrGen := q.desc.corrGen, lut := q.desc.lut, bypass := q.desc.bypass, storeErr := q.desc.storeErr,
                       uncal := q.desc.uncal, dead := q.desc.dead, clipped := q.desc.clipped, copied := true }
    w.outPush p ⟨r.k, s, d, q.data, q.dead⟩ 0
  | none =>
    let fillX := align (w.confN (Obj.portDepth p)) (w.valueAtN (Obj.fill p) n)
    w.outPush p ⟨r.k, s, { d0 with repeatOf := 0 }, packLine bits (List.replicate (w.tagPx p r.tag) fillX), []⟩ (w.tagPx p r.tag)

/-- FULLER_LINE: the line at the head of a port's FIFO passes the pipe, with the single-bit store errors met and the store words newly found
uncorrectable (R177). A line that bears no web line goes as far as the raw tap (R195). A full output buffer stalls the pipe for a clock
(R191). -/
def fullerLine (p : PortNo) (corrected : Nat) (badWords : List Nat) (w : Work) : Work :=
  match (w.port p).rx with
  | [] => w
  | r :: rest =>
    let d := dieOfPort p
    if 262144 < w.outFill d + w.lineBytes p r.tag then w.bump (Obj.dieStallClocks d)
    else
      let w := (w.updPort p (fun q => { q with rx := rest })).rawTap p r
      match r.line with
      | none => w
      | some l => if 3 ≤ r.state then w.heldLine p r l else w.fullLine p r l corrected badWords

def execFullerLine (p : PortNo) (corrected : Nat) (badWords : List Nat) : State → Host.Outcome State Fault Refusal :=
  onWork (fullerLine p corrected badWords)

/-- LINE_PUBLISHED: the oldest line of a die's output buffer stands in the ring with its descriptor (R192). -/
def linePublished (d : Fin 4) (w : Work) : Work :=
  match (nth {} w.fuller d.val).outq with
  | [] => w
  | q :: rest =>
    let p := q.desc.port
    let w := { w with fuller := upd w.fuller d.val (fun x => { x with outq := rest }) }
    let w := (w.ringWrite q).set (Obj.lastWebLine p) q.desc.line
    if q.desc.state = 0 || q.desc.state = 2 then w.bump (Obj.linesOk p) else w

def execLinePublished (d : Fin 4) : State → Host.Outcome State Fault Refusal := onWork (linePublished d)

/-- At a frame boundary PIPE_LOAD takes the filled pixel slots of the last frame in 1/65,536 of the capacity of 32 a pixel clock. -/
def Work.pipeBoundary (w : Work) : Work :=
  (upTo 4).foldl (fun w d =>
    let x := nth {} w.fuller d
    let clocks := (w.clk.ctl - x.slotsAt) * 5 / 2
    let w := w.set (Obj.pipeLoad d) (if clocks = 0 then 0 else min 65535 (x.slots * 65536 / (32 * clocks)))
    { w with fuller := upd w.fuller d (fun x => { x with slots := 0, slotsAt := w.clk.ctl }) }) w

/-! ### Swaps (R186, R187) -/

/-- The flags of a set as its header's bits 399 to 384 hold them (R212). -/
def CalSet.flags (c : CalSet) (committed : Bool) : Nat :=
  (if c.dark then 1 else 0) + (if c.flat then 2 else 0) + (if c.map.isEmpty then 0 else 4) + (if committed then 8 else 0) +
    (if c.imported then 16 else 0)

/-- Dead pixels of a map, all tags: those of ACTION 3, and those with no good pixel within 4 on either side, on a line of full width
(R179). -/
def Work.deadInMap (w : Work) (p : Nat) (c : CalSet) : Nat :=
  sumNat ((w.tagsOf p).map (fun t =>
    let m := c.mapOf t
    let good := fun i => decide (i < w.tagPx p t) && !(m.any (fun e => e.1 == i))
    (m.filter (fun e => (repairOf id good e.1 e.2).isNone)).length))

/-- Show the set that governs frame n as the one in force. -/
def Work.showSet (w : Work) (p n : Nat) : Work :=
  let c := w.setAt p n
  let w := (w.set (Obj.activeGen p) c.gen).set (Obj.deadPixels p) (w.deadInMap p c)
  w.set (Obj.activeFlags p) (if c.gen = 0 then 0 else c.flags true)

/-- STORE_USED of a die: the words of its ports' sets in force. -/
def Work.storeUse (w : Work) (d : Nat) : Work :=
  w.set (Obj.storeUsed d) (sumNat ((upTo 8).map (fun i => (w.setAt (8 * d + i) w.frame).words.length)))

/-- Whether lines of an earlier frame than n can still come to port p's stage 1 (R187). -/
def Work.lateLines (w : Work) (p n : Nat) : Bool :=
  let early := fun (l : Option Nat) => match l with
    | some l => decide (w.frameOf l < n)
    | none => false
  w.portActive p && ((w.port p).rx.any (fun r => early r.line) || (w.port p).waiting.any (fun gs => gs.any (fun g => early g.line)) ||
    ((w.mode.triggers || w.run.draining) && (w.portSensors p).any (fun s => decide (w.axis.last.getD 0 + 1 < n * w.frameLen + w.staggerOf s))))

/-- Whether a load would overwrite a bank still needed for lines of an earlier frame (R187): two sets are held, the newer one is in force,
and lines older than its first frame can still come. -/
def Work.bankBusy (w : Work) (p : Nat) : Bool :=
  match (w.calOf p).sets with
  | (n, _) :: _ :: _ => decide (n ≤ w.frame) && w.lateLines p n
  | _ => false

/-- Load a set that governs from frame n on, or from the next line when n is 0: it replaces a set still pending (R186, R187). -/
def Work.loadSet (w : Work) (p n : Nat) (c : CalSet) : Work :=
  if n = 0 then
    let w := w.updCal p (fun q => { q with sets := [(0, c)], badWords := [] })
    let w := (w.showSet p w.frame).storeUse (dieOfPort p)
    (w.set (Obj.pendingGen p) c.gen).set (Obj.switchFrame p) noFrame
  else
    let w := w.updCal p (fun q =>
      let kept := (q.sets.filter (fun e => decide (e.1 ≤ w.frame))).take 1
      { q with sets := (n, c) :: kept })
    (w.set (Obj.pendingGen p) c.gen).set (Obj.switchFrame p) n

/-- CORR_SWAP: the pending generation of a port is in force from its frame on (R186); a table, DGAIN, LUT_SEL or bypass change governs by its
own frame. -/
def corrSwap (p : PortNo) (w : Work) : Work :=
  let n := w.getN (Obj.switchFrame p)
  if n = noFrame || w.frame < n then w
  else
    let w := w.updCal p (fun c => { c with badWords := [] })
    (((w.showSet p w.frame).set (Obj.pendingGen p) (w.setAt p w.frame).gen).set (Obj.switchFrame p) noFrame).storeUse (dieOfPort p)

def execCorrSwap (p : PortNo) : State → Host.Outcome State Fault Refusal := onWork (corrSwap p)

/-- The format check of a response table image (R182). -/
def lutCheck (_ : Work) (b : Bytes) : Option Res :=
  if leAt b 0 4 ≠ 0x54554C46 || leAt b 2054 4 ≠ crc32 (b.take 2054) then some .format else none

/-- LUT_TABLE_WRITE: a download of table n of die d (R182, R186). -/
def lutTableWrite (path : Path) (d : Fin 4) (n : Fin 64) (b : Bytes) (w : Work) : Work :=
  w.writeBlob path (Obj.lutTable (64 * d + n)) b lutCheck (fun _ w => w)

def execLutTableWrite (path : Path) (d : Fin 4) (n : Fin 64) (b : Bytes) : State → Host.Outcome State Fault Refusal :=
  onWork (lutTableWrite path d n b)

end Sys2Proof.Machine
end

