-- ==== Sys2Proof/Machine/Geometry.lean ====
section
/-! DEFINITION. Geometry (R216 to R220): records, the position of a pixel in columns and its inversion, the columns a sensor covers, the
plane and its seams, and the checks that can refuse them. -/
namespace Sys2Proof.Machine

/-! ### Records (R217) -/

/-- A geometry record from its 512 bits. -/
def geoOf (r : Nat) : Geo :=
  { port := bitsOf r 24 8, tag := bitsOf r 16 3, first := bitsOf r 96 16, last := bitsOf r 112 16, stagger := bitsOf r 64 32,
    frac := bitsOf r 56 8, degree := bitsOf r 48 4, descend := bitOf r 40,
    coef := (upTo 6).map (fun i => signed 64 (bitsOf r (64 * i + 128) 64)) }

/-- The sensor number a record names (R216). -/
def Geo.sensor (g : Geo) : Nat := 8 * g.port + g.tag

/-- A record breaks R217 by itself. -/
def recFails (r : Nat) : Bool :=
  let g := geoOf r
  r % 65536 ≠ 0x4752 || g.degree = 0 || 5 < g.degree || (upTo 6).any (fun i => decide (g.degree < i) && nth 0 g.coef i ≠ 0) ||
    g.last < g.first + 15 || 32767 < g.last || 31 < g.port || bitsOf r 19 5 ≠ 0 || bitsOf r 32 8 ≠ 0 || bitsOf r 41 7 ≠ 0 || bitsOf r 52 4 ≠ 0

/-- The ports of records out of strictly rising sensor order. -/
def orderFaults : List Geo → List Nat
  | a :: b :: rest => (if b.sensor ≤ a.sensor then [min a.port b.port] else []) ++ orderFaults (b :: rest)
  | _ => []

/-! ### Columns (R218, R219) -/

/-- The polynomial's numerator at y/128 pixel, over `colDen`. -/
def Geo.colNum (g : Geo) (y : Int) : Int :=
  let n : Int := 2 * y - 128 * (g.first + g.last)
  let d : Int := 128 * (g.last - g.first)
  (upTo 6).foldl (fun acc i => acc + nth 0 g.coef i * n ^ i * d ^ (5 - i)) 0

/-- The denominator. -/
def Geo.colDen (g : Geo) : Int := (128 * ((g.last : Int) - g.first)) ^ 5 * 2 ^ 32

/-- Whether 64·x(c) + 1/2 is at least m: the rounded position of column c is m or more (R218, ties away from zero). -/
def Geo.atLeast (g : Geo) (c m : Int) : Bool :=
  let lhs := g.colNum (2 * m - 1)
  if g.descend then decide (c * g.colDen ≤ lhs) else decide (lhs ≤ c * g.colDen)

/-- Bisect for the greatest m that holds between a value that does and one that need not. -/
def bisect (p : Int → Bool) : Nat → Int → Int → Int
  | 0, lo, _ => lo
  | n + 1, lo, hi =>
    if hi ≤ lo + 1 then lo
    else let mid := (lo + hi) / 2
         if p mid then bisect p n mid hi else bisect p n lo mid

/-- x(c) of a column inside the used range, in 1/64 pixel. -/
def Geo.x64 (g : Geo) (c : Int) : Int := bisect (g.atLeast c) 24 (64 * g.first - 1) (64 * g.last + 1)

/-- FIRST_COLUMN and LAST_COLUMN before the plane's limits (R219): every kernel tap lies inside the used range. -/
def Geo.span (g : Geo) : Int × Int :=
  let lowY : Int := 2 * (64 * (g.first + 1)) - 1
  let highY : Int := 2 * (64 * ((g.last : Int) - 1)) - 1
  let floorCol := fun y => g.colNum y / g.colDen
  let ceilCol := fun y => -((-(g.colNum y)) / g.colDen)
  if g.descend then (floorCol highY + 1, floorCol lowY) else (ceilCol lowY, ceilCol highY - 1)

/-- The slope at a pixel lies within 0.5 to 1.5 columns per pixel, negative when descending (R220 item 2). -/
def Geo.slopeOk (g : Geo) (x : Nat) : Bool :=
  let n : Int := 2 * x - (g.first + g.last)
  let d : Int := (g.last : Int) - g.first
  let s := (upTo 5).foldl (fun acc j => acc + ((j + 1 : Nat) : Int) * nth 0 g.coef (j + 1) * n ^ j * d ^ (4 - j)) 0
  let s := if g.descend then -s else s
  let full := d ^ 5 * 2 ^ 32
  decide (full ≤ 4 * s) && decide (4 * s ≤ 3 * full)

/-- Insert a sensor by rising FIRST_COLUMN. -/
def insertSensor (x : Sensor) : List Sensor → List Sensor
  | [] => [x]
  | y :: ys => if x.c0 ≤ y.c0 then x :: y :: ys else y :: insertSensor x ys

/-- The least of a list. -/
def leastOf : List Nat → Option Nat
  | [] => none
  | x :: xs => some (xs.foldl min x)

/-! ### Seams (R220, R227, R238) -/

/-- Seam j: its left and right sensors. -/
def Work.seam (w : Work) (j : Nat) : Option (Sensor × Sensor) :=
  match w.loom.sensors[j]?, w.loom.sensors[j + 1]? with
  | some a, some b => some (a, b)
  | _, _ => none

/-- The width of an overlap, 0 when empty. -/
def overlapWidth (a b : Sensor) : Nat := a.c1 + 1 - b.c0

/-- The greatest power of two up to n that is at most 64, at least 2 (R238). -/
def defaultBlend (n : Nat) : Nat :=
  if 64 ≤ n then 64 else if 32 ≤ n then 32 else if 16 ≤ n then 16 else if 8 ≤ n then 8 else if 4 ≤ n then 4 else 2

/-- The cut column of a seam for a shift (R227). -/
def cutOf (a b : Sensor) (shift : Int) : Int := if overlapWidth a b = 0 then b.c0 else ((b.c0 : Int) + a.c1 + 1) / 2 + shift

/-- The checks of a seam write against the overlap (R238): the cut inside the overlap and the blend zone inside it in mode 1. -/
def seamFits (a b : Sensor) (mode : Int) (shift blend : Int) : Bool :=
  if overlapWidth a b = 0 then shift = 0 && mode = 0
  else
    let cut := cutOf a b shift
    decide ((b.c0 : Int) ≤ cut) && decide (cut ≤ a.c1) &&
      (mode = 0 || (decide ((b.c0 : Int) ≤ cut - blend / 2) && decide (cut + blend / 2 - 1 ≤ a.c1)))

/-- The owner's check of a write to a seam object: 1 SEAM_MODE, 2 SEAM_CUT_SHIFT, 3 SEAM_BLEND (R238). -/
def seamCheck (j which : Nat) (w : Work) (v : Int) : Option Res :=
  match w.seam j with
  | none => some .inconsistent
  | some (a, b) =>
    let mode := if which = 1 then v else w.get (Obj.seamMode j)
    let shift := if which = 2 then v else w.get (Obj.seamCutShift j)
    let blend := if which = 3 then v else w.get (Obj.seamBlend j)
    if overlapWidth a b < 2 && which = 3 then none
    else if seamFits a b mode shift blend then none else some .inconsistent

/-- Show the seam's cut in force at the present frame. -/
def Work.showCuts (w : Work) : Work :=
  (upTo (w.loom.sensors.length - 1)).foldl (fun w j =>
    match w.seam j with
    | some (a, b) => w.set (Obj.seamCut j) (cutOf a b (w.valueAt (Obj.seamCutShift j) w.frame))
    | none => w) w

/-- Seam objects after a commit that changes the plane (R238): defaults, and the read-only objects of each seam. -/
def Work.seamsToDefault (w : Work) : Work :=
  let keys := ((upTo 255).map (fun j => [Obj.seamMode j, Obj.seamCutShift j, Obj.seamBlend j])).flatten
  let w := { w with d := { w.d with changes := w.d.changes.filter (fun c => !keys.contains c.key) } }
  let put := fun (w : Work) (k : Nat) (v : Int) => (w.set k v).addChange 0 k v
  (upTo 255).foldl (fun w j =>
    match w.seam j with
    | none =>
      let w := put (put (put w (Obj.seamMode j) 0) (Obj.seamCutShift j) 0) (Obj.seamBlend j) 2
      w.setMany [(Obj.seamLeft j, 0xFF), (Obj.seamRight j, 0xFF), (Obj.overlapFirst j, 0xFFFFFFFF), (Obj.overlapLast j, 0xFFFFFFFF),
        (Obj.seamCut j, 0xFFFFFFFF), (Obj.seamKind j, 0)]
    | some (a, b) =>
      let n := overlapWidth a b
      let w := put (put (put w (Obj.seamMode j) (if n < 2 then 0 else 1)) (Obj.seamCutShift j) 0) (Obj.seamBlend j) (defaultBlend n)
      let da := dieOfPort (a.s / 8)
      let db := dieOfPort (b.s / 8)
      w.setMany [(Obj.seamLeft j, a.s), (Obj.seamRight j, b.s), (Obj.overlapFirst j, if n = 0 then 0xFFFFFFFF else b.c0),
        (Obj.overlapLast j, if n = 0 then 0xFFFFFFFF else a.c1), (Obj.seamCut j, cutOf a b 0),
        (Obj.seamKind j, if da = db then 0 else if da + 1 = db || db + 1 = da then 1 else 2)]) w

/-! ### The plane (R220) -/

/-- The sensors of a geometry body for the active sensors, by rising FIRST_COLUMN, and the plane width. -/
def Work.planeOf (w : Work) (recs : List Nat) : List Sensor × Nat :=
  let geos := (recs.map geoOf).filter (fun g => w.activeSensors.contains g.sensor)
  let raw := geos.map (fun g => (g, g.span))
  let top := maxNat (raw.map (fun e => (e.2.2 + 1).toNat))
  let width := if w.confN Obj.planeWidth = 0 then top else w.confN Obj.planeWidth
  let clipped := raw.filterMap (fun e =>
    let c0 := max 0 e.2.1
    let c1 := min ((width : Int) - 1) e.2.2
    if c0 ≤ c1 then some (⟨e.1.sensor, e.1, c0.toNat, c1.toNat⟩ : Sensor) else none)
  (clipped.foldr insertSensor [], width)

/-- The columns each die's slice assembles per web line, with every seam at its default cut (R231, R233). -/
def dieColumns (sensors : List Sensor) (width d : Nat) : Nat :=
  let rec go : List Sensor → Nat → Nat
    | [], _ => 0
    | [a], from_ => if dieOfPort (a.s / 8) = d then width - from_ else 0
    | a :: b :: rest, from_ =>
      let cut := (cutOf a b 0).toNat
      (if dieOfPort (a.s / 8) = d then cut - from_ else 0) + go (b :: rest) cut
  go sensors 0

/-- The first sensor, walking by rising FIRST_COLUMN, whose die is lower than that of one before it (R15, R220 item 7). -/
def dieOrderFault : List Sensor → Nat → Option Nat
  | [], _ => none
  | a :: rest, d => if dieOfPort (a.s / 8) < d then some (a.s / 8) else dieOrderFault rest (dieOfPort (a.s / 8))

/-- Neighbours in column order that meet a condition: the lower of their ports. -/
def pairFaults (bad : Sensor → Sensor → Bool) : List Sensor → List Nat
  | a :: b :: rest => (if bad a b then [min (a.s / 8) (b.s / 8)] else []) ++ pairFaults bad (b :: rest)
  | _ => []

/-- The geometry checks of R220, items 1 to 9, on a geometry body against the configuration in force in `w`: the port at fault. -/
def Work.geometryFault (w : Work) (recs : List Nat) : Option Nat :=
  let geos := recs.map geoOf
  let act := w.activeSensors
  let px := fun (g : Geo) => w.tagPx g.port g.tag
  let item1 := (recs.filter recFails).map (fun r => (geoOf r).port) ++ orderFaults geos ++
    (act.filter (fun s => !geos.any (fun g => g.sensor == s))).map (· / 8) ++
    (geos.filter (fun g => act.contains g.sensor && decide (px g ≤ g.last))).map (fun g => g.port)
  match leastOf item1 with
  | some p => some p
  | none =>
    let used := geos.filter (fun g => act.contains g.sensor)
    let pl := w.planeOf recs
    let ss := pl.1
    let item2 := (used.filter (fun g => !(upTo (g.last + 1 - g.first)).all (fun i => g.slopeOk (g.first + i)))).map (fun g => g.port)
    let item3 := (act.filter (fun s => !ss.any (fun x => x.s == s))).map (· / 8)
    let cover := fun c => ss.filter (fun y => decide (y.c0 ≤ c) && decide (c ≤ y.c1))
    let item4 := ((ss.filter (fun x => decide (2 < (cover x.c0).length))).map (fun x => (cover x.c0).map (fun y => y.s / 8))).flatten
    let item5 := pairFaults (fun a b => decide (b.c1 ≤ a.c1)) ss
    let item6 := pairFaults (fun a b => decide (a.c1 + 1 + w.confN Obj.maxGap < b.c0)) ss
    let struct := fun p => (decide (w.fieldModeOf p = 2), w.fieldsOf p, if w.fieldModeOf p = 2 then 0 else w.confN (Obj.fieldPhase p))
    let item8 := match act with
      | [] => []
      | s :: _ => w.activePorts.filter (fun p => decide (struct p ≠ struct (s / 8)))
    let mult := match act with
      | s :: _ => if w.fieldModeOf (s / 8) = 2 then w.fieldsOf (s / 8) else 1
      | [] => 1
    let fast := (upTo 4).filter (fun d => decide (60000000000 < dieColumns ss pl.2 d * w.confN Obj.maxLineRate * mult))
    let item9 := match fast with
      | d :: _ => (w.activePorts.filter (fun p => dieOfPort p == d)).take 1
      | [] => []
    [leastOf item2, leastOf item3, leastOf item4, leastOf item5, leastOf item6, dieOrderFault ss 0, leastOf item8, item9.head?].findSome? id

/-- Bring a plane into force: sensor objects, SENSORS, SEAMS (R216, R219). -/
def Work.setPlane (w : Work) (recs : List Nat) : Work :=
  let pl := w.planeOf recs
  let w := { w with loom := { w.loom with sensors := pl.1, width := pl.2 } }
  let w := (upTo 256).foldl (fun w s => w.setMany [(Obj.stagger s, 0), (Obj.mdFrac s, 0), (Obj.firstColumn s, 0), (Obj.lastColumn s, 0),
    (Obj.sensorState s, 0)]) w
  let w := pl.1.foldl (fun w x => w.setMany [(Obj.stagger x.s, x.geo.stagger), (Obj.mdFrac x.s, x.geo.frac), (Obj.firstColumn x.s, x.c0),
    (Obj.lastColumn x.s, x.c1), (Obj.sensorState x.s, 1)]) w
  (w.set Obj.sensors pl.1.length).set Obj.seams ((pl.1.length - 1 : Nat) : Int)

end Sys2Proof.Machine
end

