-- ==== Sys2Proof/Machine/Loom.lean ====
section
/-! DEFINITION. Loom (chapter 09, R221 to R240): candidates, overlaps, coverage, the sweep's stitched line, the tile pass, halo strips and
the column map. -/
namespace Sys2Proof.Machine

/-! ### Kernels (R225) -/

/-- Round a ÷ b half away from zero. -/
def roundAway (a : Int) (b : Nat) : Int := if a < 0 then -((2 * (-a) + b) / (2 * b)) else (2 * a + b) / (2 * b)

/-- The cubic taps of phase j before the residue: Keys with a = −0.5, times 16,384. -/
def cubicRaw (j : Int) : List Int :=
  let near := fun (n : Int) => roundAway (3 * n ^ 3 - 320 * n ^ 2 + 524288) 32
  let far := fun (n : Int) => roundAway (-(n ^ 3) + 320 * n ^ 2 - 32768 * n + 1048576) 32
  [far (64 + j), near j, near (64 - j), far (128 - j)]

/-- The place of the greatest tap, the first of equals. -/
def greatest (ks : List Int) : Nat :=
  let m := ks.foldl max (ks.headD 0)
  (ks.findIdx? (· == m)).getD 0

/-- The taps of phase j of the kernel in force. -/
def kernelTaps (sel : Nat) (table : Bytes) (j : Nat) : List Int :=
  let cubic :=
    let ks := cubicRaw j
    upd ks (greatest ks) (· + (16384 - ks.foldl (· + ·) 0))
  match sel with
  | 0 => if j < 32 then [0, 16384, 0, 0] else [0, 0, 16384, 0]
  | 1 => [0, 16384 - 256 * j, 256 * j, 0]
  | 2 => cubic
  | _ => if table.isEmpty then cubic else (upTo 4).map (fun k => signed 16 (leAt table (4 + 8 * j + 2 * k) 2))

/-- The check of a KERNEL_TABLE image (R225). -/
def kernelCheck (_ : Work) (b : Bytes) : Option Res :=
  if b.length ≠ 520 || leAt b 0 4 ≠ 0x4C4E524B || leAt b 516 4 ≠ crc32 (b.take 516) ||
    (upTo 64).any (fun j => ((upTo 4).map (fun k => signed 16 (leAt b (4 + 8 * j + 2 * k) 2))).foldl (· + ·) 0 ≠ 16384) then some .format
  else none

/-- The kernel in force: selection and table. -/
def Work.taps (w : Work) (j : Nat) : List Int :=
  kernelTaps (w.confN Obj.kernelSel) ((alGet w.d.blobConf Obj.kernelTable).getD []) j

/-! ### Candidates (R224, R226, R229) -/

/-- What one sensor offers for a column, or what a column takes: value, valid, UNCAL, and when not valid its reason, sensor and detail. -/
structure Cand where
  v      : Nat
  valid  : Bool
  uncal  : Bool
  reason : Nat := 0
  sensor : Nat := 0xFF
  detail : Nat := 0
  deriving DecidableEq, Repr

/-- The reason and detail of a line STATE that is not the line's own data (R161, R226). -/
def stateReason (st port : Nat) : Nat × Nat :=
  match st with
  | 3 => (0x02, 0) | 4 => (0x03, 0) | 5 => (0x04, 0) | 6 => (0x05, 0) | _ => (0x06, port)

/-- The candidate of a sensor for a column of web line L and field f (R221, R224, R226). -/
def Work.candidate (w : Work) (x : Sensor) (f line : Nat) (c : Int) : Cand :=
  let n := w.frameOf line
  let p := x.s / 8
  let bad := fun (v : Nat) (r d : Nat) => ({ v := v, valid := false, uncal := false, reason := r, sensor := x.s, detail := d } : Cand)
  match w.ringLine x.s f line with
  | none =>
    match w.hbm.lostLines.find? (fun e => e.1 == w.rowOf x.s line && e.2.1 == x.s) with
    | some e => bad 0 0x22 e.2.2
    | none => bad 0 0x12 x.s
  | some q =>
    let m := (x.geo.x64 c).toNat
    let i := m / 64
    let ks := w.taps (m % 64)
    let bits := w.packBitsOf p
    let px := fun (d : Nat) => unpackAt bits q.data (i + d - 1)
    let sum := (upTo 4).foldl (fun acc d => acc + nth 0 ks d * (px d : Int)) 0
    let v := (clampInt 0 65535 ((sum + 2 ^ 13) / 2 ^ 14)).toNat
    let used := (upTo 4).filter (fun d => nth 0 ks d ≠ 0)
    if 3 ≤ q.desc.state then
      let r := stateReason q.desc.state p
      bad v r.1 r.2
    else if used.any (fun d => decide (q.desc.valid ≤ i + d - 1)) then bad v 0x01 q.desc.valid
    else match w.excludedAt p n with
      | some r => bad v r p
      | none =>
        match w.loom.cut.find? (fun e => e.1 == x.s && decide (e.2.1 ≤ n)) with
        | some e => bad v 0x11 e.2.2
        | none =>
          if used.any (fun d => q.dead.contains (i + d - 1)) then bad v 0x08 (q.dead.headD 0)
          else { v := v, valid := true, uncal := q.desc.uncal || q.desc.bypass ≠ 0, sensor := x.s }

/-! ### Overlaps (R227, R228) -/

/-- How the column map places a column in frame n: the sensors covering it in column order, the weight of the second in 1/256, and whether
the blend zone holds it. -/
structure MapEntry where
  left  : Option Sensor
  right : Option Sensor
  w     : Nat
  zone  : Bool

/-- The entry of a column in frame n (R227). -/
def Work.mapEntry (w : Work) (n : Nat) (c : Int) : MapEntry :=
  let idx := (upTo w.loom.sensors.length).filter (fun i => match w.loom.sensors[i]? with
    | some x => decide ((x.c0 : Int) ≤ c) && decide (c ≤ x.c1)
    | none => false)
  match idx with
  | [] => ⟨none, none, 0, false⟩
  | [i] => ⟨w.loom.sensors[i]?, none, 0, false⟩
  | i :: _ =>
    match w.seam i with
    | none => ⟨none, none, 0, false⟩
    | some (a, b) =>
      let cut := cutOf a b (w.valueAt (Obj.seamCutShift i) n)
      let bw := w.valueAt (Obj.seamBlend i) n
      let inZone := w.valueAt (Obj.seamMode i) n = 1 && 2 ≤ overlapWidth a b && decide (cut - bw / 2 ≤ c) && decide (c ≤ cut + bw / 2 - 1)
      if inZone then ⟨some a, some b, ((2 * (c - cut) + bw + 1) * 128 / bw).toNat, true⟩
      else ⟨some a, some b, if c < cut then 0 else 256, false⟩

/-- The preferred sensor of an entry. -/
def MapEntry.preferred (e : MapEntry) : Option Sensor :=
  match e.left, e.right with
  | some a, some b => if 128 ≤ e.w then some b else some a
  | some a, none => some a
  | _, _ => none

/-- The value a column of web line L and field f takes (R228); a faulty map entry makes its candidates invalid (R239). Columns outside the plane
are not this module's. -/
def Work.column (w : Work) (f line : Nat) (c : Int) : Cand :=
  if c < 0 || (w.loom.width : Int) ≤ c then { v := 0, valid := false, uncal := false }
  else
    let e := w.mapEntry (w.frameOf line) c
    match e.left, e.right with
    | none, _ => { v := 0, valid := false, uncal := false, reason := 0x10 }
    | some a, none =>
      let x := w.candidate a f line c
      if w.loom.badMap.contains c.toNat then { x with valid := false, reason := 0x13, detail := 0 } else x
    | some a, some b =>
      let l := w.candidate a f line c
      let r := w.candidate b f line c
      let pref := if 128 ≤ e.w then r else l
      if w.loom.badMap.contains c.toNat then { pref with valid := false, reason := 0x13, detail := 0 }
      else if l.valid && r.valid then
        if e.zone then { v := (l.v * (256 - e.w) + r.v * e.w + 128) / 256, valid := true, uncal := l.uncal || r.uncal, sensor := pref.sensor }
        else pref
      else if l.valid then l
      else if r.valid then r
      else pref

/-! ### Coverage runs (R230) -/

/-- GROUP_BASE in force. -/
def Work.groupBase (w : Work) : Nat := w.confN Obj.groupBase

/-- Reasons whose DETAIL counts the run's lines (table Coverage reasons). -/
def countsLines (r : Nat) : Bool := r == 0x02 || r == 0x03 || r == 0x04 || r == 0x05 || r == 0x13

/-- A run ends and yields one coverage record. -/
def Work.endRun (w : Work) (r : CovRun) : Work :=
  (w.cover { reason := r.reason, sensor := r.sensor, detail := if countsLines r.reason then r.last + 1 - r.first else r.detail,
             firstLine := r.first, lastLine := r.last, cdFirst := w.groupBase + r.c0, cdLast := w.groupBase + r.c1,
             fieldMask := r.mask }).bump Obj.coverageRuns

/-- The runs of columns not inspected in one stitched line: neighbouring columns with the same reason and sensor. -/
def lineRuns (line f : Nat) : List Cand → Nat → Option CovRun → List CovRun
  | [], _, none => []
  | [], _, some r => [r]
  | x :: xs, c, cur =>
    if x.valid then
      match cur with
      | some r => r :: lineRuns line f xs (c + 1) none
      | none => lineRuns line f xs (c + 1) none
    else
      let fresh : CovRun := ⟨x.reason, x.sensor, x.detail, c, c, 2 ^ f, line, line⟩
      match cur with
      | none => lineRuns line f xs (c + 1) (some fresh)
      | some r =>
        if r.reason = x.reason && r.sensor = x.sensor && r.detail = x.detail then lineRuns line f xs (c + 1) (some { r with c1 := c })
        else r :: lineRuns line f xs (c + 1) (some fresh)

/-- Two runs name the same area across the web for the same reason. -/
def CovRun.same (a b : CovRun) : Bool :=
  a.reason == b.reason && a.sensor == b.sensor && a.detail == b.detail && a.c0 == b.c0 && a.c1 == b.c1

/-- Put a line's runs together over its fields. -/
def mergeFields (rs : List CovRun) : List CovRun :=
  rs.foldl (fun acc r => if acc.any r.same then acc.map (fun a => if a.same r then { a with mask := a.mask ||| r.mask } else a)
    else acc ++ [r]) []

/-- Join a line's runs to the open ones; runs that do not go on end, and every run ends with the frame (R159, R230). -/
def Work.joinRuns (w : Work) (tags : Bool) (line : Nat) (rs : List CovRun) : Work :=
  let goesOn := fun (o : CovRun) => rs.any (fun r => r.same o && decide (o.last + 1 = line) && (!tags || r.mask == o.mask))
  let ended := w.loom.runs.filter (fun o => !goesOn o)
  let kept := w.loom.runs.filter goesOn
  let w := ended.foldl (fun w o => w.endRun o) { w with loom := { w.loom with runs := [] } }
  let now := rs.map (fun r => match kept.find? (fun o => o.same r) with
    | some o => { o with last := line, mask := o.mask ||| r.mask }
    | none => r)
  if (line + 1) % w.frameLen = 0 then now.foldl (fun w o => w.endRun o) w
  else { w with loom := { w.loom with runs := now } }

/-! ### The sweep (R221, R232) -/

/-- The fields a stitched web line carries (R223). -/
def Work.lineFields (w : Work) (line : Nat) : List Nat :=
  match w.activePorts with
  | [] => []
  | p :: _ => if w.fieldModeOf p = 2 then upTo (w.fieldsOf p) else [w.fieldOfLine p line]

/-- Whether the sensors are fields of tags (FIELD_MODE 2). -/
def Work.tagFields (w : Work) : Bool :=
  match w.activePorts with
  | [] => false
  | p :: _ => w.fieldModeOf p == 2

/-- A sensor is stitched in frame n (R229). -/
def Work.stitched (w : Work) (x : Sensor) (n : Nat) : Bool := (w.excludedAt (x.s / 8) n).isNone && !w.cutBack x.s n

/-- Whether a sensor has published line L, or its row has gone by (R221, R232). -/
def Work.published (w : Work) (x : Sensor) (line : Nat) : Bool :=
  let k := w.rowOf x.s line
  (w.lineFields line).all (fun f => (w.ringLine x.s f line).isSome) || w.hbm.lostLines.any (fun e => e.1 == k && e.2.1 == x.s) ||
    (match w.hbm.rows.getLast? with
      | some old => decide (k < old.k)
      | none => false)

/-- Web line L can be swept: trigger L + s_max is issued and every stitched sensor has published L (R232). -/
def Work.sweepReady (w : Work) (line : Nat) : Bool :=
  let n := w.frameOf line
  (match w.axis.last with
    | some k => decide (line + w.sMax n ≤ k)
    | none => false) &&
  (w.loom.sensors.filter (fun x => w.stitched x n)).all (fun x => w.published x line)

/-- A stitched line: its web line and, for each field, its columns from column 0 on. -/
abbrev Stitched := Nat × List (Nat × List Cand)

/-- Stitch a web line. -/
def Work.stitch (w : Work) (line : Nat) : Stitched :=
  (line, (w.lineFields line).map (fun f => (f, (upTo w.loom.width).map (fun (c : Nat) => w.column f line c))))

/-- The 32 columns at an edge and their valid and UNCAL bits, for the neighbour module (R237). -/
def edgeOf (cs : List Cand) : List Nat × Nat × Nat :=
  let bits := fun (b : Cand → Bool) => (cs.zipIdx.filter (fun e => b e.1)).foldl (fun acc e => acc + 2 ^ e.2) 0
  (cs.map (fun c => c.v), bits (fun c => c.valid), bits (fun c => c.uncal))

/-- Send the edge columns of a swept line to the neighbours on both sides. -/
def Work.sendEdges (w : Work) (st : Stitched) : Work :=
  if w.confN Obj.groupId = 0 then w
  else st.2.foldl (fun w e =>
    let lo := edgeOf (e.2.take 32)
    let hi := edgeOf (e.2.drop (e.2.length - 32))
    (w.send (.edgeLines false st.1 e.1 lo.1 lo.2.1 lo.2.2)).send (.edgeLines true st.1 e.1 hi.1 hi.2.1 hi.2.2)) w

/-- The web line to be swept next: lines of frames that are not inspected are passed over. -/
def Work.sweepAt (w : Work) : Option Nat :=
  w.loom.next.bind (fun l =>
    if w.inspected (w.frameOf l) then some l
    else leastOf ((w.run.spans.filter (fun s => decide (l ≤ s.1 * w.frameLen))).map (fun s => s.1 * w.frameLen)))

/-- The sweep of the next web line: map errors met, stitched columns, coverage runs of inspected frames, SWEEP_LINE and SWEEP_LAG. None when
no line can be swept. -/
def Work.sweepNext (w : Work) (corrected : Nat) (bad : List Nat) : Option (Work × Stitched) :=
  match w.sweepAt with
  | none => none
  | some line =>
    if !w.sweepReady line then none
    else
      let fresh := bad.filter (fun c => !w.loom.badMap.contains c)
      let w := (w.bump Obj.mapCorr corrected).bump Obj.mapUncorr bad.length
      let w := if bad.isEmpty then w else w.flag Obj.loomFlags 8
      let w := { w with loom := { w.loom with badMap := w.loom.badMap ++ fresh } }
      let st := w.stitch line
      let past := st.2.any (fun e => e.2.any (fun c => c.reason == 0x12))
      let w := if past then w.flag Obj.loomFlags 1 else w
      let w := w.joinRuns w.tagFields line (mergeFields ((st.2.map (fun e => lineRuns line e.1 e.2 0 none)).flatten))
      let w := { w with loom := { w.loom with next := some (line + 1) } }
      let w := (w.set Obj.sweepLine line).set Obj.sweepLag
        (Int.ofNat ((w.axis.last.getD 0) - w.sMax (w.frameOf line) - line))
      some (w.sendEdges st, st)

/-- MAP_REWRITE: the management cores rewrite a faulty entry from the committed copy (R239). -/
def mapRewrite (column : Nat) (w : Work) : Work :=
  { w with loom := { w.loom with badMap := w.loom.badMap.filter (fun c => c ≠ column) } }

def execMapRewrite (column : Nat) : State → Host.Outcome State Fault Refusal := onWork (mapRewrite column)

/-! ### Halo strips (R237) -/

/-- The halo line of an edge. -/
def Work.haloLine (w : Work) (upper : Bool) (f line : Nat) : Option HaloLine :=
  w.loom.halo.find? (fun h => h.upper == upper && h.field == f && h.line == line)

/-- Store a halo line in the strip, as deep as the ring. -/
def Work.haloPut (w : Work) (h : HaloLine) : Work :=
  let rest := w.loom.halo.filter (fun g => !(g.upper == h.upper && g.field == h.field && g.line == h.line) &&
    decide (h.line < g.line + w.getN Obj.ringDepth))
  { w with loom := { w.loom with halo := h :: rest } }

/-- The module's own place in the member table, itself or as a member's partner (R465). -/
def Work.memberIndex (w : Work) : Option Nat :=
  (upTo 8).find? (fun j => w.confN (Obj.memberAddr j) == w.confN Obj.ylAddress || w.confN (Obj.memberPartner j) == w.confN Obj.ylAddress)

/-- Whether a neighbour's columns continue the plane at an edge: a member stands next to this one in the table (R465). -/
def Work.hasNeighbour (w : Work) (upper : Bool) : Bool :=
  w.confN Obj.groupId ≠ 0 && (match w.memberIndex with
    | none => false
    | some j => if upper then decide (j + 1 < 8) && w.confN (Obj.memberAddr (j + 1)) ≠ 0xFFFF else j ≠ 0)

/-- HALO_TIMEOUT: halo columns of a line have not arrived within HALO_TIMEOUT of the line's own publication: they are delivered as invalid
with HALO_LATE. -/
def haloTimeout (upper : Bool) (f line : Nat) (w : Work) : Work :=
  let own := w.loom.sensors.filterMap (fun x => w.hbm.rows.find? (fun r => r.k == w.rowOf x.s line))
  let due := own.any (fun r => decide (r.pubAt + nsClocks (w.getN Obj.haloTimeout * 1000) ≤ w.clk.ctl)) && w.sweepReady line
  if !w.hasNeighbour upper || !due || (w.haloLine upper f line).isSome then w
  else
    let w := (w.flag Obj.loomFlags 2).bump Obj.haloLateCount
    w.haloPut ⟨upper, line, f, List.replicate 32 0, 0, 0, true⟩

def execHaloTimeout (upper : Bool) (f line : Nat) : State → Host.Outcome State Fault Refusal := onWork (haloTimeout upper f line)

/-- A column of the tile pass: the plane's own, or a neighbour's from the halo strip; a column outside any plane carries 0 (R234, R237). -/
def Work.passColumn (w : Work) (f line : Nat) (c : Int) : Cand :=
  let edge := fun (upper : Bool) (i : Nat) => match w.haloLine upper f line with
    | some h => ({ v := nth 0 h.values i, valid := bitOf h.valid i, uncal := bitOf h.uncal i } : Cand)
    | none => { v := 0, valid := false, uncal := false }
  if c < 0 && w.hasNeighbour false && decide (-32 ≤ c) then edge false (c + 32).toNat
  else if (w.loom.width : Int) ≤ c && w.hasNeighbour true && c < w.loom.width + 32 then edge true (c - w.loom.width).toNat
  else w.column f line c

/-! ### The tile pass (R234 to R236) -/

/-- What a request covers: a tile or a column window. -/
structure PassWindow where
  first : Int
  width : Nat
  tile  : Nat

/-- A tile with its halos (R234), in module columns. -/
def tileWindow (base t : Nat) : PassWindow := ⟨(t * 2048 : Nat) - 32 - (base : Int), 2112, t⟩

/-- One line of a tile-frame. -/
structure PassLine where
  line : Nat
  cols : List Cand
  lost : Bool
  late : Bool

/-- The web lines of frame n that carry field f. -/
def Work.frameLines (w : Work) (f n : Nat) : List Nat :=
  ((upTo w.frameLen).map (n * w.frameLen + ·)).filter (fun l => (w.lineFields l).contains f)

/-- A line is gone from the ring for a window: some stitched sensor that covers a column of it no longer holds the line (R235). -/
def Work.lineLost (w : Work) (f line : Nat) (win : PassWindow) : Bool :=
  let n := w.frameOf line
  (w.loom.sensors.filter (fun x => w.stitched x n && decide ((x.c0 : Int) < win.first + win.width) && decide (win.first ≤ x.c1))).any
    (fun x => (w.ringLine x.s f line).isNone)

/-- One line of the tile pass. -/
def Work.passLine (w : Work) (f : Nat) (win : PassWindow) (line : Nat) : PassLine :=
  let lost := w.lineLost f line win
  let late := w.loom.halo.any (fun h => h.late && h.line == line && h.field == f &&
    (if h.upper then decide ((w.loom.width : Int) < win.first + win.width) else decide (win.first < 0)))
  let cols := (upTo win.width).map (fun (i : Nat) => if lost then { v := 0, valid := false, uncal := false } else w.passColumn f line (win.first + i))
  ⟨line, cols, lost, late⟩

/-- The lines of a tile-frame in rising web line. -/
def Work.tileFrame (w : Work) (f n : Nat) (win : PassWindow) : List PassLine := (w.frameLines f n).map (w.passLine f win)

/-- The MD_FRAC of a column's preferred sensor (R222). -/
def Work.columnFrac (w : Work) (n : Nat) (c : Int) : Nat :=
  match (w.mapEntry n c).preferred with
  | some x => x.geo.frac
  | none => 0

/-- A bit string padded to a multiple of 8 bytes. -/
def bitBytes (bs : List Bool) : Bytes := leBytes (ceilDiv bs.length 64 * 8) (bs.foldr (fun b acc => (if b then 1 else 0) + 2 * acc) 0)

/-- A tile line as delivered (R236). -/
def PassLine.bytes (l : PassLine) : Bytes :=
  let valid := l.cols.map (fun c => c.valid)
  let uncal := l.cols.map (fun c => c.uncal)
  let b2n := fun (b : Bool) => if b then 1 else 0
  (l.cols.map (fun c => leBytes 2 c.v)).flatten ++ bitBytes valid ++ bitBytes uncal ++
    leBytes 16 (packBits [(0, 1, b2n (valid.all id)), (1, 1, b2n (uncal.any id)), (2, 1, b2n l.late), (3, 1, b2n l.lost),
      (64, 16, (valid.filter id).length), (80, 48, l.line)])

/-- A tile-frame as delivered: header, MD_FRAC vector, lines (R236). -/
def Work.tileFrameBytes (w : Work) (f n req : Nat) (win : PassWindow) : Bytes :=
  let ls := w.tileFrame f n win
  leBytes 64 (packBits [(0, 32, 0x46544C4D), (32, 32, req), (256, 8, f), (288, 16, win.width), (304, 16, win.tile),
    (320, 32, w.getN Obj.geomGen), (352, 32, field 32 (win.first + w.groupBase)), (384, 32, ls.length),
    (416, 48, ((ls.head?.map (fun l => l.line)).getD 0)), (464, 48, n)]) ++
  padTo 8 ((upTo win.width).map (fun (i : Nat) => BitVec.ofNat 8 (w.columnFrac n (win.first + i)))) ++ (ls.map PassLine.bytes).flatten

/-- The halo columns a window needs have arrived, or are marked late. -/
def Work.halosIn (w : Work) (f line : Nat) (win : PassWindow) : Bool :=
  (win.first < 0 → w.hasNeighbour false → (w.haloLine false f line).isSome) &&
    ((w.loom.width : Int) < win.first + win.width → w.hasNeighbour true → (w.haloLine true f line).isSome)

/-- Every line of the frame and field can be delivered: no sooner than the sweep allows (R234). -/
def Work.passReady (w : Work) (f n : Nat) (win : PassWindow) : Bool :=
  (w.frameLines f n).all (fun l => w.sweepReady l && w.halosIn f l win)

/-- TILE_PASS_REQUEST: a request of the placement engine for a field, a frame and a tile (or a window of up to 4,096 columns): the tile-frame is
delivered once its lines can be (R234 to R237). -/
def tilePassRequest (f n req : Nat) (tile : Option Nat) (first : Int) (width : Nat) (w : Work) : Work :=
  let win := match tile with
    | some t => tileWindow w.groupBase t
    | none => ⟨first, min width 4096, 0xFFFF⟩
  if w.loom.sensors.isEmpty || !w.passReady f n win then w
  else { w with loom := { w.loom with delivered := some (req, w.tileFrameBytes f n req win) } }

def execTilePassRequest (f n req : Nat) (tile : Option Nat) (first : Int) (width : Nat) : State → Host.Outcome State Fault Refusal :=
  onWork (tilePassRequest f n req tile first width)

/-! ### The column map (R227) -/

/-- COLUMN_MAP as it stands in the present frame. -/
def Work.columnMapBytes (w : Work) : Bytes :=
  let n := w.frame
  let entry := fun (c : Nat) =>
    let e := w.mapEntry n c
    let sn := fun (x : Option Sensor) => (x.map (fun s => s.s)).getD 0xFF
    let pos := fun (x : Option Sensor) => (x.map (fun s => (s.geo.x64 c).toNat)).getD 0
    leBytes 16 (packBits [(0, 8, sn e.left), (8, 8, sn e.right), (16, 16, e.w), (32, 32, pos e.left), (64, 32, pos e.right),
      (96, 8, w.columnFrac n c)])
  leBytes 32 (packBits [(0, 32, 0x504D4C43), (32, 32, w.loom.width), (64, 32, w.getN Obj.geomGen), (96, 48, n)]) ++
    ((upTo w.loom.width).map entry).flatten

/-- SENSOR_STATE of every sensor of the plane at a frame boundary (R229). -/
def Work.sensorStates (w : Work) : Work :=
  w.loom.sensors.foldl (fun w x =>
    let st := if w.cutBack x.s w.frame then 3 else match w.excludedAt (x.s / 8) w.frame with
      | some r => if r = 7 then 2 else 4
      | none => 1
    w.set (Obj.sensorState x.s) st) w

end Sys2Proof.Machine
end

