-- ==== Sys2Proof/Machine/Position.lean ====
section
/-! DEFINITION. Position inputs and the web axis (chapter 04, R91 to R111): counted edges, limits, index, speed, P and the trigger timer.
The clock of an input event is the control clock in which it crosses the ball (R102); the pipeline of R109 has no clocks of its own here
(log entry 12). -/
namespace Sys2Proof.Machine

/-- Control clocks in a second. -/
def ctlHz : Nat := 400000000

/-- The present control clock, with an event's place inside the timebase clock. -/
def Work.now (w : Work) (ph : Phase) : Nat := w.clk.ctl + ph.val

/-- Position input i. -/
def Work.pin (w : Work) (i : Nat) : PosIn := nth {} w.posIn i

/-- Change position input i. -/
def Work.updPin (w : Work) (i : Nat) (f : PosIn → PosIn) : Work := { w with posIn := upd w.posIn i f }

/-- Set a STATUS bit of input i; a bit from 1 to 9 raises POS_FAULT (table Event sources). -/
def Work.posStatus (w : Work) (i bit : Nat) : Work :=
  let w := w.flag (Obj.status i) (2 ^ bit)
  if bit = 0 then w else w.raise (8 + i)

/-- A fault of the edge path: its flag and FAULT_COUNT; the count does not change (R94, R96). -/
def Work.posFault (w : Work) (i bit : Nat) : Work := (w.posStatus i bit).bump (Obj.faultCount i)

/-! ### Counts and speed (R98, R102 to R104) -/

/-- The count after a change, held at the limits, with the limit flag that sets (R98). -/
def Work.moveCount (w : Work) (i : Nat) (d : Int) : Work :=
  let c := w.get (Obj.count i) + d
  if w.get (Obj.limitMax i) < c then (w.set (Obj.count i) (w.get (Obj.limitMax i))).posStatus i 7
  else if c < w.get (Obj.limitMin i) then (w.set (Obj.count i) (w.get (Obj.limitMin i))).posStatus i 6
  else w.set (Obj.count i) c

/-- The speed of a window of stamps, newest first, in 1/65,536 count per second, with the sign of the direction (R102). -/
def windowSpeed (stamps : List Nat) (dir : Int) : Int :=
  match stamps, stamps.getLast? with
  | t :: _, some o => if t ≤ o then 0 else dir * (((stamps.length - 1) * 65536 * ctlHz / (t - o) : Nat) : Int)
  | _, _ => 0

/-- The stamp of a counted edge: a change of direction starts a new window and sets REVERSED (R102, R103). -/
def Work.stampEdge (w : Work) (i : Nat) (d : Int) (t : Nat) : Work :=
  let p := w.pin i
  let reversed := p.dir ≠ 0 && p.dir ≠ d
  let stamps := if reversed then [t] else (t :: p.stamps).take (w.getN (Obj.speedEdges i) + 1)
  let w := if reversed then w.posStatus i 0 else w
  let w := w.updPin i (fun p => { p with stamps := stamps, dir := d })
  (w.set (Obj.speed i) (windowSpeed stamps d)).set (Obj.motion i) (if d > 0 then 1 else 2)

/-- The speed at a control clock: limited to one count over the time since the last edge (R104). -/
def Work.speedAt (w : Work) (i t : Nat) : Int :=
  let s := w.get (Obj.speed i)
  if w.confN (Obj.piMode i) = 3 then s else
  match (w.pin i).stamps with
  | t0 :: _ =>
    if t ≤ t0 then s
    else
      let lim : Int := ((65536 * ctlHz / (t - t0) : Nat) : Int)
      clampInt (-lim) lim s
  | [] => s

/-! ### The web axis (R105 to R111) -/

/-- The clock of the last count of the web input: from there P is extrapolated. -/
def Work.countClock (w : Work) (i t : Nat) : Nat :=
  match (w.pin i).stamps with
  | t0 :: _ => min t0 t
  | [] => t

/-- The measured speed of the web axis in lines per second, as a fraction (R105, R108). -/
def Work.axisSpeed (w : Work) (t : Nat) : Int × Nat :=
  let src := w.confN Obj.webSource
  if src = 16 then (w.get Obj.freeSpeed, 1)
  else (w.speedAt src t * w.conf Obj.scaleNum, 65536 * w.confN Obj.scaleDen)

/-- P in 1/256 line at a control clock (R105). -/
def Work.posAt (w : Work) (t : Nat) : Int :=
  if !w.axis.started then 0 else
  let src := w.confN Obj.webSource
  if src = 16 then
    ((w.axis.genBase + w.get Obj.freeSpeed * ((t - w.axis.genAt : Nat) : Int)) * 256).tdiv ctlHz
  else
    let d := w.get (Obj.count src) - w.axis.origin
    let ext := w.speedAt src t * ((t - w.countClock src t : Nat) : Int)
    ((d * (65536 * ctlHz : Nat) + ext) * w.conf Obj.scaleNum * 256).tdiv ((65536 * ctlHz * w.confN Obj.scaleDen : Nat) : Int)

/-- The index of the next trigger: one above the last issued; the first an alignment gave (R463); after a warm reset one above TRIGGER_HWM, after a
cold start 0 (R106). -/
def Work.nextTrigger (w : Work) : Nat :=
  match w.axis.last with
  | some k => k + 1
  | none =>
    let next := match w.axis.hwm with
      | some k => k + 1
      | none => 0
    max next (w.axis.first.getD 0)

/-- I_MIN: the least control clocks between triggers, a part of a clock counting whole (R108). -/
def Work.iMin (w : Work) : Nat := ceilDiv ctlHz (w.confN Obj.maxLineRate)

/-- Load or reload the trigger timer: the time for P to reach k at the measured speed, or what is left of I_MIN since the trigger before
(R108). No time stands while the speed is 0 or negative. -/
def Work.reloadTimer (w : Work) (t : Nat) : Work :=
  let v := w.axisSpeed t
  if !w.axis.started || v.1 ≤ 0 then { w with axis := { w.axis with due := none } }
  else
    let gap := (w.nextTrigger : Int) * 256 - w.posAt t
    let clocks := roundDiv (gap * (ctlHz * v.2 : Nat)) (256 * v.1.toNat)
    let floor := if w.axis.last.isSome then w.axis.lastAt + w.iMin else t
    { w with axis := { w.axis with due := some (max (t + clocks.toNat) floor) } }

/-- P below the highest index issued: BACKTRACK is set and triggers wait (R111). -/
def Work.checkBacktrack (w : Work) (t : Nat) : Work :=
  match w.axis.last with
  | some k =>
    if w.posAt t < (k : Int) * 256 && !w.axis.backtrack then
      { (w.flag Obj.webStatus 2) with axis := { (w.flag Obj.webStatus 2).axis with backtrack := true } }
    else w
  | none => w

/-- After a change of the web input's count: the backtrack check and the reload of the timer. -/
def Work.axisMoved (w : Work) (i t : Nat) : Work :=
  if w.confN Obj.webSource = i then (w.checkBacktrack t).reloadTimer t else w

/-- COUNT_ORIGIN as the whole count that makes P the least value not below a position in 1/256 line (R105), or the greatest not above it
(R106): P = (count − origin)·NUM ÷ DEN. -/
def originFor (count : Int) (num den : Nat) (p256 : Int) (up : Bool) : Int :=
  let n : Int := num
  let d : Int := den
  -- count − origin is the least whole number of at least p·den/(256·num), or the greatest of at most it
  let q := if up then -((-(p256 * d)) / (256 * n)) else (p256 * d) / (256 * n)
  count - q

/-- Start the web axis (R106): after a cold start P starts at 0, after a warm reset just above TRIGGER_HWM, with RESUMED set. -/
def Work.axisStart (w : Work) : Work :=
  let t := w.clk.ctl
  let src := w.confN Obj.webSource
  let w := match w.axis.hwm with
    | none => { w with axis := { w.axis with started := true, origin := w.get (Obj.count src), genBase := 0, genAt := t } }
    | some h =>
      let w := w.flag Obj.webStatus 4
      let target : Int := (h + 1 : Nat)
      { w with axis := { w.axis with
          started := true
          origin := originFor (w.get (Obj.count src)) (w.confN Obj.scaleNum) (w.confN Obj.scaleDen) (target * 256) false
          genBase := target * (ctlHz : Nat)
          genAt := t } }
  w.reloadTimer t

/-- Carry P over a change of the source or the scale (R105): `p` is P just before. -/
def Work.axisRebase (w : Work) (p : Int) : Work :=
  if !w.axis.started then w else
  let t := w.clk.ctl
  let src := w.confN Obj.webSource
  let w := if src = 16 then
      { w with axis := { w.axis with genBase := -((-(p * (ctlHz : Nat))) / 256), genAt := t } }
    else
      { w with axis := { w.axis with
          origin := originFor (w.get (Obj.count src)) (w.confN Obj.scaleNum) (w.confN Obj.scaleDen) p true } }
  w.reloadTimer t

/-- A new FREE_SPEED changes the rate from now without moving P (R105): `old` is the rate before. -/
def Work.freeSpeedChanged (w : Work) (old : Int) : Work :=
  let t := w.clk.ctl
  let w := { w with axis := { w.axis with
    genBase := w.axis.genBase + old * ((t - w.axis.genAt : Nat) : Int), genAt := t } }
  if w.confN Obj.webSource = 16 then w.reloadTimer t else w

/-! ### Edges (R94 to R96, R98) -/

/-- A counted edge: the count moves in the sense DIRECTION sets, and the speed window takes its stamp (R98, R102). An edge at a limit is not
accumulated. -/
def Work.countEdge (w : Work) (i : Nat) (d : Int) (t : Nat) : Work :=
  let d := if w.conf (Obj.direction i) = 0 then d else -d
  let before := w.get (Obj.count i)
  let w := w.moveCount i d
  if w.get (Obj.count i) = before then w else (w.stampEdge i d t).axisMoved i t

/-- The place of an A/B state in the up sequence, A in bit 0: A leads B counts up. -/
def quadPlace (ab : Nat) : Nat :=
  match ab with
  | 0 => 0 | 1 => 1 | 3 => 2 | _ => 3

/-- The place of a U/V/W state in the forward commutation sequence (R95), none for 0b000 and 0b111. -/
def hallPlace (uvw : Nat) : Option Nat :=
  match uvw with
  | 0b001 => some 0 | 0b011 => some 1 | 0b010 => some 2 | 0b110 => some 3 | 0b100 => some 4 | 0b101 => some 5 | _ => none

/-- The step between two places of a cycle of n: 1 forward, −1 backward, 0 none; none for more than one step. -/
def cycleStep (n a b : Nat) : Option Int :=
  if a = b then some 0 else if (a + 1) % n = b then some 1 else if (b + 1) % n = a then some (-1) else none

/-- The native check of a quadrature sample (R94): A and B both changed is QUAD_ERR. -/
def Work.quadSample (w : Work) (i old new t : Nat) : Work :=
  match cycleStep 4 (quadPlace old) (quadPlace new) with
  | none => w.posFault i 1
  | some 0 => w
  | some d => w.countEdge i d t

/-- The native check of a commutation sample (R94, R95): 0b000 and 0b111 are HALL_INVALID, more than one sector HALL_SKIP. -/
def Work.hallSample (w : Work) (i old new t : Nat) : Work :=
  match hallPlace new with
  | none => w.posFault i 3
  | some b =>
    match hallPlace old with
    | none => w
    | some a =>
      match cycleStep 6 a b with
      | none => w.posFault i 4
      | some 0 => w
      | some d => w.countEdge i d t

/-- Whether an edge at a clock comes less than MIN_EDGE after the last accepted edge of the input (R96). -/
def Work.tooClose (w : Work) (i t : Nat) : Bool :=
  match (w.pin i).lastEdge with
  | some t0 => decide (t < t0 + w.confN (Obj.minEdge i))
  | none => false

/-- One signal edge under the TZ-640 filter (R96): inside MIN_EDGE it is not counted and sets EDGE_FAULT; otherwise it is accepted and counted
by its step, without combination checks. -/
def Work.tzEdge (w : Work) (i t : Nat) (step : Option Int) : Work :=
  if w.tooClose i t then w.posFault i 5
  else
    let w := w.updPin i (fun p => { p with lastEdge := some t })
    match step with
    | some 0 => w
    | some d => w.countEdge i d t
    | none => w

/-- The signal edges between two levels, one signal at a time, bit 0 first (R96, log entry 13). -/
def Work.tzSample (w : Work) (i mode : Nat) (old new : Nat) (t : Nat) : Work :=
  let sigs := if mode = 1 then [0, 1] else [0, 1, 2]
  let place := fun (v : Nat) => if mode = 1 then some (quadPlace (v % 4)) else hallPlace v
  let n := if mode = 1 then 4 else 6
  (sigs.foldl (fun (acc : Work × Nat) b =>
    if bitOf acc.2 b == bitOf new b then acc
    else
      let v := acc.2 ^^^ 2 ^ b
      let step := match place acc.2, place v with
        | some a, some c => cycleStep n a c
        | _, _ => none
      (acc.1.tzEdge i t step, v)) (w, old)).1

/-- A new accepted sample of an input's signals: bit 0 A or U, bit 1 B or V, bit 2 Z or W (R91 to R96). -/
def Work.posSample (w : Work) (i : Nat) (levels : BitVec 3) (t : Nat) : Work :=
  let old := (w.pin i).levels.toNat
  let new := levels.toNat
  let mode := w.confN (Obj.piMode i)
  let w := w.updPin i (fun p => { p with levels := levels })
  let w := w.set (Obj.rawState i) new
  if mode = 1 then
    if w.confN (Obj.edgeFilter i) = 0 then w.quadSample i (old % 4) (new % 4) t else w.tzSample i 1 (old % 4) (new % 4) t
  else if mode = 2 then
    if w.confN (Obj.edgeFilter i) = 0 then w.hallSample i old new t else w.tzSample i 2 old new t
  else w

/-- POS_EDGE: a validated edge on a position input (R92, R98). -/
def posEdge (i : Fin 16) (levels : BitVec 3) (ph : Phase) (w : Work) : Work :=
  if w.mode.dictOpen then w.posSample i levels (w.now ph) else w

def execPosEdge (i : Fin 16) (levels : BitVec 3) (ph : Phase) : State → Host.Outcome State Fault Refusal :=
  onWork (posEdge i levels ph)

/-! ### Index (R94, R99 to R101) -/

/-- The A/B state Z_GATE asks for, none for any (R94). -/
def zGateState (g : Nat) : Option Nat :=
  match g with
  -- AB is written with A first: 0b01 is A low and B high
  | 1 => some 0b00 | 2 => some 0b10 | 3 => some 0b11 | 4 => some 0b01 | _ => none

/-- C − E, where E is the count nearest C with (E − INDEX_REF) a multiple of INDEX_PERIOD; from −PERIOD ÷ 2 to PERIOD ÷ 2 − 1 (R100). -/
def indexError (c ref : Int) (period : Nat) : Int :=
  (c - ref + ((period / 2 : Nat) : Int)) % (period : Int) - ((period / 2 : Nat) : Int)

/-- The check of an accepted Z at the arrival count (R100), with what INDEX_MODE makes of a slip (R101). -/
def Work.indexCheck (w : Work) (i : Nat) : Work :=
  let c := w.get (Obj.count i)
  let period := w.confN (Obj.indexPeriod i)
  if period = 0 then w
  else if w.get (Obj.indexRefValid i) = 0 then (w.set (Obj.indexRef i) c).set (Obj.indexRefValid i) 1
  else
    let e := indexError c (w.get (Obj.indexRef i)) period
    if e.natAbs ≤ w.getN (Obj.indexTol i) then w
    else
      let w := ((w.posStatus i 8).set (Obj.indexErr i) e).set (Obj.indexAt i) c
      let w := w.bump (Obj.slipCount i)
      if w.get (Obj.indexMode i) = 0 then w
      else w.updPin i (fun p => { p with corr := some e, corrFrame := w.frame })

/-- INDEX_PULSE: Z rises with the sample's levels; a counted edge of the same sample counts first (R99). Index handling is the quadrature
mode's; a Z outside its gating state sets Z_GATE_ERR under the native check; under the TZ-640 filter Z is an edge like any other. -/
def indexPulse (i : Fin 16) (levels : BitVec 3) (ph : Phase) (w : Work) : Work :=
  if !w.mode.dictOpen || w.confN (Obj.piMode i) ≠ 1 then w
  else
    let t := w.now ph
    let w := w.posSample i (levels ||| 0b100#3) t
    if w.confN (Obj.edgeFilter i) = 0 then
      match zGateState (w.confN (Obj.zGate i)) with
      | some ab => if levels.toNat % 4 = ab then (w.raise (24 + i)).indexCheck i else w.posFault i 2
      | none => (w.raise (24 + i)).indexCheck i
    else if w.tooClose i t then w.posFault i 5
    else ((w.updPin i (fun p => { p with lastEdge := some t })).raise (24 + i)).indexCheck i

def execIndexPulse (i : Fin 16) (levels : BitVec 3) (ph : Phase) : State → Host.Outcome State Fault Refusal :=
  onWork (indexPulse i levels ph)

/-- INDEX_CORRECTION: a pending correction is subtracted from the count, with INDEX_MODE 1 once a later frame has begun, with 2 on the next
control clock; it saturates at the limits (R101). -/
def indexCorrection (i : Fin 16) (w : Work) : Work :=
  match (w.pin i).corr with
  | none => w
  | some e =>
    let due := w.get (Obj.indexMode i) = 2 || (w.get (Obj.indexMode i) = 1 && decide ((w.pin i).corrFrame < w.frame))
    if !due then w
    else
      let w := w.updPin i (fun p => { p with corr := none })
      let c := clampInt (w.get (Obj.limitMin i)) (w.get (Obj.limitMax i)) (w.get (Obj.count i) - e)
      let w := w.moveCount i (-e)
      (w.set (Obj.count i) c).axisMoved i w.clk.ctl

def execIndexCorrection (i : Fin 16) : State → Host.Outcome State Fault Refusal := onWork (indexCorrection i)

/-! ### SSI (R97) -/

/-- Gray code to binary, for a word of at most `n` bits. -/
def grayToBin : Nat → Nat → Nat
  | 0, g => g
  | n + 1, g => g ^^^ grayToBin n (g / 2)

/-- The step from one raw reading to the next that is smallest in magnitude, modulo 2^bits (R97). -/
def ssiStep (bits old new : Nat) : Int :=
  let m := 2 ^ bits
  let d := (new + m - old % m) % m
  if d < m / 2 then d else (d : Int) - m

/-- SSI_POLL: the bits clocked out, decoded and extended; a data line that is not high after the monoflop time sets SSI_FRAME (R97, R104). -/
def ssiPoll (i : Fin 16) (word : BitVec 48) (lineHigh : Bool) (ph : Phase) (w : Work) : Work :=
  if !w.mode.dictOpen || w.confN (Obj.piMode i) ≠ 3 then w
  else if !lineHigh then w.posFault i 9
  else
    let t := w.now ph
    let bits := w.confN (Obj.ssiBits i)
    let raw := word.toNat % 2 ^ bits
    let v := if w.confN (Obj.ssiCode i) = 1 then grayToBin bits raw else raw
    let p := w.pin i
    let step : Int := match p.ssiLast with
      | some o => ssiStep bits o v
      | none => v
    let w := w.moveCount i step
    let c := w.get (Obj.count i)
    let stamps := ((t, c) :: p.ssiStamps).take (w.getN (Obj.speedEdges i) + 1)
    let speed : Int := match stamps.getLast? with
      | some (t0, c0) => if t ≤ t0 then 0 else ((c - c0) * (65536 * ctlHz : Nat)).tdiv ((t - t0 : Nat) : Int)
      | none => 0
    let w := w.updPin i (fun p => { p with ssiLast := some v, ssiStamps := stamps, stamps := [t] })
    let w := w.set (Obj.speed i) speed
    let w := w.set (Obj.motion i) (if speed > 0 then 1 else if speed < 0 then 2 else 0)
    w.axisMoved i t

def execSsiPoll (i : Fin 16) (word : BitVec 48) (lineHigh : Bool) (ph : Phase) : State → Host.Outcome State Fault Refusal :=
  onWork (ssiPoll i word lineHigh ph)

/-! ### Standstill and COUNT -/

/-- SPEED_TIMEOUT: no edge for SPEED_TIMEOUT: speed 0, direction standstill (R104). P stays where extrapolation has brought the count's position. -/
def speedTimeout (i : Fin 16) (w : Work) : Work :=
  let t := w.clk.ctl
  let quiet := match (w.pin i).stamps with
    | t0 :: _ => decide (t0 + nsClocks (w.getN (Obj.speedTimeout i) * 1000) ≤ t)
    | [] => true
  if !quiet || w.confN (Obj.piMode i) = 3 then w
  else
    let w := w.updPin i (fun p => { p with stamps := p.stamps.take 1, dir := 0 })
    ((w.set (Obj.speed i) 0).set (Obj.motion i) 0).axisMoved i t

def execSpeedTimeout (i : Fin 16) : State → Host.Outcome State Fault Refusal := onWork (speedTimeout i)

/-- The owner's check of COUNT: within the limits, and not on the input that drives the web axis (R98, R99, R553). -/
def countCheck (i : Nat) : OwnerCheck := fun w v =>
  if w.confN Obj.webSource = i then some .inconsistent
  else if v < w.get (Obj.limitMin i) || w.get (Obj.limitMax i) < v then some .inconsistent
  else none

/-- COUNT_WRITE: a host write of COUNT (R99). -/
def countWrite (p : Path) (i : Fin 16) (v : Int) (w : Work) : Work :=
  w.writeNum p (Obj.count i) (.num v) (countCheck i) (fun _ w => w)

def execCountWrite (p : Path) (i : Fin 16) (v : Int) : State → Host.Outcome State Fault Refusal := onWork (countWrite p i v)

end Sys2Proof.Machine
end

