-- ==== Sys2Proof/Machine/Markers.lean ====
section
/-! DEFINITION. The Stamper (chapter 15, R347 to R356): compare queues, fires and pulses. -/
namespace Sys2Proof.Machine

/-- Output k. -/
def Work.marker (w : Work) (k : Nat) : Marker := nth {} w.markers k

/-- Change output k. -/
def Work.updMarker (w : Work) (k : Nat) (f : Marker → Marker) : Work := { w with markers := upd w.markers k f }

/-- MQ_USED and NEXT_TARGET of output k. -/
def Work.showQueue (w : Work) (k : Nat) : Work :=
  let q := (w.marker k).queue
  (w.set (Obj.mqUsed k) q.length).set (Obj.nextTarget k) (match q with
    | [] => 0
    | c :: _ => Int.ofNat (field 56 c.target))

/-- λ of output k in 1/256 line (R350): 0 while the web stands or runs backward. -/
def Work.lead (w : Work) (k : Nat) : Int :=
  let v := w.axisSpeed w.clk.ctl
  if v.1 ≤ 0 then 0 else (v.1 * 256 / (v.2 : Int)) * (w.getN (Obj.actLead k) : Int) / 10 ^ 9

/-- P + λ. -/
def Work.reach (w : Work) (k : Nat) : Int := w.posAt w.clk.ctl + w.lead k

/-- Insert by rising target, behind equals (R349). -/
def insertCompare (c : Compare) : List Compare → List Compare
  | [] => [c]
  | d :: ds => if c.target < d.target then c :: d :: ds else d :: insertCompare c ds

/-- A compare enters a queue with room (R349); with its target already passed it is late (R351). -/
def Work.enqueue (w : Work) (k : Nat) (c : Compare) : Work :=
  let w := (w.updMarker k (fun m => { m with queue := insertCompare c m.queue })).showQueue k
  if c.target ≤ w.reach k then
    (((w.flag (Obj.mqFlags k) 2).bump (Obj.lateCount k)).set (Obj.lateDist k) (w.reach k - c.target)).set (Obj.lateSeq k) c.seq
  else w

/-- Whether output k has room (R347). -/
def Work.markRoom (w : Work) (k : Nat) : Bool := decide ((w.marker k).queue.length < 64)

/-- A Ledger compare on output k, and whether it was accepted: enabled, in gate, with room (R348). -/
def Work.ledgerCompare (w : Work) (k : Nat) (seq cdMin cdMax : Nat) (md : Int) : Work × Bool :=
  if w.get (Obj.mkEnable k) = 0 || cdMax < w.getN (Obj.gateFirst k) || w.getN (Obj.gateLast k) < cdMin then (w, false)
  else if !w.markRoom k then ((w.flag (Obj.mqFlags k) 4).bump (Obj.mqFullCount k), false)
  else (w.enqueue k ⟨md + w.get (Obj.offset k), seq⟩, true)

/-- HC_TARGET: a host compare (R348). -/
def hcTarget (path : Path) (k : Fin 16) (v : Int) (w : Work) : Work :=
  w.writeNum path (Obj.hcTarget k) (.num v) (fun w _ => if w.mode.inspecting then none else some .mode)
    (fun v w => if w.markRoom k then w.enqueue k ⟨v % 2 ^ 56, 0⟩ else w.flag (Obj.mqFlags k) 4)

def execHcTarget (path : Path) (k : Fin 16) (v : Int) : State → Host.Outcome State Fault Refusal := onWork (hcTarget path k v)

/-- MQ_CLEAR: discards every entry. -/
def mqClear (path : Path) (k : Fin 16) (w : Work) : Work :=
  w.command path (Obj.mqClear k) 1 always (fun w => (w.updMarker k (fun m => { m with queue := [] })).showQueue k)

def execMqClear (path : Path) (k : Fin 16) : State → Host.Outcome State Fault Refusal := onWork (mqClear path k)

/-- Drive the output to its active level; a fire while it is active restarts the pulse (R352). -/
def Work.pulse (w : Work) (k : Nat) (target : Int) : Work :=
  (w.updMarker k (fun m => { m with active := true, since := w.clk.ctl, target := target })).startTimer (.markPulse k)

/-- Modes in which outputs fire (R354). -/
def Mode.marksFire (m : Mode) : Bool := m.drivesMarkers

/-- MARK_FIRE: on a control clock, every entry whose target P + λ has reached fires in one pulse (R350, R353). -/
def markFire (k : Fin 16) (w : Work) : Work :=
  let m := w.marker k
  let due := m.queue.filter (fun c => decide (c.target ≤ w.reach k))
  match due.getLast? with
  | none => w
  | some last =>
    if !w.mode.marksFire then w
    else
      let w := (w.updMarker k (fun m => { m with queue := m.queue.filter (fun c => !decide (c.target ≤ w.reach k)) })).showQueue k
      let w := ((w.bump (Obj.fires k) due.length).bump (Obj.merged k) (due.length - 1)).flag (Obj.mqFlags k) 1
      let w := (w.set (Obj.lastFirePos k) (Int.ofNat (field 56 last.target))).set (Obj.lastFireSeq k) last.seq
      (due.foldl (fun w _ => w.raise (72 + k)) w).pulse k last.target

def execMarkFire (k : Fin 16) : State → Host.Outcome State Fault Refusal := onWork (markFire k)

/-- MARK_FORCE: the task input fires the output without a queue entry; the pulse length counts from P (table Task inputs). -/
def Work.markForce (w : Work) (k : Nat) : Work :=
  if !w.mode.marksFire then w
  else (((w.bump (Obj.fires k)).flag (Obj.mqFlags k) 1).raise (72 + k)).pulse k (w.posAt w.clk.ctl)

/-- MARK_PULSE_END: PULSE_TIME has passed, or P has reached the fire's target plus PULSE_LEN (R352). -/
def markPulseEnd (k : Fin 16) (w : Work) : Work :=
  let m := w.marker k
  let past := if w.get (Obj.pulseMode k) = 0 then decide (m.since + nsClocks (w.getN (Obj.pulseTime k)) ≤ w.clk.ctl)
    else decide (m.target + w.get (Obj.pulseLen k) ≤ w.posAt w.clk.ctl)
  if m.active && past then (w.updMarker k (fun m => { m with active := false })).stopTimer (.markPulse k) else w

def execMarkPulseEnd (k : Fin 16) : State → Host.Outcome State Fault Refusal := onWork (markPulseEnd k)

/-- SAFE and a warm reset discard every queue and end every pulse; every queue is empty from HOLD downward (R354). -/
def Work.markersOff (w : Work) : Work :=
  (upTo 16).foldl (fun w k => (w.updMarker k (fun _ => {})).showQueue k) w

end Sys2Proof.Machine
end

