-- ==== Sys2Proof/Machine/MotionOps.lean ====
section
/-! DEFINITION. Step and direction axes (chapter 15, R357 to R370): speeds, joints, braking, starts and ends of moves, the queue. -/
namespace Sys2Proof.Machine

/-- Axis a. -/
def Work.ax (w : Work) (a : Nat) : MotionAxis := nth {} w.axes a

/-- Change axis a. -/
def Work.updAx (w : Work) (a : Nat) (f : MotionAxis → MotionAxis) : Work := { w with axes := upd w.axes a f }

/-- Bits of AX_FLAGS. -/
def afHalted : Nat := 0
def afLimit : Nat := 1
def afDrvFault : Nat := 2
def afStall : Nat := 3
def afFollow : Nat := 4
def afHomeFail : Nat := 5
def afQueueFull : Nat := 6

/-- Set a bit of AX_FLAGS; STALL, LIMIT, DRV_FAULT and HOME_FAIL raise AX_FAULT (table Event sources). -/
def Work.axFlag (w : Work) (a bit : Nat) : Work :=
  let w := w.flag (Obj.axFlags a) (2 ^ bit)
  if bit = afStall || bit = afLimit || bit = afDrvFault || bit = afHomeFail then w.raise (104 + a) else w

/-- Set AX_STATE. -/
def Work.axSt (w : Work) (a st : Nat) : Work := w.set (Obj.axState a) st

/-- POSITION. -/
def Work.axPos (w : Work) (a : Nat) : Int := w.get (Obj.axPosition a)

/-- The square root rounded down, by its bits from the highest. -/
def isqrtFrom : Nat → Nat → Nat → Nat
  | 0, _, r => r
  | b + 1, n, r =>
    let t := r + 2 ^ b
    isqrtFrom b n (if t * t ≤ n then t else r)

/-- The square root of a natural below 2^128, rounded down. -/
def isqrt (n : Nat) : Nat := isqrtFrom 64 n 0

/-- A speed in steps/s as 1/65,536 step/s. -/
def fx (v : Nat) : Nat := v * 65536

/-- √(v² + 2a) and √(v² − 2a) at the axis's resolution (R361). -/
def speedUp (v a : Nat) : Nat := isqrt (v * v + 2 * a * 65536 ^ 2)
def speedDown (v a : Nat) : Nat := isqrt (v * v - 2 * a * 65536 ^ 2)

/-- The least interval between steps (R358). -/
def Work.stepMin (w : Work) (a : Nat) : Nat := ceilDiv ctlHz (w.confN (Obj.maxStepRate a))

/-- The interval of a speed: 400,000,000 ÷ v rounded, never below I_min (R361). -/
def Work.stepInterval (w : Work) (a v : Nat) : Nat :=
  if v = 0 then 0 else max (w.stepMin a) ((2 * ctlHz * 65536 + v) / (2 * v))

/-- The sign of an integer. -/
def signOf (x : Int) : Int := if 0 < x then 1 else if x < 0 then -1 else 0

/-- HOMED. -/
def Work.axHomed (w : Work) (a : Nat) : Bool := w.get (Obj.homed a) = 1

/-- Whether a position lies beyond a soft limit that binds (R364). -/
def Work.beyondSoft (w : Work) (a : Nat) (x : Int) : Bool :=
  w.axHomed a && (decide (x < w.get (Obj.softMin a)) || decide (w.get (Obj.softMax a) < x))

/-- The direction of homing. -/
def Work.homeDirOf (w : Work) (a : Nat) : Int := if w.get (Obj.homeDir a) = 1 then 1 else -1

/-- The direction a move runs from a position. -/
def Work.moveDir (w : Work) (a : Nat) (m : Move) (x : Int) : Int :=
  match m.kind with
  | 3 => signOf m.target
  | 4 => if (w.ax a).home = 2 then -(w.homeDirOf a) else w.homeDirOf a
  | _ => match m.goal with
    | some g => signOf (g - x)
    | none => signOf m.target

/-- The steps left in the present move, none when it is unbounded; a velocity move's end lies at a binding soft limit (R361, R364). -/
def Work.stepsLeft (w : Work) (a : Nat) (m : Move) : Option Nat :=
  let x := w.axPos a
  match m.kind with
  | 3 => if w.axHomed a then
      some (if 0 < signOf m.target then (w.get (Obj.softMax a) - x).toNat else (x - w.get (Obj.softMin a)).toNat)
    else none
  | 4 => if (w.ax a).home = 2 then m.goal.map (fun g => (g - x).natAbs) else none
  | _ => m.goal.map (fun g => (g - x).natAbs)

/-- The joint speed of the head move with the one behind it (R362). -/
def Work.jointSpeed (w : Work) (a : Nat) : Nat :=
  match (w.ax a).queue with
  | m :: n :: _ =>
    if m.kind = 0 || m.kind = 3 || m.kind = 4 || n.sync || n.kind = 4 || n.kind = 0 then 0
    else match m.goal with
      | none => 0
      | some g =>
        if w.moveDir a n g ≠ (w.ax a).dir then 0
        else
          let cap := min (fx m.vmax) (min (fx n.vmax) (fx (w.getN (Obj.blendMax a))))
          match n.kind, n.goal with
          | 3, _ => cap
          | _, some e => min cap (isqrt (2 * n.decel * (e - g).natAbs * 65536 ^ 2))
          | _, none => 0
  | _ => 0

/-- The next speed after a step, or from rest (R361). -/
def Work.nextSpeed (w : Work) (a : Nat) (m : Move) (v : Nat) : Nat :=
  let vEnd := w.jointSpeed a
  let vStart := fx (w.getN (Obj.vStart a))
  let slow := match w.stepsLeft a m with
    | some n => decide (vEnd * vEnd + 2 * m.decel * n * 65536 ^ 2 ≤ v * v)
    | none => false
  if v = 0 then min (max vStart (isqrt (2 * m.accel * 65536 ^ 2))) (max (fx m.vmax) 1)
  else if slow then max (speedDown v m.decel) (max vEnd (max vStart (isqrt (2 * m.decel * 65536 ^ 2))))
  else if v < fx m.vmax then min (speedUp v m.accel) (fx m.vmax)
  else v

/-- Load the step timer for a speed, at least `wait` clocks away. -/
def Work.loadStep (w : Work) (a v wait : Nat) : Work :=
  let w := w.updAx a (fun x => { x with v := v, due := some (w.clk.ctl + max wait (w.stepInterval a v)) })
  w.set (Obj.velocity a) ((w.ax a).dir * ((v / 65536 : Nat) : Int))

/-- MOVES_QUEUED. -/
def Work.showMoves (w : Work) (a : Nat) : Work := w.set (Obj.movesQueued a) ((w.ax a).queue.length)

/-- The axis stands still (R367): with an empty queue AX_DONE is raised and the standstill timer starts. -/
def Work.standstill (w : Work) (a : Nat) : Work :=
  let w := w.updAx a (fun x => { x with running := false, v := 0, due := none, home := if x.queue.isEmpty then 0 else x.home })
  let w := (w.set (Obj.velocity a) 0).showMoves a
  if (w.ax a).queue.isEmpty then ((w.axSt a 1).raise (88 + a)).startTimer (.standstill a) else w.axSt a 1

/-- Steps a braking from speed v at a deceleration takes (R360). -/
def brakeSteps (v decel : Nat) : Nat := v * v / (2 * decel * 65536 ^ 2)

/-- Replace the present move with a braking to rest at a deceleration, the given moves behind it (R363, R366). -/
def Work.brake (w : Work) (a decel : Nat) (rest : List Move) : Work :=
  let x := w.ax a
  if !x.running || x.v = 0 then (w.updAx a (fun x => { x with queue := rest, home := 0 })).standstill a
  else
    let goal := w.axPos a + x.dir * (brakeSteps x.v decel : Int)
    let m : Move := { kind := 0, target := goal, vmax := x.v / 65536, accel := 1, decel := decel, sync := false, goal := some goal }
    if brakeSteps x.v decel = 0 then (w.updAx a (fun x => { x with queue := rest, home := 0 })).standstill a
    else ((w.updAx a (fun x => { x with queue := m :: rest, home := 0 })).axSt a 4).showMoves a

/-- Start the head move, from standstill or from speed v at a joint. A velocity move with a later one behind it has ended already; a relative
move whose start was open is fixed here, its limits checked (R360, R363). The fuel is the queue's length. -/
def Work.startHead (w : Work) (a : Nat) : Nat → Work
  | 0 => w
  | fuel + 1 =>
    let x := w.ax a
    match x.queue with
    | [] => w.standstill a
    | m :: rest =>
      if !x.enabled || w.get (Obj.axState a) = 5 then w
      else if m.kind = 3 && !rest.isEmpty then
        (w.updAx a (fun x => { x with queue := rest })).startHead a fuel
      else
        let m := if m.kind = 2 && m.goal.isNone then { m with goal := some (w.axPos a + m.target) } else m
        let beyond := match m.kind, m.goal with
          | 2, some g => w.beyondSoft a g
          | _, _ => false
        if beyond then (w.axFlag a afLimit).brake a m.decel []
        else
          let d := if m.kind = 4 && x.home = 0 then w.homeDirOf a else w.moveDir a m (w.axPos a)
          let arrived := (w.stepsLeft a m) = some 0 || (d = 0)
          let w := w.updAx a (fun x => { x with queue := m :: rest })
          if arrived && m.kind ≠ 4 then
            (w.updAx a (fun x => { x with queue := rest })).startHead a fuel
          else if m.sync && !x.running then w.standstill a
          else if x.v ≠ 0 && d ≠ x.dir then w.brake a m.decel (m :: rest)
          else if x.cr then
            -- AXa_CR falls; the first step follows CR_WAKE later (R367)
            ((w.updAx a (fun x => { x with cr := false })).stopTimer (.standstill a)).startTimer (.crWake a)
          else
            let turn := decide (d ≠ x.dir)
            let w := w.stopTimer (.standstill a)
            let w := w.updAx a (fun y => { y with
              running := true
              dir := d
              since := if y.v = 0 then 0 else y.since
              home := if m.kind = 4 && y.home = 0 then 1 else y.home
              travelled := if m.kind = 4 && y.home = 0 then 0 else y.travelled
              dirPin := decide (d = 1) != decide (w.conf (Obj.dirInvert a) = 1) })
            let w := w.axSt a (if m.kind = 4 then 3 else 2)
            ((w.loadStep a (w.nextSpeed a m (w.ax a).v) (if turn then w.getN (Obj.dirSetup a) else 0))).showMoves a

/-- The head move ends: the next starts, at the joint speed when it runs on, or the axis stands still (R361, R362). -/
def Work.endMove (w : Work) (a : Nat) (keepSpeed : Bool) : Work :=
  let w := w.updAx a (fun x => { x with
    queue := x.queue.tail
    running := keepSpeed && x.running
    v := if keepSpeed then x.v else 0
    due := none
    home := 0 })
  let w := w.showMoves a
  match (w.ax a).queue with
  | [] => w.standstill a
  | m :: _ =>
    let runsOn := keepSpeed && !m.sync && w.moveDir a m (w.axPos a) = (w.ax a).dir
    let w := if runsOn then w else w.updAx a (fun x => { x with running := false, v := 0 })
    w.startHead a ((w.ax a).queue.length + 1)

/-- Stop without ramp: no further step, the queue empty, HALTED (R364, R366, R369). -/
def Work.haltAxis (w : Work) (a : Nat) : Work :=
  let w := w.axFlag a afHalted
  let moving := (w.ax a).running
  let w := w.updAx a (fun x => { x with queue := [], running := false, v := 0, due := none, home := 0 })
  let w := (w.set (Obj.velocity a) 0).showMoves a
  if w.get (Obj.axState a) = 0 || w.get (Obj.axState a) = 5 then w
  else if moving then w.standstill a else w.axSt a 1

/-- Disable an axis: halted, its coils by the policy of its group (R366, R370). -/
def Work.disableAxis (w : Work) (a st : Nat) : Work :=
  let w := w.haltAxis a
  let w := w.updAx a (fun x => { x with enabled := false, cr := false, shorted := w.get (Obj.groupPolicy (a / 4)) = 1 })
  ((w.axSt a st).stopTimer (.standstill a)).stopTimer (.crWake a)

/-- The end position behind which a relative move starts (R360): the last move's, none behind a velocity move; POSITION at standstill. -/
def Work.queueEnd (w : Work) (a : Nat) : Option Int :=
  match (w.ax a).queue.getLast? with
  | none => some (w.axPos a)
  | some m => match m.kind with
    | 3 => none
    | 4 => some (w.get (Obj.homePos a) - w.homeDirOf a * w.get (Obj.homeBackoff a))
    | _ => m.goal

/-- Modes in which axes run (R371). -/
def Mode.axesRun : Mode → Bool
  | .ready => true | .calDark => true | .calFlat => true | .calGeom => true | .inspect => true | .degraded => true | _ => false

/-- Push a move: the new state and MV_RESULT (R359, R360, R363, R364). -/
def Work.pushMove (w : Work) (a : Nat) (m : Move) : Work :=
  let x := w.ax a
  let goal := match m.kind with
    | 1 => some m.target
    | 2 => (w.queueEnd a).map (· + m.target)
    | 4 => none
    | _ => none
  let beyond := match goal with
    | some g => w.beyondSoft a g
    | none => false
  let put := fun (w : Work) (r : Nat) => w.set (Obj.mvResult a) r
  if !w.mode.axesRun then put w 7
  else if !x.enabled || w.get (Obj.axState a) = 5 then put w 6
  else if 32 ≤ x.queue.length then put (w.axFlag a afQueueFull) 3
  else if m.kind = 1 && !w.axHomed a then put w 5
  else if beyond then put w 4
  else
    let m := { m with goal := goal }
    let w := put (w.updAx a (fun x => { x with queue := x.queue ++ [m] })) 1
    let w := w.showMoves a
    match (w.ax a).queue with
    | h :: _ :: _ =>
      -- a running velocity move ends as a later one is queued (R363)
      if x.running && h.kind = 3 then
        if (if m.kind = 4 then false else decide (w.moveDir a m (w.axPos a) = x.dir)) && !m.sync then
          (w.updAx a (fun x => { x with queue := x.queue.tail })).startHead a 33
        else w.brake a h.decel ((w.ax a).queue.tail)
      else w
    | _ => if x.running || w.running (.crWake a) then w else w.startHead a 33

end Sys2Proof.Machine
end

