-- ==== Sys2Proof/Machine/CalOps.lean ====
section
/-! DEFINITION. What calibration shares with other chapters (chapter 08): sets and their images, the states of a calibration, its failure
and its end, and the triggers a camera receives. -/
namespace Sys2Proof.Machine

/-! ### Sets, maps and images (R175, R178, R202, R212, R213) -/

/-- The shape of a port's correction set under the configuration in force. -/
def Work.shapeOf (w : Work) (p : Nat) : CalSet :=
  { depth := w.confN (Obj.portDepth p), tagCount := w.confN (Obj.tagCount p), fieldCount := w.fieldsOf p
    tagPixels := (upTo 8).map (fun t => if t < w.confN (Obj.tagCount p) then w.tagPx p t else 0) }

/-- Whether two sets have one shape (R554). -/
def CalSet.sameShape (a b : CalSet) : Bool :=
  a.depth == b.depth && a.tagCount == b.tagCount && a.fieldCount == b.fieldCount && a.tagPixels == b.tagPixels

/-- The words a shape takes (R175). -/
def CalSet.size (c : CalSet) : Nat := sumNat c.tagPixels * c.fieldCount

/-- The map entries of a byte string of R178 entries. -/
def mapOfBytes (b : Bytes) : List Nat := bytesWords b

/-- A map is sorted by tag and pixel without repeats and names only pixels of active tags; reserved bits are 0 (R178). -/
def mapOk (c : CalSet) : List Nat → Option Nat → Bool
  | [], _ => true
  | e :: es, last =>
    let t := bitsOf e 16 3
    let key := t * 32768 + e % 32768
    bitsOf e 15 1 == 0 && bitsOf e 19 11 == 0 && decide (t < c.tagCount) && decide (e % 32768 < nth 0 c.tagPixels t) &&
      (match last with
        | some k => decide (k < key)
        | none => true) && mapOk c es (some key)

/-- A fresh working set: identity words, and a map (R202). -/
def Work.freshSet (w : Work) (p : Nat) (map : List Nat) : CalSet :=
  let s := w.shapeOf p
  { s with words := List.replicate s.size 0x40000000, map := map, originSerial := Config.serial.toNat }

/-- A copy of the committed set (R202). -/
def Work.copySet (w : Work) (p : Nat) : CalSet :=
  let c := w.setAt p w.frame
  if c.words.isEmpty then w.freshSet p [] else c

/-- The header, body and trailer of an export (R212). -/
def setImage (kind port gen : Nat) (created effFrame serial origin : Nat) (depth tags fields entries : Nat) (tagPx : List Nat)
    (flags : Nat) (body : Bytes) : Bytes :=
  let head := leBytes 64 (packBits ([(0, 32, 0x4C435A54), (56, 8, kind), (64, 16, 1), (80, 8, port), (88, 8, depth), (96, 8, tags),
    (104, 8, fields), (112, 16, entries)] ++ (tagPx.zipIdx.map (fun e => (128 + 16 * e.2, 16, e.1))) ++
    [(256, 32, body.length), (288, 32, gen), (320, 32, origin), (352, 32, serial), (384, 16, flags), (400, 48, effFrame), (448, 64, created)]))
  head ++ body ++ leBytes 16 (packBits [(0, 32, 0x444E455A), (32, 32, body.length), (64, 32, gen), (96, 32, (crc32 (head ++ body)).toNat)])

/-- The image of a correction set. -/
def CalSet.image (c : CalSet) (p : Nat) (committed : Bool) (now : Nat) : Bytes :=
  setImage 0 p (if committed then c.gen else 0) (if committed then c.created else now) (if committed then c.effFrame else noFrame)
    c.originSerial c.originGen c.depth c.tagCount c.fieldCount c.map.length c.tagPixels (c.flags committed)
    (wordsBytes (c.words ++ c.map))

/-- The image of a geometry set. -/
def GeomSet.image (g : GeomSet) : Bytes :=
  setImage 1 0xFF g.gen g.created g.effFrame g.originSerial g.originGen 0 0 0 0 [] (8 + (if g.imported then 16 else 0))
    ((g.recs.map (leBytes 64)).flatten)

/-- The checks a host makes on a saved file, made on a download (R212, R213): the body length, or none. -/
def imageBody (kind : Nat) (b : Bytes) : Option Nat :=
  let n := leAt b 32 4
  let t := 64 + n
  if b.length < 80 || b.length ≠ 80 + n || leAt b 0 4 ≠ 0x4C435A54 || leAt b t 4 ≠ 0x444E455A || leAt b (t + 4) 4 ≠ n ||
    leAt b (t + 8) 4 ≠ leAt b 36 4 || leAt b (t + 12) 4 ≠ crc32 (b.take t) || leAt b 7 1 ≠ kind || leAt b 8 2 ≠ 1 then none
  else some n

/-- The correction set an image carries. -/
def setOfImage (b : Bytes) : CalSet :=
  let n := leAt b 14 2
  let ws := bytesWords (slice b 64 (leAt b 32 4))
  { depth := leAt b 11 1, tagCount := leAt b 12 1, fieldCount := leAt b 13 1, tagPixels := (upTo 8).map (fun t => leAt b (16 + 2 * t) 2)
    dark := bitOf (leAt b 48 1) 0, flat := bitOf (leAt b 48 1) 1, imported := true
    originSerial := leAt b 44 4, originGen := leAt b 40 4, words := ws.take (ws.length - n), map := ws.drop (ws.length - n) }

/-! ### States of a calibration (R197) -/

/-- CAL_STATE: the least advanced state of the device-wide calibrations that run, 0 when none does (R197). -/
def Work.showCal (w : Work) : Work :=
  let run := (upTo 32).filter (fun p => (w.calOf p).device && (w.calOf p).kind ≠ 0)
  w.set Obj.calState (((leastOf (run.map (fun p => w.getN (Obj.pcalState p)))).getD 0 : Nat) : Int)

/-- Set PCAL_STATE. -/
def Work.pcal (w : Work) (p st : Nat) : Work := (w.set (Obj.pcalState p) st).showCal

/-- Whether flat calibration of a port carries its target on the traverse axis (R200). -/
def Work.traverse (w : Work) (p : Nat) : Option Nat :=
  let a := w.getN Obj.travAxis
  if (w.calOf p).kind = 2 && a < 16 then some a else none

/-- Send the traverse axis to a position, unless it is on its way there already. -/
def Work.sendAxis (w : Work) (a : Nat) (x : Int) : Work :=
  let going := match (w.ax a).queue.getLast? with
    | some m => m.goal == some x
    | none => false
  if going then w
  else w.pushMove a { kind := 1, target := x, vmax := w.getN (Obj.mvVmax a), accel := w.getN (Obj.mvAccel a),
                      decel := w.getN (Obj.mvDecel a), sync := false }

/-- The position of traverse stop i. -/
def Work.stopPos (w : Work) (i : Nat) : Int := w.get Obj.travStart + i * w.get Obj.travStep

/-- Enter WAIT_REF: CAL_WAIT is raised and REF_TIMEOUT runs (R199). -/
def Work.waitRef (w : Work) (p : Nat) : Work := ((w.pcal p pcWaitRef).raise 4).startTimer (.refPcal p)

/-- The reference counts as in place: SETTLE (R199). -/
def Work.settle (w : Work) (p : Nat) : Work :=
  let w := w.updCal p (fun c => { c with trigs := 0, ready := false, acc := w.emptySums p, gen := none, restarts := 0 })
  (w.pcal p pcSettle).stopTimer (.refPcal p)

/-- Start a calibration of a port (R196, R202): the working set is opened by copy when none is open. -/
def Work.calStart (w : Work) (p kind : Nat) (device : Bool) (n : Nat) : Work :=
  let old := if kind = 3 then none else if w.get (Obj.workState p) = 0 then some (w.copySet p) else (w.calOf p).work
  let w := w.updCal p (fun c => { sets := c.sets, badWords := c.badWords, work := old, before := old, kind := kind, device := device, startAt := n })
  let w := (w.set (Obj.calResult p) 1).set (Obj.calFirstFrame p) n
  if kind = 3 then w else w.set (Obj.workState p) 2

/-- A calibration record (R289). -/
def Work.calRecord (w : Work) (p : Nat) : Work :=
  w.event { event := 0x03, frame := w.getN (Obj.calLastFrame p),
            d0 := p + 2 ^ 8 * (w.calOf p).kind + 2 ^ 16 * w.getN (Obj.calResult p),
            d1 := if (w.calOf p).kind = 3 then w.getN Obj.geomGen else w.getN (Obj.activeGen p), d2 := w.getN (Obj.calFirstFrame p) }

/-- The frame m at which a port returns to stitching (R198). -/
def Work.returnFrame (w : Work) (p : Nat) : Nat :=
  let s := maxNat ((w.portSensors p).map w.staggerOf)
  match w.axis.last with
  | none => w.frame
  | some k => if k < s then 0 else (k - s) / w.frameLen + 1

/-- RETURN: frame m is fixed, and the exclusion ends there (R198). -/
def Work.toReturn (w : Work) (p : Nat) : Work :=
  let m := max (w.returnFrame p) ((w.calOf p).startAt)
  let w := (w.pcal p pcReturn).set (Obj.calLastFrame p) (Int.ofNat (m - 1))
  let w := w.updCal p (fun c => { c with backAt := some m })
  let w := w.closeExcl p 7 m
  (w.stopTimer (.refPcal p)).calRecord p

/-- When no device-wide calibration runs any more, the module returns to READY (R70 cause 9, R194). -/
def Work.calModeEnd (w : Work) : Work :=
  if w.mode.calibrating && !(upTo 32).any (fun p => (w.calOf p).device && (w.calOf p).kind ≠ 0) then w.modeTo .ready 9 else w

/-- A device-wide calibration of a port ends (R194, R198). -/
def Work.deviceEnd (w : Work) (p : Nat) : Work :=
  let w := (w.set (Obj.calLastFrame p) w.frame).calRecord p
  let w := w.updCal p (fun c => { c with kind := 0, ready := false })
  ((w.pcal p pcIdle).stopTimer (.refPcal p)).calModeEnd

/-- A calibration ends COMPLETE or failed: device-wide at once; per port through WAIT_REMOVAL when its reference was in place (R197, R198). -/
def Work.calEnd (w : Work) (p : Nat) : Work :=
  let st := w.getN (Obj.pcalState p)
  let w := w.updCal p (fun c => { c with ready := false })
  if (w.calOf p).device then
    let w := match w.traverse p with
      | some a => w.sendAxis a (w.get Obj.travPark)
      | none => w
    w.deviceEnd p
  else if st ≤ pcWaitRef then w.toReturn p
  else
    let w := match w.traverse p with
      | some a => w.sendAxis a (w.get Obj.travPark)
      | none => w
    (w.pcal p pcWaitRemoval).startTimer (.refPcal p)

/-- A calibration fails with a code: the working set keeps the values it held before (R206). -/
def Work.calFails (w : Work) (p code : Nat) : Work :=
  if (w.calOf p).kind = 0 || (w.calOf p).failed && pcCompute < w.getN (Obj.pcalState p) then w
  else
    let geometry := decide ((w.calOf p).kind = 3)
    let w := w.calFail p code
    (if geometry then w else w.updCal p (fun c => { c with work := c.before })).calEnd p

/-- A stall, a limit or a drive fault on the traverse axis fails the calibrations that use it with code 14 (R200). -/
def Work.traverseFault (w : Work) (a : Nat) : Work :=
  (upTo 32).foldl (fun w p =>
    if w.traverse p = some a && pcIdle < w.getN (Obj.pcalState p) && w.getN (Obj.pcalState p) < pcWaitRemoval then
      (w.calFails p 14).sendAxis a (w.get Obj.travPark)
    else w) w

/-- A STOP at a frame boundary and SAFE abort per-port calibrations; SAFE aborts every calibration (R214). -/
def Work.abortCals (w : Work) (perPortOnly : Bool) : Work :=
  (upTo 32).foldl (fun w p =>
    let c := w.calOf p
    if c.kind = 0 || (perPortOnly && c.device) then w
    else
      let w := if w.getN (Obj.pcalState p) < pcWaitRemoval then (w.calFail p 3).updCal p (fun c => { c with work := if c.kind = 3 then c.work else c.before }) else w
      let w := match w.traverse p with
        | some a => w.sendAxis a (w.get Obj.travPark)
        | none => w
      let w := w.closeExcl p 7 w.frame
      let w := (w.set (Obj.calLastFrame p) (Int.ofNat (w.frame - 1))).calRecord p
      ((w.updCal p (fun c => { c with kind := 0, ready := false, backAt := none })).pcal p pcIdle).stopTimer (.refPcal p)) w

/-! ### Triggers toward the camera (R148, R163, R195, R555, R557) -/

/-- Whether a web line lies after a STOP and before the next START: no camera is called for it, but in the CAL modes (R555). -/
def Work.lineStopped (w : Work) (line : Nat) : Bool :=
  !w.mode.calibrating && (match w.run.spans.find? (fun s => decide (s.1 * w.frameLen ≤ line)) with
    | some (_, some e) => decide (e * w.frameLen ≤ line)
    | _ => false)

/-- The web line a tag's answer to trigger k receives, if its camera is called for it: not below 0, nor past the lines of a STOP (R17, R555). -/
def Work.calledLine (w : Work) (p t k : Nat) : Option Nat :=
  let s := w.staggerOf (w.sensorOf p t)
  if k < s || w.lineStopped (k - s) then none else some (k - s)

/-- The field called for (R141, R148). -/
def Work.calledField (w : Work) (p t : Nat) (line : Nat) : Nat :=
  if w.fieldModeOf p = 2 then t else w.fieldOfLine p line

/-- Send trigger k, or calibration count k, to port p: one TRIGGER block or trigger packet for every tag called, and an outstanding trigger
for each; a suspended port's lines are written as port suspended (R148, R150, R163, R169). -/
def Work.triggerPort (w : Work) (p k : Nat) (timer : Bool) : Work :=
  if !w.portActive p then w
  else
    let calls := (w.tagsOf p).filterMap (fun t =>
      if timer then some (t, (none : Option Nat), w.calledField p t k)
      else (w.calledLine p t k).map (fun l => (t, some l, w.calledField p t l)))
    match calls with
    | [] => w
    | (t0, l0, f0) :: _ =>
      let frameOfCall := fun (l : Option Nat) => match l with
        | some l => w.frameOf l
        | none => w.frame
      let suspended := w.excludedAt p (frameOfCall l0) == some 6
      let seq := if timer then k % 65536 else field 16 ((k : Int) - w.staggerOf (w.sensorOf p 0))
      let gen := w.expGenAt p (frameOfCall l0)
      if suspended then
        calls.foldl (fun w c => w.rxPush p { k := k, line := c.2.1, tag := c.1, field := c.2.2, state := 7, valid := 0,
                                             gen := w.expGenAt p (frameOfCall c.2.1) }) w
      else
        let mask := sumNat (calls.map (fun c => 2 ^ c.1))
        let blockField := if w.fieldModeOf p = 2 then 0 else f0
        let w := if w.portCxp p then w.send (.cxpTrigger p)
          else w.send (.trigger p (BitVec.ofNat 64 (packBits [(0, 8, 0xA5), (8, 3, blockField), (16, 8, mask), (32, 16, seq), (48, 8, gen)])))
        let w := if w.get (Obj.portState p) = 4 then w.set (Obj.portState p) 5 else w
        let _ := t0
        calls.foldl (fun w c => w.addTrig p c.1
          { seq := seq, k := k, line := c.2.1, field := c.2.2, gen := w.expGenAt p (frameOfCall c.2.1), sentAt := w.clk.ctl }) w

/-- Triggers count toward SETTLE_LINES in every calibration that settles (R197). -/
def Work.settleTick (w : Work) : Work :=
  { w with cal := w.cal.map (fun c => if c.kind ≠ 0 && !c.ready then { c with trigs := c.trigs + 1 } else c) }

end Sys2Proof.Machine
end

