-- ==== Sys2Proof/Machine/Calibration.lean ====
section
/-! DEFINITION. Calibration (chapter 08, R193 to R215, R554): per-port and device-wide calibration, confirmation, the traverse, dark and flat
computation, working sets, commit, exports and imports, the geometry fit. -/
namespace Sys2Proof.Machine

/-! ### Per-port calibration (R196, R198) -/

/-- The check of PCAL_CMD (R196). -/
def pcalCheck (p : Nat) (start : Bool) (w : Work) : Option Res :=
  if !w.mode.inspecting && w.mode != .shadow then some .mode
  else if !start then none
  else if (w.calOf p).kind ≠ 0 then some .busy
  else if (w.port p).suspended || (w.port p).suspendAt.isSome || !w.portActive p then some .inconsistent
  else none

/-- An accepted PCAL_CMD 1 or 2: the port is excluded from frame n = p+1 (R196). -/
def Work.pcalAccept (w : Work) (p kind : Nat) : Work :=
  let n := w.frame + 1
  let w := w.calStart p kind false n
  { w with loom := { w.loom with excl := ⟨p, 7, n, none⟩ :: w.loom.excl } }

/-- PCAL_DARK: PCAL_CMD 1. -/
def pcalDark (path : Path) (p : PortNo) (w : Work) : Work :=
  w.command path (Obj.pcalCmd p) 1 (pcalCheck p true) (fun w => w.pcalAccept p 1) (some (w.frame + 1))

def execPcalDark (path : Path) (p : PortNo) : State → Host.Outcome State Fault Refusal := onWork (pcalDark path p)

/-- PCAL_FLAT: PCAL_CMD 2. -/
def pcalFlat (path : Path) (p : PortNo) (w : Work) : Work :=
  w.command path (Obj.pcalCmd p) 2 (pcalCheck p true) (fun w => w.pcalAccept p 2) (some (w.frame + 1))

def execPcalFlat (path : Path) (p : PortNo) : State → Host.Outcome State Fault Refusal := onWork (pcalFlat path p)

/-- PCAL_ABORT: PCAL_CMD 4 ends a running per-port calibration with code 3 (R196, R198). -/
def pcalAbort (path : Path) (p : PortNo) (w : Work) : Work :=
  w.command path (Obj.pcalCmd p) 4 (pcalCheck p false)
    (fun w => if (w.calOf p).kind = 0 || (w.calOf p).device || pcWaitRemoval ≤ w.getN (Obj.pcalState p) then w else w.calFails p 3)
    (some w.frame)

def execPcalAbort (path : Path) (p : PortNo) : State → Host.Outcome State Fault Refusal := onWork (pcalAbort path p)

/-- PCAL_EXCLUSION_START: at frame n the calibration enters WAIT_REF (R196, R197). -/
def pcalExclusionStart (p : PortNo) (w : Work) : Work :=
  let c := w.calOf p
  if c.kind = 0 || c.device || c.backAt.isSome || w.getN (Obj.pcalState p) ≠ pcIdle || w.frame < c.startAt then w
  else w.waitRef p

def execPcalExclusionStart (p : PortNo) : State → Host.Outcome State Fault Refusal := onWork (pcalExclusionStart p)

/-- PCAL_RETURN: frame m begins, and the port is stitched again (R198). -/
def pcalReturn (p : PortNo) (w : Work) : Work :=
  match (w.calOf p).backAt with
  | some m =>
    if m ≤ w.frame then (w.updCal p (fun c => { c with kind := 0, backAt := none })).pcal p pcIdle else w
  | none => w

def execPcalReturn (p : PortNo) : State → Host.Outcome State Fault Refusal := onWork (pcalReturn p)

/-- Trigger n·F + s_c, with s_c the least stagger of the port's tags, sends the traverse axis to its first stop (R200). -/
def Work.traverseStart (w : Work) (p k : Nat) : Work :=
  let c := w.calOf p
  let s := (leastOf ((w.portSensors p).map w.staggerOf)).getD 0
  match w.traverse p with
  | some a => if !c.device && !c.moved && w.getN (Obj.pcalState p) = pcWaitRef && c.startAt * w.frameLen + s ≤ k then
      (w.updCal p (fun c => { c with moved := true })).sendAxis a (w.stopPos 0)
    else w
  | none => w

/-! ### Confirmation (R199) -/

/-- Whether a calibration waits for a confirmation of its reference: it rides on no traverse axis. -/
def Work.waitsFor (w : Work) (p st : Nat) : Bool :=
  (w.calOf p).kind ≠ 0 && w.getN (Obj.pcalState p) == st && (w.traverse p).isNone

/-- Confirm that a port's reference is in place. -/
def Work.confirmIn (w : Work) (p : Nat) : Work := if w.waitsFor p pcWaitRef then w.settle p else w

/-- Confirm that a port's reference is removed. -/
def Work.confirmOut (w : Work) (p : Nat) : Work := if w.waitsFor p pcWaitRemoval then w.toReturn p else w

/-- Every port under device-wide calibration. -/
def Work.devicePorts (w : Work) : List Nat := (upTo 32).filter (fun p => (w.calOf p).device)

/-- The CAL_CONFIRM task input: the confirmation every waiting calibration expects (R199). -/
def Work.confirmTask (w : Work) : Work := (upTo 32).foldl (fun w p => (if w.waitsFor p pcWaitRef then w.confirmIn p else w.confirmOut p)) w

/-- CAL_CONFIRM_IN_PLACE: CAL_CONFIRM 1. -/
def calConfirmInPlace (path : Path) (w : Work) : Work :=
  w.command path Obj.calConfirm 1 always (fun w => w.devicePorts.foldl (fun w p => w.confirmIn p) w)

def execCalConfirmInPlace (path : Path) : State → Host.Outcome State Fault Refusal := onWork (calConfirmInPlace path)

/-- CAL_CONFIRM_REMOVED: CAL_CONFIRM 2; in the CAL modes WAIT_REMOVAL is skipped, so nothing device-wide waits for it (R197). -/
def calConfirmRemoved (path : Path) (w : Work) : Work :=
  w.command path Obj.calConfirm 2 always (fun w => w.devicePorts.foldl (fun w p => w.confirmOut p) w)

def execCalConfirmRemoved (path : Path) : State → Host.Outcome State Fault Refusal := onWork (calConfirmRemoved path)

/-- PCAL_CONFIRM_IN_PLACE: PCAL_CONFIRM 1. -/
def pcalConfirmInPlace (path : Path) (p : PortNo) (w : Work) : Work :=
  w.command path (Obj.pcalConfirm p) 1 always (fun w => w.confirmIn p)

def execPcalConfirmInPlace (path : Path) (p : PortNo) : State → Host.Outcome State Fault Refusal := onWork (pcalConfirmInPlace path p)

/-- PCAL_CONFIRM_REMOVED: PCAL_CONFIRM 2. -/
def pcalConfirmRemoved (path : Path) (p : PortNo) (w : Work) : Work :=
  w.command path (Obj.pcalConfirm p) 2 always (fun w => w.confirmOut p)

def execPcalConfirmRemoved (path : Path) (p : PortNo) : State → Host.Outcome State Fault Refusal := onWork (pcalConfirmRemoved path p)

/-- CAL_REF_TIMEOUT: REF_TIMEOUT passes in WAIT_REF or WAIT_REMOVAL: code 4; a calibration that failed before keeps its code (R198, R199). -/
def calRefTimeout (p : PortNo) (w : Work) : Work :=
  if (w.calOf p).kind = 0 || !w.expired (.refPcal p) (w.getN Obj.refTimeout * 1000000) then w
  else if w.getN (Obj.pcalState p) = pcWaitRef then w.calFails p 4
  else if w.getN (Obj.pcalState p) = pcWaitRemoval then
    let w := if (w.calOf p).failed then w else (w.calFail p 4).updCal p (fun c => { c with work := c.before })
    w.toReturn p
  else w

def execCalRefTimeout (p : PortNo) : State → Host.Outcome State Fault Refusal := onWork (calRefTimeout p)

/-! ### Settling, stops and accumulation (R197, R200, R201) -/

/-- CAL_TRAVERSE_STOP: the traverse axis stands at the stop the calibration expects, or at TRAV_PARK (R197, R200). -/
def calTraverseStop (p : PortNo) (w : Work) : Work :=
  match w.traverse p with
  | none => w
  | some a =>
    let st := w.getN (Obj.pcalState p)
    if (w.ax a).running || !(w.ax a).queue.isEmpty then w
    else if st = pcWaitRef && w.axPos a = w.stopPos 0 then w.settle p
    else if st = pcAccum && !(w.calOf p).ready && !(w.calOf p).moved && w.axPos a = w.stopPos (w.calOf p).stop then
      w.updCal p (fun c => { c with moved := true, trigs := 0 })
    else if st = pcWaitRemoval && w.axPos a = w.get Obj.travPark then w.toReturn p
    else w

def execCalTraverseStop (p : PortNo) : State → Host.Outcome State Fault Refusal := onWork (calTraverseStop p)

/-- CAL_SETTLE_DONE: SETTLE_LINES triggers have passed at the stop: lines are summed (R197). -/
def calSettleDone (p : PortNo) (w : Work) : Work :=
  let c := w.calOf p
  let st := w.getN (Obj.pcalState p)
  if c.kind = 0 || c.ready || c.trigs < w.getN Obj.settleLines then w
  else if st = pcSettle || (st = pcAccum && c.moved) then
    (w.updCal p (fun c => { c with ready := true, acc := w.emptySums p, gen := none, restarts := 0 })).pcal p pcAccum
  else w

def execCalSettleDone (p : PortNo) : State → Host.Outcome State Fault Refusal := onWork (calSettleDone p)

/-- Whether every tag and field has its N lines at this stop. -/
def Work.allSummed (w : Work) (p : Nat) : Bool :=
  (w.tagsOf p).all (fun t => if w.fieldModeOf p = 2 then w.accFull p t t else (upTo (w.calFields p)).all (fun f => w.accFull p t f))

/-- S of a pixel at a stop: Σx − N·OFFSET (R205). -/
def sOf (n sum : Nat) (word : Nat) : Int := (sum : Int) - n * signed 16 (word % 65536)

/-- The pixels of a stop take its S where none was taken and S is at least N·FLAT_MIN (R205). -/
def Work.takeStop (w : Work) (p : Nat) : Work :=
  let n : Nat := 2 ^ w.getN (Obj.accLines p)
  let floor : Int := (n : Int) * w.get (Obj.flatMin p)
  let c := w.calOf p
  let words := (c.work.map (fun s => s.words)).getD []
  let taken := if c.taken.isEmpty then List.replicate c.acc.sums.length none else c.taken
  let satur := if c.satur.isEmpty then List.replicate c.acc.sums.length 0 else c.satur
  let now := (upTo c.acc.sums.length).map (fun i =>
    let s := sOf n (nth 0 c.acc.sums i) (nth 0 words i)
    if (nth none taken i).isSome || s < floor then (nth none taken i, nth 0 satur i) else (some s.toNat, nth 0 c.acc.full i))
  w.updCal p (fun c => { c with taken := now.map (fun e => e.1), satur := now.map (fun e => e.2) })

/-- CAL_ACCUMULATE_DONE: the stop's lines are summed: the next stop, or COMPUTE; an accumulation that failed ends (R197, R200, R201). -/
def calAccumulateDone (p : PortNo) (w : Work) : Work :=
  let c := w.calOf p
  if c.kind = 0 || w.getN (Obj.pcalState p) ≠ pcAccum || c.kind = 3 then w
  else if c.failed then (w.updCal p (fun c => { c with work := c.before })).calEnd p
  else if !c.ready || !w.allSummed p then w
  else
    let w := if c.kind = 2 then w.takeStop p else w
    let w := w.updCal p (fun c => { c with ready := false })
    match w.traverse p with
    | some a =>
      if c.stop + 1 < w.getN Obj.travStops then
        (w.updCal p (fun c => { c with stop := c.stop + 1, moved := false })).sendAxis a (w.stopPos (c.stop + 1))
      else w.pcal p pcCompute
    | none => w.pcal p pcCompute

def execCalAccumulateDone (p : PortNo) : State → Host.Outcome State Fault Refusal := onWork (calAccumulateDone p)

/-- A whole frame with the link down while a port accumulates fails it with code 12 (R201). -/
def Work.calLinkBoundary (w : Work) : Work :=
  (upTo 32).foldl (fun w p =>
    if (w.calOf p).kind ≠ 0 && w.getN (Obj.pcalState p) = pcAccum && 2 ≤ (w.port p).downBounds then w.calFails p 12 else w) w

/-! ### Computation (R204 to R206) -/

/-- Insert into a rising list. -/
def insertNat (x : Nat) : List Nat → List Nat
  | [] => [x]
  | y :: ys => if x ≤ y then x :: y :: ys else y :: insertNat x ys

/-- Sort rising. -/
def sortNat (xs : List Nat) : List Nat := xs.foldr insertNat []

/-- The median: the lower of the two middle values of an even number. -/
def medianOf (xs : List Nat) : Nat := nth 0 (sortNat xs) ((xs.length - 1) / 2)

/-- The tags and fields of a port's planes. -/
def Work.planes (w : Work) (p : Nat) : List (Nat × Nat) :=
  (w.tagsOf p).flatMap (fun t => if w.fieldModeOf p = 2 then [(t, t)] else (upTo (w.calFields p)).map (fun f => (t, f)))

/-- The key by which map entries sort. -/
def mapKey (e : Nat) : Nat := bitsOf e 16 3 * 32768 + e % 32768

/-- Insert a map entry by tag and pixel. -/
def insertMap (e : Nat) : List Nat → List Nat
  | [] => [e]
  | d :: ds => if mapKey e < mapKey d then e :: d :: ds else d :: insertMap e ds

/-- Add found pixels to a map with ACTION 2; pixels listed or pinned already stay as they are (R202, R206). -/
def addFound (map : List Nat) (found : List (Nat × Nat)) : List Nat :=
  found.foldl (fun m e =>
    let x := 2 ^ 31 + e.1 * 65536 + e.2
    if m.any (fun y => mapKey y == mapKey x) then m else insertMap x m) map

/-- Replace words of a set. -/
def setWords (ws : List Nat) (changes : List (Nat × Nat)) : List Nat := changes.foldl (fun ws c => upd ws c.1 (fun _ => c.2)) ws

/-- What a computation gives: new words, or the failure code. -/
abbrev Computed := Except Nat (List (Nat × Nat) × List (Nat × Nat))

/-- Dark: OFFSETs and hot pixels of one tag and field (R204). -/
def Work.darkPlane (w : Work) (p : Nat) (set : CalSet) (t f : Nat) : Computed :=
  let n := 2 ^ w.getN (Obj.accLines p)
  let base := set.wordAt t f 0
  let means := (upTo (w.tagPx p t)).map (fun i => (nth 0 (w.calOf p).acc.sums (base + i) + n / 2) / n)
  let m := medianOf means
  if w.getN (Obj.darkMax p) < m then .error 5
  else
    let off := fun (x : Nat) => (x : Int) - w.get (Obj.pedestal p)
    let hot := (upTo means.length).filter (fun i =>
      decide (m + w.getN (Obj.hotLimit p) < nth 0 means i) || decide (32767 < off (nth 0 means i)))
    let words := (upTo means.length).map (fun i =>
      let o := min (off (nth 0 means i)) 32767
      (base + i, nth 0 set.words (base + i) / 65536 * 65536 + field 16 o))
    .ok (words, hot.map (fun i => (t, i)))

/-- Flat: GAINs and the weak, saturated and deviating pixels of one tag and field (R205). -/
def Work.flatPlane (w : Work) (p : Nat) (set : CalSet) (t f : Nat) : Computed :=
  let n := 2 ^ w.getN (Obj.accLines p)
  let base := set.wordAt t f 0
  let px := w.tagPx p t
  let c := w.calOf p
  let s := fun i => nth none c.taken (base + i)
  let listed := (set.mapOf t).map (fun e => e.1)
  let inMean := (upTo px).filterMap (fun i => if listed.contains i then none else s i)
  let target := if w.getN (Obj.flatTarget p) ≠ 0 then w.getN (Obj.flatTarget p)
    else if inMean.isEmpty then 0 else (2 * sumNat inMean + n * inMean.length) / (2 * n * inMean.length)
  let gain := fun i => match s i with
    | some v => if v = 0 then none else
        let g := (target * 2 ^ 14 * n + v / 2) / v
        if 65535 < g then none else some g
    | none => none
  let weak := (upTo px).filter (fun i => (gain i).isNone)
  let noResult := (upTo px).filter (fun i => (s i).isNone)
  let full := (upTo px).filter (fun i => decide (n / 256 < nth 0 c.satur (base + i)))
  let deviates := fun i => match s i with
    | none => false
    | some v =>
      let near := ((upTo 33).filterMap (fun d => if i + d < 16 || px ≤ i + d - 16 then none else s (i + d - 16)))
      let m := medianOf near
      decide (w.getN (Obj.defectDev p) * m < ((v : Int) - m).natAbs * 65536)
  if px < noResult.length * 100 then .error 6
  else if px < full.length * 100 then .error 7
  else
    let words := (upTo px).map (fun i => (base + i, (gain i).getD 0x4000 * 65536 + nth 0 set.words (base + i) % 65536))
    .ok (words, (weak ++ full ++ (upTo px).filter deviates).map (fun i => (t, i)))

/-- All planes of a port, or the first failure. -/
def Work.computeAll (w : Work) (p : Nat) (set : CalSet) (kind : Nat) : Computed :=
  (w.planes p).foldl (fun acc tf => match acc with
    | .error e => .error e
    | .ok (ws, fs) => match (if kind = 1 then w.darkPlane p set tf.1 tf.2 else w.flatPlane p set tf.1 tf.2) with
      | .error e => .error e
      | .ok (ws', fs') => .ok (ws ++ ws', fs ++ fs')) (.ok ([], []))

/-- CAL_COMPUTE_DONE: offsets or gains and map entries are computed: the working set is complete, or the calibration fails (R204 to R206). -/
def calComputeDone (p : PortNo) (w : Work) : Work :=
  let c := w.calOf p
  if c.kind = 0 || w.getN (Obj.pcalState p) ≠ pcCompute then w
  else match c.work with
    | none => w
    | some set =>
      match w.computeAll p set c.kind with
      | .error e => w.calFails p e
      | .ok (words, found) =>
        let map := addFound set.map found
        if 4096 < map.length then w.calFails p 8
        else
          let set := { set with words := setWords set.words words, map := map, dark := set.dark || c.kind = 1, flat := set.flat || c.kind = 2,
                                originSerial := Config.serial.toNat, originGen := 0 }
          let w := w.updCal p (fun q => { q with work := some set })
          let w := ((w.set (Obj.calResult p) 2).set (Obj.workState p) 3).set (Obj.foundPixels p) ((map.length - (c.work.map (fun s => s.map.length)).getD 0 : Nat) : Int)
          w.calEnd p

def execCalComputeDone (p : PortNo) : State → Host.Outcome State Fault Refusal := onWork (calComputeDone p)

/-! ### Device-wide calibration (R194, R195) -/

/-- A device-wide calibration begins (R194, R195): CAL_DARK 1, CAL_FLAT 2, CAL_GEOM 3. -/
def Work.calBegin (w : Work) (kind : Nat) : Work :=
  let m : Mode := if kind = 1 then .calDark else if kind = 2 then .calFlat else .calGeom
  let w := w.modeTo m 8
  let w := { w with calDev := { timer := w.get Obj.calTrigSource = 1, count := 0, dueAt := w.clk.ctl + ctlHz / w.getN Obj.calLineRate } }
  let w := { w with loom := { w.loom with next := none } }
  let ports := w.activePorts.filter (fun p => bitOf (w.getN Obj.calPortMask) p)
  let w := if kind = 3 then w.set Obj.geomResult 1 else w
  let w := ports.foldl (fun w p =>
    let w := (w.calStart p kind true w.frame).waitRef p
    match w.traverse p with
    | some a => (w.updCal p (fun c => { c with moved := true })).sendAxis a (w.stopPos 0)
    | none => w) w
  w.calModeEnd

/-- CAL_CMD 4: every port still running is aborted with code 3 (R194). -/
def Work.calAbortAll (w : Work) : Work := w.devicePorts.foldl (fun w p => if (w.calOf p).kind = 0 then w else w.calFails p 3) w

/-- CAL_TIMER_TRIGGER: in a CAL mode with source 1 the calibration timer sends a trigger at CAL_LINE_RATE (R195). -/
def calTimerTrigger (w : Work) : Work :=
  if !w.mode.calibrating || !w.calDev.timer || w.clk.ctl < w.calDev.dueAt then w
  else
    let k := w.calDev.count
    let w := w.activePorts.foldl (fun w p => w.triggerPort p k true) w
    let w := { w with calDev := { w.calDev with count := k + 1, dueAt := w.calDev.dueAt + ctlHz / w.getN Obj.calLineRate } }
    w.settleTick

def execCalTimerTrigger : State → Host.Outcome State Fault Refusal := onWork calTimerTrigger

/-! ### Working sets and commits (R202, R203, R207) -/

/-- WORK_CMD is refused with BUSY while the port calibrates (R202). -/
def workCheck (p : Nat) (w : Work) : Option Res := if (w.calOf p).kind ≠ 0 then some .busy else none

/-- Open a working set. -/
def Work.openWork (w : Work) (p : Nat) (c : CalSet) : Work := (w.updCal p (fun q => { q with work := some c })).set (Obj.workState p) 1

/-- WORK_OPEN_COPY: WORK_CMD 1. -/
def workOpenCopy (path : Path) (p : PortNo) (w : Work) : Work :=
  w.command path (Obj.workCmd p) 1 (workCheck p) (fun w => w.openWork p (w.copySet p))

def execWorkOpenCopy (path : Path) (p : PortNo) : State → Host.Outcome State Fault Refusal := onWork (workOpenCopy path p)

/-- WORK_OPEN_FRESH: WORK_CMD 2. -/
def workOpenFresh (path : Path) (p : PortNo) (w : Work) : Work :=
  w.command path (Obj.workCmd p) 2 (workCheck p) (fun w => w.openWork p (w.freshSet p (mapOfBytes (w.blob (Obj.pinMap p)))))

def execWorkOpenFresh (path : Path) (p : PortNo) : State → Host.Outcome State Fault Refusal := onWork (workOpenFresh path p)

/-- WORK_DISCARD: WORK_CMD 3. -/
def workDiscard (path : Path) (p : PortNo) (w : Work) : Work :=
  w.command path (Obj.workCmd p) 3 (workCheck p) (fun w => (w.updCal p (fun q => { q with work := none })).set (Obj.workState p) 0)

def execWorkDiscard (path : Path) (p : PortNo) : State → Host.Outcome State Fault Refusal := onWork (workDiscard path p)

/-- Whether a port has a working set that is complete. -/
def Work.workComplete (w : Work) (p : Nat) : Bool := w.get (Obj.workState p) = 3 && (w.calOf p).work.isSome

/-- Commit the complete working sets of the named ports, with generations in rising port order (R203, R207). -/
def Work.commitSets (w : Work) (ports : List Nat) : Work :=
  let n := if w.spanIsFrame then w.frame + 1 else 0
  let g0 := w.getN Obj.nextGen
  let w := ports.foldl (fun w p =>
    match (w.calOf p).work with
    | none => w
    | some c =>
      let g := w.getN Obj.nextGen
      let c := { c with gen := g, created := w.timeNs, effFrame := if n = 0 then noFrame else n, originGen := if c.originGen = 0 then g else c.originGen }
      let w := (w.set Obj.nextGen ((g : Int) + 1)).updCal p (fun q => { q with work := none, before := none })
      (w.set (Obj.workState p) 0).loadSet p n c) w
  w.event { event := 0x04, frame := if n = 0 then w.frame else n, d0 := sumNat (ports.map (2 ^ ·)), d1 := g0, d2 := w.getN Obj.nextGen - 1 }

/-- The ports a mask names. -/
def maskPorts (m : Nat) : List Nat := (upTo 32).filter (bitOf m)

/-- The check of CAL_COMMIT (R187, R207). -/
def calCommitCheck (w : Work) (v : Int) : Option Res :=
  let ports := maskPorts v.toNat
  if ports.any (fun p => !w.workComplete p) then some .inconsistent
  else if w.spanIsFrame && ports.any w.bankBusy then some .busy else none

/-- CAL_COMMIT: a port mask commits complete working sets together (R207). -/
def calCommit (path : Path) (mask : BitVec 32) (w : Work) : Work :=
  w.writeNum path Obj.calCommit (.num mask.toNat) calCommitCheck
    (fun v w => if v = 0 then w else w.commitSets (maskPorts v.toNat))

def execCalCommit (path : Path) (mask : BitVec 32) : State → Host.Outcome State Fault Refusal := onWork (calCommit path mask)

/-! ### Export and import (R212, R213) -/

/-- CAL_EXPORT of a port: its committed set. -/
def Work.calExportBytes (w : Work) (p : Nat) : Bytes := (w.copySet p).image p true w.timeNs

/-- WORK_EXPORT of a port: its working set, length 0 when it has none. -/
def Work.workExportBytes (w : Work) (p : Nat) : Bytes :=
  match (w.calOf p).work with
  | some c => c.image p false w.timeNs
  | none => []

/-- GEOM_EXPORT: the committed geometry set, length 0 when there is none. -/
def Work.geomExportBytes (w : Work) : Bytes :=
  match w.loom.geom with
  | some g => g.image
  | none => []

/-- The configuration an import is held against: the staged one in HOLD and READY, otherwise the one in force (R213). -/
def Work.importShape (w : Work) (p : Nat) : CalSet :=
  if w.mode == .hold || w.mode == .ready then
    let tags := w.getN (Obj.tagCount p)
    { depth := w.getN (Obj.portDepth p), tagCount := tags, fieldCount := w.getN (Obj.fieldCount p)
      tagPixels := (upTo 8).map (fun t => if t < tags then w.getN (Obj.tagPixels p t) else 0) }
  else w.shapeOf p

/-- The check of a correction set download (R213). -/
def calImportCheck (p : Nat) (w : Work) (b : Bytes) : Option Res :=
  match imageBody 0 b with
  | none => some .format
  | some n =>
    let c := setOfImage b
    let entries := leAt b 14 2
    if n ≠ 4 * (c.size + entries) || 4096 < entries || leAt b 10 1 ≠ p || !mapOk c c.map none then some .format
    else if !c.sameShape (w.importShape p) then some .inconsistent
    else if (w.calOf p).kind ≠ 0 then some .busy
    else none

/-- CAL_IMPORT: a correction set download replaces the port's working set with state 3 (R213). -/
def calImport (path : Path) (p : PortNo) (b : Bytes) (w : Work) : Work :=
  w.writeBlob path (Obj.calImport p) b (calImportCheck p)
    (fun b w => (w.updCal p (fun q => { q with work := some (setOfImage b) })).set (Obj.workState p) 3)

def execCalImport (path : Path) (p : PortNo) (b : Bytes) : State → Host.Outcome State Fault Refusal := onWork (calImport path p b)

/-- The geometry set an image carries. -/
def geomOfImage (b : Bytes) : GeomSet :=
  { originSerial := leAt b 44 4, originGen := leAt b 40 4, imported := true
    recs := (upTo (leAt b 32 4 / 64)).map (fun i => leAt b (64 + 64 * i) 64) }

/-- The check of a geometry download (R213): the records themselves are checked at the commit (R217, R220). -/
def geomImportCheck (w : Work) (b : Bytes) : Option Res :=
  match imageBody 1 b with
  | none => some .format
  | some n => if n % 64 ≠ 0 then some .format else if w.mode == .calGeom then some .busy else none

/-- GEOM_IMPORT: a geometry set download replaces the geometry working set (R213). -/
def geomImport (path : Path) (b : Bytes) (w : Work) : Work :=
  w.writeBlob path Obj.geomImport b geomImportCheck (fun b w => { w with loom := { w.loom with work := some (geomOfImage b) } })

def execGeomImport (path : Path) (b : Bytes) : State → Host.Outcome State Fault Refusal := onWork (geomImport path b)

/-- An upload: the bytes leave by the path that asked; a module whose dictionary is not open answers nothing. -/
def Work.upload (w : Work) (path : Path) (key : Nat) (b : Bytes) : Work :=
  if !w.mode.dictOpen then w else (w.send (.reply path key b)).setResult path .ok

/-- CAL_EXPORT. -/
def calExport (path : Path) (p : PortNo) (w : Work) : Work := w.upload path (Obj.calExport p) (w.calExportBytes p)

def execCalExport (path : Path) (p : PortNo) : State → Host.Outcome State Fault Refusal := onWork (calExport path p)

/-- WORK_EXPORT. -/
def workExport (path : Path) (p : PortNo) (w : Work) : Work := w.upload path (Obj.workExport p) (w.workExportBytes p)

def execWorkExport (path : Path) (p : PortNo) : State → Host.Outcome State Fault Refusal := onWork (workExport path p)

/-- GEOM_EXPORT. -/
def geomExport (path : Path) (w : Work) : Work := w.upload path Obj.geomExport w.geomExportBytes

def execGeomExport (path : Path) : State → Host.Outcome State Fault Refusal := onWork (geomExport path)

/-- COLUMN_MAP: an upload of the column map. -/
def columnMap (path : Path) (w : Work) : Work := w.upload path Obj.columnMap w.columnMapBytes

def execColumnMap (path : Path) : State → Host.Outcome State Fault Refusal := onWork (columnMap path)

/-! ### Geometry (R209, R210) -/

/-- The mean pixel of a dot column. -/
def dotPixel (c : DotColumn) : Rat := if c.dots.isEmpty then 0 else (sumNat (c.dots.map (fun d => d.2.1)) : Rat) / (256 * c.dots.length)

/-- The number of a sensor's dot column with index i when its column `at_` bears number `n0`. -/
def dotNumber (descend : Bool) (at_ : Nat) (n0 : Int) (i : Nat) : Int := if descend then n0 - ((i : Int) - at_) else n0 + ((i : Int) - at_)

/-- Solve linear equations, given as rows of coefficients with the right side last, by elimination without rounding. -/
def solveRows : Nat → List (List Rat) → List Rat
  | 0, _ => []
  | n + 1, rows =>
    match rows.find? (fun r => r.headD 0 ≠ 0) with
    | none => 0 :: solveRows n (rows.map List.tail)
    | some piv =>
      let p := piv.headD 0
      let rest := rows.erase piv
      let red := rest.map (fun r => List.zipWith (fun x y => x - r.headD 0 / p * y) r.tail piv.tail)
      let xs := solveRows n red
      let rhs := piv.getLast?.getD 0
      let known := (List.zipWith (· * ·) piv.tail.dropLast xs).foldl (· + ·) 0
      (rhs - known) / p :: xs

/-- The least-squares polynomial of a degree through points (R210): the normal equations. -/
def fitPoly (deg : Nat) (pts : List (Rat × Rat)) : List Rat :=
  let s := fun (f : Rat × Rat → Rat) => (pts.map f).foldl (· + ·) 0
  let rows := (upTo (deg + 1)).map (fun i => (upTo (deg + 1)).map (fun j => s (fun p => p.1 ^ (i + j))) ++ [s (fun p => p.2 * p.1 ^ i)])
  solveRows (deg + 1) rows

/-- A rational rounded to the nearest multiple of 1/b, as a count of them. -/
def ratRound (r : Rat) (b : Nat) : Int := (r * b + 1 / 2).floor

/-- One sensor's fit: its polynomial in u, and the residuals of its dots in columns. -/
structure SensorFit where
  s     : Nat
  coef  : List Rat
  resid : List Rat
  offset : Rat

/-- Normalised coordinate of a pixel for FIRST_PIXEL 0 and LAST_PIXEL `last` (R218). -/
def normU (last : Nat) (x : Rat) : Rat := (2 * x - last) / last

/-- The polynomial's value. -/
def evalPoly (cs : List Rat) (u : Rat) : Rat := (cs.zipIdx.map (fun e => e.1 * u ^ e.2)).foldl (· + ·) 0

/-- What one sensor sees: whether its pixels descend in columns, and its dot columns. -/
def seenDots (dots : List DotView) (s : Nat) : Bool × List DotColumn :=
  ((dots.find? (fun d => d.sensor == s)).map (fun d => (d.descend, d.columns))).getD (false, [])

/-- The sensors numbered: by the origin column, then from neighbours that share at least two dot columns (R210). -/
def numberDots (dots : List DotView) (links : List DotLink) (sensors : List Nat) : List (Nat × Nat × Int) :=
  let start : List (Nat × Nat × Int) := sensors.filterMap (fun s =>
    ((seenDots dots s).2.findIdx? (fun c => c.origin)).map (fun i => (s, i, (0 : Int))))
  let spread := fun (num : List (Nat × Nat × Int)) (_ : Nat) =>
    links.foldl (fun num l =>
      if num.any (fun e => e.1 == l.sensor) || l.shared < 2 then num
      else match num.find? (fun e => e.1 == l.other) with
        | some e => num ++ [(l.sensor, l.column, dotNumber (seenDots dots e.1).1 e.2.1 e.2.2 l.otherCol)]
        | none => num) num
  (upTo sensors.length).foldl spread start

/-- A residual's size in 1/256 column. -/
def SensorFit.err (f : SensorFit) : Nat := (f.resid.map (fun r => (ratRound r 256).natAbs)).foldl max 0

/-- The fit with the greatest residual. -/
def worstFit (fits : List SensorFit) : SensorFit := fits.foldl (fun b f => if b.err < f.err then f else b) (fits.headD ⟨0, [], [], 0⟩)

/-- The root mean square residual in 1/256 column. -/
def rmsFit (fits : List SensorFit) : Nat :=
  let all := fits.flatMap (fun f => f.resid)
  let sq := (all.map (fun r => r * r)).foldl (· + ·) 0
  isqrt ((ratRound (sq / (max 1 all.length : Nat)) 65536).toNat)

/-- The fits of the named sensors' dots, or the failure code with the port shown for it: 9 for too few dots, 10 for a sensor that no
numbering reaches (R210). -/
def Work.geomFits (w : Work) (sensors : List Nat) (dots : List DotView) (links : List DotLink) : Except (Nat × Nat) (List SensorFit) :=
  let seen := seenDots dots
  let deg := w.getN Obj.geomDegree
  let num := numberDots dots links sensors
  match sensors.filter (fun s => decide ((seen s).2.length < deg + 3)), sensors.filter (fun s => !num.any (fun e => e.1 == s)) with
  | s :: _, _ => .error (9, s / 8)
  | [], s :: _ => .error (10, s / 8)
  | [], [] =>
    let origin : Rat := (w.getN Obj.gridOriginCd : Rat) / 256
    let pitch : Rat := (w.getN Obj.gridCdPitch * 1000 : Nat) / (w.confN Obj.cdPitch : Rat)
    let lineOf : Nat → List (Nat × Rat) := fun s =>
      (seen s).2.flatMap (fun c => c.dots.map (fun d => (d.1, (d.2.2 : Rat) / 256 + ((w.staggerOf s : Nat) : Rat))))
    let refRows := lineOf (sensors.headD 0)
    .ok (num.map (fun e =>
      let sc := seen e.1
      let last := w.tagPx (e.1 / 8) (e.1 % 8) - 1
      let pts : List (Rat × Rat) := sc.2.zipIdx.map (fun ci =>
        (normU last (dotPixel ci.1), origin + ((dotNumber sc.1 e.2.1 e.2.2 ci.2 : Int) : Rat) * pitch))
      let cs := fitPoly deg pts
      let diffs := (lineOf e.1).filterMap (fun d => (refRows.find? (fun r => r.1 == d.1)).map (fun r => d.2 - r.2))
      let off : Rat := if diffs.isEmpty then 0 else (diffs.foldl (· + ·) 0) / diffs.length
      ⟨e.1, cs, pts.map (fun q => evalPoly cs q.1 - q.2), off⟩))

/-- The geometry record of one sensor's fit, its stagger over the least of all fits (R210, R217). -/
def Work.geomRec (w : Work) (dots : List DotView) (fits : List SensorFit) (f : SensorFit) : Nat :=
  let least := (fits.map (fun f => f.offset)).foldl min ((fits.map (fun f => f.offset)).headD 0)
  let off := (ratRound (f.offset - least) 256).toNat
  let cs := f.coef.map (fun c => field 64 (ratRound c (2 ^ 32)))
  packBits ([(0, 16, 0x4752), (16, 3, f.s % 8), (24, 8, f.s / 8), (40, 1, if (seenDots dots f.s).1 then 1 else 0), (48, 4, w.getN Obj.geomDegree),
    (56, 8, off % 256), (64, 32, off / 256), (96, 16, 0), (112, 16, w.tagPx (f.s / 8) (f.s % 8) - 1)] ++
    cs.zipIdx.map (fun e => (128 + 64 * e.2, 64, e.1)))

/-- The geometry body that follows: the fresh records in place of the working set's, or of the committed set's, by rising sensor. -/
def Work.geomMerged (w : Work) (fresh : List (Nat × Nat)) : List Nat :=
  let kept := ((w.loom.work.orElse (fun _ => w.loom.geom)).map (fun g => g.recs)).getD []
  (sortNat (((kept.map (fun r => (geoOf r).sensor)) ++ fresh.map (fun e => e.1)).eraseDups)).filterMap (fun s =>
    match fresh.find? (fun e => e.1 == s) with
    | some e => some e.2
    | none => kept.find? (fun r => (geoOf r).sensor == s))

/-- The ports of a geometry calibration. -/
def Work.geomPorts (w : Work) : List Nat := w.devicePorts.filter (fun p => (w.calOf p).kind = 3)

/-- A geometry calibration fails on every port with a code; the worst port is shown. -/
def Work.geomFails (w : Work) (code worst : Nat) : Work :=
  w.geomPorts.foldl (fun w p => w.calFails p code) (w.set Obj.geomWorstPort worst)

/-- The residuals shown (R210). -/
def Work.geomShow (w : Work) (fits : List SensorFit) : Work :=
  ((w.set Obj.geomRms (Int.ofNat (min 65535 (rmsFit fits)))).set Obj.geomMax (Int.ofNat (min 65535 (worstFit fits).err))).set Obj.geomWorstPort
    (Int.ofNat ((worstFit fits).s / 8))

/-- A fit that passes: the records stand in the geometry working set, and the calibration ends complete on every port. -/
def Work.geomPass (w : Work) (dots : List DotView) (fits : List SensorFit) : Work :=
  let merged := w.geomMerged (fits.map (fun f => (f.s, w.geomRec dots fits f)))
  let w := { w with loom := { w.loom with work := some { recs := merged, originSerial := Config.serial.toNat } } }
  w.geomPorts.foldl (fun w p => (w.set (Obj.calResult p) 2).calEnd p) (w.set Obj.geomResult 2)

/-- GEOM_FIT: after GEOM_ROWS dot rows the dots, as each sensor of CAL_PORT_MASK sees them from its first pixel up, are identified and the
polynomials fitted (R209, R210). -/
def geomFit (dots : List DotView) (links : List DotLink) (w : Work) : Work :=
  let ports := w.geomPorts
  if w.mode ≠ .calGeom || ports.isEmpty || !ports.all (fun p => w.getN (Obj.pcalState p) = pcAccum) then w
  else
    match w.geomFits ((ports.map w.portSensors).flatten) dots links with
    | .error e => w.geomFails e.1 e.2
    | .ok fits =>
      let w := w.geomShow fits
      if w.getN Obj.geomTol < (worstFit fits).err then w.geomFails 11 ((worstFit fits).s / 8) else w.geomPass dots fits

def execGeomFit (dots : List DotView) (links : List DotLink) :
    State → Host.Outcome State Fault Refusal := onWork (geomFit dots links)

end Sys2Proof.Machine
end

