-- ==== Sys2Proof/Machine/Dma.lean ====
section
/-! DEFINITION. DMA channels and their programs (chapter 19, R430 to R443). -/
namespace Sys2Proof.Machine

/-- A meaning of this family. -/
abbrev DmaStep := State → Host.Outcome State Fault Refusal

/-! ### Channels -/

/-- Channel c. -/
def Work.chan (w : Work) (c : Nat) : Chan := nth ({} : Chan) w.dma.chans c

/-- Change channel c. -/
def Work.updChan (w : Work) (c : Nat) (f : Chan → Chan) : Work :=
  { w with dma := { w.dma with chans := upd w.dma.chans c f } }

/-- The channel states (R431). -/
def chIdle : Nat := 0
def chRunning : Nat := 1
def chWaiting : Nat := 2
def chDone : Nat := 3
def chError : Nat := 4
def chStopped : Nat := 5

/-- CH_STATE. -/
def Work.chStateOf (w : Work) (c : Nat) : Nat := w.getN (Obj.chState c)

/-- Set CH_STATE, and DMA_BUSY with it. -/
def Work.chSet (w : Work) (c st : Nat) : Work :=
  let w := w.set (Obj.chState c) st
  if st = chRunning || st = chWaiting then w.flag Obj.dmaBusy (2 ^ c) else w.unflag Obj.dmaBusy (2 ^ c)

/-- Set bits of CH_FLAGS: 0 SIGNALLED, 1 DONE, 2 ERROR, 3 OVERRUN. -/
def Work.chFlag (w : Work) (c bit : Nat) : Work := w.flag (Obj.chFlags c) (2 ^ bit)

/-- The channel fails with a code and an address; only the first error counts, and an error wins over a stop (R442, R443). -/
def Work.chFail (w : Work) (c code addr : Nat) : Work :=
  let w := (w.updChan c (fun x => { x with inMove := false, hold := [], stopping := false })).stopTimer (.dmaWait c)
  (((w.set (Obj.errCode c) code).set (Obj.errAddr c) (Int.ofNat addr)).chFlag c 2).chSet c chError

/-- The channels of SAFE: each running or waiting one enters ERROR with code 6 (R443). -/
def Work.dmaAbort (w : Work) : Work :=
  (upTo 32).foldl (fun w c => if w.chStateOf c = chRunning || w.chStateOf c = chWaiting then w.chFail c 6 0 else w) w

/-! ### Programs (R430, R434) -/

/-- Instruction i of a program; a position not written is END. -/
def instrAt (prog : Bytes) (i : Nat) : Nat := leAt prog (16 * i) 16

/-- The opcode of an instruction. -/
def opOf (x : Nat) : Nat := bitsOf x 124 4

/-- Whether an instruction at a position may stand in a program. -/
def instrGood (pos x : Nat) : Bool :=
  match opOf x with
  | 0 => bitsOf x 0 124 == 0
  | 1 => decide (bitsOf x 121 3 ≤ 6) && decide (bitsOf x 118 3 ≤ 6) && bitsOf x 32 84 == 0
      && bitsOf x 0 32 % 2 ^ max (bitsOf x 121 3) (bitsOf x 118 3) == 0
  | 2 => bitsOf x 38 85 == 0 && decide (bitsOf x 32 6 ≤ pos)
  | 3 => bitsOf x 32 92 == 0
  | 4 => bitsOf x 17 107 == 0
  | 5 => bitsOf x 118 5 == 0 && bitsOf x 64 48 == 0 &&
      (bitsOf x 112 6 == 0 || (decide (7 ≤ bitsOf x 112 6) && decide (bitsOf x 112 6 ≤ 40)))
  | _ => false

/-- The check of a CH_PROGRAM download. -/
def programCheck (c : Nat) (w : Work) (b : Bytes) : Option Res :=
  if w.chStateOf c = chRunning || w.chStateOf c = chWaiting then some .busy
  else if (upTo (b.length / 16)).all (fun i => instrGood i (instrAt b i)) then none else some .format

def chProgramWrite (p : Path) (c : Fin 32) (b : Bytes) (w : Work) : Work :=
  w.writeBlob p (Obj.chProgram c) b (programCheck c) (fun _ w => w)

/-- CH_PROGRAM_WRITE. -/
def execChProgramWrite (p : Path) (c : Fin 32) (b : Bytes) : DmaStep := onWork (chProgramWrite p c b)

/-! ### Commands (R443) -/

/-- Show what became of a CH_CMD. -/
def Work.chCmdState (w : Work) (c r : Nat) : Work := w.set (Obj.chCmdState c) r

/-- CH_CMD with a code. -/
def Work.chAct (w : Work) (c code : Nat) : Work :=
  let st := w.chStateOf c
  if code = 1 then
    if (st = chIdle || st = chDone || st = chStopped) && w.mode != .safe then
      let w := w.updChan c (fun _ => {})
      let w := w.setMany [(Obj.chPc c, 0), (Obj.chRemain c, 0), (Obj.loop0 c, 0), (Obj.loop1 c, 0)]
      (w.chSet c chRunning).chCmdState c 1
    else w.chCmdState c 3
  else if code = 2 then
    if st = chRunning || st = chWaiting then (w.updChan c (fun x => { x with stopping := true })).chCmdState c 1
    else w.chCmdState c 3
  else if st = chDone || st = chError || st = chStopped then (w.chSet c chIdle).chCmdState c 1
  else w.chCmdState c 3

def chCommand (p : Path) (c : Fin 32) (code : Nat) (w : Work) : Work := w.command p (Obj.chCmd c) code always (fun w => w.chAct c code)

/-- CH_START. -/
def execChStart (p : Path) (c : Fin 32) : DmaStep := onWork (chCommand p c 1)

/-- CH_STOP. -/
def execChStop (p : Path) (c : Fin 32) : DmaStep := onWork (chCommand p c 2)

/-- CH_CLEAR. -/
def execChClear (p : Path) (c : Fin 32) : DmaStep := onWork (chCommand p c 3)

/-- Count the posted bytes whose response has come. -/
def Work.chRespond (w : Work) (c : Nat) : Work :=
  (w.bump (Obj.chBytes c) (w.chan c).posted).updChan c (fun x => { x with posted := 0 })

def dmaStopped (c : Fin 32) (w : Work) : Work :=
  if !(w.chan c).stopping then w
  else
    let w := (w.chRespond c).updChan c (fun x => { x with stopping := false, inMove := false, hold := [] })
    (w.stopTimer (.dmaWait c)).chSet c chStopped

/-- DMA_STOPPED. -/
def execDmaStopped (c : Fin 32) : DmaStep := onWork (dmaStopped c)

/-! ### Addresses (R432, R433, R435) -/

/-- The regions of the address map. -/
inductive DmaRegion where
  | host | sram | window | none
  deriving DecidableEq, Repr

/-- The region of an address. -/
def dmaRegion (a : Nat) : DmaRegion :=
  if a < 2 ^ 63 then .host
  else if a < 2 ^ 63 + 0x200000 then .sram
  else if 0x8100000000000000 ≤ a ∧ a < 0x8100000000800000 then .window
  else .none

/-- An address advanced by some bytes: with a wrap only its low bits change. -/
def dmaAdvance (wrap a n : Nat) : Nat :=
  if wrap = 0 then (a + n) % 2 ^ 64 else a / 2 ^ wrap * 2 ^ wrap + (a + n) % 2 ^ wrap

/-- The byte of the Ledger window at an offset: slot SEQ mod 65,536 of 128 bytes (R433). -/
def Work.windowByte (w : Work) (o : Nat) : Byte := nth 0 ((alGet w.ledger.window (o / 128)).getD []) (o % 128)

/-- The byte a channel reads at an address; host memory answers with the data that arrived, or else what the module's own writes left there. -/
def Work.dmaByte (w : Work) (a : Nat) (arrived : Option Byte) : Byte :=
  match dmaRegion a with
  | .host => arrived.getD (memGet w.host.hostMem a)
  | .sram => memGet w.dma.sram (a - 2 ^ 63)
  | .window => w.windowByte (a - 0x8100000000000000)
  | .none => 0

/-- Write bytes at an address of host memory or of the SRAM. -/
def Work.dmaPut (w : Work) (a : Nat) (b : Bytes) : Work :=
  match dmaRegion a with
  | .host => w.hostWrite a b
  | .sram => { w with dma := { w.dma with sram := memWrite w.dma.sram (a - 2 ^ 63) b } }
  | _ => w

/-! ### Instructions (R435 to R440) -/

/-- The instruction a running channel stands at, when it is one with an opcode. -/
def Work.chAt (w : Work) (c op : Nat) : Option Nat :=
  let x := instrAt (w.blob (Obj.chProgram c)) (w.getN (Obj.chPc c))
  if w.chStateOf c = chRunning && !(w.chan c).stopping && opOf x = op && w.mode != .safe then some x else none

/-- Go on to the next position. What follows position 63 is not stated: a free position. -/
def Work.chNext (w : Work) (c : Nat) : Work :=
  let pc := w.getN (Obj.chPc c)
  if pc < 63 then w.set (Obj.chPc c) (pc + 1)
  else let r := w.free
       r.2.set (Obj.chPc c) (r.1 % 64 : Nat)

/-- The write bursts of the destination beats that the holding register fills: at most 128 bytes each, none across an aligned boundary. The fuel
bounds the bursts. -/
def Work.dmaDrain (w : Work) (c x : Nat) : Nat → Work
  | 0 => w
  | fuel + 1 =>
    let q := w.chan c
    let dw := 2 ^ bitsOf x 118 3
    let fix := bitOf x 116
    let a := w.getN (Obj.chDst c)
    let room := if fix then 128 else 128 - a % 128
    let n := min q.hold.length room / dw * dw
    if n = 0 then w
    else
      let last := if fix then a + dw - 1 else a + n - 1
      if dmaRegion a = .none || dmaRegion a = .window || dmaRegion last ≠ dmaRegion a then w.chFail c 1 a
      else
        let b := q.hold.take n
        let w := if fix then w.dmaPut a (b.drop (n - dw)) else w.dmaPut a b
        let w := w.updChan c (fun q => { q with hold := q.hold.drop n })
        let w := if dmaRegion a = .host then
            w.updChan c (fun q => { q with posted := q.posted + n, lastHost := some (if fix then a else a + n - dw) })
          else w.bump (Obj.chBytes c) n
        let w := if fix then w else w.set (Obj.chDst c) (Int.ofNat (dmaAdvance q.wrapDst a n))
        w.dmaDrain c x fuel

/-- The bytes of the next read burst: whole source beats, at most what the holding register has room for, none across an aligned boundary. -/
def Work.burstBytes (w : Work) (c x : Nat) : Nat :=
  let sw := 2 ^ bitsOf x 121 3
  let a := w.getN (Obj.chSrc c)
  let room := if bitOf x 117 then 128 else 128 - a % 128
  min (min (w.getN (Obj.chRemain c)) room) (128 - (w.chan c).hold.length) / sw * sw

/-- Issue a read burst: CH_REMAIN and CH_SRC move on. -/
def Work.burstIssue (w : Work) (c x n : Nat) : Work :=
  let a := w.getN (Obj.chSrc c)
  let w := w.set (Obj.chRemain c) (Int.ofNat (w.getN (Obj.chRemain c) - n))
  if bitOf x 117 then w else w.set (Obj.chSrc c) (Int.ofNat (dmaAdvance (w.chan c).wrapSrc a n))

/-- Begin a MOVE: its addresses must be aligned, else code 2. -/
def Work.moveBegin (w : Work) (c x : Nat) : Work :=
  if (w.chan c).inMove then w
  else
    let s := w.getN (Obj.chSrc c)
    let d := w.getN (Obj.chDst c)
    if s % 2 ^ bitsOf x 121 3 ≠ 0 then w.chFail c 2 s
    else if d % 2 ^ bitsOf x 118 3 ≠ 0 then w.chFail c 2 d
    else (w.set (Obj.chRemain c) (bitsOf x 0 32)).updChan c (fun q => { q with inMove := true })

/-- End a MOVE that has nothing left to read or write. -/
def Work.moveEnd (w : Work) (c : Nat) : Work :=
  if (w.chan c).inMove && w.getN (Obj.chRemain c) = 0 && (w.chan c).hold.isEmpty then
    (w.updChan c (fun q => { q with inMove := false })).chNext c
  else w

/-- DMA_MOVE: the next read burst of the MOVE and the write bursts its bytes allow. `data` are the bytes that arrived from host memory and `corr` the
single-bit corrections met in the SRAM. -/
def dmaMove (c : Fin 32) (data : Bytes) (corr : Nat) (w : Work) : Work :=
  match w.chAt c 1 with
  | none => w
  | some x =>
    let w := w.moveBegin c x
    if !(w.chan c).inMove then w
    else
      let n := w.burstBytes c x
      if n = 0 then w.moveEnd c
      else
        let a := w.getN (Obj.chSrc c)
        let sw := 2 ^ bitsOf x 121 3
        let fix := bitOf x 117
        let last := if fix then a + sw - 1 else a + n - 1
        if dmaRegion a = .none || dmaRegion last ≠ dmaRegion a then w.chFail c 1 a
        else
          let at_ := fun (i : Nat) => if fix then a + i % sw else a + i
          let bytes := (upTo n).map (fun i => w.dmaByte (at_ i) data[i]?)
          let w := if dmaRegion a = .sram then w.bump Obj.sramCorr corr else w
          let w := (w.burstIssue c x n).updChan c (fun q => { q with hold := q.hold ++ bytes })
          (w.dmaDrain c x 129).moveEnd c
def execDmaMove (c : Fin 32) (data : Bytes) (corr : Nat) : DmaStep := onWork (dmaMove c data corr)

/-- DMA_LOOP. -/
def dmaLoop (c : Fin 32) (w : Work) : Work :=
  match w.chAt c 2 with
  | none => w
  | some x =>
    let second := bitOf x 123
    let key := if second then Obj.loop1 c else Obj.loop0 c
    let on := if second then (w.chan c).loopOn1 else (w.chan c).loopOn0
    let set := fun (w : Work) (b : Bool) => w.updChan c (fun q => if second then { q with loopOn1 := b } else { q with loopOn0 := b })
    let times := bitsOf x 0 32
    let v := (if on then w.getN key else times) - (if times = 0 then 0 else 1)
    let w := w.set key v
    if 0 < v || times = 0 then (set w true).set (Obj.chPc c) (bitsOf x 32 6) else (set w false).chNext c
def execDmaLoop (c : Fin 32) : DmaStep := onWork (dmaLoop c)

/-- DMA_WAIT: a pending event is consumed, or the channel waits; TIMEOUT runs from there. -/
def dmaWait (c : Fin 32) (w : Work) : Work :=
  match w.chAt c 3 with
  | none => w
  | some _ =>
    if (w.chan c).pending then (w.updChan c (fun q => { q with pending := false })).chNext c
    else (w.chSet c chWaiting).startTimer (.dmaWait c)
def execDmaWait (c : Fin 32) : DmaStep := onWork (dmaWait c)

/-- The DMA_GO task input: a waiting channel goes on, another latches the event; a second event is lost and sets OVERRUN (R439). The answer says
whether the task input was busy. -/
def Work.dmaGo (w : Work) (c : Nat) : Work × Bool :=
  if w.chStateOf c = chWaiting && !(w.chan c).stopping then (((w.stopTimer (.dmaWait c)).chSet c chRunning).chNext c, false)
  else if (w.chan c).pending then (w.chFlag c 3, true)
  else (w.updChan c (fun q => { q with pending := true }), false)

/-- DMA_WAIT_TIMEOUT. -/
def dmaWaitTimeout (c : Fin 32) (w : Work) : Work :=
  let x := instrAt (w.blob (Obj.chProgram c)) (w.getN (Obj.chPc c))
  let us := bitsOf x 0 32
  if w.chStateOf c ≠ chWaiting || us = 0 || !w.expired (.dmaWait c) (us * 1000) then w else w.chFail c 5 0
def execDmaWaitTimeout (c : Fin 32) : DmaStep := onWork (dmaWaitTimeout c)

/-- The wait for every response (R440): the completion read of posted writes fails with code 4. -/
def Work.chSettle (w : Work) (c : Nat) (good : Bool) : Work × Bool :=
  match (w.chan c).lastHost with
  | some a => if good || (w.chan c).posted = 0 then (w.chRespond c, true) else (w.chFail c 4 a, false)
  | none => (w.chRespond c, true)

/-- DMA_SIGNAL: `good` says whether the completion read comes back well. -/
def dmaSignal (c : Fin 32) (good : Bool) (w : Work) : Work :=
  match w.chAt c 4 with
  | none => w
  | some x =>
    let r := w.chSettle c good
    if !r.2 then r.1
    else
      let w := ((r.1.set (Obj.sigCode c) (bitsOf x 0 16)).chFlag c 0).raise (120 + c)
      let w := if bitOf x 16 then w.msix (64 + c) else w
      w.chNext c
def execDmaSignal (c : Fin 32) (good : Bool) : DmaStep := onWork (dmaSignal c good)

/-- DMA_END. -/
def dmaEnd (c : Fin 32) (good : Bool) (w : Work) : Work :=
  match w.chAt c 0 with
  | none => w
  | some _ =>
    let r := w.chSettle c good
    if !r.2 then r.1 else (r.1.chFlag c 1).chSet c chDone
def execDmaEnd (c : Fin 32) (good : Bool) : DmaStep := onWork (dmaEnd c good)

/-- DMA_ADDR. -/
def dmaAddr (c : Fin 32) (w : Work) : Work :=
  match w.chAt c 5 with
  | none => w
  | some x =>
    let a := Int.ofNat (bitsOf x 0 64)
    let wrap := bitsOf x 112 6
    let w := if bitOf x 123 then (w.set (Obj.chDst c) a).updChan c (fun q => { q with wrapDst := wrap })
      else (w.set (Obj.chSrc c) a).updChan c (fun q => { q with wrapSrc := wrap })
    w.chNext c
def execDmaAddr (c : Fin 32) : DmaStep := onWork (dmaAddr c)

/-- DMA_ERROR: a beat of the next read burst fails (code 3), or the SRAM refuses a write beat (code 4); the read burst has been issued, and nothing of
a failed read is written (R442). -/
def dmaError (c : Fin 32) (write : Bool) (beat : Nat) (w : Work) : Work :=
  match w.chAt c 1 with
  | none => w
  | some x =>
    let w := w.moveBegin c x
    if !(w.chan c).inMove then w
    else
      let n := w.burstBytes c x
      let a := w.getN (Obj.chSrc c)
      let d := w.getN (Obj.chDst c)
      if write then
        if dmaRegion d ≠ .sram then w
        else w.chFail c 4 (if bitOf x 116 then d else dmaAdvance (w.chan c).wrapDst d (beat * 2 ^ bitsOf x 118 3))
      else if n = 0 || n ≤ beat * 2 ^ bitsOf x 121 3 || dmaRegion a = .none then w
      else
        let w := if dmaRegion a = .sram then w.bump Obj.sramUncorr else w
        let at_ := if bitOf x 117 then a else dmaAdvance (w.chan c).wrapSrc a (beat * 2 ^ bitsOf x 121 3)
        (w.burstIssue c x n).chFail c 3 at_
def execDmaError (c : Fin 32) (write : Bool) (beat : Nat) : DmaStep := onWork (dmaError c write beat)

end Sys2Proof.Machine
end

