-- ==== Sys2Proof/Machine/Motion.lean ====
section
/-! DEFINITION. The axis commands and axis events of chapter 15 (R357 to R371): pushes, steps, stops, stalls, homing, faults. -/
namespace Sys2Proof.Machine

/-- A meaning of this family: a change of everything but the non-volatile part. -/
abbrev AxisStep := State → Host.Outcome State Fault Refusal

/-! ### Feedback (R369) -/

/-- Whether the axis has a feedback input in a counting mode: quadrature or SSI. -/
def Work.feedback (w : Work) (a : Nat) : Bool :=
  let i := w.getN (Obj.fbInput a)
  decide (i < 16) && (w.conf (Obj.piMode i) = 1 || w.conf (Obj.piMode i) = 3)

/-- FOLLOW_ERR (R369). -/
def Work.followOf (w : Work) (a : Nat) : Int :=
  let x := w.ax a
  let c := w.get (Obj.count (w.getN (Obj.fbInput a)))
  (w.axPos a - x.p0) - Int.fdiv ((c - x.c0) * w.get (Obj.fbDen a)) (w.get (Obj.fbNum a))

/-- FOLLOW_ERR and FOLLOW as they stand. -/
def Work.showFollow (w : Work) (a : Nat) : Work :=
  if !w.feedback a || !(w.ax a).enabled then w
  else
    let e := w.followOf a
    let w := w.set (Obj.followErr a) (clampInt (-(2 ^ 31)) (2 ^ 31 - 1) e)
    if w.get (Obj.followLimit a) < (e.natAbs : Int) then w.axFlag a afFollow else w

/-- The feedback origins P0 and C0 (R366, R368). -/
def Work.latchOrigin (w : Work) (a : Nat) : Work :=
  let c := if w.feedback a then w.get (Obj.count (w.getN (Obj.fbInput a))) else 0
  w.updAx a (fun x => { x with p0 := w.axPos a, c0 := c })

/-! ### Pushes -/

/-- The move the six objects describe; homing runs at HOME_VEL with HOME_ACCEL (R359, R368; log entry 30). -/
def Work.moveOf (w : Work) (a : Nat) : Move :=
  let kind := w.getN (Obj.mvKind a)
  let homing := decide (kind = 4)
  { kind := kind
    target := w.get (Obj.mvTarget a)
    vmax := if homing then w.getN (Obj.homeVel a) else w.getN (Obj.mvVmax a)
    accel := if homing then w.getN (Obj.homeAccel a) else w.getN (Obj.mvAccel a)
    decel := if homing then w.getN (Obj.homeAccel a) else w.getN (Obj.mvDecel a)
    sync := decide (w.get (Obj.mvSync a) = 1) }

/-- MV_PUSH: the values are copied into the queue, MV_RESULT reports (R359). -/
def mvPush (path : Path) (a : Fin 16) (w : Work) : Work :=
  w.command path (Obj.mvPush a) 1 always (fun w => w.pushMove a (w.moveOf a))

def execMvPush (path : Path) (a : Fin 16) : AxisStep := onWork (mvPush path a)

/-! ### Steps -/

/-- The soft limit stops the axis without ramp (R364). -/
def Work.limitStop (w : Work) (a : Nat) : Work := ((w.axFlag a afLimit).haltAxis a).traverseFault a

/-- The end of the back-off: HOMED, and the next move may start (R368). -/
def Work.homeEnd (w : Work) (a : Nat) : Work := (w.set (Obj.homed a) 1).endMove a false

/-- AXIS_STEP: the step timer expires: one step, then the next interval (R358, R361 to R364). -/
def axisStep (a : Fin 16) (w : Work) : Work :=
  let x := w.ax a
  match x.due, x.queue with
  | some t, m :: _ =>
    if w.clk.ctl < t || !x.running || !w.mode.axesRun then w
    else if x.home = 1 && w.getN (Obj.homeMaxTravel a) ≤ x.travelled then w
    else if m.kind ≠ 4 && w.beyondSoft a (w.axPos a + x.dir) then w.limitStop a
    else
      let w := w.set (Obj.axPosition a) (w.axPos a + x.dir)
      let w := w.updAx a (fun x => { x with since := x.since + 1, travelled := x.travelled + 1, due := none })
      let w := w.showFollow a
      if w.stepsLeft a m = some 0 then
        if m.kind = 4 then w.homeEnd a else w.endMove a (decide (0 < w.jointSpeed a))
      else w.loadStep a (w.nextSpeed a m x.v) 0
  | _, _ => w

def execAxisStep (a : Fin 16) : AxisStep := onWork (axisStep a)

/-! ### Commands (R366) -/

/-- A command of AX_CMD or GROUP_CMD to one axis: decelerate and empty the queue. `decel` none is the present move's MV_DECEL. -/
def Work.stopAxis (w : Work) (a : Nat) (decel : Option Nat) : Work :=
  match (w.ax a).queue with
  | [] => w
  | m :: _ => w.brake a (decel.getD m.decel) []

/-- The quick stop's deceleration. -/
def Work.quickStop (w : Work) (a : Nat) : Work := w.stopAxis a (some (w.getN (Obj.qstopDecel a)))

def axisStop (path : Path) (a : Fin 16) (w : Work) : Work :=
  w.command path (Obj.axCmd a) 1 always (fun w => w.stopAxis a none)

/-- AXIS_STOP: AX_CMD 1. -/
def execAxisStop (path : Path) (a : Fin 16) : AxisStep := onWork (axisStop path a)

def axisQuickStop (path : Path) (a : Fin 16) (w : Work) : Work :=
  w.command path (Obj.axCmd a) 2 always (fun w => w.quickStop a)

/-- AXIS_QUICK_STOP: AX_CMD 2. -/
def execAxisQuickStop (path : Path) (a : Fin 16) : AxisStep := onWork (axisQuickStop path a)

def axisHalt (path : Path) (a : Fin 16) (w : Work) : Work :=
  w.command path (Obj.axCmd a) 3 always (fun w => w.haltAxis a)

/-- AXIS_HALT: AX_CMD 3. -/
def execAxisHalt (path : Path) (a : Fin 16) : AxisStep := onWork (axisHalt path a)

/-- The enable: AXa_EN_N low, AXa_SHORT low, the origins latched; in a mode in which axes are disabled, and in fault, it stays disabled. -/
def Work.enableAxis (w : Work) (a : Nat) : Work :=
  if !w.mode.axesRun || w.get (Obj.axState a) = 5 then w
  else
    let w := (w.updAx a (fun x => { x with enabled := true, shorted := false })).latchOrigin a
    if w.get (Obj.axState a) = 0 then (w.axSt a 1).startTimer (.standstill a) else w

def axisEnable (path : Path) (a : Fin 16) (w : Work) : Work :=
  w.command path (Obj.axCmd a) 4 always (fun w => w.enableAxis a)

/-- AXIS_ENABLE: AX_CMD 4. -/
def execAxisEnable (path : Path) (a : Fin 16) : AxisStep := onWork (axisEnable path a)

def axisDisable (path : Path) (a : Fin 16) (w : Work) : Work :=
  w.command path (Obj.axCmd a) 5 always
    (fun w => if w.get (Obj.axState a) = 5 then w else w.disableAxis a 0)

/-- AXIS_DISABLE: AX_CMD 5; a faulted axis stays in fault. -/
def execAxisDisable (path : Path) (a : Fin 16) : AxisStep := onWork (axisDisable path a)

def axisClearFault (path : Path) (a : Fin 16) (inputHigh : Bool) (w : Work) : Work :=
  w.command path (Obj.axCmd a) 6 always
    (fun w => if inputHigh then
        let w := w.updAx a (fun x => { x with faultLow := false })
        if w.get (Obj.axState a) = 5 then w.axSt a 0 else w
      else w)

/-- AXIS_CLEAR_FAULT: AX_CMD 6, with the level of AXa_FAULT_N. -/
def execAxisClearFault (path : Path) (a : Fin 16) (inputHigh : Bool) : AxisStep := onWork (axisClearFault path a inputHigh)

/-- The axes of a group. -/
def groupAxes (g : Nat) : List Nat := (upTo 4).map (fun i => 4 * g + i)

def groupStop (path : Path) (g : Fin 4) (w : Work) : Work :=
  w.command path (Obj.groupCmd g) 1 always (fun w => (groupAxes g).foldl (fun w a => w.stopAxis a none) w)

/-- GROUP_STOP: GROUP_CMD 1. -/
def execGroupStop (path : Path) (g : Fin 4) : AxisStep := onWork (groupStop path g)

def groupQuickStop (path : Path) (g : Fin 4) (w : Work) : Work :=
  w.command path (Obj.groupCmd g) 2 always (fun w => (groupAxes g).foldl (fun w a => w.quickStop a) w)

/-- GROUP_QUICK_STOP: GROUP_CMD 2. -/
def execGroupQuickStop (path : Path) (g : Fin 4) : AxisStep := onWork (groupQuickStop path g)

/-! ### Timed and driver events -/

/-- STANDSTILL_TIMEOUT: AXa_CR rises after STANDSTILL_DELAY at rest, 0 for never (R367). -/
def standstillTimeout (a : Fin 16) (w : Work) : Work :=
  let d := w.getN (Obj.standstillDelay a)
  let x := w.ax a
  if d = 0 || !w.expired (.standstill a) (d * 1000) || !x.enabled || x.running || !x.queue.isEmpty then w
  else (w.updAx a (fun x => { x with cr := true })).stopTimer (.standstill a)

def execStandstillTimeout (a : Fin 16) : AxisStep := onWork (standstillTimeout a)

/-- CR_WAKE_END: CR_WAKE after AXa_CR fell, the first step follows, after DIR_SETUP where the direction turns (R367, R358). -/
def crWakeEnd (a : Fin 16) (w : Work) : Work :=
  if !w.expired (.crWake a) (w.getN (Obj.crWake a) * 1000) then w
  else
    let before := (w.ax a).dir
    let w := (w.stopTimer (.crWake a)).startHead a 33
    if (w.ax a).running then
      let wait := if (w.ax a).dir = before then 0 else w.getN (Obj.dirSetup a)
      w.updAx a (fun x => { x with due := some (w.clk.ctl + wait) })
    else w

def execCrWakeEnd (a : Fin 16) : AxisStep := onWork (crWakeEnd a)

/-- The end of the search: POSITION takes HOME_POS, the origin is latched and the back-off begins from standstill (R368). -/
def Work.homeFound (w : Work) (a : Nat) : Work :=
  let away := -(w.homeDirOf a)
  let w := (w.set (Obj.axPosition a) (w.get (Obj.homePos a))).latchOrigin a
  let goal := w.axPos a + away * w.get (Obj.homeBackoff a)
  let w := w.updAx a (fun x => { x with
    home := 2
    v := 0
    since := 0
    due := none
    dir := away
    dirPin := decide (away = 1) != decide (w.conf (Obj.dirInvert a) = 1)
    queue := match x.queue with
      | m :: rest => { m with goal := some goal } :: rest
      | [] => [] })
  match (w.ax a).queue with
  | m :: _ => if w.stepsLeft a m = some 0 then w.homeEnd a else w.loadStep a (w.nextSpeed a m 0) (w.getN (Obj.dirSetup a))
  | [] => w

/-- AXIS_STALL: a stall by the source the axis selects: `input` that AXa_STALL_N is low, otherwise the following error (R368, R369). -/
def axisStall (a : Fin 16) (input : Bool) (w : Work) : Work :=
  let x := w.ax a
  let w := w.showFollow a
  let seen := if w.get (Obj.stallSource a) = 0 then input
    else !input && w.feedback a && decide (w.get (Obj.followLimit a) < ((w.followOf a).natAbs : Int))
  if !seen || !x.enabled || !w.mode.axesRun then w
  else if x.since ≤ w.getN (Obj.stallBlank a) || x.home = 2 then w
  else if x.home = 1 then w.homeFound a
  else (((w.axFlag a afStall).bump (Obj.stalls a)).haltAxis a).traverseFault a

def execAxisStall (a : Fin 16) (input : Bool) : AxisStep := onWork (axisStall a input)

/-- DRV_FAULT: AXa_FAULT_N is low (R369, R370). -/
def drvFault (a : Fin 16) (w : Work) : Work :=
  let w := w.updAx a (fun x => { x with faultLow := true })
  ((w.axFlag a afDrvFault).disableAxis a 5).traverseFault a

def execDrvFault (a : Fin 16) : AxisStep := onWork (drvFault a)

/-- HOME_FAIL: HOME_MAX_TRAVEL steps without a stall (R368). -/
def homeFail (a : Fin 16) (w : Work) : Work :=
  let x := w.ax a
  if x.home ≠ 1 || x.travelled < w.getN (Obj.homeMaxTravel a) then w
  else
    let w := (w.axFlag a afHomeFail).set (Obj.homed a) 0
    w.stopAxis a none

def execHomeFail (a : Fin 16) : AxisStep := onWork (homeFail a)

/-- The axes of a group that hold a MV_SYNC move (R365). -/
def Work.syncAxes (w : Work) (g : Nat) : List Nat :=
  (groupAxes g).filter (fun a => (w.ax a).enabled && (w.ax a).queue.any (fun m => m.sync))

/-- AXIS_SYNC_START: every such axis holds its MV_SYNC move at the head and stands still: all start on one clock (R365). -/
def axisSyncStart (g : Fin 4) (w : Work) : Work :=
  let as := w.syncAxes g
  let ready := fun (a : Nat) => match (w.ax a).queue with
    | m :: _ => m.sync && !(w.ax a).running && !w.running (.crWake a)
    | [] => false
  if as.isEmpty || !as.all ready || !w.mode.axesRun then w
  else as.foldl (fun w a =>
    (w.updAx a (fun x => { x with queue := match x.queue with
      | m :: rest => { m with sync := false } :: rest
      | [] => [] })).startHead a 33) w

def execAxisSyncStart (g : Fin 4) : AxisStep := onWork (axisSyncStart g)

end Sys2Proof.Machine
end

