-- ==== Sys2Proof/Machine/Deflate.lean ====
section
/-! DEFINITION. The gzip members of stream records (R335 to R340): matching, blocks and the member, as a fixed function of the body. -/
namespace Sys2Proof.Machine

/-! ### Matching (R337) -/

/-- A literal byte or a match of a length at a distance. -/
inductive Token where
  | lit (b : Nat)
  | copy (len dist : Nat)
  deriving DecidableEq, Repr

/-- The hash of three bytes. -/
def hash3 (a b c : Nat) : Nat := ((a * 1024) ^^^ (b * 32) ^^^ c) &&& 0x7FFF

/-- The hash at a position of a body. -/
def hashAt (xs : Array Nat) (p : Nat) : Nat := hash3 (xs.getD p 0) (xs.getD (p + 1) 0) (xs.getD (p + 2) 0)

/-- The length of the match of position p with an earlier position q, at most `room`. -/
def matchLen (xs : Array Nat) (p q : Nat) : Nat → Nat
  | 0 => 0
  | room + 1 => if xs.getD p 256 = xs.getD q 257 then 1 + matchLen xs (p + 1) (q + 1) room else 0

/-- The earlier positions compared at p: those of its chain, nearest first, at distances up to 32,768, at most 8. -/
def chainOf (xs : Array Nat) (p : Nat) : List Nat :=
  (((List.range (min p 32768)).map (fun i => p - 1 - i)).filter (fun q => hashAt xs q == hashAt xs p)).take 8

/-- The token at p: the longest match, the nearest among equals, or a literal. -/
def tokenAt (xs : Array Nat) (blockEnd p : Nat) : Token :=
  let room := min 258 (blockEnd - p)
  if room < 3 then .lit (xs.getD p 0)
  else
    let best := (chainOf xs p).foldl (fun (b : Nat × Nat) q =>
      let n := matchLen xs p q room
      if b.1 < n then (n, p - q) else b) (0, 0)
    if 3 ≤ best.1 then .copy best.1 best.2 else .lit (xs.getD p 0)

/-- The bytes a token stands for. -/
def Token.size : Token → Nat
  | .lit _ => 1
  | .copy n _ => n

/-- The tokens of a block from p on; the fuel is the bytes left. -/
def tokens (xs : Array Nat) (blockEnd : Nat) : Nat → Nat → List Token
  | 0, _ => []
  | fuel + 1, p =>
    if blockEnd ≤ p then []
    else
      let t := tokenAt xs blockEnd p
      t :: tokens xs blockEnd fuel (p + t.size)

/-! ### Symbols (RFC 1951) -/

/-- The base and the extra bits of the length codes 257 to 285. -/
def lengthCodes : List (Nat × Nat) :=
  [(3, 0), (4, 0), (5, 0), (6, 0), (7, 0), (8, 0), (9, 0), (10, 0), (11, 1), (13, 1), (15, 1), (17, 1), (19, 2), (23, 2), (27, 2), (31, 2),
   (35, 3), (43, 3), (51, 3), (59, 3), (67, 4), (83, 4), (99, 4), (115, 4), (131, 5), (163, 5), (195, 5), (227, 5), (258, 0)]

/-- The base and the extra bits of the distance codes 0 to 29. -/
def distCodes : List (Nat × Nat) :=
  [(1, 0), (2, 0), (3, 0), (4, 0), (5, 1), (7, 1), (9, 2), (13, 2), (17, 3), (25, 3), (33, 4), (49, 4), (65, 5), (97, 5), (129, 6), (193, 6),
   (257, 7), (385, 7), (513, 8), (769, 8), (1025, 9), (1537, 9), (2049, 10), (3073, 10), (4097, 11), (6145, 11), (8193, 12), (12289, 12),
   (16385, 13), (24577, 13)]

/-- The code of a value: the last whose base is not above it, with its extra bits and their value. -/
def codeOf (table : List (Nat × Nat)) (v : Nat) : Nat × Nat × Nat :=
  let n := (table.filter (fun e => decide (e.1 ≤ v))).length - 1
  let e := table.getD n (0, 0)
  (n, e.2, v - e.1)

/-- The counts of the literal/length symbols (256 counted once) and of the distance symbols. -/
def litCounts (ts : List Token) : List Nat :=
  let syms := ts.map (fun t => match t with
    | .lit b => b
    | .copy n _ => 257 + (codeOf lengthCodes n).1)
  (List.range 286).map (fun s => (syms.filter (· == s)).length + (if s = 256 then 1 else 0))
def distCounts (ts : List Token) : List Nat :=
  let syms := ts.filterMap (fun t => match t with
    | .lit _ => none
    | .copy _ d => some (codeOf distCodes d).1)
  (List.range 30).map (fun s => (syms.filter (· == s)).length)

/-! ### Bits -/

/-- A number as `n` bits, least significant first. -/
def lsbBits (v : Nat) : Nat → List Bool
  | 0 => []
  | n + 1 => (v % 2 == 1) :: lsbBits (v / 2) n

/-- A code word, most significant bit first. -/
def codeBits (v n : Nat) : List Bool := (lsbBits v n).reverse

/-- The canonical code word of a symbol by the lengths of its alphabet (RFC 1951, 3.2.2). -/
def canonical (lens : List Nat) (s : Nat) : List Bool :=
  let n := lens.getD s 0
  let first := (List.range n).foldl (fun code b => (code + (if b = 0 then 0 else (lens.filter (· == b)).length)) * 2) 0
  codeBits (first + ((lens.take s).filter (· == n)).length) n

/-- Bytes as bits. -/
def byteBits (bs : List Nat) : List Bool := bs.flatMap (fun b => lsbBits b 8)

/-- Zero bits up to a byte boundary. -/
def padBits (at_ : Nat) : List Bool := List.replicate ((8 - at_ % 8) % 8) false

/-! ### Blocks (R336, R338) -/

/-- The dynamic form of a block. -/
def dynamicForm (final : Bool) (ts : List Token) : List Bool :=
  let ll := Config.huffLengths (litCounts ts) 15
  let dl := if (distCounts ts).all (· == 0) then [1] else Config.huffLengths (distCounts ts) 15
  let one := fun (t : Token) => match t with
    | .lit b => canonical ll b
    | .copy n d =>
      let l := codeOf lengthCodes n
      let k := codeOf distCodes d
      canonical ll (257 + l.1) ++ lsbBits l.2.2 l.2.1 ++ canonical dl k.1 ++ lsbBits k.2.2 k.2.1
  [final, false, true] ++ Config.huffHeader ll dl ++ ts.flatMap one ++ canonical ll 256

/-- One stored block, from a bit position on. -/
def storedBlock (final : Bool) (at_ : Nat) (bs : List Nat) : List Bool :=
  [final, false, false] ++ padBits (at_ + 3) ++ lsbBits bs.length 16 ++ lsbBits (65535 - bs.length) 16 ++ byteBits bs

/-- The stored form of a block: a stored block of up to 65,535 bytes, and one of the rest where there is one. -/
def storedForm (final : Bool) (at_ : Nat) (bs : List Nat) : List Bool :=
  if bs.length ≤ 65535 then storedBlock final at_ bs
  else
    let a := storedBlock false at_ (bs.take 65535)
    a ++ storedBlock final (at_ + a.length) (bs.drop 65535)

/-- The DEFLATE bits of a body, with the counts of dynamic and stored blocks; the fuel is the count of blocks. -/
def deflateBits (xs : Array Nat) : Nat → Nat → List Bool → Nat × Nat → List Bool × Nat × Nat
  | 0, _, out, n => (out, n)
  | fuel + 1, p, out, n =>
    let e := min (p + 65536) xs.size
    let final := decide (xs.size ≤ p + 65536)
    let bs := (List.range (e - p)).map (fun i => xs.getD (p + i) 0)
    let d := dynamicForm final (tokens xs e (e - p) p)
    let s := storedForm final out.length bs
    if s.length < d.length then deflateBits xs fuel e (out ++ s) (n.1, n.2 + 1)
    else deflateBits xs fuel e (out ++ d) (n.1 + 1, n.2)

/-- Bits as bytes, the first bit least significant, zero bits at the end. -/
def bitsBytes (bs : List Bool) : Bytes := leBytes ((bs.length + 7) / 8) (bs.foldr (fun b acc => (if b then 1 else 0) + 2 * acc) 0)

/-- The gzip member of a body, with the counts of dynamic and stored blocks. -/
def gzipMember (body : Bytes) : Bytes × Nat × Nat :=
  let xs := (body.map (fun b => b.toNat)).toArray
  let r := deflateBits xs ((xs.size + 65535) / 65536) 0 [] (0, 0)
  ([0x1F, 0x8B, 8, 0, 0, 0, 0, 0, 0, 255] ++ bitsBytes r.1 ++ leBytes 4 (crc32 body).toNat ++ leBytes 4 body.length, r.2)

/-- The longest member of a body of R bytes (R340). -/
def longestMember (r : Nat) : Nat := r + 18 + 12 * ((r + 65535) / 65536)

end Sys2Proof.Machine
end

