-- ==== Sys2Proof/Machine/Features.lean ====
section
/-! DEFINITION. The 64 features of a candidate (R267): exact sums over its member pixels, rounded half up into their formats. -/
namespace Sys2Proof.Machine

/-! ### Exact rounding -/

/-- A rational rounded half up. -/
def halfUp (r : Rat) : Int := (r + 1 / 2).floor

/-- The square root rounded down, by its bits from the highest, for naturals below 2^256. -/
def sqrtBits : Nat → Nat → Nat → Nat
  | 0, _, r => r
  | b + 1, n, r =>
    let t := r + 2 ^ b
    sqrtBits b n (if t * t ≤ n then t else r)

/-- The square root of a natural below 2^256, rounded down. -/
def sqrtN (n : Nat) : Nat := sqrtBits 128 n 0

/-- s·√r rounded half up, for r ≥ 0: the greatest k with (2k − 1)² ≤ 4·r·s². -/
def sqrtHalfUp (r : Rat) (s : Nat) : Int := if r ≤ 0 then 0 else (((sqrtN (4 * r * s * s).floor.toNat) + 1) / 2 : Nat)

/-- −s·√r rounded half up, for r ≥ 0. -/
def negSqrtHalfUp (r : Rat) (s : Nat) : Int :=
  if r ≤ 0 then 0
  else
    let q : Rat := 4 * r * s * s
    let m := sqrtN q.floor.toNat
    let up := if ((m * m : Nat) : Rat) = q then m else m + 1
    Int.neg ((up / 2 : Nat) : Int)

/-- A quotient, 0 where the divisor is 0 (R267). -/
def ratio (a b : Rat) : Rat := if b = 0 then 0 else a / b

/-- π to 50 decimal places. -/
def piRat : Rat := 314159265358979323846264338327950288419716939937511 / 10 ^ 50

/-- The fixed-point one of the arc tangent. -/
def fxOne : Int := 2 ^ 80

/-- The series of the arc tangent in fixed point: t − t³/3 + t⁵/5 − …. -/
def atanSeries : Nat → Int → Int → Int → Int → Int
  | 0, _, _, _, acc => acc
  | n + 1, t2, pow, k, acc => atanSeries n t2 (-(pow * t2 / fxOne)) (k + 2) (acc + pow / k)

/-- The arc tangent of t in [0, 1], in fixed point: three halvings, then the series. -/
def atanFx (t : Int) : Int :=
  let half := fun (t : Int) => t * fxOne / (fxOne + sqrtN ((fxOne * fxOne + t * t).toNat))
  let u := half (half (half t))
  8 * atanSeries 20 (u * u / fxOne) u 1 0

/-- atan2(y, x) in degrees, in fixed point; 0 for (0, 0) (log entry 31). -/
def atan2Deg (y x : Rat) : Rat :=
  let ay := if y < 0 then -y else y
  let ax := if x < 0 then -x else x
  if ax = 0 && ay = 0 then 0
  else
    let deg := fun (t : Rat) => ((atanFx (t * fxOne).floor : Int) : Rat) / fxOne * 180 / piRat
    let base := if ay ≤ ax then deg (ay / ax) else 90 - deg (ax / ay)
    let q := if x < 0 then 180 - base else base
    if y < 0 then -q else q

/-! ### Formats (R267) -/

/-- Saturate to U32, I32 and Q0.16. -/
def satU (v : Int) : Int := clampInt 0 (2 ^ 32 - 1) v
def satI (v : Int) : Int := clampInt (-(2 ^ 31)) (2 ^ 31 - 1) v
def satQ0 (v : Int) : Int := clampInt 0 65536 v
def fU (r : Rat) : Int := satU (halfUp r)
def fQ8 (r : Rat) : Int := satU (halfUp (r * 256))
def fS8 (r : Rat) : Int := satI (halfUp (r * 256))
def fQ16 (r : Rat) : Int := satU (halfUp (r * 65536))
def fS16 (r : Rat) : Int := satI (halfUp (r * 65536))
def fQ0 (r : Rat) : Int := satQ0 (halfUp (r * 65536))

/-! ### Runs, edges and adjacencies -/

/-- Whether a set of pixels holds a column of a line. -/
def hasPix (s : List Pix) (c y : Nat) : Bool := s.any (fun p => p.c == c && p.y == y)

/-- The first column of the run that holds a column of a line. -/
def runStart (s : List Pix) (y : Nat) : Nat → Nat → Nat
  | 0, c => c
  | fuel + 1, c => if 0 < c && hasPix s (c - 1) y then runStart s y fuel (c - 1) else c

/-- The last column of the run that holds a column of a line. -/
def runEnd (s : List Pix) (y : Nat) : Nat → Nat → Nat
  | 0, c => c
  | fuel + 1, c => if hasPix s (c + 1) y then runEnd s y fuel (c + 1) else c

/-- The runs of a set: line, first and last column. -/
def runsOf (s : List Pix) : List (Nat × Nat × Nat) :=
  (s.filter (fun p => p.c = 0 || !hasPix s (p.c - 1) p.y)).map (fun p => (p.y, p.c, runEnd s p.y s.length p.c))

/-- What the features need of the configuration: pitches in pm, the line step g of a field, eight-way adjacency, and G of a line (R250). -/
structure FeatConf where
  cdPitch : Nat
  mdPitch : Nat
  g       : Nat
  eight   : Bool
  gLine   : Nat → Nat

/-- The pairs of runs in which the later continues the earlier (R250). -/
def adjacencies (k : FeatConf) (s : List Pix) : Nat :=
  let rs := runsOf s
  sumNat (rs.map (fun r =>
    let lo := if k.eight && 0 < r.2.1 then r.2.1 - 1 else r.2.1
    let hi := if k.eight then r.2.2 + 1 else r.2.2
    let met := (upTo (hi + 1 - lo)).filterMap (fun i =>
      let x := lo + i
      let before := (s.filter (fun p => p.c = x && p.y < r.1)).map (fun p => p.y)
      if before.isEmpty then none
      else
        let y := maxNat before
        if r.1 ≤ k.gLine y then some (y, runStart s y s.length x) else none)
    met.eraseDups.length))

/-- PERIMETER of a set within the whole component (R267). -/
def perimeterOf (g : Nat) (s whole : List Pix) : Nat :=
  sumNat (s.map (fun p =>
    let out := fun (c y : Nat) => if hasPix whole c y then 0 else 1
    (if p.c = 0 then 1 else out (p.c - 1) p.y) + out (p.c + 1) p.y + (if p.y < g then 1 else out p.c (p.y - g)) + out p.c (p.y + g)))

/-! ### The features -/

/-- The contrast of a pixel and its magnitude. -/
def pixD (p : Pix) : Int := (p.v : Int) - p.b
def pixAd (p : Pix) : Nat := (pixD p).natAbs

/-- The first pixel in seed order that carries the greatest |d| (feature 43). -/
def peakOf (s : List Pix) : Option Pix :=
  s.foldl (fun best p => match best with
    | none => some p
    | some q =>
      if (pixAd q) < (pixAd p) || ((pixAd p) == (pixAd q) && (p.y < q.y || (p.y == q.y && p.c < q.c))) then some p else some q) none

/-- The least and greatest of a nonempty list, and an open value where it is empty: the spec states no least value of no pixels. -/
def leastI (free : Nat) (xs : List Int) : Int := match xs with
  | [] => free % 65536
  | x :: xs => xs.foldl min x
def mostI (free : Nat) (xs : List Int) : Int := match xs with
  | [] => free % 65536
  | x :: xs => xs.foldl max x

/-- The 64 features of a set `s` of a component `whole`, over the web lines `first` to `last` (R267). `free` is the value left open for the
extremes of an empty slice. -/
def features (k : FeatConf) (s whole : List Pix) (field part first last free : Nat) : List Int :=
  let n : Rat := (s.length : Nat)
  let sum := fun (f : Pix → Rat) => s.foldl (fun a p => a + f p) 0
  let mean := fun (f : Pix → Rat) => ratio (sum f) n
  let dev := fun (f : Pix → Rat) => mean (fun p => f p * f p) - mean f * mean f
  let share := fun (f : Pix → Bool) => mean (fun p => if f p then 1 else 0)
  let cdp : Rat := (k.cdPitch : Rat) / 10 ^ 6
  let mdp : Rat := (k.mdPitch : Rat) / 10 ^ 6
  let area1 : Rat := cdp * mdp * k.g
  let x := fun (p : Pix) => (p.c : Rat)
  let y := fun (p : Pix) => (p.y : Rat) + (p.frac : Rat) / 256
  let v := fun (p : Pix) => (p.v : Rat)
  let b := fun (p : Pix) => (p.b : Rat)
  let d := fun (p : Pix) => ((pixD p) : Rat)
  let ad := fun (p : Pix) => ((pixAd p) : Rat)
  let runs := runsOf s
  let rowsN : Nat := (last - first) / k.g + 1
  let rows : Rat := (rowsN : Nat)
  let lines := (s.map (fun p => p.y)).eraseDups
  let rowArea := lines.map (fun l => (s.filter (fun p => p.y == l)).length)
  let cdMin := leastI free (s.map (fun p => (p.c : Int)))
  let cdMax := mostI free (s.map (fun p => (p.c : Int)))
  let cdW := if s.isEmpty then 0 else cdMax - cdMin + 1
  let mdL : Int := (last : Int) - first + 1
  let wUm : Rat := (cdW : Rat) * cdp
  let lUm : Rat := (mdL : Rat) * mdp
  let per := perimeterOf k.g s whole
  let vx := dev x * cdp * cdp
  let vy := dev y * mdp * mdp
  let cxy := (mean (fun p => x p * y p) - mean x * mean y) * cdp * mdp
  let half := (vx + vy) / 2
  let disc := (vx - vy) / 2 * ((vx - vy) / 2) + cxy * cxy
  let root : Rat := ((sqrtN (disc * 2 ^ 96).floor.toNat : Nat) : Rat) / 2 ^ 48
  let l1 := half + root
  let l2 := if half < root then 0 else half - root
  let det := vx * vy - cxy * cxy
  let peak := peakOf s
  let m3 := mean (fun p => (d p - mean d) * (d p - mean d) * (d p - mean d))
  let vd := dev d
  let skew := if vd = 0 then 0
    else if m3 < 0 then negSqrtHalfUp (m3 * m3 / (vd * vd * vd)) 65536 else sqrtHalfUp (m3 * m3 / (vd * vd * vd)) 65536
  let ends := sumNat (runs.map (fun r => (if (s.any (fun p => p.y == r.1 && p.c == r.2.1 && p.li)) then 1 else 0) +
    (if (s.any (fun p => p.y == r.1 && p.c == r.2.2 && p.ri)) then 1 else 0)))
  let at_ := fun (p : Pix) (q : Nat) => decide ((pixAd p) < q * p.t)
  [ fU n, fU (n * area1), fU rows, fU ((runs.length : Nat) : Rat),
    satU cdMin, satU cdMax, satU cdW, satU mdL,
    fQ8 wUm, fQ8 lUm, fQ8 (mean x), fQ8 (mean y - first),
    fQ0 (ratio n ((cdW : Rat) * rows)), fQ0 (ratio ((lines.length : Nat) : Rat) rows), fQ8 (ratio n ((runs.length : Nat) : Rat)),
    satU ((maxNat (runs.map (fun r => r.2.2 + 1 - r.2.1)) : Nat) : Int),
    satU ((maxNat rowArea : Nat) : Int), fQ8 (ratio n ((lines.length : Nat) : Rat)), satU (per : Int),
    satU ((adjacencies k s : Int) - runs.length + 1),
    fQ0 (min 1 (ratio (4 * piRat * n) ((per * per : Nat) : Rat))),
    fQ16 (vx / 10 ^ 6), fQ16 (vy / 10 ^ 6), fS16 (cxy / 10 ^ 6),
    satU (sqrtHalfUp (16 * l1) 256), satU (sqrtHalfUp (16 * l2) 256),
    if l1 = 0 then 65536 else satQ0 (sqrtHalfUp (l2 / l1) 65536),
    fS16 (atan2Deg (2 * cxy) (vx - vy) / 2),
    fQ16 (ratio wUm lUm), fS16 (ratio cxy vy),
    if det ≤ 0 then 0 else satQ0 (sqrtHalfUp ((n * area1) * (n * area1) / (16 * piRat * piRat * det)) 65536),
    satU (sqrtHalfUp (wUm * wUm + lUm * lUm) 256),
    fQ8 (mean v), satU (sqrtHalfUp (dev v) 256),
    satU (leastI free (s.map (fun p => (p.v : Int)))), satU (mostI free (s.map (fun p => (p.v : Int)))),
    fQ8 (mean b), satU (sqrtHalfUp (dev b) 256),
    fS8 (mean d), fQ8 (mean ad), satU (sqrtHalfUp vd 256),
    satI (leastI free (s.map pixD)), satI (mostI free (s.map pixD)),
    satI ((peak.map pixD).getD ((free % 65536 : Nat) : Int)),
    satU ((peak.map (fun p => (p.c : Int) - cdMin)).getD ((free % 65536 : Nat) : Int)),
    satU ((peak.map (fun p => (p.y : Int) - first)).getD ((free % 65536 : Nat) : Int)),
    satI skew, fQ16 (ratio (mean ad) (mean b)),
    satU ((sumNat (s.map pixAd) / 256 : Nat) : Int),
    satU ((sumNat (s.map (fun p => (pixAd p) - p.t)) / 256 : Nat) : Int),
    fQ0 (share (fun p => decide (0 < (pixD p)))), fQ0 (share (fun p => decide (p.h ≤ (pixAd p)))),
    fQ0 (share (fun p => at_ p 2)), fQ0 (share (fun p => !at_ p 2 && at_ p 4)), fQ0 (share (fun p => !at_ p 4)),
    fS8 (ratio (sum (fun p => ad p * x p * cdp)) (sum ad) - mean x * cdp),
    fS8 (ratio (sum (fun p => ad p * y p * mdp)) (sum ad) - mean y * mdp),
    fQ8 (mean (fun p => (p.gx : Rat)) / 2), satU ((maxNat (s.map (fun p => p.gx / 2)) : Nat) : Int),
    fQ8 (mean (fun p => (p.gm : Rat))),
    satU (ends : Int), satU (((s.filter (fun p => p.uncal)).length : Nat) : Int), satU (field : Int), satU (part : Int) ]

/-- Features in a signed format (R277). -/
def signedFeature (i : Nat) : Bool :=
  i == 23 || i == 27 || i == 29 || i == 38 || i == 41 || i == 42 || i == 43 || i == 46 || i == 55 || i == 56

/-- A feature of a candidate. -/
def Candidate.feat (c : Candidate) (i : Nat) : Int := nth 0 c.feats i

end Sys2Proof.Machine
end

