-- ==== Sys2Proof/Machine/Models.lean ====
section
/-! DEFINITION. Model images and INT8 inference (R276 to R281): the layout, the checks of a download, the layers, and the confidence. -/
namespace Sys2Proof.Machine

/-! ### The image (R276) -/

/-- A signed byte of a byte string. -/
def i8At (b : Bytes) (i : Nat) : Int := signed 8 (leAt b i 1)

/-- An input entry: the feature, the transform or source, the shift, the zero point, the offset and the scale. -/
structure ModelInput where
  feature   : Nat
  transform : Nat
  shift     : Nat
  zero      : Int
  offset    : Int
  scale     : Int

/-- A layer entry (R278). -/
structure Layer where
  kind   : Nat
  input  : Nat
  input2 : Nat
  same   : Bool
  output : Bool
  kh     : Nat
  kw     : Nat
  stride : Nat
  outC   : Nat
  zIn    : Int
  zIn2   : Int
  zOut   : Int
  lo     : Int
  hi     : Int
  wOff   : Nat
  wLen   : Nat
  pOff   : Nat
  m2     : Nat
  shift2 : Nat

/-- Fields of the header. -/
def mdKind (b : Bytes) : Nat := leAt b 6 1
def mdInputs (b : Bytes) : Nat := leAt b 7 1
def mdInH (b : Bytes) : Nat := leAt b 8 2
def mdInW (b : Bytes) : Nat := leAt b 10 2
def mdLayers (b : Bytes) : Nat := leAt b 12 1
def mdClasses (b : Bytes) : Nat := leAt b 13 1
def mdScale (b : Bytes) : Int := signed 32 (leAt b 14 4)
def mdBlob (b : Bytes) : Nat := leAt b 18 4
def mdSigned (b : Bytes) : Bool := bitOf (leAt b 22 1) 0
def mdMacs (b : Bytes) : Nat := leAt b 24 8

/-- Where the sections begin. -/
def mdMapAt (b : Bytes) : Nat := 64 + 16 * mdInputs b
def mdLayersAt (b : Bytes) : Nat := mdMapAt b + 256
def mdBlobAt (b : Bytes) : Nat := mdLayersAt b + 64 * mdLayers b
def mdDigestAt (b : Bytes) : Nat := mdBlobAt b + (mdBlob b + 7) / 8 * 8

/-- The digest an image carries, and its signature block. -/
def modelDigest (b : Bytes) : Bytes := slice b (mdDigestAt b) 32
def modelSig (b : Bytes) : Bytes := b.drop (mdDigestAt b + 32)

/-- Input entry e. -/
def modelInput (b : Bytes) (e : Nat) : ModelInput :=
  let a := 64 + 16 * e
  ⟨leAt b a 1, leAt b (a + 1) 1, leAt b (a + 2) 1, i8At b (a + 3), signed 32 (leAt b (a + 4) 4), signed 32 (leAt b (a + 8) 4)⟩

/-- Layer entry l. -/
def modelLayer (b : Bytes) (l : Nat) : Layer :=
  let a := mdLayersAt b + 64 * l
  { kind := leAt b a 1
    input := leAt b (a + 1) 1
    input2 := leAt b (a + 2) 1
    same := bitOf (leAt b (a + 3) 1) 0
    output := bitOf (leAt b (a + 3) 1) 1
    kh := leAt b (a + 4) 1
    kw := leAt b (a + 5) 1
    stride := leAt b (a + 6) 1
    outC := leAt b (a + 8) 2
    zIn := i8At b (a + 10)
    zIn2 := i8At b (a + 11)
    zOut := i8At b (a + 12)
    lo := i8At b (a + 13)
    hi := i8At b (a + 14)
    wOff := leAt b (a + 16) 4
    wLen := leAt b (a + 20) 4
    pOff := leAt b (a + 24) 4
    m2 := leAt b (a + 28) 4
    shift2 := leAt b (a + 32) 1 }

/-! ### Shapes and the checks of a download (R279, R281) -/

/-- The shape of a tensor: lines, columns, channels. -/
structure Shape where
  h : Nat
  w : Nat
  c : Nat
  deriving DecidableEq, Repr

/-- The elements of a tensor. -/
def Shape.size (s : Shape) : Nat := s.h * s.w * s.c

/-- Output lines or columns: ceil(H ÷ STRIDE) with same padding, floor((H − K) ÷ STRIDE) + 1 without. -/
def outDim (l : Layer) (h k : Nat) : Nat := if l.same then ceilDiv h l.stride else if h < k then 0 else (h - k) / l.stride + 1

/-- The output shape of a layer. -/
def Layer.shape (l : Layer) (s : Shape) : Shape :=
  let oh := outDim l s.h l.kh
  let ow := outDim l s.w l.kw
  match l.kind with
  | 1 => ⟨oh, ow, l.outC⟩
  | 2 => ⟨oh, ow, s.c⟩
  | 3 => ⟨1, 1, l.outC⟩
  | 6 => ⟨1, 1, s.c⟩
  | 7 => s
  | _ => ⟨oh, ow, s.c⟩

/-- The weights per output element of a layer: 0 for one without weights. -/
def Layer.perOut (l : Layer) (s : Shape) : Nat :=
  match l.kind with
  | 1 => l.kh * l.kw * s.c
  | 2 => l.kh * l.kw
  | 3 => s.size
  | _ => 0

/-- The weight bytes of a layer. -/
def Layer.weights (l : Layer) (s : Shape) : Nat :=
  match l.kind with
  | 1 => l.outC * l.perOut s
  | 2 => s.c * l.perOut s
  | 3 => l.outC * l.perOut s
  | _ => 0

/-- The channels whose parameter blocks a layer reads. -/
def Layer.channels (l : Layer) (s : Shape) : Nat :=
  match l.kind with
  | 1 => l.outC | 2 => s.c | 3 => l.outC | 7 => s.c | _ => 0

/-- The parameter block of a channel: BIAS, M, SHIFT (R279). -/
def modelParam (b : Bytes) (l : Layer) (o : Nat) : Int × Nat × Nat :=
  let a := mdBlobAt b + l.pOff + 12 * o
  (signed 32 (leAt b a 4), leAt b (a + 4) 4, leAt b (a + 8) 1)

/-- The shape a layer number names: the model input for 0xFF, else an earlier layer's output. -/
def shapeOf (base : Shape) (done : List Shape) (i : Nat) : Option Shape := if i = 0xFF then some base else done[i]?

/-- The checks of one layer, with its output shape (R278, R279, R281). -/
def layerOk (b : Bytes) (base : Shape) (done : List Shape) (l : Layer) : Option Shape :=
  match shapeOf base done l.input with
  | none => none
  | some s =>
    let o := l.shape s
    let kinds := if mdKind b = 1 then decide (1 ≤ l.kind) && decide (l.kind ≤ 7) else l.kind == 3 || l.kind == 7
    let ranges := decide (1 ≤ l.kh) && decide (l.kh ≤ 7) && decide (1 ≤ l.kw) && decide (l.kw ≤ 7) && (l.stride == 1 || l.stride == 2)
      && decide (1 ≤ l.outC) && decide (l.outC ≤ 512) && (!l.same || (l.kh % 2 == 1 && l.kw % 2 == 1))
    let kindly := match l.kind with
      | 2 => l.outC == s.c
      | 4 => l.zOut == l.zIn
      | 5 => l.zOut == l.zIn
      | 6 => l.zOut == l.zIn
      | 7 => decide (l.shift2 ≤ 31) && decide (shapeOf base done l.input2 = some s)
      | _ => true
    let n := l.channels s
    let blob := l.wLen == l.weights s && (l.wLen == 0 || decide (l.wOff + l.wLen ≤ mdBlob b)) && (n == 0 || decide (l.pOff + 12 * n ≤ mdBlob b))
    let params := (upTo n).all (fun o =>
      let q := modelParam b l o
      decide (2 ^ 30 ≤ q.2.1) && decide (q.2.1 < 2 ^ 31) && decide (q.2.2 ≤ 31))
    if kinds && ranges && kindly && blob && params && decide (1 ≤ o.size) && decide (o.size ≤ 32768) then some o else none

/-- The output shapes of all layers, or none where a check fails. -/
def layerShapes (b : Bytes) (base : Shape) : List Layer → List Shape → Option (List Shape)
  | [], done => some done
  | l :: ls, done => match layerOk b base done l with
    | none => none
    | some o => layerShapes b base ls (done ++ [o])

/-- The layers of an image. -/
def modelLayers (b : Bytes) : List Layer := (upTo (mdLayers b)).map (modelLayer b)

/-- The shape of the model input. -/
def modelBase (b : Bytes) : Shape := if mdKind b = 1 then ⟨mdInH b, mdInW b, mdInputs b⟩ else ⟨1, 1, mdInputs b⟩

/-- MACS as R281 counts them: output elements times weights per output element. -/
def countMacs (base : Shape) (ls : List Layer) (shapes : List Shape) : Nat :=
  sumNat (ls.zipIdx.map (fun e =>
    match shapeOf base shapes e.1.input, shapes[e.2]? with
    | some s, some o => o.size * e.1.perOut s
    | _, _ => 0))

/-- The format of a model image is right (R276, R281). -/
def modelFormat (b : Bytes) : Bool :=
  let k := mdKind b
  let n := mdInputs b
  let dim := fun (x : Nat) => decide (16 ≤ x) && decide (x ≤ 256) && x % 8 == 0
  let input := fun (e : Nat) =>
    let i := modelInput b e
    if k = 1 then decide (i.transform ≤ 1) && decide (i.shift ≤ 15)
    else decide (i.feature ≤ 63) && decide (i.transform ≤ 1) && !(i.transform == 1 && signedFeature i.feature)
  decide (64 ≤ b.length) && leAt b 0 4 == 0x4D444C4D && leAt b 4 2 == 1 && decide (k ≤ 1)
    && (if k = 1 then decide (1 ≤ n) && decide (n ≤ 2) && dim (mdInH b) && dim (mdInW b)
        else decide (1 ≤ n) && decide (n ≤ 64) && mdInH b == 1 && mdInW b == 1)
    && decide (1 ≤ mdLayers b) && decide (mdLayers b ≤ 64) && decide (0 < mdScale b) && decide (8 ≤ mdBlob b) && decide (mdBlob b ≤ 16777216)
    && b.length == mdDigestAt b + 32 + (if mdSigned b then 3328 else 0)
    && shake256 (b.take (mdDigestAt b)) == modelDigest b
    && allZero ((slice b (mdMapAt b) 256).drop (mdClasses b + 1))
    && (upTo n).all input
    && (match layerShapes b (modelBase b) (modelLayers b) [] with
      | none => false
      | some shapes =>
        (match (modelLayers b).getLast? with
          | some l => l.kind == 3 && l.output && l.outC == mdClasses b + 1
          | none => false) &&
        countMacs (modelBase b) (modelLayers b) shapes == mdMacs b)

/-! ### Inference (R277 to R280) -/

/-- rr(x, n): rounded half up after a division by 2^n. -/
def rr (x : Int) (n : Nat) : Int := if n = 0 then x else (x + 2 ^ (n - 1)) / 2 ^ n

/-- The input element of a feature model (R277): with TRANSFORM 1 the greatest u with 2^u ≤ (R + 1)^256. -/
def featureInput (i : ModelInput) (feats : List Int) : Int :=
  let r := nth 0 feats i.feature
  let u : Int := if i.transform = 0 then r else ↑(Nat.log2 ((r + 1).toNat ^ 256))
  clampInt (-128) 127 (rr ((u - i.offset) * i.scale) 24)

/-- The value of a crop model's channel at a pixel (R278): the contrast or the value, none where the pixel is invalid. -/
def cropInput (i : ModelInput) (v b : Nat) (valid : Bool) : Int :=
  if !valid then i.zero
  else
    let x : Int := if i.transform = 0 then (v : Int) - b else (v : Int) - 32768
    clampInt (-128) 127 (rr x i.shift + i.zero)

/-- An accumulator held at the limits of I32, and whether it was. -/
def satAcc (x : Int) : Int × Bool := if x < -2147483648 then (-2147483648, true) else if 2147483647 < x then (2147483647, true) else (x, false)

/-- The element of a tensor at line, column, channel; `out` outside it. -/
def tensorAt (s : Shape) (a : List Int) (out : Int) (y x : Int) (c : Nat) : Int :=
  if y < 0 || x < 0 || (s.h : Int) ≤ y || (s.w : Int) ≤ x then out
  else nth 0 a ((y.toNat * s.w + x.toNat) * s.c + c)

/-- The places of a layer's kernel at an output place: with same padding the kernel is centred. -/
def kernelPlaces (l : Layer) (y x : Nat) : List (Int × Int) :=
  let py := if l.same then (l.kh - 1) / 2 else 0
  let px := if l.same then (l.kw - 1) / 2 else 0
  (upTo l.kh).flatMap (fun ky => (upTo l.kw).map (fun kx => (((y * l.stride + ky : Nat) : Int) - py, ((x * l.stride + kx : Nat) : Int) - px)))

/-- The accumulator after a channel's multiplier and shift (R279). -/
def scaled (l : Layer) (acc : Int) (m sh : Nat) : Int := clampInt l.lo l.hi (l.zOut + rr (acc * m) (31 + sh))

/-- A layer's output, with the saturations of its accumulators. -/
def runLayer (b : Bytes) (l : Layer) (s : Shape) (a a2 : List Int) : List Int × Nat :=
  let o := l.shape s
  let places := (upTo o.h).flatMap (fun y => (upTo o.w).flatMap (fun x => (upTo o.c).map (fun c => (y, x, c))))
  let w := fun (i : Nat) => i8At b (mdBlobAt b + l.wOff + i)
  let macs := fun (n : Nat) (terms : List (Int × Int)) =>
    let q := modelParam b l n
    let r := satAcc (q.1 + terms.foldl (fun acc t => acc + t.1 * (t.2 - l.zIn)) 0)
    (scaled l r.1 q.2.1 q.2.2, r.2)
  let counted := fun (rs : List (Int × Bool)) => (rs.map (fun r => r.1), (rs.filter (fun r => r.2)).length)
  match l.kind with
  | 1 => counted (places.map (fun e =>
      macs e.2.2 (((kernelPlaces l e.1 e.2.1).zipIdx.flatMap (fun k => (upTo s.c).map (fun i =>
        (w ((e.2.2 * (l.kh * l.kw) + k.2) * s.c + i), tensorAt s a l.zIn k.1.1 k.1.2 i)))))))
  | 2 => counted (places.map (fun e =>
      macs e.2.2 ((kernelPlaces l e.1 e.2.1).zipIdx.map (fun k => (w (e.2.2 * (l.kh * l.kw) + k.2), tensorAt s a l.zIn k.1.1 k.1.2 e.2.2)))))
  | 3 => counted ((upTo l.outC).map (fun n => macs n (a.zipIdx.map (fun e => (w (n * s.size + e.2), e.1)))))
  | 4 => (places.map (fun e => ((kernelPlaces l e.1 e.2.1).map (fun k => tensorAt s a l.zIn k.1 k.2 e.2.2)).foldl max (-128)), 0)
  | 5 => (places.map (fun e =>
      let n := l.kh * l.kw
      (((kernelPlaces l e.1 e.2.1).map (fun k => tensorAt s a l.zIn k.1 k.2 e.2.2)).foldl (· + ·) 0 + (n / 2 : Nat)) / (n : Nat)), 0)
  | 6 => ((upTo s.c).map (fun c =>
      let n := s.h * s.w
      (((upTo n).map (fun i => nth 0 a (i * s.c + c))).foldl (· + ·) 0 + (n / 2 : Nat)) / (n : Nat)), 0)
  | _ => (a.zipIdx.map (fun e =>
      let q := modelParam b l (e.2 % s.c)
      clampInt l.lo l.hi (l.zOut + rr ((e.1 - l.zIn) * q.2.1) (31 + q.2.2) + rr ((nth 0 a2 e.2 - l.zIn2) * l.m2) (31 + l.shift2))), 0)

/-- All layers in order: the outputs so far, with their shapes, and the saturations. -/
def runLayers (b : Bytes) (base : Shape) (x : List Int) : List Layer → List (Shape × List Int) → Nat → List (Shape × List Int) × Nat
  | [], done, n => (done, n)
  | l :: ls, done, n =>
    let src := fun (i : Nat) => if i = 0xFF then (base, x) else nth (base, []) done i
    let r := runLayer b l (src l.input).1 (src l.input).2 (src l.input2).2
    runLayers b base x ls (done ++ [(l.shape (src l.input).1, r.1)]) (n + r.2)

/-- e^−x in units of 2^−96 for 0 ≤ x, by the series of e^(−x÷1024) and ten squarings. -/
def expNeg (x : Rat) : Nat :=
  let one : Nat := 2 ^ 96
  let y : Rat := x / 1024
  let series := (List.range 24).foldl (fun (acc : Rat × Rat) (k : Nat) => (acc.1 + acc.2, acc.2 * (-y) / ((k : Rat) + 1))) (0, 1)
  let v := (series.1 * one).floor.toNat
  (List.range 10).foldl (fun acc _ => acc * acc / one) v

/-- E[k] of a model (R280): floor(65,536·exp(−s·k) + 0.5); 0 from exponents of 16 on, where the term is below one half. -/
def expEntry (scale : Int) (k : Nat) : Nat :=
  let x : Rat := ((scale * k : Int) : Rat) / 65536
  if 16 ≤ x then 0 else (2 * 65536 * expNeg x + 2 ^ 96) / (2 * 2 ^ 96)

/-- The class, the confidence and the saturations of a model on its input tensor (R280). -/
def infer (b : Bytes) (x : List Int) : Nat × Nat × Nat :=
  let r := runLayers b (modelBase b) x (modelLayers b) [] 0
  let z := (r.1.getLast?.map (fun o => o.2)).getD []
  let top := z.foldl max (-128)
  let win := (z.takeWhile (fun v => v ≠ top)).length
  let s := sumNat (z.map (fun v => expEntry (mdScale b) (top - v).toNat))
  (leAt b (mdMapAt b + win) 1, min 65535 ((2 ^ 32 + s / 2) / (max s 1)), r.2)

end Sys2Proof.Machine
end

