-- ==== Sys2Proof/Machine/Grading.lean ====
section
/-! DEFINITION. Grading and the candidate queue (chapter 11, R268 to R274, R283 to R287). -/
namespace Sys2Proof.Machine

/-! ### Flags of the defect record (R286) -/

def dfCrop : Nat := 0x0002
def dfNetUsed : Nat := 0x0004
def dfUncal : Nat := 0x0008
def dfTruncated : Nat := 0x0010
def dfStreak : Nat := 0x0020
def dfStreakEnd : Nat := 0x0040
def dfSplit : Nat := 0x0080
def dfReplayed : Nat := 0x0100
def dfHaloLate : Nat := 0x0200
def dfArea : Nat := 0x0400
def dfBound : Nat := 0x0800
def dfUnclassified : Nat := 0x1000
def dfNetSkipped : Nat := 0x2000
def dfCropLost : Nat := 0x4000
def dfRedelivered : Nat := 0x8000

/-- Whether a candidate is an AREA candidate. -/
def Candidate.isArea (c : Candidate) : Bool := c.flags &&& dfArea ≠ 0

/-! ### The latency bounds (R266, R274) -/

/-- The line step g of a field in the stitched structure: FIELD_COUNT in FIELD_MODE 1, otherwise 1. -/
def Work.fieldStep (w : Work) : Nat :=
  match w.activePorts with
  | [] => 1
  | p :: _ => if w.fieldModeOf p = 1 then max 1 (w.fieldsOf p) else 1

/-- UNIT_LOAD ρ in 1/65,536: 2,112 · r_f ÷ 256,000,000, with r_f MAX_LINE_RATE ÷ FIELD_COUNT in FIELD_MODE 1. -/
def Work.loadRho (w : Work) : Nat := (roundDiv (2112 * w.confN Obj.maxLineRate * 65536 : Nat) (256000000 * w.fieldStep)).toNat

/-- What both bounds grow by with ρ above 2.5. -/
def Work.rhoExtra (w : Work) : Nat := (w.loadRho - 163840) * w.frameLen / 65536

/-- CLOSE_GAP in force for the frame of a line. -/
def Work.gapAt (w : Work) (line : Nat) : Nat := w.valueAtN Obj.closeGap (w.frameOf line)

/-- The last trigger at which a candidate may be handed over (R266), and at which its record may be numbered (R274). -/
def Work.handBound (w : Work) (last : Nat) : Nat :=
  last + w.sMax (w.frameOf last) + 5 * w.frameLen / 2 + w.gapAt last + w.rhoExtra
def Work.numberBound (w : Work) (last : Nat) : Nat :=
  last + w.sMax (w.frameOf last) + 3 * w.frameLen + w.gapAt last + w.rhoExtra

/-! ### Grading (R283 to R285) -/

/-- What a rule decides. -/
structure Verdict where
  grade : Nat
  rings : Nat
  marks : Nat
  crop  : Nat
  cropRing : Nat
  rule  : Nat
  user  : Nat

/-- A feature limit of a rule: none where the rule names no feature. -/
def Work.limitHolds (w : Work) (fkey lo hi n : Nat) (c : Candidate) : Bool :=
  let f := w.valueAtN fkey n
  f == 0xFF || (decide (w.valueAt lo n ≤ c.feat f) && decide (c.feat f ≤ w.valueAt hi n))

/-- Rule r matches a candidate with a class, a confidence and flags (R283); flags 15, 14 and 1 are ignored. -/
def Work.ruleMatches (w : Work) (r n : Nat) (c : Candidate) (cls conf flags : Nat) : Bool :=
  let set := w.valueAtN (Obj.flagsSet r) n &&& 0x3FFD
  let clr := w.valueAtN (Obj.flagsClear r) n &&& 0x3FFD
  w.valueAt (Obj.ruleEnable r) n == 1 && decide (w.valueAtN (Obj.classLo r) n ≤ cls) && decide (cls ≤ w.valueAtN (Obj.classHi r) n) &&
    bitOf (w.valueAtN (Obj.fieldMask r) n) c.field && decide (w.valueAtN (Obj.minConf r) n ≤ conf) &&
    w.limitHolds (Obj.featA r) (Obj.aMin r) (Obj.aMax r) n c && w.limitHolds (Obj.featB r) (Obj.bMin r) (Obj.bMax r) n c &&
    (flags &&& set) == set && (flags &&& clr) == 0

/-- The deciding rule, or the default (R283). -/
def Work.verdict (w : Work) (c : Candidate) (cls conf flags : Nat) : Verdict :=
  let n := w.frameOf c.last
  match (upTo 128).find? (fun r => w.ruleMatches r n c cls conf flags) with
  | some r => ⟨w.valueAtN (Obj.grade r) n, w.valueAtN (Obj.ringMask r) n, w.valueAtN (Obj.markMask r) n, w.valueAtN (Obj.crop r) n,
      w.valueAtN (Obj.cropRing r) n, r, w.valueAtN (Obj.userCode r) n⟩
  | none => ⟨w.valueAtN Obj.defaultGrade n, w.valueAtN Obj.defaultRingMask n, 0, 0, 0, 0xFF, 0⟩

/-- The result of classification. -/
structure ClassResult where
  cls   : Nat
  conf  : Nat
  fcls  : Nat
  fconf : Nat
  flags : Nat := 0
  netModel  : Nat := 0xF
  featModel : Nat := 0xF
  deriving DecidableEq, Repr

/-- A candidate graded: graded 0 it is counted and yields nothing, otherwise its record goes to the Ledger (R284 to R287). -/
def Work.gradeIt (w : Work) (c : Candidate) (r : ClassResult) : Work :=
  let flags := c.flags ||| r.flags
  let v := w.verdict c r.cls r.conf flags
  if v.grade = 0 then w.bump Obj.gradedOut
  else
    let u := fun (i : Nat) => field 32 (c.feat i)
    w.emit (.dfx
      { dIntegral := u 48
        vMean := u 32
        userCode := v.user
        netModel := r.netModel
        featModel := r.featModel
        orientation := u 27
        dMean := u 38
        lengthUm := u 9
        widthUm := u 8
        dPeak := u 43
        areaUm2 := u 1
        flags := flags ||| (if v.crop = 0 then 0 else dfCrop)
        area := u 0
        cdMax := u 5
        cdMin := u 4
        lastLine := c.last
        part := c.part
        firstLine := c.first
        cd := u 10
        rule := v.rule
        md := c.first * 256 + u 11
        candId := c.id
        featConf := r.fconf
        conf := r.conf
        featClass := r.fcls
        cls := r.cls
        grade := v.grade
        field := c.field
        ringMask := v.rings
        crop := v.crop
        ruleCropRing := v.cropRing
        wantMarks := v.marks })

/-- The entries of the candidate queue (R268). -/
def candQueueSize : Nat := 262144

/-- CAND_QUEUE_USED. -/
def Work.showCands (w : Work) : Work := w.set Obj.candQueueUsed w.cls.queue.length

/-- A candidate handed over by segmentation enters the queue, or is graded at once where the queue is full (R268, R273). -/
def Work.queueCandidate (w : Work) (c : Candidate) : Work :=
  if w.cls.queue.length < candQueueSize then ({ w with cls := { w.cls with queue := w.cls.queue ++ [c] } }).showCands
  else
    let u := w.valueAtN Obj.classUnknown (w.frameOf c.last)
    (w.bump Obj.unclassified).gradeIt c { cls := u, conf := 0, fcls := u, fconf := 0, flags := dfUnclassified }

/-- A candidate is handed over: late against R266 it carries BOUND. -/
def Work.handOver (w : Work) (c : Candidate) : Work :=
  let late := match w.axis.last with
    | some k => decide (w.handBound c.last < k)
    | none => false
  let w := w.bump Obj.candidates
  if late then ((w.bump Obj.boundMissed).flag Obj.segFlags 2).queueCandidate { c with flags := c.flags ||| dfBound }
  else w.queueCandidate c

end Sys2Proof.Machine
end

