-- ==== Sys2Proof/Machine/Segment.lean ====
section
/-! DEFINITION. Segmentation inside a job (chapter 10, R241 to R251, R261): profiles and background, the sieve, labelling. -/
namespace Sys2Proof.Machine

/-- The fields that are segmented (R241). -/
def Work.segList (w : Work) : List Nat := (upTo 8).filter (fun f => bitOf (w.confN Obj.segFields) f)

/-- The tiles of the module's plane, in group numbering (R234). -/
def Work.tileList (w : Work) : List Nat :=
  if w.loom.width = 0 then []
  else
    let t0 := w.groupBase / 2048
    (upTo ((w.groupBase + w.loom.width - 1) / 2048 + 1 - t0)).map (t0 + ·)

/-- G(L) for a field line (R250): the least line of the field at least K later. -/
def Work.gOf (w : Work) (line : Nat) : Nat := line + ceilDiv (w.gapAt line) w.fieldStep * w.fieldStep

/-- What the features need of the configuration in force. -/
def Work.featConf (w : Work) : FeatConf :=
  ⟨w.confN Obj.cdPitch, w.confN Obj.mdPitch, w.fieldStep, decide (w.confN Obj.connectivity = 0), w.gOf⟩

/-- The web lines of a band that carry field f (R243). -/
def Work.bandLines (w : Work) (f n b : Nat) : List Nat :=
  ((upTo 256).map (n * w.frameLen + 256 * b + ·)).filter (fun l => (w.lineFields l).contains f)

/-- Bands of a frame. -/
def Work.bandCount (w : Work) : Nat := w.frameLen / 256

/-! ### Profiles and background (R244 to R246) -/

/-- Add a line's valid values to sums and counts by column. -/
def addCols (cols : List (Nat × Nat)) (vs : List Cand) : List (Nat × Nat) :=
  let base := if cols.isEmpty then List.replicate vs.length (0, 0) else cols
  List.zipWith (fun a c => if c.valid then (a.1 + c.v, a.2 + 1) else a) base vs

/-- The sweep's accumulation of a stitched line; profiles are kept as long as their frame lies in the ring. -/
def Work.profileLine (w : Work) (st : Stitched) : Work :=
  let n := w.frameOf st.1
  let band0 := decide (st.1 % w.frameLen < 256)
  let keep := fun (p : Prof) => decide (n ≤ p.frame + 2 + w.getN Obj.ringDepth / w.frameLen)
  st.2.foldl (fun w e =>
    if !bitOf (w.confN Obj.segFields) e.1 then w
    else
      let old := (w.seg.profs.find? (fun p => p.frame == n && p.field == e.1)).getD ⟨n, e.1, [], []⟩
      let p : Prof := ⟨n, e.1, addCols old.cols e.2, if band0 then addCols old.band0 e.2 else old.band0⟩
      let rest := w.seg.profs.filter (fun q => !(q.frame == n && q.field == e.1) && keep q)
      { w with seg := { w.seg with profs := p :: rest } }) w

/-- A profile value from a sum, a count and the lines they come from (R244). -/
def profValue (sum count lines : Nat) : Option Nat := if count = 0 || 2 * count < lines then none else some ((sum + count / 2) / count)

/-- P(c) of a frame, or of its band 0; columns of a neighbour come through the halo strip (R244, R245). -/
def Work.profAt (w : Work) (f n : Nat) (band0 : Bool) (c : Int) : Option Nat :=
  let ls := if band0 then w.bandLines f n 0 else w.frameLines f n
  if 0 ≤ c && c < w.loom.width then
    match w.seg.profs.find? (fun p => p.frame == n && p.field == f) with
    | none => none
    | some p =>
      let e := nth (0, 0) (if band0 then p.band0 else p.cols) c.toNat
      profValue e.1 e.2 ls.length
  else
    let vs := (ls.map (fun l => w.passColumn f l c)).filter (fun x => x.valid)
    profValue (sumNat (vs.map (fun x => x.v))) vs.length ls.length

/-- The mean of the valid profile values of a window, half up; none where none is valid. -/
def Work.windowMean (w : Work) (f n : Nat) (band0 : Bool) (c : Int) (h : Nat) : Option Nat :=
  let vs := (upTo (2 * h + 1)).filterMap (fun (i : Nat) => w.profAt f n band0 (c - h + i))
  if vs.isEmpty then none else some ((2 * sumNat vs + vs.length) / (2 * vs.length))

/-- The frames with profiles before a frame, newest first. -/
def Work.profFrames (w : Work) (f n : Nat) : List Nat :=
  ((upTo (n + 1)).drop (n - 64)).reverse.filter (fun m => w.seg.profs.any (fun p => p.field == f && p.frame == m))

/-- The background of a column in frame n, and whether no profile was found (R245). -/
def Work.background (w : Work) (f n : Nat) (band0 : Bool) (c : Int) : Nat × Bool :=
  let level := w.valueAtN (Obj.bgLevel f) n
  if w.valueAt (Obj.bgMode f) n = 0 then (level, false)
  else
    let h := (w.valueAtN (Obj.bgCdWidth f) n - 1) / 2
    match (if band0 then w.windowMean f n true c h else none) with
    | some b => (b, false)
    | none => match (if n = 0 then [] else w.profFrames f (n - 1)).findSome? (fun m => w.windowMean f m false c h) with
      | some b => (b, false)
      | none => (level, true)

/-- The job uses the band-0 profile: the exposure generation of a sensor preferred in a core column differs from the frame before (R246). -/
def Work.newExposure (w : Work) (t n : Nat) : Bool :=
  let lo : Int := (t * 2048 : Nat) - (w.groupBase : Int)
  decide (0 < n) && (upTo 2048).any (fun (i : Nat) =>
    match (w.mapEntry n (lo + i)).preferred with
    | some x => decide (0 ≤ lo + i) && w.expGenAt (x.s / 8) n != w.expGenAt (x.s / 8) (n - 1)
    | none => false)

/-! ### The sieve (R247, R248) -/

/-- A tile line ready for labelling: values, validity, UNCAL, backgrounds and thresholds of the 2,112 columns. -/
structure SieveLine where
  vs  : List Nat
  ok  : List Bool
  unc : List Bool
  bs  : List Nat
  missing : Bool
  late : Bool
  lost : Bool

/-- SMOOTH along the line; an invalid neighbour takes the pixel's own value. -/
def smoothed (vs : List Nat) (ok : List Bool) : List Nat :=
  let nb := fun (own : Nat) (i : Nat) (has : Bool) => if has && nth false ok i then nth 0 vs i else own
  vs.zipIdx.map (fun e =>
    let l := nb e.1 (e.2 - 1) (decide (0 < e.2))
    let r := nb e.1 (e.2 + 1) (decide (e.2 + 1 < vs.length))
    (l + 2 * e.1 + r + 2) / 4)

/-- Fetch a line of the job's window and its backgrounds. -/
def Work.sieveLine (w : Work) (f n t : Nat) (band0 : Bool) (line : Nat) : SieveLine :=
  let win := tileWindow w.groupBase t
  let l := w.passLine f win line
  let ok := l.cols.map (fun c => c.valid)
  let raw := l.cols.map (fun c => c.v)
  let vs := if w.valueAt (Obj.smooth f) n = 1 then smoothed raw ok else raw
  let bg := (upTo win.width).map (fun (i : Nat) => w.background f n band0 (win.first + i))
  ⟨vs, ok, l.cols.map (fun c => c.uncal), bg.map (fun b => b.1), bg.any (fun b => b.2), l.late, l.lost⟩

/-- The low and high thresholds over a background. -/
def Work.thresholds (w : Work) (f n b : Nat) : Nat × Nat :=
  (w.valueAtN (Obj.tLowAbs f) n + w.valueAtN (Obj.tLowRel f) n * b / 65536,
   w.valueAtN (Obj.tHighAbs f) n + w.valueAtN (Obj.tHighRel f) n * b / 65536)

/-- The test of a contrast against a threshold by polarity. -/
def passes (pol : Nat) (d : Int) (t : Nat) : Bool :=
  match pol with
  | 1 => decide ((t : Int) ≤ d)
  | 2 => decide ((t : Int) ≤ -d)
  | _ => decide (t ≤ d.natAbs)

/-- The runs of consecutive marked columns: first and last. -/
def markRuns : List Bool → Nat → Option Nat → List (Nat × Nat)
  | [], _, none => []
  | [], i, some a => [(a, i - 1)]
  | true :: ms, i, none => markRuns ms (i + 1) (some i)
  | true :: ms, i, some a => markRuns ms (i + 1) (some a)
  | false :: ms, i, none => markRuns ms (i + 1) none
  | false :: ms, i, some a => (a, i - 1) :: markRuns ms (i + 1) none

/-- Gap fill: runs at most `gap` valid columns apart become one. -/
def fillGaps (ok : List Bool) (gap : Nat) : List (Nat × Nat) → List (Nat × Nat)
  | [] => []
  | r :: rs =>
    match fillGaps ok gap rs with
    | [] => [r]
    | q :: qs =>
      let n := q.1 - r.2 - 1
      if n ≤ gap && (upTo n).all (fun i => nth false ok (r.2 + 1 + i)) then (r.1, q.2) :: qs else r :: q :: qs

/-- The runs of a line after the sieve, in window columns. -/
def Work.sieveRuns (w : Work) (f n : Nat) (l : SieveLine) : List (Nat × Nat) :=
  let pol := w.valueAtN (Obj.sgPolarity f) n
  let marks := (upTo l.vs.length).map (fun i =>
    let b := nth 0 l.bs i
    nth false l.ok i && passes pol (((nth 0 l.vs i : Nat) : Int) - b) (w.thresholds f n b).1)
  (fillGaps l.ok (w.valueAtN (Obj.runGap f) n) (markRuns marks 0 none)).filter (fun r => decide (w.valueAtN (Obj.runMin f) n ≤ r.2 + 1 - r.1))

/-- The member pixel at a window column; `prev` holds the values of the field line its gradient is taken against. -/
def Work.pixAt (w : Work) (f n t : Nat) (l : SieveLine) (prev : List Nat) (line i : Nat) : Pix :=
  let v := nth 0 l.vs i
  let b := nth 0 l.bs i
  let th := w.thresholds f n b
  let side := fun (j : Nat) (has : Bool) => if has && nth false l.ok j then nth 0 l.vs j else v
  let vl := side (i - 1) (decide (0 < i))
  let vr := side (i + 1) (decide (i + 1 < l.vs.length))
  { c := t * 2048 + i - 32
    y := line
    v := v
    b := b
    t := th.1
    h := th.2
    gx := ((vr : Int) - vl).natAbs
    gm := ((v : Int) - ((nth 0 prev i : Nat) : Int)).natAbs
    frac := w.columnFrac n ((t * 2048 + i : Nat) - 32 - (w.groupBase : Int))
    uncal := nth false l.unc i
    li := !(decide (0 < i) && nth false l.ok (i - 1))
    ri := !nth false l.ok (i + 1) }

/-- A pixel is strong: the test of its polarity holds against h. -/
def Work.strong (w : Work) (f : Nat) (p : Pix) : Bool := passes (w.valueAtN (Obj.sgPolarity f) (w.frameOf p.y)) (pixD p) p.h

/-! ### Pieces (R251, R254, R260) -/

/-- Slots of a cluster. -/
def slotsPerCluster : Nat := 16384

/-- The open pieces with their slot in a cluster. -/
def Work.openIn (w : Work) (c : Nat) : Nat := (w.seg.pieces.filter (fun p => p.label / slotsPerCluster == c)).length

/-- The lowest free slot of a cluster (log entry 32). -/
def Work.freeSlot (w : Work) (c : Nat) : Option Nat :=
  (upTo slotsPerCluster).find? (fun s => !w.seg.pieces.any (fun p => p.label == slotsPerCluster * c + s))

/-- The open piece with a number. -/
def Work.piece? (w : Work) (id : Nat) : Option Piece := w.seg.pieces.find? (fun p => p.id == id)

/-- Change a piece. -/
def Work.updPiece (w : Work) (id : Nat) (f : Piece → Piece) : Work :=
  { w with seg := { w.seg with pieces := w.seg.pieces.map (fun p => if p.id = id then f p else p) } }

/-- Rename a piece wherever its number stands. -/
def Seen.rename (a b : Nat) (s : Seen) : Seen := if s.id = a then { s with id := b } else s
def Job.rename (a b : Nat) (j : Job) : Job :=
  { j with
    shadow := j.shadow.map (fun e => (e.1, e.2.rename a b))
    edges := j.edges.map (fun e => { e with lo := e.lo.map (Seen.rename a b), hi := e.hi.map (Seen.rename a b) })
    head := j.head.map (fun e => (e.1, e.2.rename a b)) }
def Meet.rename (a b : Nat) (m : Meet) : Meet := { m with a := if m.a = a then b else m.a, b := if m.b = a then b else m.b }

/-- The union of two pieces: the smaller label is the root, the loser's accumulators go to it and its slot is freed (R254). -/
def Work.unite (w : Work) (i j : Nat) : Work :=
  match w.piece? i, w.piece? j with
  | some p, some q =>
    if i = j then w
    else
      let a := if p.label < q.label then p else q
      let b := if p.label < q.label then q else p
      let m : Piece :=
        { a with
          clusters := (a.clusters ++ b.clusters).eraseDups
          pix := a.pix ++ b.pix
          old := a.old ++ b.old
          parts := max a.parts b.parts
          cutAt := match a.cutAt, b.cutAt with
            | some x, some y => some (max x y)
            | some x, none => some x
            | none, y => y
          trunc := a.trunc || b.trunc
          replayed := a.replayed || b.replayed
          late := a.late || b.late
          foreign := (a.foreign ++ b.foreign).eraseDups
          given := a.given || b.given }
      let rest := w.seg.pieces.filter (fun x => x.id ≠ b.id)
      { w with seg := { w.seg with
          pieces := rest.map (fun x => if x.id = a.id then m else x)
          jobs := w.seg.jobs.map (Job.rename b.id a.id)
          meets := (w.seg.meets.map (Meet.rename b.id a.id)).filter (fun m => m.a ≠ m.b) } }
  | _, _ => w

/-! ### Labelling (R249 to R251, R261) -/

/-- Change a job. -/
def Work.updJob (w : Work) (n t f : Nat) (g : Job → Job) : Work :=
  { w with seg := { w.seg with jobs := w.seg.jobs.map (fun j => if j.frame = n && j.tile = t && j.field = f then g j else j) } }

/-- A job. -/
def Work.job? (w : Work) (n t f : Nat) : Option Job := w.seg.jobs.find? (fun j => j.frame == n && j.tile == t && j.field == f)

/-- A run joins the fold of its job. -/
def foldRun (old : Option Fold) (ps : List Pix) : Fold :=
  let c0 := (ps.map (fun p => p.c)).foldl min ((ps.map (fun p => p.c)).headD 0)
  let c1 := maxNat (ps.map (fun p => p.c))
  let y := (ps.map (fun p => p.y)).headD 0
  let pk := maxNat (ps.map pixAd)
  let lo := leastI 0 (ps.map pixD)
  let hi := mostI 0 (ps.map pixD)
  match old with
  | none => ⟨c0, c1, y, y, ps.length, 1, pk, lo, hi, y, c0⟩
  | some o => { o with
      cd0 := min o.cd0 c0
      cd1 := max o.cd1 c1
      y1 := max o.y1 y
      px := o.px + ps.length
      runs := o.runs + 1
      peak := max o.peak pk
      dMin := min o.dMin lo
      dMax := max o.dMax hi
      seedC := if y = o.seedY then min o.seedC c0 else o.seedC }

/-- Label one run of a job: core columns a to b of a line, with its pixels (R250, R251, R261). -/
def Work.labelRun (w : Work) (n t f : Nat) (late : Bool) (line a b : Nat) (ps : List Pix) : Work :=
  match w.job? n t f with
  | none => w
  | some j =>
    let e := if w.confN Obj.connectivity = 0 then 1 else 0
    let lo := a - e
    let hi := min 2047 (b + e)
    let met := (j.shadow.filter (fun s => decide (lo ≤ s.1) && decide (s.1 ≤ hi) && decide (line ≤ w.gOf s.2.line))).map (fun s => s.2.id)
    let pieces := (met.filter (fun i => i ≠ 0)).eraseDups
    let mark := fun (w : Work) (id : Nat) => w.updJob n t f (fun j =>
      { j with shadow := (upTo (b + 1 - a)).foldl (fun sh i => alSet sh (a + i) ⟨id, line⟩) j.shadow })
    let intoFold := fun (w : Work) =>
      mark (((w.updJob n t f (fun j => { j with fold := some (foldRun j.fold ps) })).flag Obj.segFlags 1).bump Obj.foldedRuns) 0
    let addTo := fun (w : Work) (id : Nat) => w.updPiece id (fun p => { p with
      pix := p.pix ++ ps
      clusters := if p.clusters.contains j.cluster then p.clusters else p.clusters ++ [j.cluster]
      late := p.late || late
      replayed := p.replayed || j.replay })
    match pieces with
    | id :: more =>
      let w := more.foldl (fun w i => w.unite id i) w
      -- the root's number stands for all of them
      let root := (pieces.find? (fun i => (w.piece? i).isSome)).getD id
      mark (addTo w root) root
    | [] =>
      if met.contains 0 then intoFold w
      else match w.freeSlot j.cluster with
        | none => intoFold w
        | some s =>
          let id := w.seg.nextId
          let p : Piece := { id := id, label := slotsPerCluster * j.cluster + s, field := f, clusters := [j.cluster], pix := [] }
          let w := { w with seg := { w.seg with nextId := id + 1, pieces := w.seg.pieces ++ [p] } }
          mark (addTo w id) id

/-- The SEG_LOST coverage of a job over web lines (R379, R380). -/
def Work.segLostCover (w : Work) (t f first last : Nat) : Work :=
  w.cover { reason := 0x21, sensor := 0xFF, detail := t, firstLine := first, lastLine := last
            cdFirst := max (t * 2048) w.groupBase, cdLast := min (t * 2048 + 2047) (w.groupBase + w.loom.width - 1), fieldMask := 2 ^ f }

/-- One line of a job: the sieve, the labels, the edge and head exports, the run of lost lines (R247 to R252, R380). -/
def Work.jobLine (w : Work) (n t f : Nat) (band0 : Bool) (prev : List Nat) (line : Nat) : Work × List Nat :=
  let l := w.sieveLine f n t band0 line
  let w := if l.missing then w.flag Obj.segFlags 8 else w
  let w := if l.lost then w.updJob n t f (fun j => { j with lost := match j.lost with
      | some r => some (r.1, line)
      | none => some (line, line) })
    else match (w.job? n t f).bind (fun j => j.lost) with
      | some r => (w.segLostCover t f r.1 r.2).updJob n t f (fun j => { j with lost := none })
      | none => w
  let ref := if prev.isEmpty then l.vs else prev
  let w := (w.sieveRuns f n l).foldl (fun w r =>
    let a := max 32 r.1
    let b := min 2079 r.2
    if b < a then w
    else w.labelRun n t f l.late line (a - 32) (b - 32) ((upTo (b + 1 - a)).map (fun i => w.pixAt f n t l ref line (a + i)))) w
  let w := w.updJob n t f (fun j => { j with
    edges := ⟨line, alGet j.shadow 0, alGet j.shadow 2047⟩ :: j.edges
    head := if line ≤ w.gOf (n * w.frameLen - 1) then
        j.head ++ (j.shadow.filter (fun s => s.2.line == line && !j.head.any (fun h => h.1 == s.1)))
      else j.head
    late := j.late || l.late })
  (w, l.vs)

end Sys2Proof.Machine
end

