-- ==== Sys2Proof/Machine/SegMerge.lean ====
section
/-! DEFINITION. Merging, DONE, closing, streaks, and the segmentation commands of chapter 10 (R252 to R266). -/
namespace Sys2Proof.Machine

/-- A meaning of this family. -/
abbrev SegStep := State → Host.Outcome State Fault Refusal

/-! ### Status -/

/-- OPEN_COMPONENTS, the clusters' OPEN, and the peaks. -/
def Work.showSeg (w : Work) : Work :=
  let n := w.seg.pieces.length
  let w := (w.set Obj.openComponents n).peak Obj.segOpenPeak n
  (upTo 64).foldl (fun w c =>
    let k := w.openIn c
    if w.getN (Obj.openObj c) = k then w else (w.set (Obj.openObj c) k).peak (Obj.cluOpenPeak c) k) w

/-! ### Meetings (R252, R253) -/

/-- The level at which two pieces meet: 0 in one cluster, 1 in one region, 2 in one die, 3 in the package (table Merge levels). -/
def Work.meetLevel (w : Work) (m : Meet) : Nat :=
  match w.piece? m.a, w.piece? m.b with
  | some p, some q =>
    let c := p.label / slotsPerCluster
    let d := q.label / slotsPerCluster
    if c = d then 0 else if c / 8 = d / 8 then 1 else if c / 16 = d / 16 then 2 else 3
  | _, _ => 0

/-- A meeting found: united at once within a cluster, otherwise exported to its engine; FOLD never merges (R253, R261). -/
def Work.meet (w : Work) (m : Meet) : Work :=
  if m.a = 0 || m.b = 0 || m.a = m.b then w
  else if w.meetLevel m = 0 then w.unite m.a m.b
  else { w with seg := { w.seg with meets := w.seg.meets ++ [m] } }

/-- The pieces that meet across an edge on a field line: the entries of both sides after the line and before it (R252). -/
def Work.edgeMeets (w : Work) (line : Nat) (l lBefore r rBefore : Option Seen) : List (Nat × Nat) :=
  let eight := w.confN Obj.connectivity = 0
  let now := fun (s : Option Seen) => match s with
    | some x => if x.line = line then some x.id else none
    | none => none
  let open_ := fun (s : Option Seen) => match s with
    | some x => if eight && line ≤ w.gOf x.line then some x.id else none
    | none => none
  let pair := fun (a b : Option Nat) => match a, b with
    | some x, some y => [(x, y)]
    | _, _ => []
  pair (now l) (now r) ++ pair (open_ lBefore) (now r) ++ pair (now l) (open_ rBefore)

/-- The entry of a line in an edge list, and the one of the field line before it in the frame. -/
def entryAt (es : List EdgeEntry) (line : Nat) : Option EdgeEntry := es.find? (fun e => e.line == line)
def entryBefore (es : List EdgeEntry) (line : Nat) : Option EdgeEntry := es.find? (fun e => decide (e.line < line))

/-- The seam between tiles t and t+1 over one band, once both have published it. -/
def Work.tileSeam (w : Work) (n t f b : Nat) : Work :=
  match w.job? n t f, w.job? n (t + 1) f with
  | some x, some y =>
    if x.band ≤ b || y.band ≤ b then w
    else
      (w.bandLines f n b).foldl (fun w line =>
        -- unions rename the entries, so they are read anew for every line
        match w.job? n t f, w.job? n (t + 1) f with
        | some x, some y =>
          let g := fun (es : List EdgeEntry) (e : Option EdgeEntry → Option Seen) => (e (entryAt es line), e (entryBefore es line))
          let l := g x.edges (fun e => e.bind (fun e => e.hi))
          let r := g y.edges (fun e => e.bind (fun e => e.lo))
          (w.edgeMeets line l.1 l.2 r.1 r.2).foldl (fun w m => w.meet ⟨m.1, m.2, f, [t, t + 1], line⟩) w
        | _, _ => w) w
  | _, _ => w

/-- The frame seam from the tail of frame n−1 of tile t' to the head of frame n of tile t (R252). -/
def Work.frameSeam (w : Work) (n t t' f : Nat) : Work :=
  match w.job? n t f, w.job? (n - 1) t' f with
  | some y, some x =>
    if n = 0 || y.band = 0 || x.band < w.bandCount then w
    else
      let e := if w.confN Obj.connectivity = 0 then 1 else 0
      let pairs := y.head.flatMap (fun h => (x.shadow.filter (fun s =>
        let ch := t * 2048 + h.1
        let cs := t' * 2048 + s.1
        decide (ch ≤ cs + e) && decide (cs ≤ ch + e) && decide (h.2.line ≤ w.gOf s.2.line))).map (fun s => (h, s)))
      (upTo pairs.length).foldl (fun w i =>
        match w.job? n t f, w.job? (n - 1) t' f, pairs[i]? with
        | some y, some x, some p =>
          match alGet y.head p.1.1, alGet x.shadow p.2.1 with
          | some a, some b => w.meet ⟨a.id, b.id, f, [t, t'], p.1.2.line⟩
          | _, _ => w
        | _, _, _ => w) w
  | _, _ => w

/-! ### Module seams (R262) -/

/-- The seam on a side, and its update. -/
def Work.seamOf (w : Work) (upper : Bool) : Seam := if upper then w.seg.upper else w.seg.lower
def Work.updSeam (w : Work) (upper : Bool) (f : Seam → Seam) : Work :=
  if upper then { w with seg := { w.seg with upper := f w.seg.upper } } else { w with seg := { w.seg with lower := f w.seg.lower } }

/-- The module's edge tile on a side. -/
def Work.edgeTile (w : Work) (upper : Bool) : Nat := if upper then w.tileList.getLast?.getD 0 else w.tileList.headD 0

/-- The module seam over one band, once this module has published it and the neighbour's entries have come: a meeting at the upper seam ties the
neighbour's piece to the own one, at the lower seam it gives the own piece to the neighbour, which owns it. -/
def Work.moduleSeam (w : Work) (upper : Bool) (n f b : Nat) : Work :=
  let s := w.seamOf upper
  match w.job? n (w.edgeTile upper) f with
  | none => w
  | some j =>
    if !w.hasNeighbour upper || j.band ≤ b || !s.bands.contains (n, f, b) then w
    else
      let theirs := (s.edges.filter (fun e => e.1 = f && decide (n * w.frameLen ≤ e.2.line))).map (fun e => e.2)
      (w.bandLines f n b).foldl (fun w line =>
        match w.job? n (w.edgeTile upper) f with
        | none => w
        | some j =>
          let mine := fun (e : Option EdgeEntry) => e.bind (fun e => if upper then e.hi else e.lo)
          let own := (mine (entryAt j.edges line), mine (entryBefore j.edges line))
          let oth := ((entryAt theirs line).bind (fun e => e.lo), (entryBefore theirs line).bind (fun e => e.lo))
          (w.edgeMeets line own.1 own.2 oth.1 oth.2).foldl (fun w m =>
            if m.1 = 0 || m.2 = 0 || s.split.contains m.2 then w
            else w.updPiece m.1 (fun p => if upper then { p with foreign := (m.2 :: p.foreign).eraseDups } else { p with given := true })) w) w

/-- Send a band's edge entries to the neighbour. -/
def Work.sendSeam (w : Work) (upper : Bool) (n f b : Nat) : Work :=
  match w.job? n (w.edgeTile upper) f with
  | none => w
  | some j =>
    if !w.hasNeighbour upper then w
    else
      let msg := (w.bandLines f n b).filterMap (fun line => (entryAt j.edges line).map (fun e =>
        let s := if upper then e.hi else e.lo
        ({ line := line, piece := s.map (fun x => x.id), seen := (s.map (fun x => x.line)).getD 0 } : EdgeMsg)))
      w.send (.mergeEdges upper n f b msg)

/-! ### DONE (R255) -/

/-- The first web line of (tile, field) that is not done. -/
def Work.doneNext (w : Work) (t f : Nat) : Nat := (alGet w.seg.done (8 * t + f)).getD 0

/-- Whether the band that begins at a line is done: published here and beside, every seam merged, the frame seam included. -/
def Work.bandDone (w : Work) (t f d : Nat) : Bool :=
  let n := w.frameOf d
  let b := d % w.frameLen / 256
  let out := fun (t : Nat) => match w.job? n t f with
    | some j => decide (b < j.band)
    | none => false
  let ts := w.tileList
  let side := fun (upper : Bool) => !(w.hasNeighbour upper && t = w.edgeTile upper) || (w.seamOf upper).bands.contains (n, f, b)
  out t && (!ts.contains (t + 1) || out (t + 1)) && (t = 0 || !ts.contains (t - 1) || out (t - 1)) && side false && side true &&
    !w.seg.meets.any (fun m => m.field == f && m.tiles.contains t && decide (m.line < d + 256))

/-- Advance DONE of one tile and field in whole bands; the fuel bounds the bands. Past a frame not inspected it goes to the next frame with a job. -/
def Work.advance (w : Work) (t f : Nat) : Nat → Work
  | 0 => w
  | fuel + 1 =>
    let d := w.doneNext t f
    let put := fun (v : Nat) => ({ w with seg := { w.seg with done := alSet w.seg.done (8 * t + f) v } } : Work)
    if w.bandDone t f d then
      let w := put (d + 256)
      let w := if w.hasNeighbour true && t = w.edgeTile true then w.send (.mergeDone true f (d + 255)) else w
      let w := if w.hasNeighbour false && t = w.edgeTile false then w.send (.mergeDone false f (d + 255)) else w
      w.advance t f fuel
    else if w.inspected (w.frameOf d) then w
    else
      let later := (w.seg.jobs.filter (fun j => j.tile == t && j.field == f && decide (w.frameOf d < j.frame))).map (fun j => j.frame)
      match later with
      | [] => w
      | n :: ns => (put (ns.foldl min n * w.frameLen)).advance t f fuel

/-- DONE has reached a line on a tile; no line follows the end of an inspected span. -/
def Work.reached (w : Work) (t f line : Nat) : Bool :=
  let d := w.doneNext t f
  decide (line < d) || (d % w.frameLen = 0 && !w.inspected (w.frameOf d))

/-- DONE_MIN. -/
def Work.showDone (w : Work) : Work :=
  let all := w.tileList.flatMap (fun t => w.segList.map (fun f => w.doneNext t f))
  match all with
  | [] => w
  | x :: xs => w.set Obj.doneMin (Int.ofNat (xs.foldl min x - 1))

/-! ### Closing (R256 to R259) -/

/-- Every member pixel of a piece, emitted parts included. -/
def Piece.all (p : Piece) : List Pix := p.old ++ p.pix
def Piece.lFirst (p : Piece) : Nat := (p.all.map (fun x => x.y)).foldl min ((p.all.map (fun x => x.y)).headD 0)
def Piece.lLast (p : Piece) : Nat := maxNat (p.all.map (fun x => x.y))
def Piece.cdMin (p : Piece) : Nat := (p.all.map (fun x => x.c)).foldl min ((p.all.map (fun x => x.c)).headD 0)
def Piece.cdMax (p : Piece) : Nat := maxNat (p.all.map (fun x => x.c))

/-- The candidate ID of a seed (R257). -/
def candIdOf (field line col : Nat) : Nat := packBits [(0, 22, col), (22, 39, line), (61, 3, field)]
def Piece.candId (p : Piece) : Nat :=
  let l := p.lFirst
  let cs := (p.all.filter (fun x => x.y = l)).map (fun x => x.c)
  candIdOf p.field l (cs.foldl min (cs.headD 0))

/-- The tiles that hold a column from CD_MIN − 1 to CD_MAX + 1, and whether the range reaches a neighbour's columns. -/
def Work.tilesOf (w : Work) (p : Piece) : List Nat :=
  w.tileList.filter (fun t => decide (p.cdMin ≤ t * 2048 + 2048) && decide (t * 2048 ≤ p.cdMax + 1))
def Work.meetsEdge (w : Work) (p : Piece) (upper : Bool) : Bool :=
  w.hasNeighbour upper && (if upper then decide (w.groupBase + w.loom.width ≤ p.cdMax + 1) else decide (p.cdMin ≤ w.groupBase))

/-- DONE of every tile of a piece has reached a line, the neighbours' included. -/
def Work.allReached (w : Work) (p : Piece) (line : Nat) : Bool :=
  let there := fun (upper : Bool) => !w.meetsEdge p upper || decide (line < (alGet (w.seamOf upper).done p.field).getD 0) ||
    w.reached (w.edgeTile upper) p.field line && !w.inspected (w.frameOf line)
  (w.tilesOf p).all (fun t => w.reached t p.field line) && there false && there true &&
    !w.seg.meets.any (fun m => m.a == p.id || m.b == p.id)

/-- Components that touched the edge of an abandoned tile (R379). -/
def Work.touchesDropped (w : Work) (p : Piece) : Bool :=
  w.seg.jobs.any (fun j => j.dropped && j.field == p.field && p.all.any (fun x => w.frameOf x.y == j.frame &&
    (x.c + 1 == j.tile * 2048 || x.c == j.tile * 2048 + 2048)))

/-- The pixels the neighbour's accumulators bring to a piece. -/
def Work.foreignPix (w : Work) (p : Piece) : List Pix := (w.seg.upper.accum.filter (fun a => p.foreign.contains a.1)).flatMap (fun a => a.2)

/-- Hand over one candidate of a piece: the set `s`, over the web lines `first` to `last` (R257 to R259, R267). -/
def Work.emitCandidate (w : Work) (p : Piece) (s whole : List Pix) (part first last : Nat) (streak ends : Bool) : Work :=
  let id := p.candId
  if w.seg.emitted.contains (id, part) then w
  else
    let fr := if s.isEmpty then w.free else (0, w)
    let w := fr.2
    let fs := features w.featConf s whole p.field part first last fr.1
    let on := fun (b : Bool) (m : Nat) => if b then m else 0
    let flags := on (s.any (fun x => x.uncal)) dfUncal + on (p.trunc || nth 0 fs 60 ≠ 0 || w.touchesDropped p) dfTruncated +
      on streak dfStreak + on ends dfStreakEnd + on p.split dfSplit + on p.replayed dfReplayed + on p.late dfHaloLate
    let w := { w with seg := { w.seg with emitted := (id, part) :: w.seg.emitted } }
    w.handOver ⟨id, p.field, part, first, last, flags, fs⟩

/-- The first web line of the present slice. -/
def Piece.sliceFirst (p : Piece) : Nat := match p.cutAt with
  | some e => e + 1
  | none => p.lFirst

/-- The STREAK partials that are due, in rising frames (R259). The fuel bounds the frames. -/
def Work.streaks (w : Work) (id : Nat) : Nat → Work
  | 0 => w
  | fuel + 1 =>
    match w.piece? id with
    | none => w
    | some p =>
      let f := w.frameLen
      let n := match p.cutAt with
        | some e => (e + 1) / f
        | none => ceilDiv p.lFirst f
      let e := (n + 1) * f - 1
      if p.given || p.lLast ≤ e || !w.allReached p (w.gOf e) then w
      else
        let s := p.pix.filter (fun x => decide (x.y ≤ e))
        let w := (w.emitCandidate p s p.all p.parts p.sliceFirst e true false).bump Obj.streakParts
        let w := w.updPiece id (fun p => { p with
          old := p.old ++ s
          pix := p.pix.filter (fun x => decide (e < x.y))
          parts := p.parts + 1
          cutAt := some e })
        w.streaks id fuel

/-- A component closes: its slot is freed; it is handed over, discarded, or sent to its owner (R256, R258, R262). -/
def Work.closePiece (w : Work) (p : Piece) : Work :=
  let w := { w with seg := { w.seg with pieces := w.seg.pieces.filter (fun q => q.id ≠ p.id) } }
  let extra := w.foreignPix p
  let p := { p with pix := p.pix ++ extra }
  let w := w.updSeam true (fun s => { s with accum := s.accum.filter (fun a => !p.foreign.contains a.1) })
  if p.given then w.send (.mergeAccum [p.id] p.all)
  else
    let n := w.frameOf p.lLast
    let rows := (p.lLast - p.lFirst) / w.fieldStep + 1
    let small := p.all.length < w.valueAtN (Obj.minArea p.field) n || rows < w.valueAtN (Obj.minRows p.field) n
    if p.parts = 0 && (small || !p.all.any (fun x => w.strong p.field x)) then w.bump Obj.discarded
    else
      let w := if p.parts = 0 then w else w.bump Obj.streakParts
      w.emitCandidate p p.pix p.all p.parts p.sliceFirst p.lLast (decide (0 < p.parts)) (decide (0 < p.parts))

/-- Whether a piece closes now: DONE has passed G(L_last) on its tiles, and the neighbour's pieces of it have come. -/
def Work.closes (w : Work) (p : Piece) : Bool :=
  w.allReached p (w.gOf p.lLast) && p.foreign.all (fun i => w.seg.upper.accum.any (fun a => a.1 == i))

/-- Insert by rising candidate ID. -/
def insertPiece (p : Piece) : List Piece → List Piece
  | [] => [p]
  | q :: qs => if p.candId < q.candId then p :: q :: qs else q :: insertPiece p qs

/-- What is outstanding at a module seam: edge entries, DONE or accumulators that are due (R263). -/
def Work.seamDue (w : Work) (upper : Bool) : Bool :=
  w.hasNeighbour upper &&
    (w.seg.jobs.any (fun j => j.tile == w.edgeTile upper && (upTo j.band).any (fun b => !(w.seamOf upper).bands.contains (j.frame, j.field, b))) ||
     w.seg.pieces.any (fun p => w.meetsEdge p upper && (w.tilesOf p).all (fun t => w.reached t p.field (w.gOf p.lLast)) && !w.closes p))

/-- After any change: DONE advances, partials and closings follow in the order of candidate IDs, jobs long done are forgotten, and the timer of
R263 runs while anything is due. -/
def Work.settleSeg (w : Work) : Work :=
  let w := w.tileList.foldl (fun w t => w.segList.foldl (fun w f => w.advance t f (w.seg.jobs.length * w.bandCount + 2)) w) w
  let order := (w.seg.pieces.foldl (fun acc p => insertPiece p acc) []).map (fun p => p.id)
  let w := order.foldl (fun w id => w.streaks id (w.seg.jobs.length + 2)) w
  let w := order.foldl (fun w id => match w.piece? id with
    | some p => if w.closes p then w.closePiece p else w
    | none => w) w
  let keep := fun (j : Job) => decide (j.band < w.bandCount) || decide (w.doneNext j.tile j.field < (j.frame + 3) * w.frameLen)
  let w := { w with seg := { w.seg with jobs := w.seg.jobs.filter keep } }
  let w := if w.seamDue false || w.seamDue true then (if w.running .sysMerge then w else w.startTimer .sysMerge) else w.stopTimer .sysMerge
  w.showDone.showSeg

/-! ### Jobs (R242, R261) -/

/-- The end of a job: the fold yields an AREA candidate and a coverage record; a run of lost lines ends (R261, R380). -/
def Work.jobEnd (w : Work) (n t f : Nat) : Work :=
  match w.job? n t f with
  | none => w
  | some j =>
    let w := match j.lost with
      | some r => w.segLostCover t f r.1 r.2
      | none => w
    let w := match j.fold with
      | none => w
      | some o =>
        let rows := (o.y1 - o.y0) / w.fieldStep + 1
        let fs := (upTo 64).map (fun i => match i with
          | 0 => (o.px : Int) | 2 => (rows : Int) | 3 => (o.runs : Int) | 4 => (o.cd0 : Int) | 5 => (o.cd1 : Int)
          | 7 => ((o.y1 - o.y0 + 1 : Nat) : Int) | 41 => o.dMin | 42 => o.dMax | _ => 0)
        let w := ((w.bump Obj.areaRecords).bump (Obj.folds j.cluster)).cover
          { reason := 0x20, detail := o.runs, firstLine := o.y0, lastLine := o.y1, cdFirst := o.cd0, cdLast := o.cd1, fieldMask := 2 ^ f }
        let id := candIdOf f o.seedY o.seedC
        let on := fun (b : Bool) (m : Nat) => if b then m else 0
        if w.seg.emitted.contains (id, 0) then w
        else w.handOver ⟨id, f, 0, o.y0, o.y1, dfArea + on j.replay dfReplayed + on j.late dfHaloLate, fs⟩
    w.updJob n t f (fun j => { j with lost := none, fold := none, unit := none })

/-- The seams a newly published band completes. -/
def Work.bandSeams (w : Work) (n t f b : Nat) : Work :=
  let w := if t = 0 then w else w.tileSeam n (t - 1) f b
  let w := w.tileSeam n t f b
  let near := (if t = 0 then [] else [t - 1]) ++ [t, t + 1]
  let w := if b = 0 then near.foldl (fun w t' => w.frameSeam n t t' f) w else w
  let w := if b + 1 = w.bandCount then near.foldl (fun w t' => w.frameSeam (n + 1) t' t f) w else w
  let edge := fun (w : Work) (upper : Bool) =>
    if t = w.edgeTile upper then (w.sendSeam upper n f b).moduleSeam upper n f b else w
  edge (edge w false) true

/-- Every line of the band can be delivered, and the band-0 profile is there where the job needs it (R234, R246). -/
def Work.bandReady (w : Work) (n t f b : Nat) : Bool :=
  (w.bandLines f n b).all (fun l => w.sweepReady l && w.halosIn f l (tileWindow w.groupBase t)) &&
    (!w.newExposure t n || (match w.loom.next with
      | some l => decide (n * w.frameLen + 255 < l)
      | none => false))

/-- BAND_PUBLISHED: a unit labels the next band of its job in line order and publishes it (R243). -/
def bandPublished (u : Fin 1024) (w : Work) : Work :=
  match w.seg.jobs.find? (fun j => j.unit = some u.val) with
  | none => w
  | some j =>
    let n := j.frame
    let t := j.tile
    let f := j.field
    let b := j.band
    if w.bandCount ≤ b || !w.bandReady n t f b then w
    else
      let band0 := w.newExposure t n
      let ls := w.bandLines f n b
      let prior := match ls with
        | [] => []
        | l :: _ =>
          if l < n * w.frameLen + w.fieldStep then match ls with
            | _ :: l2 :: _ => (w.sieveLine f n t band0 l2).vs
            | _ => []
          else (w.sieveLine f n t band0 (l - w.fieldStep)).vs
      let r := ls.foldl (fun (a : Work × List Nat) line => a.1.jobLine n t f band0 a.2 line) (w, prior)
      let w := r.1.updJob n t f (fun j => { j with band := b + 1 })
      let w := (w.startTimer (.unitBand u.val)).bandSeams n t f b
      let w := if b + 1 = w.bandCount then (w.jobEnd n t f).stopTimer (.unitBand u.val) else w
      w.settleSeg

def execBandPublished (u : Fin 1024) : SegStep := onWork (bandPublished u)

/-! ### Merge engines (R253, R254) -/

/-- MERGE_LINK: the engine of a level takes the first meeting of its level and unites the pieces. -/
def mergeLink (level : Fin 4) (w : Work) : Work :=
  match w.seg.meets.find? (fun m => w.meetLevel m == level.val) with
  | none => w
  | some m =>
    let w := { w with seg := { w.seg with meets := w.seg.meets.erase m } }
    (w.unite m.a m.b).settleSeg

def execMergeLink (level : Fin 4) : SegStep := onWork (mergeLink level)

/-! ### Module seams (R262, R263) -/

/-- MERGE_EDGES: a neighbour's edge entries of one band. -/
def mergeEdges (upper : Bool) (n f b : Nat) (entries : List EdgeMsg) (w : Work) : Work :=
  if !w.hasNeighbour upper then w
  else
    let es := entries.map (fun e => (f, (⟨e.line, e.piece.map (fun i => ⟨i, e.seen⟩), none⟩ : EdgeEntry)))
    let w := w.updSeam upper (fun s =>
      if s.bands.contains (n, f, b) then s else { s with bands := (n, f, b) :: s.bands, edges := es.reverse ++ s.edges })
    (w.moduleSeam upper n f b).settleSeg

def execMergeEdges (upper : Bool) (n f b : Nat) (entries : List EdgeMsg) : SegStep := onWork (mergeEdges upper n f b entries)

/-- MERGE_DONE: the neighbour's DONE of a field, as the last line done. -/
def mergeDone (upper : Bool) (f line : Nat) (w : Work) : Work :=
  if !w.hasNeighbour upper then w
  else (w.updSeam upper (fun s => { s with done := alSet s.done f (max (line + 1) ((alGet s.done f).getD 0)) })).settleSeg

def execMergeDone (upper : Bool) (f line : Nat) : SegStep := onWork (mergeDone upper f line)

/-- MERGE_ACCUM: the accumulators of the upper neighbour's piece, by the numbers its EDGES gave; a piece whose owner has split is discarded. -/
def mergeAccum (ids : List Nat) (pixels : List Pix) (w : Work) : Work :=
  if !w.hasNeighbour true || ids.any (fun i => w.seg.upper.split.contains i) then w
  else (w.updSeam true (fun s => { s with accum := s.accum ++ (ids.zipIdx.map (fun e => (e.1, if e.2 = 0 then pixels else []))) })).settleSeg

def execMergeAccum (ids : List Nat) (pixels : List Pix) : SegStep := onWork (mergeAccum ids pixels)

/-- MERGE_SPLIT: from the lower neighbour, the owner, it names pieces of this module, which emits them itself; from the upper neighbour its own
pieces, which are no longer waited for. -/
def mergeSplit (upper : Bool) (ids : List Nat) (w : Work) : Work :=
  if !w.hasNeighbour upper then w
  else
    let w := if upper then
        let w := w.updSeam true (fun s => { s with split := s.split ++ ids })
        { w with seg := { w.seg with pieces := w.seg.pieces.map (fun (p : Piece) =>
          if p.foreign.any (fun i => ids.contains i) then { p with foreign := p.foreign.filter (fun i => !ids.contains i), split := true } else p) } }
      else
        { w with seg := { w.seg with pieces := w.seg.pieces.map (fun (p : Piece) => if ids.contains p.id then { p with given := false, split := true } else p) } }
    w.settleSeg

def execMergeSplit (upper : Bool) (ids : List Nat) : SegStep := onWork (mergeSplit upper ids)

/-- Give up waiting at one seam: the bands and lines due count as come, and the pieces that wait go out with SPLIT (R263). -/
def Work.splitSeam (w : Work) (upper : Bool) : Work :=
  if !w.seamDue upper then w
  else
    let wait := (w.seg.pieces.filter (fun p => w.meetsEdge p upper && (w.tilesOf p).all (fun t => w.reached t p.field (w.gOf p.lLast)) &&
      !w.closes p)).map (fun p => p.id)
    let lost := (w.seg.pieces.filter (fun p => wait.contains p.id)).flatMap (fun p => if upper then p.foreign else [p.id])
    let mine := w.seg.jobs.filter (fun j => j.tile == w.edgeTile upper)
    let bands := mine.flatMap (fun j => (upTo j.band).map (fun b => (j.frame, j.field, b)))
    let w := w.updSeam upper (fun s => { s with
      bands := (s.bands ++ bands).eraseDups
      done := w.segList.foldl (fun d f =>
        let line := maxNat ((mine.filter (fun j => j.field = f)).map (fun j => j.frame * w.frameLen + 256 * j.band))
        alSet d f (max line ((alGet d f).getD 0))) s.done
      split := if upper then s.split ++ lost else s.split })
    let w := { w with seg := { w.seg with pieces := w.seg.pieces.map (fun (p : Piece) =>
      if wait.contains p.id then { p with split := true, given := if upper then p.given else false, foreign := if upper then [] else p.foreign }
      else p) } }
    let w := if wait.isEmpty then w else (w.bump Obj.splitCount wait.length).flag Obj.segFlags 4
    if lost.isEmpty then w else w.send (.mergeSplit upper lost)

/-- SYS_MERGE_TIMEOUT: edge entries, DONE or accumulators have not arrived in time: each module emits its own pieces with SPLIT (R263). -/
def sysMergeTimeout (w : Work) : Work :=
  if !w.expired .sysMerge (w.getN Obj.sysMergeTimeout * 1000) then w
  else (((w.stopTimer .sysMerge).splitSeam false).splitSeam true).settleSeg

def execSysMergeTimeout : SegStep := onWork sysMergeTimeout

end Sys2Proof.Machine
end

