-- ==== Sys2Proof/Machine/Placement.lean ====
section
/-! DEFINITION. The placement engine (chapter 16, R372 to R393): epochs, jobs, batches, removals and returns. -/
namespace Sys2Proof.Machine

/-- A meaning of this family. -/
abbrev PlaceStep := State → Host.Outcome State Fault Refusal

/-! ### Clusters and units in service (R372, R374) -/

/-- Cluster c in the placement. -/
def Work.clus (w : Work) (c : Nat) : Clus := nth {} w.place.clus c
def Work.updClus (w : Work) (c : Nat) (f : Clus → Clus) : Work := { w with place := { w.place with clus := upd w.place.clus c f } }

/-- Cluster c is in service by the placement of frame n. -/
def Work.inService (w : Work) (c n : Nat) : Bool :=
  match (w.clus c).service.find? (fun e => decide (e.1 ≤ n)) with
  | some e => e.2
  | none => true

/-- Unit u may take work of frame n: its cluster is in service, and no fault has removed it (R374). -/
def Work.unitUsable (w : Work) (u n : Nat) : Bool :=
  w.inService (u / 16) n && !(w.clus (u / 16)).faulted && !(w.clus (u / 16)).unitsOut.contains (u % 16)

/-- The units of a frame's placement. -/
def Work.unitsAt (w : Work) (n : Nat) : List Nat := (upTo 1024).filter (fun u => w.unitUsable u n)

/-- The reserve units of a frame: the highest-numbered ones (R372; log entry 33). -/
def Work.reserveAt (w : Work) (n : Nat) : List Nat := (w.unitsAt n).reverse.take (w.valueAtN Obj.reserveUnits n)

/-- A unit runs nothing. -/
def Work.unitFree (w : Work) (u : Nat) : Bool :=
  !w.seg.jobs.any (fun j => j.unit == some u) && !w.cls.batches.any (fun b => b.unit == some u)

/-- CL_UNITS of a cluster and UNITS_IN_SERVICE. -/
def Work.showUnits (w : Work) : Work :=
  let n := w.frame
  let w := (upTo 64).foldl (fun w c =>
    let m := sumNat (((upTo 16).filter (fun i => w.unitUsable (16 * c + i) n)).map (fun i => 2 ^ i))
    if w.getN (Obj.clUnits c) = m then w else w.set (Obj.clUnits c) m) w
  w.set Obj.unitsInService (w.unitsAt n).length

/-! ### Epochs (R373 to R375) -/

/-- A change of the placement: an epoch at frame p+2; changes of one frame form one epoch. -/
def Work.raiseEpoch (w : Work) : Work :=
  let e := w.frame + 2
  let es := if w.place.epochs.contains e then w.place.epochs else w.place.epochs ++ [e]
  ({ w with place := { w.place with epochs := es } }).set Obj.pendingFrame (Int.ofNat (es.headD noFrame))

/-- Lines of a field in a frame, and the job times of R376: J triggers at MAX_LINE_RATE. -/
def Work.jobLines (w : Work) (f n : Nat) : Nat := (w.frameLines f n).length
def Work.jobTriggers (w : Work) (f n : Nat) : Nat :=
  ceilDiv (2112 * w.jobLines f n * w.confN Obj.maxLineRate) (w.valueAtN Obj.unitRate n * 10 ^ 6)

/-- SEG_DEMAND and UNIT_LOAD of the configuration in force (R266, R376). -/
def Work.showLoads (w : Work) : Work :=
  let n := w.frame
  let lines := sumNat (w.segList.map (fun f => w.jobLines f n)) * w.tileList.length
  let d := roundDiv (2112 * lines * w.confN Obj.maxLineRate * 65536 : Nat) (w.valueAtN Obj.unitRate n * 10 ^ 6 * w.frameLen)
  (w.set Obj.unitLoad w.loadRho).set Obj.segDemand d

/-- EPOCH_START: a new placement takes effect at its epoch frame: clusters leave or enter service, and when every forced removal has returned the
lost capacity counts as returned (R373, R375, R391, R392). -/
def epochStart (w : Work) : Work :=
  match w.place.epochs with
  | [] => w
  | e :: rest =>
    if w.frame < e then w
    else
      let w := { w with place := { w.place with epochs := rest } }
      let w := ((w.bumpMod Obj.epoch 32).set Obj.epochFrame e).set Obj.pendingFrame (Int.ofNat (rest.headD noFrame))
      let w := (upTo 64).foldl (fun w c =>
        let k := w.clus c
        let w := if k.released = some e then (w.updClus c (fun k => { k with released := none })).set (Obj.clCmdState c) 1 else w
        if k.returnAt = some e && !k.faultAt.isSome then
          let w := w.updClus c (fun k => { k with returnAt := none, faulted := false, unitsOut := [], tested := false })
          let w := (((w.set (Obj.clState c) 0).set (Obj.clCause c) 0).set (Obj.clCmdState c) 1).set (Obj.spState c) 0
          (upTo 16).foldl (fun w i => w.returnCapacity (.unit (16 * c + i))) (w.returnCapacity (.cluster c))
        else w) w
      (w.showUnits.showLoads).raise 3

def execEpochStart : PlaceStep := onWork epochStart

/-! ### Segmentation jobs (R376 to R381) -/

/-- Modes in which jobs run: inspection, a mirrored secondary, and the end of a STOP (R66, R555). -/
def Work.pipeRuns (w : Work) : Bool := w.mode.inspecting || w.mode == .shadow || w.run.draining

/-- The jobs of a frame that become ready at trigger nF + s_max (R377). The fuel bounds the frames. -/
def Work.makeJobs (w : Work) (k : Nat) : Nat → Work
  | 0 => w
  | fuel + 1 =>
    let n := w.seg.nextFrame
    let ready := n * w.frameLen + w.sMax n
    if k < ready then w
    else
      let w := { w with seg := { w.seg with nextFrame := n + 1 } }
      let w := if w.inspected n then
          let js := w.tileList.flatMap (fun t => w.segList.map (fun f => ({ frame := n, tile := t, field := f, ready := ready } : Job)))
          { w with seg := { w.seg with jobs := w.seg.jobs ++ js } }
        else w
      w.makeJobs k fuel

/-- A job that waits to be dispatched. -/
def Work.jobWaits (w : Work) (j : Job) : Bool := j.unit.isNone && !j.dropped && decide (j.band < w.bandCount)

/-- The latest start of a job (R377). -/
def Work.latestStart (w : Work) (j : Job) : Nat := j.frame * w.frameLen + w.getN Obj.ringDepth - w.jobTriggers j.field j.frame

/-- The order of waiting jobs: latest start, tile, field. -/
def Work.jobBefore (w : Work) (a b : Job) : Bool :=
  let x := w.latestStart a
  let y := w.latestStart b
  decide (x < y) || (x == y && (decide (a.tile < b.tile) || (a.tile == b.tile && decide (a.field < b.field))))

/-- The first of some jobs in that order. -/
def Work.firstJob (w : Work) (js : List Job) : Option Job :=
  js.foldl (fun best j => match best with
    | none => some j
    | some b => if w.jobBefore j b then some j else some b) none

/-- The unit a job goes to: among the free units of its role the one whose cluster has the most free slots, then the lowest (R378); a replay goes
to the reserve units first (R390), and only a replay does. -/
def Work.unitFor (w : Work) (j : Job) : Option Nat :=
  let n := j.frame
  let free := (w.unitsAt n).filter (fun u => w.unitFree u && w.valueAtN (Obj.clRole (u / 16)) n ≠ 2)
  let reserve := w.reserveAt n
  let pick := fun (us : List Nat) => us.foldl (fun (best : Option Nat) u => match best with
    | none => some u
    | some b => if w.openIn (u / 16) < w.openIn (b / 16) then some u else some b) none
  match (if j.replay then pick (free.filter (fun u => reserve.contains u)) else none) with
  | some u => some u
  | none => pick (free.filter (fun u => !reserve.contains u))

/-- The waiting jobs, ready by now. -/
def Work.readyJobs (w : Work) : List Job :=
  match w.axis.last with
  | none => []
  | some k => w.seg.jobs.filter (fun j => w.jobWaits j && decide (j.ready ≤ k))

/-- The job to dispatch and its unit: the head of the wait order, or the first replay that a reserve unit can take. -/
def Work.nextDispatch (w : Work) : Option (Job × Nat) :=
  match w.firstJob w.readyJobs with
  | none => none
  | some j => match w.unitFor j with
    | some u => some (j, u)
    | none => match w.firstJob (w.readyJobs.filter (fun j => j.replay)) with
      | some r => (w.unitFor r).map (fun u => (r, u))
      | none => none

/-- SEG_JOB_DISPATCH: the engine dispatches the head ready job to a free unit (R378, R381). -/
def segJobDispatch (w : Work) : Work :=
  if !w.pipeRuns then w
  else match w.nextDispatch, w.axis.last with
  | some (j, u), some k =>
    if w.latestStart j < k then w
    else
      let w := w.updJob j.frame j.tile j.field (fun j => { j with unit := some u, cluster := u / 16, startedAt := k })
      let w := w.startTimer (.unitBand u)
      if j.ready + 256 < k then (w.bump Obj.lateStarts).flag Obj.placeFlags 1 else w
  | _, _ => w

def execSegJobDispatch : PlaceStep := onWork segJobDispatch

/-- Abandon a job: it counts as published with no runs, and the Ledger receives its SEG_LOST record (R379). -/
def Work.abandonJob (w : Work) (j : Job) : Work :=
  let w := w.updJob j.frame j.tile j.field (fun j => { j with dropped := true, band := w.bandCount, unit := none })
  let w := w.segLostCover j.tile j.field (j.frame * w.frameLen) ((j.frame + 1) * w.frameLen - 1)
  (w.bump Obj.segLostJobs).flag Obj.placeFlags 2

/-- SEG_JOB_ABANDON: the first waiting job, past its latest start. -/
def segJobAbandon (w : Work) : Work :=
  match w.firstJob w.readyJobs, w.axis.last with
  | some j, some k => if w.latestStart j < k then (w.abandonJob j).settleSeg else w
  | _, _ => w

def execSegJobAbandon : PlaceStep := onWork segJobAbandon

/-! ### Classification batches (R382) -/

/-- The models a candidate asks for. -/
def Work.modelsOf (w : Work) (c : Candidate) : Nat × Nat :=
  let n := w.frameOf c.last
  (w.valueAtN (Obj.featModel c.field) n, w.valueAtN (Obj.netModel c.field) n)

/-- The head of the queue: candidates in handover order that share one feature model and one crop model, up to a count. -/
def Work.batchHead (w : Work) (limit : Nat) : List Candidate :=
  match w.cls.queue with
  | [] => []
  | c :: _ => (w.cls.queue.takeWhile (fun d => w.modelsOf d == w.modelsOf c)).take (min limit 256)

/-- Take a batch off the queue. -/
def Work.takeBatch (w : Work) (cs : List Candidate) (unit peer : Option Nat) : Work :=
  ({ w with cls := { w.cls with
    queue := w.cls.queue.drop cs.length
    batches := w.cls.batches ++ [(⟨w.cls.nextBatch, unit, peer, cs⟩ : Batch)]
    nextBatch := w.cls.nextBatch + 1 } }).showCands

/-- CLASSIFY_BATCH_DISPATCH: a batch of up to 256 candidates, no more than `limit`, the count its unit can finish in 20 µs, goes to the lowest free
unit of a shared or classification cluster; a ready job goes first. -/
def classifyBatchDispatch (limit : Nat) (w : Work) : Work :=
  let cs := w.batchHead limit
  match cs with
  | [] => w
  | c :: _ =>
    if !w.pipeRuns || w.nextDispatch.isSome then w
    else
      let n := w.frameOf c.last
      match (w.unitsAt n).find? (fun u => w.unitFree u && w.valueAtN (Obj.clRole (u / 16)) n ≠ 1) with
      | none => w
      | some u => w.takeBatch cs (some u) none

def execClassifyBatchDispatch (limit : Nat) : PlaceStep := onWork (classifyBatchDispatch limit)

/-- The candidates of some batches return to the head of the queue (R390). -/
def Work.requeue (w : Work) (gone : Batch → Bool) : Work :=
  let back := (w.cls.batches.filter gone).flatMap (fun b => b.cands)
  ({ w with cls := { w.cls with queue := back ++ w.cls.queue, batches := w.cls.batches.filter (fun b => !gone b) } }).showCands

/-! ### Forced removals (R264, R265, R389, R390, R393) -/

/-- Run a job again in full: its area is taken back from the open pieces, DONE falls back, its exports are formed anew. A job whose lines have
left the ring is abandoned instead (R265). -/
def Work.replayJob (w : Work) (n t f : Nat) : Work :=
  let gone := match w.frameLines f n with
    | [] => true
    | l :: _ => w.lineLost f l (tileWindow w.groupBase t)
  let w := if (w.job? n t f).isSome then w
    else { w with seg := { w.seg with jobs := w.seg.jobs ++ [{ frame := n, tile := t, field := f, ready := n * w.frameLen + w.sMax n, band := 0 }] } }
  if gone then match w.job? n t f with
    | some j => w.abandonJob j
    | none => w
  else
    let inside := fun (x : Pix) => decide (w.frameOf x.y = n) && decide (t * 2048 ≤ x.c) && decide (x.c < t * 2048 + 2048)
    let pieces := (w.seg.pieces.map (fun (p : Piece) =>
      if p.field = f then { p with pix := p.pix.filter (fun x => !inside x) } else p)).filter (fun (p : Piece) => !p.all.isEmpty)
    let w := { w with seg := { w.seg with
      pieces := pieces
      meets := w.seg.meets.filter (fun m => pieces.any (fun (p : Piece) => p.id == m.a) && pieces.any (fun (p : Piece) => p.id == m.b)) } }
    let w := w.updJob n t f (fun j => { j with unit := none, band := 0, shadow := [], edges := [], head := [], lost := none, fold := none, replay := true })
    let d := min (w.doneNext t f) (n * w.frameLen)
    let w := { w with seg := { w.seg with done := alSet w.seg.done (8 * t + f) d } }
    (w.bump Obj.replayedJobs).flag Obj.placeFlags 4

/-- The jobs that R265 names for a cluster: those running on it, and every job of the tiles in the column range of a component with a piece in it,
from the frame of its first line on. -/
def Work.jobsToReplay (w : Work) (c : Nat) : List (Nat × Nat × Nat) :=
  let running := (w.seg.jobs.filter (fun j => j.unit.isSome && j.cluster == c)).map (fun j => (j.frame, j.tile, j.field))
  let lost := w.seg.pieces.filter (fun p => p.clusters.contains c || p.label / slotsPerCluster == c)
  let begun := fun (f t n : Nat) => match w.job? n t f with
    | some j => decide (0 < j.band) || j.unit.isSome
    | none => decide (n * w.frameLen < w.doneNext t f)
  let hit := lost.flatMap (fun p => (w.tileList.filter (fun t => decide (p.cdMin < t * 2048 + 2048) && decide (t * 2048 ≤ p.cdMax))).flatMap
    (fun t => ((upTo (w.frame + 1)).filter (fun n => decide (w.frameOf p.lFirst ≤ n) && begun p.field t n)).map (fun n => (n, t, p.field))))
  (running ++ hit).eraseDups

/-- A cluster removed by force: no further work, DEGRADED, an epoch at p+2, its work replayed (R390, R393). -/
def Work.removeCluster (w : Work) (c cause : Nat) : Work :=
  let k := w.clus c
  if k.faulted then w
  else
    let again := w.jobsToReplay c
    let w := { w with seg := { w.seg with pieces := w.seg.pieces.filter (fun p => !(p.clusters.contains c || p.label / slotsPerCluster == c)) } }
    let w := w.updClus c (fun k => { k with
      faulted := true
      faultAt := some w.frame
      tested := false
      released := none
      returnAt := none
      service := (w.frame + 2, false) :: k.service })
    -- a return written in the same frame loses to the fault
    let w := if k.returnAt = some (w.frame + 2) then w.set (Obj.clCmdState c) 4 else w
    let w := ((w.set (Obj.clState c) 3).set (Obj.clCause c) cause).bump (Obj.clRemovals c)
    let w := if w.get (Obj.spState c) = 5 then w else w.set (Obj.spState c) 4
    let w := (w.loseCapacity (.cluster c)).raiseEpoch
    let w := w.requeue (fun b => match b.unit with
      | some u => u / 16 == c
      | none => false)
    let w := again.foldl (fun w e => w.replayJob e.1 e.2.1 e.2.2) w
    (w.showUnits).settleSeg

/-- UNIT_WATCHDOG_EXPIRY: a band whose lines can be delivered has not been published within four times its budgeted time: the unit is removed alone, its
job goes on elsewhere from the last saved band (R264, R389, R390). -/
def unitWatchdogExpiry (u : Fin 1024) (w : Work) : Work :=
  match w.seg.jobs.find? (fun j => j.unit = some u.val) with
  | none => w
  | some j =>
    let ns := 4 * 2112 * (w.bandLines j.field j.frame j.band).length * 1000 / w.valueAtN Obj.unitRate j.frame
    if !w.expired (.unitBand u.val) ns || !w.bandReady j.frame j.tile j.field j.band then w
    else
      let c := u.val / 16
      let w := w.stopTimer (.unitBand u.val)
      let w := w.updClus c (fun k => { k with unitsOut := u.val % 16 :: k.unitsOut })
      let w := ((w.set (Obj.clCause c) 2).bump (Obj.clRemovals c)).loseCapacity (.unit u.val)
      let w := w.raiseEpoch.requeue (fun b => b.unit == some u.val)
      let w := w.updJob j.frame j.tile j.field (fun j => { j with unit := none, replay := true })
      ((w.bump Obj.replayedJobs).flag Obj.placeFlags 4).showUnits

def execUnitWatchdogExpiry (u : Fin 1024) : PlaceStep := onWork (unitWatchdogExpiry u)

/-! ### Planned release and return (R391 to R393) -/

/-- The class FRAME2 object CL_CMD: accepted for frame p+2 (R373). -/
def clRelease (path : Path) (c : ClusterNo) (w : Work) : Work :=
  w.command path (Obj.clCmd c) 1 always (fun w =>
    let other := (upTo 64).any (fun d => d ≠ c.val && (w.getN (Obj.clState d) = 1 || w.getN (Obj.clState d) = 2 || w.getN (Obj.clState d) = 4))
    if other || w.getN (Obj.clState c) ≠ 0 then w.set (Obj.clCmdState c) 3
    else
      let w := w.updClus c (fun k => { k with released := some (w.frame + 2), service := (w.frame + 2, false) :: k.service, tested := false })
      (((w.set (Obj.clState c) 1).set (Obj.clCause c) 1).set (Obj.clCmdState c) 2).raiseEpoch)

/-- CL_RELEASE: CL_CMD 1. -/
def execClRelease (path : Path) (c : ClusterNo) : PlaceStep := onWork (clRelease path c)

/-- A return accepted for frame p+2, or code 3 or 4 (R392, R393). -/
def Work.returnCluster (w : Work) (c : Nat) : Work :=
  let k := w.clus c
  let st := w.getN (Obj.clState c)
  let out := st = 2 || st = 3
  let proved := if k.faulted then k.tested else !k.failed
  if k.faultAt = some w.frame then w.set (Obj.clCmdState c) 4
  else if !out || !proved || w.getN (Obj.spState c) = 5 then w.set (Obj.clCmdState c) 3
  else
    let w := w.updClus c (fun k => { k with returnAt := some (w.frame + 2), faultAt := none, service := (w.frame + 2, true) :: k.service })
    ((w.set (Obj.clState c) 5).set (Obj.clCmdState c) 2).raiseEpoch

def clReturn (path : Path) (c : ClusterNo) (w : Work) : Work := w.command path (Obj.clCmd c) 2 always (fun w => w.returnCluster c)

/-- CL_RETURN: CL_CMD 2. -/
def execClReturn (path : Path) (c : ClusterNo) : PlaceStep := onWork (clReturn path c)

/-- RELEASE_SLOT_MOVE: with its last job of an earlier frame published, one occupied slot of a releasing cluster moves to the cluster in service with
the most free slots; with no slot left the cluster is out. With no free slot anywhere the move waits (R391). -/
def releaseSlotMove (c : ClusterNo) (w : Work) : Work :=
  if w.getN (Obj.clState c) ≠ 1 || w.seg.jobs.any (fun j => j.unit.isSome && j.cluster == c.val) then w
  else match w.seg.pieces.find? (fun p => p.label / slotsPerCluster == c.val) with
  | none =>
    if w.inService c w.frame then w else (w.set (Obj.clState c) 2).set (Obj.spState c) 4
  | some p =>
    let n := w.frame + 2
    let best := ((upTo 64).filter (fun d => w.inService d n && !(w.clus d).faulted)).foldl (fun (b : Option Nat) d => match b with
      | none => some d
      | some e => if w.openIn d < w.openIn e then some d else some e) none
    match best.bind (fun d => (w.freeSlot d).map (fun s => slotsPerCluster * d + s)) with
    | none => w
    | some l => (w.updPiece p.id (fun p => { p with
        label := l
        clusters := (l / slotsPerCluster :: p.clusters.filter (fun x => x ≠ c.val)).eraseDups })).showSeg

def execReleaseSlotMove (c : ClusterNo) : PlaceStep := onWork (releaseSlotMove c)

/-! ### Buffers (R386 to R388) -/

/-- The pseudo-channels a buffer class lies on in frame n, by copy: one list for a plain class, one for each stack for a replicated one. -/
def Work.bufferPcs (w : Work) (b n : Nat) : List (List Nat) :=
  let mask := w.valueAtN (Obj.bufPcMask b) n
  let on := fun (lo hi : Nat) => (upTo 64).filter (fun p => decide (lo ≤ p) && decide (p < hi) && bitOf mask p)
  if (bufClass b).2 then [on 0 32, on 32 64] else [on 0 64]

/-- The share of a class on one pseudo-channel in KiB, rounded up. -/
def bufferShare (b : Nat) (pcs : List (List Nat)) (p : Nat) : Nat :=
  sumNat (pcs.map (fun l => if l.contains p then ceilDiv ((bufClass b).1 * 1024) l.length else 0))

/-- The check of a BUF_PC_MASK write (R387). -/
def Work.bufferCheck (w : Work) (b : Nat) (v : Nat) : Option Res :=
  let mask := fun (c : Nat) => if c = b then v else w.getN (Obj.bufPcMask c)
  let lists := fun (c : Nat) =>
    let on := fun (lo hi : Nat) => (upTo 64).filter (fun p => decide (lo ≤ p) && decide (p < hi) && bitOf (mask c) p && bitOf (w.getN Obj.pcMap) p)
    if (bufClass c).2 then [on 0 32, on 32 64] else [on 0 64]
  if (lists b).any (fun l => l.isEmpty) then some .inconsistent
  else if (upTo 64).any (fun p => decide (128 * 1024 < sumNat ((upTo 9).map (fun c => bufferShare c (lists c) p)))) then some .inconsistent
  else none

/-- A pseudo-channel is lost: every class on it counts the loss and moves off it at frame p+2 (R388). -/
def Work.buffersLose (w : Work) (pc : Nat) : Work :=
  let w := (upTo 9).foldl (fun w b =>
    if ((w.bufferPcs b w.frame).flatMap id).contains pc then
      let m : Nat := w.getN (Obj.bufPcMask b) &&& ((2 ^ 64 - 1) ^^^ 2 ^ pc)
      ((w.bump (Obj.bufLost b)).set (Obj.bufPcMask b) (Int.ofNat m)).addChange (w.frame + 2) (Obj.bufPcMask b) (Int.ofNat m)
    else w) w
  w.raiseEpoch

end Sys2Proof.Machine
end

