-- ==== Sys2Proof/Machine/Security.lean ====
section
/-! DEFINITION. Firmware trust, fuses, identity and debug (chapter 23): signature blocks, firmware images and their installation, the fuse
commands, owner keys, the rollback counter and the debug token. -/
namespace Sys2Proof.Machine

/-- A change of the non-volatile part and of the rest together. -/
abbrev Both := NonVol × Work

/-- Lift a change of both parts to the whole state. -/
def onBoth (f : Both → Both) (s : State) : Host.Outcome State Fault Refusal :=
  .next { s with nv := (f (s.nv, s.w)).1, w := (f (s.nv, s.w)).2 }

/-! ### Signature blocks (R501, R502) -/

/-- The bytes of an ASCII text. -/
def ascii (t : String) : Bytes := t.toList.map (fun c => BitVec.ofNat 8 c.toNat)

/-- The length of a signature block. -/
def sigBlockBytes : Nat := 3328

/-- Whether a signature block is valid for a context, the key digests its kind accepts and the object's digest (R502). -/
def sigValid (context : String) (accepts : List Bytes) (digest block : Bytes) : Bool :=
  let key := slice block 64 1793
  let n := leAt block 6 2
  block.length == sigBlockBytes && leAt block 0 4 == 0x47535A54 && leAt block 4 2 == 1
    && allZero (slice block 48 16) && allZero (slice block 3319 9)
    && slice block 8 8 == ascii context
    && slice block 16 32 == shake256 key && accepts.contains (slice block 16 32)
    && decide (1 ≤ n) && decide (n ≤ 1462) && Config.falconVerify key (ascii context ++ digest) (slice block 1857 n)

/-- The owner key digests in valid slots (R502, R504). -/
def Fuses.ownerKeys (f : Fuses) : List Bytes := (f.keys.filter (fun k => k.valid && !k.revoked)).map (·.digest)

/-! ### Firmware images (R505, R506) -/

/-- The body length, SVN, version and digest of a firmware image. -/
def fwBody (b : Bytes) : Nat := leAt b 8 4
def fwSvnOf (b : Bytes) : Nat := leAt b 6 2
def fwVersionOf (b : Bytes) : Bytes := (slice b 16 32).takeWhile (· ≠ 0)
def fwDigestOf (b : Bytes) : Bytes := slice b (64 + fwBody b) 32

/-- Whether the format of a firmware image is right (R505). -/
def fwFormat (b : Bytes) : Bool :=
  leAt b 0 4 == 0x57465A54 && leAt b 4 2 == 1 && decide (fwSvnOf b ≤ 64) && decide (fwBody b ≤ 16773792)
    && b.length == 64 + fwBody b + 32 + sigBlockBytes && allZero (slice b 12 4) && allZero (slice b 48 16)

/-- Whether the digest matches the header and body. -/
def fwDigestOk (b : Bytes) : Bool := shake256 (b.take (64 + fwBody b)) == fwDigestOf b

/-- Whether the signature block is valid for firmware. -/
def fwSigOk (b : Bytes) : Bool :=
  sigValid "TZFWIMG1" Config.glohusKeys (fwDigestOf b) (b.drop (64 + fwBody b + 32))

/-- FW_STATE of a firmware slot that is not being programmed. -/
def fwStateOf (nv : NonVol) (s : FlashSlot) : Nat :=
  if s.bytes.isEmpty then 0
  else if s.torn then 2
  else if !fwFormat s.bytes then 5
  else if !fwDigestOk s.bytes then 2
  else if !fwSigOk s.bytes then 3
  else if fwSvnOf s.bytes < nv.fuses.rollback then 4
  else 1

/-- FW_STATE of firmware slot i. -/
def NonVol.fwState (nv : NonVol) (i : Nat) : Nat :=
  if nv.flash.op = some (.firmware i) then 6 else fwStateOf nv (nth {} nv.flash.firmware i)

/-- Show the fuses and the firmware slots in their objects. -/
def showSec (x : Both) : Both :=
  let nv := x.1
  let w := x.2
  let w := (upTo 2).foldl (fun (w : Work) i =>
    let s := nth {} nv.flash.firmware i
    let seen := !s.bytes.isEmpty && nv.flash.op ≠ some (.firmware i)
    let w := (w.set (Obj.fwState i) (nv.fwState i)).set (Obj.fwSvn i) (if seen then fwSvnOf s.bytes else 0)
    (w.setBlob (Obj.fwVersion i) (if seen then fwVersionOf s.bytes else [])).setBlob (Obj.fwDigest i) (if seen then fwDigestOf s.bytes else [])) w
  let w := (upTo 4).foldl (fun (w : Work) k =>
    let s := nth {} nv.fuses.keys k
    (w.set (Obj.ownerKeyState k) (if s.revoked then 2 else if s.valid then 1 else 0)).setBlob (Obj.ownerKeyDigest k) (if s.valid then s.digest else [])) w
  let w := (w.set Obj.fwPrefer nv.flash.prefer).set Obj.rollback nv.fuses.rollback
  let w := w.set Obj.policy ((if nv.fuses.signModels then 2 else 0) + (if nv.fuses.signProfiles then 1 else 0))
  let w := if w.get Obj.debugState = 2 then w else w.set Obj.debugState (if nv.fuses.debugLock then 1 else 0)
  (nv, w)

/-! ### Installing firmware (R508) -/

/-- The checks of an FW_IMAGE download (R500, R508). A digest that does not match is a fault of the format. -/
def fwCheck (nv : NonVol) (_ : Work) (b : Bytes) : Option Res :=
  if nv.flash.op.isSome then some .busy
  else if !fwFormat b || !fwDigestOk b then some .format
  else if !fwSigOk b then some .signature
  else if fwSvnOf b < nv.fuses.rollback then some .locked
  else none

/-- The slot that is not running. -/
def Work.otherImage (w : Work) : Nat := if w.sec.running = some 0 then 1 else 0

/-- Begin to program the slot that is not running. -/
def fwInstall (b : Bytes) (x : Both) : Both :=
  let i := x.2.otherImage
  let nv := { x.1 with flash := { x.1.flash with firmware := upd x.1.flash.firmware i (fun _ => ⟨b, false⟩), op := some (.firmware i) } }
  showSec (nv, x.2)

/-- The write of a DOMAIN whose effect reaches the non-volatile part. -/
def writeBlobNv (p : Path) (key : Nat) (b : Bytes) (chk : NonVol → Work → Bytes → Option Res) (eff : Both → Both) (x : Both) : Both :=
  let w := x.2
  if !w.mode.dictOpen then x
  else match w.checkBlob p key b with
    | .error e => (x.1, w.refuse p key e)
    | .ok r =>
      match chk x.1 w b with
      | some e => (x.1, w.refuse p key e)
      | none =>
        if w.mustPropose p then (x.1, w.propose p key (.bytes b))
        else eff (x.1, w.acceptBlob p r key b (w.effectFrame r.effect))

/-- The write of a number whose effect reaches the non-volatile part. -/
def writeNumNv (p : Path) (key : Nat) (v : DictVal) (chk : Work → Option Res) (eff : Both → Both) (x : Both)
    (ef : Option Nat := none) : Both :=
  let w := x.2
  if !w.mode.dictOpen then x
  else match w.checkNum p key v with
    | .error e => (x.1, w.refuse p key e)
    | .ok (r, n) =>
      match chk w with
      | some e => (x.1, w.refuse p key e)
      | none =>
        if w.mustPropose p then (x.1, w.propose p key (.num n))
        else eff (x.1, w.acceptNum p r key n (ef.getD (w.effectFrame r.effect)))

/-- FW_IMAGE_WRITE. -/
def fwImageWrite (p : Path) (b : Bytes) (x : Both) : Both := writeBlobNv p Obj.fwImage b fwCheck (fwInstall b) x
def execFwImageWrite (p : Path) (b : Bytes) : State → Host.Outcome State Fault Refusal := onBoth (fwImageWrite p b)

/-- FW_PROGRAM_DONE: the image is programmed and read back, and the descriptor and its copy name the new slot (R508). -/
def fwProgramDone (x : Both) : Both :=
  match x.1.flash.op with
  | some (.firmware i) => showSec ({ x.1 with flash := { x.1.flash with op := none, prefer := i } }, x.2)
  | _ => x
def execFwProgramDone : State → Host.Outcome State Fault Refusal := onBoth fwProgramDone

/-! ### Fuses (R503, R504) -/

/-- The modes in which fuse commands act: HOLD and READY, and SHADOW for a write through the mirror (R504). -/
def fuseMode (w : Work) : Option Res :=
  if w.mode == .hold || w.mode == .ready || w.mode == .shadow then none else some .mode

/-- Show the outcome of a fuse command. -/
def fuseResult (r : Nat) (x : Both) : Both := showSec (x.1, x.2.set Obj.fuseResult r)

/-- Burn one fuse: nothing when it is burnt already; `good` says whether the read-back shows it burnt (R504). -/
def burnFuse (burnt : Fuses → Bool) (set : Fuses → Fuses) (good : Bool) (x : Both) : Both :=
  if burnt x.1.fuses then fuseResult 2 x
  else if good then fuseResult 1 ({ x.1 with fuses := set x.1.fuses }, x.2)
  else fuseResult 3 x

/-- FUSE_CMD with a code (R504). -/
def fuseAct (code : Nat) (good : Bool) (x : Both) : Both :=
  if code = 0x4C4B0001 then burnFuse (·.debugLock) (fun f => { f with debugLock := true }) good x
  else if code = 0x4C4B0002 then burnFuse (·.signProfiles) (fun f => { f with signProfiles := true }) good x
  else if code = 0x4C4B0003 then burnFuse (·.signModels) (fun f => { f with signModels := true }) good x
  else
    let k := code - 0x4C4B0010
    burnFuse (fun f => (nth {} f.keys k).revoked) (fun f => { f with keys := upd f.keys k (fun s => { s with revoked := true }) }) good x

/-- FUSE_CMD written on a path. -/
def fuseCommand (p : Path) (code : Nat) (good : Bool) (x : Both) : Both :=
  writeNumNv p Obj.fuseCmd (.num code) fuseMode (fuseAct code good) x

/-- FUSE_DEBUG_LOCK. -/
def execFuseDebugLock (p : Path) (good : Bool) : State → Host.Outcome State Fault Refusal := onBoth (fuseCommand p 0x4C4B0001 good)

/-- FUSE_SIGN_PROFILES. -/
def execFuseSignProfiles (p : Path) (good : Bool) : State → Host.Outcome State Fault Refusal := onBoth (fuseCommand p 0x4C4B0002 good)

/-- FUSE_SIGN_MODELS. -/
def execFuseSignModels (p : Path) (good : Bool) : State → Host.Outcome State Fault Refusal := onBoth (fuseCommand p 0x4C4B0003 good)

/-- FUSE_REVOKE_KEY. -/
def execFuseRevokeKey (p : Path) (k : Fin 4) (good : Bool) : State → Host.Outcome State Fault Refusal :=
  onBoth (fuseCommand p (0x4C4B0010 + k.val) good)

/-- An owner key slot is empty when neither its valid bit nor its revoked bit is burnt. -/
def KeySlot.empty (s : KeySlot) : Bool := !s.valid && !s.revoked

/-- Burn a key's digest into the lowest empty slot, the digest before the valid bit (R503, R504). -/
def burnKey (key : Bytes) (good : Bool) (x : Both) : Both :=
  match (upTo 4).find? (fun k => (nth {} x.1.fuses.keys k).empty) with
  | none => fuseResult 4 x
  | some k =>
    if good then
      fuseResult 1 ({ x.1 with fuses := { x.1.fuses with
        keys := upd x.1.fuses.keys k (fun s => { s with digest := shake256 key, valid := true }) } }, x.2)
    else fuseResult 3 x

/-- OWNER_KEY_BURN. -/
def ownerKeyBurn (p : Path) (key : Bytes) (good : Bool) (x : Both) : Both :=
  writeBlobNv p Obj.ownerKeyBurn key (fun _ w _ => fuseMode w) (burnKey key good) x
def execOwnerKeyBurn (p : Path) (key : Bytes) (good : Bool) : State → Host.Outcome State Fault Refusal :=
  onBoth (ownerKeyBurn p key good)

/-- Raise the counter to the lower of the SVNs, when both images are valid and that SVN exceeds the counter (R509). -/
def rollbackAct (good : Bool) (x : Both) : Both :=
  let nv := x.1
  let svn := fun (i : Nat) => fwSvnOf (nth {} nv.flash.firmware i).bytes
  let low := min (svn 0) (svn 1)
  if nv.fwState 0 ≠ 1 || nv.fwState 1 ≠ 1 then fuseResult 6 x
  else if low ≤ nv.fuses.rollback then fuseResult 5 x
  else if good then fuseResult 1 ({ nv with fuses := { nv.fuses with rollback := low } }, x.2)
  else fuseResult 3 x

/-- ROLLBACK_COMMIT. -/
def rollbackCommit (p : Path) (good : Bool) (x : Both) : Both :=
  writeNumNv p Obj.rollbackCommit (.num 1) fuseMode (rollbackAct good) x
def execRollbackCommit (p : Path) (good : Bool) : State → Host.Outcome State Fault Refusal := onBoth (rollbackCommit p good)

/-! ### Debug and identity (R511, R513) -/

/-- The digest a debug token signs: SERIAL followed by DEBUG_NONCE (R513). -/
def Work.tokenDigest (w : Work) : Bytes := shake256 (leBytes 4 Config.serial.toNat ++ w.blob Obj.debugNonce)

/-- The check of a debug token. -/
def tokenCheck (w : Work) (b : Bytes) : Option Res :=
  if sigValid "TZDEBUG1" Config.glohusKeys w.tokenDigest b then none else some .signature

/-- DEBUG_TOKEN: a valid token reopens core debug until the next reset (R513). -/
def debugToken (p : Path) (b : Bytes) (w : Work) : Work :=
  w.writeBlob p Obj.debugToken b tokenCheck (fun _ w => if w.get Obj.debugState = 1 then w.set Obj.debugState 2 else w)
def execDebugToken (p : Path) (b : Bytes) : State → Host.Outcome State Fault Refusal := onWork (debugToken p b)

/-- IDENTITY_KEY_READY: the key pair is derived; the certificate is shown when its DEVICE_KEY is the module's own (R511). -/
def identityKeyReady (nv : NonVol) (w : Work) : Work :=
  if !w.mode.dictOpen || w.sec.keyReady then w else
  let w := { w with sec := { w.sec with keyReady := true } }
  let w := w.setBlob Obj.identityKey Config.identityKey
  w.setBlob Obj.identityCert (if slice nv.flash.cert 64 1793 = Config.identityKey then nv.flash.cert else [])
def execIdentityKeyReady : State → Host.Outcome State Fault Refusal := onWorkNv identityKeyReady

end Sys2Proof.Machine
end

