-- ==== Sys2Proof/Machine/Classify.lean ====
section
/-! DEFINITION. Model slots and classification (R269 to R273, R278, R281, R282, R510): downloads, effect frames, the feature model and the
crop network of a candidate, and the end of a batch. -/
namespace Sys2Proof.Machine

/-! ### Model slots (R281, R282) -/

/-- The image of slot m in force at frame n. -/
def Work.modelAt (w : Work) (m n : Nat) : Option Bytes :=
  ((nth {} w.cls.slots m).images.find? (fun e => decide (e.1 ≤ n))).map (fun e => e.2)

/-- Show a model slot: what is in force in the present frame and what is pending. -/
def Work.showModel (w : Work) (m : Nat) : Work :=
  let n := w.frame
  let now := w.modelAt m n
  let wait := match (nth {} w.cls.slots m).images with
    | e :: _ => if n < e.1 then some e.1 else none
    | [] => none
  let w := w.set (Obj.modelState m) (match now, wait with
    | none, _ => 0
    | some _, none => 1
    | some _, some _ => 2)
  let w := w.set (Obj.modelFrame m) (match wait with
    | some e => Int.ofNat e
    | none => noFrame)
  match now with
  | none => w
  | some b => ((w.set (Obj.modelKind m) (mdKind b)).set (Obj.modelMacs m) (mdMacs b)).setBlob (Obj.modelDigest m) (modelDigest b)

/-- The checks of a MODEL_IMAGE download (R281, R282, R510). -/
def modelCheck (m : Nat) (nv : NonVol) (w : Work) (b : Bytes) : Option Res :=
  if !modelFormat b then some .format
  else if mdSigned b && !sigValid "TZMODEL1" nv.fuses.ownerKeys (modelDigest b) (modelSig b) then some .signature
  else if !mdSigned b && nv.fuses.signModels then some .signature
  else if (upTo 8).any (fun f => (w.get (Obj.featModel f) == m && mdKind b != 0) || (w.get (Obj.netModel f) == m && mdKind b != 1)) then
    some .inconsistent
  else none

/-- An accepted image: in force from its effect frame; a further one written before then replaces it. -/
def Work.putModel (w : Work) (m : Nat) (b : Bytes) : Work :=
  let e := w.frame + 1
  let keep := fun (s : ModelSlot) => { s with images := (e, b) :: s.images.filter (fun x => decide (x.1 < e)) }
  ({ w with cls := { w.cls with slots := upd w.cls.slots m keep } }).showModel m

/-- MODEL_IMAGE_WRITE. -/
def modelImageWrite (path : Path) (m : Fin 8) (b : Bytes) (nv : NonVol) (w : Work) : Work :=
  w.writeBlob path (Obj.modelImage m) b (modelCheck m nv) (fun b w => w.putModel m b)
def execModelImageWrite (path : Path) (m : Fin 8) (b : Bytes) : State → Host.Outcome State Fault Refusal :=
  onWorkNv (modelImageWrite path m b)

/-- The least frame of a candidate still queued or in a unit, or the present frame. -/
def Work.oldestFrame (w : Work) : Nat :=
  ((w.cls.queue ++ w.cls.batches.flatMap (fun b => b.cands)).map (fun c => w.frameOf c.last)).foldl min w.frame

/-- MODEL_TAKES_EFFECT: at its effect frame a pending image comes into force, and the Ledger emits the MODEL event record (R282, R289). The
former image stays while a queued candidate needs it. -/
def modelTakesEffect (m : Fin 8) (w : Work) : Work :=
  match (nth {} w.cls.slots m).images with
  | [] => w
  | e :: _ =>
    if w.get (Obj.modelFrame m) ≠ ↑e.1 || decide (w.frame < e.1) then w
    else
      let old := w.oldestFrame
      let kept := fun (xs : List (Nat × Bytes)) => xs.filter (fun x => decide (old < x.1)) ++ (xs.filter (fun x => decide (x.1 ≤ old))).take 1
      let keep := fun (s : ModelSlot) => { s with images := kept s.images }
      let w := { w with cls := { w.cls with slots := upd w.cls.slots m keep } }
      (w.showModel m).event { event := 0x07, frame := e.1, d0 := m, d1 := leNat ((modelDigest e.2).take 8), d2 := mdMacs e.2 }
def execModelTakesEffect (m : Fin 8) : State → Host.Outcome State Fault Refusal := onWork (modelTakesEffect m)

/-- The check of FEAT_MODEL and NET_MODEL: a slot that holds no image, or one of the wrong KIND, is refused (R282). -/
def fieldModelCheck (kind : Nat) (w : Work) (v : Int) : Option Res :=
  if v = 0xFF then none
  else match (nth {} w.cls.slots v.toNat).images with
    | [] => some .inconsistent
    | e :: _ => if mdKind e.2 = kind then none else some .inconsistent

/-! ### Windows around a candidate (R278, R290) -/

/-- The lines of a window of h lines of a field about a position: line number h ÷ 2 is the least line of the field not below floor(MD). -/
def Work.windowLines (w : Work) (f md h : Nat) : List Int :=
  let g := w.fieldStep
  let y := md / 256
  let mid := ((upTo g).map (y + ·)).find? (fun l => (w.lineFields l).contains f)
  (upTo h).map (fun (i : Nat) => ((mid.getD y : Nat) : Int) + ((i : Int) - (h / 2 : Nat)) * g)

/-- The first module column of a window of a width about a group column in 1/256. -/
def Work.windowFirst (w : Work) (cd width : Nat) : Int := ((cd / 256 : Nat) : Int) - (width / 2 : Nat) - w.groupBase

/-- The input tensor of a crop model (R278). -/
def Work.cropTensor (w : Work) (b : Bytes) (f : Nat) (md cd : Nat) : List Int :=
  let first := w.windowFirst cd (mdInW b)
  let inputs := (upTo (mdInputs b)).map (modelInput b)
  (w.windowLines f md (mdInH b)).flatMap (fun (l : Int) =>
    let swept := decide (0 ≤ l) && (match w.loom.next with
      | some x => decide (l < x)
      | none => false)
    let line := l.toNat
    let cols : List Cand := if swept then (w.passLine f ⟨first, mdInW b, 0xFFFF⟩ line).cols
      else List.replicate (mdInW b) { v := 0, valid := false, uncal := false }
    let n := w.frameOf line
    cols.zipIdx.flatMap (fun e =>
      let c : Int := first + (e.2 : Nat)
      let t := ((c + w.groupBase) / 2048).toNat
      let b0 := w.newExposure t n
      let bg := if e.1.valid then (w.background f n b0 c).1 else 0
      inputs.map (fun i => cropInput i e.1.v bg e.1.valid)))

/-- Whether throttling holds in frame n (R526). -/
def Work.throttledAt (w : Work) (n : Nat) : Bool :=
  match w.power.throttle.find? (fun e => decide (e.1 ≤ n)) with
  | some e => e.2
  | none => false

/-! ### Classification (R269 to R272) -/

/-- Add the saturations of a run to ACC_SAT of the slot. -/
def Work.accSat (w : Work) (m n : Nat) : Work := if n = 0 then w else w.bump (Obj.accSat m) n

/-- The feature result of a candidate: class and confidence (R270). -/
def Work.featureRun (w : Work) (c : Candidate) : Nat × Nat × Work :=
  let n := w.frameOf c.last
  let m := w.valueAtN (Obj.featModel c.field) n
  let unknown := (w.valueAtN Obj.classUnknown n, 0, w)
  if m = 0xFF then unknown
  else match w.modelAt m n with
    | none => unknown
    | some b =>
      let r := infer b ((upTo (mdInputs b)).map (fun e => featureInput (modelInput b e) c.feats))
      (r.1, r.2.1, w.accSat m r.2.2)

/-- Whether the crop network is asked for a candidate with a feature class (R271). -/
def Work.netAsked (w : Work) (c : Candidate) (fcls : Nat) : Bool :=
  let n := w.frameOf c.last
  let m := w.valueAtN (Obj.netModel c.field) n
  m != 0xFF && bitOf (w.valueAtN (Obj.netClassMask c.field (fcls / 64)) n) (fcls % 64) && (w.modelAt m n).isSome

/-- A candidate classified and graded; one with a poisoned feature word carries UNCLASSIFIED (R429); `room` says whether the network queue has room. -/
def Work.classify (w : Work) (c : Candidate) (room : Bool) : Work :=
  let n := w.frameOf c.last
  let slot := fun (m : Nat) => if m = 0xFF then 0xF else m
  let fm := slot (w.valueAtN (Obj.featModel c.field) n)
  if c.flags &&& dfUnclassified ≠ 0 then
    let u := w.valueAtN Obj.classUnknown n
    (w.bump Obj.unclassified).gradeIt c { cls := u, conf := 0, fcls := u, fconf := 0, flags := dfUnclassified }
  else if c.isArea then
    let a := w.valueAtN Obj.classArea n
    w.gradeIt c { cls := a, conf := 0, fcls := a, fconf := 0, featModel := fm }
  else
    let (fcls, fconf, w) := w.featureRun c
    let w := w.bump Obj.classified
    let plain : ClassResult := { cls := fcls, conf := fconf, fcls := fcls, fconf := fconf, featModel := fm }
    if !w.netAsked c fcls then w.gradeIt c plain
    else if !room || w.throttledAt w.frame then (w.bump Obj.netSkipped).gradeIt c { plain with flags := dfNetSkipped }
    else
      let m := w.valueAtN (Obj.netModel c.field) n
      match w.modelAt m n with
      | none => w.gradeIt c plain
      | some b =>
        let md := (c.first * 256 + c.feat 11).toNat
        let r := infer b (w.cropTensor b c.field md (c.feat 10).toNat)
        let w := (w.accSat m r.2.2).bump Obj.netRun
        if w.valueAtN Obj.netMinConf n ≤ r.2.1 then
          w.gradeIt c { plain with cls := r.1, conf := r.2.1, flags := dfNetUsed, netModel := m }
        else w.gradeIt c { plain with netModel := m }

/-- The lines a candidate's crop network needs are swept, or will not be: none is asked for, or the sweep has passed the last of them. -/
def Work.netReady (w : Work) (c : Candidate) : Bool :=
  let n := w.frameOf c.last
  match w.modelAt (w.valueAtN (Obj.netModel c.field) n) n with
  | none => true
  | some b =>
    let last := ((w.windowLines c.field (c.first * 256 + c.feat 11).toNat (mdInH b)).foldl max 0).toNat
    match w.sweepAt with
    | none => true
    | some x => decide (last < x)

/-- CLASSIFY_BATCH_DONE: a unit ends its batch; every candidate of it is classified, graded and passed to the Ledger in batch order. `netRoom` is
the room in the network queue, of 16,384 entries. -/
def classifyBatchDone (id : Nat) (netRoom : Fin 16385) (w : Work) : Work :=
  match w.cls.batches.find? (fun b => b.id == id && b.unit.isSome) with
  | none => w
  | some b =>
    if !b.cands.all w.netReady then w
    else
      let w := { w with cls := { w.cls with batches := w.cls.batches.filter (fun x => x.id ≠ id) } }
      let r := b.cands.foldl (fun (acc : Work × Nat) c =>
        let w := acc.1.classify c (decide (0 < acc.2))
        (w, if w.getN Obj.netRun = acc.1.getN Obj.netRun then acc.2 else acc.2 - 1)) (w, netRoom.val)
      r.1
def execClassifyBatchDone (id : Nat) (netRoom : Fin 16385) : State → Host.Outcome State Fault Refusal := onWork (classifyBatchDone id netRoom)

end Sys2Proof.Machine
end

