-- ==== Sys2Proof/Machine/Ledger.lean ====
section
/-! DEFINITION. The Ledger and look-back crops (R274, R285 to R298, R555, R558): record layouts, numbering, crop requests and their cuts, staging and
delivery, frames done. -/
namespace Sys2Proof.Machine

/-! ### Record layouts (R286, R288, R289) -/

/-- A defect record of 128 bytes. -/
def DefRec.bytes (d : DefRec) (module seq : Nat) : Bytes :=
  leBytes 128 (packBits
    [(976, 10, module), (944, 32, d.dIntegral), (912, 32, d.vMean), (896, 16, d.expGen), (864, 32, d.corrGen), (832, 32, d.geomGen),
     (824, 8, d.userCode), (820, 4, d.netModel), (816, 4, d.featModel), (808, 8, d.sensor), (800, 8, d.cropRing), (768, 32, d.cropIndex),
     (736, 32, d.orientation), (704, 32, d.dMean), (672, 32, d.lengthUm), (640, 32, d.widthUm), (608, 32, d.dPeak), (576, 32, d.areaUm2),
     (512, 64, d.lineTime), (496, 16, d.flags), (464, 32, d.area), (438, 22, d.cdMax), (416, 22, d.cdMin), (400, 16, d.markMask),
     (352, 48, d.lastLine), (336, 16, d.part), (288, 48, d.firstLine), (256, 30, d.cd), (248, 8, d.rule), (192, 56, d.md),
     (128, 64, d.candId), (112, 16, d.featConf), (96, 16, d.conf), (88, 8, d.featClass), (80, 8, d.cls), (72, 8, d.grade), (64, 8, 1),
     (0, 64, seq)])

/-- A coverage record of 64 bytes. -/
def CovRec.bytes (c : CovRec) (module seq time : Nat) : Bytes :=
  let b := fun (x : Bool) => if x then 1 else 0
  leBytes 64 (packBits
    [(352, 10, module), (320, 32, c.detail), (256, 64, time), (240, 8, c.fieldMask), (214, 22, c.cdLast), (192, 22, c.cdFirst),
     (144, 48, c.lastLine), (96, 48, c.firstLine), (89, 1, b c.redelivered), (88, 1, b c.inspected), (80, 8, c.sensor), (72, 8, c.reason),
     (64, 8, 2), (0, 64, seq)])

/-- An event record of 64 bytes. -/
def EvtRec.bytes (e : EvtRec) (module seq time : Nat) : Bytes :=
  leBytes 64 (packBits
    [(448, 10, module), (384, 64, e.d2), (320, 64, e.d1), (256, 64, e.d0), (192, 64, time), (96, 48, e.frame),
     (80, 1, if e.redelivered then 1 else 0), (72, 8, e.event), (64, 8, 3), (0, 64, seq)])

/-- The type of a record given by its bytes. -/
def recType (b : Bytes) : Nat := leAt b 8 1

/-- A record with REDELIVERED set and every other bit unchanged (R300). -/
def redelivered (b : Bytes) : Bytes :=
  let bit := if recType b = 1 then 511 else if recType b = 2 then 89 else 80
  let n := leNat b
  leBytes b.length (if n.testBit bit then n else n + 2 ^ bit)

/-- The key by which a record is suppressed after a failover; none for events but FRAME_DONE (R300). -/
def recKey (b : Bytes) : Option (List Nat) :=
  let n := leNat b
  if recType b = 1 then some [1, bitsOf n 128 64, bitsOf n 336 16]
  else if recType b = 2 then some [2, bitsOf n 72 8, bitsOf n 240 8, bitsOf n 96 48, bitsOf n 192 22]
  else if bitsOf n 72 8 = 2 then some [3, bitsOf n 96 48]
  else none

/-! ### Numbering order (R294) -/

/-- The place of a record among those of one clock: kind, then candidate ID and part or FIRST_LINE. -/
def LRec.order : LRec → Nat × Nat × Nat
  | .cov c => (0, c.firstLine, 0)
  | .dfx d => (1, d.candId, d.part)
  | .evt _ => (2, 0, 0)

/-- Whether a comes before b. -/
def orderLt (a b : Nat × Nat × Nat) : Bool :=
  decide (a.1 < b.1) || (a.1 == b.1 && (decide (a.2.1 < b.2.1) || (a.2.1 == b.2.1 && decide (a.2.2 < b.2.2))))

/-- The record to number next of those that arrived in the earliest clock, with the others in their order. -/
def nextIncoming : List Incoming → Option (Incoming × List Incoming)
  | [] => none
  | x :: xs =>
    let same := (x :: xs).takeWhile (fun y => y.stamp == x.stamp)
    let best := same.foldl (fun (b : Incoming) y => if orderLt y.body.order b.body.order then y else b) x
    some (best, ((x :: xs).takeWhile (fun y => y ≠ best)) ++ (((x :: xs).dropWhile (fun y => y ≠ best)).drop 1))

/-! ### Crops (R290, R291) -/

/-- A dimension of a crop: grown to an extent plus 64 with CROP_FIT, held at 4,096 (R290). -/
def cropDim (fit : Bool) (dim extent : Nat) : Nat × Bool :=
  if fit && decide (dim < extent + 64) then
    let g := (extent + 64 + 15) / 16 * 16
    if 4096 < g then (4096, true) else (g, false)
  else (dim, false)

/-- The body bytes of a crop (R293). -/
def cropBody (width height depth : Nat) : Nat := width * height * depth / 8 + width * height / 8

/-- The crop of field f a record asks for, with its size. -/
def Work.cropOf (w : Work) (d : DefRec) (seq f : Nat) : CropReq :=
  let n := w.frameOf d.lastLine
  let fit := w.valueAt Obj.cropFit n == 1
  let wd := cropDim fit (w.valueAtN Obj.cropW n) (d.cdMax - d.cdMin + 1)
  let ht := cropDim fit (w.valueAtN Obj.cropH n) ((d.lastLine - d.firstLine) / w.fieldStep + 1)
  { seq := seq
    id := d.candId
    part := d.part
    field := f
    ring := d.ruleCropRing
    slot := 0
    line0 := ((w.windowLines f d.md ht.1).headD 0).toNat
    col0 := w.windowFirst d.cd wd.1
    width := wd.1
    height := ht.1
    depth := w.valueAtN Obj.cropDepth n
    clipped := wd.2 || ht.2 }

/-- Request one crop: it takes the next free slot of its ring, or is lost. The slot taken is answered. -/
def Work.requestCrop (w : Work) (c : CropReq) : Work × Option Nat :=
  let r := 13 + c.ring
  let g := w.ring r
  let sh := w.ringShape r
  let ahead := nth 0 w.cls.cropAhead c.ring
  let fits := g.enabled && decide (g.pi + ahead - g.ci < sh.2.1) && decide (w.cls.crops.length < 4096)
    && decide (64 + cropBody c.width c.height c.depth ≤ sh.2.2)
  if fits then
    let slot := (g.pi + ahead) % sh.2.1
    let w := { w with cls := { w.cls with
      crops := w.cls.crops ++ [{ c with slot := slot }]
      cropAhead := upd w.cls.cropAhead c.ring (· + 1) } }
    (w.set Obj.cropQueueUsed w.cls.crops.length, some slot)
  else ((w.bump Obj.cropsLost).flag Obj.ledgerFlags 2, none)

/-- The fields of the stitched structure. -/
def Work.structureFields (w : Work) : List Nat :=
  match w.activePorts with
  | [] => [0]
  | p :: _ => upTo (max 1 (w.fieldsOf p))

/-- Request every crop of a record (R285, R291). -/
def Work.requestCrops (w : Work) (d : DefRec) (seq : Nat) : Work × DefRec :=
  if d.crop = 0 then (w, d)
  else
    let fields := if d.crop = 1 then [d.field] else w.structureFields
    fields.foldl (fun (acc : Work × DefRec) f =>
      let r := acc.1.requestCrop (acc.1.cropOf acc.2 seq f)
      match r.2 with
      | none => (r.1, { acc.2 with flags := acc.2.flags ||| dfCropLost })
      | some slot =>
        if acc.2.cropRing = 0xFF then (r.1, { acc.2 with cropRing := d.ruleCropRing, cropIndex := slot }) else (r.1, acc.2)) (w, d)

/-! ### What numbering adds to a defect record (R274, R285, R558) -/

/-- The descriptor of a sensor's reference line for a web line: the greatest of the candidate's field not above it that is still held. -/
def Work.referenceLine (w : Work) (s f line : Nat) : Option LineDesc :=
  let g := w.fieldStep
  let at_ := ((upTo g).filter (fun i => decide (i ≤ line))).map (line - ·)
  match at_.find? (fun l => (w.lineFields l).contains f) with
  | some l => (w.ringLine s f l).map (fun q => q.desc)
  | none => none

/-- The time of the trigger of a web line, while it is on record. -/
def Work.triggerTime (w : Work) (line : Nat) : Option Nat := (w.axis.times.find? (fun e => e.1 == line)).map (fun e => e.2)

/-- A defect record completed at its numbering. -/
def Work.completeDefect (w : Work) (d : DefRec) (seq : Nat) : Work × DefRec :=
  let late := match w.axis.last with
    | some k => decide (w.numberBound d.lastLine < k)
    | none => false
  let w := if late then w.bump Obj.boundLate else w
  let y := d.md / 256
  let c : Int := ((d.cd / 256 : Nat) : Int) - w.groupBase
  let s := (w.mapEntry (w.frameOf d.lastLine) c).preferred
  let sn := (s.map (fun x => x.s)).getD 0xFF
  let port := sn / 8
  let gens := match s with
    | none => (0, 0)
    | some x => match w.referenceLine x.s d.field y with
      | some l => (l.gen, l.corrGen)
      | none => (w.getN (Obj.expGen port), w.getN (Obj.activeGen port))
  let d := { d with
    flags := d.flags ||| (if late then dfBound else 0)
    sensor := sn
    expGen := gens.1 % 65536
    corrGen := gens.2
    geomGen := w.getN Obj.geomGen
    lineTime := (w.triggerTime y).getD w.timeNs }
  let wm := (upTo 16).foldl (fun (acc : Work × Nat) k =>
    if bitOf d.wantMarks k then
      let r := acc.1.ledgerCompare k seq d.cdMin d.cdMax d.md
      (r.1, if r.2 then acc.2 + 2 ^ k else acc.2)
    else acc) (w, 0)
  let r := wm.1.requestCrops { d with markMask := wm.2 } seq
  r

/-! ### Staging (R297, R298, R433) -/

/-- The records of the staging buffer that wait for ring q. -/
def Work.backlog (w : Work) (q : Nat) : Nat := (w.ledger.staged.filter (fun s => s.rings.contains q)).length

/-- Show STAGED and LR_BACKLOG. -/
def Work.showStaged (w : Work) : Work :=
  (upTo 4).foldl (fun (w : Work) q => w.set (Obj.lrBacklog q) (Int.ofNat (min 16384 (w.backlog q)))) (w.set Obj.staged w.ledger.staged.length)

/-- The rings that take a coverage or event record: those whose LR_TYPES selects its kind (R297). -/
def Work.typeRings (w : Work) (bit : Nat) : List Nat := (upTo 4).filter (fun q => bitOf (w.getN (Obj.lrTypes q)) bit)

/-- Stage a record for its rings: a ring that is not enabled takes none, and a ring at its share drops it (R298). -/
def Work.stage (w : Work) (s : Staged) (forced : Bool) : Work :=
  let r := (s.rings.filter (fun q => w.get (Obj.lrEnable q) == 1)).foldl (fun (acc : Work × List Nat) q =>
    if decide (16384 ≤ acc.1.backlog q) && !forced then
      let w := (acc.1.bump (Obj.lrDropped q)).flag Obj.ledgerFlags 1
      let lose := fun (l : RingLoss) =>
        if l.count = 0 then { count := 1, first := s.first, last := s.last }
        else { count := l.count + 1, first := min l.first s.first, last := max l.last s.last }
      ({ w with ledger := { w.ledger with losses := upd w.ledger.losses q lose } }, acc.2)
    else (acc.1, acc.2 ++ [q])) (w, ([] : List Nat))
  let w := r.1
  let w := if r.2.isEmpty then w else { w with ledger := { w.ledger with staged := w.ledger.staged ++ [{ s with rings := r.2 }] } }
  w.showStaged

/-- Write a numbered record into the Ledger window, and raise LEDGER_BLOCK at each 256th number (R433). -/
def Work.windowPut (w : Work) (seq : Nat) (b : Bytes) : Work :=
  let w := { w with ledger := { w.ledger with window := alSet w.ledger.window (seq % 65536) (b ++ List.replicate (128 - b.length) 0) } }
  if seq % 256 = 0 then w.raise 6 else w

/-- Enter a numbered record: the window, then the rings, or the partner first on a paired primary (R299). -/
def Work.release (w : Work) (s : Staged) (forced : Bool) : Work :=
  let w := w.windowPut s.seq s.bytes
  if w.pairedPrimary then
    let r := w.ylSend w.partner 7 4 [s.seq] s.bytes
    { r.1 with ledger := { r.1.ledger with
      mirrored := r.1.ledger.mirrored ++ [s]
      unacked := r.1.ledger.unacked ++ [s.seq] } }
  else w.stage s forced

/-- Count a record in its frame (R295). -/
def countIn (xs : List (Nat × Nat)) (n : Nat) : List (Nat × Nat) := alSet xs n ((alGet xs n).getD 0 + 1)

/-- The key by which a record not yet numbered is suppressed, as `recKey` reads it from the bytes (R300). -/
def LRec.key : LRec → Option (List Nat)
  | .dfx d => some [1, d.candId, d.part]
  | .cov c => some [2, c.reason, c.fieldMask, c.firstLine, c.cdFirst]
  | .evt e => if e.event = 2 then some [3, e.frame] else none

/-- A record whose key is that of a mirrored one is not numbered again; its frame counts it (R295, R300). -/
def Work.suppressed (w : Work) (body : LRec) : Bool := match body.key with
  | some k => w.ledger.suppress.contains k
  | none => false
def Work.countOnly (w : Work) (body : LRec) : Work :=
  match body with
  | .dfx d => { w with ledger := { w.ledger with defects := countIn w.ledger.defects (w.frameOf d.lastLine) } }
  | .cov c => { w with ledger := { w.ledger with covers := countIn w.ledger.covers (w.frameOf c.lastLine) } }
  | .evt e => if e.event = 2 then w.set Obj.completeFrame e.frame else w

/-- Number a record with the next SEQ (R294). -/
def Work.number (w : Work) (body : LRec) (only : Option Nat) : Work :=
  let seq := w.getN Obj.ledgerHwm + 1
  let w := w.set Obj.ledgerHwm seq
  let m := w.ylAddress
  match body with
  | .dfx d =>
    let r := w.completeDefect d seq
    let w := r.1
    let n := w.frameOf d.lastLine
    let w := { w with ledger := { w.ledger with defects := countIn w.ledger.defects n } }
    w.release ⟨seq, r.2.bytes m seq, (upTo 4).filter (bitOf r.2.ringMask), d.firstLine, d.lastLine⟩ false
  | .cov c =>
    let n := w.frameOf c.lastLine
    let w := { w with ledger := { w.ledger with covers := countIn w.ledger.covers n } }
    let rings := match only with
      | some q => [q]
      | none => w.typeRings 0
    w.release ⟨seq, c.bytes m seq w.timeNs, rings, c.firstLine, c.lastLine⟩ only.isSome
  | .evt e =>
    let w := if e.event = 2 then w.set Obj.completeFrame e.frame else w
    w.release ⟨seq, e.bytes m seq w.timeNs, w.typeRings 1, e.frame * w.frameLen, e.frame * w.frameLen + w.frameLen - 1⟩ false

/-- LEDGER_NUMBER: the next record that has reached the Ledger is numbered, staged and handed to markers and crops; a module in SHADOW numbers none
of its own and keeps them (R294, R299). -/
def ledgerNumber (w : Work) : Work :=
  match nextIncoming w.ledger.incoming with
  | none => w
  | some (x, rest) =>
    let w := { w with ledger := { w.ledger with incoming := rest } }
    if w.mode == .shadow then { w with ledger := { w.ledger with held := w.ledger.held ++ [x.body] } }
    else if x.only.isNone && w.suppressed x.body then w.countOnly x.body
    else w.number x.body x.only
def execLedgerNumber : State → Host.Outcome State Fault Refusal := onWork ledgerNumber

/-! ### Delivery (R297, R298) -/

/-- LEDGER_DELIVER: the oldest staged record that waits for ring q goes to its next free slot. -/
def ledgerDeliver (q : Fin 4) (w : Work) : Work :=
  match w.ledger.staged.find? (fun s => s.rings.contains q.val) with
  | none => w
  | some s =>
    if w.mode == .shadow || !(w.ring q).enabled || w.ringFree q = 0 then w
    else
      let w := w.ringPut q (s.bytes ++ List.replicate (128 - s.bytes.length) 0)
      let rest := w.ledger.staged.filterMap (fun t =>
        if t.seq = s.seq then
          let rs := t.rings.filter (fun r => r ≠ q.val)
          if rs.isEmpty then none else some { t with rings := rs }
        else some t)
      ({ w with ledger := { w.ledger with staged := rest } }.set (Obj.lrDelivered q) s.seq).showStaged
def execLedgerDeliver (q : Fin 4) : State → Host.Outcome State Fault Refusal := onWork (ledgerDeliver q)

/-- RECORDS_LOST: when a ring that dropped records has a free slot again, one coverage record is numbered for that ring alone (R298). -/
def recordsLost (q : Fin 4) (w : Work) : Work :=
  let l := nth {} w.ledger.losses q
  let c : CovRec := { reason := 0x40, detail := l.count, firstLine := l.first, lastLine := l.last, cdFirst := w.groupBase,
                      cdLast := w.groupBase + max w.loom.width 1 - 1, fieldMask := 2 ^ w.structureFields.length - 1 }
  if l.count = 0 || !(w.ring q).enabled || w.ringFree q = 0 || w.mode == .shadow || !w.ledgerTakes (.cov c) then w
  else
    { w with ledger := { w.ledger with
      losses := upd w.ledger.losses q (fun _ => {})
      incoming := w.ledger.incoming ++ [⟨.cov c, some q.val, w.clk.ctl⟩] } }
def execRecordsLost (q : Fin 4) : State → Host.Outcome State Fault Refusal := onWork (recordsLost q)

/-! ### Frames done (R295) -/

/-- The first inspected frame after the last one done, up to a frame. -/
def Work.nextFrameDone (w : Work) (upto : Nat) : Option Nat :=
  let next := if w.ledger.done = noFrame then 0 else w.ledger.done + 1
  let starts := w.run.spans.map (fun s => max s.1 next)
  (starts.filter (fun n => w.inspected n && decide (n ≤ upto))).foldl (fun (b : Option Nat) n => match b with
    | none => some n
    | some m => some (min m n)) none

/-- Whether every record of frames up to n is numbered: none waits, no candidate is queued or in a unit, and DONE_MIN has passed frame n. -/
def Work.frameSettled (w : Work) (n : Nat) : Bool :=
  let mine := fun (c : Candidate) => decide (w.frameOf c.last ≤ n)
  w.ledger.incoming.isEmpty && !(w.cls.queue ++ w.cls.batches.flatMap (fun b => b.cands)).any mine
    && !w.seg.pieces.any (fun (p : Piece) => decide (w.frameOf p.lLast ≤ n))
    && decide ((n + 1) * w.frameLen ≤ w.getN Obj.doneMin + 1) && w.get Obj.doneMin ≠ noFrame

/-- FRAME_DONE: the next inspected frame is complete; with FRAME_DONE_EN its event record is numbered next. -/
def frameDone (w : Work) : Work :=
  match w.nextFrameDone w.frame with
  | none => w
  | some n =>
    let e : EvtRec := { event := 2, frame := n, d0 := (alGet w.ledger.defects n).getD 0, d1 := (alGet w.ledger.covers n).getD 0 }
    if !w.frameSettled n || !w.ledgerTakes (.evt e) then w
    else
      let w := { w with ledger := { w.ledger with
        done := n
        defects := w.ledger.defects.filter (fun x => decide (n < x.1))
        covers := w.ledger.covers.filter (fun x => decide (n < x.1)) } }
      if w.valueAt Obj.frameDoneEn n = 1 then w.event e else w
def execFrameDone : State → Host.Outcome State Fault Refusal := onWork frameDone

/-! ### Cutting a crop (R292, R293) -/

/-- A value at crop depth 8 or 16. -/
def cropValue (depth v : Nat) : Bytes := if depth = 8 then leBytes 1 (min ((v + 128) / 256) 255) else leBytes 2 v

/-- The bit string of some validities, least bit first, a bit for each. -/
def bitString (bs : List Bool) : Bytes := leBytes (ceilDiv bs.length 8) (bs.foldr (fun b acc => (if b then 1 else 0) + 2 * acc) 0)

/-- The web lines of a crop. -/
def Work.cropLines (w : Work) (c : CropReq) : List Nat := (upTo c.height).map (fun i => c.line0 + i * w.fieldStep)

/-- The slot of a crop: header and body, or the header alone where the crop is LOST. -/
def Work.cropBytes (w : Work) (c : CropReq) (lost : Bool) : Bytes :=
  let win : PassWindow := ⟨c.col0, c.width, 0xFFFF⟩
  let rows := if lost then [] else (w.cropLines c).map (fun l => (w.passLine c.field win l).cols)
  let cols := rows.flatten
  let body := (cols.map (fun x => cropValue c.depth x.v)).flatten ++ bitString (cols.map (fun x => x.valid))
  let b := fun (x : Bool) => if x then 1 else 0
  let edge := decide (c.col0 < 0) || decide ((w.loom.width : Int) < c.col0 + c.width)
  let body := if lost then [] else body
  leBytes 64 (packBits
    [(384, 16, c.part), (352, 32, (crc32 body).toNat), (320, 32, body.length), (256, 64, c.id), (192, 64, c.seq), (128, 48, c.line0),
     (96, 32, field 32 (c.col0 + w.groupBase)), (91, 1, b (cols.any (fun x => x.uncal))), (90, 1, b edge), (89, 1, b c.clipped),
     (88, 1, b lost), (80, 8, c.depth), (72, 8, w.fieldStep), (64, 8, c.field), (48, 16, c.height), (32, 16, c.width), (0, 32, 0x504F5243)])
  ++ body

/-- CROP_CUT_DONE: the crop at the head of the queue is cut once its lines are swept, or will not be; a line gone from the ring makes it LOST. -/
def cropCutDone (w : Work) : Work :=
  match w.cls.crops with
  | [] => w
  | c :: rest =>
    let win : PassWindow := ⟨c.col0, c.width, 0xFFFF⟩
    let lines := w.cropLines c
    let last := lines.foldl max 0
    let swept := match w.sweepAt with
      | some x => decide (last < x)
      | none => true
    if !swept then w
    else
      let lost := lines.any (fun l => w.lineLost c.field l win)
      let data := w.cropBytes c lost
      let r := 13 + c.ring
      let w := { w with cls := { w.cls with crops := rest, cropAhead := upd w.cls.cropAhead c.ring (· - 1) } }
      let w := w.set Obj.cropQueueUsed rest.length
      let w := if lost then (w.bump Obj.cropsLost).flag Obj.ledgerFlags 2 else w.bump Obj.cropsCut
      let w := if (w.ring r).enabled then w.ringPut r data else w
      w.set (Obj.crFree c.ring) (Int.ofNat (w.ringFree r))
def execCropCutDone : State → Host.Outcome State Fault Refusal := onWork cropCutDone

end Sys2Proof.Machine
end

