-- ==== Sys2Proof/Machine/Streams.lean ====
section
/-! DEFINITION. Output streams, profile monitors and stream compression (R312 to R346), and the sweep of a web line that feeds them. -/
namespace Sys2Proof.Machine

/-! ### Half-band stages and chains (R312 to R314) -/

/-- The nonzero taps of a stage by distance from the centre: kind 0 has 19 taps, kind 1 has 11 (R313). -/
def halfTaps (kind : Nat) : List (Int × Int) :=
  let two := fun (d h : Int) => [(d, h), (-d, h)]
  if kind = 0 then (0, 65536) :: (two 1 41183 ++ two 3 (-12583) ++ two 5 6029 ++ two 7 (-2792) ++ two 9 931)
  else (0, 65536) :: (two 1 39191 ++ two 3 (-7865) ++ two 5 1442)

/-- The centre tap c. -/
def halfCentre (kind : Nat) : Nat := if kind = 0 then 9 else 5

/-- The delay D_k of a chain. -/
def chainDelay (kind k : Nat) : Nat := halfCentre kind * (2 ^ k - 1)

/-- V_k, the outputs of the ramp (R314). -/
def rampOutputs (kind k : Nat) : Nat := nth 0 (if kind = 0 then [0, 9, 14, 16, 17, 18, 18] else [0, 5, 8, 9, 10, 10, 10]) k

/-- One output of a stage from its tapped inputs (R312, R318). -/
def halfOut (xs : List (Int × Samp)) : Samp :=
  let s := xs.foldl (fun (acc : Int) (x : Int × Samp) => acc + x.1 * Int.ofNat x.2.v) 0
  ⟨(clampInt 0 65535 ((s + 65536) / 131072)).toNat, xs.all (fun x => x.2.ok), xs.any (fun x => x.2.stale), xs.any (fun x => x.2.uncal)⟩

/-- The output of a CD chain of k stages centred on a column (R316). -/
def cdAt (cols : Array Samp) (kind : Nat) : Nat → Int → Samp
  | 0, c => if c < 0 then ⟨0, false, false, false⟩ else cols.getD c.toNat ⟨0, false, false, false⟩
  | k + 1, c => halfOut ((halfTaps kind).map (fun t => (t.2, cdAt cols kind k (c + t.1 * 2 ^ k))))

/-- The output n of an MD chain of k stages over inputs by number; inputs before the reset are 0 (R312, R317). -/
def mdAt (x : Int → Samp) (kind : Nat) : Nat → Int → Samp
  | 0, n => if n < 0 then ⟨0, true, false, false⟩ else x n
  | k + 1, n => if n < 0 then ⟨0, true, false, false⟩
    else halfOut ((halfTaps kind).map (fun t => (t.2, mdAt x kind k (2 * n - halfCentre kind - t.1))))

/-! ### Samples of a swept line (R318, R333) -/

/-- Change a stream or a monitor. -/
def Work.updStream (w : Work) (s : Nat) (f : StreamSt → StreamSt) : Work :=
  { w with streams := { w.streams with st := upd w.streams.st s f } }
def Work.updMon (w : Work) (m : Nat) (f : MonSt → MonSt) : Work :=
  { w with streams := { w.streams with mons := upd w.streams.mons m f } }
def Work.stream (w : Work) (s : Nat) : StreamSt := nth {} w.streams.st s
def Work.mon (w : Work) (m : Nat) : MonSt := nth {} w.streams.mons m

/-- A column that only sensors of one port cover. -/
def Work.onlyPort (w : Work) (p c : Nat) : Bool :=
  let past := w.loom.sensors.filter (fun x => decide (x.c0 ≤ c) && decide (c ≤ x.c1))
  !past.isEmpty && past.all (fun x => x.s / 8 == p)

/-- At the first line of a frame the columns of a port that leaves for calibration are held at their last values, and those of one that is back
are released (R333). -/
def Work.holdColumns (w : Work) (n : Nat) : Work :=
  let out := fun (p : Nat) => w.loom.excl.any (fun e => e.port == p && e.reason == 7 && decide (e.first ≤ n) && (match e.stop with
    | some m => decide (n < m)
    | none => true))
  let fresh := (w.loom.excl.filter (fun e => e.reason == 7 && e.first == n)).flatMap (fun e =>
    w.streams.lastLine.flatMap (fun l => (l.2.zipIdx.filter (fun x => w.onlyPort e.port x.2)).map (fun x => (e.port, l.1, x.2, x.1))))
  { w with streams := { w.streams with held := w.streams.held.filter (fun h => out h.1) ++ fresh } }

/-- The samples of a stitched line, with held columns at their held values. -/
def Work.lineSamples (w : Work) (f : Nat) (cs : List Cand) : List Samp :=
  let held := w.streams.held.filter (fun h => h.2.1 == f)
  cs.zipIdx.map (fun e => match held.find? (fun h => h.2.2.1 == e.2) with
    | some h => { h.2.2.2 with stale := true }
    | none => ⟨e.1.v, e.1.valid, false, e.1.uncal⟩)

/-! ### Synchronising resets (R319) -/

/-- A module entry to inspection from any mode but INSPECT, DEGRADED and SHADOW begins frame n. -/
def Work.entryFrame (w : Work) (n : Nat) : Bool := w.run.spans.any (fun s => s.1 == n)

/-- Whether any of some settings differs between frame n and the one before. -/
def Work.changedAt (w : Work) (n : Nat) (keys : List Nat) : Bool :=
  keys.any (fun k => n != 0 && w.valueAt k n != w.valueAt k (n - 1))

/-- A stream's reset is due at frame n: enabled then with changed settings, an entry to inspection, or SYNC. -/
def Work.streamSyncDue (w : Work) (s n : Nat) : Bool :=
  w.valueAt (Obj.streamEnable s) n == 1 && (w.entryFrame n || (w.stream s).syncAt.contains n ||
    w.changedAt n [Obj.streamEnable s, Obj.stField s, Obj.cdFirst s, Obj.cdLast s, Obj.stagesCd s, Obj.kindCd s, Obj.stagesMd s, Obj.kindMd s])

/-- The first line of frame n that carries a field. -/
def Work.firstFieldLine (w : Work) (f n : Nat) : Nat :=
  (((upTo (max 1 w.fieldStep)).map (n * w.frameLen + ·)).find? (fun l => (w.lineFields l).contains f)).getD (n * w.frameLen)

/-- Reset a stream's chain at frame n, once. -/
def Work.syncStream (w : Work) (s n : Nat) : Work :=
  if !w.streamSyncDue s n || w.get (Obj.syncFrame s) = ↑n then w
  else
    let l0 := w.firstFieldLine (w.valueAtN (Obj.stField s) n) n
    (w.updStream s (fun x => { x with
      inputs := []
      count := 0
      l0 := l0
      syncAt := x.syncAt.filter (fun m => decide (n < m)) })).set (Obj.syncFrame s) n

/-- A monitor's reset is due at frame n. -/
def Work.monSyncDue (w : Work) (m n : Nat) : Bool :=
  w.valueAt (Obj.monEnable m) n == 1 && (w.entryFrame n || (w.mon m).syncAt.contains n ||
    w.changedAt n [Obj.monEnable m, Obj.monField m, Obj.colFirst m, Obj.colLast m, Obj.stages m, Obj.kind m])

/-- Reset a monitor's chain at frame n, once; both states are cleared without an event (R329). -/
def Work.syncMon (w : Work) (m n : Nat) : Work :=
  if !w.monSyncDue m n || (w.mon m).syncFrame = n then w
  else
    let l0 := w.firstFieldLine (w.valueAtN (Obj.monField m) n) n
    (w.updMon m (fun x => { x with
      inputs := []
      count := 0
      l0 := l0
      syncAt := x.syncAt.filter (fun k => decide (n < k))
      syncFrame := n })).unflag (Obj.monState m) 3

/-- Every reset due at frame n. -/
def Work.syncAll (w : Work) (n : Nat) : Work :=
  let w := (upTo 8).foldl (fun w s => w.syncStream s n) w
  (upTo 64).foldl (fun w m => w.syncMon m n) w

/-- SYNC_RESET: at the start of a frame, before its first line is swept, the chains whose reset is due take it. -/
def syncReset (w : Work) : Work :=
  match w.sweepAt with
  | none => w
  | some l => if l % w.frameLen = 0 then w.syncAll (w.frameOf l) else w
def execSyncReset : State → Host.Outcome State Fault Refusal := onWork syncReset

/-- Mark a SYNC written, or its task input fired, in the present frame. -/
def Work.streamSync (w : Work) (s : Nat) : Work := w.updStream s (fun x => { x with syncAt := (w.frame + 1) :: x.syncAt })
def Work.monSync (w : Work) (m : Nat) : Work := w.updMon m (fun x => { x with syncAt := (w.frame + 1) :: x.syncAt })

/-- STREAM_SYNC_CMD. -/
def streamSyncCmd (p : Path) (s : Fin 8) (w : Work) : Work := w.command p (Obj.stSync s) 1 always (fun w => w.streamSync s)
def execStreamSyncCmd (p : Path) (s : Fin 8) : State → Host.Outcome State Fault Refusal := onWork (streamSyncCmd p s)

/-- MON_SYNC_CMD. -/
def monSyncCmd (p : Path) (m : Fin 64) (w : Work) : Work := w.command p (Obj.monSync m) 1 always (fun w => w.monSync m)
def execMonSyncCmd (p : Path) (m : Fin 64) : State → Host.Outcome State Fault Refusal := onWork (monSyncCmd p m)

/-! ### Stream lines and records (R317, R320, R321) -/

/-- A bit string of values at a depth, padded with zeros to a multiple of 8 bytes (R320). -/
def depthBytes (depth : Nat) (vs : List Nat) : Bytes :=
  leBytes (ceilDiv (vs.length * depth) 64 * 8) (vs.foldr (fun v acc => packValue depth v + 2 ^ depth * acc) 0)

/-- A packed stream line (R320). -/
def lineBytesOf (depth : Nat) (maps held ramp : Bool) (web : Nat) (xs : List Samp) : Bytes :=
  let b := fun (x : Bool) => if x then 1 else 0
  let good := (xs.filter (fun x => x.ok)).length
  depthBytes depth (xs.map (fun x => x.v)) ++
  (if maps then bitBytes (xs.map (fun x => x.ok)) ++ bitBytes (xs.map (fun x => x.stale)) else []) ++
  leBytes 16 (packBits [(80, 48, web), (60, 20, good), (4, 1, b held), (3, 1, b (xs.any (fun x => x.uncal))), (2, 1, b (xs.any (fun x => x.stale))),
    (1, 1, b ramp), (0, 1, b (good == xs.length))])

/-- The flags a line adds to its record. -/
def lineFlags (held : Bool) (xs : List Samp) : Nat :=
  (if held then 64 else 0) + (if xs.any (fun x => x.uncal) then 32 else 0) + (if xs.any (fun x => x.stale) then 16 else 0)
    + (if xs.all (fun x => x.ok) then 0 else 8)

/-- The samples per line of a stream in frame n. -/
def Work.outWidth (w : Work) (s n : Nat) : Nat :=
  (w.valueAtN (Obj.cdLast s) n + 1 - w.valueAtN (Obj.cdFirst s) n) / 2 ^ w.valueAtN (Obj.stagesCd s) n

/-- A closed record joins the compression queue, or leaves uncompressed where that is full (R341, R342); in SHADOW none is delivered (R334). -/
def Work.closeRecord (w : Work) (s : Nat) (r : OpenRec) (frameEnd : Bool) : Work :=
  let n := r.frame
  let v := fun (k : Nat) => w.valueAtN k n
  let seq := (w.getN (Obj.streamSeq s) + 1) % 2 ^ 32
  let raw := r.lines.flatten
  let flags := r.flags + (if frameEnd then 128 else 0) + (if v (Obj.maps s) = 1 then 2 else 0)
  let head := packBits
    [(448, 64, w.timeNs), (400, 48, r.first), (352, 48, n), (320, 32, seq), (224, 32, raw.length), (192, 32, (crc32 raw).toNat),
     (176, 10, w.ylAddress), (148, 22, w.groupBase + v (Obj.cdFirst s)), (128, 20, w.outWidth s n),
     (112, 16, w.fieldStep * 2 ^ v (Obj.stagesMd s)), (96, 16, r.lines.length), (80, 16, flags), (79, 1, v (Obj.kindMd s)),
     (76, 3, v (Obj.stagesMd s)), (75, 1, v (Obj.kindCd s)), (72, 3, v (Obj.stagesCd s)), (64, 8, v (Obj.stDepth s)),
     (56, 8, v (Obj.stField s)), (48, 8, s), (32, 16, 1), (0, 32, 0x4D525453)]
  let w := (w.set (Obj.streamSeq s) seq).updStream s (fun x => { x with cur := none })
  let c : ClosedRec := ⟨s, n, seq, head, raw, v (Obj.compress s) == 1⟩
  if w.mode == .shadow || decide (n < (w.stream s).deliverFrom) then w
  else if c.compress && decide (w.streams.queue.length < 32) then
    ({ w with streams := { w.streams with queue := w.streams.queue ++ [c] } }).set Obj.compQueueUsed (Int.ofNat (w.streams.queue.length + 1))
  else
    let w := if c.compress then w.bump Obj.compBypassed else w
    w.updStream s (fun x => { x with ready := x.ready ++ [{ c with compress := false }] })

/-- A stream line joins its record; the record closes at BLOCK_LINES lines or at the last line its frame can form. -/
def Work.addLine (w : Work) (s n : Nat) (newest web : Nat) (b : Bytes) (flags : Nat) (step : Nat) : Work :=
  let x := w.stream s
  let r := match x.cur with
    | some r => if r.frame = n then { r with lines := r.lines ++ [b], flags := r.flags ||| flags } else ⟨n, [b], web, flags⟩
    | none => ⟨n, [b], web, flags⟩
  let last := decide (w.frameOf (newest + step) ≠ n)
  let w := (w.updStream s (fun x => { x with cur := some r })).set (Obj.lastLine s) web
  if last || decide (w.valueAtN (Obj.blockLines s) n ≤ r.lines.length) then w.closeRecord s r last else w

/-- A swept line of its field enters stream s (R315 to R318). -/
def Work.streamLine (w : Work) (s line : Nat) (samples : List Samp) : Work :=
  let n := w.frameOf line
  let v := fun (k : Nat) => w.valueAtN k n
  let kc := v (Obj.stagesCd s)
  let k := v (Obj.stagesMd s)
  let kind := v (Obj.kindMd s)
  let cols := samples.toArray
  let input := (upTo (w.outWidth s n)).map (fun j => cdAt cols (v (Obj.kindCd s)) kc ((v (Obj.cdFirst s) + 2 ^ kc * j : Nat) : Int))
  let w := w.updStream s (fun x => { x with inputs := (input :: x.inputs).take (2 * chainDelay kind k + 1), count := x.count + 1 })
  let x := w.stream s
  let m := x.count - 1
  if m % 2 ^ k ≠ 0 then w
  else
    let i := m / 2 ^ k
    let ramp := decide (i < rampOutputs kind k)
    let rows := (x.inputs.map (fun r => r.toArray)).toArray
    let zero : Samp := ⟨0, true, false, false⟩
    let at_ := fun (j : Nat) (q : Int) => (rows.getD (m - q.toNat) #[]).getD j zero
    let out := (upTo input.length).map (fun j =>
      let y := mdAt (at_ j) kind k i
      { y with ok := y.ok && !ramp })
    let centre : Int := x.l0 + w.fieldStep * ((2 ^ k * i : Nat) - (chainDelay kind k : Int))
    let web := centre.toNat
    let b := lineBytesOf (v (Obj.stDepth s)) (v (Obj.maps s) == 1) false ramp web out
    let w := w.set (Obj.streamState s) (if w.mode == .shadow then 4 else if ramp then 1 else 2)
    let w := w.updStream s (fun x => { x with last := some (out, web) })
    w.addLine s n line web b (lineFlags false out + (if i = 0 then 4 else 0)) (w.fieldStep * 2 ^ k)

/-! ### Held records (R332) -/

/-- The triggers of a CAL mode: at trigger k each enabled stream forms the record its frame would close with line k, every line repeating the last. -/
def Work.heldRecords (w : Work) (k : Nat) : Work :=
  let n := w.frameOf k
  (upTo 8).foldl (fun (w : Work) s =>
    let x := w.stream s
    match x.last with
    | none => w
    | some l =>
      let f := w.valueAtN (Obj.stField s) n
      let step := w.fieldStep * 2 ^ w.valueAtN (Obj.stagesMd s) n
      if w.valueAt (Obj.streamEnable s) n ≠ 1 || !(w.lineFields k).contains f || k < x.l0 || (k - x.l0) % step ≠ 0 then w
      else
        let xs := l.1.map (fun y => { y with stale := true })
        let b := lineBytesOf (w.valueAtN (Obj.stDepth s) n) (w.valueAt (Obj.maps s) n == 1) true false l.2 xs
        (w.addLine s n k l.2 b (lineFlags true xs) step).set (Obj.streamState s) 3) w

/-- A CAL mode begins: each enabled monitor keeps its output with STALE set (R332). -/
def Work.monitorsHeld (w : Work) : Work :=
  (upTo 64).foldl (fun w m => if w.valueAt (Obj.monEnable m) w.frame = 1 then w.flag (Obj.monState m) 8 else w) w

/-! ### Delivery (R322, R323, R493, R494) -/

/-- A record dropped whole. -/
def Work.dropRecord (w : Work) (s bit : Nat) : Work :=
  ((w.bump (Obj.streamDropped s)).flag (Obj.streamFlags s) bit).updStream s (fun x => { x with lost := x.lost + 1 })

/-- The bytes of a record as delivered. -/
def ClosedRec.bytes (c : ClosedRec) (lost : Nat) (body : Bytes) (compressed : Bool) : Bytes :=
  leBytes 64 (c.head + packBits [(288, 32, lost), (256, 32, body.length), (80, 1, if compressed then 1 else 0)]) ++ body

/-- The fragments of a record: each of at most MTU − 52 bytes behind its header (R493). -/
def Work.fragments (w : Work) (c : ClosedRec) (mtu : Nat) (bs : Bytes) : List Bytes :=
  let size := mtu - 52
  let count := ceilDiv bs.length size
  (upTo count).map (fun i =>
    let part := slice bs (i * size) size
    leBytes 24 (packBits [(160, 32, bs.length), (128, 32, i * size), (112, 16, count), (96, 16, i), (64, 32, c.seq), (54, 10, w.ylAddress),
      (51, 3, c.stream), (32, 16, part.length), (0, 32, 0x47524655)]) ++ part)

/-- Deliver a record by the destination in force for its frame: ring, UDP or none. -/
def Work.deliverRecord (w : Work) (c : ClosedRec) (body : Bytes) (compressed udpRoom : Bool) : Work :=
  let s := c.stream
  let bs := c.bytes (w.stream s).lost body compressed
  let sent := fun (w : Work) => w.updStream s (fun x => { x with lost := 0 })
  match w.valueAtN (Obj.dest s) c.frame with
  | 1 =>
    let r := 5 + s
    if w.getN (Obj.srSlotSize s) < bs.length then w.dropRecord s 2
    else if !(w.ring r).enabled || w.ringFree r = 0 then w.dropRecord s 1
    else sent (w.ringPut r bs)
  | 2 =>
    let e := w.valueAtN (Obj.udpDest s) c.frame
    if !udpRoom || w.get (Obj.ethLink (w.valueAtN (Obj.udPort e) c.frame)) ≠ 2 then w.dropRecord s 1
    else sent ((w.fragments c (w.valueAtN (Obj.udMtu e) c.frame) bs).foldl (fun w d => w.send (.udp s e d)) w)
  | _ => w

/-- STREAM_RECORD_HANDOFF: the oldest closed record of a stream leaves; `udpRoom` says whether its UDP queue of 2 records has room. -/
def streamRecordHandoff (s : Fin 8) (udpRoom : Bool) (w : Work) : Work :=
  match (w.stream s).ready with
  | [] => w
  | c :: rest => (w.updStream s (fun x => { x with ready := rest })).deliverRecord c c.raw false udpRoom
def execStreamRecordHandoff (s : Fin 8) (udpRoom : Bool) : State → Host.Outcome State Fault Refusal := onWork (streamRecordHandoff s udpRoom)

/-! ### Monitors (R326 to R330) -/

/-- The column mean of a monitor on a line: none where no column is valid (R326). -/
def monMean (xs : List Samp) : Option Nat :=
  let good := xs.filter (fun x => x.ok)
  let n := good.length
  if n = 0 then none else some ((sumNat (good.map (fun x => x.v)) + n / 2) / n)

/-- Compare an output of monitor m with its thresholds in frame n (R328 to R330). -/
def Work.monCompare (w : Work) (m n : Nat) (y : Samp) : Work :=
  let st := w.getN (Obj.monState m)
  let e := w.valueAtN (Obj.edges m) n
  let v := fun (k : Nat) => w.valueAtN k n
  let high := bitOf st 0
  let low := bitOf st 1
  let high' := bitOf e 0 && (if high then decide (v (Obj.highOff m) < y.v) else decide (v (Obj.highOn m) ≤ y.v))
  let low' := bitOf e 1 && (if low then decide (y.v < v (Obj.lowOff m)) else decide (y.v ≤ v (Obj.lowOn m)))
  let keepHigh := high && bitOf e 0
  let keepLow := low && bitOf e 1
  let b := fun (x : Bool) (k : Nat) => if x then k else 0
  if !y.ok || y.stale then
    let w := if high' != keepHigh || low' != keepLow then w.bump (Obj.suppressed m) else w
    w.set (Obj.monState m) (Int.ofNat (b keepHigh 1 + b keepLow 2 + b y.ok 4 + b y.stale 8))
  else
    let enter := fun (w : Work) (now was : Bool) (flag counter source : Nat) =>
      if now && !was then
        let w := (w.flag (Obj.monFlags m) flag).bump counter
        if w.mode == .shadow then w else w.raise source
      else w
    let w := enter w high' high 1 (Obj.highEvents m) (152 + m)
    let w := enter w low' low 2 (Obj.lowEvents m) (216 + m)
    w.set (Obj.monState m) (Int.ofNat (b high' 1 + b low' 2 + 4))

/-- A swept line of its field enters monitor m (R326, R327). -/
def Work.monLine (w : Work) (m line : Nat) (samples : List Samp) : Work :=
  let n := w.frameOf line
  let v := fun (k : Nat) => w.valueAtN k n
  let xs := (samples.drop (v (Obj.colFirst m))).take (v (Obj.colLast m) + 1 - v (Obj.colFirst m))
  let x := w.mon m
  let before := match x.inputs with
    | y :: _ => y.v
    | [] => 0
  let stale := xs.any (fun y => y.stale)
  let input : Samp := match monMean xs with
    | some a => ⟨a, true, stale, false⟩
    | none => ⟨before, false, stale, false⟩
  let k := v (Obj.stages m)
  let kind := v (Obj.kind m)
  let w := w.updMon m (fun x => { x with inputs := (input :: x.inputs).take (2 * chainDelay kind k + 1), count := x.count + 1 })
  let x := w.mon m
  let q := x.count - 1
  if q % 2 ^ k ≠ 0 then w
  else
    let i := q / 2 ^ k
    let rows := x.inputs.toArray
    let y := mdAt (fun (z : Int) => rows.getD (q - z.toNat) ⟨0, true, false, false⟩) kind k i
    let y := { y with ok := y.ok && decide (rampOutputs kind k ≤ i) }
    let centre : Int := x.l0 + w.fieldStep * ((2 ^ k * i : Nat) - (chainDelay kind k : Int))
    ((w.set (Obj.monValue m) y.v).set (Obj.monLine m) centre.toNat).monCompare m n y

/-- EDGES in force at a frame: a disabled state is left at once, without an event (R330). -/
def Work.monBoundary (w : Work) : Work :=
  (upTo 64).foldl (fun w m =>
    let e := w.valueAtN (Obj.edges m) w.frame
    if w.getN (Obj.monState m) &&& 3 &&& (3 - e % 4) = 0 then w else w.unflag (Obj.monState m) (3 - e % 4)) w

/-! ### The sweep (R232) -/

/-- A stitched line passes every stream and monitor of its fields (R315, R326, R332). -/
def Work.streamsTake (w : Work) (st : Stitched) : Work :=
  let n := w.frameOf st.1
  let w := if st.1 % w.frameLen = 0 then w.holdColumns n else w
  let w := w.syncAll n
  st.2.foldl (fun (w : Work) e =>
    let xs := w.lineSamples e.1 e.2
    let w := (upTo 8).foldl (fun (w : Work) s =>
      if w.valueAt (Obj.streamEnable s) n = 1 && w.valueAtN (Obj.stField s) n = e.1 then w.streamLine s st.1 xs else w) w
    let w := (upTo 64).foldl (fun (w : Work) m =>
      if w.valueAt (Obj.monEnable m) n = 1 && w.valueAtN (Obj.monField m) n = e.1 then w.monLine m st.1 xs else w) w
    { w with streams := { w.streams with lastLine := alSet w.streams.lastLine e.1 xs } }) w

/-- SWEEP_LINE: the next web line that is complete is stitched, its coverage runs kept, its profile sums taken, and passed to streams and
monitors; `corrected` and `bad` are the column-map errors met (R232, R239, R244). -/
def sweepLine (corrected : Nat) (bad : List Nat) (w : Work) : Work :=
  match w.sweepNext corrected bad with
  | none => w
  | some (w, st) =>
    let read := w.loom.sensors.filterMap (fun x => w.hbm.rows.find? (fun r => r.k == w.rowOf x.s st.1))
    let w := (w.hbmUse (read.flatMap w.rowPcs).eraseDups).profileLine st
    w.streamsTake st
def execSweepLine (corrected : Nat) (bad : List Nat) : State → Host.Outcome State Fault Refusal := onWork (sweepLine corrected bad)

/-! ### Engines (R341 to R346) -/

/-- Change an engine and show its state. -/
def Work.updEngine (w : Work) (e : Nat) (f : Engine → Engine) : Work :=
  let w := { w with streams := { w.streams with engines := upd w.streams.engines e f } }
  let g := nth ({} : Engine) w.streams.engines e
  let w := w.set (Obj.engineState e) (if g.held.isNone then 0 else if g.stalled then 2 else 1)
  let w := w.set (Obj.engineStream e) (match g.held with
    | some c => Int.ofNat c.stream
    | none => 0xFF)
  w.set Obj.enginesBusy (Int.ofNat (packBits (w.streams.engines.zipIdx.map (fun x => (x.2, 1, if x.1.held.isSome then 1 else 0)))))

/-- The ring slots that engines hold for a stream. -/
def Work.slotsHeld (w : Work) (s : Nat) : Nat :=
  (w.streams.engines.filter (fun g => match g.held with
    | some c => c.stream == s && w.valueAtN (Obj.dest s) c.frame == 1
    | none => false)).length

/-- COMP_ENGINE_TAKE: the lowest idle engine takes the head of the queue; a record for a ring without a free slot is dropped. `stalls` says
whether the engine's output buffer fills. While throttling holds no engine takes a record (R526). -/
def compEngineTake (stalls : Bool) (w : Work) : Work :=
  match w.streams.queue with
  | [] => w
  | c :: rest =>
    match (upTo 4).find? (fun e => (nth ({} : Engine) w.streams.engines e).held.isNone) with
    | none => w
    | some e =>
      if w.throttledAt w.frame then w
      else
        let w := ({ w with streams := { w.streams with queue := rest } }).set Obj.compQueueUsed rest.length
        let ring := w.valueAtN (Obj.dest c.stream) c.frame == 1
        if ring && (!(w.ring (5 + c.stream)).enabled || decide (w.ringFree (5 + c.stream) ≤ w.slotsHeld c.stream)) then w.dropRecord c.stream 1
        else w.updEngine e (fun _ => ⟨some c, stalls⟩)
def execCompEngineTake (stalls : Bool) : State → Host.Outcome State Fault Refusal := onWork (compEngineTake stalls)

/-- COMP_STALL_END: the output buffer has room again after `clocks` stalled fabric clocks; `again` says whether it fills once more. -/
def compStallEnd (e : Fin 4) (clocks : Nat) (again : Bool) (w : Work) : Work :=
  let g := nth ({} : Engine) w.streams.engines e
  if g.held.isNone || !g.stalled then w
  else (w.bump (Obj.engStallClocks e) clocks).updEngine e (fun g => { g with stalled := again })
def execCompStallEnd (e : Fin 4) (clocks : Nat) (again : Bool) : State → Host.Outcome State Fault Refusal := onWork (compStallEnd e clocks again)

/-- Abort an engine's member; a record lost by a command or its size counts as dropped (R346). -/
def Work.abortEngine (w : Work) (e bit : Nat) : Work :=
  match (nth ({} : Engine) w.streams.engines e).held with
  | none => w
  | some c =>
    let w := (w.updEngine e (fun _ => ({} : Engine))).bump (Obj.aborts e)
    if bit = 0 then w else w.dropRecord c.stream bit

/-- COMP_MEMBER_DONE: the member is complete and published; one that would outgrow its slot is aborted instead. -/
def compMemberDone (e : Fin 4) (udpRoom : Bool) (w : Work) : Work :=
  let g := nth ({} : Engine) w.streams.engines e
  match g.held with
  | none => w
  | some c =>
    if g.stalled then w
    else
      let r := gzipMember c.raw
      if w.valueAtN (Obj.dest c.stream) c.frame = 1 && w.getN (Obj.srSlotSize c.stream) < 64 + r.1.length then w.abortEngine e 2
      else
        let w := w.updEngine e (fun _ => ({} : Engine))
        let w := ((w.bump Obj.compInBytes c.raw.length).bump Obj.compOutBytes r.1.length).bump (Obj.blocksDynamic e) r.2.1
        (w.bump (Obj.blocksStored e) r.2.2).deliverRecord c r.1 true udpRoom
def execCompMemberDone (e : Fin 4) (udpRoom : Bool) : State → Host.Outcome State Fault Refusal := onWork (compMemberDone e udpRoom)

/-- ENGINE_ABORT: ENGINE_CMD 1; an idle engine does nothing. -/
def engineAbort (p : Path) (e : Fin 4) (w : Work) : Work := w.command p (Obj.engineCmd e) 1 always (fun w => w.abortEngine e 1)
def execEngineAbort (p : Path) (e : Fin 4) : State → Host.Outcome State Fault Refusal := onWork (engineAbort p e)

/-- SAFE or a reset: every member is aborted and nothing waits any more (R66, R346). -/
def Work.streamsStop (w : Work) : Work :=
  let w := (upTo 4).foldl (fun w e => w.abortEngine e 0) w
  let w := { w with streams := { w.streams with
    queue := []
    st := w.streams.st.map (fun (x : StreamSt) => { x with cur := none, ready := [] }) } }
  (upTo 8).foldl (fun w s => w.set (Obj.streamState s) 0) (w.set Obj.compQueueUsed 0)

/-! ### The checks of a write (R315, R324, R326, R328) -/

/-- The load of the enabled streams in samples per second, by the values most recently accepted (R324). -/
def Work.streamRate (w : Work) : Nat :=
  sumNat ((upTo 8).map (fun s =>
    if w.get (Obj.streamEnable s) ≠ 1 then 0
    else
      let width := (w.getN (Obj.cdLast s) + 1 - w.getN (Obj.cdFirst s)) / 2 ^ w.getN (Obj.stagesCd s)
      width * (w.confN Obj.maxLineRate / w.fieldStep) / 2 ^ w.getN (Obj.stagesMd s)))

/-- A stream's window holds: a width that is a multiple of 2^STAGES_CD, inside the plane where one is in force, and the load within its limit. -/
def Work.streamFits (w : Work) (s : Nat) : Bool :=
  let a := w.getN (Obj.cdFirst s)
  let b := w.getN (Obj.cdLast s)
  w.get (Obj.streamEnable s) ≠ 1 ||
    (decide (a ≤ b) && (b + 1 - a) % 2 ^ w.getN (Obj.stagesCd s) == 0 && (w.loom.width == 0 || decide (b < w.loom.width))
      && decide (w.streamRate ≤ 16000000000))

/-- A monitor's range and thresholds hold. -/
def Work.monFits (w : Work) (m : Nat) : Bool :=
  let a := w.getN (Obj.colFirst m)
  let b := w.getN (Obj.colLast m)
  (w.get (Obj.monEnable m) ≠ 1 || (decide (a ≤ b) && decide (b ≤ a + 65535) && (w.loom.width == 0 || decide (b < w.loom.width)))) &&
    decide (w.getN (Obj.lowOn m) < w.getN (Obj.lowOff m)) && decide (w.getN (Obj.lowOff m) ≤ w.getN (Obj.highOff m)) &&
    decide (w.getN (Obj.highOff m) < w.getN (Obj.highOn m))

/-- STREAM_LOAD in Msample/s (R324). -/
def Work.showStreamLoad (w : Work) : Work := w.set Obj.streamLoad (Int.ofNat (w.streamRate / 1000000))

end Sys2Proof.Machine
end

