-- ==== Sys2Proof/Machine/SafeEntry.lean ====
section
/-! DEFINITION. The entry to SAFE (R66, R67, R74, R117, R354, R369, R408, R443), which events of many chapters cause. -/
namespace Sys2Proof.Machine

/-- The memory controller parks both stacks: accesses end, self-refresh with the clocks stopped (R408). -/
def Work.hbmPark (w : Work) : Work :=
  let w := { w with hbm := { w.hbm with retraining := none, cmdWait := [] } }
  (upTo 2).foldl (fun w s =>
    let pcs := (upTo 32).map (32 * s + ·)
    let awake := pcs.any (fun n => w.get (Obj.pcState n) ≠ 2 && w.get (Obj.pcState n) ≠ 4)
    let w := if awake then w.bump Obj.srEntries else w
    pcs.foldl (fun w n => if w.get (Obj.pcState n) = 4 then w else w.set (Obj.pcState n) 2) w) w

/-- Every axis stops at once and is disabled (R66, R369). -/
def Work.axesOff (w : Work) : Work := (upTo 16).foldl (fun w a => w.disableAxis a 0) w

/-- Open components, jobs, candidates, batches and crops are gone. -/
def Work.pipeDrop (w : Work) : Work :=
  let w := { w with
    seg := { nextFrame := w.seg.nextFrame, nextId := w.seg.nextId }
    cls := { w.cls with queue := [], batches := [], crops := [], cropAhead := List.replicate 4 0 } }
  (w.showSeg.showCands).stopTimer .sysMerge

/-- Nothing of a command waits any more: START, STOP, a commit, a load or a calibration. -/
def Work.dropCommands (w : Work) : Work :=
  { w with run := { w.run with startAt := none, stopAt := none, waiting := none, returnAt := none, draining := false } }

/-- Event outputs are inactive (R452). -/
def Work.evtOutsOff (w : Work) : Work :=
  let w := w.router.pulses.foldl (fun w i => w.stopTimer (.evtPulse i)) w
  { w with router := { w.router with pulses := [] } }

/-- A secondary that enters SAFE or is reset leaves the pair and tells the primary where it can (R481). -/
def Work.secondaryLeaves (w : Work) : Work :=
  let st := w.get Obj.pairState
  if st = 1 || st = 2 || st = 4 then
    let w := (w.ylSend w.partner 7 8 [] []).1
    { (w.set Obj.pairState 0).set Obj.lastMirrorSeq 0 with sys := { w.sys with pair := { hbIn := w.sys.pair.hbIn } } }
  else w

/-- A SAFE cause (R70 cause 17): it overrides what is pending, ends inspection and the work of a STOP at once, and parks the module. -/
def Work.enterSafe (w : Work) (cause : Nat) : Work :=
  if !w.mode.dictOpen || w.mode == .safe then w
  else
    let pend := w.run.startAt.isSome || w.run.stopAt.isSome || w.run.waiting.isSome
    let w := w.set Obj.safeCause cause
    let w := if pend then w.set Obj.cmdResult 4 else w
    let w := w.secondaryLeaves
    let w := ((w.abortCals false).dropCommands.endSpan w.frame).pipeDrop
    let w := (w.streamsStop.markersOff.axesOff.lanesDown.dmaAbort).evtOutsOff
    let w := (w.hbmPark.stopTimer .idle).stopTimer .idleWake
    w.modeTo .safe 17

/-- FAULT_N is driven low in SAFE, while BOOT has failed and while the shutdown latch holds (R69). -/
def Work.faultN (w : Work) : Bool := !(w.mode == .safe || w.run.bootFailed || w.run.latch)

end Sys2Proof.Machine
end

