-- ==== Sys2Proof/Machine/Hbm.lean ====
section
/-! DEFINITION. The package memory controller (chapter 17, R394 to R413): refresh, throttling, power states, errors, retraining and the loss of a
pseudo-channel. -/
namespace Sys2Proof.Machine

/-- A meaning of this family. -/
abbrev HbmStep := State → Host.Outcome State Fault Refusal

/-! ### Addresses (R395, R396) -/

/-- The parity of a number's low 28 bits. -/
def parity28 (n : Nat) : Nat := sumNat ((upTo 28).map (fun i => bitsOf n i 1)) % 2

/-- What a byte offset of a pseudo-channel decodes to: stack ID, row, bank field, column and byte. -/
structure HbmAddr where
  sid    : Nat
  row    : Nat
  bank   : Nat
  column : Nat
  byte   : Nat
  deriving DecidableEq, Repr

/-- Decode a byte offset with four bank masks. -/
def hbmDecode (masks : List Nat) (a : Nat) : HbmAddr :=
  let low := a % 2 ^ 28
  { sid := a / 2 ^ 28, row := low / 2 ^ 14, bank := sumNat ((upTo 4).map (fun i => parity28 (low &&& nth 0 masks i) * 2 ^ i)),
    column := bitsOf low 5 5, byte := low % 32 }

/-- The check of a BANK_MASK write: bit 10 + i set, no other of bits 10 to 13, none above 27 (R396). -/
def bankMaskCheck (i : Nat) : OwnerCheck := fun _ v =>
  if bitsOf v.toNat 10 4 = 2 ^ i && v.toNat < 2 ^ 28 then none else some .inconsistent

/-! ### States -/

/-- PC_STATE. -/
def Work.pcSt (w : Work) (n : Nat) : Nat := w.getN (Obj.pcState n)

/-- The stack of a pseudo-channel, and the pseudo-channels of a stack (R394). -/
def stackOf (n : Nat) : Nat := n / 32
def stackPcs (s : Nat) : List Nat := (upTo 32).map (32 * s + ·)

/-- Whether a stack is hot (R403). -/
def Work.hot (w : Work) (s : Nat) : Bool := bitOf (w.getN Obj.refState) s

/-- Whether a stack is in self-refresh. -/
def Work.asleep (w : Work) (s : Nat) : Bool := (stackPcs s).any (fun n => w.pcSt n = 2)

/-- The pseudo-channels lost. -/
def Work.lostPcs (w : Work) : List Nat := (upTo 64).filter (fun n => w.pcSt n = 4)

/-- The memory works: training is done and the mode is one from TRAIN to SHADOW. -/
def Work.hbmRuns (w : Work) : Bool := w.hbm.trained && w.mode.dictOpen && w.mode != .safe

/-! ### Refresh (R402, R403) -/

/-- The start of a refresh window: the counts of row activations begin again (R402, R404). -/
def Work.windowRoll (w : Work) (s : Nat) : Work :=
  let ns := if w.hot s then 16000000 else 32000000
  if w.clk.ctl < nth 0 w.hbm.windowAt s + nsClocks ns then w
  else
    let mine := fun (k : Nat) => k / 64 % 64 / 32 == s
    let w := { w with hbm := { w.hbm with
      windowAt := upd w.hbm.windowAt s (fun _ => w.clk.ctl)
      acts := w.hbm.acts.filter (fun a => !mine a.1)
      throttled := w.hbm.throttled.filter (fun k => !mine k) } }
    w.set Obj.throttleReq (Int.ofNat (packBits ((upTo 8).map (fun r => (r, 1, if w.hbm.throttled.any (fun k => k / 4096 == r) then 1 else 0)))))

/-- Set the refreshes postponed on a pseudo-channel. -/
def Work.setPostponed (w : Work) (n k : Nat) : Work :=
  { w with hbm := { w.hbm with postponed := upd w.hbm.postponed n (fun _ => k) } }

/-- HBM_REFRESH: a due refresh; `pending` says whether a request of priority 2 to 4 is pending. It falls due again after a retraining; while hot it is
urgent; otherwise it is postponed up to REF_POSTPONE, and the last of those brings the batch. -/
def hbmRefresh (n : PcNo) (pending : Bool) (w : Work) : Work :=
  if !w.hbmRuns || w.pcSt n = 2 || w.pcSt n = 4 then w
  else
    let w := w.windowRoll (stackOf n)
    let k := nth 0 w.hbm.postponed n
    let w := if w.pcSt n = 1 then w.set (Obj.pcState n) 0 else w
    if w.pcSt n = 3 then w.setPostponed n (k + 1)
    else if w.hot (stackOf n) then w.setPostponed n 0
    else if pending && k < w.getN Obj.refPostpone then w.setPostponed n (k + 1)
    else w.setPostponed n 0
def execHbmRefresh (n : PcNo) (pending : Bool) : HbmStep := onWork (hbmRefresh n pending)

/-- A stack's temperature reading: 85 °C or above enters the hot state, with every postponed refresh issued as one urgent batch; 82 °C or below
leaves it. -/
def Work.stackTemp (w : Work) (s t : Nat) : Work :=
  let w := w.set (if s = 0 then Obj.stackTemp0 else Obj.stackTemp1) t
  if !w.hot s && 85 ≤ t then
    let w := ((w.bump Obj.hotEntries).flag Obj.refState (2 ^ s)).flag Obj.hbmFlags 2
    let due := (stackPcs s).any (fun n => nth 0 w.hbm.postponed n ≠ 0)
    let w := if due then w.bump Obj.urgentBatches else w
    (stackPcs s).foldl (fun w n => if w.pcSt n = 3 then w else w.setPostponed n 0) w
  else if w.hot s && t ≤ 82 then w.unflag Obj.refState (2 ^ s)
  else w

/-- HBM_TEMP_READ: every 32 µs; a stack in self-refresh has its controller stopped. -/
def hbmTempRead (t0 t1 : Fin 256) (w : Work) : Work :=
  if !w.hbmRuns || (w.running .tempRead && !w.expired .tempRead 32000) then w
  else
    let w := w.startTimer .tempRead
    let w := if w.asleep 0 then w else w.stackTemp 0 t0
    if w.asleep 1 then w else w.stackTemp 1 t1
def execHbmTempRead (t0 t1 : Fin 256) : HbmStep := onWork (hbmTempRead t0 t1)

/-! ### Row disturbance (R404) -/

/-- HBM_THROTTLE: requester r has made `count` more row activations on the bank of a byte offset; at ACT_LIMIT it is throttled there until the window
ends. -/
def hbmThrottle (r : Fin 8) (n : PcNo) (offset : Fin 805306368) (count : Nat) (w : Work) : Work :=
  if !w.hbmRuns then w
  else
    let w := w.windowRoll (stackOf n)
    let a := hbmDecode w.hbm.banks offset
    let k := (r.val * 64 + n.val) * 64 + a.sid * 16 + a.bank
    let c := (alGet w.hbm.acts k).getD 0 + count
    let w := { w with hbm := { w.hbm with acts := alSet w.hbm.acts k c } }
    if c < w.getN Obj.actLimit || w.hbm.throttled.contains k then w
    else
      let w := { w with hbm := { w.hbm with throttled := k :: w.hbm.throttled } }
      ((w.bump Obj.throttles).flag Obj.throttleReq (2 ^ r.val)).flag Obj.hbmFlags 8
def execHbmThrottle (r : Fin 8) (n : PcNo) (offset : Fin 805306368) (count : Nat) : HbmStep := onWork (hbmThrottle r n offset count)

/-! ### Power-down and self-refresh (R405, R406) -/

/-- HBM_POWER_DOWN. -/
def hbmPowerDown (n : PcNo) (w : Work) : Work :=
  let d := w.getN Obj.pdDelay
  if !w.hbmRuns || d = 0 || w.pcSt n ≠ 0 || w.clk.ctl < nth 0 w.hbm.lastUse n + nsClocks d then w
  else w.set (Obj.pcState n) 1
def execHbmPowerDown (n : PcNo) : HbmStep := onWork (hbmPowerDown n)

/-- HBM_SELF_REFRESH_ENTRY: in idle READY with the clusters retained, every pseudo-channel of the stack in power-down, and SR_DELAY after the later of
the retention and the stack's last request. The retention restarts the idle timer. -/
def hbmSelfRefreshEntry (s : Fin 2) (w : Work) : Work :=
  let ns := w.getN Obj.srDelay * 1000000
  let down := (stackPcs s).all (fun n => w.pcSt n = 1 || w.pcSt n = 4)
  let quiet := (stackPcs s).all (fun n => decide (nth 0 w.hbm.lastUse n + nsClocks ns ≤ w.clk.ctl))
  if w.mode != .ready || w.getN Obj.idleState = 0 || w.running .idleWake || !w.hbmRuns || !down || !quiet || !w.expired .idle ns then w
  else
    let w := (stackPcs s).foldl (fun w n => if w.pcSt n = 4 then w else w.set (Obj.pcState n) 2) w
    let w := w.bump Obj.srEntries
    if w.asleep 0 && w.asleep 1 then w.set Obj.idleState 2 else w
def execHbmSelfRefreshEntry (s : Fin 2) : HbmStep := onWork (hbmSelfRefreshEntry s)

/-- A stack leaves self-refresh; IDLE_STATE falls back to 1 while the clusters stay retained. -/
def Work.wakeStack (w : Work) (s : Nat) : Work :=
  let w := (stackPcs s).foldl (fun w n => if w.pcSt n = 2 then (w.set (Obj.pcState n) 0).hbmUse [n] else w) w
  if w.get Obj.idleState = 2 then w.set Obj.idleState 1 else w

/-! ### Retraining (R407, R410, R411) -/

/-- Begin to retrain a pseudo-channel. -/
def Work.retrainBegin (w : Work) (n : Nat) (cmd : Bool) : Work :=
  let w := { w with hbm := { w.hbm with retraining := some (n, cmd) } }
  let w := ((w.set (Obj.pcState n) 3).bump (Obj.retrains n))
  if cmd then w.set (Obj.pcCmdState n) 1 else w

/-- Begin the next retraining that waits, if none runs and its stack is awake. -/
def Work.retrainNext (w : Work) : Work :=
  if w.hbm.retraining.isSome then w
  else match w.hbm.cmdWait.find? (fun e => w.pcSt e.1 ≠ 4 && w.pcSt e.1 ≠ 2) with
    | none => w
    | some e => ({ w with hbm := { w.hbm with cmdWait := w.hbm.cmdWait.erase e } }).retrainBegin e.1 e.2

/-- Ask for a retraining: at once when none runs, else when that one ends. -/
def Work.retrainAsk (w : Work) (n : Nat) (cmd : Bool) : Work :=
  let w := if w.hbm.cmdWait.any (fun e => e.1 == n) || w.hbm.retraining = some (n, cmd) then w
    else { w with hbm := { w.hbm with cmdWait := w.hbm.cmdWait ++ [(n, cmd)] } }
  (if cmd then w.set (Obj.pcCmdState n) 2 else w).retrainNext

/-- HBM_SELF_REFRESH_EXIT: a request or the end of idle READY takes a stack out of self-refresh; the stacks of SAFE stay until reset. -/
def hbmSelfRefreshExit (s : Fin 2) (w : Work) : Work := if !w.hbmRuns || !w.asleep s then w else (w.wakeStack s).retrainNext
def execHbmSelfRefreshExit (s : Fin 2) : HbmStep := onWork (hbmSelfRefreshExit s)

/-- HBM_PERIODIC_RETRAIN: RETRAIN_PERIOD after the last, the next pseudo-channel in turn; not on a stack in self-refresh, nor while another retrains. -/
def hbmPeriodicRetrain (w : Work) : Work :=
  if !w.hbmRuns || w.hbm.retraining.isSome || !w.expired .retrain (w.getN Obj.retrainPeriod * 1000000) then w
  else match ((upTo 64).map (fun i => (w.hbm.nextPc + i) % 64)).find? (fun n => w.pcSt n ≠ 4) with
    | none => w
    | some n =>
      if w.asleep (stackOf n) then w
      else (({ w with hbm := { w.hbm with nextPc := (n + 1) % 64 } }).startTimer .retrain).retrainBegin n false
def execHbmPeriodicRetrain : HbmStep := onWork hbmPeriodicRetrain

/-- PC_RETRAIN_CMD: PC_CMD 1. -/
def pcRetrainCmd (p : Path) (n : PcNo) (w : Work) : Work :=
  w.command p (Obj.pcCmd n) 1 always (fun w =>
    if !w.hbmRuns || w.pcSt n = 4 then w.set (Obj.pcCmdState n) 3 else w.retrainAsk n true)
def execPcRetrainCmd (p : Path) (n : PcNo) : HbmStep := onWork (pcRetrainCmd p n)

/-! ### Loss (R30, R386, R388, R412, R413) -/

/-- The lines of a row with bytes on a pseudo-channel, by sensor: the slots lie in ascending sensor number from the row's first byte on (R398). -/
def Work.slotsOn (w : Work) (r : Row) (n : Nat) : List Nat :=
  let marks := r.spans.foldl (fun (acc : Nat × List (Nat × Nat)) a =>
    (acc.1 + a.2.2, if w.piecePc a.1 = n then acc.2 ++ [(acc.1, acc.1 + a.2.2)] else acc.2)) (0, [])
  let slots := w.activeSensors.foldl (fun (acc : Nat × List (Nat × Nat × Nat)) s =>
    (acc.1 + w.slotBytes s, acc.2 ++ [(s, acc.1, acc.1 + w.slotBytes s)])) (0, [])
  (slots.2.filter (fun e => marks.2.any (fun m => decide (e.2.1 < m.2) && decide (m.1 < e.2.2)))).map (fun e => e.1)

/-- The lines of the ring with bytes on a lost pseudo-channel are gone; its pieces leave the table (R412 step 2). -/
def Work.ringLose (w : Work) (n : Nat) : Work :=
  let hit := w.hbm.rows.flatMap (fun r => (w.slotsOn r n).map (fun s => (r.k, s, n)))
  let fresh := hit.filter (fun e => !w.hbm.lostLines.any (fun o => o.1 == e.1 && o.2.1 == e.2.1))
  let rows := w.hbm.rows.map (fun r => { r with lines := r.lines.filter (fun q => !hit.any (fun e => e.1 == q.k && e.2.1 == q.sensor)) })
  { w with hbm := { w.hbm with rows := rows, lostLines := fresh ++ w.hbm.lostLines, gone := n :: w.hbm.gone } }

/-- A choice that the spec leaves open: which pieces of a buffer class a pseudo-channel held. -/
def Work.chance (w : Work) : Bool × Work := let r := w.free
  (r.1 % 2 == 1, r.2)

/-- What happens to one item of a plain buffer class with a lost piece (table Buffer classes): 1 and 3 hold nothing between the commands of the model,
4 profiles, 5 halo lines, 6 working sets, 7 stream records, 8 batches sent to peers. -/
def Work.bufferItem (w : Work) (b i : Nat) : Work :=
  match b with
  | 4 => { w with seg := { w.seg with profs := w.seg.profs.eraseIdx i } }
  | 5 =>
    { w with loom := { w.loom with halo := upd w.loom.halo i (fun (h : HaloLine) => { h with values := List.replicate 32 0, valid := 0, uncal := 0, late := true }) } }
  | 6 =>
    if i = 32 then { w with loom := { w.loom with work := none } }
    else if (w.calOf i).work.isNone then w
    else (w.updCal i (fun c => { c with work := none })).set (Obj.workState i) 0
  | 7 => match w.streams.queue[i]? with
    | some c => (({ w with streams := { w.streams with queue := w.streams.queue.eraseIdx i } }).dropRecord c.stream 1).set Obj.compQueueUsed
        (Int.ofNat (w.streams.queue.length - 1))
    | none => w
  | 8 => match (w.cls.batches.filter (fun b => b.peer.isSome))[i]? with
    | some x => w.requeue (fun y => y.id == x.id)
    | none => w
  | _ => w

/-- How many items of a buffer class the model holds. -/
def Work.bufferItems (w : Work) (b : Nat) : Nat :=
  match b with
  | 4 => w.seg.profs.length
  | 5 => w.loom.halo.length
  | 6 => 33
  | 7 => w.streams.queue.length
  | 8 => (w.cls.batches.filter (fun b => b.peer.isSome)).length
  | _ => 0

/-- The items of the plain classes on a lost pseudo-channel: each lost or not by a free choice, from the last to the first. -/
def Work.buffersHit (w : Work) (n : Nat) : Work :=
  (upTo 9).foldl (fun w b =>
    if ((w.bufferPcs b w.frame).flatMap id).contains n then
      (upTo (w.bufferItems b)).foldl (fun w j =>
        let r := w.chance
        if r.1 then r.2.bufferItem b (w.bufferItems b - 1 - j) else r.2) w
    else w) w

/-- D in force: the ring bytes of the pseudo-channels in the map whose loss does not yet apply (R27, R30). -/
def Work.showDepth (w : Work) : Work :=
  let late := (w.hbm.lossDue.filter (fun e => decide (w.frame < e.1))).map (fun e => e.2)
  let n := (w.hbm.ringMap.filter (fun p => !w.hbm.gone.contains p || late.contains p)).length
  let bytes := w.ringBytesWith n
  (w.set Obj.ringBytes bytes).set Obj.ringDepth (w.depthOf bytes)

/-- A sensor whose stagger exceeds half the depth is cut back from the present frame on (R30, R240). -/
def Work.cutDeep (w : Work) : Work :=
  let d := w.getN Obj.ringDepth
  let deep := w.loom.sensors.filter (fun x => decide (d < 2 * x.geo.stagger) && !w.loom.cut.any (fun c => c.1 == x.s))
  { w with loom := { w.loom with cut := w.loom.cut ++ deep.map (fun x => (x.s, w.frame, d)) } }

/-- PC_LOST_EFFECT: at frame p+1 the new depth applies. -/
def pcLostEffect (w : Work) : Work :=
  if !w.hbm.lossDue.any (fun e => decide (e.1 ≤ w.frame)) then w
  else (({ w with hbm := { w.hbm with lossDue := w.hbm.lossDue.filter (fun e => decide (w.frame < e.1)) } }).showDepth).cutDeep
def execPcLostEffect : HbmStep := onWork pcLostEffect

/-- The HBM_PC_LOST record of a loss (R412 step 5). -/
def Work.pcLostRecord (w : Work) (n frame d : Nat) : Work :=
  (w.event { event := 5, frame := frame, d0 := n, d1 := d, d2 := w.ringShare }).raise 5

/-- A pseudo-channel is lost. While the module inspects, or mirrors, the depth applies from frame p+1 on; otherwise at once. In TRAIN it is not in the
map and its record waits for the first START. More than 16 lost, or one after a PHY failure, is a SAFE cause. -/
def Work.losePc (w : Work) (n : Nat) : Work :=
  if w.pcSt n = 4 then w
  else
    let running := w.mode.inspecting || w.mode == .shadow
    let due := if running then w.frame + 1 else w.frame
    let w := (w.set (Obj.pcState n) 4).flag Obj.hbmFlags 1
    let w := (w.flag Obj.pcLostMask (2 ^ n)).unflag Obj.pcMap (2 ^ n)
    let w := w.set (Obj.lostFrame n) due
    let w := { w with hbm := { w.hbm with cmdWait := w.hbm.cmdWait.filter (fun e => e.1 ≠ n) } }
    let w := w.loseCapacity (.pc n)
    let w :=
      if w.mode == .train then { w with hbm := { w.hbm with records := w.hbm.records ++ [n] } }
      else
        let w := (w.ringLose n).buffersHit n
        let w := w.buffersLose n
        let d := w.depthOf (w.ringBytesWith w.ringPcs.length)
        let w := if running then { w with hbm := { w.hbm with lossDue := w.hbm.lossDue ++ [(due, n)] } } else w.showDepth.cutDeep
        w.pcLostRecord n due d
    if 16 < w.lostPcs.length || w.hbm.phyFailed ≠ 0 then w.enterSafe 3 else w

/-- The records of the losses of start-up, numbered after the first START record with the first inspected frame (R413). -/
def Work.lateLosses (w : Work) (frame : Nat) : Work :=
  let w' := { w with hbm := { w.hbm with records := [] } }
  (w.hbm.records.zipIdx).foldl (fun w e => w.pcLostRecord e.1 frame (w.depthOf (w.ringBytesWith (63 - e.2)))) w'

/-- PC_RETRAIN_DONE: `passes` says whether some setting passes; the refreshes that fell due follow as an urgent batch, then the next that waits. -/
def pcRetrainDone (passes : Bool) (w : Work) : Work :=
  match w.hbm.retraining with
  | none => w
  | some (n, _) =>
    let w := { w with hbm := { w.hbm with retraining := none } }
    if passes then
      let w := if nth 0 w.hbm.postponed n ≠ 0 then w.bump Obj.urgentBatches else w
      (((w.set (Obj.pcState n) 0).setPostponed n 0).hbmUse [n]).retrainNext
    else ((w.setPostponed n 0).losePc n).retrainNext
def execPcRetrainDone (passes : Bool) : HbmStep := onWork (pcRetrainDone passes)

/-! ### Errors (R409) -/

/-- A line touched by an uncorrectable error is treated as lost with its pseudo-channel. -/
def Work.loseLine (w : Work) (k s n : Nat) : Work :=
  if w.hbm.lostLines.any (fun e => e.1 == k && e.2.1 == s) then w
  else
    let rows := w.hbm.rows.map (fun r => if r.k = k then { r with lines := r.lines.filter (fun q => q.sensor ≠ s) } else r)
    { w with hbm := { w.hbm with rows := rows, lostLines := (k, s, n) :: w.hbm.lostLines } }

/-- HBM_UNCORR: reads of a pseudo-channel reported `corrected` corrected errors and one uncorrectable error, which touched a ring line or an item of a
buffer class. More than UNCORR_LIMIT in a second bring a retraining. -/
def hbmUncorr (n : PcNo) (corrected : Nat) (target : HbmTarget) (w : Work) : Work :=
  if !w.hbmRuns || w.pcSt n = 2 || w.pcSt n = 4 then w
  else
    let w := ((w.bump (Obj.corr n) corrected).bump (Obj.uncorr n)).flag Obj.hbmFlags 4
    let recent := w.clk.ctl :: (nth [] w.hbm.uncorr n).filter (fun t => decide (w.clk.ctl < t + nsClocks 1000000000))
    let w := { w with hbm := { w.hbm with uncorr := upd w.hbm.uncorr n (fun _ => recent) } }
    let w := match target with
      | .ringLine k s => w.loseLine k s n
      | .buffer b i => if (bufClass b).2 then w else w.bufferItem b i
      | .other => w
    if w.getN Obj.uncorrLimit < recent.length then
      ({ w with hbm := { w.hbm with uncorr := upd w.hbm.uncorr n (fun _ => []) } }).retrainAsk n false
    else w
def execHbmUncorr (n : PcNo) (corrected : Nat) (target : HbmTarget) : HbmStep := onWork (hbmUncorr n corrected target)

/-! ### Training and failure of a stack (R85, R413) -/

/-- HBM_TRAINED: both stacks are trained; the pseudo-channels that fail leave the address map. -/
def hbmTrained (failed : List PcNo) (w : Work) : Work :=
  if w.mode != .train || w.hbm.trained then w
  else
    let w := { w with hbm := { w.hbm with trained := true, lastUse := List.replicate 64 w.clk.ctl, windowAt := [w.clk.ctl, w.clk.ctl] } }
    let w := (w.set Obj.pcMap (2 ^ 64 - 1)).startTimer .retrain
    failed.foldl (fun (w : Work) (n : PcNo) => if w.mode == .safe then w else w.losePc n) w
def execHbmTrained (failed : List PcNo) : HbmStep := onWork (hbmTrained failed)

/-- HBM_STACK_FAILURE: the PHY of a whole stack fails. -/
def hbmStackFailure (s : Fin 2) (w : Work) : Work :=
  if !w.mode.dictOpen then w
  else ({ w with hbm := { w.hbm with phyFailed := w.hbm.phyFailed ||| 2 ^ s.val } }).enterSafe 3
def execHbmStackFailure (s : Fin 2) : HbmStep := onWork (hbmStackFailure s)

end Sys2Proof.Machine
end

