-- ==== Sys2Proof/Machine/Scratchpads.lean ====
section
/-! DEFINITION. Scratchpads and credit queues (chapter 18, R414 to R429). -/
namespace Sys2Proof.Machine

/-- A meaning of this family. -/
abbrev SpStep := State → Host.Outcome State Fault Refusal

/-! ### Scratchpads -/

/-- Scratchpad c. -/
def Work.scr (w : Work) (c : Nat) : Scratch := nth ({} : Scratch) w.scratch c

/-- Change scratchpad c. -/
def Work.updScr (w : Work) (c : Nat) (f : Scratch → Scratch) : Work := { w with scratch := upd w.scratch c f }

/-- A spare that is neither given nor failed. -/
def Work.spareFree (w : Work) (c i : Nat) : Bool :=
  !bitOf (w.getN (Obj.sparesUsed c)) i && !bitOf (w.getN (Obj.sparesFailed c)) i

/-- The rows the test engine takes: 0 to 511 in use, 512 + i for a free spare i (R419). -/
def Work.testRows (w : Work) (c : Nat) : List Nat :=
  upTo 512 ++ ((upTo 16).filter (w.spareFree c)).map (512 + ·)

/-- A row in use that fails is given the lowest free spare; without one it is not repaired and SP_STATE reads 5 (R420). -/
def Work.repairRow (w : Work) (c row : Nat) : Work :=
  let w := (w.flag (Obj.spFlags c) 1).set (Obj.failRow c) row
  match (upTo 16).find? (w.spareFree c) with
  | none => w.set (Obj.spState c) 5
  | some i => (w.updScr c (fun s => { s with repair := alSet s.repair row i })).flag (Obj.sparesUsed c) (2 ^ i)

/-- A row that fails the march: a row in use, a free spare, or a spare given to a row meanwhile. -/
def Work.rowFails (w : Work) (c row : Nat) : Work :=
  if row < 512 then w.repairRow c row
  else
    match (w.scr c).repair.find? (fun e => e.2 == row - 512) with
    | some e => w.repairRow c e.1
    | none => w.flag (Obj.sparesFailed c) (2 ^ (row - 512))

/-- Whether a scratchpad serves and its cluster is in service. -/
def Work.spServes (w : Work) (c : Nat) : Bool := w.get (Obj.spState c) = 0 && w.get (Obj.clState c) ≠ 2 && w.get (Obj.clState c) ≠ 3

/-- SP_ROW_TEST: TEST_ROW_INTERVAL after the last, the next row is saved, marched and restored; `bad` words mismatch and `corr` lanes are corrected on
the way. A failing row in use removes the cluster by force, cause 4 (R419, R420). -/
def spRowTest (c : ClusterNo) (bad : Fin 65) (corr : Nat) (w : Work) : Work :=
  let rows := w.testRows c
  if w.get Obj.testEnable ≠ 1 || !w.spServes c || !w.mode.dictOpen || w.mode == .train || w.mode == .safe ||
      w.clk.ctl < (w.scr c).lastAt + nsClocks (w.getN Obj.testRowInterval * 1000) then w
  else
    let row := (rows.find? (fun r => decide ((w.scr c).next ≤ r))).getD 0
    let w := w.updScr c (fun s => { s with next := if row = 527 then 0 else row + 1, lastAt := w.clk.ctl })
    let w := ((w.set (Obj.testRow c) row).bump (Obj.testMismatch c) bad).bump (Obj.rowsTested c)
    let w := w.bump (Obj.spCorr c) corr
    if bad.val = 0 then w
    else
      let w := w.rowFails c row
      if row < 512 then w.removeCluster c 4 else w
def execSpRowTest (c : ClusterNo) (bad : Fin 65) (corr : Nat) : SpStep := onWork (spRowTest c bad corr)

/-- SP_UNCORR: an uncorrectable lane, in the array or in the shadow buffer of a row test, is returned with POISON; in service it removes the cluster by
force, cause 3 (R415, R419). -/
def spUncorr (c : ClusterNo) (w : Work) : Work :=
  let st := w.get (Obj.spState c)
  if !w.mode.dictOpen || w.mode == .safe || st = 2 || st = 3 then w
  else
    let w := (w.bump (Obj.spUncorr c)).flag (Obj.spFlags c) 2
    if w.spServes c && w.mode != .train then w.removeCluster c 3 else w
def execSpUncorr (c : ClusterNo) : SpStep := onWork (spUncorr c)

/-- SP_CMD acts on a cluster out of service (table Scratchpad). -/
def spCheck (c : Nat) (w : Work) : Option Res :=
  if w.get (Obj.clState c) = 2 || w.get (Obj.clState c) = 3 || w.get (Obj.clState c) = 4 then none else some .mode

/-- SP_CMD with a code: 1 full test, 2 retain, 3 wake. -/
def Work.spAct (w : Work) (c code : Nat) : Work :=
  let st := w.getN (Obj.spState c)
  if code = 1 then
    if st = 4 then (w.updScr c (fun s => { s with fullAt := w.clk.ctl })).set (Obj.spState c) 1 else w
  else if code = 2 then
    if st = 4 then w.set (Obj.spState c) 2 else w
  else if st = 2 then (w.set (Obj.spState c) 3).startTimer (.spWake c) else w

def spCommand (p : Path) (c : ClusterNo) (code : Nat) (w : Work) : Work := w.command p (Obj.spCmd c) code (spCheck c) (fun w => w.spAct c code)

/-- SP_FULL_TEST. -/
def execSpFullTest (p : Path) (c : ClusterNo) : SpStep := onWork (spCommand p c 1)

/-- SP_RETAIN. -/
def execSpRetain (p : Path) (c : ClusterNo) : SpStep := onWork (spCommand p c 2)

/-- SP_WAKE. -/
def execSpWake (p : Path) (c : ClusterNo) : SpStep := onWork (spCommand p c 3)

/-- A scratchpad serves again 2 µs after its wake (R423). -/
def Work.spWaken (w : Work) : Work :=
  (upTo 64).foldl (fun w c => if w.expired (.spWake c) 2000 then (w.set (Obj.spState c) 4).stopTimer (.spWake c) else w) w

/-- The duration of a full test: 1,408 clocks of 1.6 GHz, 880 ns, for each row (R421). -/
def Work.fullNs (w : Work) (c : Nat) : Nat := (w.testRows c).length * 880

/-- SP_FULL_TEST_DONE: the full test ends; `fails` are the failing rows with their mismatching words. TEST_PASSED when every row in use passes. In
TRAIN a cluster that cannot map every failing row is removed by fault with cause 4, and the others serve (R421, R422). -/
def spFullTestDone (c : ClusterNo) (fails : List (Fin 528 × Nat)) (w : Work) : Work :=
  if w.get (Obj.spState c) ≠ 1 || w.clk.ctl < (w.scr c).fullAt + nsClocks (w.fullNs c) then w
  else
    let w := w.bump (Obj.rowsTested c) (w.testRows c).length
    let w := fails.foldl (fun (w : Work) (e : Fin 528 × Nat) => (w.bump (Obj.testMismatch c) e.2).rowFails c e.1) w
    let good := decide (w.get (Obj.spState c) ≠ 5)
    let w := if good then w.flag (Obj.spFlags c) 4 else w
    let w := w.updClus c (fun k => { k with tested := good, failed := !good })
    if w.get (Obj.clState c) = 0 then (if good then w.set (Obj.spState c) 0 else w.removeCluster c 4)
    else if good then w.set (Obj.spState c) 4 else w
def execSpFullTestDone (c : ClusterNo) (fails : List (Fin 528 × Nat)) : SpStep := onWork (spFullTestDone c fails)

/-- The full tests of TRAIN begin (R422). -/
def Work.spTrain (w : Work) : Work :=
  (upTo 64).foldl (fun w c => (w.updScr c (fun _ => { fullAt := w.clk.ctl })).set (Obj.spState c) 1) w

/-! ### Credit queues (R424 to R429) -/

/-- Queue q. -/
def Work.cqueue (w : Work) (q : Nat) : CQueue := nth ({} : CQueue) w.queues q

/-- The words of an item of a queue (table Queues). -/
def itemWords (q : Nat) : Nat := if q < 32 then 3 else if q < 108 then 2 else if q < 172 then 40 else 16

/-- Raise an event of a queue through every slot that names it: 0 WM_HIGH, 1 WM_LOW, 2 POISON (R454). -/
def Work.queueEvent (w : Work) (q kind : Nat) : Work :=
  (upTo 16).foldl (fun w j => if w.getN (Obj.qevSel j) = q then w.raise (280 + 3 * j + kind) else w) w

/-- Set a queue's words, and LEVEL, EMPTY, PEAK and the watermark crossings with them (R425, R426). -/
def Work.setQueue (w : Work) (q : Nat) (x : CQueue) : Work :=
  let was := (w.cqueue q).words.length
  let now := x.words.length
  let w := { w with queues := upd w.queues q (fun _ => x) }
  let w := ((w.set (Obj.level q) now).set (Obj.empty q) (if now = 0 then 1 else 0)).peak (Obj.peak q) now
  let high := w.getN (Obj.highWm q)
  let low := w.getN (Obj.lowWm q)
  let w := if was < high ∧ high ≤ now then (w.flag (Obj.qFlags q) 1).queueEvent q 0 else w
  if low < was ∧ now ≤ low then (w.flag (Obj.qFlags q) 2).queueEvent q 1 else w

/-- The check of a watermark write: LOW_WM below HIGH_WM, HIGH_WM at most DEPTH (R426). -/
def watermarkCheck (q : Nat) (high : Bool) : OwnerCheck := fun w v =>
  let h := if high then v else w.get (Obj.highWm q)
  let l := if high then w.get (Obj.lowWm q) else v
  if l < h && h ≤ (queueDepth q : Int) then none else some .inconsistent

/-- QUEUE_WRITE: the producer sends one item. While its credits are short it waits, `waited` clocks so far. -/
def queueWrite (q : Fin 173) (item : List Word64) (waited : Nat) (w : Work) : Work :=
  if !w.mode.dictOpen || item.length ≠ itemWords q then w
  else
    let x := w.cqueue q
    let w := w.bump (Obj.creditWait q) waited
    if queueDepth q < x.words.length + item.length then w
    else w.setQueue q { x with words := x.words ++ item }
def execQueueWrite (q : Fin 173) (item : List Word64) (waited : Nat) : SpStep := onWork (queueWrite q item waited)

/-- A poisoned candidate item: the two copies of words 0 to 3 stand for each other; with both copies of one poisoned the module enters SAFE; a poisoned
feature word, two features, reads 0 and the candidate is graded UNCLASSIFIED (R429). -/
def Work.candPoison (w : Work) (item : List Word64) (bad : List Nat) : Work :=
  if (upTo 4).any (fun i => bad.contains i && bad.contains (i + 4)) then w.enterSafe 5
  else
    let id := (nth 0 item (if bad.contains 0 then 4 else 0)).toNat
    let feats := bad.filter (fun i => decide (8 ≤ i))
    if feats.isEmpty then w
    else
      let spoil := fun (c : Candidate) => if c.id % 2 ^ 64 = id then
          { c with
            flags := c.flags ||| dfUnclassified
            feats := c.feats.zipIdx.map (fun e => if feats.contains (8 + e.2 / 2) then 0 else e.1) }
        else c
      { w with cls := { w.cls with queue := w.cls.queue.map spoil } }

/-- What the consumer of queue q does with an item that has poisoned words (table Queues). -/
def Work.poisoned (w : Work) (q : Nat) (item : List Word64) (bad : List Nat) : Work :=
  if q < 32 then w.updPort q (fun p => { p with poison := some none })
  else if q < 96 then w.removeCluster (q - 32) 3
  else if q < 104 then (upTo 8).foldl (fun w i => w.removeCluster (8 * (q - 96) + i) 3) w
  else if q < 108 then (upTo 16).foldl (fun w i => w.removeCluster (16 * (q - 104) + i) 3) w
  else if q < 172 then w.candPoison item bad
  else w.enterSafe 5

/-- QUEUE_READ: the consumer reads one item; `corr` of its words were corrected and those at the places `bad` are uncorrectable. An empty queue
underruns (R427, R428). -/
def queueRead (q : Fin 173) (corr : Nat) (bad : List (Fin 40)) (w : Work) : Work :=
  if !w.mode.dictOpen then w
  else
    let x := w.cqueue q
    if x.words.isEmpty then (w.flag (Obj.qFlags q) 4).bump (Obj.underruns q)
    else
      let item := x.words.take (itemWords q)
      let bad := ((bad.map (fun (i : Fin 40) => i.val)).filter (fun i => decide (i < item.length))).eraseDups
      let w := w.setQueue q { words := x.words.drop (itemWords q), last := item.getLastD x.last }
      let w := w.bump (Obj.qCorr q) corr
      if bad.isEmpty then w
      else (((w.bump (Obj.qUncorr q) bad.length).flag (Obj.qFlags q) 8).queueEvent q 2).poisoned q item bad
def execQueueRead (q : Fin 173) (corr : Nat) (bad : List (Fin 40)) : SpStep := onWork (queueRead q corr bad)

end Sys2Proof.Machine
end

