-- ==== Sys2Proof/Machine/Router.lean ====
section
/-! DEFINITION. The event router (chapter 20, R444 to R454). -/
namespace Sys2Proof.Machine

/-- A meaning of this family. -/
abbrev RouterStep := State → Host.Outcome State Fault Refusal

/-! ### Route entries (R445, R446) -/

/-- The check of a ROUTE word: TASK and SOURCE at most 383. -/
def routeCheck : OwnerCheck := fun _ v =>
  if 383 < bitsOf v.toNat 0 9 || 383 < bitsOf v.toNat 16 9 then some .aboveRange else none

/-- The enabled entries: number, source, task input. -/
def Work.routes (w : Work) : List (Nat × Nat × Nat) :=
  (upTo 1024).filterMap (fun r =>
    let v := w.getN (Obj.route (r / 128) (r % 128))
    if bitOf v 31 then some (r, bitsOf v 0 9, bitsOf v 16 9) else none)

/-! ### Task inputs (R449, R450, table Task inputs) -/

/-- A task input is busy: the event is lost to it. -/
def Work.overrun (w : Work) (t : Nat) : Work := w.flag (Obj.taskFlags (t / 128) (t % 128)) 1

/-- The modes in which event outputs are driven (R452). -/
def Mode.evtOut : Mode → Bool
  | .ready => true | .calDark => true | .calFlat => true | .calGeom => true | .inspect => true | .degraded => true | _ => false

/-- An event output pulses. -/
def Work.evtOut (w : Work) (i t : Nat) : Work :=
  if !w.mode.evtOut then w
  else if w.router.pulses.contains i then w.overrun t
  else ({ w with router := { w.router with pulses := i :: w.router.pulses } }).startTimer (.evtPulse i)

/-- A relay takes an event with a hop count, and remembers the entries that carried it (R451). -/
def Work.relayIn (w : Work) (n t hop : Nat) (by_ : List Nat) : Work :=
  if w.running (.relay n) then w.overrun t
  else ({ w with router := { w.router with relays := alSet w.router.relays n ⟨hop, by_⟩ } }).startTimer (.relay n)

/-- A trigger on task input t: its hop count and the entries that carried it. -/
def Work.taskIn (w : Work) (t hop : Nat) (by_ : List Nat) : Work :=
  if t = 0 then w.confirmTask
  else if t < 9 then w.streamSync (t - 1)
  else if t < 73 then w.monSync (t - 9)
  else if t < 105 then
    let r := w.dmaGo (t - 73)
    if r.2 then r.1.overrun t else r.1
  else if t < 121 then w.evtOut (t - 105) t
  else if t < 137 then w.markForce (t - 121)
  else if t < 153 then w.stopAxis (t - 137) none
  else if t < 169 then w.relayIn (t - 153) t hop by_
  else if t < 233 then (if w.host.pending.contains (128 + (t - 169)) then w.overrun t else w.msix (128 + (t - 169)))
  else if t < 297 then w.bump (Obj.evtCount (t - 233))
  else w

/-- EVENT_DELIVERY: at the earliest event clock edge that is due, every enabled entry that names a raised source delivers to its task input; events on
one input merge, with the highest hop count (R447 to R451). -/
def eventDelivery (w : Work) : Work :=
  match w.router.raised with
  | [] => w
  | r :: rest =>
    let edge := rest.foldl (fun e x => min e x.due) r.due
    if w.clk.ctl / 2 < edge then w
    else
      let now := w.router.raised.filter (fun x => x.due == edge)
      let w := { w with router := { w.router with raised := w.router.raised.filter (fun x => x.due ≠ edge) } }
      let hits := w.routes.flatMap (fun e => (now.filter (fun x => x.source == e.2.1)).map (fun x => (e.2.2, e.1, x.hop)))
      (upTo 297).foldl (fun w t =>
        let mine := hits.filter (fun h => h.1 == t)
        match mine with
        | [] => w
        | h :: more =>
          let w := if more.isEmpty then w else w.bump (Obj.coincide (t / 128) (t % 128))
          w.taskIn t (more.foldl (fun m x => max m x.2.2) h.2.2) (mine.map (fun x => x.2.1))) w
def execEventDelivery : RouterStep := onWork eventDelivery

/-- RELAY_OUT: the delay of a relay ends; its event leaves with the next hop count, or is dropped at 8 with LOOP on the entries that carried it in. -/
def relayOut (n : Fin 16) (w : Work) : Work :=
  match alGet w.router.relays n with
  | none => w
  | some r =>
    if !w.expired (.relay n) (5 * w.getN (Obj.relayDelay n)) then w
    else
      let w := ({ w with router := { w.router with relays := alDel w.router.relays n } }).stopTimer (.relay n)
      if 8 ≤ r.hop + 1 then
        (r.entries.foldl (fun w e => w.flag (Obj.routeFlags (e / 128) (e % 128)) 1) w).bump Obj.routeLoops
      else w.raiseHop (360 + n) (r.hop + 1)
def execRelayOut (n : Fin 16) : RouterStep := onWork (relayOut n)

/-! ### Pins (R452, R453) -/

/-- EVT_IN: the filtered level of an event input changes. -/
def evtIn (i : Fin 16) (high : Bool) (w : Work) : Work :=
  if w.router.evtIn.contains i.val = high then w
  else
    let rest := w.router.evtIn.filter (fun j => j ≠ i.val)
    let w := { w with router := { w.router with evtIn := if high then i.val :: rest else rest } }
    let sel := w.getN (Obj.evtEdge i)
    if w.mode.dictOpen && bitOf sel (if high then 0 else 1) then w.raise (328 + i) else w
def execEvtIn (i : Fin 16) (high : Bool) : RouterStep := onWork (evtIn i high)

/-- SW_RAISE with a value: source 344 + i for each bit set. -/
def Work.swRaiseAct (w : Work) (v : Nat) : Work := (upTo 16).foldl (fun w i => if bitOf v i then w.raise (344 + i) else w) w

def swRaise (p : Path) (v : BitVec 16) (w : Work) : Work := w.command p Obj.swRaise v.toNat always (fun w => w.swRaiseAct v.toNat)

/-- SW_RAISE. -/
def execSwRaise (p : Path) (v : BitVec 16) : RouterStep := onWork (swRaise p v)

/-- EVT_OUT_PULSE_END. -/
def evtOutPulseEnd (i : Fin 16) (w : Work) : Work :=
  if w.expired (.evtPulse i) (5 * w.getN (Obj.evtPulse i)) then
    ({ w with router := { w.router with pulses := w.router.pulses.filter (fun j => j ≠ i.val) } }).stopTimer (.evtPulse i)
  else w
def execEvtOutPulseEnd (i : Fin 16) : RouterStep := onWork (evtOutPulseEnd i)

end Sys2Proof.Machine
end

