-- ==== Sys2Proof/Machine/PairOps.lean ====
section
/-! DEFINITION. What PAIR_CMD and the ends of a pairing share (R473, R480, R481): the request, and a module's return to running alone. -/
namespace Sys2Proof.Machine

/-- The classes MIRROR types by number (table Yalind classes and messages). -/
def mirrorClass : Nat := 7
def myPairReq : Nat := 7
def myPairEnd : Nat := 8

/-- PAIR_PEER names a partner. -/
def Work.hasPartner (w : Work) : Bool := decide (w.partner < 1024)

/-- A request ends without a pair (R473). -/
def Work.pairRefused (w : Work) (code : Nat) : Work :=
  { (w.set Obj.pairState 0).set Obj.pairRefusal code with sys := { w.sys with pair := {} } }

/-- Send PAIR_REQ with the module's address and position, or wait for a session to open (R473). -/
def Work.pairAsk (w : Work) : Work :=
  let w := (w.set Obj.pairState 1).set Obj.pairRefusal 0
  match w.session w.partner with
  | some _ => (w.ylSend w.partner mirrorClass myPairReq [w.ylAddress, w.confN Obj.pairPosition] []).1
  | none => w.startTimer (.session w.partner)

/-- Whether the module asks as a secondary: with PAIR_ROLE 1, or after a reset since which it has not inspected, in READY and unpaired (R473). -/
def Work.pairMayAsk (w : Work) : Bool :=
  w.hasPartner && w.get Obj.pairState == 0 && w.mode == .ready && (w.confN Obj.pairRole == 1 || !w.run.started)

/-- The records held for the partner's acknowledgement go to the rings (R299, R481). -/
def Work.releaseHeld (w : Work) : Work :=
  let held := w.ledger.mirrored
  let w := { w with ledger := { w.ledger with mirrored := [], unacked := [] } }
  held.foldl (fun w s => w.stage s false) w

/-- The pairing is over on this module: a primary runs unpaired, a module in SHADOW goes to READY (cause 16). -/
def Work.pairOver (w : Work) : Work :=
  let w := if w.pairedPrimary then w.releaseHeld else w
  let w := (w.set Obj.pairState 0).set Obj.lastMirrorSeq 0
  let keep := w.sys.pair.proposals
  let w := { w with sys := { w.sys with pair := { proposals := keep, hbIn := w.sys.pair.hbIn } } }
  if w.mode == .shadow then
    let w := { (w.endSpan w.frame) with ledger := { (w.endSpan w.frame).ledger with held := [] } }
    w.pipeDrop.modeTo .ready 16
  else w

/-- End the pairing, telling the partner where it can be told (R481). -/
def Work.pairQuit (w : Work) : Work :=
  if w.get Obj.pairState = 0 then w
  else ((w.ylSend w.partner mirrorClass myPairEnd [] []).1).pairOver

/-- PAIR_CMD with its code. -/
def Work.pairAct (w : Work) (code : Nat) : Work :=
  if code = 1 then (if w.pairMayAsk then w.pairAsk else w) else w.pairQuit

end Sys2Proof.Machine
end

