-- ==== Sys2Proof/Machine/HostLink.lean ====
section
/-! DEFINITION. PCIe link, rings in host memory, interrupts and Ethernet ports (chapter 22, R483 to R494). -/
namespace Sys2Proof.Machine

/-- A meaning of this family. -/
abbrev HostStep := State → Host.Outcome State Fault Refusal

/-! ### Rings (R485 to R487) -/

/-- The ENABLE object of a ring; a stream ring has none, its DEST decides. -/
def ringEnableKey (r : Nat) : Option Nat :=
  if r < 4 then some (Obj.lrEnable r) else if r = 4 then some Obj.statRingEnable else if r < 13 then none else some (Obj.crEnable (r - 13))

/-- Whether the host has a ring enabled: its ENABLE reads 1, or a stream's DEST in force is 1. -/
def Work.ringWanted (w : Work) (r : Nat) : Bool :=
  match ringEnableKey r with
  | some k => w.get k == 1
  | none => w.valueAtN (Obj.dest (r - 5)) w.frame == 1

/-- The effect of a write of a ring's ENABLE: 1 starts it from 0 while the link is up, 0 stops it. -/
def Work.ringSwitch (w : Work) (r : Nat) (on : Bool) : Work :=
  if on then (if w.host.linkUp then w.ringOn r else w.updRing r (fun _ => {})) else w.ringOff r

/-- At a frame boundary the stream rings follow DEST (R322). -/
def Work.streamRings (w : Work) : Work :=
  (upTo 8).foldl (fun w s =>
    let want := w.valueAtN (Obj.dest s) w.frame == 1
    let g := w.ring (5 + s)
    if want && !g.enabled && w.host.linkUp && w.valueAtN (Obj.dest s) (w.frame - 1) ≠ 1 then w.ringOn (5 + s)
    else if !want && g.enabled then w.ringOff (5 + s)
    else w) w

/-- The base, slot count, slot size and write-back address of a ring are refused while it is enabled (R487). -/
def ringBusy (r : Nat) (w : Work) : Option Res :=
  if (w.ring r).enabled || w.ringWanted r then some .busy else none

/-- CI_DOORBELL: the host writes CI. -/
def ciDoorbell (r : Fin 17) (v : BitVec 64) (w : Work) : Work :=
  let g := w.ring r
  if !w.mode.dictOpen || !w.host.linkUp then w
  else if v.toNat < g.ci || g.pi < v.toNat then w.updRing r (fun g => { g with ciErr := true })
  else w.updRing r (fun g => { g with ci := v.toNat })
def execCiDoorbell (r : Fin 17) (v : BitVec 64) : HostStep := onWork (ciDoorbell r v)

/-- COAL_TIME_EXPIRY. -/
def coalTimeExpiry (r : Fin 17) (w : Work) : Work :=
  if w.expired (.coal r) (w.getN (Obj.coalTime r) * 1000) then w.signalRing r else w
def execCoalTimeExpiry (r : Fin 17) : HostStep := onWork (coalTimeExpiry r)

/-! ### Interrupts (R490) -/

/-- Send the messages of pending vectors that are no longer masked. -/
def Work.sendPending (w : Work) : Work :=
  if w.host.funcMasked then w
  else
    let out := (upTo 192).filter (fun v => w.host.pending.contains v && w.host.unmasked.contains v)
    let w := { w with host := { w.host with pending := w.host.pending.filter (fun v => !out.contains v) } }
    out.foldl (fun w v => w.send (.msix v)) w

/-- MSIX_UNMASK: the host unmasks one vector's entry, or the function. -/
def msixUnmask (v : Option (Fin 2048)) (w : Work) : Work :=
  match v with
  | none => ({ w with host := { w.host with funcMasked := false } }).sendPending
  | some v =>
    ({ w with host := { w.host with unmasked := if w.host.unmasked.contains v.val then w.host.unmasked else v.val :: w.host.unmasked } }).sendPending
def execMsixUnmask (v : Option (Fin 2048)) : HostStep := onWork (msixUnmask v)

/-! ### The PCIe link (R86, R296, R487) -/

/-- A path's open group is discarded (R56). -/
def Work.dropGroup (w : Work) (p : Path) : Work := if (w.group p).isOpen then w.setGroup p {} else w

/-- The link falls: every ring stops, the group of PCIe is discarded, a transfer ends without effect; Ledger records stay staged. -/
def Work.pcieDown (w : Work) : Work :=
  let w := { w with host := { w.host with linkUp := false } }
  let w := (upTo 17).foldl (fun w r => if (w.ring r).enabled then w.ringOff r else w) w
  let w := w.dropGroup .pcie
  if w.d.dt.busy then ({ w with d := { w.d with dt := {} } }).set Obj.dtStatus 0 else w

/-- PCIE_LINK_DOWN: the link falls, or PCIE_PERST_N goes low. -/
def pcieLinkDown (perst : Bool) (w : Work) : Work :=
  let w := if perst then { w with host := { w.host with perst := false } } else w
  if w.host.linkUp then w.pcieDown else w
def execPcieLinkDown (perst : Bool) : HostStep := onWork (pcieLinkDown perst)

/-- PCIE_PERST_RELEASE: PCIE_PERST_N rises and link training begins. -/
def pciePerstRelease (w : Work) : Work := { w with host := { w.host with perst := true } }
def execPciePerstRelease : HostStep := onWork pciePerstRelease

/-- PCIE_LINK_UP: training completes; the rings that the host has enabled run on. -/
def pcieLinkUp (w : Work) : Work :=
  if !w.host.perst || w.host.linkUp then w
  else
    let w := { w with host := { w.host with linkUp := true } }
    (upTo 17).foldl (fun w r => if w.ringWanted r then w.updRing r (fun g => { g with enabled := true }) else w) w
def execPcieLinkUp : HostStep := onWork pcieLinkUp

/-! ### Ethernet (R491, R492) -/

/-- Whether an Ethernet port is up. -/
def Work.ethUp (w : Work) (n : Nat) : Bool := w.getN (Obj.ethLink n) = 2

/-- ETH_LINK_CHANGE: the state of a port's link, with the FEC codewords corrected and not correctable since the last report. -/
def ethLinkChange (n : Fin 4) (st : Fin 3) (corr uncorr : Nat) (w : Work) : Work :=
  if !w.mode.dictOpen then w
  else
    let on := w.confN (Obj.ethMode n) ≠ 0
    let w := w.set (Obj.ethLink n) (if on then st.val else 0)
    (w.bump (Obj.fecCorr n) corr).bump (Obj.fecUncorr n) uncorr
def execEthLinkChange (n : Fin 4) (st : Fin 3) (corr uncorr : Nat) : HostStep := onWork (ethLinkChange n st corr uncorr)

/-- The MAC address of a port. -/
def Work.ethMac (w : Work) (n : Nat) : Nat := (w.getN Obj.ethMacBase + n) % 2 ^ 48

/-- ARP_REQUEST: answered when it asks for the port's own address. -/
def arpRequest (n : Fin 4) (ip fromIp : BitVec 32) (fromMac : BitVec 48) (w : Work) : Work :=
  let own := w.confN (Obj.ethIpv4 n)
  if w.ethUp n && own ≠ 0 && ip.toNat = own then w.send (.arpReply n own (w.ethMac n) fromIp.toNat fromMac.toNat) else w
def execArpRequest (n : Fin 4) (ip fromIp : BitVec 32) (fromMac : BitVec 48) : HostStep := onWork (arpRequest n ip fromIp fromMac)

/-- ICMP_ECHO: an echo request to the port's address of up to 1,472 bytes is answered. -/
def icmpEcho (n : Fin 4) (ip fromIp : BitVec 32) (id seq : BitVec 16) (data : Bytes) (w : Work) : Work :=
  let own := w.confN (Obj.ethIpv4 n)
  if w.ethUp n && own ≠ 0 && ip.toNat = own && data.length ≤ 1472 then w.send (.echoReply n fromIp.toNat id.toNat seq.toNat data) else w
def execIcmpEcho (n : Fin 4) (ip fromIp : BitVec 32) (id seq : BitVec 16) (data : Bytes) : HostStep := onWork (icmpEcho n ip fromIp id seq data)

/-- PAUSE_FRAME: counted, not obeyed. -/
def pauseFrame (n : Fin 4) (w : Work) : Work := if w.ethUp n then w.bump (Obj.rxPause n) else w
def execPauseFrame (n : Fin 4) : HostStep := onWork (pauseFrame n)

end Sys2Proof.Machine
end

