-- ==== Sys2Proof/Machine/Reads.lean ====
section
/-! DEFINITION. What a read of the dictionary returns (R39 to R41, R51, R57, R64): numbers, blocks, the journal's read-out and the attestation
quote (R512). -/
namespace Sys2Proof.Machine

/-! ### The journal's read-out (R61, R64) -/

/-- A Tally entry as its 64 bytes. -/
def TallyEntry.image (e : TallyEntry) : Bytes :=
  let b := fun (x : Bool) => if x then 1 else 0
  leBytes 64 (packBits
    [(0, 64, e.seq), (64, 64, e.time), (128, 48, e.effectFrame), (176, 16, e.index), (192, 8, e.sub), (200, 4, e.path),
     (204, 1, b e.domain), (205, 1, b e.deferred), (206, 1, b e.mirrored), (207, 1, b e.group), (208, 8, e.result), (216, 12, e.sourceId),
     (228, 28, e.dlen), (256, 256, e.value)])

/-- READ_ENTRIES: the header and the retained entries from READ_FIRST, at most READ_COUNT numbers of them (R64). -/
def Work.readEntries (w : Work) : Bytes :=
  let first := w.getN Obj.readFirst
  let last := min (first + w.getN Obj.readCount - 1) w.journal.head
  let es := (w.journal.entries.filter (fun e => decide (first ≤ e.seq) && decide (e.seq ≤ last))).reverse
  let gap := w.journal.gaps.any (fun g => decide (first < g.2) && decide (g.1 < last))
  leBytes 64 (packBits
    [(0, 64, w.getN Obj.journalId), (64, 64, w.journal.head), (128, 64, (es.head?.map (fun e => e.seq)).getD 0), (192, 32, es.length),
     (224, 1, if first < w.tailSeq then 1 else 0), (225, 1, if gap then 1 else 0), (256, 64, w.tailSeq)])
  ++ (es.map TallyEntry.image).flatten

/-! ### The quote (R512) -/

/-- Zeros where an item is absent. -/
def digestOr (b : Bytes) : Bytes := if b.isEmpty then List.replicate 32 0 else b

/-- The digest a profile image carries: the 32 bytes after its body (R80). -/
def profDigestOf (b : Bytes) : Bytes := slice b (64 + leAt b 16 4) 32

/-- Bytes 0 to 575 of the quote. -/
def quoteBody (nv : NonVol) (w : Work) : Bytes :=
  let b := fun (x : Bool) => if x then 1 else 0
  let run := w.sec.running.getD 0
  let fw := (nth ({} : FlashSlot) nv.flash.firmware run).bytes
  let act := w.getN Obj.activeProfile
  let prof := if act < 4 then (nth ({} : FlashSlot) nv.flash.profiles act).bytes else []
  let flags := packBits [(0, 1, b nv.fuses.debugLock), (1, 1, b nv.fuses.signProfiles), (2, 1, b nv.fuses.signModels),
    (3, 1, run), (4, 1, w.getN Obj.fwFallback)]
  let cal := shake256 ((w.activePorts.map w.calExportBytes).flatten ++ w.geomExportBytes)
  leBytes 4 0x544F5551 ++ leBytes 2 1 ++ leBytes 2 flags ++ leBytes 4 Config.serial.toNat ++ leBytes 4 (w.getN Obj.productCode)
    ++ leBytes 8 w.timeNs ++ leBytes 8 w.frame ++ leBytes 4 (w.getN Obj.configGen) ++ leBytes 1 nv.fuses.rollback ++ [0]
    ++ leBytes 2 (fwSvnOf fw) ++ leBytes 8 w.journal.head
    ++ (let n := w.blob Obj.quoteNonce; if n.isEmpty then List.replicate 32 0 else n)
    ++ fwDigestOf fw ++ digestOr (if prof.isEmpty then [] else profDigestOf prof)
    ++ ((upTo 8).map (fun m => digestOr (((w.modelAt m w.frame).map modelDigest).getD []))).flatten
    ++ ((upTo 32).map (fun p => leBytes 4 (w.getN (Obj.activeGen p)))).flatten
    ++ leBytes 4 (w.getN Obj.geomGen) ++ cal ++ List.replicate 12 0

/-- The signature block of the identity key over a digest (R501). -/
def signBlock (context : String) (n : Nat) (digest : Bytes) : Bytes :=
  let sig := (Config.falconSign n (ascii context ++ digest)).take 1462
  let key := Config.identityKey
  leBytes 4 0x47535A54 ++ leBytes 2 1 ++ leBytes 2 sig.length ++ ascii context ++ shake256 key ++ List.replicate 16 0
    ++ key ++ sig ++ List.replicate (1462 - sig.length) 0 ++ List.replicate 9 0

/-- The quote, or why it is refused: BUSY until the key is ready, LOCKED while debug is open by a token (R511, R513). Each signature takes a draw. -/
def quoteBytes (nv : NonVol) (w : Work) : Except Res (Bytes × Work) :=
  if w.get Obj.debugState = 2 then .error .locked
  else if !w.sec.keyReady then .error .busy
  else
    let body := quoteBody nv w
    let d := shake256 body
    .ok (body ++ d ++ signBlock "TZQUOTE1" w.drawCount d, { w with drawCount := w.drawCount + 1 })

/-! ### Blocks -/

/-- The image of the identity response table (R182). -/
def identityLut : Bytes :=
  let b := leBytes 4 0x54554C46 ++ ((upTo 1025).map (fun s => leBytes 2 (min (64 * s) 65535))).flatten
  b ++ leBytes 4 (crc32 b).toNat

/-- The image of the cubic kernel (R225). -/
def cubicTable : Bytes :=
  let b := leBytes 4 0x4C4E524B ++ ((upTo 64).map (fun j => ((kernelTaps 2 [] j).map (fun k => leBytes 2 (field 16 k))).flatten)).flatten
  b ++ leBytes 4 (crc32 b).toNat

/-- The place of a key among the objects at a base index with a stride and a subindex. -/
def objNo (base stride count sub key : Nat) : Option Nat :=
  let idx := key / 256
  if key % 256 = sub && base ≤ idx && (idx - base) % stride = 0 && (idx - base) / stride < count then some ((idx - base) / stride) else none

/-- A table entry: objects at a base index with a stride and count, at one subindex, and what is made of their number. -/
structure At (α : Type) where
  base   : Nat
  stride : Nat
  count  : Nat
  sub    : Nat
  act    : Nat → α

/-- The first entry of a table that has a key. -/
def atKey {α : Type} (es : List (At α)) (key : Nat) : Option α :=
  es.findSome? (fun e => (objNo e.base e.stride e.count e.sub key).map e.act)

/-- Blocks the module forms when they are read. -/
def formedBlobs : List (At (Work → Bytes)) :=
  [⟨0x1008, 1, 1, 0, fun _ _ => ascii "TZ-1280"⟩, ⟨0x1009, 1, 1, 0, fun _ _ => Config.hwVersion⟩,
   ⟨0x2202, 1, 1, 3, fun _ w => w.readEntries⟩, ⟨0x4830, 1, 32, 2, fun p w => w.calExportBytes p⟩,
   ⟨0x4830, 1, 32, 3, fun p w => w.workExportBytes p⟩, ⟨0x4880, 1, 1, 14, fun _ w => w.geomExportBytes⟩,
   ⟨0x5001, 1, 1, 8, fun _ w => w.columnMapBytes⟩, ⟨0xC000, 1, 128, 8, fun l w => w.eyeMapBytes l⟩]

/-- What a block that nothing has written reads as. -/
def emptyBlobs : List (At Bytes) :=
  [⟨0x4100, 1, 256, 1, fun _ => identityLut⟩, ⟨0x5000, 1, 1, 7, fun _ => cubicTable⟩,
   ⟨0x7000, 1, 32, 1, fun _ => List.replicate 1024 0⟩, ⟨0x230A, 1, 1, 1, fun _ => List.replicate 32 0⟩]

/-- A DOMAIN or STRING object as it stands, or the refusal of its owner. -/
def readBlob (nv : NonVol) (w : Work) (key : Nat) : Except Res (Bytes × Work) :=
  if key = Obj.quote then quoteBytes nv w
  else match atKey formedBlobs key with
    | some f => .ok (f w, w)
    | none =>
      match alGet w.d.blobs key with
      | some b => .ok (b, w)
      | none => .ok ((atKey emptyBlobs key).getD [], w)

/-! ### Numbers -/

/-- Numbers the module measures when they are read. -/
def formedNums : List (At (Work → Int × Work)) :=
  [⟨0x2200, 1, 1, 1, fun _ w => (w.journal.head, w)⟩, ⟨0x2200, 1, 1, 2, fun _ w => (w.tailSeq, w)⟩,
   ⟨0x8101, 1, 1, 1, fun _ w => (Int.ofNat (field 56 (w.posAt w.clk.ctl)), w)⟩, ⟨0x8101, 1, 1, 3, fun _ w => (w.frame, w)⟩,
   ⟨0x8101, 1, 1, 4, fun _ w => let v := w.axisSpeed w.clk.ctl; (max 0 (v.1 / v.2), w)⟩,
   ⟨0x8020, 1, 16, 2, fun i w => (w.speedAt i w.clk.ctl, w)⟩,
   ⟨0x3002, 0x20, 32, 15, fun p w => if w.portCxp p && w.portActive p then let r := w.free; (Int.ofNat (r.1 % 2 ^ 32), r.2) else (0, w)⟩,
   ⟨0x6620, 1, 4, 5, fun q w => (Int.ofNat (if (w.ring (13 + q)).enabled then w.ringFree (13 + q) else 0), w)⟩,
   ⟨0x2100, 1, 1, 6, fun _ w => let r := w.free; (Int.ofNat (r.1 % 2 ^ 32), r.2)⟩]

/-- The number a numeric object reads as. -/
def Work.readNum (w : Work) (key : Nat) : Int × Work :=
  match atKey formedNums key with
  | some f => f w
  | none => (w.get key, w)

/-- A read: the value, or the refusal (R40, R57). Subindex 0 of an index with subindices 1 and above reads the highest in use (R37). -/
def readObject (nv : NonVol) (w : Work) (key : Nat) : Except Res (DictVal × Work) :=
  let idx := key / 256
  let sub := key % 256
  if !indexExists idx then .error .noObject
  else match findRow idx sub with
    | none => if sub = 0 then .ok (.num (highestSub idx), w) else .error .noSubindex
    | some r =>
      if r.access == .wo then .error .writeOnly
      else if r.typ.isBlob then
        match readBlob nv w key with
        | .ok x => .ok (.bytes x.1, x.2)
        | .error e => .error e
      else .ok (.num (w.readNum key).1, (w.readNum key).2)

/-- A value as bytes in its object's encoding (R39). -/
def encodeVal (key : Nat) : DictVal → Bytes
  | .bytes b => b
  | .num n => match findRow (key / 256) (key % 256) with
    | some r => r.typ.encode n
    | none => leBytes 1 n.toNat

/-! ### Journal read-out and quote as transfers -/

/-- An upload of a block over a path: the answer leaves, or the read is refused. -/
def uploadBlob (p : Path) (key : Nat) (x : Both) : Both :=
  if !x.2.mode.dictOpen then x
  else match readBlob x.1 x.2 key with
    | .ok r => (x.1, (r.2.send (.reply p key r.1)).setResult p .ok)
    | .error e => (x.1, x.2.refuse p key e)

/-- TALLY_READ_ENTRIES. -/
def execTallyReadEntries (p : Path) : State → Host.Outcome State Fault Refusal := onBoth (uploadBlob p Obj.readEntries)

/-- QUOTE. -/
def execQuote (p : Path) : State → Host.Outcome State Fault Refusal := onBoth (uploadBlob p Obj.quote)

end Sys2Proof.Machine
end

