-- ==== Sys2Proof/Machine/Stats.lean ====
section
/-! DEFINITION. Frame statistics and exposure control (chapter 12, R301 to R311). -/
namespace Sys2Proof.Machine

/-! ### Lines of a field in a frame (R141, R234) -/

/-- How many web lines below x bear field f on a port. -/
def Work.linesBelow (w : Work) (p f x : Nat) : Nat :=
  if w.fieldModeOf p = 1 then
    let c := w.fieldsOf p
    let first := (f + c - w.confN (Obj.fieldPhase p) % c) % c
    (x + c - 1 - first) / c
  else x

/-- The lines of field f in frame n. -/
def Work.fieldLines (w : Work) (p f n : Nat) : Nat :=
  w.linesBelow p f ((n + 1) * w.frameLen) - w.linesBelow p f (n * w.frameLen)

/-- The last web line of field f in frame n. -/
def Work.lastFieldLine (w : Work) (p f n : Nat) : Nat :=
  let e := (n + 1) * w.frameLen
  if w.fieldModeOf p = 1 then e - 1 - (e - 1 + w.confN (Obj.fieldPhase p) + w.fieldsOf p - f) % w.fieldsOf p else e - 1

/-! ### Statistic records -/

/-- The sensor whose lines field f's statistics count. -/
def Work.statSensor (w : Work) (p : Nat) : Nat := w.sensorOf p (w.confN (Obj.statTag p))

/-- Whether the last line of the field in the frame has been published (R305). -/
def Work.statDone (w : Work) (p f n : Nat) : Bool :=
  match w.hbm.rows with
  | [] => false
  | r :: _ => (w.ringLine (w.statSensor p) f (w.lastFieldLine p f n)).isSome ||
      decide (w.rowOf (w.statSensor p) (w.lastFieldLine p f n) < r.k)

/-- STAT_FRAME_COMPLETE: the oldest bank's frame is complete and goes to readout; where the bank in readout has not finished, its record is
discarded (R306). -/
def statFrameComplete (p : PortNo) (f : Fin 8) (w : Work) : Work :=
  match (w.statOf p f).banks with
  | [] => w
  | k :: rest =>
    if !w.statDone p f k.frame then w
    else
      let lost := (w.statOf p f).readout.isSome
      let w := w.updStat p f (fun s => { s with banks := rest, readout := some k, lost := s.lost + (if lost then 1 else 0) })
      if lost then (w.bump Obj.stOverrun).flag Obj.stFlags 2 else w

def execStatFrameComplete (p : PortNo) (f : Fin 8) : State → Host.Outcome State Fault Refusal := onWork (statFrameComplete p f)

/-- The frame's exposure change could not be tied to a web line (R309). -/
def Work.unbound (w : Work) (p n : Nat) : Bool :=
  w.confN (Obj.expAddr p) ≠ 0 && (w.confN (Obj.expGenAddr p) = 0 || w.portCxp p) && (w.port p).exp.gens.any (fun g => g.1 == n + 1)

/-- A statistic record (R304). -/
def Work.statRecord (w : Work) (p f : Nat) (k : StatBank) (lost : Nat) : Bytes :=
  let rg := w.statRange p f k.frame
  let b2n := fun (b : Bool) => if b then 1 else 0
  let t := if w.fieldModeOf p = 2 then f else w.confN (Obj.statTag p)
  let head := packBits
    [(0, 32, 0x54415453), (64, 16, 1), (80, 8, p), (88, 8, t), (96, 8, f),
     (104, 1, b2n (decide (k.lines < w.fieldLines p f k.frame))), (105, 1, b2n k.changed), (106, 1, b2n (w.unbound p k.frame)),
     (107, 1, b2n (w.excludedAt p k.frame == some 7)), (108, 1, b2n rg.2.2.1),
     (144, 48, k.frame), (192, 16, rg.2.1), (208, 16, rg.1), (224, 32, lost), (256, 32, k.echo), (288, 32, k.lines),
     (320, 32, k.satur), (352, 32, k.pixels), (384, 32, w.expGenAt p k.frame), (416, 32, k.corrGen), (448, 64, w.timeNs)]
  let zone := fun z =>
    let c := nth 0 k.counts z
    let m := if c = 0 then 0 else (nth 0 k.zoneSums z + c / 2) / c
    leBytes 4 c ++ leBytes 2 m ++ leBytes 2 0
  leBytes 64 head ++ ((upTo 64).map zone).flatten ++ (k.bins.map (leBytes 4)).flatten

/-- STAT_RECORD_DELIVERED: the record in readout is written to the next slot of the statistics ring, or dropped when none is free; in SHADOW it
is discarded (R305, R306). -/
def statRecordDelivered (p : PortNo) (f : Fin 8) (w : Work) : Work :=
  match (w.statOf p f).readout with
  | none => w
  | some k =>
    let lost := (w.statOf p f).lost
    let w := w.updStat p f (fun s => { s with readout := none })
    if w.mode == .shadow then w
    else if !(w.ring 4).enabled || w.ringFree 4 = 0 then
      ((w.updStat p f (fun s => { s with lost := s.lost + 1 })).bump Obj.stDropped).flag Obj.stFlags 1
    else
      let rec0 := w.statRecord p f k lost
      let w := w.updStat p f (fun s => { s with lost := 0 })
      ((w.ringPut 4 (rec0 ++ List.replicate (8192 - rec0.length) 0)).bump Obj.stDelivered).raise 7

def execStatRecordDelivered (p : PortNo) (f : Fin 8) : State → Host.Outcome State Fault Refusal := onWork (statRecordDelivered p f)

/-! ### Exposure generations (R307 to R310) -/

/-- An accepted write of EXPOSURE or CAM_GAIN: its frame p+2 begins a new generation, once for each frame; before the first commit the
generation stays 1 (R307). -/
def Work.newGeneration (w : Work) (p : Nat) : Work :=
  let n := w.frame + 2
  if w.getN Obj.configGen = 0 || (w.port p).exp.gens.any (fun g => g.1 == n) then w
  else
    let g := (w.expGenAt p n + 1) % 2 ^ 32
    let w := w.updPort p (fun q => { q with exp := { q.exp with gens := (n, g) :: q.exp.gens, dueFor := q.exp.dueFor ++ [n] } })
    (w.set (Obj.expPendingGen p) g).set (Obj.expPendingFrame p) n

/-- EXPOSURE_WRITE. -/
def exposureWrite (path : Path) (p : PortNo) (f : Fin 8) (v : Int) (w : Work) : Work :=
  w.writeNum path (Obj.exposure p f) (.num v) noCheck (fun _ w => w.newGeneration p)

def execExposureWrite (path : Path) (p : PortNo) (f : Fin 8) (v : Int) : State → Host.Outcome State Fault Refusal :=
  onWork (exposureWrite path p f v)

/-- CAM_GAIN_WRITE. -/
def camGainWrite (path : Path) (p : PortNo) (f : Fin 8) (v : Int) (w : Work) : Work :=
  w.writeNum path (Obj.camGain p f) (.num v) noCheck (fun _ w => w.newGeneration p)

def execCamGainWrite (path : Path) (p : PortNo) (f : Fin 8) (v : Int) : State → Host.Outcome State Fault Refusal :=
  onWork (camGainWrite path p f v)

/-- EXP_GEN_ADVANCE: at its frame the pending generation is the one in force (R307). -/
def expGenAdvance (p : PortNo) (w : Work) : Work :=
  if w.frame < w.getN (Obj.expPendingFrame p) || w.getN (Obj.expPendingFrame p) = noFrame &&
      w.getN (Obj.expGen p) = w.expGenAt p w.frame then w
  else
    let w := w.set (Obj.expGen p) (w.expGenAt p w.frame)
    match (w.port p).exp.gens.head? with
    | some g => if g.1 ≤ w.frame then (w.set (Obj.expPendingGen p) g.2).set (Obj.expPendingFrame p) noFrame else w
    | none => w

def execExpGenAdvance (p : PortNo) : State → Host.Outcome State Fault Refusal := onWork (expGenAdvance p)

/-- EXP_FAULT: an exposure or generation write unanswered for 200 ms (R310). -/
def expFault (p : PortNo) (w : Work) : Work :=
  if w.expired (.expWrite p) 200000000 then
    (((w.stopTimer (.expWrite p)).updPort p (fun q => { q with txn := none })).expFail p).nextTxn p
  else w

def execExpFault (p : PortNo) : State → Host.Outcome State Fault Refusal := onWork (expFault p)

/-- What trigger k does for a port's exposure delivery when it calls the first line of frame m of the port's camera (R308, R310): EXP_LATE for a
generation of frame m not acknowledged, and the set of frame m+1 sent, or an earlier set resent. -/
def Work.expTrigger (w : Work) (p k : Nat) : Work :=
  let s := w.staggerOf (8 * p)
  if w.confN (Obj.expAddr p) = 0 || k < s || (k - s) % w.frameLen ≠ 0 then w
  else
    let m := (k - s) / w.frameLen
    let late := (w.port p).exp.gens.any (fun g => g.1 == m && g.2 ≠ (w.port p).exp.acked) && w.confN (Obj.expGenAddr p) ≠ 0 && !w.portCxp p
    let w := if late then w.flag (Obj.expFlags p) 2 else w
    if !((w.port p).exp.dueFor.contains (m + 1) || (w.port p).exp.resend) then w
    else
      let w := w.updPort p (fun q => { q with exp := { q.exp with dueFor := q.exp.dueFor.filter (fun n => m + 1 < n) } })
      if w.getN (Obj.portState p) ≠ 5 then w
      else (w.updPort p (fun q => { q with expWait := true, exp := { q.exp with sending := some (m + 1) } })).nextTxn p

end Sys2Proof.Machine
end

