-- ==== Sys2Proof/Machine/Writes.lean ====
section
/-! DEFINITION. A write of any object but those of the mode machine and the write groups: which row of the command table a value takes, the
owner's own checks (R53, R553 and the chapters), and the owner's effects. -/
namespace Sys2Proof.Machine

/-! ### Owners' checks -/

/-- A check with the value stored first. -/
def storedCheck (key : Nat) (ok : Work → Bool) : OwnerCheck := fun w v => if ok (w.set key v) then none else some .inconsistent

/-- Two objects of which the first lies below the second, or at most at it. -/
def orderCheck (key lo hi : Nat) (equal : Bool) : OwnerCheck :=
  storedCheck key (fun w => decide (w.get lo < w.get hi) || (equal && decide (w.get lo = w.get hi)))

/-- A value at most that of another object. -/
def atMost (key : Nat) : OwnerCheck := fun w v => if w.get key < v then some .inconsistent else none

/-- The high threshold of field f is at least the low one for every background (R247). -/
def Work.thresholdsOk (w : Work) (f : Nat) : Bool :=
  let g := fun (k : Nat → Nat) => w.getN (k f)
  if g Obj.tLowRel ≤ g Obj.tHighRel then decide (g Obj.tLowAbs ≤ g Obj.tHighAbs)
  else (upTo 65536).all (fun b => decide (g Obj.tLowAbs + g Obj.tLowRel * b / 65536 ≤ g Obj.tHighAbs + g Obj.tHighRel * b / 65536))

/-- A PDO entry: PRE-OP alone, and an object of 1 to 8 bytes that the direction allows; 0 unmaps (R496). -/
def pdoCheck (rx fixed : Bool) : OwnerCheck := fun w v =>
  let n := v.toNat
  if w.get Obj.ecatState ≠ 2 then some .mode
  else if fixed then (if n = 0xB0400120 then none else some .notMappable)
  else if n = 0 then none
  else match findRow (n / 65536) (n / 256 % 256) with
    | none => some .notMappable
    | some r =>
      if r.typ.isBlob || 8 * r.typ.size ≠ n % 256 then some .notMappable
      else if rx then (if r.access == .rw || r.access == .rwl then none else some .notMappable)
      else if r.access == .wo then some .notMappable
      else none

/-- The places of a stream's setting that its window rests on. -/
def streamChecks : List (At OwnerCheck) :=
  ([1, 3, 4, 5, 7].map (fun i => (⟨0x6800, 1, 8, i, fun s => storedCheck ((0x6800 + s) * 256 + i) (fun w => w.streamFits s)⟩ : At OwnerCheck)))
  ++ [1, 3, 4, 8, 9, 10, 11].map (fun i => (⟨0x6900, 1, 64, i, fun m => storedCheck ((0x6900 + m) * 256 + i) (fun w => w.monFits m)⟩ : At OwnerCheck))

/-- Base, slots, slot size and write-back address of the rings (R487). -/
def ringChecks : List (At OwnerCheck) :=
  [⟨0x6710, 1, 4, 2, fun q w _ => ringBusy q w⟩, ⟨0x6710, 1, 4, 3, fun q w _ => ringBusy q w⟩,
   ⟨0x5900, 1, 1, 2, fun _ w _ => ringBusy 4 w⟩, ⟨0x5900, 1, 1, 3, fun _ w _ => ringBusy 4 w⟩,
   ⟨0x6810, 1, 8, 3, fun s w _ => ringBusy (5 + s) w⟩, ⟨0x6810, 1, 8, 4, fun s w _ => ringBusy (5 + s) w⟩,
   ⟨0x6810, 1, 8, 5, fun s w _ => ringBusy (5 + s) w⟩,
   ⟨0x6620, 1, 4, 2, fun q w _ => ringBusy (13 + q) w⟩, ⟨0x6620, 1, 4, 3, fun q w _ => ringBusy (13 + q) w⟩,
   ⟨0x6620, 1, 4, 4, fun q w _ => ringBusy (13 + q) w⟩, ⟨0xB010, 1, 17, 1, fun r w _ => ringBusy r w⟩]

/-- Positions, lanes, ports, correction and motion. -/
def setupChecks : List (At OwnerCheck) :=
  [⟨0x8000, 1, 16, 7, fun i => orderCheck (Obj.limitMin i) (Obj.limitMin i) (Obj.limitMax i) false⟩,
   ⟨0x8000, 1, 16, 8, fun i => orderCheck (Obj.limitMax i) (Obj.limitMin i) (Obj.limitMax i) false⟩,
   ⟨0x8100, 1, 1, 6, fun _ => atMost Obj.maxLineRate⟩, ⟨0x4800, 1, 1, 4, fun _ => atMost Obj.maxLineRate⟩,
   ⟨0x3400, 8, 128, 1, rateCheck⟩, ⟨0xC000, 1, 128, 2, eyeSettingCheck⟩, ⟨0xC000, 1, 128, 3, eyeSettingCheck⟩,
   ⟨0xC000, 1, 128, 4, eyeSettingCheck⟩,
   ⟨0x3000, 0x20, 32, 8, fun p => storedCheck (Obj.fieldPhase p) (fun w => decide (w.get (Obj.fieldPhase p) < w.get (Obj.fieldCount p)))⟩,
   ⟨0x3000, 0x20, 32, 9, fun p => storedCheck (Obj.fill p) (fun w => decide (w.getN (Obj.fill p) < 2 ^ w.getN (Obj.portDepth p)))⟩,
   ⟨0x5803, 4, 32, 2, fun p => storedCheck (Obj.statTag p) (fun w => decide (w.get (Obj.statTag p) < w.get (Obj.tagCount p)))⟩,
   ⟨0x5803, 4, 32, 3, fun p => storedCheck (Obj.statFirstPixel p)
      (fun w => decide (w.get (Obj.statFirstPixel p) + 63 ≤ w.get (Obj.statLastPixel p)))⟩,
   ⟨0x5803, 4, 32, 4, fun p => storedCheck (Obj.statLastPixel p)
      (fun w => decide (w.get (Obj.statFirstPixel p) + 63 ≤ w.get (Obj.statLastPixel p)))⟩,
   ⟨0x8800, 1, 16, 3, fun k => orderCheck (Obj.gateFirst k) (Obj.gateFirst k) (Obj.gateLast k) true⟩,
   ⟨0x8800, 1, 16, 4, fun k => orderCheck (Obj.gateLast k) (Obj.gateFirst k) (Obj.gateLast k) true⟩,
   ⟨0x8400, 1, 16, 3, fun a w v => if w.stepMin a < 2 * v.toNat then some .inconsistent else none⟩,
   ⟨0x8400, 1, 16, 5, fun a => atMost (Obj.maxStepRate a)⟩, ⟨0x8410, 1, 16, 8, fun a => atMost (Obj.maxStepRate a)⟩,
   ⟨0x8420, 1, 16, 3, fun a => atMost (Obj.maxStepRate a)⟩,
   ⟨0x8400, 1, 16, 8, fun a => orderCheck (Obj.softMin a) (Obj.softMin a) (Obj.softMax a) false⟩,
   ⟨0x8400, 1, 16, 9, fun a => orderCheck (Obj.softMax a) (Obj.softMin a) (Obj.softMax a) false⟩]

/-- The recipe: seams, thresholds, models, rules. -/
def recipeChecks : List (At OwnerCheck) :=
  ([1, 2, 3].map (fun i => (⟨0x5200, 1, 255, i, fun j => seamCheck j i⟩ : At OwnerCheck)))
  ++ [5, 6, 7, 8].map (fun i => (⟨0x6010, 1, 8, i, fun f => storedCheck ((0x6010 + f) * 256 + i) (fun w => w.thresholdsOk f)⟩ : At OwnerCheck))
  ++ [⟨0x6401, 1, 8, 1, fun _ => fieldModelCheck 0⟩, ⟨0x6401, 1, 8, 2, fun _ => fieldModelCheck 1⟩,
      ⟨0x6500, 1, 128, 2, fun r => orderCheck (Obj.classLo r) (Obj.classLo r) (Obj.classHi r) true⟩,
      ⟨0x6500, 1, 128, 3, fun r => orderCheck (Obj.classHi r) (Obj.classLo r) (Obj.classHi r) true⟩,
      ⟨0x6500, 1, 128, 7, fun r => orderCheck (Obj.aMin r) (Obj.aMin r) (Obj.aMax r) true⟩,
      ⟨0x6500, 1, 128, 8, fun r => orderCheck (Obj.aMax r) (Obj.aMin r) (Obj.aMax r) true⟩,
      ⟨0x6500, 1, 128, 10, fun r => orderCheck (Obj.bMin r) (Obj.bMin r) (Obj.bMax r) true⟩,
      ⟨0x6500, 1, 128, 11, fun r => orderCheck (Obj.bMax r) (Obj.bMin r) (Obj.bMax r) true⟩]

/-- Memory, queues, routing, supplies and EtherCAT. -/
def hubChecks : List (At OwnerCheck) :=
  [⟨0xA060, 1, 9, 1, fun b w v => w.bufferCheck b v.toNat⟩, ⟨0x9800, 1, 173, 4, fun q => watermarkCheck q true⟩,
   ⟨0x9800, 1, 173, 5, fun q => watermarkCheck q false⟩, ⟨0x2120, 1, 1, 7, fun _ => orderCheck Obj.tjWarn Obj.tjWarn Obj.tjThrottle false⟩,
   ⟨0x2120, 1, 1, 8, fun _ => orderCheck Obj.tjThrottle Obj.tjWarn Obj.tjThrottle false⟩]
  ++ (upTo 4).map (fun i => (⟨0x9001, 1, 1, 1 + i, fun _ => bankMaskCheck i⟩ : At OwnerCheck))
  ++ (upTo 128).map (fun j => (⟨0x7800, 1, 8, 1 + j, fun _ => routeCheck⟩ : At OwnerCheck))
  ++ (upTo 32).map (fun j => (⟨0x1600, 1, 1, 1 + j, fun _ => pdoCheck true false⟩ : At OwnerCheck))
  ++ (upTo 32).map (fun j => (⟨0x1A00, 1, 1, 1 + j, fun _ => pdoCheck false (j == 0)⟩ : At OwnerCheck))

/-- The owner's check of a numeric object. -/
def ownerCheck (key : Nat) : OwnerCheck :=
  (atKey (setupChecks ++ recipeChecks ++ streamChecks ++ ringChecks ++ hubChecks) key).getD noCheck

/-! ### Owners' effects -/

/-- What an accepted number does beyond being stored; `old` is the state before it. -/
def ownerEffects : List (At (Work → Int → Work → Work)) :=
  [⟨0x8100, 1, 1, 6, fun _ old _ w => w.freeSpeedChanged (old.get Obj.freeSpeed)⟩,
   ⟨0x6710, 1, 4, 1, fun q _ v w => w.ringSwitch q (v == 1)⟩, ⟨0x5900, 1, 1, 1, fun _ _ v w => w.ringSwitch 4 (v == 1)⟩,
   ⟨0x6620, 1, 4, 1, fun q _ v w => w.ringSwitch (13 + q) (v == 1)⟩,
   ⟨0xA010, 1, 64, 1, fun _ _ _ w => w.raiseEpoch⟩, ⟨0xA060, 1, 9, 1, fun _ _ _ w => w.raiseEpoch⟩,
   ⟨0xA000, 1, 1, 4, fun _ _ _ w => w.raiseEpoch⟩, ⟨0xA000, 1, 1, 5, fun _ _ _ w => w.raiseEpoch⟩,
   ⟨0xA000, 1, 1, 6, fun _ _ _ w => w.raiseEpoch⟩, ⟨0xA000, 1, 1, 7, fun _ _ _ w => w.raiseEpoch⟩,
   ⟨0xA000, 1, 1, 8, fun _ _ _ w => w.raiseEpoch⟩]
  ++ [1, 3, 4, 5, 7].map (fun i => ⟨0x6800, 1, 8, i, fun _ _ _ w => w.showStreamLoad⟩)

/-- The owner's effect of a numeric object. -/
def ownerEffect (key : Nat) : Work → Int → Work → Work := (atKey ownerEffects key).getD (fun _ _ w => w)

/-! ### Domain transfers of PCIe (R52, R53) -/

/-- The end of a transfer: status, result, and the completion event with its vector (R53, R488). -/
def Work.dtEnd (w : Work) (status : Nat) (r : Res) : Work :=
  let w := { w with d := { w.d with dt := {} } }
  ((w.set Obj.dtStatus status).set Obj.dtResult r.code).msix 0

/-- Show what was moved. -/
def Work.dtMoved (w : Work) (b : Bytes) : Work := (w.set Obj.dtCrc (crc32 b).toNat).set Obj.dtDoneLength b.length

/-- DT_CTRL 1: the transfer named by the objects begins. An upload's copy is taken now (R53); one that is refused, or larger than the buffer,
ends refused. -/
def dtBegin (x : Both) : Both :=
  let w := x.2
  let key := w.getN Obj.dtTarget
  let w := ((w.set Obj.dtStatus 1).set Obj.dtResult 0).set Obj.dtDoneLength 0
  let dt : DomXfer := { busy := true, key := key, upload := w.get Obj.dtDirection = 1, addr := w.getN Obj.dtHostAddr }
  if !dt.upload then (x.1, { w with d := { w.d with dt := dt } })
  else match readObject x.1 w key with
    | .error e => (x.1, (w.refuse .pcie key e).dtEnd 3 e)
    | .ok (.num _, w) => (x.1, (w.refuse .pcie key .length).dtEnd 3 .length)
    | .ok (.bytes b, w) =>
      if w.getN Obj.dtLength < b.length then (x.1, (w.refuse .pcie key .length).dtEnd 3 .length)
      else (x.1, { w with d := { w.d with dt := { dt with bytes := b } } })

/-- DT_CTRL 2: a running transfer ends and changes nothing (R53). -/
def dtStop (x : Both) : Both :=
  if x.2.d.dt.busy then (x.1, { x.2 with d := { x.2.d with dt := {} } }.set Obj.dtStatus 0) else x

/-- DT_CTRL: refused with BUSY while a transfer runs, unless it aborts it. -/
def dtCtrl (p : Path) (v : Int) (x : Both) : Both :=
  writeNumNv p Obj.dtCtrl (.num v) (fun w => if v == 1 && w.d.dt.busy then some .busy else none) (if v = 1 then dtBegin else dtStop) x

/-! ### Rows of the command table -/

/-- A change of everything but the non-volatile part. -/
def wk (f : Work → Work) (x : Both) : Both := (x.1, f x.2)

/-- A burn whose read-back the spec leaves to the fuse. -/
def fused (f : Bool → Both → Both) (x : Both) : Both :=
  let r := x.2.chance
  f r.1 (x.1, r.2)

/-- The row that a value of a numeric object takes, if it has one. -/
abbrev NumRow := Path → Int → Option (Both → Both)

/-- Pick a row by its code. -/
def codes (rows : List (Int × (Path → Both → Both))) : NumRow := fun p v => (rows.find? (fun r => r.1 == v)).map (fun r => r.2 p)

/-- Camera lanes and ports. -/
def plantRows : List (At NumRow) :=
  let l := Fin.ofNat 128
  let q := Fin.ofNat 32
  [⟨0x3401, 8, 128, 1, fun i => codes [(1, fun p => wk (bitslip p (l i)))]⟩,
   ⟨0x3403, 8, 128, 1, fun i => codes [(1, fun p => wk (laneRetrain p (l i))), (4, fun p => wk (patternStart p (l i))),
      (5, fun p => wk (patternStop p (l i)))]⟩,
   ⟨0xC000, 1, 128, 1, fun i => codes [(1, fun p => wk (eyePoint p (l i))), (2, fun p => wk (eyeMap p (l i))), (3, fun p => wk (eyeAbortCmd p (l i)))]⟩,
   ⟨0x3003, 0x20, 32, 4, fun i => codes [(1, fun p => wk (regRead p (q i))), (2, fun p => wk (regWrite p (q i)))]⟩,
   ⟨0x3004, 0x20, 32, 1, fun i => codes [(1, fun p => wk (portSuspend p (q i)))]⟩,
   ⟨0x8000, 1, 16, 6, fun i p v => some (wk (countWrite p (Fin.ofNat 16 i) v))⟩]
  ++ (upTo 8).map (fun f => (⟨0x5800, 4, 32, 1 + f, fun i p v => some (wk (exposureWrite p (q i) (Fin.ofNat 8 f) v))⟩ : At NumRow))
  ++ (upTo 8).map (fun f => (⟨0x5801, 4, 32, 1 + f, fun i p v => some (wk (camGainWrite p (q i) (Fin.ofNat 8 f) v))⟩ : At NumRow))

/-- Calibration. -/
def calRows : List (At NumRow) :=
  let q := Fin.ofNat 32
  [⟨0x4810, 1, 32, 1, fun i => codes [(1, fun p => wk (pcalDark p (q i))), (2, fun p => wk (pcalFlat p (q i))), (4, fun p => wk (pcalAbort p (q i)))]⟩,
   ⟨0x4800, 1, 1, 5, fun _ => codes [(1, fun p => wk (calConfirmInPlace p)), (2, fun p => wk (calConfirmRemoved p))]⟩,
   ⟨0x4810, 1, 32, 17, fun i => codes [(1, fun p => wk (pcalConfirmInPlace p (q i))), (2, fun p => wk (pcalConfirmRemoved p (q i)))]⟩,
   ⟨0x4810, 1, 32, 2, fun i => codes [(1, fun p => wk (workOpenCopy p (q i))), (2, fun p => wk (workOpenFresh p (q i))),
      (3, fun p => wk (workDiscard p (q i)))]⟩,
   ⟨0x4800, 1, 1, 1, fun _ p v => if v < 0 || 2 ^ 32 ≤ v then none else some (wk (calCommit p (BitVec.ofInt 32 v)))⟩]

/-- Streams, monitors, compression, markers and axes. -/
def outputRows : List (At NumRow) :=
  let a := Fin.ofNat 16
  [⟨0x6800, 1, 8, 13, fun i => codes [(1, fun p => wk (streamSyncCmd p (Fin.ofNat 8 i)))]⟩,
   ⟨0x6900, 1, 64, 12, fun i => codes [(1, fun p => wk (monSyncCmd p (Fin.ofNat 64 i)))]⟩,
   ⟨0x7410, 1, 4, 4, fun i => codes [(1, fun p => wk (engineAbort p (Fin.ofNat 4 i)))]⟩,
   ⟨0x8800, 1, 16, 10, fun k p v => some (wk (hcTarget p (a k) v))⟩,
   ⟨0x8800, 1, 16, 11, fun k => codes [(1, fun p => wk (mqClear p (a k)))]⟩,
   ⟨0x8420, 1, 16, 7, fun i => codes [(1, fun p => wk (mvPush p (a i)))]⟩,
   ⟨0x8430, 1, 16, 9, fun i => codes [(1, fun p => wk (axisStop p (a i))), (2, fun p => wk (axisQuickStop p (a i))), (3, fun p => wk (axisHalt p (a i))),
      (4, fun p => wk (axisEnable p (a i))), (5, fun p => wk (axisDisable p (a i))),
      (6, fun p x => wk (axisClearFault p (a i) (!(x.2.ax i).faultLow)) x)]⟩,
   ⟨0x8480, 1, 4, 2, fun g => codes [(1, fun p => wk (groupStop p (Fin.ofNat 4 g))), (2, fun p => wk (groupQuickStop p (Fin.ofNat 4 g)))]⟩]

/-- The hub: clusters, memory, DMA, events, pairing, fuses, domain transfers. -/
def hubRows : List (At NumRow) :=
  [⟨0xA010, 1, 64, 2, fun c => codes [(1, fun p => wk (clRelease p (Fin.ofNat 64 c))), (2, fun p => wk (clReturn p (Fin.ofNat 64 c)))]⟩,
   ⟨0x9040, 1, 64, 2, fun n => codes [(1, fun p => wk (pcRetrainCmd p (Fin.ofNat 64 n)))]⟩,
   ⟨0x9410, 1, 64, 2, fun c => codes ([1, 2, 3].map (fun k => ((k : Int), fun p => wk (spCommand p (Fin.ofNat 64 c) k.toNat))))⟩,
   ⟨0x7000, 1, 32, 2, fun c => codes ([1, 2, 3].map (fun k => ((k : Int), fun p => wk (chCommand p (Fin.ofNat 32 c) k.toNat))))⟩,
   ⟨0x7860, 1, 1, 1, fun _ p v => if v < 0 || 65536 ≤ v then none else some (wk (swRaise p (BitVec.ofInt 16 v)))⟩,
   ⟨0xA800, 1, 1, 4, fun _ => codes ([1, 2].map (fun k => ((k : Int), fun p => wk (fun w => w.command p Obj.pairCmd k always (fun w => w.pairAct k.toNat)))))⟩,
   ⟨0x2300, 1, 1, 7, fun _ => codes ([0x4C4B0001, 0x4C4B0002, 0x4C4B0003, 0x4C4B0010, 0x4C4B0011, 0x4C4B0012, 0x4C4B0013].map
      (fun k => ((k : Int), fun p => fused (fuseCommand p k.toNat))))⟩,
   ⟨0x2300, 1, 1, 5, fun _ => codes [(1, fun p => fused (rollbackCommit p))]⟩,
   ⟨0x1F90, 1, 1, 5, fun _ p v => if v == 1 || v == 2 then some (dtCtrl p v) else none⟩]

/-- The rows of blocks. -/
def blobRows : List (At (Path → Bytes → Both → Both)) :=
  [⟨0x4100, 1, 256, 1, fun i p b => wk (lutTableWrite p (Fin.ofNat 4 (i / 64)) (Fin.ofNat 64 i) b)⟩,
   ⟨0x4830, 1, 32, 4, fun i p b => wk (calImport p (Fin.ofNat 32 i) b)⟩, ⟨0x4880, 1, 1, 15, fun _ p b => wk (geomImport p b)⟩,
   ⟨0x6410, 1, 8, 1, fun m p b x => (x.1, modelImageWrite p (Fin.ofNat 8 m) b x.1 x.2)⟩,
   ⟨0x7000, 1, 32, 1, fun c p b => wk (chProgramWrite p (Fin.ofNat 32 c) b)⟩, ⟨0x2303, 1, 1, 1, fun _ p b => fwImageWrite p b⟩,
   ⟨0x2308, 1, 1, 1, fun _ p b => fused (ownerKeyBurn p b)⟩, ⟨0x230B, 1, 1, 2, fun _ p b => wk (debugToken p b)⟩]

/-- The owner's check of a block without a row. -/
def blobChecks : List (At (Work → Bytes → Option Res)) :=
  [⟨0x5000, 1, 1, 7, fun _ => kernelCheck⟩,
   ⟨0x4830, 1, 32, 1, fun p w b => if b.length % 4 = 0 && mapOk (w.shapeOf p) (mapOfBytes b) none then none else some .format⟩,
   ⟨0x3003, 0x20, 32, 3, fun p w b => if b.length = w.getN (Obj.regLength p) then none else some .length⟩]

/-! ### The write -/

/-- The value as a number, where it is one of the object's width. -/
def asNum (r : ObjRow) : DictVal → Option Int
  | .num n => some n
  | .bytes b => if b.length = r.typ.size then some (r.typ.decode b) else none

/-- A write of any object but those of the mode machine and the write groups. -/
def writeBase (p : Path) (key : Nat) (v : DictVal) (x : Both) : Both :=
  let plain := fun (x : Both) => wk (fun w => w.writeNum p key v (ownerCheck key) (ownerEffect key w)) x
  match findRow (key / 256) (key % 256) with
  | none => plain x
  | some r =>
    if r.typ.isBlob then
      match v with
      | .num _ => plain x
      | .bytes b =>
        match atKey blobRows key with
        | some f => f p b x
        | none => wk (fun w => w.writeBlob p key b ((atKey blobChecks key).getD (fun _ _ => none)) (fun _ w => w)) x
    else
      match (asNum r v).bind (fun n => ((atKey (plantRows ++ calRows ++ outputRows ++ hubRows) key).bind (fun f => f p n))) with
      | some f => f x
      | none => plain x

/-! ### Commands of this file -/

/-- DT_START: DT_CTRL 1. -/
def execDtStart (p : Path) : State → Host.Outcome State Fault Refusal := onBoth (dtCtrl p 1)

/-- DT_ABORT: DT_CTRL 2. -/
def execDtAbort (p : Path) : State → Host.Outcome State Fault Refusal := onBoth (dtCtrl p 2)

end Sys2Proof.Machine
end

