-- ==== Sys2Proof/Machine/Commit.lean ====
section
/-! DEFINITION. The configuration commit (R29, R35, R76 to R79, R107, R136, R137, R140, R176, R220, R466, R554, R557): the consistency checks on a
staged configuration, and what bringing it into force does. -/
namespace Sys2Proof.Machine

/-! ### The web group's conditions (R466) -/

/-- The settings that must be equal in a group, in the order DESC carries them. -/
def Work.descSettings (w : Work) : List Int :=
  let src := w.confN Obj.webSource
  let p := w.activePorts.headD 0
  [if src < 16 then w.conf (Obj.piMode src) else 0, if src < 16 then w.conf (Obj.direction src) else 0, w.conf Obj.scaleNum,
   w.conf Obj.scaleDen, w.conf Obj.frameLength, w.conf Obj.maxLineRate, w.conf Obj.segFields, w.conf Obj.connectivity,
   w.conf (Obj.fieldMode p), w.conf (Obj.fieldCount p), w.conf (Obj.fieldPhase p)]

/-- The modules of a group, in table order, with their partners. -/
def Work.groupPeers (w : Work) : List Nat :=
  (upTo 8).flatMap (fun j => [w.confN (Obj.memberAddr j), w.confN (Obj.memberPartner j)].filter (fun a => decide (a < 1024) && a != w.ylAddress))

/-- What is known of member j's place and settings: its last DESC, or the module's own staged values. -/
def Work.memberDesc (w : Work) (j width : Nat) : Option DescMsg :=
  if w.memberIndex = some j then some ⟨w.groupBase, width, w.descSettings⟩ else (nth {} w.sys.members j).desc

/-- The address of the first member, in table order, whose settings differ or whose columns do not continue those before it. -/
def Work.groupFault (w : Work) (width : Nat) : Option Nat :=
  if w.confN Obj.groupId = 0 then none
  else (upTo 8).findSome? (fun j =>
    match w.memberDesc j width with
    | none => none
    | some d =>
      let differs := d.settings != w.descSettings
      let shifted := decide (0 < j) && (match w.memberDesc (j - 1) width with
        | some b => d.base != b.base + b.width
        | none => false)
      if differs || shifted then some (w.confN (Obj.memberAddr j)) else none)

/-- Send DESC to every module of the group. -/
def Work.sendDesc (w : Work) : Work :=
  if w.confN Obj.groupId = 0 then w
  else w.groupPeers.foldl (fun w a =>
    (w.ylSend a 5 1 ([w.groupBase, w.loom.width] ++ w.descSettings.map Int.toNat) []).1) w

/-- Member j is listed and is another module than this one (R465). -/
def Work.memberUsed (w : Work) (j : Nat) : Bool :=
  w.confN Obj.groupId ≠ 0 && decide (w.confN (Obj.memberAddr j) < 1024) && w.memberIndex ≠ some j

/-- GROUP_STATE and ABSENT_MASK (R468). -/
def Work.showGroup (w : Work) : Work :=
  let mask := sumNat (((upTo 8).filter (fun j => w.memberUsed j && (nth {} w.sys.members j).absent)).map (2 ^ ·))
  (w.set Obj.absentMask mask).set Obj.webGroupState (if w.confN Obj.groupId = 0 then 0 else if mask = 0 then 1 else 2)

/-- The member table in force: what was known of a place that names another module now is forgotten. -/
def Work.groupCommit (w old : Work) : Work :=
  let same := fun (j : Nat) => w.conf Obj.groupId == old.conf Obj.groupId && w.conf (Obj.memberAddr j) == old.conf (Obj.memberAddr j)
  let w := { w with sys := { w.sys with members := w.sys.members.zipIdx.map (fun e => if same e.2 then e.1 else {}) } }
  ((upTo 8).foldl (fun (w : Work) j => if same j then w else w.set (Obj.memberBase j) 0) w).showGroup

/-! ### The checks on a staged configuration, which stands in `conf` -/

/-- Pixels per trigger of a die's active tags. -/
def Work.diePixels (w : Work) (d : Nat) : Nat :=
  sumNat ((w.activePorts.filter (fun p => dieOfPort p == d)).map (fun p => sumNat ((w.tagsOf p).map (w.tagPx p))))

/-- The limit of a die in pixels per second (R33). -/
def Work.dieLimit (w : Work) : Nat := if w.conf Obj.spreadEnable = 1 then 31840000000 else 32000000000

/-- DIE_RATE: the lowest die over its limit. -/
def Work.dieRateFault (w : Work) : Option Nat :=
  (upTo 4).find? (fun d => decide (w.dieLimit < w.diePixels d * w.confN Obj.maxLineRate))

/-- PACKAGE_RATE: the rate in Mpixel/s over the limit. -/
def Work.packageRateFault (w : Work) : Option Nat :=
  let r := sumNat ((upTo 4).map w.diePixels) * w.confN Obj.maxLineRate
  if 4 * w.dieLimit < r then some (r / 1000000) else none

/-- The pseudo-channels of the address map (R79). -/
def Work.pcsInMap (w : Work) : List Nat := (upTo 64).filter (fun n => w.getN (Obj.pcState n) ≠ 4)

/-- STAGGER: the lowest port of an active sensor whose stagger exceeds half the depth. -/
def Work.staggerFault (w : Work) (recs : List Nat) : Option Nat :=
  let d := w.depthOf (w.ringBytesWith w.pcsInMap.length)
  leastOf (((recs.map geoOf).filter (fun g => w.activeSensors.contains g.sensor && decide (d < 2 * g.stagger))).map (fun g => g.port))

/-- WIDTH: the plane's width over 524,288. -/
def Work.widthFault (w : Work) (recs : List Nat) : Option Nat :=
  let n := (w.planeOf recs).2
  if 524288 < n then some n else none

/-- Whether a lane's RATE is one of the port's protocol. -/
def Work.rateFits (w : Work) (p l : Nat) : Bool :=
  let r := w.confN (Obj.rateObj l)
  if w.portCxp p then isCxpRate r else isRslRate r

/-- A fault of the quad of port p (R136, R137). -/
def Work.quadFault (w : Work) (p : Nat) : Bool :=
  let n := if w.portActive p then w.confN (Obj.lanes p) else 0
  let taken := if p % 2 = 1 && w.portActive (p - 1) && w.confN (Obj.lanes (p - 1)) = 8 then 4 else 0
  let used := (upTo n).map (4 * p + ·)
  let spare := ((upTo 4).drop (max n taken)).map (4 * p + ·)
  let r0 := w.confN (Obj.rateObj (4 * p))
  used.any (fun l => !w.rateFits p l || w.confN (Obj.rateObj l) != r0) || spare.any (fun l => w.confN (Obj.rateObj l) != 0)
    || (n == 8 && (p % 2 == 1 || w.portActive (p + 1) || w.portCxp p))

/-- A fault of an active port's tags (R140, R557). -/
def Work.tagFault (w : Work) (recs : List Nat) (p : Nat) : Bool :=
  let ts := w.tagsOf p
  let stag := fun (t : Nat) => (((recs.map geoOf).find? (fun g => g.sensor == 8 * p + t)).map (fun g => g.stagger)).getD 0
  ts.any (fun t => w.tagPx p t == 0)
    || (w.fieldModeOf p == 2 && (ts.any (fun t => w.tagPx p t != w.tagPx p 0) || w.fieldsOf p != w.confN (Obj.tagCount p)))
    || (w.fieldModeOf p == 1 && ts.any (fun t => (stag t : Int) % (w.fieldsOf p : Int) != (stag 0 : Int) % (w.fieldsOf p : Int)))

/-- The lowest active port of a die whose correction store is too small (R176). -/
def Work.storeFault (w : Work) : List Nat :=
  (upTo 4).flatMap (fun d =>
    let ps := w.activePorts.filter (fun p => dieOfPort p == d)
    if 524288 < sumNat (ps.map (fun p => (w.shapeOf p).size)) then ps.take 1 else [])

/-- GEOMETRY: the lowest port at fault, or the member at fault (R220, R466). -/
def Work.geometryCheck (w : Work) (recs : List Nat) : Option Nat :=
  let ports := (upTo 32).filter w.quadFault ++ w.activePorts.filter (w.tagFault recs) ++ w.storeFault ++ (w.geometryFault recs).toList
  match leastOf ports with
  | some p => some p
  | none => (w.groupFault (w.planeOf recs).2).map (fun a => 0x10000 + a)

/-- A port's set in force or a complete working set of its shape carries FLAT (R208, R554). -/
def Work.hasFlat (w : Work) (p : Nat) : Bool :=
  let shape := w.shapeOf p
  let inForce := w.setAt p w.frame
  let work := if w.get (Obj.workState p) = 3 then (w.calOf p).work else none
  (inForce.flat && inForce.sameShape shape) || (match work with
    | some c => c.flat && c.sameShape shape
    | none => false)

/-- UNCALIBRATED: the lowest active port without a flat-field set, unless ALLOW_UNCAL. -/
def Work.uncalFault (w : Work) : Option Nat :=
  if w.conf Obj.allowUncal = 1 then none else w.activePorts.find? (fun p => !w.hasFlat p)

/-- The geometry set a commit brings into force: the working set, else the one in force. -/
def Work.geomStaged (w : Work) : Option GeomSet := w.loom.work.orElse (fun _ => w.loom.geom)

/-- Its records. -/
def Work.geomRecs (w : Work) : List Nat := (w.geomStaged.map (fun g => g.recs)).getD []

/-- The failed checks of a staged configuration in the order of the refusal codes (R76, R77): the check's bit and the detail. -/
def Work.commitFaults (w : Work) : List (Nat × Nat) :=
  let recs := w.geomRecs
  [w.dieRateFault, w.packageRateFault, w.staggerFault recs, w.widthFault recs, w.geometryCheck recs, w.uncalFault].zipIdx.filterMap
    (fun e => e.1.map (fun d => (e.2, d)))

/-- The staged configuration as the one in force. -/
def Work.staged (w : Work) : Work := { w with d := { w.d with conf := w.d.regs, blobConf := w.d.blobs } }

/-- A FRAME_LENGTH other than the one in force is refused (R107). -/
def Work.frameLenFault (w : Work) : Bool :=
  match w.axis.frameLen with
  | some f => w.getN Obj.frameLength ≠ f
  | none => false

/-! ### Refusal -/

/-- REFUSAL, REFUSAL_DETAIL and REFUSAL_MASK. -/
def Work.showRefusal (w : Work) (code detail mask : Nat) : Work :=
  ((w.set Obj.refusal code).set Obj.refusalDetail detail).set Obj.refusalMask mask

/-- A commit or load is refused: HOLD by cause 7, or 4 at the end of TRAIN (R70); outputs are inactive and axes disabled there (R66). -/
def Work.toHold (w : Work) : Work :=
  let cause := if w.mode == .train then 4 else 7
  let w := if w.mode == .hold then w else ((w.markersOff).axesOff).evtOutsOff
  w.modeTo .hold cause

/-- The refusal of a commit's checks. -/
def Work.refuseCommit (w : Work) (fs : List (Nat × Nat)) : Work :=
  match fs with
  | [] => w
  | f :: _ => (w.showRefusal (0x10 + f.1) f.2 (sumNat (fs.map (fun e => 2 ^ e.1)))).toHold

/-! ### Passing -/

/-- Sets whose shape no longer matches are dropped (R554). -/
def Work.dropSets (w : Work) : Work :=
  (upTo 32).foldl (fun w p =>
    let shape := w.shapeOf p
    let c := w.calOf p
    let keep := c.sets.filter (fun e => e.2.sameShape shape)
    let w := if keep.length = c.sets.length then w else
      ((w.updCal p (fun c => { c with sets := keep })).showSet p w.frame).storeUse (dieOfPort p)
    match c.work with
    | some s => if s.sameShape shape then w else (w.updCal p (fun c => { c with work := none })).set (Obj.workState p) 0
    | none => w) w

/-- The complete working sets of active ports are committed together (R208). -/
def Work.commitWorking (w : Work) : Work :=
  let ps := w.activePorts.filter w.workComplete
  if ps.isEmpty then w else w.commitSets ps

/-- The geometry working set takes effect with a generation of its own (R203, R211), and the plane with it. -/
def Work.commitGeom (w : Work) : Work :=
  let w := match w.loom.work with
    | none => w
    | some g =>
      let n := w.getN Obj.nextGen
      let g := { g with gen := n, created := w.timeNs, originGen := if g.originGen = 0 then n else g.originGen }
      let w := (w.set Obj.nextGen ((n : Int) + 1)).set Obj.geomGen n
      { w with loom := { w.loom with geom := some g, work := none } }
  let w := { w with loom := { w.loom with cut := [], runs := [], halo := [], excl := [], next := none } }
  w.setPlane ((w.loom.geom.map (fun g => g.recs)).getD [])

/-- What a port's camera was configured by: a change starts the port anew. -/
def Work.portShape (w : Work) (p : Nat) : List Int × Bytes :=
  ([Obj.portEnable p, Obj.protocol p, Obj.lanes p, Obj.portDepth p, Obj.tagCount p, Obj.identCheck p].map w.conf
    ++ (upTo 8).map (fun t => w.conf (Obj.tagPixels p t)) ++ (upTo 4).map (fun i => w.conf (Obj.rateObj (4 * p + i))),
    (alGet w.d.blobConf (Obj.expectModel p)).getD [])

/-- A port starts anew: nothing outstanding, PORT_STATE off or wait link (R165). -/
def Work.portRestart (w : Work) (p : Nat) : Work :=
  let w := w.updPort p (fun q => { q with
    waiting := List.replicate 8 [], rx := [], lastOwn := [], downBounds := 0, matched := none, txn := none, passWait := none, expWait := false
    suspended := false, suspendAt := none, resuming := false, readyAt := none, poison := none })
  (w.stopTimer (.discovery p)).set (Obj.portState p) (if w.portActive p then 1 else 0)

/-- Lanes and ports take the configuration in force; those it does not change go on. -/
def Work.commitPorts (w old : Work) : Work :=
  let lanes := (upTo 128).filter (fun l => w.conf (Obj.rateObj l) ≠ old.conf (Obj.rateObj l))
  let w := lanes.foldl (fun w l => ((w.eyeAbort l).setLane l lsOff).updLane l (fun n => { eye := n.eye })) w
  let w := w.lanesPower
  ((upTo 32).filter (fun p => w.portShape p ≠ old.portShape p)).foldl (fun w p => w.portRestart p) w

/-- A port in the configuration whose camera has not been found is lost capacity until it is (R87); a port out of it is none. -/
def Work.absentPorts (w : Work) : Work :=
  let found := fun (p : Nat) => w.get (Obj.portState p) = 4 || w.get (Obj.portState p) = 5
  let kept := w.run.capacity.filter (fun c => match c with
    | .absent _ => false
    | .port p => w.portActive p
    | _ => true)
  { w with run := { w.run with capacity := kept ++ (w.activePorts.filter (fun p => !found p)).map Cap.absent } }

/-- At the first commit after a cold start the exposure values written before it are in force (R307). -/
def Work.firstExposure (w : Work) : Work :=
  if w.get Obj.configGen ≠ 0 then w
  else
    let mine := fun (k : Nat) => decide (0x5800 ≤ k / 256) && decide (k / 256 < 0x5880) && decide ((k / 256) % 4 < 2)
    { w with d := { w.d with changes := w.d.changes.map (fun c => if mine c.key then { c with frame := min c.frame w.frame } else c) } }

/-- Bring the staged configuration into force (R76): the web axis keeps P (R105), the ring is empty (R398), READY is entered by cause 6, or 5 at
the end of TRAIN, complete working sets are committed, DESC goes to the group and a secondary asks to be paired (R473). -/
def Work.commitPass (w : Work) : Work :=
  let old := w
  let p := w.posAt w.clk.ctl
  let gen := w.getN Obj.geomGen
  let cause := if w.mode == .train then 5 else 6
  let w := (w.staged.firstExposure).bump Obj.configGen
  let w := w.showRefusal 0 0 0
  let moved := [Obj.webSource, Obj.scaleNum, Obj.scaleDen].any (fun k => decide (w.conf k ≠ old.conf k))
  let w := if moved then w.axisRebase p else if w.axis.started then w.reloadTimer w.clk.ctl else w
  let w := (w.dropSets).commitGeom
  let w := if w.getN Obj.geomGen = gen then w else w.seamsToDefault
  let w := w.commitPorts old
  let w := ((w.ringEmpty w.pcsInMap).showDepth.showLoads).showStreamLoad
  let w := { w with hbm := { w.hbm with lossDue := [] } }
  let w := ((w.absentPorts).modeTo .ready cause).commitWorking
  let w := (w.groupCommit old).sendDesc
  let w := { w with sys := { w.sys with pair := { w.sys.pair with setsDue := true } } }
  if w.pairMayAsk then w.pairAsk else w

/-- A commit of the staged configuration (R76): the checks, then READY or HOLD. -/
def Work.commitRun (w : Work) : Work :=
  if w.frameLenFault then (w.showRefusal 5 (0x8100 * 65536 + 5 * 256 + 0x0A) 0).toHold
  else
    match w.staged.commitFaults with
    | [] => w.commitPass
    | fs => w.refuseCommit fs

end Sys2Proof.Machine
end

