-- ==== Sys2Proof/Machine/Profiles.lean ====
section
/-! DEFINITION. Stored profiles (R80 to R83, R500, R510) and service images (R169, R170): the checks of an image, its entries as writes, the load
and the programming of the flash. -/
namespace Sys2Proof.Machine

/-! ### Entries (R80, R81) -/

/-- An entry: the target's key and the value in its encoding. -/
structure ProfEntry where
  key   : Nat
  value : Bytes
  deriving DecidableEq, Repr

/-- The length of a value fits its target: a numeric object's value has the length of its type (R81). -/
def entryFits (idx sub n : Nat) : Bool :=
  match findRow idx sub with
  | some r => r.typ.isBlob || n == r.typ.size
  | none => true

/-- The entries of a body that begins at byte `o`, or the byte offset of the fault. The fuel bounds their number. -/
def entriesFrom : Nat → Bytes → Nat → Except Nat (List ProfEntry)
  | 0, _, _ => .ok []
  | fuel + 1, b, o =>
    if b.isEmpty then .ok []
    else if b.length < 8 then .error o
    else if leAt b 3 1 ≠ 0 then .error (o + 3)
    else
      let idx := leAt b 0 2
      let sub := leAt b 2 1
      let n := leAt b 4 4
      let whole := (n + 7) / 8 * 8
      if n = 0 || 33554336 < n || b.length < 8 + whole || !entryFits idx sub n then .error (o + 4)
      else if !allZero (slice b (8 + n) (whole - n)) then .error (o + 8 + n)
      else match entriesFrom fuel (b.drop (8 + whole)) (o + 8 + whole) with
        | .ok es => .ok (⟨objKey idx sub, slice b 8 n⟩ :: es)
        | .error e => .error e

/-- The entries of a body. -/
def entriesOf (b : Bytes) (o : Nat) : Except Nat (List ProfEntry) := entriesFrom (b.length + 1) b o

/-! ### The checks of an image (R77, R82, R510) -/

/-- What the checks of a slot find: PROFILE_STATE, the refusal code and detail of a load, CAM_WAIT_MS and the entries. -/
structure ProfCheck where
  state   : Nat
  code    : Nat
  detail  : Nat
  wait    : Nat := 0
  entries : List ProfEntry := []

/-- The byte offset of the first fault of a header (R80, R81). -/
def headerFault (slot : Nat) (b : Bytes) : Option Nat :=
  let resv := (([4, 5, 6, 7] : List Nat).find? (fun i => leAt b i 1 ≠ 0))
  if leAt b 0 4 ≠ 0x46505A54 then some 0
  else match resv with
    | some i => some i
    | none =>
      if leAt b 8 2 ≠ 1 then some 8
      else if leAt b 10 1 ≠ slot then some 10
      else if leAt b 11 1 / 4 ≠ 0 then some 11
      else if leAt b 16 4 % 8 ≠ 0 then some 16
      else if 60000 < leAt b 20 4 then some 20
      else none

/-- The checks of digest, signature and format, in the order of the refusal codes. -/
def profCheck (nv : NonVol) (slot : Nat) : ProfCheck :=
  let s := nth ({} : FlashSlot) nv.flash.profiles slot
  let b := s.bytes
  let fin := 64 + leAt b 16 4
  let digest := slice b fin 32
  let isSigned := bitOf (leAt b 11 1) 0
  if b.isEmpty then { state := 0, code := 1, detail := slot }
  else if s.torn || b.length < fin + 32 || digest != shake256 (b.take fin) then { state := 3, code := 2, detail := slot }
  else if isSigned && !sigValid "TZPROF01" nv.fuses.ownerKeys digest (b.drop (fin + 32)) then { state := 4, code := 3, detail := slot }
  else
    let unsignedRefused := nv.fuses.signProfiles && !isSigned
    let fault := fun (o : Nat) => ({ state := 5, code := if unsignedRefused then 3 else 4, detail := if unsignedRefused then slot else o } : ProfCheck)
    match headerFault slot b with
    | some o => fault o
    | none =>
      match entriesOf (slice b 64 (fin - 64)) 64 with
      | .error o => fault o
      | .ok es =>
        if es.length ≠ leAt b 12 4 then fault 12
        else if !isSigned && b.length ≠ fin + 32 then fault (fin + 32)
        else if unsignedRefused then { state := 1, code := 3, detail := slot }
        else { state := if isSigned then 2 else 1, code := 0, detail := 0, wait := leAt b 20 4, entries := es }

/-- PROFILE_STATE, PROFILE_LENGTH and PROFILE_DIGEST of every slot (R82). -/
def showProf (x : Both) : Both :=
  (x.1, (upTo 4).foldl (fun (w : Work) s =>
    let b := (nth ({} : FlashSlot) x.1.flash.profiles s).bytes
    let busy := decide (x.1.flash.op = some (.profile s))
    let w := w.set (Obj.profileState s) (if busy then 6 else (profCheck x.1 s).state)
    (w.set (Obj.profileLength s) (if busy then 0 else b.length)).setBlob (Obj.profileDigest s) (profDigestOf b)) x.2)

/-! ### The flash (R82, R500) -/

/-- Change profile slot s. -/
def NonVol.putProfile (nv : NonVol) (s : Nat) (f : FlashSlot) (op : Option FlashOp) : NonVol :=
  { nv with flash := { nv.flash with profiles := upd nv.flash.profiles s (fun _ => f), op := op } }

/-- PROFILE_IMAGE_WRITE: the image is staged and programming starts; BUSY while another runs. -/
def profileImageWrite (p : Path) (s : Fin 4) (b : Bytes) (x : Both) : Both :=
  writeBlobNv p (Obj.profileImage s) b (fun nv _ _ => if nv.flash.op.isSome then some .busy else none)
    (fun x => showProf (x.1.putProfile s ⟨b, false⟩ (some (.profile s)), x.2)) x
def execProfileImageWrite (p : Path) (s : Fin 4) (b : Bytes) : State → Host.Outcome State Fault Refusal := onBoth (profileImageWrite p s b)

/-- PROFILE_PROGRAM_DONE: programming ends; the slot's state and length take the results of the checks. -/
def profileProgramDone (x : Both) : Both :=
  match x.1.flash.op with
  | some (.profile _) => showProf ({ x.1 with flash := { x.1.flash with op := none } }, x.2)
  | _ => x
def execProfileProgramDone : State → Host.Outcome State Fault Refusal := onBoth profileProgramDone

/-- PROFILE_ERASE: the slot is emptied; BUSY while a slot is programmed. -/
def profileEraseCmd (p : Path) (s : Fin 4) (x : Both) : Both :=
  writeNumNv p (Obj.profileErase s) (.num 1) (fun _ => if x.1.flash.op.isSome then some .busy else none)
    (fun x => showProf (x.1.putProfile s {} none, x.2)) x
def execProfileErase (p : Path) (s : Fin 4) : State → Host.Outcome State Fault Refusal := onBoth (profileEraseCmd p s)

/-! ### Service images (R169) -/

/-- Whether an object is one of port p or of a lane of its quad. -/
def portOwns (p : Nat) (key : Nat) : Bool :=
  let i := key / 256
  let span := fun (base n : Nat) => decide (base + n * p ≤ i) && decide (i < base + n * p + n)
  span 0x3000 0x20 || span 0x3400 0x20 || span 0x4000 8 || span 0x4810 1 || span 0x4830 1 || span 0x5800 4 || span 0xC000 4

/-- The check of a SERVICE_IMAGE: MODE unless the port is suspended, FORMAT for its layout, INCONSISTENT for an object of another owner. -/
def serviceCheck (p : Nat) (_ : NonVol) (w : Work) (b : Bytes) : Option Res :=
  if !(w.port p).suspended then some .mode
  else match entriesOf b 0 with
    | .error _ => some .format
    | .ok es => if es.all (fun e => portOwns p e.key) then none else some .inconsistent

/-- SERVICE_IMAGE_WRITE. -/
def serviceImageWrite (path : Path) (p : PortNo) (b : Bytes) (x : Both) : Both :=
  writeBlobNv path (Obj.serviceImage p) b (serviceCheck p) (fun x => x) x
def execServiceImageWrite (path : Path) (p : PortNo) (b : Bytes) : State → Host.Outcome State Fault Refusal := onBoth (serviceImageWrite path p b)

/-! ### Entries as writes (R55, R83) -/

/-- The commands of the mode machine, by key: an entry that names one is journaled and does not act. -/
def modeKeys : List Nat := [Obj.runCmd, Obj.calCmd, Obj.resetCmd, Obj.commit, Obj.loadProfile]

/-- A write from a profile: the flash and service images, and every object but the mode machine's commands. -/
def writeEntry (p : Path) (key : Nat) (v : DictVal) (x : Both) : Both :=
  if modeKeys.contains key then (x.1, x.2.writeNum p key v noCheck (fun _ w => w))
  else match v with
    | .bytes b =>
      match objNo 0x2010 1 4 1 key with
      | some s => profileImageWrite p (Fin.ofNat 4 s) b x
      | none => match objNo 0x3004 0x20 32 3 key with
        | some q => serviceImageWrite p (Fin.ofNat 32 q) b x
        | none => match objNo 0x2010 1 4 5 key with
          | some s => if b = [1] then profileEraseCmd p (Fin.ofNat 4 s) x else writeBase p key v x
          | none => writeBase p key v x
    | .num n =>
      match objNo 0x2010 1 4 5 key with
      | some s => if n = 1 then profileEraseCmd p (Fin.ofNat 4 s) x else writeBase p key v x
      | none => writeBase p key v x

/-- Entries applied one by one, or the key and result code of the first refused. -/
def applyEntries (p : Path) : List ProfEntry → Both → Except (Nat × Nat) Both
  | [], x => .ok x
  | e :: es, x =>
    let y := writeEntry p e.key (.bytes e.value) x
    if 0xFF < y.2.lastRes then .error (e.key, y.2.lastRes) else applyEntries p es y

/-- An entry's refusal counts like any other (R57), and REFUSAL shows it (R77). -/
def Work.entryRefused (w : Work) (key code : Nat) : Work :=
  ((w.bump Obj.refusedCount).set Obj.refusedObject (Int.ofNat (key % 2 ^ 24))).showRefusal 5 (key * 256 + code % 256) 0

/-! ### The load (R83) -/

/-- Load profile s: the checks, the entries as writes, the commit. When any step fails nothing of the load stays. -/
def loadRun (s : Nat) (x : Both) : Both :=
  let c := profCheck x.1 s
  let p : Path := .profile (Fin.ofNat 4 s)
  if c.code ≠ 0 then (x.1, (x.2.showRefusal c.code c.detail 0).toHold)
  else match applyEntries p c.entries x with
    | .error e => (x.1, (x.2.entryRefused e.1 e.2).toHold)
    | .ok y =>
      if y.2.frameLenFault then (x.1, (x.2.entryRefused Obj.frameLength 0x0A).toHold)
      else match y.2.staged.commitFaults with
        | [] => (y.1, ((y.2.tally p Obj.commit 1 y.2.frame false).commitPass).set Obj.activeProfile s)
        | fs => (x.1, x.2.refuseCommit fs)

/-! ### The service commit (R170) -/

/-- The configuration in force with the entries of a service image over it. -/
def Work.serviced (w : Work) (es : List ProfEntry) : Work :=
  let put := fun (d : Dict) (e : ProfEntry) =>
    match alGet d.regs e.key, alGet d.blobs e.key with
    | some v, _ => { d with conf := alSet d.conf e.key v }
    | none, some b => { d with blobConf := alSet d.blobConf e.key b }
    | none, none => d
  { w with d := es.foldl put w.d }

/-- The service commit takes effect: lanes retrain and the port is discovered again; the mode is unchanged and the ring keeps its rows (R398). -/
def Work.servicePass (w : Work) (p : Nat) : Work :=
  let w := (w.bump Obj.configGen).showRefusal 0 0 0
  let w := w.dropSets
  let w := if w.portActive p && w.workComplete p then w.commitSets [p] else w
  let w := if w.loom.geom.isSome then w.setPlane w.geomRecs else w
  let w := (upTo 4).foldl (fun w i => ((w.eyeAbort (4 * p + i)).setLane (4 * p + i) lsOff).updLane (4 * p + i) (fun n => { eye := n.eye })) w
  let w := (w.lanesPower.portRestart p).updPort p (fun q => { q with suspended := true, resuming := true })
  (w.showDepth).set (Obj.portCmdState p) 2

/-- The service image of port p is applied and the port resumes, or it stays suspended. -/
def portApply (p : Nat) (x : Both) : Both :=
  let w := x.2
  if !(w.port p).suspended || (w.port p).resuming || (upTo 32).any (fun q => (w.port q).resuming) then (x.1, w.set (Obj.portCmdState p) 3)
  else
    let es := match entriesOf (w.blob (Obj.serviceImage p)) 0 with
      | .ok es => es
      | .error _ => []
    let stay := fun (w : Work) => (x.1, w.set (Obj.portCmdState p) 1)
    match applyEntries .device es x with
    | .error e => stay (w.entryRefused e.1 e.2)
    | .ok y =>
      let t := y.2.serviced es
      match ({ t with loom := { t.loom with work := none } }).commitFaults with
      | [] => (y.1, t.servicePass p)
      | f :: fs => stay (w.showRefusal (0x10 + f.1) f.2 (sumNat ((f :: fs).map (fun e => 2 ^ e.1))))

/-- PORT_APPLY_RESUME: PORT_CMD 2. -/
def portApplyResume (path : Path) (p : PortNo) (x : Both) : Both :=
  writeNumNv path (Obj.portCmd p) (.num 2) always (portApply p) x (some x.2.frame)
def execPortApplyResume (path : Path) (p : PortNo) : State → Host.Outcome State Fault Refusal := onBoth (portApplyResume path p)

end Sys2Proof.Machine
end

