-- ==== Sys2Proof/Machine/Reset.lean ====
section
/-! DEFINITION. The two resets (R62, R70 cause 1, R82, R88, R106, R176, R296, R307, R508, R517, R533, R547, R550): what a warm reset keeps, and the
loss of both supplies. -/
namespace Sys2Proof.Machine

/-- The slot a programming was writing is cut short: it fails its digest from now on (R82, R508). -/
def NonVol.tear (nv : NonVol) : NonVol :=
  let torn := fun (f : FlashSlot) => { f with torn := true }
  match nv.flash.op with
  | none => nv
  | some (.profile s) => { nv with flash := { nv.flash with profiles := upd nv.flash.profiles s torn, op := none } }
  | some (.firmware s) => { nv with flash := { nv.flash with firmware := upd nv.flash.firmware s torn, op := none } }

/-- Numeric objects that a warm reset keeps: those of the table of R88 and of the chapters it points to, what the supplies and the memory controller
hold over it, and the class RESET (R42). -/
def keptOver (key : Nat) : Bool :=
  let i := key / 256
  [Obj.journalId, Obj.warmResets, Obj.overwritten, Obj.ledgerId, Obj.ledgerHwm, Obj.stDelivered, Obj.nextGen, Obj.geomGen, Obj.triggerHwm,
   Obj.configGen, Obj.lifeEquiv, Obj.opHours, Obj.slewFlash, Obj.vinAMv, Obj.vinBMv, Obj.supplyInUse, Obj.vioALevel, Obj.vioAMv,
   Obj.vioBMv].contains key
    || (decide (0x6710 ≤ i) && decide (i ≤ 0x6713)) || (upTo 4).any (fun j => key == Obj.bankMask j)
    || (upTo 32).any (fun p => key == Obj.expGen p)

/-- Timers of the supplies, which run over a warm reset. -/
def keptTimer : Timer → Bool
  | .holdup => true | .vinRange => true | .returnA => true | .supplyRange => true | .vio => true | .thermal => true | _ => false

/-- The rings of the Ledger go on as they stand; the others are off (R296). -/
def HostIf.overReset (h : HostIf) : HostIf :=
  { h with rings := h.rings.zipIdx.map (fun e => if e.2 < 4 then e.1 else {}) }

/-- What a port keeps: its exposure generation (R307). -/
def Port.overReset (q : Port) : Port := { exp := { gens := (q.exp.gens.take 1).map (fun g => (0, g.2)) } }

/-- What a port's calibration keeps: the newest committed set, from the first line after start-up on (R88, R214). -/
def PortCal.overReset (c : PortCal) : PortCal := { sets := (c.sets.take 1).map (fun e => (0, e.2)) }

/-- What the Ledger keeps: records numbered and not yet delivered, with those held for a partner, and the window. -/
def Ledger.overReset (l : Ledger) : Ledger := { staged := l.staged, losses := l.losses, window := l.window }

/-- A warm reset (R88): everything but what R88 and the chapters keep is lost; RESET is entered by cause 1. -/
def Work.warmReset (w : Work) : Work :=
  let w := (w.secondaryLeaves).releaseHeld
  let done := w.getN Obj.completeFrame
  let fresh : Work := {
    clk := { w.clk with trim := 0 }
    timers := w.timers.filter (fun t => keptTimer t.1)
    d := { regs := w.d.regs.filter (fun e => keptOver e.1), blobs := w.d.blobs.filter (fun e => (objNo 0x4100 1 256 1 e.1).isSome) }
    journal := w.journal
    router := { evtIn := w.router.evtIn }
    host := w.host.overReset
    ledger := w.ledger.overReset
    posIn := w.posIn.map (fun p => { levels := p.levels })
    axis := { hwm := w.axis.hwm, frameLen := w.axis.frameLen }
    run := { latch := w.run.latch, keptDone := done, coldStart := false }
    ports := w.ports.map Port.overReset
    cal := w.cal.map PortCal.overReset
    loom := { geom := w.loom.geom }
    hbm := { banks := (upTo 4).map (fun j => w.getN (Obj.bankMask j)) }
    axes := w.axes.map (fun a => { faultLow := a.faultLow })
    power := { w.power with released := false, throttle := [], coolSince := none, hot := 0 }
    sys := { pair := { hbIn := w.sys.pair.hbIn } }
    sent := w.sent
    drawCount := w.drawCount
    freeCount := w.freeCount }
  let w := (upTo 32).foldl (fun (w : Work) p => w.showSet p 0) fresh
  let w := ((upTo 4).foldl (fun (w : Work) d => w.storeUse d) w).bump Obj.warmResets
  w.showStaged.modeTo .reset 1

/-- The same with the flash: a programming under way is cut short. -/
def warmResetBoth (x : Both) : Both := (x.1.tear, x.2.warmReset)

/-- Loss of both supplies (R517): nothing volatile is kept. What stands outside the module stays: host memory, the levels at its pins, the judgement of
the supply inputs. -/
def coldReset (x : Both) : Both :=
  let w := x.2
  let fresh : Work := {
    router := { evtIn := w.router.evtIn }
    host := { hostMem := w.host.hostMem, perst := w.host.perst }
    posIn := w.posIn.map (fun p => { levels := p.levels })
    axes := w.axes.map (fun a => { faultLow := a.faultLow })
    power := { tj := w.power.tj }
    sys := { pair := { hbIn := w.sys.pair.hbIn } }
    sent := w.sent
    drawCount := w.drawCount
    freeCount := w.freeCount }
  (x.1.tear, fresh.modeTo .reset 1)

/-- RESET_CMD: a warm reset that is released 10 µs after acceptance, or answer 3 while the shutdown latch holds (R72, R84). -/
def resetAct (x : Both) : Both :=
  if x.2.run.latch then (x.1, x.2.set Obj.cmdResult 3)
  else
    let y := warmResetBoth x
    (y.1, y.2.startTimer .resetRelease)

/-- RESET_CMD. -/
def resetCmd (p : Path) (x : Both) : Both := writeNumNv p Obj.resetCmd (.num 0xA5C3) always resetAct x
def execResetCmd (p : Path) : State → Host.Outcome State Fault Refusal := onBoth (resetCmd p)

/-- WARM_RESET_ASSERT: WARM_RESET_N is low. A module without rails stays as it is. -/
def warmResetAssert (x : Both) : Both := if x.2.power.rails then warmResetBoth x else x
def execWarmResetAssert : State → Host.Outcome State Fault Refusal := onBoth warmResetAssert

/-- PWR_RESET_ASSERT: PWR_RESET_N is low, which puts the module in RESET at once; it keeps what a warm reset keeps (R550). -/
def execPwrResetAssert : State → Host.Outcome State Fault Refusal := onBoth warmResetAssert

end Sys2Proof.Machine
end

