-- ==== Sys2Proof/Machine/TriggerOps.lean ====
section
/-! DEFINITION. What a trigger does toward the cameras and the processing behind them, shared by TRIGGER_ISSUED and by the START that takes effect
with a trigger (R66, R110, R148, R377). -/
namespace Sys2Proof.Machine

/-! ### Position lag (R110) -/

/-- The run of lagging lines ends with its coverage record; the lines are inspected all the same. -/
def Work.lagEnd (w : Work) : Work :=
  match w.axis.lag with
  | none => w
  | some r =>
    let w := { w with axis := { w.axis with lag := none } }
    w.cover { reason := 0x30, detail := r.peak, firstLine := r.first, lastLine := r.last, cdFirst := w.groupBase,
              cdLast := w.groupBase + max w.loom.width 1 - 1, fieldMask := 2 ^ w.structureFields.length - 1, inspected := true }

/-- Trigger k of an inspected frame joins the run of lagging lines, or ends it. -/
def Work.lagLine (w : Work) (k : Nat) : Work :=
  let lag := w.get Obj.lag
  if !w.inspected (w.frameOf k) || lag ≤ w.get Obj.lagTol then w.lagEnd
  else
    let r : LagRun := match w.axis.lag with
      | some r => { r with last := k, peak := max r.peak lag.toNat }
      | none => ⟨k, k, lag.toNat⟩
    { w with axis := { w.axis with lag := some r } }

/-! ### The work of a trigger -/

/-- Whether the web axis' triggers reach cameras now (R66, R195, R555). -/
def Work.callsCameras (w : Work) : Bool :=
  (w.mode.triggers || w.run.draining) && !(w.mode.calibrating && w.calDev.timer)

/-- The work of trigger k: the cameras called, exposure sets due at it, calibration stops, jobs made ready and the held records of a CAL mode. -/
def Work.triggerWork (w : Work) (k : Nat) : Work :=
  let w := w.lagLine k
  let w := if w.callsCameras then
      (w.activePorts.foldl (fun w p => ((w.triggerPort p k false).expTrigger p k).traverseStart p k) w).settleTick
    else w
  let w := if w.pipeRuns then w.makeJobs k (w.frameOf k + 1) else w
  if w.mode.calibrating then w.heldRecords k else w

end Sys2Proof.Machine
end

