-- ==== Sys2Proof/Machine/Modes.lean ====
section
/-! DEFINITION. The mode machine's commands (R66 to R75, R89, R90, R194, R555): START, STOP, calibration, commit and load, when each acts, what waits
and what a START or STOP does at its frame. -/
namespace Sys2Proof.Machine

/-! ### Idle READY (R89, R90) -/

/-- Idle READY ends: clusters in retention wake, HBM leaves self-refresh. -/
def Work.wake (w : Work) : Work :=
  let w := w.stopTimer .idle
  if w.get Obj.idleState = 0 || w.running .idleWake then w
  else
    let w := (upTo 64).foldl (fun w c => if w.get (Obj.spState c) = 2 then w.set (Obj.spState c) 3 else w) w
    ((w.wakeStack 0).wakeStack 1).startTimer .idleWake

/-- The clusters serve again and IDLE_STATE reads 0 (R423). -/
def Work.wakeOver (w : Work) : Work :=
  let w := (upTo 64).foldl (fun w c =>
    if w.get (Obj.spState c) = 3 then (w.set (Obj.spState c) (if w.get (Obj.clState c) = 0 then 0 else 4)).stopTimer (.spWake c) else w) w
  ((w.stopTimer .idleWake).set Obj.idleState 0).idleBegin

/-- IDLE_RETENTION: after IDLE_DELAY of idle READY every cluster enters retention; 0 is off. -/
def idleRetention (w : Work) : Work :=
  let ms := w.getN Obj.idleDelay
  if !w.idleReady || w.run.draining || ms = 0 || w.get Obj.idleState ≠ 0 || !w.expired .idle (ms * 1000000) then w
  else
    let w := (upTo 64).foldl (fun w c => if w.get (Obj.spState c) = 0 || w.get (Obj.spState c) = 4 then w.set (Obj.spState c) 2 else w) w
    (w.set Obj.idleState 1).startTimer .idle
def execIdleRetention : State → Host.Outcome State Fault Refusal := onWork idleRetention

/-! ### Commands that may wait (R75, R90, R555) -/

/-- The mode in which a waiting command acts: READY, and HOLD for a commit and a load (R75). -/
def Work.waitingMode (w : Work) (c : Waiting) : Bool :=
  w.mode == .ready || (w.mode == .hold && (match c with
    | .cal _ => false
    | _ => true))

/-- A waiting command acts now. CAL_CMD 3 does not act with the calibration timer (R195); a load of a slot being programmed does not (R500). -/
def actNow (c : Waiting) (x : Both) : Both :=
  let w := x.2
  let answer := fun (n : Int) => (x.1, (w.set Obj.cmdResult n).idleBegin)
  if !w.waitingMode c then answer 3
  else if w.run.startAt.isSome then answer 5
  else match c with
    | .commit => (x.1, (w.set Obj.cmdResult 1).commitRun)
    | .load s => if decide (x.1.flash.op = some (.profile s)) then answer 6 else loadRun s (x.1, w.set Obj.cmdResult 1)
    | .cal k => if k = 3 && w.get Obj.calTrigSource = 1 then answer 3 else (x.1, ((w.set Obj.cmdResult 1).calBegin k).monitorsHeld)

/-- A command of these acts when the module is awake and the work of a STOP has ended; until then it waits, and a second one does not act. -/
def actOrWait (c : Waiting) (x : Both) : Both :=
  let w := x.2.wake
  if w.waitingMode c && w.run.waiting.isSome then (x.1, w.set Obj.cmdResult 6)
  else if w.waitingMode c && w.run.startAt.isNone && (w.run.draining || w.running .idleWake) then
    (x.1, { (w.set Obj.cmdResult 2) with run := { w.run with waiting := some c } })
  else actNow c (x.1, w)

/-- The command that waits acts once nothing holds it. -/
def releaseWaiting (x : Both) : Both :=
  let w := x.2
  match w.run.waiting with
  | none => x
  | some c => if w.run.draining || w.running .idleWake then x else actNow c (x.1, { w with run := { w.run with waiting := none } })

/-- IDLE_WAKE_DONE: 2 µs after the wake began the clusters serve, and a command that waits acts (R90). -/
def idleWakeDone (x : Both) : Both := if x.2.expired .idleWake 2000 then releaseWaiting (x.1, x.2.wakeOver) else x
def execIdleWakeDone : State → Host.Outcome State Fault Refusal := onBoth idleWakeDone

/-! ### START and STOP (R46, R74, R75) -/

/-- A START taken at acceptance: pending for frame ef. A START after a STOP of the same frame is the write in effect: the STOP is gone. -/
def Work.startAct (w : Work) (ef : Nat) : Work :=
  if w.mode.inspecting then
    let w := if w.run.stopAt = some ef then
        let spans := match w.run.spans with
          | (a, _) :: rest => (a, none) :: rest
          | [] => []
        { w with run := { w.run with stopAt := none, spans := spans } }
      else w
    w.set Obj.cmdResult 3
  else if w.mode != .ready || w.get Obj.alignState = 1 then (w.set Obj.cmdResult 3).idleBegin
  else if w.run.startAt.isSome then w.set Obj.cmdResult 5
  else ({ w with run := { w.run with startAt := some ef } }).set Obj.cmdResult 2

/-- A STOP taken at acceptance: pending for frame ef, past which no camera is called (R555); in READY it cancels a pending START. -/
def Work.stopAct (w : Work) (ef : Nat) : Work :=
  if w.mode.inspecting then
    if w.run.stopAt.isSome then w.set Obj.cmdResult 2
    else ({ (w.endSpan ef) with run := { (w.endSpan ef).run with stopAt := some ef } }).set Obj.cmdResult 2
  else if w.mode == .ready && w.run.startAt.isSome then
    (({ w with run := { w.run with startAt := none } }).set Obj.cmdResult 1).idleBegin
  else (w.set Obj.cmdResult 3).idleBegin

/-- The effect frame of a RUN_CMD: p+1, and p+2 for a START while IDLE_STATE is 1 or 2 (R90). -/
def Work.runFrame (w : Work) (code : Int) : Nat := w.frame + (if code = 1 && w.get Obj.idleState ≠ 0 then 2 else 1)

/-- A write of RUN_CMD. -/
def runCmd (p : Path) (v : DictVal) (x : Both) : Both :=
  let code : Int := match v with
    | .num n => n
    | .bytes b => leNat b
  let ef := x.2.runFrame code
  (x.1, x.2.writeNum p Obj.runCmd v noCheck (fun n w => if n = 1 then w.wake.startAct ef else w.wake.stopAct ef) (some ef))

/-- RUN_START: RUN_CMD 1. -/
def execRunStart (p : Path) : State → Host.Outcome State Fault Refusal := onBoth (runCmd p (.num 1))

/-- RUN_STOP: RUN_CMD 2. -/
def execRunStop (p : Path) : State → Host.Outcome State Fault Refusal := onBoth (runCmd p (.num 2))

/-! ### At the frame (R66, R68, R70, R555) -/

/-- Inspection restarts at frame n: the web that passed while it was stopped is covered (R68). -/
def Work.coverStopped (w : Work) (n : Nat) : Work :=
  match w.run.stopped with
  | none => w
  | some m =>
    let w := { w with run := { w.run with stopped := none } }
    if n ≤ m then w
    else w.cover { reason := 0x41, detail := 11, firstLine := m * w.frameLen, lastLine := n * w.frameLen - 1, cdFirst := w.groupBase,
                   cdLast := w.groupBase + max w.loom.width 1 - 1, fieldMask := 2 ^ w.structureFields.length - 1 }

/-- Processing begins at frame n: stitching, jobs and inspection of its lines. Work of a STOP that still drains goes on before it. -/
def Work.beginFrames (w : Work) (n : Nat) : Work :=
  let next := if w.run.draining then w.loom.next else some (n * w.frameLen)
  let seg := if w.run.draining then w.seg.nextFrame else n
  { w with
    loom := { w.loom with next := next }
    seg := { w.seg with nextFrame := seg }
    run := { w.run with spans := (n, none) :: w.run.spans } }

/-- START takes effect at frame n: INSPECT, or DEGRADED while capacity is lost; the records of R68 and R289; the trigger of the frame reaches the
cameras. -/
def Work.startNow (w : Work) (n : Nat) : Work :=
  let w := if w.running .idleWake then w.wakeOver else w
  let w := { w with run := { w.run with startAt := none } }
  let w := if w.capacityLost then w.modeTo .degraded 18 else w.modeTo .inspect 10
  let done := if w.run.started then w.getN Obj.completeFrame else w.run.keptDone
  let w := ((w.beginFrames n).coverStopped n).event
    { event := 1, frame := n, d0 := n * w.frameLen, d1 := w.getN Obj.ledgerId, d2 := done }
  let w := { w with run := { w.run with started := true } }
  let w := (w.lateLosses n).set Obj.cmdResult 1
  match w.axis.last with
  | some k => w.triggerWork k
  | none => w

/-- The START that is due: its frame has begun. -/
def startDue (w : Work) : Work :=
  match w.run.startAt with
  | some n => if w.mode == .ready && decide (n ≤ w.frame) then w.startNow n else w
  | none => w

/-- START_TAKES_EFFECT. -/
def execStartTakesEffect : State → Host.Outcome State Fault Refusal := onWork startDue

/-- STOP takes effect at frame n: READY, with the frames before n still in work (R555); calibrations of single ports end (R194). -/
def Work.stopNow (w : Work) (n : Nat) : Work :=
  let w := { w with run := { w.run with stopAt := none, returnAt := none, stopped := some n, draining := true } }
  ((w.lagEnd.modeTo .ready 11).abortCals true).set Obj.cmdResult 1

/-- The STOP that is due. -/
def stopDue (w : Work) : Work :=
  match w.run.stopAt with
  | some n => if w.mode.inspecting && decide (n ≤ w.frame) then w.stopNow n else w
  | none => w

/-- STOP_TAKES_EFFECT. -/
def execStopTakesEffect : State → Host.Outcome State Fault Refusal := onWork stopDue

/-- Whether the work of a STOP has ended: every frame before it is done, and nothing of it is queued, held or being compressed. -/
def Work.drained (w : Work) : Bool :=
  match w.run.stopped with
  | none => true
  | some n =>
    w.loom.sensors.isEmpty ||
      ((n == 0 || (w.nextFrameDone (n - 1)).isNone) && w.ledger.incoming.isEmpty && w.cls.crops.isEmpty && w.streams.queue.isEmpty &&
        w.streams.engines.all (fun e => e.held.isNone) && w.streams.st.all (fun s => s.ready.isEmpty))

/-- STOP_DRAIN_END: the work of a STOP ends, and what waited for it acts. -/
def stopDrainEnd (x : Both) : Both :=
  let w := x.2
  if !w.run.draining || !w.drained then x
  else releaseWaiting (x.1, ({ w with run := { w.run with draining := false } }).idleBegin)
def execStopDrainEnd : State → Host.Outcome State Fault Refusal := onBoth stopDrainEnd

/-- CAPACITY_RETURN: at the frame of the return DEGRADED becomes INSPECT; a STOP due at the same frame is taken instead (R70 cause 13, R74). -/
def capacityReturn (w : Work) : Work :=
  match w.run.returnAt with
  | none => w
  | some n =>
    let stops := match w.run.stopAt with
      | some m => decide (m ≤ w.frame)
      | none => false
    if w.mode != .degraded || w.frame < n || w.capacityLost || stops then w
    else ({ w with run := { w.run with returnAt := none } }).modeTo .inspect 13
def execCapacityReturn : State → Host.Outcome State Fault Refusal := onWork capacityReturn

/-! ### Calibration, commit and load as commands (R75, R194) -/

/-- CAL_CMD with its code, once accepted. -/
def calAct (code : Nat) (x : Both) : Both :=
  if code = 4 then
    let w := x.2.wake
    if w.mode.calibrating then (x.1, (w.set Obj.cmdResult 1).calAbortAll) else (x.1, (w.set Obj.cmdResult 3).idleBegin)
  else actOrWait (.cal code) x

/-- A write of one of these commands with a value that names it. -/
def modeWrite (p : Path) (key : Nat) (code : Int) (act : Both → Both) (x : Both) : Both := writeNumNv p key (.num code) always act x

/-- CAL_CMD_DARK: CAL_CMD 1. -/
def execCalCmdDark (p : Path) : State → Host.Outcome State Fault Refusal := onBoth (modeWrite p Obj.calCmd 1 (calAct 1))

/-- CAL_CMD_FLAT: CAL_CMD 2. -/
def execCalCmdFlat (p : Path) : State → Host.Outcome State Fault Refusal := onBoth (modeWrite p Obj.calCmd 2 (calAct 2))

/-- CAL_CMD_GEOM: CAL_CMD 3. -/
def execCalCmdGeom (p : Path) : State → Host.Outcome State Fault Refusal := onBoth (modeWrite p Obj.calCmd 3 (calAct 3))

/-- CAL_CMD_ABORT: CAL_CMD 4. -/
def execCalCmdAbort (p : Path) : State → Host.Outcome State Fault Refusal := onBoth (modeWrite p Obj.calCmd 4 (calAct 4))

/-- COMMIT: the write of 1. -/
def execCommit (p : Path) : State → Host.Outcome State Fault Refusal := onBoth (modeWrite p Obj.commit 1 (actOrWait .commit))

/-- LOAD_PROFILE of a slot. -/
def execLoadProfile (p : Path) (slot : Fin 4) : State → Host.Outcome State Fault Refusal :=
  onBoth (modeWrite p Obj.loadProfile slot.val (actOrWait (.load slot)))

/-! ### SAFE causes of the management cores (R73) -/

/-- MGMT_WATCHDOG_EXPIRY: SAFE cause 4. -/
def mgmtWatchdog (w : Work) : Work := w.enterSafe 4
def execMgmtWatchdogExpiry : State → Host.Outcome State Fault Refusal := onWork mgmtWatchdog

/-- HUB_STATE_UNCORR: an uncorrectable error in hub control state, SAFE cause 5. -/
def hubStateUncorr (w : Work) : Work := w.enterSafe 5
def execHubStateUncorr : State → Host.Outcome State Fault Refusal := onWork hubStateUncorr

/-! ### The write of any object but the write groups -/

/-- The rows of the mode machine and the flash by key and value. -/
def modeRow (p : Path) (key : Nat) (n : Int) : Option (Both → Both) :=
  if key = Obj.runCmd then some (runCmd p (.num n))
  else if key = Obj.calCmd && (1 ≤ n && n ≤ 4) then some (modeWrite p key n (calAct n.toNat))
  else if key = Obj.resetCmd && n = 0xA5C3 then some (resetCmd p)
  else if key = Obj.commit && n = 1 then some (modeWrite p key n (actOrWait .commit))
  else if key = Obj.loadProfile && (0 ≤ n && n ≤ 3) then some (modeWrite p key n (actOrWait (.load n.toNat)))
  else match objNo 0x2010 1 4 5 key, objNo 0x3004 0x20 32 1 key with
    | some s, _ => if n = 1 then some (profileEraseCmd p (Fin.ofNat 4 s)) else none
    | none, some q => if n = 2 then some (portApplyResume p (Fin.ofNat 32 q)) else none
    | none, none => none

/-- The rows of the flash and service images by key. -/
def imageRow (p : Path) (key : Nat) (b : Bytes) : Option (Both → Both) :=
  match objNo 0x2010 1 4 1 key, objNo 0x3004 0x20 32 3 key with
  | some s, _ => some (profileImageWrite p (Fin.ofNat 4 s) b)
  | none, some q => some (serviceImageWrite p (Fin.ofNat 32 q) b)
  | none, none => none

/-- A write of any object but those of the write groups. -/
def writeMode (p : Path) (key : Nat) (v : DictVal) (x : Both) : Both :=
  let row : Option (Both → Both) := match findRow (key / 256) (key % 256) with
    | none => none
    | some r =>
      if r.typ.isBlob then (match v with
        | .bytes b => imageRow p key b
        | .num _ => none)
      else (asNum r v).bind (modeRow p key)
  match row with
  | some f => f x
  | none => writeBase p key v x

end Sys2Proof.Machine
end

