-- ==== Sys2Proof/Machine/Access.lean ====
section
/-! DEFINITION. Accesses from outside (R45 to R57, R459, R476, R487, R495 to R498): write groups, accesses that wait for a partner, BAR0, domain
transfers, SDO and process data. -/
namespace Sys2Proof.Machine

/-! ### Write groups (R56) -/

/-- The key of a path's own GROUP_CTRL; a path without a group names another path's, which is refused. -/
def groupKey (p : Path) : Nat := Obj.groupCtrl ((groupNo p).getD 0)

/-- GROUP_CTRL 1. -/
def groupOpen (p : Path) (w : Work) : Work :=
  w.command p (groupKey p) 1 (fun w => if (w.group p).isOpen then some .groupState else none) (fun w => w.setGroup p { isOpen := true, owner := sourceId p })

/-- GROUP_CTRL 3. -/
def groupAbort (p : Path) (w : Work) : Work := w.command p (groupKey p) 3 always (fun w => w.setGroup p {})

/-- Whether the staged writes pass together: each is checked with all of them in place. -/
def stagedPass (p : Path) (staged : List (Nat × Int)) (x : Both) : Bool :=
  let t := staged.foldl (fun (w : Work) e => w.set e.1 e.2) x.2
  staged.all (fun e => decide ((writeMode p e.1 (.num e.2) (x.1, t)).2.lastRes ≤ 0xFF))

/-- The entries numbered after `head` carry GROUP. -/
def Work.markGroup (w : Work) (head : Nat) : Work :=
  { w with journal := { w.journal with entries := w.journal.entries.map (fun e => if head < e.seq then { e with group := true } else e) } }

/-- GROUP_CTRL 2: the staged writes are applied and journaled, or nothing is; then the CLOSE itself is journaled. -/
def groupClose (p : Path) (x : Both) : Both :=
  let w := x.2
  let key := groupKey p
  if !w.mode.dictOpen then x
  else match w.checkNum p key (.num 2) with
    | .error e => (x.1, w.refuse p key e)
    | .ok (r, n) =>
      let staged := (w.group p).staged
      if !(w.group p).isOpen then (x.1, w.refuse p key .groupState)
      else if w.mustPropose p then (x.1, w.propose p key (.num n))
      else
        let shut := (x.1, w.setGroup p {})
        let ok := stagedPass p staged shut
        let y := if ok then staged.foldl (fun (y : Both) e => writeMode p e.1 (.num e.2) y) shut else shut
        let w := (y.2.markGroup w.journal.head).set (Obj.groupResult ((groupNo p).getD 0)) (if ok then 0 else Res.inconsistent.code)
        (y.1, w.acceptNum p r key n w.frame)

/-- GROUP_OPEN, GROUP_CLOSE and GROUP_ABORT of a path's own group. -/
def execGroupOpen (p : Path) : State → Host.Outcome State Fault Refusal := onWork (groupOpen p)
def execGroupClose (p : Path) : State → Host.Outcome State Fault Refusal := onBoth (groupClose p)
def execGroupAbort (p : Path) : State → Host.Outcome State Fault Refusal := onWork (groupAbort p)

/-! ### The write of any object -/

/-- A write of any object, without what waits behind it. -/
def writeOne (p : Path) (key : Nat) (v : DictVal) (x : Both) : Both :=
  if key ≠ groupKey p || (groupNo p).isNone then writeMode p key v x
  else if v = .num 1 || v = .bytes [1] then (x.1, groupOpen p x.2)
  else if v = .num 2 || v = .bytes [2] then groupClose p x
  else if v = .num 3 || v = .bytes [3] then (x.1, groupAbort p x.2)
  else writeMode p key v x

/-- The abort code that goes with a result code. -/
def abortOfCode (c : Nat) : Nat :=
  let all : List Res := [.noObject, .noSubindex, .readOnly, .writeOnly, .length, .aboveRange, .belowRange, .notInSet, .mode, .inconsistent, .format,
    .signature, .locked, .busy, .hardware, .path, .standby, .notGroupable, .groupFull, .groupState, .notMappable]
  ((all.find? (fun r => r.code == c)).map Res.abort).getD 0

/-- A RESULT to a MGMT request (R459). -/
def Work.mgmtResult (w : Work) (peer tag key code : Nat) (data : Bytes) : Work :=
  (w.updSession peer (fun s => { s with requests := s.requests - 1 })).ylSend peer 1 3 [tag, key / 256, key % 256, code] data |>.1

/-- A domain transfer over PCIe ends with the result of its access (R53, R488). -/
def Work.dtFinish (w : Work) : Work :=
  if !w.d.dt.busy then w
  else
    let code := w.lastRes
    let w := { w with d := { w.d with dt := {} } }
    ((w.set Obj.dtStatus (if code ≤ 0xFF then 2 else 3)).set Obj.dtResult code).msix 0

/-- The answer to a write, where its sender waits for one. -/
def Work.answerWrite (w : Work) (p : Path) (key : Nat) (tag : Option Nat) : Work :=
  match p, tag with
  | .coe, some _ => w.send (.sdoEnd key (abortOfCode w.lastRes))
  | .yalind a, some t => w.mgmtResult a t key w.lastRes []
  | .pcie, some _ => w.dtFinish
  | _, _ => w

/-- The answer to a read. -/
def Work.answerRead (w : Work) (p : Path) (key : Nat) (tag : Option Nat) (data : Bytes) : Work :=
  match p, tag with
  | .coe, some _ => if w.lastRes ≤ 0xFF then w.send (.reply p key data) else w.send (.sdoEnd key (abortOfCode w.lastRes))
  | .yalind a, some t => w.mgmtResult a t key w.lastRes (if w.lastRes ≤ 0xFF then data else [])
  | _, _ => w.send (.reply p key data)

/-- The 64-bit image of a slot as BAR0 reads it: a number extended by its type, the length of a block, 0 for a refused read (R50, R51). -/
def slotBytes (key : Nat) : DictVal → Bytes
  | .num n => leBytes 8 (field 64 n)
  | .bytes b => if (findRow (key / 256) (key % 256)).isSome then leBytes 8 b.length else leBytes 8 0

/-- A read of an object, answered. Over BAR0 a block reads as its length; there `tag` is the byte offset of the half a 4-byte read takes. -/
def readOne (p : Path) (key : Nat) (tag : Option Nat) (x : Both) : Both :=
  let half := fun (b : Bytes) => match p, tag with
    | .pcie, some h => slice b h 4
    | _, _ => b
  match readObject x.1 x.2 key with
  | .error e => (x.1, (x.2.refuse p key e).answerRead p key tag (half (leBytes 8 0)))
  | .ok r =>
    let data := match p with
      | .pcie => half (slotBytes key r.1)
      | _ => encodeVal key r.1
    (x.1, (r.2.setResult p .ok).answerRead p key tag data)

/-! ### Accesses that wait for the partner (R476) -/

/-- Whether a held write may be accepted: its ACK has come and the next frame boundary lies more than PAIR_GUARD trigger indices ahead; a module
that is no longer a paired primary accepts at once (R481). -/
def Work.mayAccept (w : Work) (q : Proposal) : Bool :=
  let boundary := (w.frame + 1) * w.frameLen
  !w.pairedPrimary || (q.acked && decide (w.nextTrigger + w.getN Obj.pairGuard < boundary))

/-- Set whether a held write is being accepted. -/
def Work.setAccepting (w : Work) (b : Bool) : Work := { w with sys := { w.sys with pair := { w.sys.pair with accepting := b } } }

/-- Change the list of held accesses. -/
def Work.setProposals (w : Work) (qs : List Proposal) : Work := { w with sys := { w.sys with pair := { w.sys.pair with proposals := qs } } }

/-- The first held access of a path, and the others. -/
def splitProposal (ok : Proposal → Bool) : List Proposal → List Proposal → Option (Proposal × List Proposal)
  | _, [] => none
  | seen, q :: rest =>
    if !seen.any (fun r => r.path == q.path) && ok q then some (q, seen ++ rest) else splitProposal ok (seen ++ [q]) rest

/-- A write that has come to the front of its path is proposed. -/
def Work.proposeFronts (w : Work) : Work :=
  let fronts := w.sys.pair.proposals.foldl (fun (acc : List Proposal) q => if acc.any (fun r => r.path == q.path) then acc else acc ++ [q]) []
  fronts.foldl (fun (w : Work) q =>
    match q.val, q.seq with
    | some v, none =>
      let content := match v with
        | .num n => (field 64 n, ([] : Bytes))
        | .bytes b => (b.length, b)
      let r := w.ylSend w.partner 7 2 [pathCode q.path, sourceId q.path, q.key, content.1] content.2
      r.1.setProposals (r.1.sys.pair.proposals.map (fun a => if a = q then { a with seq := r.2 } else a))
    | _, _ => w) w

/-- Held accesses that may act do so, in the order of their path. The fuel bounds their number. -/
def drainProposals : Nat → Both → Both
  | 0, x => x
  | fuel + 1, x =>
    match splitProposal (fun q => q.val.isNone || x.2.mayAccept q) [] x.2.sys.pair.proposals with
    | none => (x.1, x.2.proposeFronts)
    | some (q, rest) =>
      let w := x.2.setProposals rest
      let y := match q.val with
        | none => readOne q.path q.key q.tag (x.1, w)
        | some v =>
          let y := writeOne q.path q.key v (x.1, w.setAccepting true)
          (y.1, (y.2.setAccepting false).answerWrite q.path q.key q.tag)
      drainProposals fuel y

/-- Everything that may act of what is held. -/
def drainAll (x : Both) : Both :=
  if x.2.sys.pair.proposals.isEmpty then x else drainProposals x.2.sys.pair.proposals.length x

/-- Whether an access of a path waits behind a held write. -/
def Work.pathHeld (w : Work) (p : Path) : Bool := w.sys.pair.proposals.any (fun q => q.path == p)

/-- The last held access takes the mark of the sender that waits for it. -/
def Work.tagLast (w : Work) (tag : Option Nat) : Work :=
  match w.sys.pair.proposals.reverse with
  | [] => w
  | q :: rest => w.setProposals (rest.reverse ++ [{ q with tag := tag }])

/-- A write of any object over any path, answered where its sender waits; `tag` marks that. -/
def writeAny (p : Path) (key : Nat) (v : DictVal) (tag : Option Nat) (x : Both) : Both :=
  let n := x.2.sys.pair.proposals.length
  let y := writeOne p key v x
  let y := if n < y.2.sys.pair.proposals.length then (y.1, y.2.tagLast tag) else (y.1, y.2.answerWrite p key tag)
  if y.2.pairedPrimary then y else drainAll y

/-- A read of any object over any path: it waits behind a held write of its path. -/
def readAny (p : Path) (key : Nat) (tag : Option Nat) (x : Both) : Both :=
  if x.2.pairedPrimary && x.2.pathHeld p then
    (x.1, x.2.setProposals (x.2.sys.pair.proposals ++ [⟨p, key, none, none, false, tag⟩]))
  else readOne p key tag x

/-! ### BAR0 (R49 to R51, R86) -/

/-- A value whose width does not match the object. -/
def wrongWidth (key : Nat) : DictVal :=
  match findRow (key / 256) (key % 256) with
  | some r => if r.typ.isBlob then .num 0 else .bytes []
  | none => .num 0

/-- What `n` written bytes spell for an object of a numeric type: extended by its type. -/
def slotValue (key : Nat) (b : Bytes) : DictVal :=
  match findRow (key / 256) (key % 256) with
  | none => .num 0
  | some r =>
    if r.typ.isBlob then .num 0
    else if r.typ.size = 8 && b.length < 8 then .bytes []
    else match r.typ with
      | .i32 => .num (signed (8 * b.length) (leNat b))
      | .q16 => .num (signed (8 * b.length) (leNat b))
      | .i64 => .num (signed (8 * b.length) (leNat b))
      | _ => .num (leNat b)

/-- A write of bytes from an offset on, slot by slot. A piece that is no aligned 4 or 8 bytes is refused with LENGTH. The fuel bounds the slots. -/
def barWrite : Nat → Nat → Bytes → Both → Both
  | 0, _, _, x => x
  | fuel + 1, o, b, x =>
    if b.isEmpty then x
    else
      let key := o / 8
      let piece := if o % 8 = 0 && 8 ≤ b.length then 8 else if o % 4 = 0 && 4 ≤ b.length then 4 else min b.length (4 - o % 4)
      let v := if o % 8 = 0 && (piece = 8 || piece = 4) then slotValue key (b.take piece) else wrongWidth key
      barWrite fuel (o + piece) (b.drop piece) (writeAny .pcie key v none x)

/-- OBJECT_WRITE. -/
def objectWrite (p : Path) (f : WriteForm) (x : Both) : Both :=
  match f with
  | .bar0 o b => barWrite (b.length + 1) o.toNat b x
  | .object i s v => writeAny p (objKey i.toNat s.toNat) v none x
def execObjectWrite (p : Path) (f : WriteForm) : State → Host.Outcome State Fault Refusal := onBoth (objectWrite p f)

/-- A BAR0 read: 0 before TRAIN; the addressed half of the slot's 64-bit image for 4 bytes. A read that is no aligned 4 or 8 bytes is refused. -/
def barRead (o width : Nat) (x : Both) : Both :=
  let key := o / 8
  if !x.2.mode.dictOpen then (x.1, x.2.send (.reply .pcie key (leBytes width 0)))
  else if !((width = 8 && o % 8 = 0) || (width = 4 && o % 4 = 0)) then
    (x.1, (x.2.refuse .pcie key .length).send (.reply .pcie key (leBytes width 0)))
  else readAny .pcie key (if width = 8 then none else some (o % 8)) x

/-- OBJECT_READ. -/
def objectRead (p : Path) (f : ReadForm) (x : Both) : Both :=
  match f with
  | .bar0 o width => barRead o.toNat width x
  | .object i s => if x.2.mode.dictOpen then readAny p (objKey i.toNat s.toNat) none x else x
def execObjectRead (p : Path) (f : ReadForm) : State → Host.Outcome State Fault Refusal := onBoth (objectRead p f)

/-! ### Domain transfers over PCIe (R52, R53) -/

/-- DT_COMPLETE: the bytes of a download have come and are taken as one write, or the copy of an upload is written to host memory. -/
def dtComplete (data : Bytes) (x : Both) : Both :=
  let w := x.2
  let t := w.d.dt
  if !t.busy || w.pathHeld .pcie then x
  else if t.upload then
    let w := (w.hostWrite t.addr t.bytes).dtMoved t.bytes
    (x.1, (w.setResult .pcie .ok).dtEnd 2 .ok)
  else if data.length ≠ w.getN Obj.dtLength then x
  else
    let w := w.dtMoved data
    match findRow (t.key / 256) (t.key % 256) with
    | some r => if r.typ.isBlob then writeAny .pcie t.key (.bytes data) (some 0) (x.1, w) else writeAny .pcie t.key (wrongWidth t.key) (some 0) (x.1, w)
    | none => writeAny .pcie t.key (.bytes data) (some 0) (x.1, w)
def execDtComplete (data : Bytes) : State → Host.Outcome State Fault Refusal := onBoth (dtComplete data)

/-! ### Ring enables (R487) -/

/-- The write that switches ring r: its ENABLE, or a stream's DEST. -/
def ringWrite (p : Path) (r : Nat) (on : Bool) (x : Both) : Both :=
  writeAny p ((ringEnableKey r).getD (Obj.dest (r - 5))) (.num (if on then 1 else 0)) none x

/-- RING_ENABLE. -/
def execRingEnable (p : Path) (r : Fin 17) : State → Host.Outcome State Fault Refusal := onBoth (ringWrite p r true)

/-- RING_DISABLE. -/
def execRingDisable (p : Path) (r : Fin 17) : State → Host.Outcome State Fault Refusal := onBoth (ringWrite p r false)

/-! ### EtherCAT (R54, R495 to R498) -/

/-- The mailbox is served: PRE-OP, SAFE-OP and OP. -/
def Work.mailbox (w : Work) : Bool := w.mode.dictOpen && w.get Obj.ecatState ≠ 1

/-- The subindices of an index from 1 on, in order, with their sizes (0 for a block). -/
def subsOf (idx : Nat) : List (Nat × Nat) :=
  (upTo (highestSub idx + 1)).filterMap (fun s => if s = 0 then none else (findRow idx s).map (fun r => (s, r.typ.size)))

/-- The subindices of an index written one after another from the bytes, as long as none is refused. -/
def sdoWrites (idx : Nat) : List (Nat × Nat) → Bytes → Both → Both
  | [], _, x => x
  | (s, n) :: rest, b, x =>
    if b.isEmpty then x
    else
      let n := if n = 0 then b.length else n
      let y := writeOne .coe (objKey idx s) (.bytes (b.take n)) x
      if 0xFF < y.2.lastRes then y else sdoWrites idx rest (b.drop n) y

/-- The subindices of an index read one after another, as long as none is refused. -/
def sdoReads (idx : Nat) : List Nat → Bytes → Both → Both × Bytes
  | [], acc, x => (x, acc)
  | s :: rest, acc, x =>
    match readObject x.1 x.2 (objKey idx s) with
    | .error e => ((x.1, x.2.refuse .coe (objKey idx s) e), acc)
    | .ok r => sdoReads idx rest (acc ++ encodeVal (objKey idx s) r.1) (x.1, r.2.setResult .coe .ok)

/-- COE_SDO_TRANSFER. -/
def coeSdoTransfer (f : SdoForm) (x : Both) : Both :=
  if !x.2.mailbox then x
  else match f with
    | .read i s => readAny .coe (objKey i.toNat s.toNat) (some 0) x
    | .write i s b =>
      let key := objKey i.toNat s.toNat
      let whole : DictVal := .bytes b
      writeAny .coe key whole (some 0) x
    | .readAll i z =>
      let key := objKey i.toNat 0
      let head := if z then leBytes 2 (highestSub i.toNat) else []
      if !indexExists i.toNat then (x.1, (x.2.refuse .coe key .noObject).send (.sdoEnd key (Res.abort .noObject)))
      else
        let r := sdoReads i.toNat ((subsOf i.toNat).map (fun e => e.1)) head (x.1, x.2.setResult .coe .ok)
        (r.1.1, r.1.2.answerRead .coe key (some 0) r.2)
    | .writeAll i z b =>
      let key := objKey i.toNat 0
      if !indexExists i.toNat then (x.1, (x.2.refuse .coe key .noObject).send (.sdoEnd key (Res.abort .noObject)))
      else if z then writeAny .coe key (.num 0) (some 0) x
      else
        let y := sdoWrites i.toNat (subsOf i.toNat) b x
        drainAll (y.1, y.2.answerWrite .coe key (some 0))
def execCoeSdoTransfer (f : SdoForm) : State → Host.Outcome State Fault Refusal := onBoth (coeSdoTransfer f)

/-- The CiA 301 number of a type. -/
def typeCode : ObjType → Nat
  | .bool => 0x01 | .u8 => 0x05 | .u16 => 0x06 | .q0 => 0x06 | .u32 => 0x07 | .i32 => 0x04 | .q16 => 0x04 | .u64 => 0x1B | .i64 => 0x15
  | .string => 0x09 | .domain => 0x0F

/-- The access of an object as SDO Information gives it: bit 0 readable, bit 1 writable. -/
def accessCode : Access → Nat
  | .ro => 1 | .wo => 2 | _ => 3

/-- COE_SDO_INFO: the indices in use; an index with its highest subindex; a subindex with its type, length in bits and access. -/
def coeSdoInfo (q : SdoInfo) (w : Work) : Work :=
  let none_ := fun (key : Nat) (r : Res) => w.send (.sdoEnd key r.abort)
  if !w.mailbox then w
  else match q with
    | .objectList => w.send (.sdoInfo 0 ((upTo 65536).filter indexExists))
    | .objectDescription i =>
      if indexExists i.toNat then w.send (.sdoInfo i.toNat [i.toNat, highestSub i.toNat]) else none_ (objKey i.toNat 0) .noObject
    | .entryDescription i s =>
      let key := objKey i.toNat s.toNat
      if !indexExists i.toNat then none_ key .noObject
      else match findRow i.toNat s.toNat with
        | some r => w.send (.sdoInfo i.toNat [i.toNat, s.toNat, typeCode r.typ, 8 * r.typ.size, accessCode r.access])
        | none => if s = 0 then w.send (.sdoInfo i.toNat [i.toNat, 0, 5, 8, 1]) else none_ key .noSubindex
def execCoeSdoInfo (q : SdoInfo) : State → Host.Outcome State Fault Refusal := onWork (coeSdoInfo q)

/-- The mapped entries of a PDO, in mapping order: place, key, bytes. -/
def Work.pdo (w : Work) (base : Nat) : List (Nat × Nat × Nat) :=
  (upTo 32).filterMap (fun j =>
    let v := w.getN (objKey base (1 + j))
    if v = 0 then none else some (j, v / 256, v % 256 / 8))

/-- The changed entries of an SM2 write, one by one. -/
def sm2Entries : List (Nat × Nat × Nat) → Bytes → Both → Both
  | [], _, x => x
  | (j, key, n) :: rest, b, x =>
    let r := findRow (key / 256) (key % 256)
    let v : Int := match r with
      | some r => r.typ.decode (b.take n)
      | none => leNat (b.take n)
    let held := x.2.ecat.rxHeld.getD j none
    let x := if held = some v then x
      else
        let y := writeAny .coe key (.num v) none x
        let old := y.2.ecat.rxHeld ++ List.replicate (32 - y.2.ecat.rxHeld.length) none
        (y.1, { y.2 with ecat := { y.2.ecat with rxHeld := upd old j (fun _ => some v) } })
    sm2Entries rest (b.drop n) x

/-- ECAT_SM2_WRITE: in OP every changed RxPDO entry is written, and the watchdog starts anew. -/
def ecatSm2Write (image : Bytes) (x : Both) : Both :=
  let w := x.2
  let es := w.pdo 0x1600
  if !w.mode.dictOpen || w.get Obj.ecatState ≠ 8 || image.length < sumNat (es.map (fun e => e.2.2)) then x
  else sm2Entries es image (x.1, ({ w with ecat := { w.ecat with stopped := false } }).startTimer .ecatWdt)
def execEcatSm2Write (image : Bytes) : State → Host.Outcome State Fault Refusal := onBoth (ecatSm2Write image)

/-- PD_STATUS (R498). -/
def Work.pdStatus (w : Work) : Nat :=
  packBits [(16, 16, w.getN Obj.refusal), (8, 8, w.getN Obj.safeCause), (4, 4, w.mode.code), (3, 1, if w.mode.inspecting then 0 else 1),
    (2, 1, if w.get Obj.mirrorActive = 1 then 1 else 0)]

/-- ECAT_SM3_READ: PD_STATUS is latched from TRAIN on; the other entries are live in INSPECT and DEGRADED and hold their last value elsewhere. -/
def ecatSm3Read (x : Both) : Both :=
  let w := x.2
  if !w.mode.dictOpen || (w.get Obj.ecatState ≠ 4 && w.get Obj.ecatState ≠ 8) then x
  else
    let w := w.set Obj.pdStatus w.pdStatus
    let r := (w.pdo 0x1A00).foldl (fun (acc : Work × Bytes) e =>
      let j := e.1
      let live := acc.1.mode.inspecting || e.2.1 = Obj.pdStatus
      let got := if live then acc.1.readNum e.2.1 else ((alGet acc.1.ecat.txHeld j).getD 0, acc.1)
      let w := { got.2 with ecat := { got.2.ecat with txHeld := alSet got.2.ecat.txHeld j got.1 } }
      (w, acc.2 ++ leBytes e.2.2 (field (8 * e.2.2) got.1))) (w, [])
    (x.1, r.1.send (.reply .coe (objKey 0x1A00 0) r.2))
def execEcatSm3Read : State → Host.Outcome State Fault Refusal := onBoth ecatSm3Read

/-- ECAT_WATCHDOG: the SM2 watchdog expires; 0 is off. -/
def ecatWatchdog (w : Work) : Work :=
  let ms := w.getN Obj.ecatWdt
  if ms = 0 || w.get Obj.ecatState ≠ 8 || !w.expired .ecatWdt (ms * 1000000) then w
  else (({ w with ecat := { w.ecat with stopped := true } }).stopTimer .ecatWdt).flag Obj.ecatFlags 1
def execEcatWatchdog : State → Host.Outcome State Fault Refusal := onWork ecatWatchdog

/-- The value of ECAT_STATE. -/
def ecatCode : EcatSt → Nat
  | .init => 1 | .preOp => 2 | .safeOp => 4 | .op => 8

/-- ECAT_STATE_CHANGE: one step up or any step down; the fall to INIT discards the group of CoE (R56). -/
def ecatStateChange (st : EcatSt) (w : Work) : Work :=
  let was := w.getN Obj.ecatState
  let now := ecatCode st
  if !w.mode.dictOpen || was = now || (was < now && now ≠ 2 * was) then w
  else
    let w := ({ w with ecat := { w.ecat with rxHeld := [], stopped := false } }).set Obj.ecatState now
    let w := if now = 1 then w.dropGroup .coe else w
    if now = 8 then w.startTimer .ecatWdt else w.stopTimer .ecatWdt
def execEcatStateChange (st : EcatSt) : State → Host.Outcome State Fault Refusal := onWork (ecatStateChange st)

end Sys2Proof.Machine
end

