-- ==== Sys2Proof/Machine/Power.lean ====
section
/-! DEFINITION. Supplies, clocks and temperature (chapter 24, R514 to R533, R548, R549). -/
namespace Sys2Proof.Machine

/-- A meaning of this family. -/
abbrev PowerStep := State → Host.Outcome State Fault Refusal

/-! ### Supply inputs (R515 to R518) -/

/-- Whether an input is good after a level in mV, with the hysteresis of R515. -/
def goodAfter (was : Bool) (mv : Nat) : Bool :=
  if was then decide (10200 ≤ mv) && decide (mv ≤ 13800) else decide (10400 ≤ mv) && decide (mv ≤ 13600)

/-- Whether a level lies in the operating range (R514). -/
def inRange (mv : Nat) : Bool := decide (10800 ≤ mv) && decide (mv ≤ 13200)

/-- Whether input A (false) or B (true) is good, and inside the operating range. -/
def Power.good (p : Power) (b : Bool) : Bool := if b then p.goodB else p.goodA
def Power.ranged (p : Power) (b : Bool) : Bool := if b then p.rangeB else p.rangeA

/-- Whether VIN_B is in use. -/
def Work.onB (w : Work) : Bool := w.get Obj.supplyInUse == 1

/-- Run a timer while a condition holds. -/
def Work.timeWhile (w : Work) (t : Timer) (on : Bool) : Work :=
  if !on then w.stopTimer t else if w.running t then w else w.startTimer t

/-- The counts of R516 to R518 follow the inputs. -/
def Work.supplyTimers (w : Work) : Work :=
  let p := w.power
  let b := w.onB
  let w := w.timeWhile .vinRange (!b && p.goodA && !p.rangeA)
  let w := w.timeWhile .returnA (b && p.goodA && p.rangeA)
  let w := w.timeWhile .supplyRange ((p.goodA || p.goodB) && !p.ranged b)
  w.timeWhile .holdup (p.rails && !p.goodA && !p.goodB)

/-- Switch to an input: SWITCHOVERS and the flag of the direction; the counts start anew (R516). -/
def Work.switchTo (w : Work) (b : Bool) : Work :=
  let w := ((w.set Obj.supplyInUse (if b then 1 else 0)).bump Obj.switchovers).flag Obj.supplyFlags (if b then 1 else 2)
  (((w.stopTimer .vinRange).stopTimer .returnA).stopTimer .supplyRange).supplyTimers

/-- An input's new level: its judgement, and the switch that follows at once when the input in use is not good and the other is (R516, R517). The
first input to become good is taken into use (R548). -/
def Work.vinLevel (w : Work) (b : Bool) (mv : Nat) : Work :=
  let old := w.power
  let good := goodAfter (old.good b) mv
  let w := w.set (if b then Obj.vinBMv else Obj.vinAMv) mv
  let w := { w with power := if b then { old with goodB := good, rangeB := inRange mv } else { old with goodA := good, rangeA := inRange mv } }
  let w := if b && old.goodB && !good then w.flag Obj.supplyFlags 4 else w
  let w := if w.onB == b && old.ranged b && !inRange mv then w.flag Obj.supplyFlags 8 else w
  let fresh := !old.rails && !old.goodA && !old.goodB && good
  if fresh then (w.set Obj.supplyInUse (if b then 1 else 0)).supplyTimers
  else if !w.power.good w.onB && w.power.good (!w.onB) then w.switchTo (!w.onB)
  else w.supplyTimers

/-- VIN_NOT_GOOD: input B or A has left the good window, at a level in mV. -/
def vinNotGood (b : Bool) (mv : BitVec 16) (w : Work) : Work := if goodAfter true mv.toNat then w else w.vinLevel b mv.toNat
def execVinNotGood (b : Bool) (mv : BitVec 16) : PowerStep := onWork (vinNotGood b mv)

/-- VIN_GOOD: an input stands within the good window, at a level in mV. -/
def vinGood (b : Bool) (mv : BitVec 16) (w : Work) : Work := if goodAfter (w.power.good b) mv.toNat then w.vinLevel b mv.toNat else w
def execVinGood (b : Bool) (mv : BitVec 16) : PowerStep := onWork (vinGood b mv)

/-- VIN_RANGE_TIMEOUT: VIN_A has stood outside the operating range for 1 ms while VIN_B lies inside it. -/
def vinRangeTimeout (w : Work) : Work :=
  if !w.onB && w.expired .vinRange 1000000 && w.power.goodB && w.power.rangeB then w.switchTo true else w
def execVinRangeTimeout : PowerStep := onWork vinRangeTimeout

/-- RETURN_TO_A: VIN_A has been good and inside the operating range for 100 ms. -/
def returnToA (w : Work) : Work := if w.onB && w.expired .returnA 100000000 then w.switchTo false else w
def execReturnToA : PowerStep := onWork returnToA

/-- HOLDUP_EXPIRY: neither input became good within 50 µs: loss of both supplies (R517). -/
def holdupExpiry (x : Both) : Both := if x.2.expired .holdup 50000 then coldReset x else x
def execHoldupExpiry : PowerStep := onBoth holdupExpiry

/-- SUPPLY_SAFE_TIMEOUT: the supply in use outside its range for 10 ms with no switch possible (R518). -/
def supplySafeTimeout (w : Work) : Work :=
  if w.expired .supplyRange 10000000 && !(!w.onB && w.power.goodB && w.power.rangeB) then w.enterSafe 6 else w
def execSupplySafeTimeout : PowerStep := onWork supplySafeTimeout

/-! ### Rails and bank supplies (R519, R548, R549) -/

/-- Whether a level in mV lies within 10 % of a nominal level. -/
def withinTenth (nominal mv : Nat) : Bool := decide (nominal * 9 ≤ mv * 10) && decide (mv * 10 ≤ nominal * 11)

/-- RAILS_GOOD: the on-module rails are good. -/
def railsGood (w : Work) : Work :=
  if w.power.goodA || w.power.goodB then { w with power := { w.power with rails := true } } else w
def execRailsGood : PowerStep := onWork railsGood

/-- VIO_A_SETTLED: VIO_A has stayed 1 ms within one band; its level in tenths of a volt waits for the release of reset. -/
def vioASettled (mv : BitVec 16) (w : Work) : Work :=
  match ([18, 25, 33] : List Nat).find? (fun v => withinTenth (100 * v) mv.toNat) with
  | none => w
  | some v =>
    let w := w.set Obj.vioAMv mv.toNat
    if w.power.released then w else { w with power := { w.power with vioReady := true, vioLevel := v } }
def execVioASettled (mv : BitVec 16) : PowerStep := onWork (vioASettled mv)

/-- VIO_FAULT: VIO_A (false) or VIO_B (true) outside 10 % of its level for 10 ms. -/
def vioFault (b : Bool) (mv : BitVec 16) (w : Work) : Work :=
  let nominal := if b then 1800 else 100 * w.getN Obj.vioALevel
  if !w.power.released || withinTenth nominal mv.toNat then w
  else (((w.set (if b then Obj.vioBMv else Obj.vioAMv) mv.toNat)).flag Obj.supplyFlags 16).enterSafe 6
def execVioFault (b : Bool) (mv : BitVec 16) : PowerStep := onWork (vioFault b mv)

/-! ### Reference clocks (R522) -/

/-- REFCLK_LOSS: REFCLK stops or the root PLL loses lock; the clocks go on from the holdover oscillator. -/
def refclkLoss (w : Work) : Work := (({ w with power := { w.power with pll := false } }).flag Obj.clockFlags 1).enterSafe 4
def execRefclkLoss : PowerStep := onWork refclkLoss

/-- SERDES_REFCLK_LOSS: every camera lane and every Ethernet port loses lock. -/
def serdesRefclkLoss (w : Work) : Work :=
  let w := w.flag Obj.clockFlags 2
  let w := (upTo 128).foldl (fun w l => if lsCdr ≤ w.laneState l then ((w.eyeAbort l).setLane l lsNoSignal).updLane l (fun n => { eye := n.eye }) else w) w
  (upTo 4).foldl (fun (w : Work) n => if w.get (Obj.ethLink n) = 0 then w else w.set (Obj.ethLink n) 0) w
def execSerdesRefclkLoss : PowerStep := onWork serdesRefclkLoss

/-- PCIE_REFCLK_LOSS: the PCIe link goes down. -/
def pcieRefclkLoss (w : Work) : Work :=
  let w := w.flag Obj.clockFlags 4
  if w.host.linkUp then w.pcieDown else w
def execPcieRefclkLoss : PowerStep := onWork pcieRefclkLoss

/-! ### Temperature (R524 to R529) -/

/-- A whole number of degrees in Q16.16. -/
def degrees (n : Int) : Int := n * 65536

/-- The lower limit of the ordering code (R1). -/
def coldLimit : Int := if Config.orderingX then degrees (-40) else 0

/-- 2^f for a fraction f of 20 bits, in 2^-62: the product of the roots 2^(2^-i) for the bits of f. -/
def expTwo : Nat → Nat → Nat → Nat → Nat
  | 0, _, _, acc => acc
  | fuel + 1, f, root, acc =>
    let r := isqrt (root * 2 ^ 62)
    let f2 := 2 * f
    if 2 ^ 20 ≤ f2 then expTwo fuel (f2 - 2 ^ 20) r (acc * r / 2 ^ 62) else expTwo fuel f2 r acc

/-- What a reading adds to LIFE_EQUIV, in 2^-32 readings: 2^((TJ − 85) ÷ 10) (R533). -/
def lifeStep (tj : Int) : Nat :=
  let e := ((tj - degrees 85) * 2 ^ 20) / degrees 10
  let whole := e / 2 ^ 20
  let v := expTwo 20 (e - whole * 2 ^ 20).toNat (2 * 2 ^ 62) (2 ^ 62)
  if 0 ≤ whole then v * 2 ^ whole.toNat / 2 ^ 30 else v / 2 ^ (30 + whole.natAbs)

/-- Readings of 100 µs in a thousandth of an hour. -/
def readingsPerUnit : Nat := 36000

/-- The life counters take a reading. -/
def Work.lifeTick (w : Work) (tj : Int) : Work :=
  let life := w.power.lifeRest + lifeStep tj
  let unit := readingsPerUnit * 2 ^ 32
  let hours := w.power.hourRest + 1
  let w := { w with power := { w.power with lifeRest := life % unit, hourRest := hours % readingsPerUnit } }
  (w.bump Obj.lifeEquiv (life / unit)).bump Obj.opHours (hours / readingsPerUnit)

/-- Throttling begins (R526): capacity is lost, and from the next frame boundary no crop network and no DEFLATE engine runs. -/
def Work.throttleOn (w : Work) : Work :=
  let w := (w.set Obj.thermState 2).flag Obj.thermFlags 2
  let w := { w with power := { w.power with throttle := (w.frame + 1, true) :: w.power.throttle, coolSince := none } }
  w.loseCapacity .thermal

/-- Throttling ends: capacity returns at the next frame boundary; WARM or NORMAL by this reading (R525, R526). -/
def Work.throttleOff (w : Work) (tj : Int) : Work :=
  let warm := decide (w.get Obj.tjWarn - degrees 3 < tj)
  let w := if warm then (w.set Obj.thermState 1).flag Obj.thermFlags 1 else w.set Obj.thermState 0
  let w := { w with power := { w.power with throttle := (w.frame + 1, false) :: w.power.throttle, coolSince := none } }
  w.returnCapacity .thermal

/-- The transitions of the table of thermal states at a reading; SHUTDOWN is the comparator's own. -/
def Work.thermalState (w : Work) (tj : Int) : Work :=
  let st := w.get Obj.thermState
  let warn := w.get Obj.tjWarn
  let thr := w.get Obj.tjThrottle
  if st = 3 then w
  else if st = 2 then
    if thr - degrees 5 < tj then { w with power := { w.power with coolSince := none } }
    else match w.power.coolSince with
      | none => { w with power := { w.power with coolSince := some (w.frame + 1) } }
      | some c => if c < w.frame then w.throttleOff tj else w
  else if thr ≤ tj then w.throttleOn
  else if st = 0 && warn ≤ tj then (w.set Obj.thermState 1).flag Obj.thermFlags 1
  else if st = 1 && tj ≤ warn - degrees 3 then w.set Obj.thermState 0
  else w

/-- COLD (R528). -/
def Work.coldFlag (w : Work) (tj : Int) : Work :=
  if tj < coldLimit then w.flag Obj.thermFlags 8
  else if coldLimit + degrees 3 ≤ tj then w.unflag Obj.thermFlags 8 else w

/-- THERMAL_READING: the highest sensors of the pixel dies and of the hub, every 100 µs. -/
def thermalReading (d0 d1 d2 d3 hub : BitVec 32) (w : Work) : Work :=
  if !w.power.rails || (w.running .thermal && !w.expired .thermal 100000) then w
  else
    let dies := [d0.toInt, d1.toInt, d2.toInt, d3.toInt]
    let tj := dies.foldl max hub.toInt
    let shut := decide (w.get Obj.tjShutdown ≤ tj)
    let w := { w with power := { w.power with tj := tj, hot := if shut then w.power.hot + 1 else 0 } }
    let w := (w.startTimer .thermal).lifeTick tj
    if !w.mode.dictOpen then w
    else
      let w := (dies.zipIdx.foldl (fun (w : Work) e => w.set (Obj.tjPd e.2) e.1) (w.set Obj.tj tj)).set Obj.tjHub hub.toInt
      let w := if w.get Obj.tjPeak < tj then w.set Obj.tjPeak tj else w
      (w.coldFlag tj).thermalState tj
def execThermalReading (d0 d1 d2 d3 hub : BitVec 32) : PowerStep := onWork (thermalReading d0 d1 d2 d3 hub)

/-- THERMAL_SHUTDOWN: two readings in a row at TJ_SHUTDOWN or above: the latch is set and the module enters SAFE (R527). -/
def thermalShutdown (w : Work) : Work :=
  if w.power.hot < 2 || w.run.latch then w
  else
    let w := { w with run := { w.run with latch := true } }
    if w.mode.dictOpen then ((w.set Obj.thermState 3).flag Obj.thermFlags 4).enterSafe 1 else w
def execThermalShutdown : PowerStep := onWork thermalShutdown

end Sys2Proof.Machine
end

