-- ==== Sys2Proof/Machine/Boot.lean ====
section
/-! DEFINITION. Start-up (R34, R62, R72, R84 to R87, R106, R422, R463, R506, R507, R549, R556): from the release of reset to READY or HOLD. -/
namespace Sys2Proof.Machine

/-! ### The release of reset and BOOT (R70 cause 2, R84) -/

/-- BOOT is entered once reset is released, the PLL is locked and the shutdown latch is clear. -/
def Work.bootIfReady (w : Work) : Work :=
  if w.mode == .reset && w.power.released && w.power.pll && !w.run.latch then w.modeTo .boot 2 else w

/-- RESET_RELEASE: rails, VIO_A and the reset pins allow it; PROF_SEL is sampled, VIO_A's level is sensed, and after loss of both supplies the
timebase starts at 0. -/
def resetRelease (sel : Fin 4) (w : Work) : Work :=
  let held := w.running .resetRelease && !w.expired .resetRelease 10000
  if w.mode != .reset || w.power.released || !w.power.rails || !w.power.vioReady || held then w
  else
    let w := if w.run.coldStart then { w with clk := { w.clk with tb := 0 } } else w
    let w := ({ w with power := { w.power with released := true }, sec := { w.sec with tried := [] } }).stopTimer .resetRelease
    ((w.set Obj.profSelPins sel.val).set Obj.vioALevel w.power.vioLevel).bootIfReady
def execResetRelease (sel : Fin 4) : State → Host.Outcome State Fault Refusal := onWork (resetRelease sel)

/-- ROOT_PLL_LOCK. -/
def rootPllLock (w : Work) : Work := ({ w with power := { w.power with pll := true } }).bootIfReady
def execRootPllLock : State → Host.Outcome State Fault Refusal := onWork rootPllLock

/-- SHUTDOWN_LATCH_CLEAR: TJ reads below TJ_RESUME. -/
def shutdownLatchClear (w : Work) : Work :=
  if w.run.latch && w.power.tj < w.get Obj.tjResume then ({ w with run := { w.run with latch := false } }).bootIfReady else w
def execShutdownLatchClear : State → Host.Outcome State Fault Refusal := onWork shutdownLatchClear

/-! ### TRAIN is entered (R62, R85, R296, R513) -/

/-- Objects in force while cameras and Ethernet come up, before the commit: ports, lanes and Ethernet ports. -/
def trainKey (key : Nat) : Bool :=
  let i := key / 256
  (decide (0x3000 ≤ i) && decide (i < 0x3800)) || (decide (0xB080 ≤ i) && decide (i < 0xB100))

/-- The profile selected is read and checked, and its ports, lanes and Ethernet settings are used to bring them up (R85 steps 4 and 7). -/
def Work.profileTrial (w : Work) (nv : NonVol) : Work :=
  let s := w.getN Obj.profSelPins
  let c := profCheck nv s
  if c.code ≠ 0 then w
  else match applyEntries (.profile (Fin.ofNat 4 s)) c.entries (nv, w) with
    | .error _ => w
    | .ok y => { w with
        d := { w.d with conf := y.2.d.regs.filter (fun e => trainKey e.1) }
        run := { w.run with profileOk := true, camWait := c.wait } }

/-- Identities drawn at a cold start, and the nonce of every reset. -/
def Work.drawIds (w : Work) : Work :=
  let n := w.draw
  let w := n.2.setBlob Obj.debugNonce (leBytes 32 n.1)
  if !w.run.coldStart then w
  else
    let j := w.draw
    let l := (j.2.set Obj.journalId (Int.ofNat (j.1 % 2 ^ 64))).draw
    l.2.set Obj.ledgerId (Int.ofNat (l.1 % 2 ^ 64))

/-- Firmware image i is started and enters TRAIN. -/
def trainEnter (i : Nat) (x : Both) : Both :=
  let w := (x.2.modeTo .train 3).drawIds
  let w := (w.setBlob Obj.swVersion (fwVersionOf (nth ({} : FlashSlot) x.1.flash.firmware i).bytes)).set Obj.fwRunning i
  let y := showProf (showSec (x.1, w))
  let w := (y.2.profileTrial y.1).lanesPower
  let w := w.activePorts.foldl (fun w p => w.portRestart p) w
  (y.1, (w.spTrain.showUnits).startTimer .camWait)

/-! ### The boot ROM (R506, R507) -/

/-- The images in the order of the checks: the preferred one, then the other. -/
def NonVol.imageOrder (nv : NonVol) : List Nat := if nv.flash.prefer = 1 then [1, 0] else [0, 1]

/-- The first image not yet tried that can be started is started; with none the module stays in BOOT. An image that `hangs` does not enter TRAIN. -/
def bootTry (hangs : Bool) (x : Both) : Both :=
  let w := x.2
  match x.1.imageOrder.find? (fun i => !w.sec.tried.contains i && x.1.fwState i == 1) with
  | none => (x.1, ({ w with run := { w.run with bootFailed := true } }).stopTimer .train)
  | some i =>
    let w := { w with sec := { w.sec with running := some i, tried := i :: w.sec.tried } }
    let w := w.set Obj.fwFallback (if i = x.1.flash.prefer then 0 else 1)
    if hangs then (x.1, w.startTimer .train) else trainEnter i (x.1, w.stopTimer .train)

/-- BOOT_IMAGE_CHECK. -/
def bootImageCheck (hangs : Bool) (x : Both) : Both :=
  if x.2.mode != .boot || x.2.run.bootFailed || x.2.sec.running.isSome then x else bootTry hangs x
def execBootImageCheck (hangs : Bool) : State → Host.Outcome State Fault Refusal := onBoth (bootImageCheck hangs)

/-- FIRMWARE_TRAIN_TIMEOUT: the image started has not entered TRAIN within 200 ms. -/
def firmwareTrainTimeout (hangs : Bool) (x : Both) : Both :=
  if x.2.mode != .boot || x.2.run.bootFailed || !x.2.expired .train 200000000 then x else bootTry hangs x
def execFirmwareTrainTimeout (hangs : Bool) : State → Host.Outcome State Fault Refusal := onBoth (firmwareTrainTimeout hangs)

/-! ### Die links (R73, R85, R389) -/

/-- DIE_LINKS_TRAINED: hub links and seam links are trained, or do not train: SAFE cause 2. -/
def dieLinksTrained (ok : Bool) (w : Work) : Work :=
  if w.mode != .train || w.run.dieLinks then w
  else if ok then { w with run := { w.run with dieLinks := true } } else w.enterSafe 2
def execDieLinksTrained (ok : Bool) : State → Host.Outcome State Fault Refusal := onWork (dieLinksTrained ok)

/-- DIE_LINK_FAULT. -/
def dieLinkFault (f : DieFault) (w : Work) : Work :=
  if !w.mode.dictOpen || w.mode == .safe then w
  else match f with
    | .retrained => w
    | .cluster c => w.removeCluster c 5
    | .fatal => w.enterSafe 2
def execDieLinkFault (f : DieFault) : State → Host.Outcome State Fault Refusal := onWork (dieLinkFault f)

/-! ### The end of TRAIN (R85 steps 8 and 9, R106, R463, R556) -/

/-- CAM_WAIT_EXPIRY: CAM_WAIT_MS after step 3. -/
def camWaitExpiry (w : Work) : Work :=
  if w.mode == .train && w.run.profileOk && w.expired .camWait (w.run.camWait * 1000000) then { w with run := { w.run with camOver := true } } else w
def execCamWaitExpiry : State → Host.Outcome State Fault Refusal := onWork camWaitExpiry

/-- Whether every port the profile makes active is discovered. -/
def Work.allFound (w : Work) : Bool := w.activePorts.all (fun p => w.get (Obj.portState p) = 4 || w.get (Obj.portState p) = 5)

/-- The web axis starts; with a reference named it waits for an ALIGN. -/
def Work.axisBegin (w : Work) : Work := if w.confN Obj.webRef < 1024 then w.set Obj.alignState 1 else w.axisStart

/-- TRAIN_END. -/
def trainEnd (x : Both) : Both :=
  let w := x.2
  let cameras := !w.run.profileOk || w.run.camOver || w.allFound
  if w.mode != .train || !w.hbm.trained || !w.run.dieLinks || !cameras then x
  else
    let y := loadRun (w.getN Obj.profSelPins) x
    let w := if y.2.mode == .ready then y.2 else
      let w := { y.2 with d := { y.2.d with conf := [] } }
      (upTo 32).foldl (fun w p => w.portRestart p) w.lanesPower
    let w := (w.stopTimer .camWait).axisBegin
    if w.mode == .ready && w.conf Obj.autoInspect = 1 then runCmd .device (.num 1) (y.1, w) else (y.1, w)
def execTrainEnd : State → Host.Outcome State Fault Refusal := onBoth trainEnd

end Sys2Proof.Machine
end

