-- ==== Sys2Proof/Machine/Yalind.lean ====
section
/-! DEFINITION. The Yalind link and shared time (R455 to R461): frames, sessions, acknowledgement, repeats, MGMT requests and PTP. Messages are sent and
taken whole; the frames that carry them are checked by YALIND_FRAME_RX. -/
namespace Sys2Proof.Machine

/-! ### Sessions (R456 to R458) -/

/-- A frame or message has come from a peer. -/
def Work.heard (w : Work) (peer : Nat) : Work := w.updSession peer (fun s => { s with lastRx := w.clk.ctl })

/-- SESSIONS. -/
def Work.showSessions (w : Work) : Work := w.set Obj.sessions (w.sys.sessions.length : Nat)

/-- A session opens; a request to a partner that waited for it goes out (R473). -/
def Work.openSession (w : Work) (peer number : Nat) : Work :=
  let w := { w with sys := { w.sys with sessions := w.sys.sessions ++ [({ peer := peer, number := number, lastRx := w.clk.ctl } : Session)] } }
  let w := w.showSessions
  if peer = w.partner && w.get Obj.pairState = 1 && w.running (.session peer) then (w.stopTimer (.session peer)).pairAsk else w

/-- A session is gone: its messages and its open write group are discarded. -/
def Work.dropSession (w : Work) (peer : Nat) : Work :=
  let w := { w with sys := { w.sys with
    sessions := w.sys.sessions.filter (fun s => s.peer ≠ peer)
    frags := w.sys.frags.filter (fun f => f.peer ≠ peer) } }
  let w := w.showSessions
  if w.d.groupYal.isOpen && w.d.groupYal.owner = peer then w.setGroup (.yalind (Fin.ofNat 1024 peer)) {} else w

/-- What the loss of the session does to a pair: a paired primary runs on alone, a request under way ends (R473, R481). -/
def Work.pairUnlinked (w : Work) (peer : Nat) : Work :=
  if peer ≠ w.partner then w
  else if w.get Obj.pairState = 3 then w.pairOver
  else if w.get Obj.pairState = 1 || w.get Obj.pairState = 2 then w.pairRefused 1
  else w

/-- A session is lost (R457). -/
def loseSession (peer : Nat) (x : Both) : Both :=
  if (x.2.session peer).isNone then x
  else drainAll (x.1, ((x.2.bump Obj.sessionsLost).dropSession peer).pairUnlinked peer)

/-- HELLO_SEND: every 100 ms a HELLO goes out on every Yalind port that is up. -/
def helloSend (w : Work) : Work :=
  if !w.mode.dictOpen || (w.running .hello && !w.expired .hello 100000000) then w
  else
    let w := w.startTimer .hello
    if (upTo 4).any (fun n => bitOf (w.confN Obj.ylPorts) n && w.ethUp n) then
      w.ylCast 0 1 [w.ylAddress, Config.serial.toNat, w.mode.code, w.confN Obj.groupId, w.partner] []
    else w
def execHelloSend : State → Host.Outcome State Fault Refusal := onWork helloSend

/-- Whether frames from an address are taken (R456). -/
def Work.addrOk (w : Work) (addr : Nat) : Bool := !w.sys.shut.contains addr && addr != w.ylAddress

/-- HELLO: a peer's HELLO came by a port. The module's own address with another serial is a conflict; a peer without a session is answered with
HELLO_ACK, which opens one. -/
def hello (port : Fin 4) (mac : BitVec 48) (addr : Fin 1024) (serial : BitVec 32) (mode : Fin 12) (group pair : BitVec 16) (w : Work) : Work :=
  let a := addr.val
  if !w.mode.dictOpen || !bitOf (w.confN Obj.ylPorts) port || !w.ethUp port then w
  else if a = w.ylAddress then
    if serial.toNat = Config.serial.toNat then w
    else
      let w := w.flag Obj.ylFlags 1
      { w with sys := { w.sys with shut := if w.sys.shut.contains a then w.sys.shut else a :: w.sys.shut } }
  else if w.sys.shut.contains a then w
  else
    let h : Hello := ⟨a, serial.toNat, mode.val, group.toNat, pair.toNat, port.val, mac.toNat⟩
    let w := ({ w with sys := { w.sys with hellos := h :: w.sys.hellos.filter (fun x => x.addr ≠ a) } }).heard a
    if (w.session a).isSome then w
    else
      let r := w.draw
      let n := r.1 % 65536
      ((r.2.openSession a n).ylSend a 0 2 [n] []).1
def execHello (port : Fin 4) (mac : BitVec 48) (addr : Fin 1024) (serial : BitVec 32) (mode : Fin 12) (group pair : BitVec 16) :
    State → Host.Outcome State Fault Refusal := onWork (hello port mac addr serial mode group pair)

/-- HELLO_ACK: the peer has opened the session. Where both opened one, the number of the lower address stands. -/
def helloAck (addr : Fin 1024) (number : BitVec 16) (w : Work) : Work :=
  let a := addr.val
  if !w.mode.dictOpen || !w.addrOk a then w
  else match w.session a with
    | none => w.openSession a number.toNat
    | some _ => (if a < w.ylAddress then w.updSession a (fun s => { s with number := number.toNat }) else w).heard a
def execHelloAck (addr : Fin 1024) (number : BitVec 16) : State → Host.Outcome State Fault Refusal := onWork (helloAck addr number)

/-- BYE: the peer ends the session; nothing is counted lost. -/
def bye (addr : Fin 1024) (x : Both) : Both :=
  if (x.2.session addr.val).isNone then x else drainAll (x.1, (x.2.dropSession addr.val).pairUnlinked addr.val)
def execBye (addr : Fin 1024) : State → Host.Outcome State Fault Refusal := onBoth (bye addr)

/-- YL_SESSION_TIMEOUT in nanoseconds. -/
def Work.sessionNs (w : Work) : Nat := w.getN Obj.ylSessionTimeout * 1000

/-- SESSION_TIMEOUT: no frame from the peer for YL_SESSION_TIMEOUT; or a partner asked for a pair has not been reached in that time. -/
def sessionTimeout (addr : Fin 1024) (x : Both) : Both :=
  let a := addr.val
  match x.2.session a with
  | some s => if s.lastRx + nsClocks x.2.sessionNs ≤ x.2.clk.ctl then loseSession a x else x
  | none =>
    if x.2.get Obj.pairState = 1 && a = x.2.partner && x.2.expired (.session a) x.2.sessionNs then
      (x.1, (x.2.stopTimer (.session a)).pairRefused 1)
    else x
def execSessionTimeout (addr : Fin 1024) : State → Host.Outcome State Fault Refusal := onBoth (sessionTimeout addr)

/-! ### Frames and acknowledgement (R455, R458) -/

/-- Every message of a class asks for acknowledgement, so that a gap in its numbers is a message still to come. -/
def ylAllAcked (cls : Nat) : Bool := cls == 1 || cls == 4 || cls == 5

/-- A whole message is delivered; of those held for it the next follow. The fuel bounds them. -/
def Work.deliverFrom (w : Work) (peer cls : Nat) : Nat → Work
  | 0 => w
  | fuel + 1 =>
    match w.session peer with
    | none => w
    | some s =>
      let mine := w.sys.frags.filter (fun f => f.peer = peer && f.cls = cls)
      let next := nth 0 s.nextIn cls
      let ready := mine.find? (fun f => f.whole && (if ylAllAcked cls then decide (f.seq = next) else
        !mine.any (fun g => !g.whole && decide (g.seq < f.seq)) && !mine.any (fun g => g.whole && decide (g.seq < f.seq))))
      match ready with
      | none => w
      | some f =>
        let w := { w with sys := { w.sys with frags := w.sys.frags.filter (fun g => g ≠ f) } }
        let w := w.updSession peer (fun s => { s with
          nextIn := upd s.nextIn cls (fun n => max n ((f.seq + 1) % 2 ^ 32))
          seen := ((cls, f.seq) :: s.seen).take 4096 })
        w.deliverFrom peer cls fuel

/-- A fragment of a message: the message is acknowledged once all have come, and delivered once, in order. -/
def Work.fragment (w : Work) (peer cls seq no : Nat) (last ack : Bool) (body : Bytes) : Work :=
  let reply := fun (w : Work) => if ack && !(cls == 7 && leAt body 0 1 == 2) then (w.ylSend peer 0 4 [cls, seq] []).1 else w
  match w.session peer with
  | none => w
  | some s =>
    let mine := fun (f : YFrag) => f.peer == peer && f.cls == cls && f.seq == seq
    if s.seen.contains (cls, seq) || w.sys.frags.any (fun f => mine f && f.whole) then (if last then reply w else w)
    else
      let old := (w.sys.frags.find? mine).getD ⟨peer, cls, seq, [], none, w.clk.ctl, false⟩
      let f := { old with parts := alSet old.parts no body, last := if last then some no else old.last }
      let whole := match f.last with
        | some n => decide (f.parts.length = n + 1)
        | none => false
      let w := { w with sys := { w.sys with frags := w.sys.frags.filter (fun g => !mine g) ++ [{ f with whole := whole }] } }
      if whole then (reply w).deliverFrom peer cls w.sys.frags.length else w

/-- YALIND_FRAME_RX: a frame with its Yalind header and payload. -/
def yalindFrameRx (port : Fin 4) (fcsOk : Bool) (header : BitVec 128) (payload : Bytes) (w : Work) : Work :=
  let h := header.toNat
  let cls := bitsOf h 28 4
  let src := bitsOf h 44 10
  let cast := h.testBit 19
  if !w.mode.dictOpen || !bitOf (w.confN Obj.ylPorts) port || !w.ethUp port then w
  else if !fcsOk || bitsOf h 24 4 ≠ 1 || 8 ≤ cls || (!cast && bitsOf h 54 10 ≠ w.ylAddress) then w.bump Obj.rxDropped
  else if !w.addrOk src then w
  else match w.session src with
    | none => w
    | some s =>
      if cls = 0 then w.heard src
      else if bitsOf h 0 16 ≠ s.number then w
      else (w.heard src).fragment src cls (bitsOf h 96 32) (bitsOf h 64 16) (h.testBit 16) (h.testBit 17)
        (BitVec.ofNat 8 (bitsOf h 32 8) :: payload.take (bitsOf h 80 16))
def execYalindFrameRx (port : Fin 4) (fcsOk : Bool) (header : BitVec 128) (payload : Bytes) : State → Host.Outcome State Fault Refusal :=
  onWork (yalindFrameRx port fcsOk header payload)

/-- FRAGMENT_TIMEOUT: 1 ms after the first fragment of a message it is still incomplete, and is discarded unacknowledged. -/
def fragmentTimeout (addr : Fin 1024) (cls : Fin 16) (seq : BitVec 32) (w : Work) : Work :=
  let old := fun (f : YFrag) => f.peer == addr.val && f.cls == cls.val && f.seq == seq.toNat && !f.whole && decide (f.since + nsClocks 1000000 ≤ w.clk.ctl)
  if !w.sys.frags.any old then w
  else
    let w := { w with sys := { w.sys with frags := w.sys.frags.filter (fun f => !old f) } }
    w.deliverFrom addr.val cls.val w.sys.frags.length
def execFragmentTimeout (addr : Fin 1024) (cls : Fin 16) (seq : BitVec 32) : State → Host.Outcome State Fault Refusal :=
  onWork (fragmentTimeout addr cls seq)

/-- Mirrored records at the head that the partner has acknowledged go to their rings (R299). The fuel bounds them. -/
def Work.releaseAcked (w : Work) : Nat → Work
  | 0 => w
  | fuel + 1 =>
    match w.ledger.mirrored with
    | [] => w
    | s :: rest =>
      if w.ledger.unacked.contains s.seq then w
      else (({ w with ledger := { w.ledger with mirrored := rest } }).stage s false).releaseAcked fuel

/-- What the acknowledgement of a MIRROR message brings (R63, R299, R476). -/
def Work.mirrorAcked (w : Work) (m : YMsg) : Work :=
  if m.typ = 2 then
    let ps := w.sys.pair.proposals.map (fun q => if q.seq = some m.seq then { q with acked := true } else q)
    w.setProposals ps
  else if m.typ = 3 then (if w.pairedPrimary then w.peak Obj.lastMirrorSeq (m.fields.headD 0) else w)
  else if m.typ = 4 then
    let w := { w with ledger := { w.ledger with unacked := w.ledger.unacked.filter (fun n => n ≠ m.fields.headD 0) } }
    w.releaseAcked w.ledger.mirrored.length
  else w

/-- ACK: the peer acknowledges a message by class and number. -/
def ylAck (addr : Fin 1024) (cls : Fin 16) (seq : BitVec 32) (x : Both) : Both :=
  let w := x.2.heard addr.val
  match w.session addr.val with
  | none => x
  | some s =>
    match s.waits.find? (fun m => m.msg.cls == cls.val && m.msg.seq == seq.toNat) with
    | none => (x.1, w)
    | some m =>
      let w := w.updSession addr.val (fun s => { s with waits := s.waits.filter (fun n => n ≠ m) })
      if cls.val = 7 && addr.val = w.partner then drainAll (x.1, w.mirrorAcked m.msg) else (x.1, w)
def execAck (addr : Fin 1024) (cls : Fin 16) (seq : BitVec 32) : State → Host.Outcome State Fault Refusal := onBoth (ylAck addr cls seq)

/-- YALIND_RETRY: no ACK within YL_RETRY: the whole message goes again, at most YL_RETRIES times, and then the session is lost. -/
def yalindRetry (addr : Fin 1024) (cls : Fin 16) (seq : BitVec 32) (x : Both) : Both :=
  let w := x.2
  match (w.session addr.val).bind (fun s => s.waits.find? (fun m => m.msg.cls == cls.val && m.msg.seq == seq.toNat)) with
  | none => x
  | some m =>
    if w.clk.ctl < m.sentAt + nsClocks (w.getN Obj.ylRetry * 1000) then x
    else if w.getN Obj.ylRetries ≤ m.tries then loseSession addr.val x
    else
      let again := fun (n : YWait) => if n = m then { n with tries := n.tries + 1, sentAt := w.clk.ctl } else n
      let w := (w.updSession addr.val (fun s => { s with waits := s.waits.map again })).bump Obj.retransmits
      (x.1, w.send (.yalind addr.val m.msg.cls m.msg.typ m.msg.seq m.msg.fields m.msg.data))
def execYalindRetry (addr : Fin 1024) (cls : Fin 16) (seq : BitVec 32) : State → Host.Outcome State Fault Refusal :=
  onBoth (yalindRetry addr cls seq)

/-! ### MGMT (R459) -/

/-- A request is taken: a session holds at most 16 unanswered. -/
def Work.mgmtTake (w : Work) (src : Nat) : Option Work :=
  match w.session src with
  | none => none
  | some s =>
    if !w.mode.dictOpen || 16 ≤ s.requests then none
    else some ((w.heard src).updSession src (fun s => { s with requests := s.requests + 1 }))

/-- MGMT_READ: a peer reads an object. -/
def mgmtRead (src : Fin 1024) (tag : BitVec 56) (index : BitVec 16) (sub : BitVec 8) (x : Both) : Both :=
  match x.2.mgmtTake src.val with
  | none => x
  | some w => readAny (.yalind src) (objKey index.toNat sub.toNat) (some tag.toNat) (x.1, w)
def execMgmtRead (src : Fin 1024) (tag : BitVec 56) (index : BitVec 16) (sub : BitVec 8) : State → Host.Outcome State Fault Refusal :=
  onBoth (mgmtRead src tag index sub)

/-- Whether a peer may write (R459). -/
def Work.mgmtMay (w : Work) (src : Nat) : Bool := w.get Obj.mgmtAny == 1 || (upTo 8).any (fun j => w.getN (Obj.mgmtPeer j) == src)

/-- MGMT_WRITE: a peer writes an object, over path 3. -/
def mgmtWrite (src : Fin 1024) (tag : BitVec 56) (index : BitVec 16) (sub : BitVec 8) (data : Bytes) (x : Both) : Both :=
  let key := objKey index.toNat sub.toNat
  let p : Path := .yalind src
  match x.2.mgmtTake src.val with
  | none => x
  | some w =>
    if w.mgmtMay src.val then writeAny p key (.bytes data) (some tag.toNat) (x.1, w)
    else (x.1, (w.refuse p key .path).answerWrite p key (some tag.toNat))
def execMgmtWrite (src : Fin 1024) (tag : BitVec 56) (index : BitVec 16) (sub : BitVec 8) (data : Bytes) :
    State → Host.Outcome State Fault Refusal := onBoth (mgmtWrite src tag index sub data)

/-- MGMT_RESULT: an answer. The module sends no MGMT request of its own, so it answers none; the frame keeps the session alive. -/
def mgmtResult (src : Fin 1024) (_ : BitVec 56) (_ : BitVec 16) (_ : Bytes) (w : Work) : Work := w.heard src.val
def execMgmtResult (src : Fin 1024) (tag : BitVec 56) (code : BitVec 16) (data : Bytes) : State → Host.Outcome State Fault Refusal :=
  onWork (mgmtResult src tag code data)

/-! ### Shared time (R34, R460, R461) -/

/-- The value of PTP_STATE. -/
def ptpCode : PtpRole → Nat
  | .listening => 1 | .master => 2 | .slave => 3 | .passive => 4 | .faulty => 5

/-- PTP_MESSAGE: the exchange of messages on a PTP port has set the port's state, and for a slave measured its offset from the master: the servo
trims the timebase within 200 parts per million, or the timebase steps. -/
def ptpMessage (port : Fin 4) (role : PtpRole) (offset : Int) (w : Work) : Work :=
  if !w.mode.dictOpen || w.conf Obj.ptpEnable ≠ 1 || !bitOf (w.confN Obj.ptpPorts) port || !w.ethUp port then w
  else
    let w := w.set Obj.ptpState (ptpCode role)
    if role ≠ .slave then { w with clk := { w.clk with trim := 0 } }
    else
      let w := w.set Obj.timeOffset offset
      if w.getN Obj.timeStepLimit < offset.natAbs then
        ({ w with clk := { w.clk with tb := ((w.clk.tb : Int) - offset * 10 ^ 8).toNat } }).bump Obj.timeSteps
      else
        let r := w.free
        { r.2 with clk := { r.2.clk with trim := (r.1 % 400001 : Nat) - 200000 } }
def execPtpMessage (port : Fin 4) (role : PtpRole) (offset : Int) : State → Host.Outcome State Fault Refusal := onWork (ptpMessage port role offset)

end Sys2Proof.Machine
end

