-- ==== Sys2Proof/Machine/Groups.lean ====
section
/-! DEFINITION. One web axis for several modules, web groups and lending classification (R384, R385, R462 to R471). -/
namespace Sys2Proof.Machine

/-! ### Members (R465, R468) -/

/-- A peer's last HELLO shows it as the secondary of a pair. -/
def Work.isShadow (w : Work) (addr : Nat) : Bool := w.sys.hellos.any (fun h => h.addr == addr && h.mode == Mode.shadow.code)

/-- The member a message is from: the place of its sender or of its partner, where the sender is the pair's primary. -/
def Work.memberFrom (w : Work) (src : Nat) : Option Nat :=
  if w.isShadow src then none
  else (upTo 8).find? (fun j => w.memberUsed j && (w.confN (Obj.memberAddr j) == src || w.confN (Obj.memberPartner j) == src))

/-- Change what is known of member j. -/
def Work.updMember (w : Work) (j : Nat) (f : Member → Member) : Work := { w with sys := { w.sys with members := upd w.sys.members j f } }

/-- An ALIGN, HALO or DESC has come from member j. -/
def Work.memberHeard (w : Work) (j : Nat) : Work := w.updMember j (fun m => { m with heardAt := some w.clk.ctl })

/-- The same for a message by its sender. -/
def Work.senderHeard (w : Work) (src : Nat) : Work :=
  match w.memberFrom src with
  | some j => w.memberHeard j
  | none => w

/-- GROUP_TIMEOUT: no ALIGN, HALO or DESC of member j for GROUP_TIMEOUT: it is absent. -/
def groupTimeout (j : Fin 8) (w : Work) : Work :=
  let m := nth ({} : Member) w.sys.members j
  let silent := match m.heardAt with
    | some t => decide (t + nsClocks (w.getN Obj.groupTimeout * 1000) ≤ w.clk.ctl)
    | none => true
  if !w.mode.dictOpen || !w.memberUsed j || m.absent || !silent then w
  else (w.updMember j (fun m => { m with absent := true, backAt := none })).showGroup
def execGroupTimeout (j : Fin 8) : State → Host.Outcome State Fault Refusal := onWork (groupTimeout j)

/-- DESC: a member's base, width and settings; an absent one counts as present again from the next frame boundary. -/
def desc (src : Fin 1024) (base width : BitVec 32) (settings : List Int) (w : Work) : Work :=
  match w.session src.val, w.memberFrom src.val with
  | some _, some j =>
    let w := ((w.heard src.val).memberHeard j).updMember j (fun m => { m with
      desc := some ⟨base.toNat, width.toNat, settings⟩
      backAt := if m.absent then some (w.frame + 1) else m.backAt })
    w.set (Obj.memberBase j) base.toNat
  | _, _ => w
def execDesc (src : Fin 1024) (base width : BitVec 32) (settings : List Int) : State → Host.Outcome State Fault Refusal :=
  onWork (desc src base width settings)

/-- The member with the least base among those present, this module's own included (R463, R468). -/
def Work.lowestPresent (w : Work) : Bool :=
  (upTo 8).all (fun j =>
    let m := nth ({} : Member) w.sys.members j
    !w.memberUsed j || m.absent || (match m.desc with
      | some d => decide (w.groupBase < d.base)
      | none => decide ((w.memberIndex.getD 8) < j)))

/-- At the boundary that ends frame n: for each member absent in it, the lowest member present covers its columns (R468). -/
def Work.absentRecords (w : Work) (n : Nat) : Work :=
  if w.confN Obj.groupId = 0 || !w.inspected n || !w.lowestPresent then w
  else (upTo 8).foldl (fun (w : Work) j =>
    let m := nth ({} : Member) w.sys.members j
    match m.desc with
    | none => w
    | some d =>
      if !w.memberUsed j || !m.absent then w
      else w.cover { reason := 0x42, detail := w.confN (Obj.memberAddr j), firstLine := n * w.frameLen, lastLine := (n + 1) * w.frameLen - 1,
                     cdFirst := d.base, cdLast := d.base + max d.width 1 - 1, fieldMask := sumNat (w.segList.map (2 ^ ·)) }) w

/-- At frame n the members that have come back are present. -/
def Work.membersBack (w : Work) (n : Nat) : Work :=
  let back := fun (m : Member) => match m.backAt with
    | some b => if b ≤ n then { m with absent := false, backAt := none } else m
    | none => m
  if w.sys.members.any (fun m => m.backAt.isSome) then ({ w with sys := { w.sys with members := w.sys.members.map back } }).showGroup else w

/-! ### The web axis (R463, R464) -/

/-- A control clock a number of nanoseconds of the timebase ago. -/
def Work.clockAt (w : Work) (time : Nat) : Nat := w.clk.ctl - nsClocks (w.timeNs - time)

/-- The count of an input at an earlier clock, as its stamps tell, and the newest stamp by then. -/
def Work.countAt (w : Work) (i t : Nat) : Int × Option Nat :=
  let p := w.pin i
  (w.get (Obj.count i) - p.dir * ((p.stamps.filter (fun s => decide (t < s))).length : Nat), p.stamps.find? (fun s => decide (s ≤ t)))

/-- What extrapolation adds to the count at a clock, in 1/(65,536 × 400,000,000) count. -/
def Work.extAt (w : Work) (i t : Nat) : Int :=
  match (w.countAt i t).2 with
  | some s => w.speedAt i t * ((t - s : Nat) : Int)
  | none => 0

/-- P at an earlier clock, in 1/256 line. -/
def Work.posBack (w : Work) (t : Nat) : Int :=
  let src := w.confN Obj.webSource
  if src = 16 then ((w.axis.genBase + w.get Obj.freeSpeed * ((t : Int) - w.axis.genAt)) * 256).tdiv ctlHz
  else
    (((w.countAt src t).1 - w.axis.origin) * (65536 * ctlHz : Nat) + w.extAt src t) * w.conf Obj.scaleNum * 256
      |>.tdiv ((65536 * ctlHz * w.confN Obj.scaleDen : Nat) : Int)

/-- TIME lies at least 100 ns from every edge of the web input. -/
def Work.clearOfEdges (w : Work) (t : Nat) : Bool :=
  let src := w.confN Obj.webSource
  src == 16 || (w.pin src).stamps.all (fun s => decide (s + 40 ≤ t) || decide (t + 40 ≤ s))

/-- The web axis starts so that P at clock t is nearest to k. -/
def Work.alignTo (w : Work) (k t : Nat) : Work :=
  let src := w.confN Obj.webSource
  let w := if src = 16 then { w with axis := { w.axis with started := true, genBase := (k * ctlHz : Nat), genAt := t } }
    else
      let unit := 65536 * ctlHz
      let q := roundDiv ((k * w.confN Obj.scaleDen * unit : Nat) - w.extAt src t * w.conf Obj.scaleNum) (w.confN Obj.scaleNum * unit)
      { w with axis := { w.axis with started := true, origin := (w.countAt src t).1 - q } }
  let w := if w.axis.hwm.isSome then w.flag Obj.webStatus 4 else w
  let p := w.posAt w.clk.ctl
  let w := { w with axis := { w.axis with first := some (-((-p) / 256)).toNat } }
  (w.set Obj.alignState 2).reloadTimer w.clk.ctl

/-- ALIGN comes from the reference: the module WEB_REF names, or its partner where it is a pair. -/
def Work.fromRef (w : Work) (src : Nat) : Bool :=
  let r := w.confN Obj.webRef
  decide (r < 1024) && !w.isShadow src && (src == r || (upTo 8).any (fun j =>
    (w.confN (Obj.memberAddr j) == r && w.confN (Obj.memberPartner j) == src) || (w.confN (Obj.memberPartner j) == r && w.confN (Obj.memberAddr j) == src)))

/-- ALIGN: trigger index k of the reference and the TIME of that trigger. A waiting axis starts by it; an aligned one is compared. -/
def alignMsg (src : Fin 1024) (k : BitVec 48) (time : BitVec 64) (w : Work) : Work :=
  if (w.session src.val).isNone then w
  else
    let w := (w.heard src.val).senderHeard src.val
    if !w.fromRef src.val then w
    else
      let t := w.clockAt time.toNat
      if w.get Obj.alignState = 1 then (if w.clearOfEdges t then w.alignTo k.toNat t else w)
      else if w.get Obj.alignState = 2 then
        let d := w.posBack t - (k.toNat : Int) * 256
        if d.natAbs ≤ w.getN Obj.alignTol then w
        else ((w.flag Obj.alignFlags 1).bump Obj.divergeCount).set Obj.alignErr (clampInt (-0x80000000) 0x7FFFFFFF d)
      else w
def execAlign (src : Fin 1024) (k : BitVec 48) (time : BitVec 64) : State → Host.Outcome State Fault Refusal := onWork (alignMsg src k time)

/-- ALIGN goes out at the boundary of frame n, trigger k: to the group by its reference, to the partner by a module that does not follow it. -/
def Work.sendAlign (w : Work) (k n : Nat) : Work :=
  let group := if w.confN Obj.groupId ≠ 0 && w.lowestPresent then w.groupPeers else []
  let pair := if w.hasPartner && !w.pairedSecondary && w.confN Obj.webRef ≠ w.partner then [w.partner] else []
  if w.mode == .shadow then w
  else ((group ++ pair).eraseDups).foldl (fun (w : Work) a => (w.ylSend a 2 1 [k, w.timeNs, n] []).1) w

/-! ### Halo strips (R237) -/

/-- HALO_EDGE_LINES: the 32 columns at the edge of a neighbour's swept line. -/
def haloEdgeLines (src : Fin 1024) (line : BitVec 48) (field : Fin 8) (values : List Nat) (valid uncal : BitVec 32) (w : Work) : Work :=
  match w.session src.val, w.memberFrom src.val, w.memberIndex with
  | some _, some j, some own =>
    let w := (w.heard src.val).memberHeard j
    let upper := decide (own < j)
    if (j ≠ own + 1 && own ≠ j + 1) || (w.haloLine upper field line.toNat).isSome then w
    else w.haloPut ⟨upper, line.toNat, field, (upTo 32).map (nth 0 values), valid.toNat, uncal.toNat, false⟩
  | _, _, _ => w
def execHaloEdgeLines (src : Fin 1024) (line : BitVec 48) (field : Fin 8) (values : List Nat) (valid uncal : BitVec 32) :
    State → Host.Outcome State Fault Refusal := onWork (haloEdgeLines src line field values valid uncal)

/-! ### Offers (R469, R471) -/

/-- Whether the module takes batches of others. -/
def Work.shedAccepts (w : Work) : Bool := w.valueAt Obj.shedAccept w.frame == 1 && (w.mode.inspecting || w.mode == .ready)

/-- The units that could take a batch now. -/
def Work.spareUnits (w : Work) : Nat :=
  ((w.unitsAt w.frame).filter (fun u => w.unitFree u && w.valueAtN (Obj.clRole (u / 16)) w.frame ≠ 1)).length

/-- The digests of the models in force. -/
def Work.modelDigests (w : Work) : List Bytes := (upTo 8).filterMap (fun m => (w.modelAt m w.frame).map modelDigest)

/-- The addresses of SHED_PEER. -/
def Work.shedPeers (w : Work) : List Nat := ((upTo 16).map (fun j => w.getN (Obj.shedPeer j))).filter (fun a => decide (a < 1024))

/-- Change what stands of shedding. -/
def Work.setShed (w : Work) (f : Shed → Shed) : Work := { w with sys := { w.sys with shed := f w.sys.shed } }

/-- OFFER_SEND: every 1 ms an OFFER goes to each peer of the list; a module that no longer accepts sends LEAVE. -/
def offerSend (w : Work) : Work :=
  if !w.mode.dictOpen || (w.running .offer && !w.expired .offer 1000000) then w
  else
    let w := w.startTimer .offer
    if w.shedAccepts then
      let ds := w.modelDigests
      (w.shedPeers.foldl (fun (w : Work) a => (w.ylSend a 6 1 [w.spareUnits * 1953, ds.length] ds.flatten).1) w).setShed (fun s => { s with leaving := true })
    else if w.sys.shed.leaving then
      (w.shedPeers.foldl (fun (w : Work) a => (w.ylSend a 6 6 [] []).1) w).setShed (fun s => { s with leaving := false })
    else w
def execOfferSend : State → Host.Outcome State Fault Refusal := onWork offerSend

/-- SHED_PEERS_LIVE. -/
def Work.showOffers (w : Work) : Work := w.set Obj.shedPeersLive (Int.ofNat (min 16 w.sys.shed.offers.length))

/-- OFFER: a peer's rate and the digests of its models. -/
def offer (src : Fin 1024) (rate : BitVec 32) (digests : List Bytes) (w : Work) : Work :=
  if (w.session src.val).isNone then w
  else ((w.heard src.val).setShed (fun s => { s with
    offers := ⟨src.val, rate.toNat, digests, w.clk.ctl⟩ :: s.offers.filter (fun o => o.addr ≠ src.val) })).showOffers
def execOffer (src : Fin 1024) (rate : BitVec 32) (digests : List Bytes) : State → Host.Outcome State Fault Refusal := onWork (offer src rate digests)

/-- A peer's offer ends. -/
def Work.dropOffer (w : Work) (a : Nat) : Work := (w.setShed (fun s => { s with offers := s.offers.filter (fun o => o.addr ≠ a) })).showOffers

/-- SHED_PEER_TIMEOUT: no OFFER from a peer for 10 ms. -/
def shedPeerTimeout (addr : Fin 1024) (w : Work) : Work :=
  if w.sys.shed.offers.any (fun o => o.addr == addr.val && decide (o.at_ + nsClocks 10000000 ≤ w.clk.ctl)) then w.dropOffer addr.val else w
def execShedPeerTimeout (addr : Fin 1024) : State → Host.Outcome State Fault Refusal := onWork (shedPeerTimeout addr)

/-- LEAVE: the peer takes no more batches. -/
def leave (src : Fin 1024) (w : Work) : Work := if (w.session src.val).isNone then w else (w.heard src.val).dropOffer src.val
def execLeave (src : Fin 1024) : State → Host.Outcome State Fault Refusal := onWork (leave src)

/-! ### Shed batches (R384, R385, R470, R471) -/

/-- The digest of a candidate's model slot, empty where it has none. -/
def Work.digestFor (w : Work) (m n : Nat) : Bytes := if m = 0xFF then [] else ((w.modelAt m n).map modelDigest).getD []

/-- The peer a batch goes to: the best rate among those that hold its models, the lowest address on a tie. -/
def Work.shedPeerFor (w : Work) (needs : List Bytes) : Option Nat :=
  (w.sys.shed.offers.filter (fun o => needs.all (fun d => d.isEmpty || o.digests.contains d) && (w.session o.addr).isSome)).foldl
    (fun (b : Option OfferMsg) o => match b with
      | none => some o
      | some c => if c.rate < o.rate || (c.rate = o.rate && o.addr < c.addr) then some o else some c) none |>.map (fun o => o.addr)

/-- A candidate as it travels. -/
def Work.shedCand (w : Work) (c : Candidate) : ShedCand :=
  let n := w.frameOf c.last
  let asked := !c.isArea && c.flags &&& dfUnclassified = 0 && w.netAsked c (w.featureRun c).1
  let tensor := if !asked then none else (w.modelAt (w.modelsOf c).2 n).map (fun b =>
    w.cropTensor b c.field (c.first * 256 + c.feat 11).toNat (c.feat 10).toNat)
  ⟨c.id, c.part, c.field, c.feats, tensor⟩

/-- Its bytes in a BATCH. -/
def shedCandBytes (c : ShedCand) : Bytes :=
  leBytes 8 c.id ++ leBytes 2 c.part ++ leBytes 1 c.field ++ (c.feats.map (fun f => leBytes 8 (field 64 f))).flatten
    ++ (match c.tensor with
      | some t => leBytes 4 t.length ++ (t.map (fun v => leBytes 1 (field 8 v))).flatten
      | none => leBytes 4 0)

/-- SHED_SEND: with the candidate queue above SHED_HIGH the batch at its head goes to a peer. -/
def shedSend (w : Work) : Work :=
  let n := w.frame
  let cs := w.batchHead 256
  match cs with
  | [] => w
  | c :: _ =>
    if w.valueAt Obj.shedEnable n ≠ 1 || !w.pipeRuns || w.mode == .shadow || w.cls.queue.length ≤ w.valueAtN Obj.shedHigh n || !cs.all w.netReady then w
    else
      let ms := w.modelsOf c
      let f := w.frameOf c.last
      let needs := [w.digestFor ms.1 f, w.digestFor ms.2 f]
      match w.shedPeerFor needs with
      | none => w
      | some a =>
        let id := w.cls.nextBatch
        let body := (cs.map (fun c => shedCandBytes (w.shedCand c))).flatten
        let w := ((w.takeBatch cs none (some a)).setShed (fun s => { s with sentAt := (id, w.clk.ctl) :: s.sentAt })).bump Obj.shedOut cs.length
        (w.ylSend a 6 2 [id, cs.length] (digestOr (nth [] needs 0) ++ digestOr (nth [] needs 1) ++ body)).1
def execShedSend : State → Host.Outcome State Fault Refusal := onWork shedSend

/-- A batch is no longer out. -/
def Work.shedBack (w : Work) (id : Nat) : Work := w.setShed (fun s => { s with sentAt := s.sentAt.filter (fun e => e.1 ≠ id) })

/-- SHED_TIMEOUT: a batch whose results have not come goes back to the head of the queue. -/
def shedTimeout (id : Nat) (w : Work) : Work :=
  if w.sys.shed.sentAt.any (fun e => e.1 == id && decide (e.2 + nsClocks (w.getN Obj.shedTimeout * 1000) ≤ w.clk.ctl)) then
    (((w.shedBack id).requeue (fun b => b.id == id && b.peer.isSome)).bump Obj.shedResubmit).flag Obj.placeFlags 8
  else w
def execShedTimeout (id : Nat) : State → Host.Outcome State Fault Refusal := onWork (shedTimeout id)

/-- A candidate graded by a peer's answer (R470); one that no model classifies is graded as at home. -/
def Work.gradeShed (w : Work) (c : Candidate) (a : ShedAnswer) : Work :=
  let n := w.frameOf c.last
  let ms := w.modelsOf c
  if c.isArea || c.flags &&& dfUnclassified ≠ 0 || ms.1 = 0xFF || (w.modelAt ms.1 n).isNone then w.classify c true
  else
    let w := w.bump Obj.classified
    let plain : ClassResult := { cls := a.fcls, conf := a.fconf, fcls := a.fcls, fconf := a.fconf, featModel := ms.1 }
    if !a.netUsed then w.gradeIt c plain
    else
      let w := w.bump Obj.netRun
      if w.valueAtN Obj.netMinConf n ≤ a.conf then w.gradeIt c { plain with cls := a.cls, conf := a.conf, flags := dfNetUsed, netModel := ms.2 }
      else w.gradeIt c { plain with netModel := ms.2 }

/-- SHED_RESULT: the answers of a batch, in its order; one that is no longer known is discarded. -/
def shedResult (src : Fin 1024) (id : Nat) (answers : List ShedAnswer) (w : Work) : Work :=
  match w.session src.val, w.cls.batches.find? (fun b => b.id == id && b.peer == some src.val) with
  | some _, some b =>
    let w := ((w.heard src.val).shedBack id)
    let w := { w with cls := { w.cls with batches := w.cls.batches.filter (fun x => x.id ≠ id) } }
    let w := (b.cands.zip answers).foldl (fun (w : Work) e => w.gradeShed e.1 e.2) w
    let rest := b.cands.drop answers.length
    ({ w with cls := { w.cls with queue := rest ++ w.cls.queue } }).showCands
  | _, _ => w
def execShedResult (src : Fin 1024) (id : Nat) (answers : List ShedAnswer) : State → Host.Outcome State Fault Refusal := onWork (shedResult src id answers)

/-- REFUSE: the peer cannot take the batch, which is resubmitted at once. -/
def shedRefuse (src : Fin 1024) (id : Nat) (w : Work) : Work :=
  if (w.session src.val).isNone || !w.cls.batches.any (fun b => b.id == id && b.peer == some src.val) then w
  else (((w.heard src.val).shedBack id).requeue (fun b => b.id == id && b.peer == some src.val)).bump Obj.shedRefused
def execRefuse (src : Fin 1024) (id : Nat) : State → Host.Outcome State Fault Refusal := onWork (shedRefuse src id)

/-- The slot that holds a model of a digest. -/
def Work.slotOf (w : Work) (digest : Bytes) : Option (Nat × Bytes) :=
  (upTo 8).findSome? (fun m => (w.modelAt m w.frame).bind (fun b => if modelDigest b = digest then some (m, b) else none))

/-- A peer's candidate classified by models of equal digest. -/
def Work.answerFor (w : Work) (fm nm : Option (Nat × Bytes)) (c : ShedCand) : Work × ShedAnswer :=
  let f := match fm with
    | none => (w, 0, 0)
    | some (m, b) =>
      let r := infer b ((upTo (mdInputs b)).map (fun e => featureInput (modelInput b e) c.feats))
      (w.accSat m r.2.2, r.1, r.2.1)
  match nm, c.tensor with
  | some (m, b), some t =>
    let r := infer b t
    (f.1.accSat m r.2.2, ⟨r.1, r.2.1, f.2.1, f.2.2, true⟩)
  | _, _ => (f.1, ⟨f.2.1, f.2.2, f.2.1, f.2.2, false⟩)

/-- BATCH: a peer's batch, with the digests of its models (empty for none). A module that accepts and holds the models classifies it and answers RESULT;
otherwise it answers REFUSE. -/
def shedBatch (src : Fin 1024) (id : Nat) (featDigest netDigest : Bytes) (cands : List ShedCand) (w : Work) : Work :=
  if (w.session src.val).isNone then w
  else
    let w := w.heard src.val
    let fm := w.slotOf featDigest
    let nm := w.slotOf netDigest
    let holds := (featDigest.isEmpty || fm.isSome) && (netDigest.isEmpty || nm.isSome)
    if !w.shedAccepts || !holds || w.spareUnits = 0 then (w.ylSend src.val 6 4 [id] []).1
    else
      let w := w.bump Obj.shedIn cands.length
      let r := cands.foldl (fun (acc : Work × List ShedAnswer) c =>
        let a := acc.1.answerFor fm nm c
        (a.1, acc.2 ++ [a.2])) (w, [])
      (r.1.ylSend src.val 6 3 (id :: r.2.flatMap (fun a => [a.fcls, a.fconf, a.cls, a.conf, if a.netUsed then 1 else 0])) []).1
def execBatch (src : Fin 1024) (id : Nat) (featDigest netDigest : Bytes) (cands : List ShedCand) : State → Host.Outcome State Fault Refusal :=
  onWork (shedBatch src id featDigest netDigest cands)

end Sys2Proof.Machine
end

