-- ==== Sys2Proof/Machine/Mirror.lean ====
section
/-! DEFINITION. Mirrored pairs (R63, R215, R299, R300, R356, R472 to R482): pairing and its snapshot, what is mirrored, heartbeats, the end of a pair
and the takeover. -/
namespace Sys2Proof.Machine

/-! ### What the mirror leaves alone (R475) -/

/-- Objects whose mirrored writes are journaled and not applied: RESET_CMD, DMA, the motion axes, Yalind and systems, mirroring. -/
def notApplied (key : Nat) : Bool :=
  let i := key / 256
  key == Obj.resetCmd || (decide (0x7000 ≤ i) && decide (i ≤ 0x73FF)) || (decide (0x8400 ≤ i) && decide (i ≤ 0x87FF))
    || (decide (0xA400 ≤ i) && decide (i ≤ 0xABFF))

/-- Change what stands of the pair. -/
def Work.setPair (w : Work) (f : Pair → Pair) : Work := { w with sys := { w.sys with pair := f w.sys.pair } }

/-! ### The snapshot (R474) -/

/-- Whether an object's value goes into a snapshot: one that can be written and read, but for counters and flags. -/
def inSnapshot (key : Nat) : Bool :=
  match findRow (key / 256) (key % 256) with
  | none => false
  | some r => r.access != .ro && r.access != .wo && r.effect != .w1c && r.rng != .counter && !notApplied key

/-- The value of an object in force. -/
def Work.inForce (w : Work) (key : Nat) : DictVal :=
  match findRow (key / 256) (key % 256) with
  | none => .num 0
  | some r =>
    if r.typ.isBlob then .bytes (match r.access with
      | .rws => (alGet w.d.blobConf key).getD []
      | .rwl => w.blobAt key w.frame
      | _ => w.blob key)
    else .num (match r.access with
      | .rws => w.conf key
      | .rwl => w.valueAt key w.frame
      | _ => w.get key)

/-- A profile entry (R81). -/
def entryBytes (key : Nat) (v : Bytes) : Bytes := leBytes 2 (key / 256) ++ leBytes 1 (key % 256) ++ [0] ++ leBytes 4 v.length ++ padTo 8 v

/-- The objects a module has written that a snapshot carries. -/
def Work.snapKeys (w : Work) : List Nat := ((w.d.regs.map (fun e => e.1)) ++ (w.d.blobs.map (fun e => e.1))).filter inSnapshot

/-- The entries of a snapshot: every object that differs from its default; an empty block has no entry. -/
def Work.snapEntries (w : Work) : Bytes :=
  (w.snapKeys.map (fun k =>
    let v := encodeVal k (w.inForce k)
    if v.isEmpty then [] else entryBytes k v)).flatten

/-- Send the snapshot: entries, sets, geometry, models in one message, lengths and identity in its fields. -/
def Work.sendSnapshot (w : Work) : Work :=
  let es := w.snapEntries
  let sets := w.activePorts.map (fun p => (p, w.calExportBytes p))
  let models := (upTo 8).filterMap (fun m => (w.modelAt m w.frame).map (fun b => (m, b)))
  let parts := sets ++ [(32, w.geomExportBytes)] ++ models.map (fun e => (33 + e.1, e.2))
  (w.ylSend w.partner mirrorClass 6 ([w.getN Obj.journalId, w.journal.head, w.getN Obj.ledgerId, w.getN Obj.ledgerHwm, es.length]
    ++ parts.flatMap (fun e => [e.1, e.2.length])) (es ++ (parts.map (fun e => e.2)).flatten)).1

/-- Take a value from the primary: the object holds it, it governs from the next frame, its owner acts on it. -/
def Work.putValue (w : Work) (key : Nat) (b : Bytes) : Work :=
  match findRow (key / 256) (key % 256) with
  | none => w
  | some r =>
    let ef := if r.effect == .line then 0 else w.frame + 1
    if r.typ.isBlob then (w.setBlob key b).addBlobChange ef key b
    else
      let v := r.typ.decode b
      ownerEffect key w v ((w.set key v).addChange ef key v)

/-- A correction set as its owner committed it (R215). -/
def mirrorSet (b : Bytes) : CalSet :=
  { setOfImage b with gen := leAt b 36 4, created := leAt b 56 8, effFrame := leAt b 50 6, imported := bitOf (leAt b 48 1) 4 }

/-- The same for a geometry set. -/
def mirrorGeom (b : Bytes) : GeomSet :=
  { geomOfImage b with gen := leAt b 36 4, created := leAt b 56 8, effFrame := leAt b 50 6, imported := bitOf (leAt b 48 1) 4 }

/-- A set of the primary replaces the module's own of the same port, from its effect frame on. -/
def Work.takeSet (w : Work) (p : Nat) (b : Bytes) : Work :=
  if b.isEmpty then w
  else
    let c := mirrorSet b
    w.loadSet p (if c.effFrame = noFrame || c.effFrame ≤ w.frame then 0 else c.effFrame) c

/-- The configuration of a snapshot, staged: an object the snapshot does not name returns to its default. -/
def Work.takeSnapshot (w : Work) (m : SnapMsg) (es : List ProfEntry) : Work :=
  let gone := w.snapKeys.filter (fun k => !es.any (fun e => e.key == k))
  let w := gone.foldl (fun (w : Work) k => w.putValue k (match findRow (k / 256) (k % 256) with
    | some r => if r.typ.isBlob then [] else r.typ.encode (defaultOf k)
    | none => [])) w
  let w := (es.filter (fun e => inSnapshot e.key)).foldl (fun (w : Work) e => w.putValue e.key e.value) w
  let w := m.sets.foldl (fun (w : Work) e => w.takeSet e.1 e.2) w
  let w := if m.geom.isEmpty then w else
    ({ w with loom := { w.loom with geom := some (mirrorGeom m.geom), work := none } }).set Obj.geomGen (mirrorGeom m.geom).gen
  m.models.foldl (fun (w : Work) e =>
    ({ w with cls := { w.cls with slots := upd w.cls.slots e.1 (fun _ => { images := [(0, e.2)] }) } }).showModel e.1) w

/-- A request or a pairing cannot be met: refused here, and the partner told (R473). -/
def Work.refusePair (w : Work) (code : Nat) : Work := ((w.ylSend w.partner mirrorClass myPairEnd [code] []).1).pairRefused code

/-- SNAPSHOT: the secondary applies it as a commit and takes over the identity of journal and Ledger; SHADOW follows at the next frame boundary. -/
def snapshot (src : Fin 1024) (m : SnapMsg) (w : Work) : Work :=
  if (w.session src.val).isNone || src.val ≠ w.partner || w.get Obj.pairState ≠ 1 || w.mode != .ready then w
  else
    let w := w.heard src.val
    if w.get Obj.alignState ≠ 2 then w.refusePair 5
    else match entriesOf m.entries 0 with
    | .error o => (w.showRefusal 4 o 0).refusePair 4
    | .ok es =>
      let t := w.takeSnapshot m es
      if t.frameLenFault then ((t.showRefusal 5 (0x8100 * 65536 + 5 * 256 + 0x0A) 0).toHold).refusePair 4
      else match t.staged.commitFaults with
      | f :: fs => (t.refuseCommit (f :: fs)).refusePair 4
      | [] =>
        let w := t.commitPass
        let w := { w with journal := { entries := [], head := m.head, gaps := [] } }
        let w := (((w.set Obj.journalId m.journalId).set Obj.lastMirrorSeq m.head).set Obj.ledgerId m.ledgerId).set Obj.ledgerHwm m.hwm
        (w.setPair (fun p => { p with shadowAt := some (w.frame + 1), setsDue := false })).set Obj.pairState 2
def execSnapshot (src : Fin 1024) (m : SnapMsg) : State → Host.Outcome State Fault Refusal := onWork (snapshot src m)

/-- SHADOW_ENTRY: at the first frame boundary after the snapshot the secondary enters SHADOW (cause 14) and computes from that frame on. -/
def shadowEntry (w : Work) : Work :=
  match w.sys.pair.shadowAt with
  | none => w
  | some n =>
    if w.get Obj.pairState ≠ 2 || w.mode != .ready || w.frame < n then w
    else
      let w := w.wake
      let w := if w.running .idleWake then w.wakeOver else w
      let w := { w with run := { w.run with startAt := none, waiting := none } }
      let w := (upTo 16).foldl (fun (w : Work) k => (w.updMarker k (fun _ => {})).showQueue k) w
      let w := (w.modeTo .shadow 14).beginFrames w.frame
      let w := (w.setPair (fun p => { p with shadowAt := none })).set Obj.pairState 4
      match w.axis.last with
      | some k => w.triggerWork k
      | none => w
def execShadowEntry : State → Host.Outcome State Fault Refusal := onWork shadowEntry

/-! ### Pairing (R473) -/

/-- PAIR_REQ: the partner asks to be this module's secondary, with its position. A module that inspects answers as primary; where neither does, one
with PAIR_ROLE 0. -/
def pairReq (src : Fin 1024) (position : Fin 2) (w : Work) : Work :=
  let end_ := fun (w : Work) (code : Nat) => (w.ylSend src.val mirrorClass myPairEnd [code] []).1
  if (w.session src.val).isNone then w
  else
    let w := w.heard src.val
    let st := w.get Obj.pairState
    if src.val ≠ w.partner || (st ≠ 0 && st ≠ 1) then end_ w 3
    else if (position.val : Int) = w.conf Obj.pairPosition then end_ w 2
    else if !w.mode.inspecting && !(w.mode == .ready && w.conf Obj.pairRole = 0) then w
    else
      let w := ((w.stopTimer (.session src.val)).set Obj.pairState 3).set Obj.pairRefusal 0
      (w.setPair (fun p => { proposals := p.proposals, hbIn := p.hbIn })).sendSnapshot
def execPairReq (src : Fin 1024) (position : Fin 2) : State → Host.Outcome State Fault Refusal := onWork (pairReq src position)

/-- PAIR_END: the partner ends the pairing, or refuses the request with a code. -/
def pairEnd (src : Fin 1024) (code : Fin 6) (x : Both) : Both :=
  let w := x.2
  let st := w.get Obj.pairState
  if (w.session src.val).isNone then x
  else
    let w := w.heard src.val
    if src.val ≠ w.partner then (x.1, w)
    else if st = 1 || st = 2 then (x.1, w.pairRefused code.val)
    else if st = 3 || st = 4 || st = 5 then drainAll (x.1, w.pairOver)
    else (x.1, w)
def execPairEnd (src : Fin 1024) (code : Fin 6) : State → Host.Outcome State Fault Refusal := onBoth (pairEnd src code)

/-- PAIR_CMD_PAIR: PAIR_CMD 1. -/
def execPairCmdPair (p : Path) : State → Host.Outcome State Fault Refusal := onBoth (writeAny p Obj.pairCmd (.num 1) none)

/-- PAIR_CMD_END: PAIR_CMD 2. -/
def execPairCmdEnd (p : Path) : State → Host.Outcome State Fault Refusal := onBoth (writeAny p Obj.pairCmd (.num 2) none)

/-! ### Mirrored writes (R63, R475, R476) -/

/-- PROPOSE: the partner holds a write for this module's acknowledgement, which goes out. -/
def propose (src : Fin 1024) (seq : BitVec 32) (w : Work) : Work :=
  if (w.session src.val).isNone then w else ((w.heard src.val).ylSend src.val 0 4 [7, seq.toNat] []).1
def execPropose (src : Fin 1024) (seq : BitVec 32) : State → Host.Outcome State Fault Refusal := onWork (propose src seq)

/-- The journal entry of a mirrored write. -/
def mirrorTally (e : MirrorEntry) : TallyEntry :=
  { seq := e.seq, time := e.time, effectFrame := e.effectFrame, index := e.index.toNat, sub := e.sub.toNat, path := e.path, group := e.group, mirrored := true
    deferred := e.deferred, domain := e.domain, result := e.result, sourceId := e.sourceId, dlen := e.dlen, value := e.value }

/-- A mirrored write takes its effect: what it records for a frame it records for the entry's own, or for the next one when that has begun. -/
def mirrorApply (e : MirrorEntry) (x : Both) : Both :=
  let key := objKey e.index.toNat e.sub.toNat
  let w := x.2
  let v : DictVal := match findRow e.index.toNat e.sub.toNat with
    | some r => if r.typ.isBlob then .bytes e.data else .bytes (leBytes r.typ.size e.value)
    | none => .num e.value
  let framed := e.deferred && decide (e.effectFrame < 0xFFFFFFFFFFFE)
  let late := framed && decide (e.effectFrame ≤ w.frame)
  let ef := if late then w.frame + 1 else e.effectFrame
  let y := writeMode .device key v x
  let nc := y.2.d.changes.length - w.d.changes.length
  let nb := y.2.d.blobChanges.length - w.d.blobChanges.length
  let d := if framed then { y.2.d with
      changes := (y.2.d.changes.take nc).map (fun c => { c with frame := if c.frame = 0 then 0 else ef }) ++ y.2.d.changes.drop nc
      blobChanges := (y.2.d.blobChanges.take nb).map (fun c => { c with frame := if c.frame = 0 then 0 else ef }) ++ y.2.d.blobChanges.drop nb }
    else y.2.d
  let z := { y.2 with d := d, lastRes := w.lastRes }
  (y.1, if late then z.flag Obj.pairFlags 4 else z)

/-- ENTRY: an accepted write of the primary, journaled here under its own number and applied. -/
def entry (src : Fin 1024) (e : MirrorEntry) (x : Both) : Both :=
  let w := x.2
  let st := w.get Obj.pairState
  if (w.session src.val).isNone || src.val ≠ w.partner || (st ≠ 2 && st ≠ 4 && st ≠ 5) || e.seq ≤ w.getN Obj.lastMirrorSeq then x
  else
    let y := if notApplied (objKey e.index.toNat e.sub.toNat) then x else mirrorApply e x
    let past := decide (journalSize ≤ w.journal.entries.length)
    let z := { (y.2.heard src.val) with journal := { w.journal with
      entries := mirrorTally e :: w.journal.entries.take (journalSize - 1)
      head := e.seq } }
    (y.1, (if past then z.bump Obj.overwritten else z).set Obj.lastMirrorSeq e.seq)
def execEntry (src : Fin 1024) (e : MirrorEntry) : State → Host.Outcome State Fault Refusal := onBoth (entry src e)

/-! ### Mirrored records (R299) -/

/-- A numbered record as the primary sent it, with the rings that take it and the lines it names. -/
def Work.stagedOf (w : Work) (b : Bytes) : Staged :=
  let n := leNat b
  let seq := bitsOf n 0 64
  if recType b = 1 then
    let rule := bitsOf n 248 8
    let at_ := w.frameOf (bitsOf n 352 48)
    let mask := if 128 ≤ rule then w.valueAtN Obj.defaultRingMask at_ else w.valueAtN (Obj.ringMask rule) at_
    ⟨seq, b, (upTo 4).filter (bitOf mask), bitsOf n 288 48, bitsOf n 352 48⟩
  else if recType b = 2 then ⟨seq, b, w.typeRings 0, bitsOf n 96 48, bitsOf n 144 48⟩
  else ⟨seq, b, w.typeRings 1, bitsOf n 96 48 * w.frameLen, bitsOf n 96 48 * w.frameLen + w.frameLen - 1⟩

/-- MIRROR_RECORD: a numbered record of the primary in full; it is held for redelivery. -/
def mirrorRecord (src : Fin 1024) (b : Bytes) (w : Work) : Work :=
  let st := w.get Obj.pairState
  let seq := leAt b 0 8
  if (w.session src.val).isNone || src.val ≠ w.partner || (st ≠ 2 && st ≠ 4 && st ≠ 5) || w.sys.pair.records.any (fun r => r.seq == seq) then w
  else
    let s := w.stagedOf b
    ((w.heard src.val).peak Obj.ledgerHwm seq).setPair (fun p => { p with records := p.records ++ [s] })
def execMirrorRecord (src : Fin 1024) (b : Bytes) : State → Host.Outcome State Fault Refusal := onWork (mirrorRecord src b)

/-- What the partner's completion frame and deliveries let go: own kept records up to that frame, and mirrored ones that every ring has taken (R299,
R477). -/
def Work.mirrorDrop (w : Work) : Work :=
  let c := w.sys.pair.completion
  if c = noFrame then w
  else
    let frameOfRec := fun (r : LRec) => match r with
      | .dfx d => w.frameOf d.lastLine
      | .cov v => w.frameOf v.lastLine
      | .evt e => e.frame
    let keep := fun (s : Staged) => decide (c < w.frameOf s.last) || s.rings.any (fun q => decide (nth 0 w.sys.pair.peerDelivered q < s.seq))
    let w := { w with ledger := { w.ledger with held := w.ledger.held.filter (fun r => decide (c < frameOfRec r)) } }
    w.setPair (fun p => { p with records := p.records.filter keep })

/-- The completion frame of a primary: every record of frames up to it is numbered and acknowledged (R477). -/
def Work.completionFrame (w : Work) : Nat :=
  match w.ledger.mirrored with
  | [] => w.ledger.done
  | ms =>
    let least := (ms.map (fun s => w.frameOf s.last)).foldl min noFrame
    if least = 0 then noFrame else if w.ledger.done = noFrame then noFrame else min w.ledger.done (least - 1)

/-! ### Heartbeats (R478, R482) -/

/-- A path was heard within the last 4 ms. -/
def Work.recent (w : Work) (t : Option Nat) : Bool :=
  match t with
  | some t => decide (w.clk.ctl < t + nsClocks 4000000)
  | none => false

/-- HB_PATHS. -/
def Work.showPaths (w : Work) : Work :=
  w.set Obj.hbPaths ((if w.recent w.sys.pair.heardYal then 1 else 0) + (if w.recent w.sys.pair.heardPin then 2 else 0))

/-- Modes in which heartbeats go out. -/
def Mode.beats (m : Mode) : Bool := m.inspecting || m == .shadow

/-- The pairing stands: primary, secondary or taking over. -/
def Work.pairStands (w : Work) : Bool := w.get Obj.pairState = 3 || w.get Obj.pairState = 4 || w.get Obj.pairState = 5

/-- Send HEARTBEAT. -/
def Work.sendBeat (w : Work) : Work :=
  let w := (w.ylSend w.partner mirrorClass 1 ([w.mode.code, w.journal.head, w.getN Obj.ledgerHwm, w.completionFrame]
    ++ (upTo 4).map (fun q => w.getN (Obj.lrDelivered q)) ++ (upTo 16).map (fun k => w.getN (Obj.lastFirePos k))) []).1
  w.setPair (fun p => { p with reported := w.mode.code })

/-- HEARTBEAT_SEND: every 500 µs PAIR_HB_OUT toggles in INSPECT, DEGRADED and SHADOW, and HEARTBEAT goes out with every second toggle; in every other
mode the pin is low. A primary that has gone on to READY reports it once, which R480 rests on. -/
def heartbeatSend (w : Work) : Work :=
  if !w.mode.beats || !w.pairStands then
    let w := (w.setPair (fun p => { p with hbOut := false })).stopTimer .heartbeatSend
    if w.pairStands && w.mode == .ready && w.sys.pair.reported ≠ 0 && w.sys.pair.reported ≠ w.mode.code then w.sendBeat else w
  else if w.running .heartbeatSend && !w.expired .heartbeatSend 500000 then w
  else
    let up := !w.sys.pair.hbOut
    let w := (w.setPair (fun p => { p with hbOut := up })).startTimer .heartbeatSend
    if up then w.sendBeat else w
def execHeartbeatSend : State → Host.Outcome State Fault Refusal := onWork heartbeatSend

/-- HEARTBEAT: the partner's report. -/
def heartbeat (src : Fin 1024) (m : BeatMsg) (w : Work) : Work :=
  if (w.session src.val).isNone || src.val ≠ w.partner then w
  else
    let w := w.heard src.val
    let conflict := w.mode.inspecting && (m.mode.val = Mode.inspect.code || m.mode.val = Mode.degraded.code)
    let w := if conflict then w.flag Obj.pairFlags 8 else w
    if !w.pairStands && w.get Obj.pairState ≠ 2 then w
    else
      let w := ((w.setPair (fun p => { p with heardYal := some w.clk.ctl, peerMode := m.mode.val })).set Obj.lastHeartbeat w.timeNs).showPaths
      if w.pairedPrimary then w
      else
        let w := w.setPair (fun p => { p with
          peerDelivered := (upTo 4).map (nth 0 m.delivered), peerFires := (upTo 16).map (nth 0 m.fires), completion := m.completion })
        (w.set Obj.peerComplete m.completion).mirrorDrop
def execHeartbeat (src : Fin 1024) (m : BeatMsg) : State → Host.Outcome State Fault Refusal := onWork (heartbeat src m)

/-- PAIR_HB_IN: the pin's new level; a rise is a heartbeat. -/
def pairHbIn (level : Bool) (w : Work) : Work :=
  let rise := level && !w.sys.pair.hbIn
  let w := w.setPair (fun p => { p with hbIn := level })
  if rise && w.mode.dictOpen && w.pairStands then
    ((w.setPair (fun p => { p with heardPin := some w.clk.ctl })).set Obj.lastHeartbeat w.timeNs).showPaths
  else w
def execPairHbIn (level : Bool) : State → Host.Outcome State Fault Refusal := onWork (pairHbIn level)

/-- PATH_LOST: one path is silent for 4 ms while the other is heard. -/
def pathLost (path : PairPath) (w : Work) : Work :=
  let y := w.recent w.sys.pair.heardYal
  let p := w.recent w.sys.pair.heardPin
  let lost := match path with
    | .yalind => !y && p
    | .pin => !p && y
  if lost && w.pairStands then (w.flag Obj.pairFlags 2).showPaths else w
def execPathLost (path : PairPath) : State → Host.Outcome State Fault Refusal := onWork (pathLost path)

/-- Neither path is heard any more, after one has been. -/
def Work.silent (w : Work) : Bool :=
  (w.sys.pair.heardYal.isSome || w.sys.pair.heardPin.isSome) && !w.recent w.sys.pair.heardYal && !w.recent w.sys.pair.heardPin

/-! ### The frame's mirror (R215, R356, R475) -/

/-- FRAME_SYNC goes out at each frame boundary of a paired primary. -/
def Work.sendFrameSync (w : Work) : Work :=
  if !w.pairedPrimary then w
  else
    let sets := if w.sys.pair.setsDue then w.activePorts.map (fun p => (p, w.calExportBytes p)) else []
    let queues := (upTo 16).flatMap (fun k => (w.marker k).queue.length :: (w.marker k).queue.flatMap (fun c => [field 56 c.target, c.seq]))
    let w := (w.ylSend w.partner mirrorClass 5 ([w.getN Obj.epoch, w.getN Obj.epochFrame, w.getN Obj.ledgerHwm, w.completionFrame]
      ++ queues ++ sets.flatMap (fun e => [e.1, e.2.length])) ((sets.map (fun e => e.2)).flatten)).1
    w.setPair (fun p => { p with setsDue := false })

/-- FRAME_SYNC: the primary's frame. -/
def frameSync (src : Fin 1024) (m : SyncMsg) (w : Work) : Work :=
  let st := w.get Obj.pairState
  if (w.session src.val).isNone || src.val ≠ w.partner || (st ≠ 2 && st ≠ 4 && st ≠ 5) then w
  else
    let w := (w.heard src.val).setPair (fun p => { p with
      queues := (upTo 16).map (fun k => (nth [] m.queues k).map (fun e => (⟨e.1, e.2⟩ : Compare)))
      syncHwm := m.hwm
      completion := m.completion })
    let w := m.sets.foldl (fun (w : Work) e => w.takeSet e.1 e.2) w
    (((w.set Obj.peerEpoch m.epoch).set Obj.peerComplete m.completion).peak Obj.ledgerHwm m.hwm).mirrorDrop
def execFrameSync (src : Fin 1024) (m : SyncMsg) : State → Host.Outcome State Fault Refusal := onWork (frameSync src m)

/-! ### The end of a pair (R479 to R482) -/

/-- HEARTBEAT_LOSS: a secondary has heard the primary on neither path for 4 ms. It declares the primary failed, or ends the pairing where the primary's
last report was of another mode. -/
def heartbeatLoss (x : Both) : Both :=
  let w := x.2
  if w.mode != .shadow || w.get Obj.pairState ≠ 4 || !w.silent then x
  else
    let w := w.showPaths
    if w.sys.pair.peerMode = Mode.inspect.code || w.sys.pair.peerMode = Mode.degraded.code then
      (x.1, (w.setPair (fun p => { p with declared := some w.frame })).set Obj.pairState 5)
    else drainAll (x.1, w.pairOver)
def execHeartbeatLoss : State → Host.Outcome State Fault Refusal := onBoth heartbeatLoss

/-- PRIMARY_HEARTBEAT_LOSS: a paired primary has heard no heartbeat for 4 ms and runs on alone. -/
def primaryHeartbeatLoss (x : Both) : Both :=
  if !x.2.pairedPrimary || !x.2.silent then x else drainAll (x.1, x.2.showPaths.pairOver)
def execPrimaryHeartbeatLoss : State → Host.Outcome State Fault Refusal := onBoth primaryHeartbeatLoss

/-- TAKEOVER: the partner has taken over; a module that inspects itself is in conflict with it. -/
def takeover (src : Fin 1024) (w : Work) : Work :=
  if (w.session src.val).isNone || src.val ≠ w.partner then w
  else
    let w := w.heard src.val
    if w.mode.inspecting then w.flag Obj.pairFlags 8 else w
def execTakeover (src : Fin 1024) : State → Host.Outcome State Fault Refusal := onWork (takeover src)

/-! ### The takeover (R63, R300, R356, R479) -/

/-- The entry that opens the journal of the new primary, after the gap (R63). -/
def Work.gapEntry (w : Work) : Work :=
  let last := w.getN Obj.lastMirrorSeq
  let n := last + 0x1000000
  let w := { w with journal := { w.journal with head := n - 1, gaps := (last, n) :: w.journal.gaps } }
  w.tally .device Obj.lastMirrorSeq last w.frame false

/-- What a crop request needs of a defect record given by its bytes. -/
def defOfBytes (w : Work) (b : Bytes) : DefRec :=
  let n := leNat b
  let rule := bitsOf n 248 8
  let last := bitsOf n 352 48
  { cdMax := bitsOf n 438 22, cdMin := bitsOf n 416 22, lastLine := last, part := bitsOf n 336 16, firstLine := bitsOf n 288 48, cd := bitsOf n 256 30
    rule := rule, md := bitsOf n 192 56, candId := bitsOf n 128 64, field := bitsOf n 189 3
    crop := if 128 ≤ rule then 0 else w.valueAtN (Obj.crop rule) (w.frameOf last)
    ruleCropRing := if 128 ≤ rule then 0 else w.valueAtN (Obj.cropRing rule) (w.frameOf last) }

/-- Redelivery (R300 step 1): each mirrored record goes to the rings whose confirmed delivery it lies above, and its crops are cut again. -/
def Work.redeliver (w : Work) (s : Staged) : Work :=
  let rings := s.rings.filter (fun q => decide (nth 0 w.sys.pair.peerDelivered q < s.seq))
  if rings.isEmpty then w
  else
    let b := redelivered s.bytes
    let w := w.stage { s with bytes := b, rings := rings } false
    if recType b = 1 then (w.requestCrops (defOfBytes w b) s.seq).1 else w

/-- A mirrored defect record's compares, by its MARK_MASK, for output k (R356). -/
def markOf (k : Nat) (s : Staged) : Bool := recType s.bytes == 1 && bitOf (bitsOf (leNat s.bytes) 400 16) k

/-- The queue of output k at failover (R356): as last mirrored, with the compares of records numbered since, without what has fired. -/
def Work.formQueue (w : Work) (k : Nat) : Work :=
  let p := w.sys.pair
  let since := (p.records.filter (fun s => decide (p.syncHwm < s.seq) && markOf k s)).map (fun s =>
    (⟨(bitsOf (leNat s.bytes) 192 56 : Nat) + w.get (Obj.offset k), s.seq⟩ : Compare))
  let left := (nth [] p.queues k ++ since).filter (fun c => decide (nth 0 p.peerFires k < c.target))
  left.foldl (fun (w : Work) c => if w.markRoom k then w.enqueue k c else w) ((w.updMarker k (fun m => { m with queue := [] })).showQueue k)

/-- Kept records in the order of numbering (R294). -/
def sortHeld : List LRec → List LRec
  | [] => []
  | r :: rs =>
    let rest := sortHeld rs
    (rest.takeWhile (fun x => orderLt x.order r.order)) ++ r :: (rest.dropWhile (fun x => orderLt x.order r.order))

/-- The kept records are numbered, those mirrored already only counted. -/
def Work.numberHeld (w : Work) : Work :=
  let held := sortHeld w.ledger.held
  let w := { w with ledger := { w.ledger with held := [] } }
  held.foldl (fun (w : Work) r => if w.suppressed r then w.countOnly r else w.number r none) w

/-- The takeover at frame n. -/
def Work.takeOver (w : Work) (n : Nat) : Work :=
  let w := w.modeTo .inspect 15
  let w := (w.flag Obj.pairFlags 1).bump Obj.failovers
  let w := if w.capacityLost then w.modeTo .degraded 12 else w
  let w := ({ w with run := { w.run with started := true } }).coverStopped n
  let w := w.gapEntry
  let records := w.sys.pair.records
  let w := records.foldl (fun (w : Work) s => w.redeliver s) w
  let top := w.getN Obj.ledgerHwm
  let w := { w with ledger := { w.ledger with suppress := records.filterMap (fun (s : Staged) => recKey s.bytes) } }
  let w := w.number (.evt { event := 6, frame := n, d0 := w.partner, d1 := top, d2 := w.getN Obj.journalId }) none
  let w := w.numberHeld
  let w := (upTo 16).foldl (fun (w : Work) k => w.formQueue k) w
  let w := { w with streams := { w.streams with st := w.streams.st.map (fun s => { s with deliverFrom := n }) } }
  let w := (upTo 16).foldl (fun (w : Work) a => (w.disableAxis a 0).set (Obj.homed a) 0) w
  let w := (w.ylSend w.partner mirrorClass 9 [w.ylAddress] []).1
  let w := ({ w with sys := { w.sys with pair := { hbIn := w.sys.pair.hbIn } } }).set Obj.pairState 0
  w.set Obj.lastMirrorSeq 0

/-- FAILOVER_TAKEOVER: the first frame boundary after the declaration. -/
def failoverTakeover (w : Work) : Work :=
  match w.sys.pair.declared with
  | none => w
  | some f => if w.get Obj.pairState ≠ 5 || w.mode != .shadow || w.frame ≤ f then w else w.takeOver w.frame
def execFailoverTakeover : State → Host.Outcome State Fault Refusal := onWork failoverTakeover

end Sys2Proof.Machine
end

