-- ==== Sys2Proof/Machine/Trigger.lean ====
section
/-! DEFINITION. The trigger of the web axis (R18 to R21, R108, R110, R111) and what its frame boundaries bring: TRIGGER_ISSUED. -/
namespace Sys2Proof.Machine

/-- Trigger k may be issued at a clock: the timer has expired, the web runs forward, P has reached k − 1, and after a BACKTRACK k itself (R108, R111). -/
def Work.mayTrigger (w : Work) (k t : Nat) : Bool :=
  let p := w.posAt t
  (match w.mode with
    | .reset => false | .boot => false | .train => false
    | _ => true)
  && w.axis.started && decide (0 < (w.axisSpeed t).1) && decide (((k : Int) - 1) * 256 ≤ p) && (!w.axis.backtrack || decide ((k : Int) * 256 ≤ p))
  && (match w.axis.due with
    | some d => decide (d ≤ t)
    | none => false)

/-- Index k is assigned (R106, R108): what the position objects show, and the time of the trigger. -/
def Work.indexTrigger (w : Work) (k t : Nat) : Work :=
  let lag := clampInt (-0x80000000) 0x7FFFFFFF (w.posAt t - (k : Int) * 256)
  let high := match w.axis.hwm with
    | some h => max h k
    | none => k
  let w := { w with axis := { w.axis with
    last := some k
    lastAt := t
    hwm := some high
    backtrack := false
    frameLen := some w.frameLen
    times := ((k, w.timeNs + (t - w.clk.ctl) * 5 / 2) :: w.axis.times).take 262144 } }
  let w := ((w.set Obj.triggerIndex k).set Obj.triggerHwm high).set Obj.lag lag
  if lag ≤ w.get Obj.lagTol then w else (w.flag Obj.webStatus 1).bump Obj.lagLines

/-- The management cores return a faulted cluster once its repair has passed the full test (R392). -/
def Work.returnRepaired (w : Work) : Work :=
  (upTo 64).foldl (fun (w : Work) c =>
    if (w.clus c).faulted && (w.clus c).tested && w.get (Obj.clState c) = 3 && w.get (Obj.spState c) ≠ 5 then clReturn .device (Fin.ofNat 64 c) w else w) w

/-- What the boundary of frame n brings beside its trigger, k = n·F. -/
def Work.boundary (w : Work) (k n : Nat) : Work :=
  let w := w.raise 0
  let w := w.lagEnd
  let w := w.absentRecords (n - 1)
  let w := w.membersBack n
  let w := w.portsBoundary.suspendBoundary.pipeBoundary.calLinkBoundary.sensorStates.showCuts.monBoundary.streamRings
  let w := if w.throttledAt n then w.bump Obj.throttleFrames else w
  let w := w.returnRepaired
  (w.sendAlign k n).sendFrameSync

/-- TRIGGER_ISSUED: the trigger timer expires and the next index is issued, in the control clock `ph` of the timebase clock. A START or STOP of a frame
already begun takes effect first. -/
def triggerIssued (ph : Phase) (x : Both) : Both :=
  let w := stopDue (startDue x.2)
  let k := w.nextTrigger
  let t := w.now ph
  if !w.mayTrigger k t then x
  else
    let w := (w.indexTrigger k t).raise 1
    let n := w.frameOf k
    let first := decide (k % w.frameLen = 0)
    let y := if first then drainAll (x.1, w.boundary k n) else (x.1, w)
    (y.1, (y.2.triggerWork k).reloadTimer t)
def execTriggerIssued (ph : Phase) : State → Host.Outcome State Fault Refusal := onBoth (triggerIssued ph)

end Sys2Proof.Machine
end

