-- ==== Sys2Proof/Machine/Dispatch.lean ====
section
/-! DEFINITION. The dispatcher: one arm for each command, each a direct call of that command's meaning. -/
namespace Sys2Proof.Machine

/-- The effect of a command on everything but the queue. -/
def exec (i : Instr) (s : State) : Host.Outcome State Fault Refusal :=
  match i with
  | .objectWrite p f => Sys2Proof.Machine.execObjectWrite p f s
  | .dtStart p => Sys2Proof.Machine.execDtStart p s
  | .dtAbort p => Sys2Proof.Machine.execDtAbort p s
  | .dtComplete data => Sys2Proof.Machine.execDtComplete data s
  | .coeSdoTransfer f => Sys2Proof.Machine.execCoeSdoTransfer f s
  | .coeSdoInfo q => Sys2Proof.Machine.execCoeSdoInfo q s
  | .groupOpen p => Sys2Proof.Machine.execGroupOpen p s
  | .groupClose p => Sys2Proof.Machine.execGroupClose p s
  | .groupAbort p => Sys2Proof.Machine.execGroupAbort p s
  | .tallyReadEntries p => Sys2Proof.Machine.execTallyReadEntries p s
  | .runStart p => Sys2Proof.Machine.execRunStart p s
  | .runStop p => Sys2Proof.Machine.execRunStop p s
  | .startTakesEffect => Sys2Proof.Machine.execStartTakesEffect s
  | .stopTakesEffect => Sys2Proof.Machine.execStopTakesEffect s
  | .stopDrainEnd => Sys2Proof.Machine.execStopDrainEnd s
  | .calCmdDark p => Sys2Proof.Machine.execCalCmdDark p s
  | .calCmdFlat p => Sys2Proof.Machine.execCalCmdFlat p s
  | .calCmdGeom p => Sys2Proof.Machine.execCalCmdGeom p s
  | .calCmdAbort p => Sys2Proof.Machine.execCalCmdAbort p s
  | .resetCmd p => Sys2Proof.Machine.execResetCmd p s
  | .commit p => Sys2Proof.Machine.execCommit p s
  | .loadProfile p slot => Sys2Proof.Machine.execLoadProfile p slot s
  | .profileImageWrite p slot b => Sys2Proof.Machine.execProfileImageWrite p slot b s
  | .profileProgramDone => Sys2Proof.Machine.execProfileProgramDone s
  | .profileErase p slot => Sys2Proof.Machine.execProfileErase p slot s
  | .idleRetention => Sys2Proof.Machine.execIdleRetention s
  | .idleWakeDone => Sys2Proof.Machine.execIdleWakeDone s
  | .capacityReturn => Sys2Proof.Machine.execCapacityReturn s
  | .mgmtWatchdogExpiry => Sys2Proof.Machine.execMgmtWatchdogExpiry s
  | .hubStateUncorr => Sys2Proof.Machine.execHubStateUncorr s
  | .pwrResetAssert => Sys2Proof.Machine.execPwrResetAssert s
  | .warmResetAssert => Sys2Proof.Machine.execWarmResetAssert s
  | .resetRelease sel => Sys2Proof.Machine.execResetRelease sel s
  | .bootImageCheck hangs => Sys2Proof.Machine.execBootImageCheck hangs s
  | .firmwareTrainTimeout hangs => Sys2Proof.Machine.execFirmwareTrainTimeout hangs s
  | .dieLinksTrained ok => Sys2Proof.Machine.execDieLinksTrained ok s
  | .hbmTrained failed => Sys2Proof.Machine.execHbmTrained failed s
  | .camWaitExpiry => Sys2Proof.Machine.execCamWaitExpiry s
  | .trainEnd => Sys2Proof.Machine.execTrainEnd s
  | .posEdge no levels ph => Sys2Proof.Machine.execPosEdge no levels ph s
  | .indexPulse no levels ph => Sys2Proof.Machine.execIndexPulse no levels ph s
  | .indexCorrection no => Sys2Proof.Machine.execIndexCorrection no s
  | .ssiPoll no word lineHigh ph => Sys2Proof.Machine.execSsiPoll no word lineHigh ph s
  | .speedTimeout no => Sys2Proof.Machine.execSpeedTimeout no s
  | .countWrite p no v => Sys2Proof.Machine.execCountWrite p no v s
  | .triggerIssued ph => Sys2Proof.Machine.execTriggerIssued ph s
  | .cdrLock l ppm => Sys2Proof.Machine.execCdrLock l ppm s
  | .signalLoss l => Sys2Proof.Machine.execSignalLoss l s
  | .freqErr l ppm => Sys2Proof.Machine.execFreqErr l ppm s
  | .blockLock l headers => Sys2Proof.Machine.execBlockLock l headers s
  | .blockLockLoss l headers => Sys2Proof.Machine.execBlockLockLoss l headers s
  | .bitslip p l => Sys2Proof.Machine.execBitslip p l s
  | .alignSearch l boundary => Sys2Proof.Machine.execAlignSearch l boundary s
  | .commaLock l comma chars => Sys2Proof.Machine.execCommaLock l comma chars s
  | .laneMarker l payload parity block => Sys2Proof.Machine.execLaneMarker l payload parity block s
  | .laneRetrain p l => Sys2Proof.Machine.execLaneRetrain p l s
  | .laneRetrainDone l lead => Sys2Proof.Machine.execLaneRetrainDone l lead s
  | .patternStart p l => Sys2Proof.Machine.execPatternStart p l s
  | .patternStop p l => Sys2Proof.Machine.execPatternStop p l s
  | .prbsLock l bits => Sys2Proof.Machine.execPrbsLock l bits s
  | .eyePoint p l => Sys2Proof.Machine.execEyePoint p l s
  | .eyeMap p l => Sys2Proof.Machine.execEyeMap p l s
  | .eyeAbort p l => Sys2Proof.Machine.execEyeAbort p l s
  | .eyeScanDone l counts => Sys2Proof.Machine.execEyeScanDone l counts s
  | .linePacket p start data stop errored interrupted unknown => Sys2Proof.Machine.execLinePacket p start data stop errored interrupted unknown s
  | .lineTimeout p t => Sys2Proof.Machine.execLineTimeout p t s
  | .portOverload p start blocks => Sys2Proof.Machine.execPortOverload p start blocks s
  | .portCapacityLost p => Sys2Proof.Machine.execPortCapacityLost p s
  | .portCapacityReturn p => Sys2Proof.Machine.execPortCapacityReturn p s
  | .rslMessage p block data => Sys2Proof.Machine.execRslMessage p block data s
  | .cxpStreamPacket p stream supported crcOk width pixels => Sys2Proof.Machine.execCxpStreamPacket p stream supported crcOk width pixels s
  | .cxpHeartbeat p => Sys2Proof.Machine.execCxpHeartbeat p s
  | .portDiscovery p => Sys2Proof.Machine.execPortDiscovery p s
  | .discoveryAccessTimeout p => Sys2Proof.Machine.execDiscoveryAccessTimeout p s
  | .regRead path p => Sys2Proof.Machine.execRegRead path p s
  | .regWrite path p => Sys2Proof.Machine.execRegWrite path p s
  | .regTimeout p => Sys2Proof.Machine.execRegTimeout p s
  | .portSuspend path p => Sys2Proof.Machine.execPortSuspend path p s
  | .serviceImageWrite path p b => Sys2Proof.Machine.execServiceImageWrite path p b s
  | .portApplyResume path p => Sys2Proof.Machine.execPortApplyResume path p s
  | .portResume p => Sys2Proof.Machine.execPortResume p s
  | .fullerLine p corrected badWords => Sys2Proof.Machine.execFullerLine p corrected badWords s
  | .linePublished d => Sys2Proof.Machine.execLinePublished d s
  | .corrSwap p => Sys2Proof.Machine.execCorrSwap p s
  | .lutTableWrite path d n b => Sys2Proof.Machine.execLutTableWrite path d n b s
  | .pcalDark path p => Sys2Proof.Machine.execPcalDark path p s
  | .pcalFlat path p => Sys2Proof.Machine.execPcalFlat path p s
  | .pcalAbort path p => Sys2Proof.Machine.execPcalAbort path p s
  | .pcalExclusionStart p => Sys2Proof.Machine.execPcalExclusionStart p s
  | .calConfirmInPlace path => Sys2Proof.Machine.execCalConfirmInPlace path s
  | .calConfirmRemoved path => Sys2Proof.Machine.execCalConfirmRemoved path s
  | .pcalConfirmInPlace path p => Sys2Proof.Machine.execPcalConfirmInPlace path p s
  | .pcalConfirmRemoved path p => Sys2Proof.Machine.execPcalConfirmRemoved path p s
  | .calRefTimeout p => Sys2Proof.Machine.execCalRefTimeout p s
  | .calSettleDone p => Sys2Proof.Machine.execCalSettleDone p s
  | .calAccumulateDone p => Sys2Proof.Machine.execCalAccumulateDone p s
  | .calComputeDone p => Sys2Proof.Machine.execCalComputeDone p s
  | .calTraverseStop p => Sys2Proof.Machine.execCalTraverseStop p s
  | .pcalReturn p => Sys2Proof.Machine.execPcalReturn p s
  | .calTimerTrigger => Sys2Proof.Machine.execCalTimerTrigger s
  | .workOpenCopy path p => Sys2Proof.Machine.execWorkOpenCopy path p s
  | .workOpenFresh path p => Sys2Proof.Machine.execWorkOpenFresh path p s
  | .workDiscard path p => Sys2Proof.Machine.execWorkDiscard path p s
  | .calCommit path mask => Sys2Proof.Machine.execCalCommit path mask s
  | .calImport path p b => Sys2Proof.Machine.execCalImport path p b s
  | .geomImport path b => Sys2Proof.Machine.execGeomImport path b s
  | .calExport path p => Sys2Proof.Machine.execCalExport path p s
  | .workExport path p => Sys2Proof.Machine.execWorkExport path p s
  | .geomExport path => Sys2Proof.Machine.execGeomExport path s
  | .geomFit dots links => Sys2Proof.Machine.execGeomFit dots links s
  | .sweepLine corrected bad => Sys2Proof.Machine.execSweepLine corrected bad s
  | .mapRewrite column => Sys2Proof.Machine.execMapRewrite column s
  | .tilePassRequest f n req tile first width => Sys2Proof.Machine.execTilePassRequest f n req tile first width s
  | .haloEdgeLines src line field values valid uncal => Sys2Proof.Machine.execHaloEdgeLines src line field values valid uncal s
  | .haloTimeout upper f line => Sys2Proof.Machine.execHaloTimeout upper f line s
  | .columnMap path => Sys2Proof.Machine.execColumnMap path s
  | .bandPublished u => Sys2Proof.Machine.execBandPublished u s
  | .mergeLink level => Sys2Proof.Machine.execMergeLink level s
  | .mergeEdges upper n f b entries => Sys2Proof.Machine.execMergeEdges upper n f b entries s
  | .mergeDone upper f line => Sys2Proof.Machine.execMergeDone upper f line s
  | .mergeAccum ids pixels => Sys2Proof.Machine.execMergeAccum ids pixels s
  | .mergeSplit upper ids => Sys2Proof.Machine.execMergeSplit upper ids s
  | .sysMergeTimeout => Sys2Proof.Machine.execSysMergeTimeout s
  | .classifyBatchDone id netRoom => Sys2Proof.Machine.execClassifyBatchDone id netRoom s
  | .ledgerNumber => Sys2Proof.Machine.execLedgerNumber s
  | .cropCutDone => Sys2Proof.Machine.execCropCutDone s
  | .modelImageWrite path m b => Sys2Proof.Machine.execModelImageWrite path m b s
  | .modelTakesEffect m => Sys2Proof.Machine.execModelTakesEffect m s
  | .frameDone => Sys2Proof.Machine.execFrameDone s
  | .ledgerDeliver q => Sys2Proof.Machine.execLedgerDeliver q s
  | .recordsLost q => Sys2Proof.Machine.execRecordsLost q s
  | .statFrameComplete p f => Sys2Proof.Machine.execStatFrameComplete p f s
  | .statRecordDelivered p f => Sys2Proof.Machine.execStatRecordDelivered p f s
  | .exposureWrite path p f v => Sys2Proof.Machine.execExposureWrite path p f v s
  | .camGainWrite path p f v => Sys2Proof.Machine.execCamGainWrite path p f v s
  | .expFault p => Sys2Proof.Machine.execExpFault p s
  | .expGenAdvance p => Sys2Proof.Machine.execExpGenAdvance p s
  | .streamRecordHandoff slot udpRoom => Sys2Proof.Machine.execStreamRecordHandoff slot udpRoom s
  | .streamSyncCmd p slot => Sys2Proof.Machine.execStreamSyncCmd p slot s
  | .monSyncCmd p m => Sys2Proof.Machine.execMonSyncCmd p m s
  | .syncReset => Sys2Proof.Machine.execSyncReset s
  | .compEngineTake stalls => Sys2Proof.Machine.execCompEngineTake stalls s
  | .compStallEnd e clocks again => Sys2Proof.Machine.execCompStallEnd e clocks again s
  | .compMemberDone e udpRoom => Sys2Proof.Machine.execCompMemberDone e udpRoom s
  | .engineAbort p e => Sys2Proof.Machine.execEngineAbort p e s
  | .hcTarget path k v => Sys2Proof.Machine.execHcTarget path k v s
  | .mqClear path k => Sys2Proof.Machine.execMqClear path k s
  | .markFire k => Sys2Proof.Machine.execMarkFire k s
  | .markPulseEnd k => Sys2Proof.Machine.execMarkPulseEnd k s
  | .mvPush path a => Sys2Proof.Machine.execMvPush path a s
  | .axisStep a => Sys2Proof.Machine.execAxisStep a s
  | .axisStop path a => Sys2Proof.Machine.execAxisStop path a s
  | .axisQuickStop path a => Sys2Proof.Machine.execAxisQuickStop path a s
  | .axisHalt path a => Sys2Proof.Machine.execAxisHalt path a s
  | .axisEnable path a => Sys2Proof.Machine.execAxisEnable path a s
  | .axisDisable path a => Sys2Proof.Machine.execAxisDisable path a s
  | .axisClearFault path a inputHigh => Sys2Proof.Machine.execAxisClearFault path a inputHigh s
  | .groupStop path g => Sys2Proof.Machine.execGroupStop path g s
  | .groupQuickStop path g => Sys2Proof.Machine.execGroupQuickStop path g s
  | .standstillTimeout a => Sys2Proof.Machine.execStandstillTimeout a s
  | .crWakeEnd a => Sys2Proof.Machine.execCrWakeEnd a s
  | .axisStall a input => Sys2Proof.Machine.execAxisStall a input s
  | .drvFault a => Sys2Proof.Machine.execDrvFault a s
  | .homeFail a => Sys2Proof.Machine.execHomeFail a s
  | .axisSyncStart g => Sys2Proof.Machine.execAxisSyncStart g s
  | .segJobDispatch => Sys2Proof.Machine.execSegJobDispatch s
  | .segJobAbandon => Sys2Proof.Machine.execSegJobAbandon s
  | .classifyBatchDispatch limit => Sys2Proof.Machine.execClassifyBatchDispatch limit s
  | .epochStart => Sys2Proof.Machine.execEpochStart s
  | .shedSend => Sys2Proof.Machine.execShedSend s
  | .shedTimeout id => Sys2Proof.Machine.execShedTimeout id s
  | .clRelease path c => Sys2Proof.Machine.execClRelease path c s
  | .clReturn path c => Sys2Proof.Machine.execClReturn path c s
  | .releaseSlotMove c => Sys2Proof.Machine.execReleaseSlotMove c s
  | .unitWatchdogExpiry u => Sys2Proof.Machine.execUnitWatchdogExpiry u s
  | .hbmRefresh n pending => Sys2Proof.Machine.execHbmRefresh n pending s
  | .hbmTempRead t0 t1 => Sys2Proof.Machine.execHbmTempRead t0 t1 s
  | .hbmThrottle r n offset count => Sys2Proof.Machine.execHbmThrottle r n offset count s
  | .hbmPowerDown n => Sys2Proof.Machine.execHbmPowerDown n s
  | .hbmSelfRefreshEntry slot => Sys2Proof.Machine.execHbmSelfRefreshEntry slot s
  | .hbmSelfRefreshExit slot => Sys2Proof.Machine.execHbmSelfRefreshExit slot s
  | .hbmUncorr n corrected target => Sys2Proof.Machine.execHbmUncorr n corrected target s
  | .hbmPeriodicRetrain => Sys2Proof.Machine.execHbmPeriodicRetrain s
  | .pcRetrainCmd p n => Sys2Proof.Machine.execPcRetrainCmd p n s
  | .pcRetrainDone passes => Sys2Proof.Machine.execPcRetrainDone passes s
  | .pcLostEffect => Sys2Proof.Machine.execPcLostEffect s
  | .spRowTest c bad corr => Sys2Proof.Machine.execSpRowTest c bad corr s
  | .spUncorr c => Sys2Proof.Machine.execSpUncorr c s
  | .spFullTest p c => Sys2Proof.Machine.execSpFullTest p c s
  | .spFullTestDone c fails => Sys2Proof.Machine.execSpFullTestDone c fails s
  | .spRetain p c => Sys2Proof.Machine.execSpRetain p c s
  | .spWake p c => Sys2Proof.Machine.execSpWake p c s
  | .queueWrite q item waited => Sys2Proof.Machine.execQueueWrite q item waited s
  | .queueRead q corr bad => Sys2Proof.Machine.execQueueRead q corr bad s
  | .chProgramWrite p c b => Sys2Proof.Machine.execChProgramWrite p c b s
  | .chStart p c => Sys2Proof.Machine.execChStart p c s
  | .chStop p c => Sys2Proof.Machine.execChStop p c s
  | .chClear p c => Sys2Proof.Machine.execChClear p c s
  | .dmaStopped c => Sys2Proof.Machine.execDmaStopped c s
  | .dmaMove c data corr => Sys2Proof.Machine.execDmaMove c data corr s
  | .dmaLoop c => Sys2Proof.Machine.execDmaLoop c s
  | .dmaWait c => Sys2Proof.Machine.execDmaWait c s
  | .dmaSignal c good => Sys2Proof.Machine.execDmaSignal c good s
  | .dmaEnd c good => Sys2Proof.Machine.execDmaEnd c good s
  | .dmaAddr c => Sys2Proof.Machine.execDmaAddr c s
  | .dmaWaitTimeout c => Sys2Proof.Machine.execDmaWaitTimeout c s
  | .dmaError c write beat => Sys2Proof.Machine.execDmaError c write beat s
  | .eventDelivery => Sys2Proof.Machine.execEventDelivery s
  | .evtIn no high => Sys2Proof.Machine.execEvtIn no high s
  | .swRaise p v => Sys2Proof.Machine.execSwRaise p v s
  | .relayOut n => Sys2Proof.Machine.execRelayOut n s
  | .evtOutPulseEnd no => Sys2Proof.Machine.execEvtOutPulseEnd no s
  | .yalindFrameRx port fcsOk header payload => Sys2Proof.Machine.execYalindFrameRx port fcsOk header payload s
  | .helloSend => Sys2Proof.Machine.execHelloSend s
  | .hello port mac addr serial mode group pair => Sys2Proof.Machine.execHello port mac addr serial mode group pair s
  | .helloAck addr number => Sys2Proof.Machine.execHelloAck addr number s
  | .bye addr => Sys2Proof.Machine.execBye addr s
  | .ack addr cls seq => Sys2Proof.Machine.execAck addr cls seq s
  | .yalindRetry addr cls seq => Sys2Proof.Machine.execYalindRetry addr cls seq s
  | .sessionTimeout addr => Sys2Proof.Machine.execSessionTimeout addr s
  | .fragmentTimeout addr cls seq => Sys2Proof.Machine.execFragmentTimeout addr cls seq s
  | .mgmtRead src tag index sub => Sys2Proof.Machine.execMgmtRead src tag index sub s
  | .mgmtWrite src tag index sub data => Sys2Proof.Machine.execMgmtWrite src tag index sub data s
  | .mgmtResult src tag code data => Sys2Proof.Machine.execMgmtResult src tag code data s
  | .align src k time => Sys2Proof.Machine.execAlign src k time s
  | .desc src base width settings => Sys2Proof.Machine.execDesc src base width settings s
  | .groupTimeout j => Sys2Proof.Machine.execGroupTimeout j s
  | .offerSend => Sys2Proof.Machine.execOfferSend s
  | .offer src rate digests => Sys2Proof.Machine.execOffer src rate digests s
  | .shedPeerTimeout addr => Sys2Proof.Machine.execShedPeerTimeout addr s
  | .batch src id featDigest netDigest cands => Sys2Proof.Machine.execBatch src id featDigest netDigest cands s
  | .shedResult src id answers => Sys2Proof.Machine.execShedResult src id answers s
  | .refuse src id => Sys2Proof.Machine.execRefuse src id s
  | .leave src => Sys2Proof.Machine.execLeave src s
  | .heartbeatSend => Sys2Proof.Machine.execHeartbeatSend s
  | .heartbeat src m => Sys2Proof.Machine.execHeartbeat src m s
  | .pairHbIn level => Sys2Proof.Machine.execPairHbIn level s
  | .propose src seq => Sys2Proof.Machine.execPropose src seq s
  | .entry src e => Sys2Proof.Machine.execEntry src e s
  | .mirrorRecord src b => Sys2Proof.Machine.execMirrorRecord src b s
  | .frameSync src m => Sys2Proof.Machine.execFrameSync src m s
  | .snapshot src m => Sys2Proof.Machine.execSnapshot src m s
  | .shadowEntry => Sys2Proof.Machine.execShadowEntry s
  | .pairReq src position => Sys2Proof.Machine.execPairReq src position s
  | .pairEnd src code => Sys2Proof.Machine.execPairEnd src code s
  | .takeover src => Sys2Proof.Machine.execTakeover src s
  | .pairCmdPair p => Sys2Proof.Machine.execPairCmdPair p s
  | .pairCmdEnd p => Sys2Proof.Machine.execPairCmdEnd p s
  | .heartbeatLoss => Sys2Proof.Machine.execHeartbeatLoss s
  | .primaryHeartbeatLoss => Sys2Proof.Machine.execPrimaryHeartbeatLoss s
  | .failoverTakeover => Sys2Proof.Machine.execFailoverTakeover s
  | .ptpMessage port role offset => Sys2Proof.Machine.execPtpMessage port role offset s
  | .pcieLinkDown perst => Sys2Proof.Machine.execPcieLinkDown perst s
  | .pciePerstRelease => Sys2Proof.Machine.execPciePerstRelease s
  | .ciDoorbell r v => Sys2Proof.Machine.execCiDoorbell r v s
  | .ringEnable p r => Sys2Proof.Machine.execRingEnable p r s
  | .ringDisable p r => Sys2Proof.Machine.execRingDisable p r s
  | .coalTimeExpiry r => Sys2Proof.Machine.execCoalTimeExpiry r s
  | .msixUnmask v => Sys2Proof.Machine.execMsixUnmask v s
  | .ethLinkChange n st corr uncorr => Sys2Proof.Machine.execEthLinkChange n st corr uncorr s
  | .arpRequest n ip fromIp fromMac => Sys2Proof.Machine.execArpRequest n ip fromIp fromMac s
  | .icmpEcho n ip fromIp id seq data => Sys2Proof.Machine.execIcmpEcho n ip fromIp id seq data s
  | .ecatSm2Write image => Sys2Proof.Machine.execEcatSm2Write image s
  | .ecatSm3Read => Sys2Proof.Machine.execEcatSm3Read s
  | .ecatWatchdog => Sys2Proof.Machine.execEcatWatchdog s
  | .ecatStateChange st => Sys2Proof.Machine.execEcatStateChange st s
  | .fuseDebugLock p good => Sys2Proof.Machine.execFuseDebugLock p good s
  | .fuseSignProfiles p good => Sys2Proof.Machine.execFuseSignProfiles p good s
  | .fuseSignModels p good => Sys2Proof.Machine.execFuseSignModels p good s
  | .fuseRevokeKey p k good => Sys2Proof.Machine.execFuseRevokeKey p k good s
  | .ownerKeyBurn p key good => Sys2Proof.Machine.execOwnerKeyBurn p key good s
  | .fwImageWrite p b => Sys2Proof.Machine.execFwImageWrite p b s
  | .fwProgramDone => Sys2Proof.Machine.execFwProgramDone s
  | .rollbackCommit p good => Sys2Proof.Machine.execRollbackCommit p good s
  | .quote p => Sys2Proof.Machine.execQuote p s
  | .debugToken p b => Sys2Proof.Machine.execDebugToken p b s
  | .identityKeyReady => Sys2Proof.Machine.execIdentityKeyReady s
  | .vinNotGood b mv => Sys2Proof.Machine.execVinNotGood b mv s
  | .vinGood b mv => Sys2Proof.Machine.execVinGood b mv s
  | .vinRangeTimeout => Sys2Proof.Machine.execVinRangeTimeout s
  | .returnToA => Sys2Proof.Machine.execReturnToA s
  | .holdupExpiry => Sys2Proof.Machine.execHoldupExpiry s
  | .supplySafeTimeout => Sys2Proof.Machine.execSupplySafeTimeout s
  | .vioFault b mv => Sys2Proof.Machine.execVioFault b mv s
  | .refclkLoss => Sys2Proof.Machine.execRefclkLoss s
  | .serdesRefclkLoss => Sys2Proof.Machine.execSerdesRefclkLoss s
  | .pcieRefclkLoss => Sys2Proof.Machine.execPcieRefclkLoss s
  | .thermalReading d0 d1 d2 d3 hub => Sys2Proof.Machine.execThermalReading d0 d1 d2 d3 hub s
  | .thermalShutdown => Sys2Proof.Machine.execThermalShutdown s
  | .shutdownLatchClear => Sys2Proof.Machine.execShutdownLatchClear s
  | .railsGood => Sys2Proof.Machine.execRailsGood s
  | .vioASettled mv => Sys2Proof.Machine.execVioASettled mv s
  | .objectRead p f => Sys2Proof.Machine.execObjectRead p f s
  | .pcieLinkUp => Sys2Proof.Machine.execPcieLinkUp s
  | .rootPllLock => Sys2Proof.Machine.execRootPllLock s
  | .dieLinkFault f => Sys2Proof.Machine.execDieLinkFault f s
  | .hbmStackFailure slot => Sys2Proof.Machine.execHbmStackFailure slot s
  | .cxpLaneUp l => Sys2Proof.Machine.execCxpLaneUp l s
  | .cxpControlAck p tag code words tags pixels depths lanes model serial => Sys2Proof.Machine.execCxpControlAck p tag code words tags pixels depths lanes model serial s
  | .pathLost path => Sys2Proof.Machine.execPathLost path s
  | .pauseFrame n => Sys2Proof.Machine.execPauseFrame n s

end Sys2Proof.Machine
end

