-- ==== Sys2Proof/Machine/Step.lean ====
section
/-! DEFINITION. The step of the block: the command at the front of the queue, or a clock of the timebase when none waits. -/
namespace Sys2Proof.Machine

/-- One clock of the timebase passes (R31, R34): four control clocks, 10 ns and the servo's trim; scratchpads whose wake is over serve again (R423). -/
def Work.tick (w : Work) : Work :=
  ({ w with clk := { w.clk with ctl := w.clk.ctl + 4, tb := ((w.clk.tb : Int) + 10 ^ 9 + w.clk.trim).toNat } }).spWaken

/-- The next step: the command at the front of the queue with the queue's rest, or a clock when the queue is empty. -/
def step (s : State) : Host.Outcome State Fault Refusal :=
  match s.pending with
  | c :: rest => exec c { s with pending := rest }
  | [] => .next { s with w := s.w.tick }

/-- The command a word of the table spells put at the front of the queue. The table gives no row any bits, so no word spells one. -/
def State.withFetchWord (s : State) (nbits w : Nat) : State :=
  match Sys2Proof.decodeTableWord nbits w with
  | some c => { s with pending := c :: s.pending }
  | none => s

end Sys2Proof.Machine
end

