-- ==== Sys2Proof/Safety.lean ====
section
/-! DEFINITION. What counts as safe, in the terms the statements use: fuses that stay burnt; what an access
that is accepted, refused or taken changes; what a command does and what it leaves. -/
namespace Sys2Proof.Machine

/-! ### Fuses (R503, R504, R509) -/

/-- A key slot after a while: burnt bits stay burnt, and a valid key's digest stays. -/
def KeySlot.keeps (a b : KeySlot) : Prop := (a.valid = true → b.valid = true ∧ b.digest = a.digest) ∧ (a.revoked = true → b.revoked = true)

/-- Fuses after a while: every burnt bit is still burnt, and the rollback counter has not gone back. -/
structure Fuses.Keeps (a b : Fuses) : Prop where
  keys         : ∀ k, (nth {} a.keys k).keeps (nth {} b.keys k)
  slots        : b.keys.length = a.keys.length
  signProfiles : a.signProfiles = true → b.signProfiles = true
  signModels   : a.signModels = true → b.signModels = true
  debugLock    : a.debugLock = true → b.debugLock = true
  rollback     : a.rollback ≤ b.rollback

/-! ### Marker queues (R349, R350) -/

/-- The entries of a queue that P and the lead have reached (R350). -/
def Work.compareHit (w : Work) (k : Nat) : List Compare := (w.marker k).queue.filter (fun c => decide (c.target ≤ w.reach k))

/-- The entries not yet reached. -/
def Work.compareAhead (w : Work) (k : Nat) : List Compare := (w.marker k).queue.filter (fun c => !decide (c.target ≤ w.reach k))

/-! ### Axes (R360 to R365) -/

/-- An axis at rest, enabled and awake, whose queue holds one absolute move to another position: it can start. -/
def Work.startable (w : Work) (a : Nat) : Bool :=
  (w.ax a).enabled && !(w.ax a).cr && (w.ax a).v == 0 && !(w.ax a).running && w.get (Obj.axState a) != 5 &&
  match (w.ax a).queue with
  | [m] => m.kind == 1 && m.goal.isSome && m.goal != some (w.axPos a)
  | _ => false

/-- No calibration traverses with the axis (R200). -/
def Work.notTraverse (w : Work) (a : Nat) : Bool := (upTo 32).all (fun p => w.traverse p != some a)

/-! ### Accesses -/

/-- A write over a path is taken at once: the dictionary is open, no partner is asked or has still to answer, and SHADOW does not stand in the
way (R45, R62, R476). -/
def Work.opens (w : Work) (p : Path) : Bool :=
  w.mode.dictOpen && !w.pairedPrimary && w.sys.pair.proposals.isEmpty && !(hostPath p && w.mode == .shadow)

/-- A write over a path reaches its owner at once: it is taken at once, and no write group of the path is open (R56). -/
def Work.ready (w : Work) (p : Path) : Bool := w.opens p && !(w.group p).isOpen

/-- An object whose owner keeps no rule of its own for it: no command of the table, no check beside its range, no effect beside its value. -/
def plainKey (p : Path) (key : Nat) : Bool :=
  !foreignGroup p key && key != groupKey p && (modeRow p key 0).isNone && key != Obj.calCmd && key != Obj.resetCmd && key != Obj.commit &&
  (objNo 0x2010 1 4 5 key).isNone && (objNo 0x3004 0x20 32 1 key).isNone && (imageRow p key []).isNone &&
  (atKey (plantRows ++ calRows ++ outputRows ++ hubRows) key).isNone && (atKey blobRows key).isNone && (atKey blobChecks key).isNone &&
  (atKey (setupChecks ++ recipeChecks ++ streamChecks ++ ringChecks ++ hubChecks) key).isNone && (atKey ownerEffects key).isNone

/-- A number that such an object of a row admits. -/
def plainNum (p : Path) (key : Nat) (n : Int) (r : ObjRow) : Bool :=
  plainKey p key && decide (findRow (key / 256) (key % 256) = some r) && !r.typ.isBlob && (r.access == .rw || r.access == .rwl) && (r.rng.check r.typ n).isNone

/-- Bytes that such a DOMAIN or STRING of a row admits. -/
def plainBytes (p : Path) (key : Nat) (b : Bytes) (r : ObjRow) : Bool :=
  plainKey p key && decide (findRow (key / 256) (key % 256) = some r) && r.typ.isBlob && r.access == .rw && (r.rng.checkLen b.length).isNone

/-- What an access that is refused changes: the count of refusals, the object named, and the result of its path (R57). -/
def refusalKeys (p : Path) : List Nat := Obj.refusedCount :: Obj.refusedObject :: (resultKey p).toList

/-- What an access that is accepted changes beside its object: the result of its path, and the count of journal entries overwritten. -/
def acceptKeys (p : Path) : List Nat := Obj.overwritten :: (resultKey p).toList

/-- A write of a number was accepted and journaled: one entry more, newest, with the next number, the object, the path and the value (R61). -/
def Work.journals (a b : Work) (p : Path) (key raw : Nat) : Prop :=
  b.journal.head = a.journal.head + 1 ∧
  ∃ e es, b.journal.entries = e :: es ∧ e.seq = a.journal.head + 1 ∧ objKey e.index e.sub = key ∧ e.path = pathCode p ∧
    e.sourceId = sourceId p ∧ e.value = raw

/-- The state right after the code of a command over a path is accepted, before the command acts. -/
def Work.took (w : Work) (p : Path) (key : Nat) (code : Int) : Work :=
  match w.checkNum p key (.num code) with
  | .ok (r, n) => w.acceptNum p r key n (w.effectFrame r.effect)
  | .error _ => w

/-- The same for a command whose code governs from the present frame (R41). -/
def Work.tookNow (w : Work) (p : Path) (key : Nat) (code : Int) : Work :=
  match w.checkNum p key (.num code) with
  | .ok (r, n) => w.acceptNum p r key n w.frame
  | .error _ => w

/-- A mode was entered by a cause, and the mode objects show it (R69). -/
abbrev Work.entered (b : Work) (m : Mode) (cause : Nat) : Prop := b.mode = m ∧ b.get Obj.devMode = m.code ∧ b.get Obj.modeCause = cause

/-- Every numeric object reads the same but for some. -/
def Work.sameBut (a b : Work) (keys : List Nat) : Prop := ∀ k, k ∉ keys → b.get k = a.get k

/-! ### What a command does and what it leaves -/

/-- The parts of the working state beside the numeric objects. -/
inductive Part where
  | mode | clk | timers | conf | changes | blobs | groups | dt | journal | router | host | net | ecat | ledger | posIn | axis | lanes | run | ports
  | fuller | cal | calDev | hbm | loom | stats | markers | axes | seg | cls | place | sec | power | sys | streams | scratch | queues | dma
  | lastRes | sent | draws | frees
  deriving DecidableEq, Repr

/-- A part is the same in two states. -/
def Part.same (a b : Work) : Part → Prop
  | .mode => b.mode = a.mode
  | .clk => b.clk = a.clk
  | .timers => b.timers = a.timers
  | .conf => b.d.conf = a.d.conf ∧ b.d.blobConf = a.d.blobConf
  | .changes => b.d.changes = a.d.changes ∧ b.d.blobChanges = a.d.blobChanges
  | .blobs => b.d.blobs = a.d.blobs
  | .groups => b.d.groupPcie = a.d.groupPcie ∧ b.d.groupCoe = a.d.groupCoe ∧ b.d.groupYal = a.d.groupYal
  | .dt => b.d.dt = a.d.dt
  | .journal => b.journal = a.journal
  | .router => b.router = a.router
  | .host => b.host = a.host
  | .net => b.net = a.net
  | .ecat => b.ecat = a.ecat
  | .ledger => b.ledger = a.ledger
  | .posIn => b.posIn = a.posIn
  | .axis => b.axis = a.axis
  | .lanes => b.lanes = a.lanes
  | .run => b.run = a.run
  | .ports => b.ports = a.ports
  | .fuller => b.fuller = a.fuller
  | .cal => b.cal = a.cal
  | .calDev => b.calDev = a.calDev
  | .hbm => b.hbm = a.hbm
  | .loom => b.loom = a.loom
  | .stats => b.stats = a.stats
  | .markers => b.markers = a.markers
  | .axes => b.axes = a.axes
  | .seg => b.seg = a.seg
  | .cls => b.cls = a.cls
  | .place => b.place = a.place
  | .sec => b.sec = a.sec
  | .power => b.power = a.power
  | .sys => b.sys = a.sys
  | .streams => b.streams = a.streams
  | .scratch => b.scratch = a.scratch
  | .queues => b.queues = a.queues
  | .dma => b.dma = a.dma
  | .lastRes => b.lastRes = a.lastRes
  | .sent => b.sent = a.sent
  | .draws => b.drawCount = a.drawCount
  | .frees => b.freeCount = a.freeCount

/-- Every part is the same but for some. -/
def Work.only (a b : Work) (parts : List Part) : Prop := ∀ p, p ∉ parts → p.same a b

/-- An access was refused with a code: counted, shown under its object and in the result of its path; nothing else changes (R57). -/
def Work.refuses (a b : Work) (p : Path) (key : Nat) (r : Res) : Prop :=
  b.lastRes = r.code ∧ (∀ k, resultKey p = some k → b.get k = r.code) ∧
  b.get Obj.refusedCount = min (a.get Obj.refusedCount + 1) (counterMax Obj.refusedCount) ∧ b.get Obj.refusedObject = Int.ofNat (key % 2 ^ 24) ∧
  a.only b [.lastRes] ∧ a.sameBut b (refusalKeys p)

/-- A command over a path was accepted and journaled under its object and code, its result is an acceptance, and beside that it changed no
more than some parts and some numeric objects. -/
def Work.obeys (a b : Work) (p : Path) (key raw : Nat) (parts : List Part) (keys : List Nat) : Prop :=
  a.journals b p key raw ∧ b.lastRes ≤ 0xFF ∧ (∀ k, resultKey p = some k → b.get k = b.lastRes) ∧
  a.only b (.journal :: .lastRes :: parts) ∧ a.sameBut b (acceptKeys p ++ keys)

/-- A command answers a next state that differs in the working state alone, and of that state `P` holds. -/
def Does (c : Instr) (s : State) (P : Work → Prop) : Prop := ∃ w, exec c s = .next { s with w := w } ∧ P w

/-- A command answers a next state with the queue as it was, and of its non-volatile part and its working state `P` holds. -/
def DoesNv (c : Instr) (s : State) (P : NonVol → Work → Prop) : Prop := ∃ nv w, exec c s = .next { s with nv := nv, w := w } ∧ P nv w

end Sys2Proof.Machine
end

