-- ==== Sys2Proof/Certificates/Slice0/Obligations.lean ====
section
/-! DEFINITION. The statements about the block, for the provers: one `Obligations.<Name>` each, listed in OBLIGATIONS.json. -/
open Sys2Proof Sys2Proof.Machine

/-- A step runs the command at the front of the queue on the queue's rest; on an empty queue one clock of the timebase passes (the model's choice, log
entry 6). For every command c, every queue q and every state: the step of the state whose queue is c followed by q is exec of c on the state whose
queue is q. On an empty queue the step answers the state after one timebase clock: the control clock counter is four higher, and every other part
and object is as it was but SP_STATE and the timer of a scratchpad whose wake is over. The model's own readings in it are log entries 4 and 6. -/
def Obligations.StepTakesTheFrontCommand : Prop :=
  (∀ (c : Instr) (q : List Instr) (s : State), step { s with pending := c :: q } = exec c { s with pending := q }) ∧
  (∀ s : State, s.pending = [] → ∃ t : Work, step s = .next { s with w := t } ∧ t.clk.ctl = s.w.clk.ctl + 4 ∧ s.w.only t [.clk, .timers] ∧
    s.w.sameBut t ((upTo 64).map Obj.spState))

/-- Every step answers a next state, and takes exactly the front command off the queue. For every state whatever, reached or not, the step answers a
next state, never a fault and never a refusal of the model, and the queue of that state is the old queue without its front. A command that the
spec turns away (an access refused with its code, an event that does not apply) is a next state too. The model's own readings in it are log entry
105. -/
def Obligations.EveryStepAnswersAState : Prop :=
  ∀ s : State, ∃ t : State, step s = .next t ∧ t.pending = s.pending.tail

/-- After loss of both supplies the module is in RESET, every object reads its default, and the journal, the memories and the queues are empty. In
State.reset: the mode is RESET; every numeric object of a row reads the row's default, and no object beside; no write is on record, no group is
open, the journal counts 0 and holds nothing, the Ledger, the candidate queue, the event router and the command queue are empty, every timer is
off, no fuse is burnt (the module as delivered, log entry 2), and host memory lists nothing and is in canonical form (log entry 9). -/
def Obligations.ResetHoldsDefaults : Prop :=
  State.reset.w.mode = .reset ∧ State.reset.w.get Obj.devMode = 0 ∧
  (∀ (i : BitVec 16) (x : BitVec 8) (r : ObjRow), findRow i.toNat x.toNat = some r → State.reset.w.get (objKey i.toNat x.toNat) = r.default i.toNat x.toNat) ∧
  (∀ (i : BitVec 16) (x : BitVec 8), findRow i.toNat x.toNat = none → State.reset.w.get (objKey i.toNat x.toNat) = 0) ∧
  (∀ key n, State.reset.w.valueAt key n = defaultOf key) ∧ (∀ p, State.reset.w.group p = {}) ∧
  State.reset.w.journal.head = 0 ∧ State.reset.w.journal.entries = [] ∧ State.reset.w.ledger.incoming = [] ∧ State.reset.w.ledger.staged = [] ∧
  State.reset.w.cls.queue = [] ∧ State.reset.w.router.raised = [] ∧ State.reset.w.timers = [] ∧ State.reset.pending = [] ∧
  State.reset.nv.fuses.signProfiles = false ∧ State.reset.nv.fuses.signModels = false ∧ State.reset.nv.fuses.debugLock = false ∧
  State.reset.nv.fuses.rollback = 0 ∧ (∀ k : Fin 4, nth {} State.reset.nv.fuses.keys k = {}) ∧
  State.reset.w.host.hostMem = [] ∧ Memory.wf State.reset.w.host.hostMem = true

/-- Every step keeps every burnt fuse, the digest of every valid key, and never lowers the rollback counter. For every state and whatever command is
at the front of its queue, by every path, in every mode, over resets, loss of both supplies, boot, profile loads, mirrored writes and domain
transfers: if the fuses keep some earlier fuses f (every bit burnt in f is burnt, every valid key of f has its digest, the rollback counter is no
lower), then after the step they keep f still. No signature policy, revocation, debug lock or rollback count is ever undone. -/
def Obligations.StepsKeepTheFuses : Prop :=
  ∀ (f : Fuses) (s t : State), f.Keeps s.nv.fuses → step s = .next t → f.Keeps t.nv.fuses

/-- A module in SHADOW refuses every object write of a host path with STANDBY and changes nothing for it. In SHADOW with no held access waiting, an
OBJECT_WRITE over PCIe, EtherCAT or Yalind of any value to any object index and subindex, whether an object is there or not, whether it is a
command, a group control, a DOMAIN or a plain value, is refused with STANDBY (0x0111): it is counted and shown under its object and in the path's
result, and no mode, value, block, group, transfer, fuse, flash or journal changes. Only the model's own counter of free values may advance. -/
def Obligations.ShadowStandsBy : Prop :=
  ∀ (s : State) (p : Path) (i : BitVec 16) (x : BitVec 8) (v : DictVal), s.w.mode = .shadow → hostPath p = true → s.w.sys.pair.proposals = [] →
    Does (.objectWrite p (.object i x v)) s (fun t =>
      t.lastRes = 0x0111 ∧ (∀ k, resultKey p = some k → t.get k = 0x0111) ∧
      t.get Obj.refusedCount = min (s.w.get Obj.refusedCount + 1) (counterMax Obj.refusedCount) ∧
      t.get Obj.refusedObject = Int.ofNat (objKey i.toNat x.toNat % 2 ^ 24) ∧ s.w.only t [.lastRes, .frees] ∧ s.w.sameBut t (refusalKeys p))

/-- A masked vector sets its pending bit and sends nothing more, unmasking sends one message and clears the bit, and its IRQ task input is busy
meanwhile. For every assigned vector v: while its entry or the function is masked, a cause puts v among the pending vectors and sends nothing, and
a further cause changes nothing. When the host unmasks the entry while the function is not masked, or the function while the entry is not masked,
MSIX_UNMASK sends exactly one message of v if it was pending, none otherwise, and v is no longer pending; an entry unmasked under a masked
function stays pending and sends nothing. While vector 128 + n is pending, an event on IRQ task input n (input 169 + n of the router) finds it
busy, and is an overrun of that input and nothing else. -/
def Obligations.MaskedVectorsPend : Prop :=
  (∀ (w : Work) (v : Nat), vectorAssigned v = true → w.host.funcMasked = true ∨ v ∉ w.host.unmasked →
    v ∈ (w.msix v).host.pending ∧ (w.msix v).sent = w.sent ∧ w.only (w.msix v) [.host] ∧ w.sameBut (w.msix v) [] ∧ (w.msix v).msix v = w.msix v) ∧
  (∀ (w : Work) (v : Nat), vectorAssigned v = true → w.host.funcMasked = false → v ∈ w.host.unmasked → w.msix v = w.send (.msix v)) ∧
  (∀ (s : State) (v : Fin 2048), vectorAssigned v = true → s.w.host.funcMasked = false →
    Does (.msixUnmask (some v)) s (fun t => v.val ∈ t.host.unmasked ∧ v.val ∉ t.host.pending ∧ s.w.only t [.host, .sent] ∧ s.w.sameBut t [] ∧
      t.sent.count (.msix v) = s.w.sent.count (.msix v) + (if v.val ∈ s.w.host.pending then 1 else 0))) ∧
  (∀ (s : State) (v : Fin 2048), s.w.host.funcMasked = true →
    Does (.msixUnmask (some v)) s (fun t => t.host.pending = s.w.host.pending ∧ t.sent = s.w.sent ∧ s.w.only t [.host] ∧ s.w.sameBut t [])) ∧
  (∀ (s : State) (v : Nat), vectorAssigned v = true → v ∈ s.w.host.unmasked → s.w.host.funcMasked = true →
    Does (.msixUnmask none) s (fun t => t.host.funcMasked = false ∧ v ∉ t.host.pending ∧ s.w.only t [.host, .sent] ∧ s.w.sameBut t [] ∧
      t.sent.count (.msix v) = s.w.sent.count (.msix v) + (if v ∈ s.w.host.pending then 1 else 0))) ∧
  (∀ (w : Work) (n : Fin 64) (hop : Nat) (by_ : List Nat), 128 + n.val ∈ w.host.pending → w.taskIn (169 + n) hop by_ = w.overrun (169 + n))

/-- The half-band coefficients are those of the table: symmetric, zero at even distances, summing to 131,072; a stage passes a constant, with 6 and 4
multiplies. For both kinds of stage: the tapped distances and values are those of the table (kind 0 has 19 taps, kind 1 has 11), the tap at -d has
the value of the tap at d, no even nonzero distance is tapped, the values sum to 131,072, there are 6 distances from the centre on in the 19-tap
form and 4 in the 11-tap form, and a stage whose every tapped input is the same 16-bit value gives that value. -/
def Obligations.HalfBandTapsAreTheTable : Prop :=
  (∀ d : Int, (halfTaps 0).filter (fun t => t.1 == d) =
    (if d = 0 then [(d, 65536)] else if d.natAbs = 1 then [(d, 41183)] else if d.natAbs = 3 then [(d, -12583)] else if d.natAbs = 5 then [(d, 6029)]
     else if d.natAbs = 7 then [(d, -2792)] else if d.natAbs = 9 then [(d, 931)] else [])) ∧
  (∀ d : Int, (halfTaps 1).filter (fun t => t.1 == d) =
    (if d = 0 then [(d, 65536)] else if d.natAbs = 1 then [(d, 39191)] else if d.natAbs = 3 then [(d, -7865)] else if d.natAbs = 5 then [(d, 1442)] else [])) ∧
  (∀ (k : Nat) (d v : Int), (d, v) ∈ halfTaps k → (-d, v) ∈ halfTaps k ∧ (d = 0 ∨ d % 2 = 1)) ∧
  (∀ k : Nat, ((halfTaps k).map (·.2)).sum = 131072) ∧
  ((halfTaps 0).filter (fun t => decide (0 ≤ t.1))).length = 6 ∧ ((halfTaps 1).filter (fun t => decide (0 ≤ t.1))).length = 4 ∧
  (∀ (k : Nat) (x : Samp), x.v < 65536 → halfOut ((halfTaps k).map (fun t => (t.2, x))) = x)

/-- Two writes to one object before the first one's effect frame are both journaled, and each frame takes the later one whose effect frame is not
after it. For every plain object of class FRAME or SPAN and every two writes of it, over any paths, each accepted before its effect frame, with
anything between them that writes no object: both enter the journal with their values and effect frames, and for every frame m the value in effect
is the second value if the second write's effect frame is not after m, else the first if the first's is not, else the value that was in effect
before. Every acceptance of a number or of a block of class FRAME or FRAME2, plain or not, written alone, in a group or from the mirror, enters
the journal and takes effect by the same rule. -/
def Obligations.LaterWritesGovernByFrame : Prop :=
  (∀ (s : State) (p q : Path) (i : BitVec 16) (x : BitVec 8) (v₁ v₂ : Int) (r : ObjRow),
    s.w.ready p = true → plainNum p (objKey i.toNat x.toNat) v₁ r = true → plainNum q (objKey i.toNat x.toNat) v₂ r = true →
    r.effect = .frame ∨ r.effect = .span → s.w.frame < s.w.effectFrame r.effect →
    DoesNv (.objectWrite p (.object i x (.num v₁))) s (fun _ t =>
      s.w.journals t p (objKey i.toNat x.toNat) (field (8 * r.typ.size) (r.mask v₁)) ∧
      t.journal.entries.head?.map (·.effectFrame) = some (s.w.effectFrame r.effect) ∧
      ∀ u : State, u.w.d.changes = t.d.changes → u.w.ready q = true → u.w.frame < u.w.effectFrame r.effect →
        DoesNv (.objectWrite q (.object i x (.num v₂))) u (fun _ z =>
          u.w.journals z q (objKey i.toNat x.toNat) (field (8 * r.typ.size) (r.mask v₂)) ∧
          z.journal.entries.head?.map (·.effectFrame) = some (u.w.effectFrame r.effect) ∧
          ∀ m, z.valueAt (objKey i.toNat x.toNat) m =
            if u.w.effectFrame r.effect ≤ m then r.mask v₂ else if s.w.effectFrame r.effect ≤ m then r.mask v₁
            else s.w.valueAt (objKey i.toNat x.toNat) m))) ∧
  (∀ (w : Work) (p : Path) (r : ObjRow) (key : Nat) (v : Int) (ef : Nat) (grouped : Bool), r.access ≠ .wo → r.effect = .frame ∨ r.effect = .frame2 →
    (w.acceptNum p r key v ef grouped).journal.head = w.journal.head + 1 ∧
    ∀ m, (w.acceptNum p r key v ef grouped).valueAt key m = if ef ≤ m then v else w.valueAt key m) ∧
  (∀ (w : Work) (p : Path) (r : ObjRow) (key : Nat) (b : Bytes) (ef : Nat), r.effect = .frame ∨ r.effect = .frame2 →
    (w.acceptBlob p r key b ef).journal.head = w.journal.head + 1 ∧
    ∀ m, (w.acceptBlob p r key b ef).blobAt key m = if ef ≤ m then b else w.blobAt key m)

/-- A write of a plain object within its range is accepted, stored by its effect class and journaled; one outside its range is refused and changes
nothing. For every state in which a write over the path is ready, and every RW object that has no command or rule of its own in the model's
tables: a value within the object's range is accepted and journaled under the object with the value, and the object then reads that value with its
reserved bits cleared (class IMM), the old value with the written ones cleared (a status flag object), or that value, with the value in effect
from frame p+1 on and the earlier one in effect up to frame p (class FRAME). No other object changes but the result of the path and the count of
overwritten journal entries, and no other part of the state. A value that the range refuses, or a read-only object, is refused with its code: it
is counted and shown, and nothing else changes. The model's own readings in it are log entries 5, 7 and 100. -/
def Obligations.ObjectWritesAreAcceptedOrRefused : Prop :=
  (∀ (s : State) (p : Path) (i : BitVec 16) (x : BitVec 8) (v : Int) (r : ObjRow),
    s.w.ready p = true → plainNum p (objKey i.toNat x.toNat) v r = true → r.effect = .imm → 
    DoesNv (.objectWrite p (.object i x (.num v))) s (fun nv t =>
      s.w.obeys t p (objKey i.toNat x.toNat) (field (8 * r.typ.size) (r.mask v)) [] [objKey i.toNat x.toNat] ∧ t.get (objKey i.toNat x.toNat) = r.mask v ∧ nv = s.nv)) ∧
  (∀ (s : State) (p : Path) (i : BitVec 16) (x : BitVec 8) (v : Int) (r : ObjRow),
    s.w.ready p = true → plainNum p (objKey i.toNat x.toNat) v r = true → r.effect = .w1c → 
    DoesNv (.objectWrite p (.object i x (.num v))) s (fun nv t =>
      s.w.obeys t p (objKey i.toNat x.toNat) (field (8 * r.typ.size) (r.mask v)) [] [objKey i.toNat x.toNat] ∧ t.get (objKey i.toNat x.toNat) = Int.ofNat (s.w.getN (objKey i.toNat x.toNat) &&& ((2 ^ 64 - 1) ^^^ (r.mask v).toNat)) ∧ nv = s.nv)) ∧
  (∀ (s : State) (p : Path) (i : BitVec 16) (x : BitVec 8) (v : Int) (r : ObjRow),
    s.w.ready p = true → plainNum p (objKey i.toNat x.toNat) v r = true → r.effect = .frame → 
    DoesNv (.objectWrite p (.object i x (.num v))) s (fun nv t =>
      s.w.obeys t p (objKey i.toNat x.toNat) (field (8 * r.typ.size) (r.mask v)) [.changes] [objKey i.toNat x.toNat] ∧ t.get (objKey i.toNat x.toNat) = r.mask v ∧ t.lastRes = 1 ∧ nv = s.nv ∧
      (∀ m, s.w.frame < m → t.valueAt (objKey i.toNat x.toNat) m = r.mask v) ∧ (∀ m, m ≤ s.w.frame → t.valueAt (objKey i.toNat x.toNat) m = s.w.valueAt (objKey i.toNat x.toNat) m))) ∧
  (∀ (s : State) (p : Path) (i : BitVec 16) (x : BitVec 8) (v : Int) (r : ObjRow) (e : Res),
    s.w.ready p = true → plainKey p (objKey i.toNat x.toNat) = true → findRow i.toNat x.toNat = some r → r.typ.isBlob = false → r.access = .ro ∧ e = .readOnly ∨ (r.access = .rw ∨ r.access = .rwl) ∧ r.rng.check r.typ v = some e → 
    DoesNv (.objectWrite p (.object i x (.num v))) s (fun nv t =>
      s.w.refuses t p (objKey i.toNat x.toNat) e ∧ nv = s.nv))

/-- A read of an object answers its value and changes no object; a write-only object is refused; SDO Information and the journal's read-out are
answered. With the dictionary open and no access held for a partner on the path: a read of a numeric object that the module does not measure at
the read answers the value of the object, as its 64-bit image over PCIe and in its type's encoding over the other paths, with result 0000; no
object but the path's result changes. A read of a write-only object is refused with WRITE_ONLY. With the mailbox served, an SDO upload answers the
same encoding, an SDO download of a plain object within its range stores the value and ends without an abort code, and an SDO entry description
answers type, length and access. An upload of READ_ENTRIES answers the retained entries from READ_FIRST with their header. Nothing else of the
state changes. The model's own readings in it are log entries 5 and 68. -/
def Obligations.ReadsAnswerTheObject : Prop :=
  (∀ (s : State) (p : Path) (i : BitVec 16) (x : BitVec 8) (r : ObjRow),
    s.w.mode.dictOpen = true → s.w.sys.pair.proposals = [] → findRow i.toNat x.toNat = some r → r.access ≠ .wo → r.typ.isBlob = false → (atKey formedNums (objKey i.toNat x.toNat)).isNone = true → 
    DoesNv (.objectRead p (.object i x)) s (fun nv t =>
      t = (s.w.setResult p .ok).send (.reply p (objKey i.toNat x.toNat) (if p = .pcie then leBytes 8 (field 64 (s.w.get (objKey i.toNat x.toNat))) else r.typ.encode (s.w.get (objKey i.toNat x.toNat)))) ∧ nv = s.nv)) ∧
  (∀ (s : State) (p : Path) (i : BitVec 16) (x : BitVec 8) (r : ObjRow),
    s.w.mode.dictOpen = true → s.w.sys.pair.proposals = [] → findRow i.toNat x.toNat = some r → r.access = .wo → 
    DoesNv (.objectRead p (.object i x)) s (fun nv t =>
      s.w.refuses { t with sent := s.w.sent } p (objKey i.toNat x.toNat) .writeOnly ∧ t.sent.length = s.w.sent.length + 1 ∧ nv = s.nv)) ∧
  (∀ (s : State) (i : BitVec 16) (x : BitVec 8) (r : ObjRow),
    s.w.mailbox = true → s.w.sys.pair.proposals = [] → findRow i.toNat x.toNat = some r → r.access ≠ .wo → r.typ.isBlob = false → (atKey formedNums (objKey i.toNat x.toNat)).isNone = true → 
    DoesNv (.coeSdoTransfer (.read i x)) s (fun nv t =>
      t = (s.w.setResult .coe .ok).send (.reply .coe (objKey i.toNat x.toNat) (r.typ.encode (s.w.get (objKey i.toNat x.toNat)))) ∧ nv = s.nv)) ∧
  (∀ (s : State) (i : BitVec 16) (x : BitVec 8) (b : Bytes) (r : ObjRow),
    s.w.mailbox = true → s.w.ready .coe = true → plainNum .coe (objKey i.toNat x.toNat) (r.typ.decode b) r = true → b.length = r.typ.size → r.effect = .imm → 
    DoesNv (.coeSdoTransfer (.write i x b)) s (fun nv t =>
      t.get (objKey i.toNat x.toNat) = r.mask (r.typ.decode b) ∧ s.w.obeys t .coe (objKey i.toNat x.toNat) (field (8 * r.typ.size) (r.mask (r.typ.decode b))) [.sent] [objKey i.toNat x.toNat] ∧
      t.sent = .sdoEnd (objKey i.toNat x.toNat) 0 :: s.w.sent ∧ nv = s.nv)) ∧
  (∀ (s : State) (i : BitVec 16) (x : BitVec 8) (r : ObjRow),
    s.w.mailbox = true → findRow i.toNat x.toNat = some r → indexExists i.toNat = true → 
    Does (.coeSdoInfo (.entryDescription i x)) s (fun t =>
      t = s.w.send (.sdoInfo i.toNat [i.toNat, x.toNat, typeCode r.typ, 8 * r.typ.size, accessCode r.access]))) ∧
  (∀ (s : State) (p : Path),
    s.w.mode.dictOpen = true → 
    DoesNv (.tallyReadEntries p) s (fun nv t =>
      t = (s.w.send (.reply p Obj.readEntries s.w.readEntries)).setResult p .ok ∧ nv = s.nv))

/-- GROUP_CTRL opens, fills, closes and discards the write group of its path. For every path with a group of its own and a state in which its writes
are taken at once: GROUP_CTRL 1 with no group open opens it for the source, empty; with one open it is refused with GROUP_STATE. In an open group
with room a write of a plain FRAME object is staged with result STAGED: the object and the journal stay as they are and the group grows by it.
GROUP_CTRL 3 discards the group. GROUP_CTRL 2 empties and closes the group in every case: when the staged writes do not pass together,
GROUP_RESULT is INCONSISTENT and no object but those of the group changes; when one plain FRAME write is staged, it is in effect from frame p+1,
GROUP_RESULT is 0, and the journal grows by its entry, marked GROUP, and by the entry of the close. The model's own readings in it are log entry
83. -/
def Obligations.WriteGroupsStageAndClose : Prop :=
  (∀ (s : State) (p : Path) (g : Nat),
    s.w.opens p = true → groupNo p = some g → (s.w.group p).isOpen = false → 
    Does (.groupOpen p) s (fun t =>
      s.w.obeys t p (groupKey p) 1 [.groups] [Obj.wgGroupState g, Obj.groupCount g] ∧ t.group p = { isOpen := true, owner := sourceId p, staged := [] } ∧
      t.get (Obj.wgGroupState g) = 1 ∧ t.get (Obj.groupCount g) = 0)) ∧
  (∀ (s : State) (p : Path) (g : Nat),
    s.w.opens p = true → groupNo p = some g → (s.w.group p).isOpen = true → 
    Does (.groupOpen p) s (fun t =>
      s.w.refuses t p (groupKey p) .groupState)) ∧
  (∀ (s : State) (p : Path) (i : BitVec 16) (x : BitVec 8) (v : Int) (r : ObjRow),
    s.w.opens p = true → (s.w.group p).isOpen = true → (s.w.group p).staged.length < 256 → plainNum p (objKey i.toNat x.toNat) v r = true → r.effect = .frame → 
    DoesNv (.objectWrite p (.object i x (.num v))) s (fun nv t =>
      t.lastRes = 2 ∧ (t.group p).staged = (s.w.group p).staged ++ [(objKey i.toNat x.toNat, r.mask v)] ∧ t.get (objKey i.toNat x.toNat) = s.w.get (objKey i.toNat x.toNat) ∧ s.w.only t [.lastRes, .groups] ∧ nv = s.nv)) ∧
  (∀ (s : State) (p : Path) (g : Nat),
    s.w.opens p = true → groupNo p = some g → 
    Does (.groupAbort p) s (fun t =>
      s.w.obeys t p (groupKey p) 3 [.groups] [Obj.wgGroupState g, Obj.groupCount g] ∧ t.group p = {} ∧ t.get (Obj.wgGroupState g) = 0 ∧ t.get (Obj.groupCount g) = 0)) ∧
  (∀ (s : State) (p : Path) (g : Nat),
    s.w.opens p = true → groupNo p = some g → (s.w.group p).isOpen = true → stagedPass p (s.w.group p).staged (s.nv, s.w.setGroup p {}) = false → 
    DoesNv (.groupClose p) s (fun nv t =>
      s.w.obeys t p (groupKey p) 2 [.groups] [Obj.wgGroupState g, Obj.groupCount g, Obj.groupResult g] ∧ t.group p = {} ∧ t.get (Obj.groupResult g) = 0x010A ∧ nv = s.nv)) ∧
  (∀ (s : State) (p : Path) (g : Nat) (key : Nat) (v : Int) (r : ObjRow),
    s.w.opens p = true → groupNo p = some g → (s.w.group p).isOpen = true → (s.w.group p).staged = [(key, v)] → plainNum p key v r = true → r.effect = .frame → r.mask v = v → s.w.journal.entries = [] ∧ s.w.journal.head = 0 → 
    DoesNv (.groupClose p) s (fun nv t =>
      t.group p = {} ∧ t.get (Obj.groupResult g) = 0 ∧ t.get key = v ∧ t.valueAt key (s.w.frame + 1) = v ∧ t.journal.head = 2 ∧
      t.journal.entries.map (fun e => (objKey e.index e.sub, e.group)) = [(groupKey p, false), (key, true)] ∧ s.w.only t [.groups, .journal, .lastRes, .changes] ∧ nv = s.nv))

/-- DT_CTRL 1 begins a domain transfer, DT_CTRL 2 ends it without effect, and its completion writes host memory or the object and raises vector 0. For
every state in which a write over PCIe is ready: DT_CTRL 1 with no transfer running and DT_DIRECTION 0 takes the target, sets DT_STATUS 1 and
DT_RESULT 0; with one running it is refused with BUSY; DT_CTRL 2 with one running ends it, and DT_STATUS is 0. When an upload completes, its bytes
stand in host memory from DT_HOST_ADDR on and every other byte of host memory (in canonical form before) is as it was, DT_STATUS is 2, DT_RESULT
0, DT_DONE_LENGTH the number of bytes and DT_CRC their CRC. When a download of DT_LENGTH bytes to a plain DOMAIN object within its length
completes, the object holds them, DT_STATUS is 2 and DT_RESULT a code of acceptance. The model's own readings in it are log entry 84. -/
def Obligations.DomainTransfersRun : Prop :=
  (∀ (s : State),
    s.w.ready .pcie = true → s.w.d.dt.busy = false → s.w.get Obj.dtDirection = 0 → 
    DoesNv (.dtStart .pcie) s (fun nv t =>
      s.w.obeys t .pcie Obj.dtCtrl 1 [.dt] [Obj.dtStatus, Obj.dtResult, Obj.dtDoneLength] ∧ nv = s.nv ∧ t.get Obj.dtStatus = 1 ∧ t.get Obj.dtResult = 0 ∧
      t.d.dt = { busy := true, key := s.w.getN Obj.dtTarget, upload := false, bytes := [], addr := s.w.getN Obj.dtHostAddr })) ∧
  (∀ (s : State),
    s.w.ready .pcie = true → s.w.d.dt.busy = true → 
    DoesNv (.dtStart .pcie) s (fun nv t =>
      s.w.refuses t .pcie Obj.dtCtrl .busy ∧ nv = s.nv)) ∧
  (∀ (s : State),
    s.w.ready .pcie = true → s.w.d.dt.busy = true → 
    DoesNv (.dtAbort .pcie) s (fun nv t =>
      s.w.obeys t .pcie Obj.dtCtrl 2 [.dt] [Obj.dtStatus] ∧ nv = s.nv ∧ t.get Obj.dtStatus = 0 ∧ t.d.dt = {})) ∧
  (∀ (s : State) (data : Bytes),
    s.w.d.dt.busy = true → s.w.d.dt.upload = true → s.w.sys.pair.proposals = [] → Memory.wf s.w.host.hostMem = true → 
    DoesNv (.dtComplete data) s (fun nv t =>
      nv = s.nv ∧ memRead t.host.hostMem s.w.d.dt.addr s.w.d.dt.bytes.length = s.w.d.dt.bytes ∧
      (∀ a, a < s.w.d.dt.addr ∨ s.w.d.dt.addr + s.w.d.dt.bytes.length ≤ a → memGet t.host.hostMem a = memGet s.w.host.hostMem a) ∧
      t.get Obj.dtStatus = 2 ∧ t.get Obj.dtResult = 0 ∧ t.get Obj.dtDoneLength = s.w.d.dt.bytes.length ∧ t.get Obj.dtCrc = (crc32 s.w.d.dt.bytes).toNat ∧
      t.d.dt = {} ∧ s.w.only t [.dt, .host, .sent, .lastRes] ∧ s.w.sameBut t [Obj.dtStatus, Obj.dtResult, Obj.dtDoneLength, Obj.dtCrc, Obj.resultPcie])) ∧
  (∀ (s : State) (data : Bytes) (r : ObjRow),
    s.w.ready .pcie = true → s.w.d.dt.busy = true → s.w.d.dt.upload = false → data.length = s.w.getN Obj.dtLength → plainBytes .pcie s.w.d.dt.key data r = true → r.effect = .imm → 
    DoesNv (.dtComplete data) s (fun nv t =>
      nv = s.nv ∧ t.blob s.w.d.dt.key = data ∧ t.get Obj.dtStatus = 2 ∧ t.get Obj.dtDoneLength = data.length ∧ t.d.dt = {} ∧ s.w.only t [.dt, .host, .sent, .lastRes, .journal, .blobs]))

/-- RUN_CMD is accepted for frame p+1; START and STOP take effect at their frames, and the work of a STOP drains. For every state in which a write
over the path is ready: a START in READY outside idle, with none pending and no alignment awaited, is journaled, pends for frame p+1 and answers
CMD_RESULT 2; a STOP in INSPECT or DEGRADED with none pending does the same and ends the inspected span there; a STOP in READY with a START
pending cancels it with CMD_RESULT 1; a START in INSPECT or DEGRADED answers 3. When the frame of a pending START has begun in READY, the module
inspects (INSPECT by cause 10, or DEGRADED by cause 18 with capacity lost), before a first trigger exactly so; when that of a STOP has begun, the
module is in READY by cause 11 with the work of earlier frames draining. When all of that work is done and no command waits, draining ends. The
model's own readings in it are log entries 80 and 99. -/
def Obligations.RunCommandsWaitForTheirFrame : Prop :=
  (∀ (s : State) (p : Path),
    s.w.ready p = true → s.w.mode = .ready → s.w.get Obj.alignState ≠ 1 → s.w.run.startAt = none → s.w.get Obj.idleState = 0 → 
    DoesNv (.runStart p) s (fun nv t =>
      s.w.obeys t p Obj.runCmd 1 [.run, .timers] [Obj.cmdResult] ∧ nv = s.nv ∧ t.run = { s.w.run with startAt := some (s.w.frame + 1) } ∧ t.get Obj.cmdResult = 2)) ∧
  (∀ (s : State) (p : Path),
    s.w.ready p = true → s.w.mode.inspecting = true → s.w.run.stopAt = none → s.w.get Obj.idleState = 0 → 
    DoesNv (.runStop p) s (fun nv t =>
      s.w.obeys t p Obj.runCmd 2 [.run, .timers] [Obj.cmdResult] ∧ nv = s.nv ∧ t.run.stopAt = some (s.w.frame + 1) ∧ t.run.startAt = s.w.run.startAt ∧ t.get Obj.cmdResult = 2 ∧
      (∀ a e rest, s.w.run.spans = (a, e) :: rest → t.run.spans = (a, some (min (s.w.frame + 1) (e.getD (s.w.frame + 1)))) :: rest))) ∧
  (∀ (s : State) (p : Path) (n : Nat),
    s.w.ready p = true → s.w.mode = .ready → s.w.run.startAt = some n → s.w.get Obj.idleState = 0 → 
    DoesNv (.runStop p) s (fun nv t =>
      s.w.obeys t p Obj.runCmd 2 [.run, .timers] [Obj.cmdResult] ∧ nv = s.nv ∧ t.run = { s.w.run with startAt := none } ∧ t.get Obj.cmdResult = 1)) ∧
  (∀ (s : State) (p : Path),
    s.w.ready p = true → s.w.mode.inspecting = true → s.w.run.stopAt = none → s.w.get Obj.idleState = 0 → 
    DoesNv (.runStart p) s (fun nv t =>
      s.w.obeys t p Obj.runCmd 1 [.timers] [Obj.cmdResult] ∧ nv = s.nv ∧ t.get Obj.cmdResult = 3)) ∧
  (∀ (s : State) (n : Nat),
    s.w.mode = .ready → s.w.run.startAt = some n → n ≤ s.w.frame → 
    Does (.startTakesEffect) s (fun t =>
      t.mode.inspecting = true ∧ t.run.startAt = none ∧ t.run.started = true ∧ t.get Obj.cmdResult = 1 ∧ t.inspected n = true ∧
      (s.w.axis.last = none → t.entered (if s.w.capacityLost then .degraded else .inspect) (if s.w.capacityLost then 18 else 10)))) ∧
  (∀ (s : State) (n : Nat),
    s.w.mode.inspecting = true → s.w.run.stopAt = some n → n ≤ s.w.frame → 
    Does (.stopTakesEffect) s (fun t =>
      t.entered .ready 11 ∧ t.run.stopAt = none ∧ t.run.stopped = some n ∧ t.run.draining = true ∧ t.get Obj.cmdResult = 1)) ∧
  (∀ (s : State),
    s.w.run.draining = true → s.w.drained = true → s.w.run.waiting = none → 
    DoesNv (.stopDrainEnd) s (fun nv t =>
      nv = s.nv ∧ t.run = { s.w.run with draining := false } ∧ s.w.only t [.run, .timers] ∧ s.w.sameBut t []))

/-- CAL_CMD 1, 2 and 3 enter CAL_DARK, CAL_FLAT and CAL_GEOM by cause 8, and CAL_CMD 4 outside them answers 3 and inside them 1. For every state in
which a write over the path is ready, in READY outside idle with nothing pending, draining or waiting, and CAL_PORTS selecting one active port
without a traverse axis: CAL_CMD 1, 2 or 3 (3 with the web axis as trigger source) is journaled, answers CMD_RESULT 1 and enters CAL_DARK,
CAL_FLAT or CAL_GEOM by cause 8, and the port awaits its reference (PCAL_STATE wait for reference, CAL_RESULT running). CAL_CMD 4 in a CAL mode
answers CMD_RESULT 1, and in no other mode does it act: it answers 3. -/
def Obligations.CalibrationCommandsEnterTheirModes : Prop :=
  (∀ (s : State) (p : Path) (q : Fin 32),
    s.w.ready p = true → s.w.mode = .ready → s.w.run.startAt = none → s.w.run.waiting = none → s.w.run.draining = false → s.w.get Obj.idleState = 0 → (s.w.activePorts.filter (fun i => bitOf (s.w.getN Obj.calPortMask) i)) = [q.val] → s.w.traverse q = none → 
    DoesNv (.calCmdDark p) s (fun nv t =>
      s.w.journals t p Obj.calCmd 1 ∧ nv = s.nv ∧ t.entered .calDark 8 ∧ t.get Obj.cmdResult = 1 ∧ t.get (Obj.pcalState q) = pcWaitRef ∧ t.get (Obj.calResult q) = 1)) ∧
  (∀ (s : State) (p : Path) (q : Fin 32),
    s.w.ready p = true → s.w.mode = .ready → s.w.run.startAt = none → s.w.run.waiting = none → s.w.run.draining = false → s.w.get Obj.idleState = 0 → (s.w.activePorts.filter (fun i => bitOf (s.w.getN Obj.calPortMask) i)) = [q.val] → s.w.traverse q = none → 
    DoesNv (.calCmdFlat p) s (fun nv t =>
      s.w.journals t p Obj.calCmd 2 ∧ nv = s.nv ∧ t.entered .calFlat 8 ∧ t.get Obj.cmdResult = 1 ∧ t.get (Obj.pcalState q) = pcWaitRef ∧ t.get (Obj.calResult q) = 1)) ∧
  (∀ (s : State) (p : Path) (q : Fin 32),
    s.w.ready p = true → s.w.mode = .ready → s.w.run.startAt = none → s.w.run.waiting = none → s.w.run.draining = false → s.w.get Obj.idleState = 0 → (s.w.activePorts.filter (fun i => bitOf (s.w.getN Obj.calPortMask) i)) = [q.val] → s.w.traverse q = none → s.w.get Obj.calTrigSource ≠ 1 → 
    DoesNv (.calCmdGeom p) s (fun nv t =>
      s.w.journals t p Obj.calCmd 3 ∧ nv = s.nv ∧ t.entered .calGeom 8 ∧ t.get Obj.cmdResult = 1 ∧ t.get (Obj.pcalState q) = pcWaitRef ∧ t.get (Obj.calResult q) = 1)) ∧
  (∀ (s : State) (p : Path),
    s.w.ready p = true → s.w.mode.calibrating = false → s.w.get Obj.idleState = 0 → 
    DoesNv (.calCmdAbort p) s (fun nv t =>
      s.w.obeys t p Obj.calCmd 4 [.timers] [Obj.cmdResult] ∧ nv = s.nv ∧ t.get Obj.cmdResult = 3)) ∧
  (∀ (s : State) (p : Path),
    s.w.ready p = true → s.w.mode.calibrating = true → s.w.get Obj.idleState = 0 → 
    DoesNv (.calCmdAbort p) s (fun nv t =>
      s.w.journals t p Obj.calCmd 4 ∧ nv = s.nv ∧ t.get Obj.cmdResult = 1))

/-- COMMIT and LOAD_PROFILE bring the staged configuration into force, or refuse it, show why and go to HOLD. For every state in which a write over
the path is ready, in READY outside idle or in HOLD with nothing pending, draining or waiting: COMMIT with the staged configuration passing every
check, and FRAME_LENGTH as in force, enters READY by cause 6 with REFUSAL 0, CONFIG_GEN counted, and every numeric object's value in force equal
to the value most recently accepted; COMMIT with a check failing enters HOLD by cause 7 with REFUSAL 0x10 plus the check's number and its detail,
and the values in force stay. LOAD_PROFILE of a slot whose image fails its checks enters HOLD by cause 7 with the refusal code and detail of the
check, and the values in force stay. The model's own readings in it are log entry 78. -/
def Obligations.CommitsAndLoadsPassOrHold : Prop :=
  (∀ (s : State) (p : Path),
    s.w.ready p = true → s.w.mode = .ready ∨ s.w.mode = .hold → s.w.run.startAt = none → s.w.run.waiting = none → s.w.run.draining = false → s.w.get Obj.idleState = 0 → (((s.w.took p Obj.commit 1).wake).set Obj.cmdResult 1).frameLenFault = false → (((s.w.took p Obj.commit 1).wake).set Obj.cmdResult 1).staged.commitFaults = [] → 
    DoesNv (.commit p) s (fun nv t =>
      nv = s.nv ∧ t.entered .ready 6 ∧ t.get Obj.cmdResult = 1 ∧ t.get Obj.refusal = 0 ∧ t.get Obj.configGen = min (s.w.get Obj.configGen + 1) 0xFFFFFFFF ∧
      (∀ k, k ∉ Obj.cmdResult :: acceptKeys p → t.conf k = s.w.get k))) ∧
  (∀ (s : State) (p : Path) (f : Nat × Nat) (fs : List (Nat × Nat)),
    s.w.ready p = true → s.w.mode = .ready ∨ s.w.mode = .hold → s.w.run.startAt = none → s.w.run.waiting = none → s.w.run.draining = false → s.w.get Obj.idleState = 0 → (((s.w.took p Obj.commit 1).wake).set Obj.cmdResult 1).frameLenFault = false → (((s.w.took p Obj.commit 1).wake).set Obj.cmdResult 1).staged.commitFaults = f :: fs → 
    DoesNv (.commit p) s (fun nv t =>
      nv = s.nv ∧ t.entered .hold 7 ∧ t.get Obj.refusal = 0x10 + f.1 ∧ t.get Obj.refusalDetail = f.2 ∧ t.d.conf = s.w.d.conf ∧ t.d.blobConf = s.w.d.blobConf)) ∧
  (∀ (s : State) (p : Path) (slot : Fin 4),
    s.w.ready p = true → s.w.mode = .ready ∨ s.w.mode = .hold → s.w.run.startAt = none → s.w.run.waiting = none → s.w.run.draining = false → s.w.get Obj.idleState = 0 → (profCheck s.nv slot).code ≠ 0 → s.nv.flash.op ≠ some (.profile slot) → 
    DoesNv (.loadProfile p slot) s (fun nv t =>
      nv = s.nv ∧ t.entered .hold 7 ∧ t.get Obj.refusal = (profCheck s.nv slot).code ∧ t.get Obj.refusalDetail = (profCheck s.nv slot).detail ∧ t.get Obj.refusalMask = 0 ∧ t.d.conf = s.w.d.conf))

/-- A profile image is staged and programmed one at a time, its end shows the results of the checks, and an erase empties the slot. For every state in
which a write over the path is ready: PROFILE_IMAGE of an admitted length with no programming running puts the image in its slot, which shows
PROFILE_STATE 6 while it is programmed, and with one running is refused with BUSY. At the end of programming a profile slot none runs and every
slot shows the state its checks find. PROFILE_ERASE with no programming running empties the slot, which shows PROFILE_STATE 0 and PROFILE_LENGTH
0. Fuses, firmware and the other slots stay as they are. -/
def Obligations.ProfilesAreProgrammedAndErased : Prop :=
  (∀ (s : State) (p : Path) (n : Fin 4) (b : Bytes),
    s.w.ready p = true → s.nv.flash.op = none → 96 ≤ b.length → b.length ≤ 33554432 → 
    DoesNv (.profileImageWrite p n b) s (fun nv t =>
      nv = { s.nv with flash := { s.nv.flash with profiles := upd s.nv.flash.profiles n (fun _ => ⟨b, false⟩), op := some (.profile n) } } ∧ t.get (Obj.profileState n) = 6 ∧
      t.get (Obj.profileLength n) = 0 ∧ t.journal.head = s.w.journal.head + 1 ∧ s.w.only t [.journal, .lastRes, .blobs])) ∧
  (∀ (s : State) (p : Path) (n : Fin 4) (b : Bytes) (o : FlashOp),
    s.w.ready p = true → s.nv.flash.op = some o → 96 ≤ b.length → b.length ≤ 33554432 → 
    DoesNv (.profileImageWrite p n b) s (fun nv t =>
      nv = s.nv ∧ s.w.refuses t p (Obj.profileImage n) .busy)) ∧
  (∀ (s : State) (n : Nat),
    s.nv.flash.op = some (.profile n) → 
    DoesNv (.profileProgramDone) s (fun nv t =>
      nv = { s.nv with flash := { s.nv.flash with op := none } } ∧ (∀ i : Fin 4, t.get (Obj.profileState i) = (profCheck nv i).state) ∧ s.w.only t [.blobs])) ∧
  (∀ (s : State) (p : Path) (n : Fin 4),
    s.w.ready p = true → s.nv.flash.op = none → 
    DoesNv (.profileErase p n) s (fun nv t =>
      nv = { s.nv with flash := { s.nv.flash with profiles := upd s.nv.flash.profiles n (fun _ => {}), op := none } } ∧ ((n : Nat) < s.nv.flash.profiles.length → t.get (Obj.profileState n) = 0 ∧
      t.get (Obj.profileLength n) = 0) ∧ s.w.journals t p (Obj.profileErase n) 1 ∧ s.w.only t [.journal, .lastRes, .blobs]))

/-- After IDLE_DELAY of idle READY the clusters enter retention; 2 µs after a wake they serve; a returned capacity returns the mode at its frame.
IDLE_RETENTION in idle READY with nothing draining, when IDLE_DELAY (not 0) has passed: IDLE_STATE reads 1 and every cluster in operation or at
rest is in retention, the others as they were. IDLE_WAKE_DONE, 2 µs after the wake began and with no command waiting: IDLE_STATE reads 0 and no
cluster's scratchpad is waking. CAPACITY_RETURN in DEGRADED, at the frame of the return with nothing lost and no STOP due: INSPECT by cause 13.
The model's own readings in it are log entry 82. -/
def Obligations.IdleReadyRetainsAndWakes : Prop :=
  (∀ (s : State),
    s.w.idleReady = true → s.w.run.draining = false → s.w.getN Obj.idleDelay ≠ 0 → s.w.get Obj.idleState = 0 → s.w.expired .idle (s.w.getN Obj.idleDelay * 1000000) = true → 
    Does (.idleRetention) s (fun t =>
      t.get Obj.idleState = 1 ∧ (∀ c : Fin 64, t.get (Obj.spState c) = if s.w.get (Obj.spState c) = 0 ∨ s.w.get (Obj.spState c) = 4 then 2 else s.w.get (Obj.spState c)) ∧ s.w.only t [.timers])) ∧
  (∀ (s : State),
    s.w.expired .idleWake 2000 = true → s.w.run.waiting = none → 
    DoesNv (.idleWakeDone) s (fun nv t =>
      nv = s.nv ∧ t.get Obj.idleState = 0 ∧ t.running .idleWake = false ∧ (∀ c : Fin 64, t.get (Obj.spState c) ≠ 3) ∧ s.w.only t [.timers])) ∧
  (∀ (s : State) (n : Nat),
    s.w.mode = .degraded → s.w.run.returnAt = some n → n ≤ s.w.frame → s.w.capacityLost = false → s.w.run.stopAt = none → 
    Does (.capacityReturn) s (fun t =>
      t.entered .inspect 13 ∧ t.run = { s.w.run with returnAt := none } ∧ s.w.only t [.mode, .run, .router, .timers, .host, .sent]))

/-- A SAFE cause enters SAFE by cause 17 with its SAFE_CAUSE, and nothing pending remains. In every mode from TRAIN on but SAFE: expiry of the
management watchdog (SAFE_CAUSE 4), an uncorrectable error in hub control state (5), die links that do not train in TRAIN before they are trained
(2), a fatal die-link failure (2), failure of a memory stack (3) and loss of the reference clock (4) each lead to SAFE by MODE_CAUSE 17 with that
SAFE_CAUSE, no START, STOP or other command pending or waiting and nothing draining. -/
def Obligations.SafeCausesEnterSafe : Prop :=
  (∀ (s : State),
    s.w.mode.dictOpen = true → s.w.mode ≠ .safe → 
    Does (.mgmtWatchdogExpiry) s (fun t =>
      t.entered .safe 17 ∧ t.get Obj.safeCause = 4 ∧ t.run.startAt = none ∧ t.run.stopAt = none ∧ t.run.waiting = none ∧ t.run.draining = false)) ∧
  (∀ (s : State),
    s.w.mode.dictOpen = true → s.w.mode ≠ .safe → 
    Does (.hubStateUncorr) s (fun t =>
      t.entered .safe 17 ∧ t.get Obj.safeCause = 5 ∧ t.run.startAt = none ∧ t.run.stopAt = none ∧ t.run.waiting = none ∧ t.run.draining = false)) ∧
  (∀ (s : State),
    s.w.mode.dictOpen = true → s.w.mode ≠ .safe → s.w.mode = .train → s.w.run.dieLinks = false → 
    Does (.dieLinksTrained false) s (fun t =>
      t.entered .safe 17 ∧ t.get Obj.safeCause = 2 ∧ t.run.startAt = none ∧ t.run.stopAt = none ∧ t.run.waiting = none ∧ t.run.draining = false)) ∧
  (∀ (s : State),
    s.w.mode.dictOpen = true → s.w.mode ≠ .safe → 
    Does (.dieLinkFault .fatal) s (fun t =>
      t.entered .safe 17 ∧ t.get Obj.safeCause = 2 ∧ t.run.startAt = none ∧ t.run.stopAt = none ∧ t.run.waiting = none ∧ t.run.draining = false)) ∧
  (∀ (s : State) (n : Fin 2),
    s.w.mode.dictOpen = true → s.w.mode ≠ .safe → 
    Does (.hbmStackFailure n) s (fun t =>
      t.entered .safe 17 ∧ t.get Obj.safeCause = 3 ∧ t.run.startAt = none ∧ t.run.stopAt = none ∧ t.run.waiting = none ∧ t.run.draining = false)) ∧
  (∀ (s : State),
    s.w.mode.dictOpen = true → s.w.mode ≠ .safe → 
    Does (.refclkLoss) s (fun t =>
      t.entered .safe 17 ∧ t.get Obj.safeCause = 4 ∧ t.run.startAt = none ∧ t.run.stopAt = none ∧ t.run.waiting = none ∧ t.run.draining = false))

/-- A warm reset enters RESET by cause 1 and keeps journal, fuses, committed sets and undelivered records; RESET_CMD is one that is released 10 µs
later. WARM_RESET_N or PWR_RESET_N low with the rails good: MODE RESET by cause 1; the journal, the timebase, TRIGGER_HWM, CONFIG_GEN, LEDGER_ID
and LEDGER_HWM are kept; every value in force, every write group and every pending command is gone; WARM_RESETS counts; the web axis has not
started; fuses and slots of the flash not being programmed are untouched. RESET_CMD (the shutdown latch clear, nothing of a pair) does the same
and starts the 10 µs timer of its release; while the shutdown latch holds it answers CMD_RESULT 3 and resets nothing. The model's own readings in
it are log entries 69 and 104. -/
def Obligations.ResetsKeepAndClear : Prop :=
  (∀ (s : State),
    s.w.power.rails = true → s.w.get Obj.pairState = 0 → 
    DoesNv (.warmResetAssert) s (fun nv t =>
      t.entered .reset 1 ∧ t.journal = s.w.journal ∧ t.timeNs = s.w.timeNs ∧ t.get Obj.triggerHwm = s.w.get Obj.triggerHwm ∧ t.get Obj.configGen = s.w.get Obj.configGen ∧
      t.get Obj.ledgerId = s.w.get Obj.ledgerId ∧ t.get Obj.ledgerHwm = s.w.get Obj.ledgerHwm ∧ t.get Obj.warmResets = min (s.w.get Obj.warmResets + 1) 0xFFFFFFFF ∧
      t.d.conf = [] ∧ t.d.groupPcie = {} ∧ t.d.groupCoe = {} ∧ t.d.groupYal = {} ∧ t.run.startAt = none ∧ t.run.waiting = none ∧ t.axis.started = false ∧ t.axis.hwm = s.w.axis.hwm ∧
      nv.fuses = s.nv.fuses ∧ nv.flash.op = none ∧ (s.nv.flash.op = none → nv = s.nv))) ∧
  (∀ (s : State),
    s.w.power.rails = true → s.w.get Obj.pairState = 0 → 
    DoesNv (.pwrResetAssert) s (fun nv t =>
      t.entered .reset 1 ∧ t.journal = s.w.journal ∧ t.timeNs = s.w.timeNs ∧ t.get Obj.triggerHwm = s.w.get Obj.triggerHwm ∧ t.get Obj.configGen = s.w.get Obj.configGen ∧
      t.get Obj.ledgerId = s.w.get Obj.ledgerId ∧ t.get Obj.ledgerHwm = s.w.get Obj.ledgerHwm ∧ t.get Obj.warmResets = min (s.w.get Obj.warmResets + 1) 0xFFFFFFFF ∧
      t.d.conf = [] ∧ t.d.groupPcie = {} ∧ t.d.groupCoe = {} ∧ t.d.groupYal = {} ∧ t.run.startAt = none ∧ t.run.waiting = none ∧ t.axis.started = false ∧ t.axis.hwm = s.w.axis.hwm ∧
      nv.fuses = s.nv.fuses ∧ nv.flash.op = none ∧ (s.nv.flash.op = none → nv = s.nv))) ∧
  (∀ (s : State) (p : Path),
    s.w.ready p = true → s.w.run.latch = false → s.w.get Obj.pairState = 0 → 
    DoesNv (.resetCmd p) s (fun nv t =>
      t.entered .reset 1 ∧ t.journal.head = s.w.journal.head + 1 ∧ t.running .resetRelease = true ∧ t.d.conf = [] ∧ nv.fuses = s.nv.fuses)) ∧
  (∀ (s : State) (p : Path),
    s.w.ready p = true → s.w.run.latch = true → 
    DoesNv (.resetCmd p) s (fun nv t =>
      s.w.obeys t p Obj.resetCmd 0xA5C3 [] [Obj.cmdResult] ∧ t.get Obj.cmdResult = 3 ∧ nv = s.nv))

/-- The release of reset leads to BOOT, the boot ROM starts the first image that passes its checks or stays in BOOT, and TRAIN ends in READY or HOLD.
RESET_RELEASE in RESET with rails and VIO_A good and no reset held: PROF_SEL is sampled into PROF_SEL_PINS, and with the PLL locked and the
shutdown latch clear BOOT is entered by cause 2; ROOT_PLL_LOCK and SHUTDOWN_LATCH_CLEAR (TJ below TJ_RESUME) do the same once they are the last
condition. BOOT_IMAGE_CHECK in BOOT with no image started, and FIRMWARE_TRAIN_TIMEOUT 200 ms after an image was started that hangs: the first
image in the order of preference not tried before that passes its checks is started (a hanging one leaves BOOT), and with none BOOT has failed.
HBM_TRAINED in TRAIN marks the memory trained; CAM_WAIT_EXPIRY after CAM_WAIT_MS ends the wait for cameras; TRAIN_END with memory and die links
trained and no profile that passed its checks enters HOLD by cause 4 with the refusal code of the check. The model's own readings in it are log
entries 81 and 87. -/
def Obligations.StartUpReachesTrain : Prop :=
  (∀ (s : State) (sel : Fin 4),
    s.w.mode = .reset → s.w.power.released = false → s.w.power.rails = true → s.w.power.vioReady = true → s.w.running .resetRelease = false → s.w.power.pll = true → s.w.run.latch = false → 
    Does (.resetRelease sel) s (fun t =>
      t.entered .boot 2 ∧ t.get Obj.profSelPins = sel ∧ t.get Obj.vioALevel = s.w.power.vioLevel ∧ t.power = { s.w.power with released := true })) ∧
  (∀ (s : State),
    s.w.mode = .reset → s.w.power.released = true → s.w.run.latch = false → 
    Does (.rootPllLock) s (fun t =>
      t.entered .boot 2 ∧ t.power = { s.w.power with pll := true })) ∧
  (∀ (s : State),
    s.w.run.latch = true → s.w.power.tj < s.w.get Obj.tjResume → 
    Does (.shutdownLatchClear) s (fun t =>
      t.run = { s.w.run with latch := false } ∧ (s.w.mode = .reset → s.w.power.released = true → s.w.power.pll = true → t.entered .boot 2))) ∧
  (∀ (s : State),
    s.w.mode = .boot → s.w.run.bootFailed = false → s.w.sec.running = none → 
    DoesNv (.bootImageCheck true) s (fun nv t =>
      nv = s.nv ∧ t.mode = .boot ∧ (match s.nv.imageOrder.find? (fun i => !s.w.sec.tried.contains i && s.nv.fwState i == 1) with
        | none => t.run.bootFailed = true ∧ t.sec = s.w.sec
        | some i => t.run.bootFailed = false ∧ t.sec.running = some i ∧ t.sec.tried = i :: s.w.sec.tried ∧ t.running .train = true ∧ t.get Obj.fwFallback = (if i = s.nv.flash.prefer then 0 else 1)))) ∧
  (∀ (s : State),
    s.w.mode = .boot → s.w.run.bootFailed = false → s.w.expired .train 200000000 = true → 
    DoesNv (.firmwareTrainTimeout true) s (fun nv t =>
      nv = s.nv ∧ t.mode = .boot ∧ (match s.nv.imageOrder.find? (fun i => !s.w.sec.tried.contains i && s.nv.fwState i == 1) with
        | none => t.run.bootFailed = true ∧ t.sec = s.w.sec
        | some i => t.run.bootFailed = false ∧ t.sec.running = some i ∧ t.sec.tried = i :: s.w.sec.tried ∧ t.running .train = true ∧ t.get Obj.fwFallback = (if i = s.nv.flash.prefer then 0 else 1)))) ∧
  (∀ (s : State),
    s.w.mode = .train → s.w.hbm.trained = false → 
    Does (.hbmTrained []) s (fun t =>
      t.hbm.trained = true ∧ t.get Obj.pcMap = 2 ^ 64 - 1 ∧ t.running .retrain = true ∧ s.w.only t [.hbm, .timers] ∧ s.w.sameBut t [Obj.pcMap])) ∧
  (∀ (s : State),
    s.w.mode = .train → s.w.run.dieLinks = false → 
    Does (.dieLinksTrained true) s (fun t =>
      t = { s.w with run := { s.w.run with dieLinks := true } })) ∧
  (∀ (s : State),
    s.w.mode = .train → s.w.run.profileOk = true → s.w.expired .camWait (s.w.run.camWait * 1000000) = true → 
    Does (.camWaitExpiry) s (fun t =>
      t = { s.w with run := { s.w.run with camOver := true } })) ∧
  (∀ (s : State),
    s.w.mode = .train → s.w.hbm.trained = true → s.w.run.dieLinks = true → s.w.run.profileOk = false → (profCheck s.nv (s.w.getN Obj.profSelPins)).code ≠ 0 → 
    DoesNv (.trainEnd) s (fun nv t =>
      nv = s.nv ∧ t.entered .hold 4 ∧ t.get Obj.refusal = (profCheck s.nv (s.w.getN Obj.profSelPins)).code ∧ t.d.conf = []))

/-- A quadrature edge counts by one, both signals at once is an error and counts nothing, an SSI reading moves the count by its step, and quiet makes
the speed 0. With the dictionary open. POS_EDGE in quadrature without TZ-640 filter: when the A/B state moves by one place of its cycle and the
count stays within its limits, COUNT changes by one in the sense of DIRECTION and FAULT_COUNT does not; when both signals change, COUNT stays,
FAULT_COUNT counts and bit 1 of STATUS is set. SSI_POLL in SSI mode: with the line not high, COUNT stays, bit 9 of STATUS is set and FAULT_COUNT
counts; with it high and a reading before, COUNT moves by the step of least magnitude, within its limits. SPEED_TIMEOUT, on an input not in SSI
mode without an edge for that time, sets SPEED and MOTION to 0. A ready write of COUNT within its limits, on an input that does not drive the web
axis, sets it; on the one that does it is refused with INCONSISTENT. Only the input, the web axis and their objects change. The model's own
readings in it are log entries 12 and 15. -/
def Obligations.PositionInputsCount : Prop :=
  (∀ (s : State) (i : Fin 16) (v : BitVec 3) (ph : Phase) (d : Int),
    s.w.mode.dictOpen = true → s.w.conf (Obj.piMode i) = 1 → s.w.conf (Obj.edgeFilter i) = 0 → cycleStep 4 (quadPlace ((s.w.pin i).levels.toNat % 4)) (quadPlace (v.toNat % 4)) = some d → d ≠ 0 → s.w.get (Obj.limitMin i) ≤ s.w.get (Obj.count i) + (if s.w.conf (Obj.direction i) = 0 then d else -d) → s.w.get (Obj.count i) + (if s.w.conf (Obj.direction i) = 0 then d else -d) ≤ s.w.get (Obj.limitMax i) → 
    Does (.posEdge i v ph) s (fun t =>
      t.get (Obj.count i) = s.w.get (Obj.count i) + (if s.w.conf (Obj.direction i) = 0 then d else -d) ∧ t.get (Obj.faultCount i) = s.w.get (Obj.faultCount i) ∧ (∀ j : Fin 16, j ≠ i → t.pin j = s.w.pin j) ∧
      s.w.only t [.posIn, .axis, .router] ∧ s.w.sameBut t [Obj.rawState i, Obj.count i, Obj.status i, Obj.speed i, Obj.motion i, Obj.faultCount i, Obj.webStatus, raisedKey (8 + i)])) ∧
  (∀ (s : State) (i : Fin 16) (v : BitVec 3) (ph : Phase),
    s.w.mode.dictOpen = true → s.w.conf (Obj.piMode i) = 1 → s.w.conf (Obj.edgeFilter i) = 0 → cycleStep 4 (quadPlace ((s.w.pin i).levels.toNat % 4)) (quadPlace (v.toNat % 4)) = none → 
    Does (.posEdge i v ph) s (fun t =>
      t.get (Obj.count i) = s.w.get (Obj.count i) ∧ t.get (Obj.faultCount i) = min (s.w.get (Obj.faultCount i) + 1) 0xFFFFFFFF ∧ t.get (Obj.status i) = Int.ofNat (s.w.getN (Obj.status i) ||| 2) ∧
      s.w.only t [.posIn, .router] ∧ s.w.sameBut t [Obj.rawState i, Obj.count i, Obj.status i, Obj.speed i, Obj.motion i, Obj.faultCount i, Obj.webStatus, raisedKey (8 + i)])) ∧
  (∀ (s : State) (i : Fin 16) (v : BitVec 48) (ph : Phase),
    s.w.mode.dictOpen = true → s.w.conf (Obj.piMode i) = 3 → 
    Does (.ssiPoll i v false ph) s (fun t =>
      t.get (Obj.count i) = s.w.get (Obj.count i) ∧ t.get (Obj.faultCount i) = min (s.w.get (Obj.faultCount i) + 1) 0xFFFFFFFF ∧ t.get (Obj.status i) = Int.ofNat (s.w.getN (Obj.status i) ||| 512) ∧ s.w.only t [.router])) ∧
  (∀ (s : State) (i : Fin 16) (v : BitVec 48) (ph : Phase) (o : Nat) (d : Int),
    s.w.mode.dictOpen = true → s.w.conf (Obj.piMode i) = 3 → s.w.conf (Obj.ssiCode i) = 0 → (s.w.pin i).ssiLast = some o → ssiStep (s.w.confN (Obj.ssiBits i)) o (v.toNat % 2 ^ s.w.confN (Obj.ssiBits i)) = d → s.w.get (Obj.limitMin i) ≤ s.w.get (Obj.count i) + d → s.w.get (Obj.count i) + d ≤ s.w.get (Obj.limitMax i) → 
    Does (.ssiPoll i v true ph) s (fun t =>
      t.get (Obj.count i) = s.w.get (Obj.count i) + d ∧ t.get (Obj.faultCount i) = s.w.get (Obj.faultCount i) ∧ s.w.only t [.posIn, .axis] ∧ s.w.sameBut t [Obj.rawState i, Obj.count i, Obj.status i, Obj.speed i, Obj.motion i, Obj.faultCount i, Obj.webStatus, raisedKey (8 + i)])) ∧
  (∀ (s : State) (i : Fin 16),
    s.w.conf (Obj.piMode i) ≠ 3 → ∀ t0 ∈ (s.w.pin i).stamps.head?, t0 + nsClocks (s.w.getN (Obj.speedTimeout i) * 1000) ≤ s.w.clk.ctl → 
    Does (.speedTimeout i) s (fun t =>
      t.get (Obj.speed i) = 0 ∧ t.get (Obj.motion i) = 0 ∧ t.get (Obj.count i) = s.w.get (Obj.count i) ∧ s.w.only t [.posIn, .axis])) ∧
  (∀ (s : State) (p : Path) (i : Fin 16) (v : Int),
    s.w.ready p = true → s.w.confN Obj.webSource ≠ i → s.w.get (Obj.limitMin i) ≤ v → v ≤ s.w.get (Obj.limitMax i) → -0x8000000000000000 ≤ v ∧ v ≤ 0x7FFFFFFFFFFFFFFF → 
    Does (.countWrite p i v) s (fun t =>
      s.w.obeys t p (Obj.count i) (field 64 v) [] [Obj.count i] ∧ t.get (Obj.count i) = v)) ∧
  (∀ (s : State) (p : Path) (i : Fin 16) (v : Int),
    s.w.ready p = true → s.w.confN Obj.webSource = i → -0x8000000000000000 ≤ v ∧ v ≤ 0x7FFFFFFFFFFFFFFF → 
    Does (.countWrite p i v) s (fun t =>
      s.w.refuses t p (Obj.count i) .inconsistent))

/-- The first index fixes the reference, a later one beyond tolerance is a slip, a pending correction is subtracted; a due trigger takes the next
index. INDEX_PULSE in quadrature without TZ-640 filter, in its gating state, A and B unchanged, with INDEX_PERIOD set: the first takes COUNT as
INDEX_REF; a later one whose error exceeds INDEX_TOL sets bit 8 of STATUS, shows the error and the count, and counts SLIP_COUNT; in neither case
does COUNT change. INDEX_CORRECTION with INDEX_MODE 2 and a correction pending: COUNT is less by it, held within the limits, and nothing is
pending. TRIGGER_ISSUED when the next trigger may be issued, no START or STOP is due and the index does not begin a frame: TRIGGER_INDEX and the
last index issued are the next index, TRIGGER_HWM the greatest so far, and LAG is P minus the index, in 1/256 line, within I32. The model's own
readings in it are log entries 14 and 16. -/
def Obligations.IndexChecksAndTriggers : Prop :=
  (∀ (s : State) (i : Fin 16) (v : BitVec 3) (ph : Phase),
    s.w.mode.dictOpen = true → s.w.conf (Obj.piMode i) = 1 → s.w.conf (Obj.edgeFilter i) = 0 → v.toNat % 4 = (s.w.pin i).levels.toNat % 4 → zGateState (s.w.confN (Obj.zGate i)) = none ∨ zGateState (s.w.confN (Obj.zGate i)) = some (v.toNat % 4) → s.w.confN (Obj.indexPeriod i) ≠ 0 → s.w.get (Obj.indexRefValid i) = 0 → 
    Does (.indexPulse i v ph) s (fun t =>
      t.get (Obj.indexRef i) = s.w.get (Obj.count i) ∧ t.get (Obj.indexRefValid i) = 1 ∧ t.get (Obj.count i) = s.w.get (Obj.count i) ∧ s.w.only t [.posIn, .router])) ∧
  (∀ (s : State) (i : Fin 16) (v : BitVec 3) (ph : Phase),
    s.w.mode.dictOpen = true → s.w.conf (Obj.piMode i) = 1 → s.w.conf (Obj.edgeFilter i) = 0 → v.toNat % 4 = (s.w.pin i).levels.toNat % 4 → zGateState (s.w.confN (Obj.zGate i)) = none ∨ zGateState (s.w.confN (Obj.zGate i)) = some (v.toNat % 4) → s.w.confN (Obj.indexPeriod i) ≠ 0 → s.w.get (Obj.indexRefValid i) ≠ 0 → s.w.getN (Obj.indexTol i) < (indexError (s.w.get (Obj.count i)) (s.w.get (Obj.indexRef i)) (s.w.confN (Obj.indexPeriod i))).natAbs → 
    Does (.indexPulse i v ph) s (fun t =>
      t.get (Obj.indexErr i) = indexError (s.w.get (Obj.count i)) (s.w.get (Obj.indexRef i)) (s.w.confN (Obj.indexPeriod i)) ∧ t.get (Obj.indexAt i) = s.w.get (Obj.count i) ∧
      t.get (Obj.slipCount i) = min (s.w.get (Obj.slipCount i) + 1) 0xFFFFFFFF ∧ t.get (Obj.status i) = Int.ofNat (s.w.getN (Obj.status i) ||| 256) ∧
      t.get (Obj.count i) = s.w.get (Obj.count i) ∧ s.w.only t [.posIn, .router])) ∧
  (∀ (s : State) (i : Fin 16) (e : Int),
    (s.w.pin i).corr = some e → s.w.get (Obj.indexMode i) = 2 → 
    Does (.indexCorrection i) s (fun t =>
      t.get (Obj.count i) = clampInt (s.w.get (Obj.limitMin i)) (s.w.get (Obj.limitMax i)) (s.w.get (Obj.count i) - e) ∧ (t.pin i).corr = none ∧ s.w.only t [.posIn, .axis, .router])) ∧
  (∀ (s : State) (ph : Phase),
    s.w.run.startAt = none → s.w.run.stopAt = none → s.w.mayTrigger s.w.nextTrigger (s.w.now ph) = true → s.w.nextTrigger % s.w.frameLen ≠ 0 → 
    DoesNv (.triggerIssued ph) s (fun nv t =>
      nv = s.nv ∧ t.axis.last = some s.w.nextTrigger ∧ t.axis.lastAt = s.w.now ph ∧ t.axis.hwm = some (max s.w.nextTrigger (s.w.axis.hwm.getD 0)) ∧ t.get Obj.triggerIndex = s.w.nextTrigger ∧
      t.get Obj.lag = clampInt (-0x80000000) 0x7FFFFFFF (s.w.posAt (s.w.now ph) - (s.w.nextTrigger : Int) * 256)))

/-- A powered lane recovers its clock, 64 valid sync headers or a comma lock it, and loss of signal, clock or headers unlocks it. CDR_LOCK on a
powered lane without clock recovery at a difference of at most 200 ppm: STATE 2, the header count restarts. SIGNAL_LOSS on a lane with clock
recovery: STATE 1 and SIGNAL_LOSS set. FREQ_ERR on a powered lane beyond 200 ppm: FREQ_ERR set, and a lane that held clock or lock falls to STATE
1. BLOCK_LOCK at an RSL rate in STATE 2: once 64 consecutive valid headers are reached, STATE 3. BLOCK_LOCK_LOSS: an invalid header that is the
16th within 64 counts in SH_ERR and LOCK_LOSS, sets HIGH_BER and LOCK_LOSS and leaves STATE 2. COMMA_LOCK at a CoaXPress rate in STATE 2 with no
violation: STATE 3. CXP_LANE_UP in STATE 3 with no violation in the characters kept: STATE 4, and nothing else changes. ALIGN_SEARCH in STATE 2
with ALIGN_MODE 0 puts the boundary found into SLIP_POS. Every other lane keeps its state. -/
def Obligations.LanesLockAndLoseLock : Prop :=
  (∀ (s : State) (l : Fin 128) (ppm : Int),
    s.w.lanePowered l = true → s.w.laneState l = lsOff ∨ s.w.laneState l = lsNoSignal ∨ s.w.laneState l = lsRetrain → ppm.natAbs ≤ 200 → 
    Does (.cdrLock l ppm) s (fun t =>
      t.laneState l = lsCdr ∧ t.lanes = upd s.w.lanes l (fun n => { n with good := 0, window := [], chars := [], markers := 0 }) ∧ s.w.only t [.lanes] ∧ s.w.sameBut t [Obj.state l])) ∧
  (∀ (s : State) (l : Fin 128),
    lsCdr ≤ s.w.laneState l → 
    Does (.signalLoss l) s (fun t =>
      t.laneState l = lsNoSignal ∧ t.get (Obj.flags l) = Int.ofNat (s.w.getN (Obj.flags l) ||| 1) ∧ s.w.only t [.lanes, .router] ∧
      s.w.sameBut t [Obj.state l, Obj.flags l, Obj.eyeStatus l, raisedKey (40 + s.w.portOfLane l)])) ∧
  (∀ (s : State) (l : Fin 128) (ppm : Int),
    s.w.lanePowered l = true → 200 < ppm.natAbs → lsCdr ≤ s.w.laneState l → s.w.laneState l ≤ lsUp → 
    Does (.freqErr l ppm) s (fun t =>
      t.laneState l = lsNoSignal ∧ s.w.only t [.lanes, .router] ∧ s.w.sameBut t [Obj.state l, Obj.flags l, Obj.lockLoss l, Obj.eyeStatus l, raisedKey (40 + s.w.portOfLane l)] ∧ t.getN (Obj.flags l) = (s.w.getN (Obj.flags l) ||| 256) ||| (if lsLock ≤ s.w.laneState l then 2 else 0))) ∧
  (∀ (s : State) (l : Fin 128) (headers : List (BitVec 2)),
    s.w.laneState l = lsCdr → isRslRate (s.w.confN (Obj.rateObj l)) = true → headers.all validHeader = true → 64 ≤ (s.w.lane l).good + headers.length → 
    Does (.blockLock l headers) s (fun t =>
      t.laneState l = lsLock ∧ s.w.only t [.lanes] ∧ s.w.sameBut t [Obj.state l] ∧ (∀ x : Fin 128, x ≠ l → t.lane x = s.w.lane x))) ∧
  (∀ (s : State) (l : Fin 128) (h : BitVec 2),
    s.w.laneState l = lsLock ∨ s.w.laneState l = lsUp → isRslRate (s.w.confN (Obj.rateObj l)) = true → validHeader h = false → ((l : Nat) < s.w.lanes.length) → 15 ≤ (((s.w.lane l).window.take 63).filter (fun b => !b)).length → 
    Does (.blockLockLoss l [h]) s (fun t =>
      t.laneState l = lsCdr ∧ t.get (Obj.shErr l) = min (s.w.get (Obj.shErr l) + 1) 0xFFFFFFFFFFFFFFFF ∧ t.get (Obj.lockLoss l) = min (s.w.get (Obj.lockLoss l) + 1) 0xFFFFFFFF ∧
      t.get (Obj.flags l) = Int.ofNat ((s.w.getN (Obj.flags l) ||| 16) ||| 2) ∧ s.w.only t [.lanes, .router])) ∧
  (∀ (s : State) (l : Fin 128) (chars : List Bool),
    s.w.laneState l = lsCdr → isCxpRate (s.w.confN (Obj.rateObj l)) = true → chars.all id = true → 
    Does (.commaLock l true chars) s (fun t =>
      t.laneState l = lsLock ∧ s.w.only t [.lanes] ∧ s.w.sameBut t [Obj.state l])) ∧
  (∀ (s : State) (l : Fin 128),
    isCxpRate (s.w.confN (Obj.rateObj l)) = true → s.w.laneState l = lsLock → (s.w.lane l).chars.all id = true → 
    Does (.cxpLaneUp l) s (fun t =>
      t = s.w.set (Obj.state l) 4)) ∧
  (∀ (s : State) (l : Fin 128) (b : Fin 66),
    s.w.laneState l = lsCdr → s.w.get (Obj.alignMode l) = 0 → isRslRate (s.w.confN (Obj.rateObj l)) = true → 
    Does (.alignSearch l (some b)) s (fun t =>
      t.get (Obj.slipPos l) = b.val ∧ s.w.only t [.lanes] ∧ s.w.sameBut t [Obj.slipPos l] ∧ t.lanes = upd s.w.lanes l (fun n => { n with good := 0 })))

/-- BITSLIP, LANE_CMD and EYE_CTRL act on their lane, a marker is checked, a single-lane link comes UP, a retrained lane takes its tap, the checker
counts. For every state in which a write over the path is ready: BITSLIP with ALIGN_MODE 1 at an RSL rate moves SLIP_POS by one modulo 66 and
breaks a held lock; LANE_CMD 1 on a powered lane while no lane retrains by a host leaves STATE 6 and CMD_STATE 2; LANE_CMD 4 and 5, where the
pattern test may run, turn it on and off with CMD_STATE 1; EYE_CTRL 1 and 2 start a scan, and EYE_CTRL 3 ends a running one with EYE_STATUS 3. A
lane marker on a locked lane shows its LANE field in LANE_ID and adds the differing BIP8 bits to BIP_ERR after the first marker, and brings the
link of one lane UP from its second marker on. LANE_RETRAIN_DONE with a tap of at most 31 leaves the lane UP with that tap and lead and CMD_STATE
1. The pattern checker locks at the 64th consecutive match, and locked counts every bit and every mismatch. EYE_SCAN_DONE shows the counts of the
scan and EYE_STATUS 2. The model's own readings in it are log entry 17. -/
def Obligations.LaneCommandsAct : Prop :=
  (∀ (s : State) (p : Path) (l : Fin 128),
    s.w.ready p = true → s.w.get (Obj.alignMode l) ≠ 0 → isCxpRate (s.w.confN (Obj.rateObj l)) = false → 
    Does (.bitslip p l) s (fun t =>
      s.w.obeys t p (Obj.bitslip l) 1 [.lanes, .router] [Obj.slipPos l, Obj.state l, Obj.flags l, Obj.lockLoss l, Obj.eyeStatus l, raisedKey (40 + s.w.portOfLane l)] ∧
      t.get (Obj.slipPos l) = Int.ofNat ((s.w.getN (Obj.slipPos l) + 1) % 66) ∧
      (s.w.laneState l = lsLock ∨ s.w.laneState l = lsUp → t.laneState l = lsCdr ∧ t.get (Obj.lockLoss l) = min (s.w.get (Obj.lockLoss l) + 1) 0xFFFFFFFF))) ∧
  (∀ (s : State) (p : Path) (l : Fin 128),
    s.w.ready p = true → s.w.laneState l ≠ lsRetrain → s.w.lanePowered l = true → (∀ x : Fin 128, (s.w.lane x).hostRetrain = false) → 
    Does (.laneRetrain p l) s (fun t =>
      s.w.obeys t p (Obj.laneCmd l) 1 [.lanes] [Obj.state l, Obj.cmdState l, Obj.eyeStatus l] ∧ t.get (Obj.cmdState l) = 2 ∧ t.laneState l = lsRetrain)) ∧
  (∀ (s : State) (p : Path) (l : Fin 128),
    s.w.ready p = true → s.w.patternAllowed l = true → 
    Does (.patternStart p l) s (fun t =>
      s.w.obeys t p (Obj.laneCmd l) 4 [.lanes] [Obj.state l, Obj.cmdState l, Obj.prbsLock l] ∧ t.get (Obj.cmdState l) = 1 ∧ t.laneState l = lsPrbs ∧ t.get (Obj.prbsLock l) = 0)) ∧
  (∀ (s : State) (p : Path) (l : Fin 128),
    s.w.ready p = true → s.w.patternAllowed l = true → 
    Does (.patternStop p l) s (fun t =>
      s.w.obeys t p (Obj.laneCmd l) 5 [.lanes] [Obj.state l, Obj.cmdState l, Obj.prbsLock l] ∧ t.get (Obj.cmdState l) = 1 ∧ t.laneState l ≠ lsPrbs ∧ t.get (Obj.prbsLock l) = 0)) ∧
  (∀ (s : State) (p : Path) (l : Fin 128),
    s.w.ready p = true → 
    Does (.eyePoint p l) s (fun t =>
      s.w.obeys t p (Obj.eyeCtrl l) 1 [.lanes] [Obj.eyeStatus l] ∧ t.get (Obj.eyeStatus l) = 1 ∧
      t.lanes = upd s.w.lanes l (fun n => { n with eye := ⟨1, s.w.timeNs, s.w.frame, s.w.getN (Obj.eyeDwell l), s.w.confN (Obj.rateObj l), false, (s.w.lane l).eye.counts⟩ }))) ∧
  (∀ (s : State) (p : Path) (l : Fin 128),
    s.w.ready p = true → 
    Does (.eyeMap p l) s (fun t =>
      s.w.obeys t p (Obj.eyeCtrl l) 2 [.lanes] [Obj.eyeStatus l, Obj.eyePoints l] ∧ t.get (Obj.eyeStatus l) = 1 ∧ t.get (Obj.eyePoints l) = 0 ∧
      t.lanes = upd s.w.lanes l (fun n => { n with eye := ⟨2, s.w.timeNs, s.w.frame, s.w.getN (Obj.eyeDwell l), s.w.confN (Obj.rateObj l), false, []⟩ }))) ∧
  (∀ (s : State) (p : Path) (l : Fin 128),
    s.w.ready p = true → s.w.get (Obj.eyeStatus l) = 1 → 
    Does (.eyeAbort p l) s (fun t =>
      s.w.obeys t p (Obj.eyeCtrl l) 3 [.lanes] [Obj.eyeStatus l] ∧ t.get (Obj.eyeStatus l) = 3)) ∧
  (∀ (s : State) (l : Fin 128) (m : BitVec 64) (parity : BitVec 8) (block : Nat),
    isRslRate (s.w.confN (Obj.rateObj l)) = true → s.w.laneState l = lsLock ∨ s.w.laneState l = lsUp → m.toNat % 256 = 0xD2 → (l : Nat) < s.w.lanes.length → 0 < (s.w.lane l).markers → s.w.linkLanes (s.w.portOfLane l) = [(l : Nat)] → (markerFields m).2.2.1 = s.w.confN (Obj.lanes (s.w.portOfLane l)) → 
    Does (.laneMarker l m parity block) s (fun t =>
      t.laneState l = lsUp ∧ t.get (Obj.laneId l) = Int.ofNat (markerFields m).2.2.2 ∧ t.get (Obj.bipErr l) = min (s.w.get (Obj.bipErr l) + bitDiff (BitVec.ofNat 8 (markerFields m).1) parity) 0xFFFFFFFFFFFFFFFF ∧
      s.w.only t [.lanes, .router])) ∧
  (∀ (s : State) (l : Fin 128) (lead : Nat),
    s.w.laneState l = lsRetrain → lead ≤ 31 → 
    Does (.laneRetrainDone l lead) s (fun t =>
      t.laneState l = lsUp ∧ t.get (Obj.cmdState l) = 1 ∧ t.get (Obj.deskewTap l) = lead ∧ t.get (Obj.markerLead l) = lead ∧ s.w.only t [.lanes] ∧
      s.w.sameBut t [Obj.state l, Obj.cmdState l, Obj.deskewTap l, Obj.markerLead l] ∧ t.lanes = upd s.w.lanes l (fun n => { n with hostRetrain := false, keepTap := true, markers := 1 }))) ∧
  (∀ (s : State) (l : Fin 128),
    s.w.laneState l = lsPrbs → s.w.get (Obj.prbsLock l) ≠ 1 → 63 ≤ (s.w.lane l).prbsGood → 
    Does (.prbsLock l [true]) s (fun t =>
      t.get (Obj.prbsLock l) = 1 ∧ s.w.only t [.lanes] ∧ s.w.sameBut t [Obj.prbsLock l])) ∧
  (∀ (s : State) (l : Fin 128) (b : Bool),
    s.w.laneState l = lsPrbs → s.w.get (Obj.prbsLock l) = 1 → 
    Does (.prbsLock l [b]) s (fun t =>
      t.get (Obj.prbsBits l) = min (s.w.get (Obj.prbsBits l) + 1) 0xFFFFFFFFFFFFFFFF ∧ (b = false → t.get (Obj.prbsErrors l) = min (s.w.get (Obj.prbsErrors l) + 1) (counterMax (Obj.prbsErrors l))) ∧
      s.w.only t [] ∧ s.w.sameBut t [Obj.prbsBits l, Obj.prbsErrors l] ∧ (b = true → t.get (Obj.prbsErrors l) = s.w.get (Obj.prbsErrors l)))) ∧
  (∀ (s : State) (l : Fin 128) (counts : List Nat),
    s.w.get (Obj.eyeStatus l) = 1 → (s.w.lane l).eye.kind = 1 → 
    Does (.eyeScanDone l counts) s (fun t =>
      t.get (Obj.eyeStatus l) = 2 ∧ t.get (Obj.eyeErrors l) = counts.headD 0 ∧ t.get (Obj.eyeBits l) = ((2 ^ (s.w.lane l).eye.dwell : Nat) : Int) ∧ s.w.only t [.lanes] ∧
      s.w.sameBut t [Obj.eyeStatus l, Obj.eyeErrors l, Obj.eyeBits l])) ∧
  (∀ (s : State) (l : Fin 128) (counts : List Nat),
    s.w.get (Obj.eyeStatus l) = 1 → (s.w.lane l).eye.kind = 2 → 
    Does (.eyeScanDone l counts) s (fun t =>
      t.get (Obj.eyeStatus l) = 2 ∧ t.get (Obj.eyePoints l) = min counts.length 32640 ∧ s.w.only t [.lanes] ∧
      t.lanes = upd s.w.lanes l (fun n => { n with eye := { n.eye with kind := 0, complete := decide (32640 ≤ counts.length), counts := (counts.take 32640).map (fun c => min c 0xFFFFFFFF) } })))

/-- A good line packet answers its trigger, an unanswered or overloaded trigger closes with a replaced line, and a surplus is counted. LINE_PACKET on
a live RSL port, of a tag in use, whose oldest outstanding trigger bears the packet's TRIGGER_SEQ, undisturbed, of the right DATA_BLOCKS and
CRC-32, with as many pixels as the tag has, room in the port FIFO and no poisoned item: the line enters the FIFO under its trigger with STATE 0
and its pixels, and no line error counts. A stream packet of a CoaXPress port does the same in order of arrival. A stream packet with no trigger
outstanding counts in SURPLUS_LINE. LINE_TIMEOUT closes the oldest trigger of a tag after LINE_TIMEOUT with STATE 3 (link UP) or 4 and counts
MISSING_LINE. PORT_OVERLOAD closes the trigger that a line without room answers with STATE 6. A heartbeat packet on a CoaXPress port changes
nothing. -/
def Obligations.LinesMeetTheirTriggers : Prop :=
  (∀ (s : State) (p : Fin 32) (start stop : BitVec 64) (data : List (BitVec 64)) (g : Trig) (rest : List Trig),
    s.w.portLive p false = true → bitsOf start.toNat 8 3 < s.w.confN (Obj.tagCount p) → s.w.outstanding p (bitsOf start.toNat 8 3) = g :: rest → g.seq = bitsOf start.toNat 32 16 → bitsOf stop.toNat 16 16 = data.length % 65536 → bitsOf stop.toNat 32 32 = crc32 (blocksBytes data) → bitsOf start.toNat 48 16 = s.w.tagPx p (bitsOf start.toNat 8 3) → s.w.tagPx p (bitsOf start.toNat 8 3) ≤ 32768 → (unpackPixels (s.w.confN (Obj.portDepth p)) (s.w.tagPx p (bitsOf start.toNat 8 3)) data).length = s.w.tagPx p (bitsOf start.toNat 8 3) → s.w.fifoFill p + data.length * 8 + 16 ≤ fifoBytes → (s.w.port p).poison = none → 
    Does (.linePacket p start data stop false false 0) s (fun t =>
      (t.port p).rx = (s.w.port p).rx ++ [{ k := g.k, line := g.line, tag := bitsOf start.toNat 8 3, field := g.field, state := 0, valid := s.w.tagPx p (bitsOf start.toNat 8 3), gen := g.gen, echoDiff := decide (bitsOf start.toNat 24 8 ≠ g.gen % 256), pixels := unpackPixels (s.w.confN (Obj.portDepth p)) (s.w.tagPx p (bitsOf start.toNat 8 3)) data }] ∧
      s.w.only t [.ports] ∧ s.w.sameBut t [Obj.fifoPeak p, Obj.echoErr p, Obj.portFlags p])) ∧
  (∀ (s : State) (p : Fin 32) (t8 : Fin 8) (px : List Nat) (g : Trig) (rest : List Trig),
    s.w.portLive p true = true → (t8 : Nat) < s.w.confN (Obj.tagCount p) → s.w.outstanding p t8 = g :: rest → px.length = s.w.tagPx p t8 → 0 < px.length → s.w.fifoFill p + (ceilDiv (px.length * s.w.confN (Obj.portDepth p)) 64 * 8 + 16) ≤ fifoBytes → (s.w.port p).poison = none → 
    Does (.cxpStreamPacket p t8 true true px.length px) s (fun t =>
      (t.port p).rx = (s.w.port p).rx ++ [{ k := g.k, line := g.line, tag := t8, field := g.field, state := 0, valid := s.w.tagPx p t8, gen := g.gen, echoDiff := false, pixels := px.map (· % 2 ^ s.w.confN (Obj.portDepth p)) }] ∧
      s.w.only t [.ports] ∧ s.w.sameBut t [Obj.fifoPeak p])) ∧
  (∀ (s : State) (p : Fin 32) (t8 : Fin 8) (ok : Bool) (n : Nat) (px : List Nat),
    s.w.portLive p true = true → s.w.outstanding p t8 = [] → 
    Does (.cxpStreamPacket p t8 true ok n px) s (fun t =>
      t.get (Obj.surplusLine p) = min (s.w.get (Obj.surplusLine p) + 1) 0xFFFFFFFF ∧ t.get (Obj.portFlags p) = Int.ofNat (s.w.getN (Obj.portFlags p) ||| 2) ∧ s.w.only t [] ∧ s.w.sameBut t [Obj.surplusLine p, Obj.portFlags p])) ∧
  (∀ (s : State) (p : Fin 32) (t8 : Fin 8) (g : Trig) (rest : List Trig),
    s.w.outstanding p t8 = g :: rest → g.sentAt + nsClocks (s.w.getN (Obj.lineTimeout p)) ≤ s.w.clk.ctl → 
    Does (.lineTimeout p t8) s (fun t =>
      s.w.only t [.ports] ∧ s.w.sameBut t [Obj.fifoPeak p, Obj.missingLine p, Obj.portFlags p] ∧ t.get (Obj.missingLine p) = min (s.w.get (Obj.missingLine p) + 1) 0xFFFFFFFF ∧
      (t.port p).rx.length = (s.w.port p).rx.length + 1 ∧ (∀ r ∈ (t.port p).rx.getLast?, r.k = g.k ∧ r.line = g.line ∧ r.tag = t8 ∧ r.valid = 0 ∧ r.state = if s.w.linkUp p then 3 else 4))) ∧
  (∀ (s : State) (p : Fin 32) (start : BitVec 64) (blocks : Nat) (g : Trig) (rest : List Trig),
    s.w.portLive p false = true → fifoBytes < s.w.fifoFill p + blocks * 8 + 8 → bitsOf start.toNat 8 3 < s.w.confN (Obj.tagCount p) → s.w.outstanding p (bitsOf start.toNat 8 3) = g :: rest → g.seq = bitsOf start.toNat 32 16 → 
    Does (.portOverload p start blocks) s (fun t =>
      s.w.only t [.ports] ∧ s.w.sameBut t [Obj.fifoPeak p, Obj.missingLine p, Obj.portFlags p] ∧ t.get (Obj.portFlags p) = Int.ofNat ((s.w.getN (Obj.portFlags p) ||| 16) ||| 1) ∧
      (t.port p).rx.length = (s.w.port p).rx.length + 1 ∧ (∀ r ∈ (t.port p).rx.getLast?, r.k = g.k ∧ r.line = g.line ∧ r.valid = 0 ∧ r.state = 6))) ∧
  (∀ (s : State) (p : Fin 32),
    s.w.portLive p true = true → 
    Does (.cxpHeartbeat p) s (fun t =>
      t = s.w))

/-- A port whose link is UP reads its camera, a pass-through sends one register access at a time, its answer or its timeout ends it. PORT_DISCOVERY on
an enabled RSL port in WAIT_LINK or before, with its link UP and no message outstanding: PORT_STATE 2, and a register read of 19 words at address
0 goes to the camera. An acknowledgement of the configuration write (RSL_MESSAGE) with no exposure address: PORT_STATE 4. DISCOVERY_ACCESS_TIMEOUT
after 200 ms: PORT_STATE 1, no message outstanding. For every state in which a write over the path is ready, an active RSL port past discovery
with REG_STATUS not 1 and no message outstanding: REG_CMD 1 and (above the bootstrap registers) 2 are journaled, set REG_STATUS 1 and send the
access to the address REG_ADDR with REG_LENGTH/4 words. Its acknowledgement, over RSL or over CoaXPress, sets REG_STATUS 2 (a refusal: 3 with the
camera's code) and for a read puts the words into REG_DATA; after 200 ms without one, REG_STATUS reads 4. The model's own readings in it are log
entries 19 and 40. -/
def Obligations.CamerasAreDiscoveredAndRead : Prop :=
  (∀ (s : State) (p : Fin 32),
    s.w.portActive p = true → s.w.mode.lanesPowered = true → s.w.getN (Obj.portState p) ≤ 1 → s.w.linkUp p = true → (s.w.port p).txn = none → s.w.portCxp p = false → 
    Does (.portDiscovery p) s (fun t =>
      t.get (Obj.portState p) = 2 ∧ t.sent = .message p (messageBlock 0 ((s.w.port p).msgNo % 256) 19 1) [] :: s.w.sent ∧ s.w.only t [.ports, .timers, .sent] ∧ s.w.sameBut t [Obj.portState p])) ∧
  (∀ (s : State) (p : Fin 32) (b : BitVec 64) (data : List (BitVec 64)) (x : Txn),
    s.w.portLive p false = true → (s.w.port p).txn = some x → x.use = .configure → bitsOf b.toNat 24 8 = x.tag → bitsOf b.toNat 8 8 = 3 → s.w.confN (Obj.expAddr p) = 0 → (s.w.port p).resuming = false → (s.w.port p).suspended = false → (s.w.port p).expWait = false → (s.w.port p).passWait = none → 
    Does (.rslMessage p b data) s (fun t =>
      t.get (Obj.portState p) = 4 ∧ (t.port p).txn = none ∧ s.w.only t [.ports, .timers, .run] ∧ s.w.sameBut t [Obj.portState p])) ∧
  (∀ (s : State) (p : Fin 32),
    s.w.expired (.discovery p) 200000000 = true → 
    Does (.discoveryAccessTimeout p) s (fun t =>
      t.get (Obj.portState p) = 1 ∧ t.ports = upd s.w.ports p (fun q => { q with txn := none }) ∧ s.w.only t [.ports, .timers] ∧ s.w.sameBut t [Obj.portState p])) ∧
  (∀ (s : State) (path : Path) (p : Fin 32),
    s.w.ready path = true → s.w.get (Obj.regStatus p) ≠ 1 → s.w.portActive p = true → 4 ≤ s.w.getN (Obj.portState p) → (s.w.port p).txn = none → (s.w.port p).expWait = false → s.w.portCxp p = false → (p : Nat) < s.w.ports.length → 
    Does (.regRead path p) s (fun t =>
      s.w.obeys t path (Obj.regCmd p) 1 [.ports, .timers, .sent] [Obj.regStatus p] ∧ t.get (Obj.regStatus p) = 1 ∧
      t.sent = .message p (messageBlock (s.w.getN (Obj.regAddr p)) ((s.w.port p).msgNo % 256) (s.w.getN (Obj.regLength p) / 4) 1) [] :: s.w.sent)) ∧
  (∀ (s : State) (path : Path) (p : Fin 32),
    s.w.ready path = true → s.w.get (Obj.regStatus p) ≠ 1 → s.w.portActive p = true → 0x1000 ≤ s.w.getN (Obj.regAddr p) → 4 ≤ s.w.getN (Obj.portState p) → (s.w.port p).txn = none → (s.w.port p).expWait = false → s.w.portCxp p = false → (p : Nat) < s.w.ports.length → 
    Does (.regWrite path p) s (fun t =>
      s.w.obeys t path (Obj.regCmd p) 2 [.ports, .timers, .sent] [Obj.regStatus p] ∧ t.get (Obj.regStatus p) = 1 ∧
      t.sent = .message p (messageBlock (s.w.getN (Obj.regAddr p)) ((s.w.port p).msgNo % 256) (s.w.getN (Obj.regLength p) / 4) 2) (wordBlocks (bytesWords (s.w.blob (Obj.regData p)))) :: s.w.sent)) ∧
  (∀ (s : State) (p : Fin 32) (b : BitVec 64) (data : List (BitVec 64)) (x : Txn),
    s.w.portLive p false = true → (s.w.port p).txn = some x → x.use = .passRead → bitsOf b.toNat 24 8 = x.tag → bitsOf b.toNat 8 8 = 3 → (s.w.port p).expWait = false → (s.w.port p).passWait = none → 
    Does (.rslMessage p b data) s (fun t =>
      t.get (Obj.regStatus p) = 2 ∧ t.blob (Obj.regData p) = wordsBytes (((blockWords data).take (bitsOf b.toNat 16 8 + 1)).take x.words) ∧ t.ports = upd s.w.ports p (fun q => { q with txn := none }) ∧
      s.w.only t [.ports, .timers, .blobs] ∧ s.w.sameBut t [Obj.regStatus p])) ∧
  (∀ (s : State) (p : Fin 32) (code tags pixels depths lanes : Nat) (ws : List Nat) (model serial : Bytes) (x : Txn),
    s.w.portLive p true = true → (s.w.port p).txn = some x → x.use = .passWrite → (s.w.port p).expWait = false → (s.w.port p).passWait = none → 
    Does (.cxpControlAck p x.tag code ws tags pixels depths lanes model serial) s (fun t =>
      t.get (Obj.regStatus p) = (if code = 0 then 2 else 3) ∧ (code ≠ 0 → t.get (Obj.regResult p) = code) ∧ t.ports = upd s.w.ports p (fun q => { q with txn := none }) ∧
      s.w.only t [.ports, .timers] ∧ s.w.sameBut t [Obj.regStatus p, Obj.regResult p])) ∧
  (∀ (s : State) (p : Fin 32),
    s.w.expired (.regCmd p) 200000000 = true → (s.w.port p).expWait = false → (s.w.port p).passWait = none → 
    Does (.regTimeout p) s (fun t =>
      t.get (Obj.regStatus p) = 4 ∧ t.ports = upd s.w.ports p (fun q => { q with txn := none }) ∧ s.w.only t [.ports, .timers] ∧ s.w.sameBut t [Obj.regStatus p]))

/-- A port with its link down loses capacity and returns it; a suspended port takes its service image, is serviced and resumes. PORT_CAPACITY_LOST on
an active port whose link was down at LOST_FRAMES boundaries: PORT_FLAGS bit 6, the loss is on record, and INSPECT becomes DEGRADED by cause 12.
PORT_CAPACITY_RETURN after a matched line of an earlier frame: the loss is gone and, when it was the last, DEGRADED returns at frame p+1. For
every state in which a write over the path is ready: PORT_CMD 1 on an active port while inspecting is journaled, with PORT_CMD_STATE 2 and the
port out of stitching from frame p+1; SERVICE_IMAGE on a suspended port is stored when its entries are all the port's own; PORT_CMD 2 on a
suspended port with no port resuming and an empty service image, with every commit check passing, counts CONFIG_GEN and starts the return with
PORT_CMD_STATE 2. PORT_RESUME at the boundary after discovery ended: PORT_STATE 5, PORT_CMD_STATE 1, the service image empty. The model's own
readings in it are log entries 42, 48 and 79. -/
def Obligations.PortsLeaveAndReturn : Prop :=
  (∀ (s : State) (p : Fin 32),
    s.w.portActive p = true → s.w.getN (Obj.lostFrames p) ≤ (s.w.port p).downBounds → s.w.run.capacity.contains (.port p) = false → 
    Does (.portCapacityLost p) s (fun t =>
      t.get (Obj.portFlags p) = Int.ofNat (s.w.getN (Obj.portFlags p) ||| 64) ∧ t.run.capacity = .port p :: s.w.run.capacity ∧ t.run.returnAt = none ∧ (s.w.mode = .inspect → t.entered .degraded 12) ∧
      (s.w.mode ≠ .inspect → s.w.only t [.ports, .run] ∧ s.w.sameBut t [Obj.portFlags p]))) ∧
  (∀ (s : State) (p : Fin 32) (f : Nat),
    (s.w.port p).matched = some f → f < s.w.frame → s.w.run.capacity.contains (.port p) = true → 
    Does (.portCapacityReturn p) s (fun t =>
      t = { s.w with run := { s.w.run with capacity := s.w.run.capacity.filter (fun d => d ≠ .port p), returnAt := if s.w.mode = .degraded ∧ (s.w.run.capacity.filter (fun d => d ≠ .port p)) = [] then some (s.w.frame + 1) else s.w.run.returnAt } })) ∧
  (∀ (s : State) (path : Path) (p : Fin 32),
    s.w.ready path = true → s.w.mode.inspecting = true → s.w.portActive p = true → (s.w.port p).suspended = false → (s.w.port p).suspendAt = none → 
    Does (.portSuspend path p) s (fun t =>
      s.w.obeys t path (Obj.portCmd p) 1 [.ports, .loom] [Obj.portCmdState p] ∧ t.get (Obj.portCmdState p) = 2 ∧ t.ports = upd s.w.ports p (fun q => { q with suspendAt := some (s.w.frame + 1) }) ∧
      t.loom = { s.w.loom with excl := ⟨p, 6, s.w.frame + 1, none⟩ :: s.w.loom.excl })) ∧
  (∀ (s : State) (path : Path) (p : Fin 32) (b : Bytes) (es : List ProfEntry),
    s.w.ready path = true → (s.w.port p).suspended = true → (entriesOf b 0).toOption = some es → es.all (fun e => portOwns p e.key) = true → 8 ≤ b.length → b.length ≤ 1048576 → 
    DoesNv (.serviceImageWrite path p b) s (fun nv t =>
      nv = s.nv ∧ t.blob (Obj.serviceImage p) = b ∧ t.journal.head = s.w.journal.head + 1 ∧ s.w.only t [.journal, .lastRes, .blobs] ∧ s.w.sameBut t (acceptKeys path))) ∧
  (∀ (s : State) (path : Path) (p : Fin 32),
    s.w.ready path = true → (s.w.port p).suspended = true → ∀ q : Fin 32, (s.w.port q).resuming = false → s.w.blob (Obj.serviceImage p) = [] → (let w := s.w.tookNow path (Obj.portCmd p) 2; { w with loom := { w.loom with work := none } }).commitFaults = [] → 
    DoesNv (.portApplyResume path p) s (fun nv t =>
      nv = s.nv ∧ s.w.journals t path (Obj.portCmd p) 2 ∧ t.mode = s.w.mode ∧ t.get (Obj.portCmdState p) = 2 ∧ t.get Obj.configGen = min (s.w.get Obj.configGen + 1) 0xFFFFFFFF ∧ t.get Obj.refusal = 0 ∧ ((p : Nat) < s.w.ports.length → (t.port p).resuming = true ∧ (t.port p).suspended = true))) ∧
  (∀ (s : State) (p : Fin 32) (m : Nat),
    (s.w.port p).readyAt = some m → (s.w.port p).resuming = true → m ≤ s.w.frame → 
    Does (.portResume p) s (fun t =>
      t.get (Obj.portState p) = 5 ∧ t.get (Obj.portCmdState p) = 1 ∧ t.blob (Obj.serviceImage p) = [] ∧ t.ports = upd s.w.ports p (fun q => { q with suspended := false, resuming := false, readyAt := none }) ∧
      s.w.only t [.ports, .blobs] ∧ s.w.sameBut t [Obj.portState p, Obj.portCmdState p]))

/-- A line at the head of a port FIFO leaves it corrected and packed, a full output buffer stalls it, and a packed line is published. FULLER_LINE with
room in the die's output buffer, no store error met: a good line of a web line (STATE 0 to 2) leaves the FIFO and stands last in the die's output
buffer, packed from the stages' values under the set, DGAIN, bypass and table that govern its frame, with FILL beyond its valid pixels; a line of
STATE 3 to 7 that repeats nothing stands there as FILL aligned by stage 1. With the output buffer full the line stays and STALL_CLOCKS counts.
LINE_PUBLISHED takes the oldest packed line out of the output buffer, shows its web line in LAST_WEB_LINE and counts it in LINES_OK when its STATE
is 0 or 2. The model's own readings in it are log entry 39. -/
def Obligations.LinesPassFullerAndArePublished : Prop :=
  (∀ (s : State) (p : Fin 32) (r : RxLine) (rest : List RxLine) (l : Nat),
    (s.w.port p).rx = r :: rest → r.line = some l → r.state < 3 → s.w.outFill (dieOfPort p) + s.w.lineBytes p r.tag ≤ 262144 → (s.w.calOf p).badWords = [] → dieOfPort p < s.w.fuller.length → s.w.getN (Obj.pcalState p) ≠ 3 → 
    Does (.fullerLine p 0 []) s (fun t =>
      t.ports = upd s.w.ports p (fun q => { q with rx := rest }) ∧ s.w.only t [.ports, .cal, .fuller, .stats] ∧ s.w.sameBut t [Obj.clipHigh p, Obj.storeCorr p, Obj.storeUncorr p, Obj.outBufPeak (dieOfPort p)] ∧
      ∃ d : LineDesc, (nth {} t.fuller (dieOfPort p)).outq = (nth {} s.w.fuller (dieOfPort p)).outq ++ [⟨r.k, s.w.sensorOf p r.tag, d, packLine (s.w.packBitsOf p)
        ((correctLine (s.w.setAt p (s.w.frameOf l)) r.tag r.field (s.w.confN (Obj.portDepth p)) (s.w.valueAtN (Obj.dgain p r.field) (s.w.frameOf l)) (s.w.valueAtN (Obj.corrBypass p) (s.w.frameOf l))
        (s.w.lutOf p r.tag r.field (s.w.frameOf l)).2 [] (fun _ => 0) (align (s.w.confN (Obj.portDepth p)) (s.w.valueAtN (Obj.fill p) (s.w.frameOf l))) r.pixels).ys ++
          List.replicate (s.w.tagPx p r.tag - (correctLine (s.w.setAt p (s.w.frameOf l)) r.tag r.field (s.w.confN (Obj.portDepth p)) (s.w.valueAtN (Obj.dgain p r.field) (s.w.frameOf l)) (s.w.valueAtN (Obj.corrBypass p) (s.w.frameOf l))
        (s.w.lutOf p r.tag r.field (s.w.frameOf l)).2 [] (fun _ => 0) (align (s.w.confN (Obj.portDepth p)) (s.w.valueAtN (Obj.fill p) (s.w.frameOf l))) r.pixels).ys.length) (align (s.w.confN (Obj.portDepth p)) (s.w.valueAtN (Obj.fill p) (s.w.frameOf l)))),
        (correctLine (s.w.setAt p (s.w.frameOf l)) r.tag r.field (s.w.confN (Obj.portDepth p)) (s.w.valueAtN (Obj.dgain p r.field) (s.w.frameOf l)) (s.w.valueAtN (Obj.corrBypass p) (s.w.frameOf l))
        (s.w.lutOf p r.tag r.field (s.w.frameOf l)).2 [] (fun _ => 0) (align (s.w.confN (Obj.portDepth p)) (s.w.valueAtN (Obj.fill p) (s.w.frameOf l))) r.pixels).dead⟩] ∧
        d.line = l ∧ d.port = p ∧ d.tag = r.tag ∧ d.field = r.field ∧ d.state = r.state ∧ d.valid = r.valid ∧ d.corrGen = (s.w.setAt p (s.w.frameOf l)).gen)) ∧
  (∀ (s : State) (p : Fin 32) (r : RxLine) (rest : List RxLine) (l : Nat),
    (s.w.port p).rx = r :: rest → r.line = some l → 3 ≤ r.state → r.repeatOf = 0 → s.w.outFill (dieOfPort p) + s.w.lineBytes p r.tag ≤ 262144 → dieOfPort p < s.w.fuller.length → s.w.getN (Obj.pcalState p) ≠ 3 → 
    Does (.fullerLine p 0 []) s (fun t =>
      t.ports = upd s.w.ports p (fun q => { q with rx := rest }) ∧ s.w.only t [.ports, .fuller, .stats] ∧ s.w.sameBut t [Obj.outBufPeak (dieOfPort p)] ∧
      ∃ d : LineDesc, (nth {} t.fuller (dieOfPort p)).outq = (nth {} s.w.fuller (dieOfPort p)).outq ++ [⟨r.k, s.w.sensorOf p r.tag, d, packLine (s.w.packBitsOf p)
        (List.replicate (s.w.tagPx p r.tag) (align (s.w.confN (Obj.portDepth p)) (s.w.valueAtN (Obj.fill p) (s.w.frameOf l)))), []⟩] ∧ d.line = l ∧ d.state = r.state ∧ d.valid = 0)) ∧
  (∀ (s : State) (p : Fin 32) (r : RxLine) (rest : List RxLine) (c : Nat) (bad : List Nat),
    (s.w.port p).rx = r :: rest → s.w.outFill (dieOfPort p) + s.w.lineBytes p r.tag > 262144 → 
    Does (.fullerLine p c bad) s (fun t =>
      t.get (Obj.dieStallClocks (dieOfPort p)) = min (s.w.get (Obj.dieStallClocks (dieOfPort p)) + 1) 0xFFFFFFFFFFFFFFFF ∧ s.w.only t [] ∧ s.w.sameBut t [Obj.dieStallClocks (dieOfPort p)])) ∧
  (∀ (s : State) (d : Fin 4) (q : Packed) (rest : List Packed),
    (nth {} s.w.fuller d).outq = q :: rest → 
    Does (.linePublished d) s (fun t =>
      t.fuller = upd s.w.fuller d (fun x => { x with outq := rest }) ∧ t.get (Obj.lastWebLine q.desc.port) = q.desc.line ∧ s.w.only t [.fuller, .hbm] ∧
      (q.desc.port < 32 → (q.desc.state = 0 ∨ q.desc.state = 2) → t.get (Obj.linesOk q.desc.port) = min (s.w.get (Obj.linesOk q.desc.port) + 1) 0xFFFFFFFFFFFFFFFF)))

/-- A pending generation is in force from its frame on, a response table is checked and stored, and the stages compute the corrected value of a pixel.
CORR_SWAP when the frame of a pending generation has begun: ACTIVE_GEN is the generation of the set that governs the frame, PENDING_GEN the same,
SWITCH_FRAME none pending. For every state in which a write over the path is ready: LUT_TABLE of 2,058 bytes with its magic and CRC is stored and
journaled, and governs at the latest from frame p+2. For every line with no map entry, no store error and bypass bits clear, without a response
table, pixel i leaves the stages as ((x·2^(16−b) − OFFSET)·GAIN·DGAIN + 2^25) / 2^26 rounded down, clamped to 0 to 65,535. -/
def Obligations.CorrectionSettingsSwap : Prop :=
  (∀ (s : State) (p : Fin 32),
    s.w.getN (Obj.switchFrame p) ≠ noFrame → s.w.getN (Obj.switchFrame p) ≤ s.w.frame → 
    Does (.corrSwap p) s (fun t =>
      t.get (Obj.activeGen p) = (s.w.setAt p s.w.frame).gen ∧ t.get (Obj.pendingGen p) = (s.w.setAt p s.w.frame).gen ∧ t.get (Obj.switchFrame p) = noFrame ∧ s.w.only t [.cal] ∧
      t.cal = upd s.w.cal p (fun c => { c with badWords := [] }) ∧ s.w.sameBut t [Obj.activeGen p, Obj.deadPixels p, Obj.activeFlags p, Obj.pendingGen p, Obj.switchFrame p, Obj.storeUsed (dieOfPort p)])) ∧
  (∀ (s : State) (path : Path) (d : Fin 4) (n : Fin 64) (b : Bytes),
    s.w.ready path = true → b.length = 2058 → leAt b 0 4 = 0x54554C46 → leAt b 2054 4 = crc32 (b.take 2054) → 
    Does (.lutTableWrite path d n b) s (fun t =>
      t.blob (Obj.lutTable (64 * d + n)) = b ∧ t.journal.head = s.w.journal.head + 1 ∧ s.w.only t [.journal, .lastRes, .blobs, .changes] ∧ s.w.sameBut t (acceptKeys path) ∧ ∀ f, s.w.frame + 2 ≤ f → t.blobAt (Obj.lutTable (64 * d + n)) f = b)) ∧
  (∀ (c : CalSet) (tag f b dgain fillX i : Nat) (px : List Nat),
    c.map = [] → i < px.length → 
    nth 0 (correctLine c tag f b dgain 0 none [] (fun _ => 0) fillX px).ys i =
      (clampInt 0 65535 (((((nth 0 px i * 2 ^ (16 - b) : Nat) : Int) - (c.coef tag f i).1) * (c.coef tag f i).2 * dgain + 2 ^ 25) / 2 ^ 26)).toNat)

/-- A per-port calibration starts at frame p+1, waits for its reference, settles, sums, computes, waits for removal and returns. For every state in
which a write over the path is ready: PCAL_CMD 1 and 2, on an active port neither suspended nor calibrating, while inspecting or in SHADOW, are
journaled, set CAL_RESULT running, WORK_STATE 2 and CAL_FIRST_FRAME p+1 and exclude the port from frame p+1 with reason 7. PCAL_EXCLUSION_START at
that frame: PCAL_STATE 1 and CAL_WAIT raised. PCAL_CONFIRM 1 and CAL_CONFIRM 1 on a calibration waiting for its reference in place: PCAL_STATE 2;
PCAL_CONFIRM 2 on one waiting for removal: PCAL_STATE 6; CAL_CONFIRM 2 with no device-wide calibration waiting is journaled and changes nothing
else. CAL_TRAVERSE_STOP with the axis at rest at stop 0 settles too. CAL_SETTLE_DONE after SETTLE_LINES triggers: PCAL_STATE 3.
CAL_ACCUMULATE_DONE with every line summed and no traverse: PCAL_STATE 4. PCAL_RETURN at frame m: PCAL_STATE 0, no calibration. -/
def Obligations.PortCalibrationsRunTheirStates : Prop :=
  (∀ (s : State) (path : Path) (p : Fin 32),
    s.w.ready path = true → s.w.mode.inspecting = true ∨ s.w.mode = .shadow → (s.w.calOf p).kind = 0 → (s.w.port p).suspended = false → (s.w.port p).suspendAt = none → s.w.portActive p = true → 
    Does (.pcalDark path p) s (fun t =>
      s.w.obeys t path (Obj.pcalCmd p) 1 [.cal, .loom] [Obj.calResult p, Obj.calFirstFrame p, Obj.workState p] ∧ t.get (Obj.calResult p) = 1 ∧ t.get (Obj.calFirstFrame p) = s.w.frame + 1 ∧ t.get (Obj.workState p) = 2 ∧
      t.loom = { s.w.loom with excl := ⟨p, 7, s.w.frame + 1, none⟩ :: s.w.loom.excl } ∧ ((p : Nat) < s.w.cal.length → (t.calOf p).kind = 1 ∧ (t.calOf p).device = false ∧ (t.calOf p).startAt = s.w.frame + 1))) ∧
  (∀ (s : State) (path : Path) (p : Fin 32),
    s.w.ready path = true → s.w.mode.inspecting = true ∨ s.w.mode = .shadow → (s.w.calOf p).kind = 0 → (s.w.port p).suspended = false → (s.w.port p).suspendAt = none → s.w.portActive p = true → 
    Does (.pcalFlat path p) s (fun t =>
      s.w.obeys t path (Obj.pcalCmd p) 2 [.cal, .loom] [Obj.calResult p, Obj.calFirstFrame p, Obj.workState p] ∧ t.get (Obj.calResult p) = 1 ∧ t.get (Obj.calFirstFrame p) = s.w.frame + 1 ∧ t.get (Obj.workState p) = 2 ∧
      t.loom = { s.w.loom with excl := ⟨p, 7, s.w.frame + 1, none⟩ :: s.w.loom.excl } ∧ ((p : Nat) < s.w.cal.length → (t.calOf p).kind = 2 ∧ (t.calOf p).device = false ∧ (t.calOf p).startAt = s.w.frame + 1))) ∧
  (∀ (s : State) (p : Fin 32),
    (s.w.calOf p).kind ≠ 0 → (s.w.calOf p).device = false → (s.w.calOf p).backAt = none → s.w.getN (Obj.pcalState p) = 0 → (s.w.calOf p).startAt ≤ s.w.frame → 
    Does (.pcalExclusionStart p) s (fun t =>
      t.get (Obj.pcalState p) = 1 ∧ s.w.only t [.timers, .router] ∧ s.w.sameBut t [Obj.pcalState p, Obj.calState, raisedKey 4])) ∧
  (∀ (s : State) (path : Path) (p : Fin 32),
    s.w.ready path = true → s.w.waitsFor p 1 = true → 
    Does (.pcalConfirmInPlace path p) s (fun t =>
      s.w.obeys t path (Obj.pcalConfirm p) 1 [.cal, .timers] [Obj.pcalState p, Obj.calState] ∧ t.get (Obj.pcalState p) = 2)) ∧
  (∀ (s : State) (path : Path),
    s.w.ready path = true → 
    Does (.calConfirmInPlace path) s (fun t =>
      s.w.journals t path Obj.calConfirm 1 ∧ s.w.only t [.journal, .lastRes, .cal, .timers] ∧ ∀ p : Fin 32, (s.w.calOf p).device = true → s.w.waitsFor p 1 = true → t.get (Obj.pcalState p) = 2)) ∧
  (∀ (s : State) (path : Path) (p : Fin 32),
    s.w.ready path = true → s.w.waitsFor p 5 = true → 
    Does (.pcalConfirmRemoved path p) s (fun t =>
      s.w.journals t path (Obj.pcalConfirm p) 2 ∧ t.get (Obj.pcalState p) = 6 ∧ ((p : Nat) < s.w.cal.length → (t.calOf p).backAt ≠ none))) ∧
  (∀ (s : State) (path : Path),
    s.w.ready path = true → ∀ p : Fin 32, (s.w.calOf p).device = true → s.w.getN (Obj.pcalState p) ≠ 5 → 
    Does (.calConfirmRemoved path) s (fun t =>
      s.w.obeys t path Obj.calConfirm 2 [] [])) ∧
  (∀ (s : State) (p : Fin 32) (a : Nat),
    s.w.traverse p = some a → (s.w.ax a).running = false → (s.w.ax a).queue = [] → s.w.getN (Obj.pcalState p) = 1 → s.w.axPos a = s.w.stopPos 0 → 
    Does (.calTraverseStop p) s (fun t =>
      t.get (Obj.pcalState p) = 2 ∧ s.w.only t [.cal, .timers] ∧ s.w.sameBut t [Obj.pcalState p, Obj.calState])) ∧
  (∀ (s : State) (p : Fin 32),
    (s.w.calOf p).kind ≠ 0 → (s.w.calOf p).ready = false → s.w.getN Obj.settleLines ≤ (s.w.calOf p).trigs → s.w.getN (Obj.pcalState p) = 2 → 
    Does (.calSettleDone p) s (fun t =>
      t.get (Obj.pcalState p) = 3 ∧ t.cal = upd s.w.cal p (fun c => { c with ready := true, acc := s.w.emptySums p, gen := none, restarts := 0 }) ∧ s.w.only t [.cal] ∧ s.w.sameBut t [Obj.pcalState p, Obj.calState])) ∧
  (∀ (s : State) (p : Fin 32),
    (s.w.calOf p).kind = 1 → (s.w.calOf p).failed = false → (s.w.calOf p).ready = true → s.w.allSummed p = true → s.w.getN (Obj.pcalState p) = 3 → 
    Does (.calAccumulateDone p) s (fun t =>
      t.get (Obj.pcalState p) = 4 ∧ t.cal = upd s.w.cal p (fun c => { c with ready := false }) ∧ s.w.only t [.cal] ∧ s.w.sameBut t [Obj.pcalState p, Obj.calState])) ∧
  (∀ (s : State) (p : Fin 32) (m : Nat),
    (s.w.calOf p).backAt = some m → m ≤ s.w.frame → 
    Does (.pcalReturn p) s (fun t =>
      t.get (Obj.pcalState p) = 0 ∧ t.cal = upd s.w.cal p (fun c => { c with kind := 0, backAt := none }) ∧ s.w.only t [.cal] ∧ s.w.sameBut t [Obj.pcalState p, Obj.calState]))

/-- A calibration that computes ends complete, one aborted or timed out ends with its code, and a geometry fit within tolerance completes.
CAL_COMPUTE_DONE of a per-port calibration past its settling that computes within its limits: CAL_RESULT 2, WORK_STATE 3, PCAL_STATE 5, and DARK
or FLAT set in the working set. PCAL_CMD 4 on a running per-port calibration before its removal: CAL_RESULT 3. CAL_REF_TIMEOUT after REF_TIMEOUT
in the wait for the reference: CAL_RESULT 4. CAL_TIMER_TRIGGER in a CAL mode with the timer as source, when it is due: the calibration count rises
by one, and the timer is due again one line period of CAL_LINE_RATE later. GEOM_FIT in CAL_GEOM with every port summing and a fit whose greatest
residual is at most GEOM_TOL: GEOM_RESULT 2, CAL_RESULT 2 on every port of the calibration, and a geometry working set stands. The model's own
readings in it are log entries 43 and 45. -/
def Obligations.CalibrationsEndWithAResult : Prop :=
  (∀ (s : State) (p : Fin 32) (c : CalSet),
    (s.w.calOf p).kind = 1 ∨ (s.w.calOf p).kind = 2 → (s.w.calOf p).device = false → s.w.getN (Obj.pcalState p) = 4 → (s.w.calOf p).work = some c → (s.w.computeAll p c (s.w.calOf p).kind).toOption.map (fun r => decide ((addFound c.map r.2).length ≤ 4096)) = some true → 
    Does (.calComputeDone p) s (fun t =>
      t.get (Obj.calResult p) = 2 ∧ t.get (Obj.workState p) = 3 ∧ t.get (Obj.pcalState p) = 5 ∧ (∀ x ∈ (t.calOf p).work, x.dark = (c.dark || decide ((s.w.calOf p).kind = 1)) ∧ x.flat = (c.flat || decide ((s.w.calOf p).kind = 2))) ∧ (t.calOf p).work.isSome = true)) ∧
  (∀ (s : State) (path : Path) (p : Fin 32),
    s.w.ready path = true → s.w.mode.inspecting = true ∨ s.w.mode = .shadow → (s.w.calOf p).kind ≠ 0 → (s.w.calOf p).device = false → s.w.getN (Obj.pcalState p) < 5 → 
    Does (.pcalAbort path p) s (fun t =>
      s.w.journals t path (Obj.pcalCmd p) 4 ∧ t.get (Obj.calResult p) = 3 ∧ 5 ≤ t.getN (Obj.pcalState p))) ∧
  (∀ (s : State) (p : Fin 32),
    (s.w.calOf p).kind ≠ 0 → s.w.expired (.refPcal p) (s.w.getN Obj.refTimeout * 1000000) = true → s.w.getN (Obj.pcalState p) = 1 → 
    Does (.calRefTimeout p) s (fun t =>
      t.get (Obj.calResult p) = 4 ∧ ((s.w.calOf p).device = false → t.get (Obj.pcalState p) = 6))) ∧
  (∀ (s : State),
    s.w.mode.calibrating = true → s.w.calDev.timer = true → s.w.calDev.dueAt ≤ s.w.clk.ctl → 
    Does (.calTimerTrigger) s (fun t =>
      t.calDev = { s.w.calDev with count := s.w.calDev.count + 1, dueAt := s.w.calDev.dueAt + ctlHz / s.w.getN Obj.calLineRate } ∧ t.mode = s.w.mode ∧ t.axis = s.w.axis)) ∧
  (∀ (s : State) (dots : List DotView) (links : List DotLink),
    s.w.mode = .calGeom → s.w.geomPorts ≠ [] → ∀ p ∈ s.w.geomPorts, s.w.getN (Obj.pcalState p) = 3 → (s.w.geomFits ((s.w.geomPorts.map s.w.portSensors).flatten) dots links).toOption.map (fun f => decide ((worstFit f).err ≤ s.w.getN Obj.geomTol)) = some true → 
    Does (.geomFit dots links) s (fun t =>
      t.get Obj.geomResult = 2 ∧ (∀ p ∈ s.w.geomPorts, t.get (Obj.calResult p) = 2) ∧ t.loom.work.isSome = true))

/-- A working set opens, is discarded, is committed with the next generation, is exported and imported. For every state in which a write over the path
is ready and a port that does not calibrate: WORK_CMD 1 opens a copy of the committed set, 2 a fresh set with the pinned map, each with WORK_STATE
1, and 3 discards the working set with WORK_STATE 0. CAL_COMMIT of ports whose working sets are complete, with no bank still needed, gives each
the next generation in rising port order, so that NEXT_GEN rises by their number, and leaves them without a working set in WORK_STATE 0.
CAL_IMPORT of an image that passes its checks replaces the working set, WORK_STATE 3; GEOM_IMPORT likewise outside CAL_GEOM. While the dictionary
is open CAL_EXPORT, WORK_EXPORT and GEOM_EXPORT answer the committed set, the working set and the geometry set in force as images, and COLUMN_MAP
the column map; nothing else changes. -/
def Obligations.WorkingSetsOpenCommitAndTravel : Prop :=
  (∀ (s : State) (path : Path) (p : Fin 32),
    s.w.ready path = true → (s.w.calOf p).kind = 0 → 
    Does (.workOpenCopy path p) s (fun t =>
      s.w.obeys t path (Obj.workCmd p) 1 [.cal] [Obj.workState p] ∧ t.get (Obj.workState p) = 1 ∧ t.cal = upd s.w.cal p (fun q => { q with work := some (s.w.copySet p) }))) ∧
  (∀ (s : State) (path : Path) (p : Fin 32),
    s.w.ready path = true → (s.w.calOf p).kind = 0 → 
    Does (.workOpenFresh path p) s (fun t =>
      s.w.obeys t path (Obj.workCmd p) 2 [.cal] [Obj.workState p] ∧ t.get (Obj.workState p) = 1 ∧ t.cal = upd s.w.cal p (fun q => { q with work := some (s.w.freshSet p (mapOfBytes (s.w.blob (Obj.pinMap p)))) }))) ∧
  (∀ (s : State) (path : Path) (p : Fin 32),
    s.w.ready path = true → (s.w.calOf p).kind = 0 → 
    Does (.workDiscard path p) s (fun t =>
      s.w.obeys t path (Obj.workCmd p) 3 [.cal] [Obj.workState p] ∧ t.get (Obj.workState p) = 0 ∧ t.cal = upd s.w.cal p (fun q => { q with work := none }))) ∧
  (∀ (s : State) (path : Path) (mask : BitVec 32),
    s.w.ready path = true → ∀ p ∈ maskPorts mask.toNat, s.w.workComplete p = true ∧ s.w.bankBusy p = false → mask ≠ 0 → 
    Does (.calCommit path mask) s (fun t =>
      s.w.journals t path Obj.calCommit mask.toNat ∧ t.get Obj.nextGen = Int.ofNat (s.w.getN Obj.nextGen + (maskPorts mask.toNat).length) ∧ ∀ p ∈ maskPorts mask.toNat, t.get (Obj.workState p) = 0 ∧ (t.calOf p).work = none)) ∧
  (∀ (s : State) (path : Path) (p : Fin 32) (b : Bytes),
    s.w.ready path = true → calImportCheck p s.w b = none → 80 ≤ b.length → b.length ≤ 4194304 → 
    Does (.calImport path p b) s (fun t =>
      t.journal.head = s.w.journal.head + 1 ∧ t.cal = upd s.w.cal p (fun q => { q with work := some (setOfImage b) }) ∧ t.get (Obj.workState p) = 3 ∧ s.w.only t [.journal, .lastRes, .cal, .blobs] ∧ s.w.sameBut t (acceptKeys path ++ [Obj.workState p]))) ∧
  (∀ (s : State) (path : Path) (b : Bytes),
    s.w.ready path = true → geomImportCheck s.w b = none → 80 ≤ b.length → b.length ≤ 16464 → 
    Does (.geomImport path b) s (fun t =>
      t.journal.head = s.w.journal.head + 1 ∧ t.loom = { s.w.loom with work := some (geomOfImage b) } ∧ s.w.only t [.journal, .lastRes, .loom, .blobs] ∧ s.w.sameBut t (acceptKeys path))) ∧
  (∀ (s : State) (path : Path) (p : Fin 32),
    s.w.mode.dictOpen = true → 
    Does (.calExport path p) s (fun t =>
      t.sent = .reply path (Obj.calExport p) (s.w.calExportBytes p) :: s.w.sent ∧ t.lastRes = 0 ∧ s.w.only t [.sent, .lastRes] ∧ s.w.sameBut t (resultKey path).toList)) ∧
  (∀ (s : State) (path : Path) (p : Fin 32),
    s.w.mode.dictOpen = true → 
    Does (.workExport path p) s (fun t =>
      t.sent = .reply path (Obj.workExport p) (s.w.workExportBytes p) :: s.w.sent ∧ t.lastRes = 0 ∧ s.w.only t [.sent, .lastRes] ∧ s.w.sameBut t (resultKey path).toList)) ∧
  (∀ (s : State) (path : Path),
    s.w.mode.dictOpen = true → 
    Does (.geomExport path) s (fun t =>
      t.sent = .reply path Obj.geomExport s.w.geomExportBytes :: s.w.sent ∧ t.lastRes = 0 ∧ s.w.only t [.sent, .lastRes] ∧ s.w.sameBut t (resultKey path).toList)) ∧
  (∀ (s : State) (path : Path),
    s.w.mode.dictOpen = true → 
    Does (.columnMap path) s (fun t =>
      t.sent = .reply path Obj.columnMap s.w.columnMapBytes :: s.w.sent ∧ t.lastRes = 0 ∧ s.w.only t [.sent, .lastRes] ∧ s.w.sameBut t (resultKey path).toList))

/-- A web line every stitched sensor has published is swept, map errors are counted and rewritten, halo columns are kept or given up, a tile-frame is
delivered. SWEEP_LINE when the next web line of an inspected frame can be swept: SWEEP_LINE shows it, SWEEP_LAG the lines to the last trigger less
the stagger, the next line to sweep is the one after, MAP_CORR adds the corrected map errors and MAP_UNCORR the uncorrectable ones, which set
LOOM_FLAGS bit 3. MAP_REWRITE takes a column out of the faulty map entries and changes nothing else. HALO_EDGE_LINES from a neighbour in the
member table over its session keeps the 32 columns of the line. HALO_TIMEOUT for a line that is due gives its columns up: LOOM_FLAGS bit 1,
HALO_LATE_COUNT and an invalid halo line marked late. TILE_PASS_REQUEST with a plane in force and every line ready delivers the tile-frame under
its request number. The model's own readings in it are log entry 42. -/
def Obligations.LinesAreSweptAndDelivered : Prop :=
  (∀ (s : State) (line corrected : Nat) (bad : List Nat),
    s.w.sweepAt = some line → s.w.sweepReady line = true → 
    Does (.sweepLine corrected bad) s (fun t =>
      t.get Obj.sweepLine = line ∧ t.get Obj.sweepLag = Int.ofNat (s.w.axis.last.getD 0 - s.w.sMax (s.w.frameOf line) - line) ∧ t.loom.next = some (line + 1) ∧ t.mode = s.w.mode ∧
      t.get Obj.mapCorr = min (s.w.get Obj.mapCorr + corrected) 0xFFFFFFFF ∧ t.get Obj.mapUncorr = min (s.w.get Obj.mapUncorr + bad.length) 0xFFFFFFFF ∧ (bad ≠ [] → bitOf (t.getN Obj.loomFlags) 3 = true))) ∧
  (∀ (s : State) (c : Nat),
    Does (.mapRewrite c) s (fun t =>
      t = { s.w with loom := { s.w.loom with badMap := s.w.loom.badMap.filter (fun x => x ≠ c) } })) ∧
  (∀ (s : State) (src : Fin 1024) (line : BitVec 48) (f : Fin 8) (vs : List Nat) (valid uncal : BitVec 32) (j own : Nat),
    (s.w.session src).isSome = true → s.w.memberFrom src = some j → s.w.memberIndex = some own → j = own + 1 ∨ own = j + 1 → s.w.haloLine (decide (own < j)) f line.toNat = none → 
    Does (.haloEdgeLines src line f vs valid uncal) s (fun t =>
      t.haloLine (decide (own < j)) f line.toNat = some ⟨decide (own < j), line.toNat, f, (upTo 32).map (nth 0 vs), valid.toNat, uncal.toNat, false⟩ ∧ s.w.only t [.loom, .sys] ∧ s.w.sameBut t [])) ∧
  (∀ (s : State) (upper : Bool) (f line : Nat) (x : Sensor) (r : Row),
    s.w.hasNeighbour upper = true → s.w.haloLine upper f line = none → s.w.sweepReady line = true → x ∈ s.w.loom.sensors → r ∈ s.w.hbm.rows.find? (fun r => r.k == s.w.rowOf x.s line) → r.pubAt + nsClocks (s.w.getN Obj.haloTimeout * 1000) ≤ s.w.clk.ctl → 
    Does (.haloTimeout upper f line) s (fun t =>
      t.haloLine upper f line = some ⟨upper, line, f, List.replicate 32 0, 0, 0, true⟩ ∧ t.get Obj.haloLateCount = min (s.w.get Obj.haloLateCount + 1) 0xFFFFFFFF ∧ t.get Obj.loomFlags = Int.ofNat (s.w.getN Obj.loomFlags ||| 2) ∧
      s.w.only t [.loom] ∧ s.w.sameBut t [Obj.loomFlags, Obj.haloLateCount])) ∧
  (∀ (s : State) (f n req : Nat) (first : Int) (width : Nat),
    s.w.loom.sensors ≠ [] → s.w.passReady f n ⟨first, min width 4096, 0xFFFF⟩ = true → 
    Does (.tilePassRequest f n req none first width) s (fun t =>
      t = { s.w with loom := { s.w.loom with delivered := some (req, s.w.tileFrameBytes f n req ⟨first, min width 4096, 0xFFFF⟩) } })) ∧
  (∀ (s : State) (f n req k : Nat) (first : Int) (width : Nat),
    s.w.loom.sensors ≠ [] → s.w.passReady f n (tileWindow s.w.groupBase k) = true → 
    Does (.tilePassRequest f n req (some k) first width) s (fun t =>
      t = { s.w with loom := { s.w.loom with delivered := some (req, s.w.tileFrameBytes f n req (tileWindow s.w.groupBase k)) } }))

/-- A band of a running job is published, a meeting unites two pieces, a neighbour's edges, DONE, accumulators and splits are taken, the timeout gives
up the due. BAND_PUBLISHED of a unit whose job has a further band that is ready, not its last: the job has one band more. MERGE_LINK of a level
that holds a meeting of two open pieces: the piece of the greater label is gone, and the meeting with it. MERGE_EDGES from a neighbouring side:
the band counts as received. MERGE_DONE: the line after the neighbour's DONE, or a later one, is on record. MERGE_ACCUM from the upper neighbour,
for piece numbers no open piece waits for and no split names: each stands on record. MERGE_SPLIT from the upper neighbour: its numbers count as
split; from the lower: no named piece still open is given to it, and each is marked split. SYS_MERGE_TIMEOUT after its time: every band the lower
neighbour owed counts as received. The model's own readings in it are log entry 52. -/
def Obligations.BandsArePublishedAndPiecesMerge : Prop :=
  (∀ (s : State) (u : Fin 1024) (j : Job),
    s.w.seg.jobs.find? (fun j => j.unit = some u.val) = some j → j.band + 1 < s.w.bandCount → s.w.bandReady j.frame j.tile j.field j.band = true → 
    Does (.bandPublished u) s (fun t =>
      (t.job? j.frame j.tile j.field).map Job.band = some (j.band + 1) ∧ t.mode = s.w.mode ∧ t.running (.unitBand u) = true)) ∧
  (∀ (s : State) (level : Fin 4) (m : Meet) (p q : Piece),
    s.w.seg.meets.find? (fun m => s.w.meetLevel m == level.val) = some m → s.w.piece? m.a = some p → s.w.piece? m.b = some q → m.a ≠ m.b → 
    Does (.mergeLink level) s (fun t =>
      (if p.label < q.label then t.piece? m.b else t.piece? m.a) = none ∧ t.seg.meets.length < s.w.seg.meets.length ∧ t.mode = s.w.mode)) ∧
  (∀ (s : State) (upper : Bool) (n f b : Nat) (es : List EdgeMsg),
    s.w.hasNeighbour upper = true → 
    Does (.mergeEdges upper n f b es) s (fun t =>
      (t.seamOf upper).bands.contains (n, f, b) = true ∧ ((s.w.seamOf upper).bands.contains (n, f, b) = false → ∀ e ∈ es, (t.seamOf upper).edges.any (fun x => x.1 == f && x.2.line == e.line) = true))) ∧
  (∀ (s : State) (upper : Bool) (f line : Nat),
    s.w.hasNeighbour upper = true → 
    Does (.mergeDone upper f line) s (fun t =>
      alGet (t.seamOf upper).done f = some (max (line + 1) ((alGet (s.w.seamOf upper).done f).getD 0)))) ∧
  (∀ (s : State) (ids : List Nat) (px : List Pix),
    s.w.hasNeighbour true = true → ∀ i ∈ ids, s.w.seg.upper.split.contains i = false ∧ ∀ p ∈ s.w.seg.pieces, p.foreign.contains i = false → 
    Does (.mergeAccum ids px) s (fun t =>
      ∀ i ∈ ids, t.seg.upper.accum.any (fun a => a.1 == i) = true)) ∧
  (∀ (s : State) (ids : List Nat),
    s.w.hasNeighbour true = true → 
    Does (.mergeSplit true ids) s (fun t =>
      t.seg.upper.split = s.w.seg.upper.split ++ ids)) ∧
  (∀ (s : State) (ids : List Nat),
    s.w.hasNeighbour false = true → 
    Does (.mergeSplit false ids) s (fun t =>
      ∀ p ∈ t.seg.pieces, ids.contains p.id = true → p.split = true ∧ p.given = false)) ∧
  (∀ (s : State),
    s.w.expired .sysMerge (s.w.getN Obj.sysMergeTimeout * 1000) = true → s.w.seamDue false = true → 
    Does (.sysMergeTimeout) s (fun t =>
      ∀ j ∈ s.w.seg.jobs, j.tile = s.w.edgeTile false → ∀ b < j.band, (t.seamOf false).bands.contains (j.frame, j.field, b) = true))

/-- A ready job and a batch of candidates go to free units, a job past its latest start is abandoned, a stalled unit is removed and its job replayed.
SEG_JOB_DISPATCH while jobs run: the first ready job that a unit can take, not past its latest start, runs on that unit from the last trigger on.
SEG_JOB_ABANDON of the first ready job past its latest start: SEG_LOST_JOBS counts it and PLACE_FLAGS bit 1 is set. CLASSIFY_BATCH_DISPATCH with
no job to dispatch: the head of the queue, candidates of one model pair, leaves the queue as the next batch on the lowest free unit whose cluster
classifies. UNIT_WATCHDOG_EXPIRY of a running unit whose next band could be published four budgeted times ago: the unit is out and lost capacity,
CL_CAUSE 2 and CL_REMOVALS of its cluster show it, an epoch is due at frame p+2, and the job waits for another unit as a replay. The model's own
readings in it are log entries 33, 53 and 54. -/
def Obligations.WorkIsPlacedOnUnits : Prop :=
  (∀ (s : State) (j : Job) (u k : Nat),
    s.w.pipeRuns = true → s.w.nextDispatch = some (j, u) → s.w.axis.last = some k → k ≤ s.w.latestStart j → 
    Does (.segJobDispatch) s (fun t =>
      (t.job? j.frame j.tile j.field).map Job.unit = some (some u) ∧ t.running (.unitBand u) = true ∧ s.w.only t [.seg, .timers] ∧ s.w.sameBut t [Obj.lateStarts, Obj.placeFlags] ∧ t.seg.pieces = s.w.seg.pieces)) ∧
  (∀ (s : State) (j : Job) (k : Nat),
    s.w.firstJob s.w.readyJobs = some j → s.w.axis.last = some k → s.w.latestStart j < k → 
    Does (.segJobAbandon) s (fun t =>
      t.get Obj.segLostJobs = min (s.w.get Obj.segLostJobs + 1) 0xFFFFFFFF ∧ bitOf (t.getN Obj.placeFlags) 1 = true ∧ t.mode = s.w.mode)) ∧
  (∀ (s : State) (limit : Nat) (c : Candidate) (cs : List Candidate) (u : Nat),
    s.w.batchHead limit = c :: cs → s.w.pipeRuns = true → s.w.nextDispatch = none → (s.w.unitsAt (s.w.frameOf c.last)).find? (fun u => s.w.unitFree u && s.w.valueAtN (Obj.clRole (u / 16)) (s.w.frameOf c.last) ≠ 1) = some u → 
    Does (.classifyBatchDispatch limit) s (fun t =>
      t.cls.batches = s.w.cls.batches ++ [⟨s.w.cls.nextBatch, some u, none, c :: cs⟩] ∧ t.cls.queue = s.w.cls.queue.drop (cs.length + 1) ∧ t.cls.nextBatch = s.w.cls.nextBatch + 1 ∧ s.w.only t [.cls])) ∧
  (∀ (s : State) (u : Fin 1024) (j : Job),
    s.w.seg.jobs.find? (fun j => j.unit = some u.val) = some j → s.w.expired (.unitBand u) (4 * 2112 * (s.w.bandLines j.field j.frame j.band).length * 1000 / s.w.valueAtN Obj.unitRate j.frame) = true → s.w.bandReady j.frame j.tile j.field j.band = true → 
    Does (.unitWatchdogExpiry u) s (fun t =>
      (t.job? j.frame j.tile j.field).map (fun x => (x.unit, x.replay, x.band)) = some (none, true, j.band) ∧ t.get (Obj.clCause (u / 16)) = 2 ∧ t.get (Obj.clRemovals (u / 16)) = min (s.w.get (Obj.clRemovals (u / 16)) + 1) 0xFFFFFFFF ∧
      t.run.capacity.contains (.unit u) = true ∧ t.place.epochs.contains (s.w.frame + 2) = true ∧ t.get Obj.replayedJobs = min (s.w.get Obj.replayedJobs + 1) 0xFFFFFFFF))

/-- CL_CMD releases and returns a cluster for frame p+2, the new placement takes effect at its frame, and a released cluster that is empty is out. For
every state in which a write over the path is ready: CL_CMD 1 on a cluster in operation with no other one releasing, released or in test is
journaled, answers CL_CMD_STATE 2 with CL_STATE 1 and CL_CAUSE 1, and an epoch is due at frame p+2. CL_CMD 2 on a cluster that is out and proved
answers CL_CMD_STATE 2 with CL_STATE 5 and an epoch at frame p+2. EPOCH_START at the first epoch's frame: EPOCH counts modulo 2^32, EPOCH_FRAME
names the frame, the epoch is no longer pending. RELEASE_SLOT_MOVE of a releasing cluster with no job, no slot and no service left: CL_STATE 2 and
SP_STATE 4. The model's own readings in it are log entry 55. -/
def Obligations.ClustersLeaveAndReturn : Prop :=
  (∀ (s : State) (path : Path) (c : Fin 64),
    s.w.ready path = true → ∀ d : Fin 64, d ≠ c → s.w.getN (Obj.clState d) ≠ 1 ∧ s.w.getN (Obj.clState d) ≠ 2 ∧ s.w.getN (Obj.clState d) ≠ 4 → s.w.getN (Obj.clState c) = 0 → 
    Does (.clRelease path c) s (fun t =>
      s.w.obeys t path (Obj.clCmd c) 1 [.place] [Obj.clState c, Obj.clCause c, Obj.clCmdState c, Obj.pendingFrame] ∧ t.get (Obj.clState c) = 1 ∧ t.get (Obj.clCause c) = 1 ∧ t.get (Obj.clCmdState c) = 2 ∧ t.place.epochs.contains (s.w.frame + 2) = true ∧
      t.place.clus = upd s.w.place.clus c (fun k => { k with released := some (s.w.frame + 2), service := (s.w.frame + 2, false) :: k.service, tested := false }))) ∧
  (∀ (s : State) (path : Path) (c : Fin 64),
    s.w.ready path = true → s.w.getN (Obj.clState c) = 2 ∨ s.w.getN (Obj.clState c) = 3 → (s.w.clus c).faultAt ≠ some s.w.frame → (s.w.clus c).faulted = true → (s.w.clus c).tested = true → (s.w.clus c).faulted = false → (s.w.clus c).failed = false → s.w.getN (Obj.spState c) ≠ 5 → 
    Does (.clReturn path c) s (fun t =>
      s.w.obeys t path (Obj.clCmd c) 2 [.place] [Obj.clState c, Obj.clCause c, Obj.clCmdState c, Obj.pendingFrame] ∧ t.get (Obj.clState c) = 5 ∧ t.get (Obj.clCmdState c) = 2 ∧ t.place.epochs.contains (s.w.frame + 2) = true ∧
      t.place.clus = upd s.w.place.clus c (fun k => { k with returnAt := some (s.w.frame + 2), faultAt := none, service := (s.w.frame + 2, true) :: k.service }))) ∧
  (∀ (s : State) (e : Nat) (rest : List Nat),
    s.w.place.epochs = e :: rest → e ≤ s.w.frame → 
    Does (.epochStart) s (fun t =>
      t.place.epochs = rest ∧ t.get Obj.epoch = (s.w.get Obj.epoch + 1) % 2 ^ 32 ∧ t.get Obj.epochFrame = e ∧ t.get Obj.pendingFrame = Int.ofNat (rest.headD noFrame) ∧ t.mode = s.w.mode)) ∧
  (∀ (s : State) (c : Fin 64),
    s.w.getN (Obj.clState c) = 1 → s.w.seg.jobs.any (fun j => j.unit.isSome && j.cluster == c.val) = false → s.w.openIn c = 0 → s.w.inService c s.w.frame = false → 
    Does (.releaseSlotMove c) s (fun t =>
      t = (s.w.set (Obj.clState c) 2).set (Obj.spState c) 4))

/-- A batch is classified, a model image is checked and comes into force, the next record is numbered, delivered, counted lost, a crop is cut, a frame
is done. CLASSIFY_BATCH_DONE with the sweep past what its candidates need: the batch is gone from the units, the queue is as it was, and each of
its candidates without the marks of an AREA candidate or a poisoned word counts in CLASSIFIED. For every state in which a write over the path is
ready: MODEL_IMAGE that passes its checks is journaled and pends for frame p+1 in its slot. MODEL_TAKES_EFFECT at that frame: MODEL_STATE 1,
MODEL_FRAME none, MODEL_MACS the image's. LEDGER_NUMBER outside SHADOW of a record that is not suppressed: it leaves the records that wait,
LEDGER_HWM rises by one, and its bytes stand newest in the Ledger window under that number. LEDGER_DELIVER to an enabled ring with a free slot:
LR_DELIVERED is the record's number and PI rises by one. RECORDS_LOST of a ring with a loss, enabled, with a free slot, in a mode whose Ledger
takes it: the loss is handed to the Ledger as one coverage record for that ring and is forgotten. CROP_CUT_DONE of a crop whose lines are swept:
it leaves the queue and counts in CROPS_CUT, or in CROPS_LOST with LEDGER_FLAGS bit 1 when a line is gone. FRAME_DONE of a settled frame: the
frame is done. The model's own readings in it are log entries 60 to 62. -/
def Obligations.CandidatesModelsAndRecordsFlow : Prop :=
  (∀ (s : State) (id : Nat) (room : Fin 16385) (b : Batch),
    s.w.cls.batches.find? (fun b => b.id == id && b.unit.isSome) = some b → b.cands.all s.w.netReady = true → b.cands ≠ [] → 
    Does (.classifyBatchDone id room) s (fun t =>
      t.cls.batches = s.w.cls.batches.filter (fun x => x.id ≠ id) ∧ t.cls.queue = s.w.cls.queue ∧ s.w.only t [.cls, .ledger] ∧
      ((∀ c ∈ b.cands, c.flags &&& dfUnclassified = 0 ∧ c.isArea = false) → t.get Obj.classified = min (s.w.get Obj.classified + b.cands.length) 0xFFFFFFFFFFFFFFFF))) ∧
  (∀ (s : State) (path : Path) (m : Fin 8) (b : Bytes),
    s.w.ready path = true → modelCheck m s.nv s.w b = none → 160 ≤ b.length → b.length ≤ 33554432 → 
    Does (.modelImageWrite path m b) s (fun t =>
      t.journal.head = s.w.journal.head + 1 ∧ t.cls = { s.w.cls with slots := upd s.w.cls.slots m (fun x => { x with images := (s.w.frame + 1, b) :: x.images.filter (fun x => decide (x.1 < s.w.frame + 1)) }) } ∧ s.w.only t [.journal, .lastRes, .cls, .blobs, .changes])) ∧
  (∀ (s : State) (m : Fin 8) (e : Nat × Bytes) (rest : List (Nat × Bytes)),
    (nth {} s.w.cls.slots m).images = e :: rest → s.w.get (Obj.modelFrame m) = e.1 → e.1 ≤ s.w.frame → 
    Does (.modelTakesEffect m) s (fun t =>
      t.get (Obj.modelState m) = 1 ∧ t.get (Obj.modelFrame m) = noFrame ∧ t.get (Obj.modelMacs m) = mdMacs e.2 ∧ t.modelAt m s.w.frame = some e.2 ∧ s.w.only t [.cls, .ledger, .blobs])) ∧
  (∀ (s : State) (x : Incoming) (rest : List Incoming),
    nextIncoming s.w.ledger.incoming = some (x, rest) → s.w.mode ≠ .shadow → x.only = none → s.w.suppressed x.body = false → 
    Does (.ledgerNumber) s (fun t =>
      t.get Obj.ledgerHwm = Int.ofNat (s.w.getN Obj.ledgerHwm + 1) ∧ t.ledger.incoming = rest ∧ (alGet t.ledger.window ((s.w.getN Obj.ledgerHwm + 1) % 65536)).isSome = true ∧ t.mode = s.w.mode)) ∧
  (∀ (s : State) (q : Fin 4) (x : Staged),
    s.w.ledger.staged.find? (fun x => x.rings.contains q.val) = some x → s.w.mode ≠ .shadow → (s.w.ring q).enabled = true → s.w.ringFree q ≠ 0 → 
    Does (.ledgerDeliver q) s (fun t =>
      t.get (Obj.lrDelivered q) = x.seq ∧ (t.ring q).pi = (s.w.ring q).pi + 1 ∧ s.w.only t [.host, .ledger, .timers, .sent])) ∧
  (∀ (s : State) (q : Fin 4),
    (nth {} s.w.ledger.losses q).count ≠ 0 → (s.w.ring q).enabled = true → s.w.ringFree q ≠ 0 → s.w.mode.inspecting = true → 
    Does (.recordsLost q) s (fun t =>
      t.ledger.losses = upd s.w.ledger.losses q (fun _ => {}) ∧ t.ledger.incoming.length = s.w.ledger.incoming.length + 1 ∧ s.w.only t [.ledger] ∧ s.w.sameBut t [] ∧
      (∀ x ∈ t.ledger.incoming.getLast?, x.only = some q.val ∧ x.body.order.1 = 0))) ∧
  (∀ (s : State) (c : CropReq) (rest : List CropReq),
    s.w.cls.crops = c :: rest → ∀ x ∈ s.w.sweepAt, (s.w.cropLines c).foldl max 0 < x → 
    Does (.cropCutDone) s (fun t =>
      t.cls.crops = rest ∧ t.get Obj.cropQueueUsed = rest.length ∧ s.w.only t [.cls, .host, .timers, .sent] ∧
      (if (s.w.cropLines c).any (fun l => s.w.lineLost c.field l ⟨c.col0, c.width, 0xFFFF⟩) = true then t.get Obj.cropsLost = min (s.w.get Obj.cropsLost + 1) 0xFFFFFFFFFFFFFFFF ∧ t.get Obj.ledgerFlags = Int.ofNat (s.w.getN Obj.ledgerFlags ||| 2)
        else t.get Obj.cropsCut = min (s.w.get Obj.cropsCut + 1) 0xFFFFFFFFFFFFFFFF))) ∧
  (∀ (s : State) (n : Nat),
    s.w.nextFrameDone s.w.frame = some n → s.w.frameSettled n = true → s.w.mode.inspecting = true → 
    Does (.frameDone) s (fun t =>
      t.ledger.done = n ∧ s.w.only t [.ledger] ∧ s.w.sameBut t [] ∧ t.ledger.incoming.length = s.w.ledger.incoming.length + (if s.w.valueAt Obj.frameDoneEn n = 1 then 1 else 0)))

/-- A frame's statistics go to readout and to their ring, an exposure write begins a generation at frame p+2, the generation advances, a fault counts.
STAT_FRAME_COMPLETE when the last line of the field in the oldest bank's frame has been published: the bank is in readout and leaves the banks;
with readout not finished ST_OVERRUN counts it and ST_FLAGS bit 1 is set. STAT_RECORD_DELIVERED outside SHADOW with the statistics ring enabled
and a slot free: the record is in the ring, ST_DELIVERED counts it and nothing is in readout. For every state in which a write over the path is
ready, after the first commit: EXPOSURE and CAM_GAIN are journaled with their value and begin one new generation for frame p+2. EXP_GEN_ADVANCE at
the frame of the newest generation: EXP_GEN is it, none pends. EXP_FAULT after 200 ms without an answer: EXP_FAULTS counts, EXP_FLAGS bit 0 is
set, the set is to be resent. The model's own readings in it are log entry 78. -/
def Obligations.StatisticsAndExposureAdvance : Prop :=
  (∀ (s : State) (p : Fin 32) (f : Fin 8) (k : StatBank) (rest : List StatBank),
    (s.w.statOf p f).banks = k :: rest → s.w.statDone p f k.frame = true → 
    Does (.statFrameComplete p f) s (fun t =>
      t.stats = upd s.w.stats (8 * p + f) (fun x => { x with banks := rest, readout := some k, lost := x.lost + (if (s.w.statOf p f).readout.isSome then 1 else 0) }) ∧ s.w.only t [.stats] ∧ s.w.sameBut t [Obj.stOverrun, Obj.stFlags] ∧
      ((s.w.statOf p f).readout ≠ none → t.get Obj.stOverrun = min (s.w.get Obj.stOverrun + 1) 0xFFFFFFFF ∧ t.get Obj.stFlags = Int.ofNat (s.w.getN Obj.stFlags ||| 2)))) ∧
  (∀ (s : State) (p : Fin 32) (f : Fin 8) (k : StatBank),
    (s.w.statOf p f).readout = some k → s.w.mode ≠ .shadow → (s.w.ring 4).enabled = true → s.w.ringFree 4 ≠ 0 → 
    Does (.statRecordDelivered p f) s (fun t =>
      t.stats = upd s.w.stats (8 * p + f) (fun x => { x with readout := none, lost := 0 }) ∧ (t.ring 4).pi = (s.w.ring 4).pi + 1 ∧ t.get Obj.stDelivered = min (s.w.get Obj.stDelivered + 1) 0xFFFFFFFFFFFFFFFF ∧
      s.w.only t [.stats, .host, .timers, .sent, .router] ∧ s.w.sameBut t [Obj.stDelivered, raisedKey 7])) ∧
  (∀ (s : State) (path : Path) (p : Fin 32) (f : Fin 8) (v : Int),
    s.w.ready path = true → 0 ≤ v → v < 2 ^ 32 → s.w.getN Obj.configGen ≠ 0 → (s.w.port p).exp.gens.any (fun g => g.1 == s.w.frame + 2) = false → 
    Does (.exposureWrite path p f v) s (fun t =>
      s.w.obeys t path (Obj.exposure p f) v.toNat [.ports, .changes] [Obj.exposure p f, Obj.expPendingGen p, Obj.expPendingFrame p] ∧ t.get (Obj.exposure p f) = v ∧ t.get (Obj.expPendingFrame p) = s.w.frame + 2 ∧
      t.get (Obj.expPendingGen p) = ((s.w.expGenAt p (s.w.frame + 2) + 1) % 2 ^ 32 : Nat))) ∧
  (∀ (s : State) (path : Path) (p : Fin 32) (f : Fin 8) (v : Int),
    s.w.ready path = true → 0 ≤ v → v < 2 ^ 32 → s.w.getN Obj.configGen ≠ 0 → (s.w.port p).exp.gens.any (fun g => g.1 == s.w.frame + 2) = false → 
    Does (.camGainWrite path p f v) s (fun t =>
      s.w.obeys t path (Obj.camGain p f) v.toNat [.ports, .changes] [Obj.camGain p f, Obj.expPendingGen p, Obj.expPendingFrame p] ∧ t.get (Obj.camGain p f) = v ∧ t.get (Obj.expPendingFrame p) = s.w.frame + 2 ∧
      t.get (Obj.expPendingGen p) = ((s.w.expGenAt p (s.w.frame + 2) + 1) % 2 ^ 32 : Nat))) ∧
  (∀ (s : State) (p : Fin 32) (g : Nat × Nat) (rest : List (Nat × Nat)),
    (s.w.port p).exp.gens = g :: rest → g.1 ≤ s.w.frame → s.w.getN (Obj.expPendingFrame p) ≤ s.w.frame → s.w.frame < noFrame → 
    Does (.expGenAdvance p) s (fun t =>
      t = (((s.w.set (Obj.expGen p) (g.2 : Int)).set (Obj.expPendingGen p) (g.2 : Int)).set (Obj.expPendingFrame p) noFrame))) ∧
  (∀ (s : State) (p : Fin 32),
    s.w.expired (.expWrite p) 200000000 = true → (s.w.port p).expWait = false → (s.w.port p).passWait = none → 
    Does (.expFault p) s (fun t =>
      t.get (Obj.expFaults p) = min (s.w.get (Obj.expFaults p) + 1) 0xFFFFFFFF ∧ t.get (Obj.expFlags p) = Int.ofNat (s.w.getN (Obj.expFlags p) ||| 1) ∧
      t.ports = upd s.w.ports p (fun q => { q with txn := none, exp := { q.exp with resend := true } }) ∧ s.w.only t [.ports, .timers] ∧ s.w.sameBut t [Obj.expFaults p, Obj.expFlags p]))

/-- A stream record leaves by its destination, chains are reset at their frame, an engine takes, stalls, completes and aborts a member.
STREAM_RECORD_HANDOFF: the oldest closed record of the stream leaves; with DEST 1 in force for its frame it takes the next slot of its ring when
the ring is enabled, a slot is free and it fits, and nothing counts as lost before the next; a record that does not fit its slot, or finds no
slot, is dropped whole and counted in STREAM_DROPPED. For every state in which a write over the path is ready: STREAM_SYNC_CMD and MON_SYNC_CMD
are journaled and ask for a synchronising reset at frame p+1. SYNC_RESET before the first line of a frame n is swept: every stream whose reset is
due begins its chain again and SYNC_FRAME is n. COMP_ENGINE_TAKE with an idle engine, not throttled, and a record that has its ring slot: the
lowest idle engine holds the head of the queue. COMP_STALL_END: ENG_STALL_CLOCKS counts the clocks and the engine runs on or stalls again.
COMP_MEMBER_DONE of a member that fits: the engine is idle and COMP_IN_BYTES counts the body. ENGINE_ABORT of a busy engine is journaled; the
engine is idle, ABORTS and the stream's STREAM_DROPPED count it. Nothing else changes. The model's own readings in it are log entry 63. -/
def Obligations.StreamRecordsFlowAndCompress : Prop :=
  (∀ (s : State) (q : Fin 8) (room : Bool) (c : ClosedRec) (rest : List ClosedRec),
    (s.w.stream q).ready = c :: rest → c.stream = q → s.w.valueAtN (Obj.dest q) c.frame = 1 → 
    Does (.streamRecordHandoff q room) s (fun t =>
      (t.stream q).ready = rest ∧ s.w.only t [.streams, .host, .timers, .sent] ∧
      (if s.w.getN (Obj.srSlotSize q) < 64 + c.raw.length ∨ (s.w.ring (5 + q)).enabled = false ∨ s.w.ringFree (5 + q) = 0 then t.get (Obj.streamDropped q) = min (s.w.get (Obj.streamDropped q) + 1) 0xFFFFFFFFFFFFFFFF ∧ (t.stream q).lost = (s.w.stream q).lost + 1 ∧ s.w.only t [.streams]
        else (t.ring (5 + q)).pi = (s.w.ring (5 + q)).pi + 1 ∧ (t.stream q).lost = 0 ∧ s.w.sameBut t []))) ∧
  (∀ (s : State) (path : Path) (q : Fin 8),
    s.w.ready path = true → 
    Does (.streamSyncCmd path q) s (fun t =>
      s.w.obeys t path (Obj.stSync q) 1 [.streams] [] ∧ t.streams = { s.w.streams with st := upd s.w.streams.st q (fun x => { x with syncAt := (s.w.frame + 1) :: x.syncAt }) })) ∧
  (∀ (s : State) (path : Path) (m : Fin 64),
    s.w.ready path = true → 
    Does (.monSyncCmd path m) s (fun t =>
      s.w.obeys t path (Obj.monSync m) 1 [.streams] [] ∧ t.streams = { s.w.streams with mons := upd s.w.streams.mons m (fun x => { x with syncAt := (s.w.frame + 1) :: x.syncAt }) })) ∧
  (∀ (s : State) (q : Fin 8) (l : Nat),
    s.w.sweepAt = some l → l % s.w.frameLen = 0 → s.w.streamSyncDue q (s.w.frameOf l) = true → 
    Does (.syncReset) s (fun t =>
      t.get (Obj.syncFrame q) = s.w.frameOf l ∧ s.w.only t [.streams] ∧ s.w.sameBut t ((upTo 8).map Obj.syncFrame ++ (upTo 64).map Obj.monState) ∧
      (s.w.get (Obj.syncFrame q) ≠ s.w.frameOf l → (t.stream q).count = 0 ∧ (t.stream q).inputs = []))) ∧
  (∀ (s : State) (stalls : Bool) (c : ClosedRec) (rest : List ClosedRec) (e : Fin 4),
    s.w.streams.queue = c :: rest → (upTo 4).find? (fun e => (nth {} s.w.streams.engines e).held.isNone) = some e.val → s.w.throttledAt s.w.frame = false → s.w.valueAtN (Obj.dest c.stream) c.frame = 1 → (s.w.ring (5 + c.stream)).enabled = true ∧ s.w.slotsHeld c.stream < s.w.ringFree (5 + c.stream) → 
    Does (.compEngineTake stalls) s (fun t =>
      t.streams = { s.w.streams with queue := rest, engines := upd s.w.streams.engines e (fun _ => ⟨some c, stalls⟩) } ∧ t.get Obj.compQueueUsed = rest.length ∧ s.w.only t [.streams] ∧ s.w.sameBut t [Obj.engineState e, Obj.engineStream e, Obj.enginesBusy, Obj.compQueueUsed])) ∧
  (∀ (s : State) (e : Fin 4) (clocks : Nat) (again : Bool),
    (nth {} s.w.streams.engines e).held ≠ none → (nth {} s.w.streams.engines e).stalled = true → 
    Does (.compStallEnd e clocks again) s (fun t =>
      t.get (Obj.engStallClocks e) = min (s.w.get (Obj.engStallClocks e) + clocks) 0xFFFFFFFFFFFFFFFF ∧ t.get (Obj.engineState e) = (if again then 2 else 1) ∧
      t.streams = { s.w.streams with engines := upd s.w.streams.engines e (fun g => { g with stalled := again }) } ∧ s.w.only t [.streams] ∧ s.w.sameBut t [Obj.engineState e, Obj.engineStream e, Obj.enginesBusy, Obj.engStallClocks e])) ∧
  (∀ (s : State) (e : Fin 4) (room : Bool) (c : ClosedRec),
    nth {} s.w.streams.engines e = ⟨some c, false⟩ → (s.w.valueAtN (Obj.dest c.stream) c.frame = 1 && decide (s.w.getN (Obj.srSlotSize c.stream) < 64 + (gzipMember c.raw).1.length)) = false → 
    Does (.compMemberDone e room) s (fun t =>
      t.streams.engines = upd s.w.streams.engines e (fun _ => {}) ∧ t.get (Obj.engineState e) = 0 ∧ t.get Obj.compInBytes = min (s.w.get Obj.compInBytes + c.raw.length) 0xFFFFFFFFFFFFFFFF ∧
      t.get Obj.compOutBytes = min (s.w.get Obj.compOutBytes + (gzipMember c.raw).1.length) 0xFFFFFFFFFFFFFFFF ∧ t.streams.queue = s.w.streams.queue ∧ s.w.only t [.streams, .host, .timers, .sent])) ∧
  (∀ (s : State) (path : Path) (e : Fin 4) (c : ClosedRec),
    s.w.ready path = true → (nth {} s.w.streams.engines e).held = some c → c.stream < 8 → 
    Does (.engineAbort path e) s (fun t =>
      s.w.obeys t path (Obj.engineCmd e) 1 [.streams] (Obj.aborts e :: Obj.streamDropped c.stream :: Obj.streamFlags c.stream :: [Obj.engineState e, Obj.engineStream e, Obj.enginesBusy]) ∧
      t.streams.engines = upd s.w.streams.engines e (fun _ => {}) ∧ t.get (Obj.aborts e) = min (s.w.get (Obj.aborts e) + 1) 0xFFFFFFFF ∧ t.get (Obj.streamDropped c.stream) = min (s.w.get (Obj.streamDropped c.stream) + 1) 0xFFFFFFFFFFFFFFFF))

/-- AX_CMD 1 to 6 and GROUP_CMD 1 and 2, when accepted, are journaled and act on the axis at once. For every state in which a write over the path is
ready: AX_CMD 3 stops the axis without ramp, empties its queue and sets HALTED; AX_CMD 4, in a mode in which axes run and outside fault, drives
AXa_EN_N low and clears AXa_SHORT; AX_CMD 5 outside fault halts, disables, and sets AXa_SHORT by the group policy; AX_CMD 6 with the fault input
high takes an axis in fault to AX_STATE 0; AX_CMD 1 replaces the present move of a running axis that cannot stop within a step by a braking at
that move's MV_DECEL, and AX_CMD 2 by one at QSTOP_DECEL, with the rest of the queue emptied and AX_STATE 4; GROUP_CMD 1 and 2 do the same on each
axis of the group. Each write is journaled with its code, and nothing changes but the axis, its timers, its status objects and the events it
raises. The model's own readings in it are log entry 49. -/
def Obligations.AxisCommandsActAtOnce : Prop :=
  (∀ (s : State) (p : Path) (a : Fin 16),
    s.w.ready p = true → 
    Does (.axisHalt p a) s (fun t =>
      s.w.obeys t p (Obj.axCmd a) 3 [.axes, .timers, .router] [Obj.axFlags a, Obj.axState a, Obj.velocity a, Obj.movesQueued a, raisedKey (88 + a)] ∧
      t.axes = upd s.w.axes a (fun x => { x with queue := [], running := false, v := 0, due := none, home := 0 }) ∧
      t.get (Obj.axFlags a) = Int.ofNat (s.w.getN (Obj.axFlags a) ||| 1) ∧ t.get (Obj.velocity a) = 0)) ∧
  (∀ (s : State) (p : Path) (a : Fin 16),
    s.w.ready p = true → s.w.mode.axesRun = true → s.w.get (Obj.axState a) ≠ 5 → 
    Does (.axisEnable p a) s (fun t =>
      s.w.obeys t p (Obj.axCmd a) 4 [.axes, .timers] [Obj.axState a] ∧
      (∀ b : Fin 16, b ≠ a → t.ax b = s.w.ax b) ∧ ((a : Nat) < s.w.axes.length → (t.ax a).enabled = true ∧ (t.ax a).shorted = false ∧ (t.ax a).p0 = s.w.axPos a) ∧
      (s.w.get (Obj.axState a) = 0 → t.get (Obj.axState a) = 1))) ∧
  (∀ (s : State) (p : Path) (a : Fin 16),
    s.w.ready p = true → s.w.get (Obj.axState a) ≠ 5 → 
    Does (.axisDisable p a) s (fun t =>
      s.w.obeys t p (Obj.axCmd a) 5 [.axes, .timers, .router] [Obj.axFlags a, Obj.axState a, Obj.velocity a, Obj.movesQueued a, raisedKey (88 + a)] ∧ t.get (Obj.axState a) = 0 ∧
      t.axes = upd s.w.axes a (fun x => { x with queue := [], running := false, v := 0, due := none, home := 0, enabled := false, cr := false, shorted := decide (s.w.get (Obj.groupPolicy (a / 4)) = 1) }))) ∧
  (∀ (s : State) (p : Path) (a : Fin 16),
    s.w.ready p = true → s.w.get (Obj.axState a) = 5 → 
    Does (.axisClearFault p a true) s (fun t =>
      s.w.obeys t p (Obj.axCmd a) 6 [.axes] [Obj.axState a] ∧ t.get (Obj.axState a) = 0 ∧
      t.axes = upd s.w.axes a (fun x => { x with faultLow := false }))) ∧
  (∀ (s : State) (p : Path) (a : Fin 16) (m : Move) (rest : List Move),
    s.w.ready p = true → (s.w.ax a).queue = m :: rest → (s.w.ax a).running = true → 0 < brakeSteps (s.w.ax a).v m.decel → 
    Does (.axisStop p a) s (fun t =>
      s.w.obeys t p (Obj.axCmd a) 1 [.axes] [Obj.axState a, Obj.movesQueued a] ∧ t.get (Obj.axState a) = 4 ∧
      t.axes = upd s.w.axes a (fun x => { x with queue := [{ kind := 0, target := s.w.axPos a + (s.w.ax a).dir * (brakeSteps (s.w.ax a).v m.decel : Int), vmax := (s.w.ax a).v / 65536, accel := 1, decel := m.decel, sync := false, goal := some (s.w.axPos a + (s.w.ax a).dir * (brakeSteps (s.w.ax a).v m.decel : Int)) }], home := 0 }))) ∧
  (∀ (s : State) (p : Path) (a : Fin 16),
    s.w.ready p = true → (s.w.ax a).queue ≠ [] → (s.w.ax a).running = true → 0 < brakeSteps (s.w.ax a).v (s.w.getN (Obj.qstopDecel a)) → 
    Does (.axisQuickStop p a) s (fun t =>
      s.w.obeys t p (Obj.axCmd a) 2 [.axes] [Obj.axState a, Obj.movesQueued a] ∧ t.get (Obj.axState a) = 4 ∧
      t.axes = upd s.w.axes a (fun x => { x with queue := [{ kind := 0, target := s.w.axPos a + (s.w.ax a).dir * (brakeSteps (s.w.ax a).v (s.w.getN (Obj.qstopDecel a)) : Int), vmax := (s.w.ax a).v / 65536, accel := 1, decel := (s.w.getN (Obj.qstopDecel a)), sync := false, goal := some (s.w.axPos a + (s.w.ax a).dir * (brakeSteps (s.w.ax a).v (s.w.getN (Obj.qstopDecel a)) : Int)) }], home := 0 }))) ∧
  (∀ (s : State) (p : Path) (g : Fin 4),
    s.w.ready p = true → 
    Does (.groupStop p g) s (fun t =>
      s.w.journals t p (Obj.groupCmd g) 1 ∧ s.w.only t [.journal, .lastRes, .axes, .timers, .router] ∧
      ∀ i : Fin 4, (s.w.ax (4 * g + i)).running = true → 0 < brakeSteps (s.w.ax (4 * g + i)).v (((s.w.ax (4 * g + i)).queue.head?.map Move.decel).getD 0) →
        t.get (Obj.axState (4 * g + i)) = 4)) ∧
  (∀ (s : State) (p : Path) (g : Fin 4),
    s.w.ready p = true → 
    Does (.groupQuickStop p g) s (fun t =>
      s.w.journals t p (Obj.groupCmd g) 2 ∧ s.w.only t [.journal, .lastRes, .axes, .timers, .router] ∧
      ∀ i : Fin 4, (s.w.ax (4 * g + i)).queue ≠ [] → (s.w.ax (4 * g + i)).running = true →
        0 < brakeSteps (s.w.ax (4 * g + i)).v (s.w.getN (Obj.qstopDecel (4 * g + i))) → t.get (Obj.axState (4 * g + i)) = 4))

/-- MV_PUSH queues a move behind the running one, turns a move away from a full queue, and an axis at rest starts its move. For every state in which a
write over the path is ready and axes run, and an enabled axis outside fault: with 32 moves queued, MV_PUSH answers MV_RESULT 3, sets QUEUE_FULL
and leaves the queue. With room and the move admitted (an absolute move only when homed, no target beyond a binding soft limit), behind a running
move that is no velocity move, MV_PUSH answers MV_RESULT 1 and puts the move of the six MV objects at the end of the queue. When CR_WAKE has
passed (CR_WAKE_END) an axis at rest that holds one absolute move to another position runs, in AX_STATE 2. When every enabled axis of a group that
has a MV_SYNC move queued holds it at its head, at rest and awake, AXIS_SYNC_START starts each of them that holds one absolute move to another
position. The model's own readings in it are log entries 44 and 49. -/
def Obligations.MovesArePushedAndStarted : Prop :=
  (∀ (s : State) (p : Path) (a : Fin 16),
    s.w.ready p = true → s.w.mode.axesRun = true → (s.w.ax a).enabled = true → s.w.get (Obj.axState a) ≠ 5 → 32 ≤ (s.w.ax a).queue.length → 
    Does (.mvPush p a) s (fun t =>
      s.w.obeys t p (Obj.mvPush a) 1 [] [Obj.mvResult a, Obj.axFlags a] ∧ t.get (Obj.mvResult a) = 3 ∧ t.get (Obj.axFlags a) = Int.ofNat (s.w.getN (Obj.axFlags a) ||| 64))) ∧
  (∀ (s : State) (p : Path) (a : Fin 16) (h : Move) (rest : List Move),
    s.w.ready p = true → s.w.mode.axesRun = true → (s.w.ax a).enabled = true → s.w.get (Obj.axState a) ≠ 5 → (s.w.ax a).queue = h :: rest → rest.length < 31 → (s.w.ax a).running = true → h.kind ≠ 3 → s.w.getN (Obj.mvKind a) = 1 ∧ s.w.axHomed a = true ∧ s.w.beyondSoft a (s.w.get (Obj.mvTarget a)) = false → 
    Does (.mvPush p a) s (fun t =>
      s.w.obeys t p (Obj.mvPush a) 1 [.axes] [Obj.mvResult a, Obj.movesQueued a] ∧ t.get (Obj.mvResult a) = 1 ∧ t.get (Obj.movesQueued a) = rest.length + 2 ∧
      t.axes = upd s.w.axes a (fun x => { x with queue := x.queue ++ [{ s.w.moveOf a with goal := some (s.w.get (Obj.mvTarget a)) }] }))) ∧
  (∀ (s : State) (a : Fin 16),
    s.w.expired (.crWake a) (s.w.getN (Obj.crWake a) * 1000) = true → s.w.startable a = true → ∀ m ∈ (s.w.ax a).queue, m.sync = false → 
    Does (.crWakeEnd a) s (fun t =>
      (t.ax a).running = true ∧ t.get (Obj.axState a) = 2 ∧ t.running (.crWake a) = false ∧ (∀ b : Fin 16, b ≠ a → t.ax b = s.w.ax b) ∧
      s.w.only t [.axes, .timers] ∧ s.w.sameBut t [Obj.axState a, Obj.velocity a, Obj.movesQueued a])) ∧
  (∀ (s : State) (g : Fin 4),
    s.w.mode.axesRun = true → s.w.syncAxes g ≠ [] → ∀ a ∈ s.w.syncAxes g, s.w.startable a = true ∧ s.w.running (.crWake a) = false → 
    Does (.axisSyncStart g) s (fun t =>
      (∀ a ∈ s.w.syncAxes g, (t.ax a).running = true ∧ t.get (Obj.axState a) = 2) ∧ s.w.only t [.axes, .timers]))

/-- A step moves POSITION by one, a soft limit, a stall and a driver fault halt the axis, a stall while homing sets POSITION, and AXa_CR rises at
standstill. AXIS_STEP, when the step timer of a running axis has expired in a mode in which axes run, outside the search phase of a homing move:
POSITION changes by one in the direction of the move when the next step does not pass a binding soft limit, and otherwise (no homing move; no
calibration traverses with the axis) LIMIT and HALTED are set, POSITION stays and the queue empties. AXIS_STALL by AXa_STALL_N low on an enabled
axis without feedback beyond STALL_BLANK: outside homing (no calibration traverses with the axis) STALL and HALTED are set, STALLS counts and the
queue empties; in the search phase of homing POSITION takes HOME_POS. DRV_FAULT sets DRV_FAULT and HALTED and leaves AX_STATE 5 with the axis
disabled. HOME_FAIL, after HOME_MAX_TRAVEL steps of search, sets HOME_FAIL and clears HOMED. STANDSTILL_TIMEOUT, after STANDSTILL_DELAY at rest
with an empty queue, raises AXa_CR. The model's own readings in it are log entries 30, 49 and 50. -/
def Obligations.AxisEventsTakeEffect : Prop :=
  (∀ (s : State) (a : Fin 16) (d : Nat) (m : Move) (rest : List Move),
    (s.w.ax a).due = some d → d ≤ s.w.clk.ctl → (s.w.ax a).running = true → s.w.mode.axesRun = true → (s.w.ax a).queue = m :: rest → (s.w.ax a).home ≠ 1 → m.kind = 4 ∨ s.w.beyondSoft a (s.w.axPos a + (s.w.ax a).dir) = false → 
    Does (.axisStep a) s (fun t =>
      t.axPos a = s.w.axPos a + (s.w.ax a).dir ∧ s.w.only t [.axes, .timers, .router] ∧ (∀ b : Fin 16, b ≠ a → t.ax b = s.w.ax b))) ∧
  (∀ (s : State) (a : Fin 16) (d : Nat) (m : Move) (rest : List Move),
    (s.w.ax a).due = some d → d ≤ s.w.clk.ctl → (s.w.ax a).running = true → s.w.mode.axesRun = true → (s.w.ax a).queue = m :: rest → (s.w.ax a).home ≠ 1 → m.kind ≠ 4 → s.w.beyondSoft a (s.w.axPos a + (s.w.ax a).dir) = true → s.w.notTraverse a = true → 
    Does (.axisStep a) s (fun t =>
      t.axPos a = s.w.axPos a ∧ t.get (Obj.axFlags a) = Int.ofNat (s.w.getN (Obj.axFlags a) ||| 2 ||| 1) ∧ (t.ax a).queue = [] ∧ (t.ax a).running = false ∧
      s.w.only t [.axes, .timers, .router])) ∧
  (∀ (s : State) (a : Fin 16),
    s.w.get (Obj.stallSource a) = 0 → s.w.feedback a = false → (s.w.ax a).enabled = true → s.w.mode.axesRun = true → s.w.getN (Obj.stallBlank a) < (s.w.ax a).since → (s.w.ax a).home = 0 → s.w.notTraverse a = true → 
    Does (.axisStall a true) s (fun t =>
      t.get (Obj.axFlags a) = Int.ofNat (s.w.getN (Obj.axFlags a) ||| 8 ||| 1) ∧ t.get (Obj.stalls a) = min (s.w.get (Obj.stalls a) + 1) 0xFFFFFFFF ∧ (t.ax a).queue = [] ∧
      (t.ax a).running = false ∧ t.axPos a = s.w.axPos a ∧ s.w.only t [.axes, .timers, .router])) ∧
  (∀ (s : State) (a : Fin 16),
    s.w.get (Obj.stallSource a) = 0 → s.w.feedback a = false → (s.w.ax a).enabled = true → s.w.mode.axesRun = true → s.w.getN (Obj.stallBlank a) < (s.w.ax a).since → (s.w.ax a).home = 1 → 
    Does (.axisStall a true) s (fun t =>
      t.axPos a = s.w.get (Obj.homePos a) ∧ s.w.only t [.axes, .timers, .router])) ∧
  (∀ (s : State) (a : Fin 16),
    s.w.notTraverse a = true → 
    Does (.drvFault a) s (fun t =>
      t.get (Obj.axState a) = 5 ∧ t.get (Obj.axFlags a) = Int.ofNat (s.w.getN (Obj.axFlags a) ||| 4 ||| 1) ∧ t.axPos a = s.w.axPos a ∧ s.w.only t [.axes, .timers, .router] ∧
      ((a : Nat) < s.w.axes.length → (t.ax a).enabled = false ∧ (t.ax a).queue = [] ∧ (t.ax a).faultLow = true))) ∧
  (∀ (s : State) (a : Fin 16),
    (s.w.ax a).home = 1 → s.w.getN (Obj.homeMaxTravel a) ≤ (s.w.ax a).travelled → 
    Does (.homeFail a) s (fun t =>
      t.get (Obj.axFlags a) = Int.ofNat (s.w.getN (Obj.axFlags a) ||| 32) ∧ t.get (Obj.homed a) = 0 ∧ t.axPos a = s.w.axPos a ∧ s.w.only t [.axes, .timers, .router])) ∧
  (∀ (s : State) (a : Fin 16),
    s.w.getN (Obj.standstillDelay a) ≠ 0 → s.w.expired (.standstill a) (s.w.getN (Obj.standstillDelay a) * 1000) = true → (s.w.ax a).enabled = true → (s.w.ax a).running = false → (s.w.ax a).queue = [] → 
    Does (.standstillTimeout a) s (fun t =>
      t = { s.w with axes := upd s.w.axes a (fun x => { x with cr := true }), timers := (s.w.stopTimer (.standstill a)).timers }))

/-- HC_TARGET enters the queue by rising target, MQ_CLEAR empties it, every entry reached fires in one pulse, and the pulse ends after its time or
length. For every state in which a write over the path is ready: HC_TARGET in INSPECT or DEGRADED with room inserts a compare with SEQ 0 at its
target (its low 56 bits) into the output's queue, behind entries of the same target, and with 64 entries sets bit 2 of MQ_FLAGS and leaves the
queue; MQ_CLEAR empties the queue, so MQ_USED and NEXT_TARGET read 0. MARK_FIRE in a mode in which outputs fire: all entries whose target is at
most P plus the lead leave the queue, the output is active from this clock with the last of them as its target, FIRES counts them, MERGED counts
all but one, and LAST_FIRE_SEQ is the last one's SEQ. MARK_PULSE_END ends an active output when PULSE_TIME has passed (PULSE_MODE 0) or P has
reached the target plus PULSE_LEN (PULSE_MODE 1). The model's own readings in it are log entry 46. -/
def Obligations.MarkersQueueAndFire : Prop :=
  (∀ (s : State) (p : Path) (k : Fin 16) (v : Int),
    s.w.ready p = true → s.w.mode.inspecting = true → 0 ≤ v → v < 2 ^ 64 → s.w.markRoom k = true → 
    Does (.hcTarget p k v) s (fun t =>
      s.w.journals t p (Obj.hcTarget k) (v % 2 ^ 56).toNat ∧ t.markers = upd s.w.markers k (fun m => { m with queue := insertCompare ⟨v % 2 ^ 56, 0⟩ m.queue }) ∧
      s.w.only t [.journal, .lastRes, .markers] ∧ s.w.sameBut t (acceptKeys p ++ [Obj.mqUsed k, Obj.nextTarget k, Obj.mqFlags k, Obj.lateCount k, Obj.lateDist k, Obj.lateSeq k]))) ∧
  (∀ (s : State) (p : Path) (k : Fin 16) (v : Int),
    s.w.ready p = true → s.w.mode.inspecting = true → 0 ≤ v → v < 2 ^ 64 → s.w.markRoom k = false → 
    Does (.hcTarget p k v) s (fun t =>
      s.w.journals t p (Obj.hcTarget k) (v % 2 ^ 56).toNat ∧ s.w.only t [.journal, .lastRes] ∧ t.get (Obj.mqFlags k) = Int.ofNat (s.w.getN (Obj.mqFlags k) ||| 4))) ∧
  (∀ (s : State) (p : Path) (k : Fin 16),
    s.w.ready p = true → 
    Does (.mqClear p k) s (fun t =>
      s.w.obeys t p (Obj.mqClear k) 1 [.markers] [Obj.mqUsed k, Obj.nextTarget k] ∧ t.markers = upd s.w.markers k (fun m => { m with queue := [] }) ∧
      t.get (Obj.mqUsed k) = 0 ∧ t.get (Obj.nextTarget k) = 0)) ∧
  (∀ (s : State) (k : Fin 16) (last : Compare),
    s.w.mode.marksFire = true → (s.w.compareHit k).getLast? = some last → 
    Does (.markFire k) s (fun t =>
      t.markers = upd s.w.markers k (fun m => { m with queue := s.w.compareAhead k, active := true, since := s.w.clk.ctl, target := last.target }) ∧
      t.get (Obj.fires k) = min (s.w.get (Obj.fires k) + (s.w.compareHit k).length) 0xFFFFFFFFFFFFFFFF ∧
      t.get (Obj.merged k) = min (s.w.get (Obj.merged k) + ((s.w.compareHit k).length - 1 : Nat)) 0xFFFFFFFF ∧
      t.get (Obj.lastFireSeq k) = last.seq ∧ t.running (.markPulse k) = true ∧ s.w.only t [.markers, .timers, .router])) ∧
  (∀ (s : State) (k : Fin 16),
    (s.w.marker k).active = true → s.w.get (Obj.pulseMode k) = 0 → (s.w.marker k).since + nsClocks (s.w.getN (Obj.pulseTime k)) ≤ s.w.clk.ctl → 
    Does (.markPulseEnd k) s (fun t =>
      t = { s.w with markers := upd s.w.markers k (fun m => { m with active := false }), timers := (s.w.stopTimer (.markPulse k)).timers })) ∧
  (∀ (s : State) (k : Fin 16),
    (s.w.marker k).active = true → s.w.get (Obj.pulseMode k) = 1 → (s.w.marker k).target + s.w.get (Obj.pulseLen k) ≤ s.w.posAt s.w.clk.ctl → 
    Does (.markPulseEnd k) s (fun t =>
      t = { s.w with markers := upd s.w.markers k (fun m => { m with active := false }), timers := (s.w.stopTimer (.markPulse k)).timers }))

/-- Refreshes are made, postponed or due after a retraining; temperature sets the hot state; a requester is throttled; power-down and self-refresh.
While the package memory works. HBM_REFRESH on a pseudo-channel that is neither in self-refresh nor lost: one that retrains postpones it; a hot
stack issues all at once; a pending request postpones it up to REF_POSTPONE, and otherwise none stays postponed; a pseudo-channel in power-down
becomes active. HBM_TEMP_READ when due: an awake stack shows its temperature; 85 °C or more makes it hot, 82 °C or less cool, and between the two
it stays as it was. HBM_THROTTLE: the activations of the requester on the bank are added up, and at ACT_LIMIT it is throttled there, shown in
THROTTLE_REQ and counted. HBM_POWER_DOWN of an active pseudo-channel idle for PD_DELAY: it reads 1 and nothing else changes.
HBM_SELF_REFRESH_ENTRY under its conditions: every pseudo-channel of the stack that is not lost reads 2 and SR_ENTRIES counts.
HBM_SELF_REFRESH_EXIT: none of the stack reads 2. PC_LOST_EFFECT at the frame of a loss: RING_DEPTH is the depth of RING_BYTES in force, and the
loss no longer waits. Nothing else changes. The model's own readings in it are log entry 66. -/
def Obligations.PackageMemoryRefreshesAndSleeps : Prop :=
  (∀ (s : State) (n : Fin 64) (pending : Bool),
    s.w.hbmRuns = true → s.w.pcSt n ≠ 2 → s.w.pcSt n ≠ 4 → 
    Does (.hbmRefresh n pending) s (fun t =>
      t.hbm.postponed = upd s.w.hbm.postponed n (fun k => if s.w.pcSt n = 3 then k + 1 else if s.w.hot (n / 32) = true then 0 else if pending = true ∧ k < s.w.getN Obj.refPostpone then k + 1 else 0) ∧
      t.pcSt n = (if s.w.pcSt n = 1 then 0 else s.w.pcSt n) ∧ t.hbm.rows = s.w.hbm.rows ∧ s.w.only t [.hbm] ∧ s.w.sameBut t [Obj.pcState n, Obj.throttleReq])) ∧
  (∀ (s : State) (t0 t1 : Fin 256),
    s.w.hbmRuns = true → s.w.running .tempRead = true → s.w.expired .tempRead 32000 = true → 
    Does (.hbmTempRead t0 t1) s (fun t =>
      (∀ k : Fin 2, s.w.asleep k = false → t.get (if k = 0 then Obj.stackTemp0 else Obj.stackTemp1) = ((if k = 0 then t0 else t1).val : Int) ∧
        t.hot k = (if 85 ≤ (if k = 0 then t0 else t1).val then true else if (if k = 0 then t0 else t1).val ≤ 82 then false else s.w.hot k)) ∧
      (∀ k : Fin 2, s.w.asleep k = true → t.hot k = s.w.hot k) ∧ t.running .tempRead = true ∧ s.w.only t [.hbm, .timers] ∧
      s.w.sameBut t [Obj.stackTemp0, Obj.stackTemp1, Obj.refState, Obj.hotEntries, Obj.urgentBatches, Obj.hbmFlags])) ∧
  (∀ (s : State) (r : Fin 8) (n : Fin 64) (a : Fin 805306368) (count k c : Nat),
    s.w.hbmRuns = true → k = (r.val * 64 + n.val) * 64 + (hbmDecode s.w.hbm.banks a).sid * 16 + (hbmDecode s.w.hbm.banks a).bank → c = (alGet (s.w.windowRoll (n / 32)).hbm.acts k).getD 0 + count → 
    Does (.hbmThrottle r n a count) s (fun t =>
      alGet t.hbm.acts k = some c ∧ (s.w.getN Obj.actLimit ≤ c → k ∈ t.hbm.throttled) ∧
      (s.w.getN Obj.actLimit ≤ c → k ∉ (s.w.windowRoll (n / 32)).hbm.throttled → bitOf (t.getN Obj.throttleReq) r = true ∧ t.get Obj.throttles = min (s.w.get Obj.throttles + 1) 0xFFFFFFFFFFFFFFFF) ∧
      t.hbm.rows = s.w.hbm.rows ∧ s.w.only t [.hbm] ∧ s.w.sameBut t [Obj.throttleReq, Obj.throttles, Obj.hbmFlags])) ∧
  (∀ (s : State) (n : Fin 64),
    s.w.hbmRuns = true → s.w.getN Obj.pdDelay ≠ 0 → s.w.pcSt n = 0 → nth 0 s.w.hbm.lastUse n + nsClocks (s.w.getN Obj.pdDelay) ≤ s.w.clk.ctl → 
    Does (.hbmPowerDown n) s (fun t =>
      t = s.w.set (Obj.pcState n) 1)) ∧
  (∀ (s : State) (k : Fin 2),
    s.w.hbmRuns = true → s.w.mode = .ready → s.w.getN Obj.idleState ≠ 0 → s.w.running .idleWake = false → (stackPcs k).all (fun n => s.w.pcSt n = 1 || s.w.pcSt n = 4) = true → (stackPcs k).all (fun n => decide (nth 0 s.w.hbm.lastUse n + nsClocks (s.w.getN Obj.srDelay * 1000000) ≤ s.w.clk.ctl)) = true → s.w.expired .idle (s.w.getN Obj.srDelay * 1000000) = true → 
    Does (.hbmSelfRefreshEntry k) s (fun t =>
      (∀ n ∈ stackPcs k, t.pcSt n = (if s.w.pcSt n = 4 then 4 else 2)) ∧ t.get Obj.srEntries = min (s.w.get Obj.srEntries + 1) 0xFFFFFFFF ∧ s.w.only t [] ∧ s.w.sameBut t (Obj.srEntries :: Obj.idleState :: (stackPcs k).map Obj.pcState))) ∧
  (∀ (s : State) (k : Fin 2),
    s.w.hbmRuns = true → s.w.asleep k = true → 
    Does (.hbmSelfRefreshExit k) s (fun t =>
      t.asleep k = false ∧ (∀ n ∈ stackPcs k, s.w.pcSt n = 4 → t.pcSt n = 4) ∧ s.w.only t [.hbm])) ∧
  (∀ (s : State),
    ∃ e ∈ s.w.hbm.lossDue, e.1 ≤ s.w.frame → 
    Does (.pcLostEffect) s (fun t =>
      t.hbm = { s.w.hbm with lossDue := s.w.hbm.lossDue.filter (fun e => decide (s.w.frame < e.1)) } ∧ t.get Obj.ringDepth = t.depthOf (t.getN Obj.ringBytes) ∧ s.w.only t [.hbm, .loom] ∧ s.w.sameBut t [Obj.ringDepth, Obj.ringBytes]))

/-- Errors are counted and bring a retraining, pseudo-channels retrain in turn or on command, and one that finds no setting is lost. While the package
memory works. HBM_UNCORR on a pseudo-channel that serves: CORR counts the corrected errors, UNCORR counts one and HBM_FLAGS bit 2 is set; a ring
line that is touched is lost from its row; with nothing held by the touched bytes only the controller changes. HBM_PERIODIC_RETRAIN when due: the
next pseudo-channel in turn that is not lost, on a stack that is awake, reads 3 and RETRAINS counts. For every state in which a write over the
path is ready: PC_RETRAIN_CMD is journaled; PC_CMD_STATE reads 3 on a lost pseudo-channel, 2 while another retrains, and when nothing retrains or
waits the pseudo-channel retrains and it reads 1. PC_RETRAIN_DONE: with a passing setting the pseudo-channel is active again unless it waits to
retrain once more, and nothing but the controller changes; with none it is lost, reads 4, and its bit stands in PC_LOST_MASK. The model's own
readings in it are log entry 66. -/
def Obligations.PseudoChannelsRetrainAndErr : Prop :=
  (∀ (s : State) (n : Fin 64) (corrected : Nat) (target : HbmTarget),
    s.w.hbmRuns = true → s.w.pcSt n ≠ 2 → s.w.pcSt n ≠ 4 → 
    Does (.hbmUncorr n corrected target) s (fun t =>
      t.get (Obj.corr n) = min (s.w.get (Obj.corr n) + corrected) 0xFFFFFFFFFFFFFFFF ∧ t.get (Obj.uncorr n) = min (s.w.get (Obj.uncorr n) + 1) 0xFFFFFFFF ∧ bitOf (t.getN Obj.hbmFlags) 2 = true ∧
      (target = .other → s.w.only t [.hbm] ∧ t.hbm.rows = s.w.hbm.rows ∧ s.w.sameBut t (Obj.corr n :: Obj.uncorr n :: Obj.hbmFlags :: (n.val :: s.w.hbm.cmdWait.map (fun e => e.1)).flatMap (fun n => [Obj.pcState n, Obj.pcCmdState n, Obj.retrains n]))) ∧
      (∀ k q, target = .ringLine k q → s.w.only t [.hbm] ∧ t.hbm.lostLines.any (fun e => e.1 == k && e.2.1 == q) = true))) ∧
  (∀ (s : State) (n : Fin 64),
    s.w.hbmRuns = true → s.w.hbm.retraining = none → s.w.expired .retrain (s.w.getN Obj.retrainPeriod * 1000000) = true → ((upTo 64).map (fun i => (s.w.hbm.nextPc + i) % 64)).find? (fun n => s.w.pcSt n ≠ 4) = some n.val → s.w.asleep (n / 32) = false → 
    Does (.hbmPeriodicRetrain) s (fun t =>
      t.pcSt n = 3 ∧ t.hbm = { s.w.hbm with retraining := some (n.val, false), nextPc := (n + 1) % 64 } ∧ t.get (Obj.retrains n) = min (s.w.get (Obj.retrains n) + 1) 0xFFFFFFFF ∧ s.w.only t [.hbm, .timers] ∧ s.w.sameBut t [Obj.pcState n, Obj.retrains n])) ∧
  (∀ (s : State) (path : Path) (n : Fin 64),
    s.w.ready path = true → s.w.hbmRuns = true → 
    Does (.pcRetrainCmd path n) s (fun t =>
      s.w.obeys t path (Obj.pcCmd n) 1 [.hbm] ((n.val :: s.w.hbm.cmdWait.map (fun e => e.1)).flatMap (fun n => [Obj.pcState n, Obj.pcCmdState n, Obj.retrains n])) ∧
      (s.w.pcSt n = 4 → t.get (Obj.pcCmdState n) = 3 ∧ t.hbm = s.w.hbm) ∧ (s.w.pcSt n ≠ 4 → s.w.hbm.retraining ≠ none → t.get (Obj.pcCmdState n) = 2 ∧ t.pcSt n = s.w.pcSt n) ∧
      (s.w.pcSt n ≠ 4 → s.w.pcSt n ≠ 2 → s.w.hbm.retraining = none → s.w.hbm.cmdWait = [] → t.get (Obj.pcCmdState n) = 1 ∧ t.pcSt n = 3 ∧ t.hbm.retraining = some (n.val, true)))) ∧
  (∀ (s : State) (passes : Bool) (n : Fin 64) (cmd : Bool),
    s.w.hbm.retraining = some (n.val, cmd) → 
    Does (.pcRetrainDone passes) s (fun t =>
      (passes = true → (s.w.hbm.cmdWait = [] → t.pcSt n = 0 ∧ t.hbm.retraining = none) ∧ nth 0 t.hbm.postponed n = 0 ∧ s.w.only t [.hbm]) ∧
      (passes = false → s.w.pcSt n ≠ 4 → t.pcSt n = 4 ∧ bitOf (t.getN Obj.pcLostMask) n = true ∧ (s.w.streams.queue = [] → bitOf (t.getN Obj.pcMap) n = false))))

/-- A row test goes on, an uncorrectable lane removes a cluster, a cluster out of service is tested, retained and woken; queues pass items in order.
SP_ROW_TEST when due on a scratchpad that serves: TEST_ROW is the next row, ROWS_TESTED counts it with its mismatches and corrections; without a
mismatch only that changes, and a row in use that fails shows FAIL and FAIL_ROW and removes its cluster with cause 4. SP_UNCORR: counted and
flagged; a serving cluster outside TRAIN is removed with cause 3, and any other keeps all else. For every state in which a write over the path is
ready and the cluster is out of service: SP_FULL_TEST begins a full test, SP_RETAIN goes to retention, both from SP_STATE 4, and SP_WAKE from 2 to
3; from any other state the command is journaled and nothing else changes. SP_FULL_TEST_DONE when it is due: ROWS_TESTED counts the rows; with
nothing failed TEST_PASSED, and the cluster serves when in service and is out otherwise; a failing row in use sets FAIL, and a cluster that is not
repaired is not tested. QUEUE_WRITE of an item of the queue's size for which there are credits: its words join the queue, LEVEL, EMPTY and PEAK
follow and CREDIT_WAIT counts. QUEUE_READ of a queue that is not empty, with no poisoned word: the first item leaves and the rest stay in order;
with a poisoned word Q_FLAGS bit 3 is set as well; of an empty queue: UNDERRUNS and Q_FLAGS bit 2, and the queue stays. Nothing else changes. The
model's own readings in it are log entry 67. -/
def Obligations.ScratchpadsTestAndQueuesPass : Prop :=
  (∀ (s : State) (c : Fin 64) (bad : Fin 65) (corr : Nat),
    s.w.get Obj.testEnable = 1 → s.w.spServes c = true → s.w.mode.dictOpen = true → s.w.mode ≠ .train → s.w.mode ≠ .safe → (s.w.scr c).lastAt + nsClocks (s.w.getN Obj.testRowInterval * 1000) ≤ s.w.clk.ctl → 
    Does (.spRowTest c bad corr) s (fun t =>
      t.get (Obj.testRow c) = (((s.w.testRows c).find? (fun r => decide ((s.w.scr c).next ≤ r))).getD 0) ∧ t.get (Obj.rowsTested c) = min (s.w.get (Obj.rowsTested c) + 1) 0xFFFFFFFFFFFFFFFF ∧ t.get (Obj.testMismatch c) = min (s.w.get (Obj.testMismatch c) + bad.val) 0xFFFFFFFF ∧ t.get (Obj.spCorr c) = min (s.w.get (Obj.spCorr c) + corr) 0xFFFFFFFF ∧
      (bad = 0 → s.w.only t [.scratch] ∧ s.w.sameBut t [Obj.testRow c, Obj.testMismatch c, Obj.rowsTested c, Obj.spCorr c]) ∧ (bad ≠ 0 → (((s.w.testRows c).find? (fun r => decide ((s.w.scr c).next ≤ r))).getD 0) < 512 → t.get (Obj.failRow c) = (((s.w.testRows c).find? (fun r => decide ((s.w.scr c).next ≤ r))).getD 0) ∧ bitOf (t.getN (Obj.spFlags c)) 0 = true) ∧
      (bad ≠ 0 → (((s.w.testRows c).find? (fun r => decide ((s.w.scr c).next ≤ r))).getD 0) < 512 → (s.w.clus c).faulted = false → t.get (Obj.clState c) = 3 ∧ t.get (Obj.clCause c) = 4))) ∧
  (∀ (s : State) (c : Fin 64),
    s.w.mode.dictOpen = true → s.w.mode ≠ .safe → s.w.get (Obj.spState c) ≠ 2 → s.w.get (Obj.spState c) ≠ 3 → 
    Does (.spUncorr c) s (fun t =>
      t.get (Obj.spUncorr c) = min (s.w.get (Obj.spUncorr c) + 1) 0xFFFFFFFF ∧ bitOf (t.getN (Obj.spFlags c)) 1 = true ∧
      (s.w.spServes c = false ∨ s.w.mode = .train → s.w.only t [] ∧ s.w.sameBut t [Obj.spUncorr c, Obj.spFlags c]) ∧
      (s.w.spServes c = true → s.w.mode ≠ .train → (s.w.clus c).faulted = false → t.get (Obj.clState c) = 3 ∧ t.get (Obj.clCause c) = 3))) ∧
  (∀ (s : State) (path : Path) (c : Fin 64),
    s.w.ready path = true → s.w.get (Obj.clState c) = 2 ∨ s.w.get (Obj.clState c) = 3 ∨ s.w.get (Obj.clState c) = 4 → 
    Does (.spFullTest path c) s (fun t =>
      s.w.obeys t path (Obj.spCmd c) 1 [.scratch, .timers] [Obj.spState c] ∧ (s.w.get (Obj.spState c) = 4 → t.get (Obj.spState c) = 1 ∧ t.scratch = upd s.w.scratch c (fun x => { x with fullAt := s.w.clk.ctl })) ∧ (s.w.get (Obj.spState c) ≠ 4 → t.get (Obj.spState c) = s.w.get (Obj.spState c) ∧ t.scratch = s.w.scratch))) ∧
  (∀ (s : State) (path : Path) (c : Fin 64),
    s.w.ready path = true → s.w.get (Obj.clState c) = 2 ∨ s.w.get (Obj.clState c) = 3 ∨ s.w.get (Obj.clState c) = 4 → 
    Does (.spRetain path c) s (fun t =>
      s.w.obeys t path (Obj.spCmd c) 2 [.scratch, .timers] [Obj.spState c] ∧ t.get (Obj.spState c) = (if s.w.get (Obj.spState c) = 4 then 2 else s.w.get (Obj.spState c)) ∧ t.scratch = s.w.scratch)) ∧
  (∀ (s : State) (path : Path) (c : Fin 64),
    s.w.ready path = true → s.w.get (Obj.clState c) = 2 ∨ s.w.get (Obj.clState c) = 3 ∨ s.w.get (Obj.clState c) = 4 → 
    Does (.spWake path c) s (fun t =>
      s.w.obeys t path (Obj.spCmd c) 3 [.scratch, .timers] [Obj.spState c] ∧ t.get (Obj.spState c) = (if s.w.get (Obj.spState c) = 2 then 3 else s.w.get (Obj.spState c)) ∧ t.scratch = s.w.scratch)) ∧
  (∀ (s : State) (c : Fin 64),
    s.w.get (Obj.spState c) = 1 → (s.w.scr c).fullAt + nsClocks ((s.w.testRows c).length * 880) ≤ s.w.clk.ctl → 
    Does (.spFullTestDone c []) s (fun t =>
      t.get (Obj.spState c) = (if s.w.get (Obj.clState c) = 0 then 0 else 4) ∧ bitOf (t.getN (Obj.spFlags c)) 2 = true ∧ t.get (Obj.rowsTested c) = min (s.w.get (Obj.rowsTested c) + (s.w.testRows c).length) 0xFFFFFFFFFFFFFFFF ∧
      t.place = { s.w.place with clus := upd s.w.place.clus c (fun k => { k with tested := true, failed := false }) } ∧ s.w.only t [.place] ∧ s.w.sameBut t [Obj.spState c, Obj.spFlags c, Obj.rowsTested c])) ∧
  (∀ (s : State) (c : Fin 64) (fails : List (Fin 528 × Nat)),
    s.w.get (Obj.spState c) = 1 → (s.w.scr c).fullAt + nsClocks ((s.w.testRows c).length * 880) ≤ s.w.clk.ctl → 
    Does (.spFullTestDone c fails) s (fun t =>
      t.get (Obj.rowsTested c) = min (s.w.get (Obj.rowsTested c) + (s.w.testRows c).length) 0xFFFFFFFFFFFFFFFF ∧ ((∃ e ∈ fails, e.1.val < 512) → bitOf (t.getN (Obj.spFlags c)) 0 = true) ∧
      (t.get (Obj.spState c) = 5 → (t.clus c).tested = false))) ∧
  (∀ (s : State) (q : Fin 173) (item : List Word64) (waited : Nat),
    s.w.mode.dictOpen = true → item.length = itemWords q → (s.w.cqueue q).words.length + item.length ≤ queueDepth q → 
    Does (.queueWrite q item waited) s (fun t =>
      t.queues = upd s.w.queues q (fun x => { x with words := x.words ++ item }) ∧ t.get (Obj.level q) = ((s.w.cqueue q).words.length + item.length : Nat) ∧ t.get (Obj.empty q) = 0 ∧
      t.get (Obj.peak q) = max (s.w.get (Obj.peak q)) ((s.w.cqueue q).words.length + item.length : Nat) ∧ t.get (Obj.creditWait q) = min (s.w.get (Obj.creditWait q) + waited) 0xFFFFFFFFFFFFFFFF ∧
      s.w.only t [.queues, .router] ∧ s.w.sameBut t ([Obj.level q, Obj.empty q, Obj.peak q, Obj.qFlags q, Obj.creditWait q] ++ (upTo 48).map (fun i => raisedKey (280 + i))))) ∧
  (∀ (s : State) (q : Fin 173) (corr : Nat),
    s.w.mode.dictOpen = true → (s.w.cqueue q).words ≠ [] → 
    Does (.queueRead q corr []) s (fun t =>
      (t.cqueue q).words = (s.w.cqueue q).words.drop (itemWords q) ∧ t.get (Obj.level q) = ((s.w.cqueue q).words.length - itemWords q : Nat) ∧ t.get (Obj.qCorr q) = min (s.w.get (Obj.qCorr q) + corr) 0xFFFFFFFF ∧
      s.w.only t [.queues, .router] ∧ s.w.sameBut t ([Obj.level q, Obj.empty q, Obj.peak q, Obj.qFlags q, Obj.qCorr q] ++ (upTo 48).map (fun i => raisedKey (280 + i))))) ∧
  (∀ (s : State) (q : Fin 173) (corr : Nat) (bad : List (Fin 40)),
    s.w.mode.dictOpen = true → (s.w.cqueue q).words = [] → 
    Does (.queueRead q corr bad) s (fun t =>
      t.get (Obj.underruns q) = min (s.w.get (Obj.underruns q) + 1) 0xFFFFFFFF ∧ t.get (Obj.qFlags q) = Int.ofNat (s.w.getN (Obj.qFlags q) ||| 4) ∧ s.w.only t [] ∧ s.w.sameBut t [Obj.underruns q, Obj.qFlags q])) ∧
  (∀ (s : State) (q : Fin 173) (corr : Nat) (bad : List (Fin 40)),
    s.w.mode.dictOpen = true → ∃ i ∈ bad, i.val < (s.w.cqueue q).words.length ∧ i.val < itemWords q → 
    Does (.queueRead q corr bad) s (fun t =>
      (t.cqueue q).words = (s.w.cqueue q).words.drop (itemWords q) ∧ bitOf (t.getN (Obj.qFlags q)) 3 = true ∧ s.w.get (Obj.qUncorr q) ≤ t.get (Obj.qUncorr q)))

/-- A program is taken, a channel starts, stops and is cleared by its state, a stop completes and a wait runs out. For every state in which a write
over the path is ready: CH_PROGRAM_WRITE of instructions that may all stand, to a channel that neither runs nor waits, is journaled and holds the
bytes. CH_START from IDLE, DONE or STOPPED outside SAFE: the channel runs from position 0 with its counters 0. CH_STOP while it runs or waits asks
for the stop. CH_CLEAR from DONE, ERROR or STOPPED returns it to IDLE. Each answers 1 in CH_CMD_STATE, and in any other state 3 with the channel
as it was. DMA_STOPPED: the bytes whose response has come count in CH_BYTES and the channel reads STOPPED. DMA_WAIT_TIMEOUT of a wait with a limit
that has passed: the channel reads ERROR with code 5. Nothing else changes. -/
def Obligations.DmaChannelsAreCommanded : Prop :=
  (∀ (s : State) (path : Path) (c : Fin 32) (b : Bytes),
    s.w.ready path = true → s.w.chStateOf c ≠ 1 → s.w.chStateOf c ≠ 2 → (upTo (b.length / 16)).all (fun i => instrGood i (instrAt b i)) = true → 16 ≤ b.length → b.length ≤ 1024 → b.length % 16 = 0 → 
    Does (.chProgramWrite path c b) s (fun t =>
      t.journal.head = s.w.journal.head + 1 ∧ t.blob (Obj.chProgram c) = b ∧ t.dma = s.w.dma ∧ s.w.only t [.journal, .lastRes, .blobs, .changes] ∧ s.w.sameBut t (acceptKeys path))) ∧
  (∀ (s : State) (path : Path) (c : Fin 32),
    s.w.ready path = true → 
    Does (.chStart path c) s (fun t =>
      s.w.obeys t path (Obj.chCmd c) 1 [.dma] [Obj.chState c, Obj.chCmdState c, Obj.dmaBusy, Obj.chPc c, Obj.chRemain c, Obj.loop0 c, Obj.loop1 c] ∧
      (if (s.w.chStateOf c = 0 ∨ s.w.chStateOf c = 3 ∨ s.w.chStateOf c = 5) ∧ s.w.mode ≠ .safe then t.get (Obj.chCmdState c) = 1 ∧ t.get (Obj.chState c) = 1 ∧ t.get (Obj.chPc c) = 0 ∧ t.get (Obj.chRemain c) = 0 ∧ t.get (Obj.loop0 c) = 0 ∧ t.get (Obj.loop1 c) = 0 ∧ bitOf (t.getN Obj.dmaBusy) c = true ∧ t.dma = { s.w.dma with chans := upd s.w.dma.chans c (fun _ => {}) } else t.get (Obj.chCmdState c) = 3 ∧ t.get (Obj.chState c) = s.w.get (Obj.chState c) ∧ t.dma = s.w.dma))) ∧
  (∀ (s : State) (path : Path) (c : Fin 32),
    s.w.ready path = true → 
    Does (.chStop path c) s (fun t =>
      s.w.obeys t path (Obj.chCmd c) 2 [.dma] [Obj.chState c, Obj.chCmdState c, Obj.dmaBusy, Obj.chPc c, Obj.chRemain c, Obj.loop0 c, Obj.loop1 c] ∧
      (if s.w.chStateOf c = 1 ∨ s.w.chStateOf c = 2 then t.get (Obj.chCmdState c) = 1 ∧ t.get (Obj.chState c) = s.w.get (Obj.chState c) ∧ t.dma = { s.w.dma with chans := upd s.w.dma.chans c (fun x => { x with stopping := true }) } else t.get (Obj.chCmdState c) = 3 ∧ t.get (Obj.chState c) = s.w.get (Obj.chState c) ∧ t.dma = s.w.dma))) ∧
  (∀ (s : State) (path : Path) (c : Fin 32),
    s.w.ready path = true → 
    Does (.chClear path c) s (fun t =>
      s.w.obeys t path (Obj.chCmd c) 3 [.dma] [Obj.chState c, Obj.chCmdState c, Obj.dmaBusy, Obj.chPc c, Obj.chRemain c, Obj.loop0 c, Obj.loop1 c] ∧
      (if s.w.chStateOf c = 3 ∨ s.w.chStateOf c = 4 ∨ s.w.chStateOf c = 5 then t.get (Obj.chCmdState c) = 1 ∧ t.get (Obj.chState c) = 0 ∧ t.dma = s.w.dma ∧ bitOf (t.getN Obj.dmaBusy) c = false else t.get (Obj.chCmdState c) = 3 ∧ t.get (Obj.chState c) = s.w.get (Obj.chState c) ∧ t.dma = s.w.dma))) ∧
  (∀ (s : State) (c : Fin 32),
    (s.w.chan c).stopping = true → 
    Does (.dmaStopped c) s (fun t =>
      t.get (Obj.chState c) = 5 ∧ t.get (Obj.chBytes c) = min (s.w.get (Obj.chBytes c) + (s.w.chan c).posted) 0xFFFFFFFFFFFFFFFF ∧ t.dma = { s.w.dma with chans := upd s.w.dma.chans c (fun x => { x with posted := 0, stopping := false, inMove := false, hold := [] }) } ∧
      s.w.only t [.dma, .timers] ∧ s.w.sameBut t [Obj.chState c, Obj.chBytes c, Obj.dmaBusy])) ∧
  (∀ (s : State) (c : Fin 32) (x : Nat),
    s.w.chStateOf c = 2 → x = instrAt (s.w.blob (Obj.chProgram c)) (s.w.getN (Obj.chPc c)) → bitsOf x 0 32 ≠ 0 → s.w.expired (.dmaWait c) (bitsOf x 0 32 * 1000) = true → 
    Does (.dmaWaitTimeout c) s (fun t =>
      t.get (Obj.chState c) = 4 ∧ t.get (Obj.errCode c) = 5 ∧ bitOf (t.getN (Obj.chFlags c)) 2 = true ∧ s.w.only t [.dma, .timers] ∧ s.w.sameBut t [Obj.chState c, Obj.chFlags c, Obj.errCode c, Obj.errAddr c, Obj.dmaBusy]))

/-- A running channel moves its bytes, loops, waits, signals, loads its addresses, ends, and fails with its code. For every state in which the channel
stands at the instruction. DMA_MOVE inside a MOVE of equal beat widths with no fixed address, whose next burst stays in one region and finds its
destination at the same place within 128 bytes: CH_REMAIN falls by the burst, CH_SRC and CH_DST advance by it, and the bytes read stand in host
memory or in the SRAM from the destination on; every other byte stays. DMA_LOOP jumps to its target until its counter runs out and goes on then.
DMA_WAIT consumes a pending event or waits. DMA_SIGNAL with every response good: SIG_CODE, SIGNALLED and event source 120 + c. DMA_END with every
response good: DONE. DMA_ADDR loads the source or destination register. Each goes on to the next position below 63. DMA_ERROR of a read beat
inside the burst: ERROR with code 3; of a write beat to the SRAM: ERROR with code 4. Nothing else changes. The model's own readings in it are log
entries 20 and 65. -/
def Obligations.DmaProgramsRun : Prop :=
  (∀ (s : State) (c : Fin 32) (data : Bytes) (corr x : Nat),
    s.w.chAt c 1 = some x → (s.w.chan c).inMove = true → (s.w.chan c).hold = [] → bitsOf x 121 3 = bitsOf x 118 3 → bitOf x 117 = false → bitOf x 116 = false → s.w.getN (Obj.chSrc c) % 128 = s.w.getN (Obj.chDst c) % 128 → s.w.burstBytes c x ≠ 0 → dmaRegion (s.w.getN (Obj.chSrc c)) ≠ .none → dmaRegion (s.w.getN (Obj.chSrc c) + s.w.burstBytes c x - 1) = dmaRegion (s.w.getN (Obj.chSrc c)) → dmaRegion (s.w.getN (Obj.chDst c)) = .host ∨ dmaRegion (s.w.getN (Obj.chDst c)) = .sram → dmaRegion (s.w.getN (Obj.chDst c) + s.w.burstBytes c x - 1) = dmaRegion (s.w.getN (Obj.chDst c)) → 
    Does (.dmaMove c data corr) s (fun t =>
      t.getN (Obj.chRemain c) = s.w.getN (Obj.chRemain c) - s.w.burstBytes c x ∧ t.getN (Obj.chSrc c) = dmaAdvance (s.w.chan c).wrapSrc (s.w.getN (Obj.chSrc c)) (s.w.burstBytes c x) ∧
      t.getN (Obj.chDst c) = dmaAdvance (s.w.chan c).wrapDst (s.w.getN (Obj.chDst c)) (s.w.burstBytes c x) ∧
      t.host = { s.w.host with hostMem := if dmaRegion (s.w.getN (Obj.chDst c)) = .host then memWrite s.w.host.hostMem (s.w.getN (Obj.chDst c)) ((upTo (s.w.burstBytes c x)).map (fun i => s.w.dmaByte (s.w.getN (Obj.chSrc c) + i) data[i]?)) else s.w.host.hostMem } ∧
      t.dma.sram = (if dmaRegion (s.w.getN (Obj.chDst c)) = .sram then memWrite s.w.dma.sram (s.w.getN (Obj.chDst c) - 2 ^ 63) ((upTo (s.w.burstBytes c x)).map (fun i => s.w.dmaByte (s.w.getN (Obj.chSrc c) + i) data[i]?)) else s.w.dma.sram) ∧
      t.chStateOf c = 1 ∧ s.w.only t [.dma, .host, .frees] ∧ s.w.sameBut t [Obj.chRemain c, Obj.chSrc c, Obj.chDst c, Obj.chPc c, Obj.chBytes c, Obj.sramCorr])) ∧
  (∀ (s : State) (c : Fin 32) (x : Nat),
    s.w.chAt c 2 = some x → 
    Does (.dmaLoop c) s (fun t =>
      (bitsOf x 0 32 = 0 → t.getN (Obj.chPc c) = bitsOf x 32 6) ∧ s.w.only t [.dma, .frees] ∧ s.w.sameBut t [Obj.chPc c, Obj.loop0 c, Obj.loop1 c] ∧
      (∀ b : Bool, bitOf x 123 = b → bitsOf x 0 32 ≠ 0 → ∀ v : Nat, v = (if (if b then (s.w.chan c).loopOn1 else (s.w.chan c).loopOn0) = true then s.w.getN (if b then Obj.loop1 c else Obj.loop0 c) else bitsOf x 0 32) - 1 →
        t.getN (if b then Obj.loop1 c else Obj.loop0 c) = v ∧ (v ≠ 0 → t.getN (Obj.chPc c) = bitsOf x 32 6) ∧ (v = 0 → (s.w.getN (Obj.chPc c) < 63 → t.getN (Obj.chPc c) = s.w.getN (Obj.chPc c) + 1))))) ∧
  (∀ (s : State) (c : Fin 32) (x : Nat),
    s.w.chAt c 3 = some x → 
    Does (.dmaWait c) s (fun t =>
      if (s.w.chan c).pending = true then (s.w.getN (Obj.chPc c) < 63 → t.getN (Obj.chPc c) = s.w.getN (Obj.chPc c) + 1) ∧ t.dma = { s.w.dma with chans := upd s.w.dma.chans c (fun y => { y with pending := false }) } ∧ s.w.only t [.dma, .frees] ∧ s.w.sameBut t [Obj.chPc c]
        else t.get (Obj.chState c) = 2 ∧ t.running (.dmaWait c) = true ∧ s.w.only t [.timers] ∧ s.w.sameBut t [Obj.chState c, Obj.dmaBusy])) ∧
  (∀ (s : State) (c : Fin 32) (x : Nat),
    s.w.chAt c 4 = some x → 
    Does (.dmaSignal c true) s (fun t =>
      t.getN (Obj.sigCode c) = bitsOf x 0 16 ∧ bitOf (t.getN (Obj.chFlags c)) 0 = true ∧ t.get (raisedKey (120 + c)) = min (s.w.get (raisedKey (120 + c)) + 1) 0xFFFFFFFF ∧ t.get (Obj.chBytes c) = min (s.w.get (Obj.chBytes c) + (s.w.chan c).posted) 0xFFFFFFFFFFFFFFFF ∧ (s.w.getN (Obj.chPc c) < 63 → t.getN (Obj.chPc c) = s.w.getN (Obj.chPc c) + 1) ∧
      s.w.only t [.dma, .frees, .router, .host, .sent] ∧ s.w.sameBut t [Obj.sigCode c, Obj.chFlags c, raisedKey (120 + c), Obj.chBytes c, Obj.chPc c])) ∧
  (∀ (s : State) (c : Fin 32) (x : Nat),
    s.w.chAt c 0 = some x → 
    Does (.dmaEnd c true) s (fun t =>
      t.get (Obj.chState c) = 3 ∧ bitOf (t.getN (Obj.chFlags c)) 1 = true ∧ bitOf (t.getN Obj.dmaBusy) c = false ∧ t.get (Obj.chBytes c) = min (s.w.get (Obj.chBytes c) + (s.w.chan c).posted) 0xFFFFFFFFFFFFFFFF ∧ s.w.only t [.dma] ∧ s.w.sameBut t [Obj.chState c, Obj.chFlags c, Obj.dmaBusy, Obj.chBytes c])) ∧
  (∀ (s : State) (c : Fin 32) (x : Nat),
    s.w.chAt c 5 = some x → 
    Does (.dmaAddr c) s (fun t =>
      t.getN (if bitOf x 123 then Obj.chDst c else Obj.chSrc c) = bitsOf x 0 64 ∧ (s.w.getN (Obj.chPc c) < 63 → t.getN (Obj.chPc c) = s.w.getN (Obj.chPc c) + 1) ∧ s.w.only t [.dma, .frees] ∧ s.w.sameBut t [if bitOf x 123 then Obj.chDst c else Obj.chSrc c, Obj.chPc c] ∧
      t.dma = { s.w.dma with chans := upd s.w.dma.chans c (fun y => if bitOf x 123 then { y with wrapDst := bitsOf x 112 6 } else { y with wrapSrc := bitsOf x 112 6 }) })) ∧
  (∀ (s : State) (c : Fin 32) (beat x : Nat),
    s.w.chAt c 1 = some x → (s.w.chan c).inMove = true → beat * 2 ^ bitsOf x 121 3 < s.w.burstBytes c x → dmaRegion (s.w.getN (Obj.chSrc c)) ≠ .none → 
    Does (.dmaError c false beat) s (fun t =>
      t.get (Obj.chState c) = 4 ∧ t.get (Obj.errCode c) = 3 ∧ bitOf (t.getN (Obj.chFlags c)) 2 = true ∧ t.host = s.w.host ∧ t.dma.sram = s.w.dma.sram ∧ s.w.only t [.dma, .timers] ∧ s.w.sameBut t [Obj.chState c, Obj.chFlags c, Obj.errCode c, Obj.errAddr c, Obj.dmaBusy, Obj.chRemain c, Obj.chSrc c, Obj.sramUncorr])) ∧
  (∀ (s : State) (c : Fin 32) (beat x : Nat),
    s.w.chAt c 1 = some x → (s.w.chan c).inMove = true → dmaRegion (s.w.getN (Obj.chDst c)) = .sram → 
    Does (.dmaError c true beat) s (fun t =>
      t.get (Obj.chState c) = 4 ∧ t.get (Obj.errCode c) = 4 ∧ bitOf (t.getN (Obj.chFlags c)) 2 = true ∧ t.dma.sram = s.w.dma.sram ∧ s.w.only t [.dma, .timers] ∧ s.w.sameBut t [Obj.chState c, Obj.chFlags c, Obj.errCode c, Obj.errAddr c, Obj.dmaBusy]))

/-- Raised events reach the task inputs their entries name, merged into one; pins, software and relays raise events. EVENT_DELIVERY when the earliest
edge with a raised event is due: no event of that edge is left and every event left is due later; the event counter of a task input rises by one
however many enabled entries deliver to it there, and COINCIDE of the input counts when more than one does. EVT_IN with a changed level, while the
dictionary is open: event source 328 + i is raised when EVT_EDGE selects the edge. SW_RAISE, in every state in which a write over the path is
ready, is journaled and raises source 344 + i for each bit i set. RELAY_OUT when its delay ends: an event with fewer than 7 hops leaves under
source 360 + n, and any other is dropped and counted in ROUTE_LOOPS; the relay is free. EVT_OUT_PULSE_END when the pulse has lasted EVT_PULSE: the
output is inactive. Nothing else changes. -/
def Obligations.EventsAreRoutedAndMerged : Prop :=
  (∀ (s : State) (n : Fin 64) (e : Nat),
    ∃ r ∈ s.w.router.raised, r.due = e → ∀ r ∈ s.w.router.raised, e ≤ r.due → e ≤ s.w.clk.ctl / 2 → 
    Does (.eventDelivery) s (fun t =>
      (∀ r ∈ t.router.raised, e < r.due) ∧ t.get (Obj.evtCount n) = (if ((s.w.routes.filter (fun r => r.2.2 == 233 + n.val)).flatMap (fun r => s.w.router.raised.filter (fun x => x.due == e && x.source == r.2.1))).length = 0 then s.w.get (Obj.evtCount n) else min (s.w.get (Obj.evtCount n) + 1) 0xFFFFFFFF) ∧
      t.get (Obj.coincide ((233 + n.val) / 128) ((233 + n.val) % 128)) = (if ((s.w.routes.filter (fun r => r.2.2 == 233 + n.val)).flatMap (fun r => s.w.router.raised.filter (fun x => x.due == e && x.source == r.2.1))).length ≤ 1 then s.w.get (Obj.coincide ((233 + n.val) / 128) ((233 + n.val) % 128)) else min (s.w.get (Obj.coincide ((233 + n.val) / 128) ((233 + n.val) % 128)) + 1) 0xFFFFFFFF) ∧ t.mode = s.w.mode ∧ t.clk = s.w.clk)) ∧
  (∀ (s : State) (i : Fin 16) (high : Bool),
    s.w.router.evtIn.contains i.val ≠ high → 
    Does (.evtIn i high) s (fun t =>
      t.router.evtIn.contains i.val = high ∧ s.w.only t [.router] ∧ s.w.sameBut t [raisedKey (328 + i)] ∧
      t.get (raisedKey (328 + i)) = (if s.w.mode.dictOpen = true ∧ bitOf (s.w.getN (Obj.evtEdge i)) (if high then 0 else 1) = true then min (s.w.get (raisedKey (328 + i)) + 1) 0xFFFFFFFF else s.w.get (raisedKey (328 + i))))) ∧
  (∀ (s : State) (path : Path) (v : BitVec 16),
    s.w.ready path = true → 
    Does (.swRaise path v) s (fun t =>
      s.w.obeys t path Obj.swRaise v.toNat [.router] ((upTo 16).map (fun i => raisedKey (344 + i))) ∧
      (∀ i : Fin 16, t.get (raisedKey (344 + i)) = (if bitOf v.toNat i then min (s.w.get (raisedKey (344 + i)) + 1) 0xFFFFFFFF else s.w.get (raisedKey (344 + i)))) ∧ (∀ i : Fin 16, bitOf v.toNat i = true → ∃ r ∈ t.router.raised, r.source = 344 + i))) ∧
  (∀ (s : State) (n : Fin 16) (r : RelayRun),
    alGet s.w.router.relays n = some r → s.w.expired (.relay n) (5 * s.w.getN (Obj.relayDelay n)) = true → 
    Does (.relayOut n) s (fun t =>
      alGet t.router.relays n = none ∧ t.running (.relay n) = false ∧ s.w.only t [.router, .timers] ∧
      (if r.hop < 7 then t.get (raisedKey (360 + n)) = min (s.w.get (raisedKey (360 + n)) + 1) 0xFFFFFFFF ∧ (∃ x ∈ t.router.raised, x.source = 360 + n ∧ r.hop + 1 ≤ x.hop) ∧ s.w.sameBut t [raisedKey (360 + n)]
        else t.get Obj.routeLoops = min (s.w.get Obj.routeLoops + 1) 0xFFFFFFFF ∧ t.router.raised = s.w.router.raised ∧ s.w.sameBut t (Obj.routeLoops :: r.entries.map (fun e => Obj.routeFlags (e / 128) (e % 128)))))) ∧
  (∀ (s : State) (i : Fin 16),
    s.w.expired (.evtPulse i) (5 * s.w.getN (Obj.evtPulse i)) = true → 
    Does (.evtOutPulseEnd i) s (fun t =>
      t.router = { s.w.router with pulses := s.w.router.pulses.filter (fun j => j ≠ i.val) } ∧ t.running (.evtPulse i) = false ∧ s.w.only t [.router, .timers] ∧ s.w.sameBut t []))

/-- Yalind sessions open, frames are checked, messages are acknowledged or repeated, sessions end, and time follows the master. With the dictionary
open. HELLO_SEND when due: one HELLO goes out if a Yalind port is up. HELLO by such a port from an address without a session opens one under a
drawn number and answers HELLO_ACK; one with the module's own address and another serial number sets ADDR_CONFLICT and the address is no longer
taken. HELLO_ACK opens a session under its number. BYE ends the session and its messages; SESSION_TIMEOUT ends one silent for YL_SESSION_TIMEOUT
and counts it in SESSIONS_LOST. ACK of a message outside mirroring: it no longer waits. YALIND_RETRY of a message unanswered for YL_RETRY: it goes
out again and RETRANSMITS counts it while YL_RETRIES are left. YALIND_FRAME_RX by such a port: a frame with a bad FCS only counts in RX_DROPPED;
one of a session with its number keeps the session and changes no object. FRAGMENT_TIMEOUT of an incomplete message after 1 ms discards it.
PTP_MESSAGE on an enabled port: PTP_STATE is the port's; a slave shows its offset and steps the timebase beyond TIME_STEP_LIMIT, and otherwise
trims it within 200 parts per million. The trim is a free value within that bound. The model's own readings in it are log entries 88 to 91. -/
def Obligations.SessionsOpenCarryAndEnd : Prop :=
  (∀ (s : State),
    s.w.mode.dictOpen = true → s.w.running .hello = true → s.w.expired .hello 100000000 = true → 
    Does (.helloSend) s (fun t =>
      t.sent = (if ∃ n : Fin 4, bitOf (s.w.confN Obj.ylPorts) n = true ∧ s.w.ethUp n = true then .yalind ylBroadcast 0 1 0 [s.w.ylAddress, Config.serial.toNat, s.w.mode.code, s.w.confN Obj.groupId, s.w.partner] [] :: s.w.sent else s.w.sent) ∧
      t.running .hello = true ∧ s.w.only t [.timers, .sent] ∧ s.w.sameBut t [])) ∧
  (∀ (s : State) (port : Fin 4) (mac : BitVec 48) (a : Fin 1024) (serial : BitVec 32) (mode : Fin 12) (group pair : BitVec 16),
    s.w.mode.dictOpen = true → bitOf (s.w.confN Obj.ylPorts) port = true → s.w.ethUp port = true → a.val ≠ s.w.ylAddress → a.val ∉ s.w.sys.shut → s.w.session a = none → 
    Does (.hello port mac a serial mode group pair) s (fun t =>
      (t.session a).isSome = true ∧ t.get Obj.sessions = s.w.sys.sessions.length + 1 ∧ t.drawCount = s.w.drawCount + 1 ∧ t.sys.hellos.head? = some ⟨a, serial.toNat, mode, group.toNat, pair.toNat, port, mac.toNat⟩ ∧
      .yalind a 0 2 0 [Config.draw s.w.drawCount % 65536] [] ∈ t.sent ∧ s.w.only t [.sys, .draws, .sent, .timers] ∧ s.w.sameBut t [Obj.sessions, Obj.pairState, Obj.pairRefusal])) ∧
  (∀ (s : State) (port : Fin 4) (mac : BitVec 48) (a : Fin 1024) (serial : BitVec 32) (mode : Fin 12) (group pair : BitVec 16),
    s.w.mode.dictOpen = true → bitOf (s.w.confN Obj.ylPorts) port = true → s.w.ethUp port = true → a.val = s.w.ylAddress → 
    Does (.hello port mac a serial mode group pair) s (fun t =>
      if serial.toNat = Config.serial.toNat then t = s.w else bitOf (t.getN Obj.ylFlags) 0 = true ∧ a.val ∈ t.sys.shut ∧ t.sys.sessions = s.w.sys.sessions ∧ s.w.only t [.sys] ∧ s.w.sameBut t [Obj.ylFlags])) ∧
  (∀ (s : State) (a : Fin 1024) (number : BitVec 16),
    s.w.mode.dictOpen = true → s.w.addrOk a = true → s.w.session a = none → 
    Does (.helloAck a number) s (fun t =>
      (t.session a).map (fun z => (z.number, z.lastRx)) = some (number.toNat, s.w.clk.ctl) ∧ t.get Obj.sessions = s.w.sys.sessions.length + 1 ∧ s.w.only t [.sys, .sent, .timers] ∧ s.w.sameBut t [Obj.sessions, Obj.pairState, Obj.pairRefusal])) ∧
  (∀ (s : State) (a : Fin 1024),
    s.w.session a ≠ none → s.w.sys.pair.proposals = [] → 
    DoesNv (.bye a) s (fun nv t =>
      t.session a = none ∧ (∀ f ∈ t.sys.frags, f.peer ≠ a.val) ∧ t.get Obj.sessions = (s.w.sys.sessions.filter (fun z => z.peer ≠ a.val)).length ∧ t.get Obj.sessionsLost = s.w.get Obj.sessionsLost ∧
      (a.val ≠ s.w.partner → nv = s.nv ∧ s.w.only t [.sys, .groups] ∧ s.w.sameBut t [Obj.sessions]))) ∧
  (∀ (s : State) (a : Fin 1024) (z : Session),
    s.w.session a = some z → z.lastRx + nsClocks s.w.sessionNs ≤ s.w.clk.ctl → s.w.sys.pair.proposals = [] → 
    DoesNv (.sessionTimeout a) s (fun nv t =>
      t.session a = none ∧ t.get Obj.sessionsLost = min (s.w.get Obj.sessionsLost + 1) 0xFFFFFFFF ∧ (a.val ≠ s.w.partner → nv = s.nv ∧ s.w.only t [.sys, .groups] ∧ s.w.sameBut t [Obj.sessions, Obj.sessionsLost]))) ∧
  (∀ (s : State) (a : Fin 1024) (c : Fin 16) (n : BitVec 32) (z : Session) (m : YWait),
    s.w.session a = some z → z.waits.find? (fun m => m.msg.cls == c.val && m.msg.seq == n.toNat) = some m → c ≠ 7 → 
    DoesNv (.ack a c n) s (fun nv t =>
      t.session a = some { z with lastRx := s.w.clk.ctl, waits := z.waits.filter (fun x => x ≠ m) } ∧ nv = s.nv ∧ s.w.only t [.sys] ∧ s.w.sameBut t [])) ∧
  (∀ (s : State) (a : Fin 1024) (c : Fin 16) (n : BitVec 32) (z : Session) (m : YWait),
    s.w.session a = some z → z.waits.find? (fun m => m.msg.cls == c.val && m.msg.seq == n.toNat) = some m → m.sentAt + nsClocks (s.w.getN Obj.ylRetry * 1000) ≤ s.w.clk.ctl → m.tries < s.w.getN Obj.ylRetries → 
    DoesNv (.yalindRetry a c n) s (fun nv t =>
      t.get Obj.retransmits = min (s.w.get Obj.retransmits + 1) 0xFFFFFFFFFFFFFFFF ∧ t.sent = .yalind a m.msg.cls m.msg.typ m.msg.seq m.msg.fields m.msg.data :: s.w.sent ∧ nv = s.nv ∧ s.w.only t [.sys, .sent] ∧ s.w.sameBut t [Obj.retransmits])) ∧
  (∀ (s : State) (port : Fin 4) (ok : Bool) (h : BitVec 128) (b : Bytes),
    s.w.mode.dictOpen = true → bitOf (s.w.confN Obj.ylPorts) port = true → s.w.ethUp port = true → 
    Does (.yalindFrameRx port ok h b) s (fun t =>
      s.w.only t [.sys, .sent] ∧ s.w.sameBut t [Obj.rxDropped] ∧ (ok = false → t.get Obj.rxDropped = min (s.w.get Obj.rxDropped + 1) 0xFFFFFFFFFFFFFFFF ∧ t.sys = s.w.sys ∧ t.sent = s.w.sent) ∧
      (ok = true → bitsOf h.toNat 24 4 = 1 → bitsOf h.toNat 28 4 < 8 → bitsOf h.toNat 54 10 = s.w.ylAddress → t.get Obj.rxDropped = s.w.get Obj.rxDropped ∧
        ∀ z ∈ s.w.session (bitsOf h.toNat 44 10), s.w.addrOk (bitsOf h.toNat 44 10) = true → bitsOf h.toNat 0 16 = z.number → (t.session (bitsOf h.toNat 44 10)).map (fun z => z.lastRx) = some s.w.clk.ctl))) ∧
  (∀ (s : State) (a : Fin 1024) (c : Fin 16) (n : BitVec 32),
    ∃ f ∈ s.w.sys.frags, f.peer = a.val ∧ f.cls = c.val ∧ f.seq = n.toNat ∧ f.whole = false ∧ f.since + nsClocks 1000000 ≤ s.w.clk.ctl → 
    Does (.fragmentTimeout a c n) s (fun t =>
      (∀ f ∈ t.sys.frags, ¬ (f.peer = a.val ∧ f.cls = c.val ∧ f.seq = n.toNat ∧ f.whole = false ∧ f.since + nsClocks 1000000 ≤ s.w.clk.ctl)) ∧ s.w.only t [.sys] ∧ s.w.sameBut t [])) ∧
  (∀ (s : State) (port : Fin 4) (role : PtpRole) (off : Int),
    s.w.mode.dictOpen = true → s.w.conf Obj.ptpEnable = 1 → bitOf (s.w.confN Obj.ptpPorts) port = true → s.w.ethUp port = true → 
    Does (.ptpMessage port role off) s (fun t =>
      t.get Obj.ptpState = ptpCode role ∧ s.w.only t [.clk, .frees] ∧ s.w.sameBut t [Obj.ptpState, Obj.timeOffset, Obj.timeSteps] ∧ t.clk.ctl = s.w.clk.ctl ∧ -200000 ≤ (if role = .slave ∧ s.w.getN Obj.timeStepLimit < off.natAbs then 0 else t.clk.trim) ∧ (if role = .slave ∧ s.w.getN Obj.timeStepLimit < off.natAbs then 0 else t.clk.trim) ≤ 200000 ∧
      (role = .slave → t.get Obj.timeOffset = off) ∧ (role = .slave → s.w.getN Obj.timeStepLimit < off.natAbs → t.get Obj.timeSteps = min (s.w.get Obj.timeSteps + 1) 0xFFFFFFFF ∧ t.clk.tb = ((s.w.clk.tb : Int) - off * 10 ^ 8).toNat)))

/-- A peer reads an object, writes one where it may, is refused where it may not, and an answer keeps the session. With the dictionary open, a session
with the peer and fewer than 16 of its requests unanswered: MGMT_READ of a numeric object that is kept is answered with the object's value, result
0000, and no object changes. MGMT_WRITE by a peer that MGMT_ANY or MGMT_PEER admits, of a plain object of class IMM within its range, is journaled
under the peer's path and the object reads the value; by any other peer it is refused with PATH, counted and shown. Each is answered by one RESULT
and leaves the rest. MGMT_RESULT, which answers nothing the module sent, only keeps the session alive. The model's own readings in it are log
entry 90. -/
def Obligations.PeersManageTheModule : Prop :=
  (∀ (s : State) (a : Fin 1024) (tag : BitVec 56) (i : BitVec 16) (x : BitVec 8) (z : Session) (r : ObjRow),
    s.w.session a = some z → s.w.mode.dictOpen = true → z.requests < 16 → s.w.sys.pair.proposals = [] → findRow i.toNat x.toNat = some r → r.access ≠ .wo → r.typ.isBlob = false → (atKey formedNums (objKey i.toNat x.toNat)).isNone = true → 
    DoesNv (.mgmtRead a tag i x) s (fun nv t =>
      t.sent = .yalind a 1 3 (nth 0 z.nextOut 1) [tag.toNat, i.toNat, x.toNat, 0] (r.typ.encode (s.w.get (objKey i.toNat x.toNat))) :: s.w.sent ∧ nv = s.nv ∧ s.w.only t [.sys, .sent, .lastRes] ∧ s.w.sameBut t (resultKey (.yalind a)).toList)) ∧
  (∀ (s : State) (a : Fin 1024) (tag : BitVec 56) (i : BitVec 16) (x : BitVec 8) (b : Bytes) (z : Session) (v : Int) (r : ObjRow),
    s.w.session a = some z → z.requests < 16 → s.w.mgmtMay a = true → s.w.ready (.yalind a) = true → plainNum (.yalind a) (objKey i.toNat x.toNat) v r = true → r.effect = .imm → b.length = r.typ.size → r.typ.decode b = v → 
    DoesNv (.mgmtWrite a tag i x b) s (fun nv t =>
      s.w.obeys t (.yalind a) (objKey i.toNat x.toNat) (field (8 * r.typ.size) (r.mask v)) [.sys, .sent] [objKey i.toNat x.toNat] ∧ t.get (objKey i.toNat x.toNat) = r.mask v ∧ nv = s.nv ∧
      t.sent = .yalind a 1 3 (nth 0 z.nextOut 1) [tag.toNat, i.toNat, x.toNat, 0] [] :: s.w.sent)) ∧
  (∀ (s : State) (a : Fin 1024) (tag : BitVec 56) (i : BitVec 16) (x : BitVec 8) (b : Bytes) (z : Session),
    s.w.session a = some z → s.w.mode.dictOpen = true → z.requests < 16 → s.w.mgmtMay a = false → 
    DoesNv (.mgmtWrite a tag i x b) s (fun nv t =>
      t.get Obj.refusedCount = min (s.w.get Obj.refusedCount + 1) 0xFFFFFFFF ∧ t.get Obj.refusedObject = (objKey i.toNat x.toNat) ∧ t.lastRes = Res.path.code ∧
      t.sent = .yalind a 1 3 (nth 0 z.nextOut 1) [tag.toNat, i.toNat, x.toNat, Res.path.code] [] :: s.w.sent ∧ nv = s.nv ∧ s.w.only t [.sys, .sent, .lastRes] ∧ s.w.sameBut t (refusalKeys (.yalind a)))) ∧
  (∀ (s : State) (a : Fin 1024) (tag : BitVec 56) (code : BitVec 16) (b : Bytes) (z : Session),
    s.w.session a = some z → 
    Does (.mgmtResult a tag code b) s (fun t =>
      t.session a = some { z with lastRx := s.w.clk.ctl } ∧ s.w.only t [.sys] ∧ s.w.sameBut t []))

/-- A member's DESC and silence are shown, the web axis aligns to its reference, offers come and go, and batches are lent, returned and answered. With
a session to the sender. DESC of a member: MEMBER_BASE is its base and it is known. GROUP_TIMEOUT of a member silent for GROUP_TIMEOUT: it is
absent and ABSENT_MASK has its bit. ALIGN from the reference while the axis waits, with no edge near: the axis is aligned, and with the
free-running source P at that time is exactly the reference's index; while aligned, a difference of more than ALIGN_TOL sets WEB_DIVERGE and
counts in DIVERGE_COUNT, and a smaller one does neither. OFFER_SEND when due: the timer runs again, and no object changes. OFFER: the peer is live
with its rate. SHED_PEER_TIMEOUT after 10 ms and LEAVE: the offer is gone. SHED_SEND under its conditions: the batch at the head of the queue goes
to the peer chosen and SHED_OUT counts its candidates. SHED_TIMEOUT and REFUSE: the batch's candidates are back at the head of the queue, counted
in SHED_RESUBMIT or SHED_REFUSED. BATCH: SHED_IN counts the candidates of a batch that is taken, and another is answered REFUSE. SHED_RESULT of a
known batch: it is no longer out. Nothing else changes. The model's own readings in it are log entries 92 to 94. -/
def Obligations.GroupsAlignAndLend : Prop :=
  (∀ (s : State) (a : Fin 1024) (j : Fin 8) (base width : BitVec 32) (xs : List Int),
    s.w.session a ≠ none → s.w.memberFrom a = some j.val → 
    Does (.desc a base width xs) s (fun t =>
      t.get (Obj.memberBase j) = base.toNat ∧ t.sys.members = upd s.w.sys.members j (fun m => { m with desc := some ⟨base.toNat, width.toNat, xs⟩, heardAt := some s.w.clk.ctl, backAt := if m.absent then some (s.w.frame + 1) else m.backAt }) ∧ s.w.only t [.sys] ∧ s.w.sameBut t [Obj.memberBase j])) ∧
  (∀ (s : State) (j : Fin 8),
    s.w.mode.dictOpen = true → s.w.memberUsed j = true → (nth {} s.w.sys.members j).absent = false → ∀ c ∈ (nth {} s.w.sys.members j).heardAt, c + nsClocks (s.w.getN Obj.groupTimeout * 1000) ≤ s.w.clk.ctl → 
    Does (.groupTimeout j) s (fun t =>
      t.sys.members = upd s.w.sys.members j (fun m => { m with absent := true, backAt := none }) ∧ s.w.only t [.sys] ∧ s.w.sameBut t [Obj.webGroupState, Obj.absentMask] ∧ (j.val < s.w.sys.members.length → s.w.confN Obj.groupId ≠ 0 → bitOf (t.getN Obj.absentMask) j = true))) ∧
  (∀ (s : State) (a : Fin 1024) (k : BitVec 48) (time : BitVec 64),
    s.w.session a ≠ none → s.w.fromRef a = true → s.w.get Obj.alignState = 1 → s.w.clearOfEdges (s.w.clockAt time.toNat) = true → 
    Does (.align a k time) s (fun t =>
      t.get Obj.alignState = 2 ∧ t.axis.started = true ∧ (s.w.confN Obj.webSource = 16 → t.posBack (s.w.clockAt time.toNat) = (k.toNat : Int) * 256) ∧ s.w.only t [.sys, .axis, .timers] ∧ s.w.sameBut t [Obj.alignState, Obj.webStatus])) ∧
  (∀ (s : State) (a : Fin 1024) (k : BitVec 48) (time : BitVec 64),
    s.w.session a ≠ none → s.w.fromRef a = true → s.w.get Obj.alignState = 2 → 
    Does (.align a k time) s (fun t =>
      s.w.only t [.sys] ∧ (if s.w.getN Obj.alignTol < (s.w.posBack (s.w.clockAt time.toNat) - (k.toNat : Int) * 256).natAbs then bitOf (t.getN Obj.alignFlags) 0 = true ∧ t.get Obj.divergeCount = min (s.w.get Obj.divergeCount + 1) 0xFFFFFFFF ∧ s.w.sameBut t [Obj.alignFlags, Obj.divergeCount, Obj.alignErr] else s.w.sameBut t []))) ∧
  (∀ (s : State),
    s.w.mode.dictOpen = true → s.w.running .offer = true → s.w.expired .offer 1000000 = true → 
    Does (.offerSend) s (fun t =>
      t.running .offer = true ∧ s.w.only t [.timers, .sys, .sent] ∧ s.w.sameBut t [] ∧ t.sys.shed.leaving = s.w.shedAccepts ∧ t.sys.shed.offers = s.w.sys.shed.offers ∧ s.w.sent.length ≤ t.sent.length)) ∧
  (∀ (s : State) (a : Fin 1024) (rate : BitVec 32) (ds : List Bytes),
    s.w.session a ≠ none → 
    Does (.offer a rate ds) s (fun t =>
      t.sys.shed.offers = ⟨a, rate.toNat, ds, s.w.clk.ctl⟩ :: s.w.sys.shed.offers.filter (fun o => o.addr ≠ a.val) ∧ t.get Obj.shedPeersLive = (min 16 t.sys.shed.offers.length : Nat) ∧ s.w.only t [.sys] ∧ s.w.sameBut t [Obj.shedPeersLive])) ∧
  (∀ (s : State) (a : Fin 1024),
    ∃ o ∈ s.w.sys.shed.offers, o.addr = a.val ∧ o.at_ + nsClocks 10000000 ≤ s.w.clk.ctl → 
    Does (.shedPeerTimeout a) s (fun t =>
      t.sys.shed.offers = s.w.sys.shed.offers.filter (fun o => o.addr ≠ a.val) ∧ t.get Obj.shedPeersLive = (min 16 t.sys.shed.offers.length : Nat) ∧ s.w.only t [.sys] ∧ s.w.sameBut t [Obj.shedPeersLive])) ∧
  (∀ (s : State) (a : Fin 1024),
    s.w.session a ≠ none → 
    Does (.leave a) s (fun t =>
      t.sys.shed.offers = s.w.sys.shed.offers.filter (fun o => o.addr ≠ a.val) ∧ t.get Obj.shedPeersLive = (min 16 t.sys.shed.offers.length : Nat) ∧ s.w.only t [.sys] ∧ s.w.sameBut t [Obj.shedPeersLive])) ∧
  (∀ (s : State) (a : Fin 1024) (c : Candidate) (cs : List Candidate),
    s.w.batchHead 256 = c :: cs → s.w.valueAt Obj.shedEnable s.w.frame = 1 → s.w.pipeRuns = true → s.w.mode ≠ .shadow → s.w.valueAtN Obj.shedHigh s.w.frame < s.w.cls.queue.length → (c :: cs).all s.w.netReady = true → s.w.shedPeerFor [s.w.digestFor (s.w.modelsOf c).1 (s.w.frameOf c.last), s.w.digestFor (s.w.modelsOf c).2 (s.w.frameOf c.last)] = some a.val → 
    Does (.shedSend) s (fun t =>
      t.cls = { s.w.cls with queue := s.w.cls.queue.drop (cs.length + 1), batches := s.w.cls.batches ++ [⟨s.w.cls.nextBatch, none, some a.val, c :: cs⟩], nextBatch := s.w.cls.nextBatch + 1 } ∧ t.get Obj.shedOut = min (s.w.get Obj.shedOut + (cs.length + 1 : Nat)) 0xFFFFFFFFFFFFFFFF ∧
      t.sys.shed.sentAt = (s.w.cls.nextBatch, s.w.clk.ctl) :: s.w.sys.shed.sentAt ∧ s.w.only t [.cls, .sys, .sent] ∧ s.w.sameBut t [Obj.candQueueUsed, Obj.shedOut])) ∧
  (∀ (s : State) (id : Nat),
    ∃ e ∈ s.w.sys.shed.sentAt, e.1 = id ∧ e.2 + nsClocks (s.w.getN Obj.shedTimeout * 1000) ≤ s.w.clk.ctl → 
    Does (.shedTimeout id) s (fun t =>
      t.cls = { s.w.cls with queue := (s.w.cls.batches.filter (fun b => b.id == id && b.peer.isSome)).flatMap (fun b => b.cands) ++ s.w.cls.queue, batches := s.w.cls.batches.filter (fun b => !(b.id == id && b.peer.isSome)) } ∧ t.get Obj.shedResubmit = min (s.w.get Obj.shedResubmit + 1) 0xFFFFFFFF ∧
      bitOf (t.getN Obj.placeFlags) 3 = true ∧ s.w.only t [.cls, .sys] ∧ s.w.sameBut t [Obj.candQueueUsed, Obj.shedResubmit, Obj.placeFlags])) ∧
  (∀ (s : State) (a : Fin 1024) (id : Nat),
    s.w.session a ≠ none → ∃ b ∈ s.w.cls.batches, b.id = id ∧ b.peer = some a.val → 
    Does (.refuse a id) s (fun t =>
      t.cls = { s.w.cls with queue := (s.w.cls.batches.filter (fun b => b.id == id && b.peer == some a.val)).flatMap (fun b => b.cands) ++ s.w.cls.queue, batches := s.w.cls.batches.filter (fun b => !(b.id == id && b.peer == some a.val)) } ∧ t.get Obj.shedRefused = min (s.w.get Obj.shedRefused + 1) 0xFFFFFFFF ∧
      s.w.only t [.cls, .sys] ∧ s.w.sameBut t [Obj.candQueueUsed, Obj.shedRefused])) ∧
  (∀ (s : State) (a : Fin 1024) (id : Nat) (d1 d2 : Bytes) (cs : List ShedCand),
    s.w.session a ≠ none → 
    Does (.batch a id d1 d2 cs) s (fun t =>
      s.w.only t [.sys, .sent] ∧ t.sent.length = s.w.sent.length + 1 ∧ (s.w.shedAccepts = true → d1.isEmpty = true → d2.isEmpty = true → s.w.spareUnits ≠ 0 → t.get Obj.shedIn = min (s.w.get Obj.shedIn + cs.length) 0xFFFFFFFFFFFFFFFF ∧ s.w.sameBut t [Obj.shedIn]) ∧
      (s.w.shedAccepts = false ∨ s.w.spareUnits = 0 → s.w.sameBut t [] ∧ t.sent = .yalind a 6 4 (((s.w.session a).map (fun z => nth 0 z.nextOut 6)).getD 0) [id] [] :: s.w.sent))) ∧
  (∀ (s : State) (a : Fin 1024) (id : Nat) (xs : List ShedAnswer),
    s.w.session a ≠ none → ∃ b ∈ s.w.cls.batches, b.id = id ∧ b.peer = some a.val → 
    Does (.shedResult a id xs) s (fun t =>
      s.w.only t [.sys, .cls, .ledger] ∧ ((∀ b ∈ s.w.cls.batches, b.id = id → b.peer = some a.val) → t.cls.batches = s.w.cls.batches.filter (fun b => b.id ≠ id) ∧ t.sys.shed.sentAt = s.w.sys.shed.sentAt.filter (fun e => e.1 ≠ id)) ∧
      (xs = [] → s.w.sameBut t [Obj.candQueueUsed])))

/-- Heartbeats go out and are taken, a silent path is flagged, and entries, records and frames of the primary are taken over. With a session to the
partner. HEARTBEAT_SEND when due in a mode that beats, with the pairing standing: PAIR_HB_OUT toggles, and a HEARTBEAT goes out with every rise;
in another mode the pin is low. HEARTBEAT: the path is heard, LAST_HEARTBEAT is the time, and a module that is not primary takes over the
completion frame. PAIR_HB_IN: a rise is heard in the same way. PATH_LOST: a path that is silent while the other is heard sets PATH_LOST. PROPOSE
is acknowledged. ENTRY with a new number, at a module that mirrors: the entry is the newest of the journal under its own number and
LAST_MIRROR_SEQ is that number; one of the objects that the mirror leaves alone changes nothing else. MIRROR_RECORD of a new number: the record is
kept and LEDGER_HWM is no lower than it. FRAME_SYNC: PEER_EPOCH and PEER_COMPLETE are the primary's and LEDGER_HWM is no lower than its. TAKEOVER
at a module that inspects sets CONFLICT. Nothing else changes. The model's own readings in it are log entries 96 and 97. -/
def Obligations.PairsBeatAndMirror : Prop :=
  (∀ (s : State),
    s.w.mode.beats = true → s.w.pairStands = true → s.w.running .heartbeatSend = true → s.w.expired .heartbeatSend 500000 = true → 
    Does (.heartbeatSend) s (fun t =>
      t.sys.pair.hbOut = !s.w.sys.pair.hbOut ∧ t.running .heartbeatSend = true ∧ s.w.only t [.sys, .timers, .sent] ∧ s.w.sameBut t [] ∧ t.sent.length = s.w.sent.length + (if s.w.sys.pair.hbOut = false ∧ (s.w.session s.w.partner).isSome = true then 1 else 0))) ∧
  (∀ (s : State),
    s.w.mode.beats = false ∨ s.w.pairStands = false → 
    Does (.heartbeatSend) s (fun t =>
      t.sys.pair.hbOut = false ∧ t.running .heartbeatSend = false ∧ s.w.only t [.sys, .timers, .sent] ∧ s.w.sameBut t [])) ∧
  (∀ (s : State) (a : Fin 1024) (m : BeatMsg),
    s.w.session a ≠ none → a.val = s.w.partner → s.w.pairStands = true ∨ s.w.get Obj.pairState = 2 → 
    Does (.heartbeat a m) s (fun t =>
      t.sys.pair.heardYal = some s.w.clk.ctl ∧ t.sys.pair.peerMode = m.mode ∧ t.get Obj.lastHeartbeat = s.w.timeNs ∧ bitOf (t.getN Obj.hbPaths) 0 = true ∧ s.w.only t [.sys, .ledger] ∧ s.w.sameBut t [Obj.lastHeartbeat, Obj.hbPaths, Obj.peerComplete, Obj.pairFlags] ∧
      (s.w.get Obj.pairState = 3 → t.ledger = s.w.ledger ∧ t.get Obj.peerComplete = s.w.get Obj.peerComplete) ∧ (s.w.get Obj.pairState ≠ 3 → t.get Obj.peerComplete = m.completion ∧ t.sys.pair.completion = m.completion))) ∧
  (∀ (s : State) (level : Bool),
    Does (.pairHbIn level) s (fun t =>
      t.sys.pair.hbIn = level ∧ s.w.only t [.sys] ∧ s.w.sameBut t [Obj.lastHeartbeat, Obj.hbPaths] ∧ (level = true → s.w.sys.pair.hbIn = false → s.w.mode.dictOpen = true → s.w.pairStands = true → t.sys.pair.heardPin = some s.w.clk.ctl ∧ t.get Obj.lastHeartbeat = s.w.timeNs ∧ bitOf (t.getN Obj.hbPaths) 1 = true))) ∧
  (∀ (s : State) (path : PairPath),
    s.w.pairStands = true → s.w.recent s.w.sys.pair.heardYal = decide (path = .pin) → s.w.recent s.w.sys.pair.heardPin = decide (path = .yalind) → 
    Does (.pathLost path) s (fun t =>
      bitOf (t.getN Obj.pairFlags) 1 = true ∧ t.get Obj.hbPaths = (if path = .pin then 1 else 2) ∧ s.w.only t [] ∧ s.w.sameBut t [Obj.pairFlags, Obj.hbPaths])) ∧
  (∀ (s : State) (a : Fin 1024) (n : BitVec 32) (z : Session),
    s.w.session a = some z → 
    Does (.propose a n) s (fun t =>
      t.sent = .yalind a 0 4 (nth 0 z.nextOut 0) [7, n.toNat] [] :: s.w.sent ∧ s.w.only t [.sys, .sent] ∧ s.w.sameBut t [])) ∧
  (∀ (s : State) (a : Fin 1024) (e : MirrorEntry),
    s.w.session a ≠ none → a.val = s.w.partner → s.w.get Obj.pairState = 2 ∨ s.w.get Obj.pairState = 4 ∨ s.w.get Obj.pairState = 5 → s.w.getN Obj.lastMirrorSeq < e.seq → 
    DoesNv (.entry a e) s (fun nv t =>
      t.get Obj.lastMirrorSeq = e.seq ∧ t.journal.head = e.seq ∧ t.journal.entries.head? = some (mirrorTally e) ∧ (notApplied (objKey e.index.toNat e.sub.toNat) = true → nv = s.nv ∧ s.w.only t [.journal, .sys] ∧ s.w.sameBut t [Obj.lastMirrorSeq, Obj.overwritten]))) ∧
  (∀ (s : State) (a : Fin 1024) (b : Bytes),
    s.w.session a ≠ none → a.val = s.w.partner → s.w.get Obj.pairState = 2 ∨ s.w.get Obj.pairState = 4 ∨ s.w.get Obj.pairState = 5 → ∀ r ∈ s.w.sys.pair.records, r.seq ≠ leAt b 0 8 → 
    Does (.mirrorRecord a b) s (fun t =>
      t.sys.pair.records.map (fun r => (r.seq, r.bytes)) = s.w.sys.pair.records.map (fun r => (r.seq, r.bytes)) ++ [(leAt b 0 8, b)] ∧ t.get Obj.ledgerHwm = max (s.w.get Obj.ledgerHwm) (leAt b 0 8) ∧ s.w.only t [.sys] ∧ s.w.sameBut t [Obj.ledgerHwm])) ∧
  (∀ (s : State) (a : Fin 1024) (m : SyncMsg),
    s.w.session a ≠ none → a.val = s.w.partner → s.w.get Obj.pairState = 2 ∨ s.w.get Obj.pairState = 4 ∨ s.w.get Obj.pairState = 5 → 
    Does (.frameSync a m) s (fun t =>
      t.get Obj.peerEpoch = m.epoch ∧ t.get Obj.peerComplete = m.completion ∧ (m.hwm : Int) ≤ t.get Obj.ledgerHwm ∧ t.sys.pair.syncHwm = m.hwm ∧ (m.sets = [] → s.w.only t [.sys, .ledger] ∧ s.w.sameBut t [Obj.peerEpoch, Obj.peerComplete, Obj.ledgerHwm]))) ∧
  (∀ (s : State) (a : Fin 1024),
    s.w.session a ≠ none → a.val = s.w.partner → 
    Does (.takeover a) s (fun t =>
      s.w.only t [.sys] ∧ (if s.w.mode.inspecting = true then bitOf (t.getN Obj.pairFlags) 3 = true ∧ s.w.sameBut t [Obj.pairFlags] else s.w.sameBut t [])))

/-- A module asks for a pair, answers one, takes the snapshot, mirrors in SHADOW, ends the pair and takes over. For every state in which a write over
the path is ready: PAIR_CMD_PAIR is journaled, and a module that may ask is requesting; PAIR_CMD_END is journaled and the module is unpaired.
PAIR_REQ of the partner at another position: a module that inspects unpaired becomes primary and sends its snapshot; a stranger is told 3 and one
at the same position 2. SNAPSHOT at a requesting module in READY: unaligned it is refused with 5; a configuration that passes is applied, journal
and Ledger take the primary's identity, and PAIR_STATE is 2. SHADOW_ENTRY at the next frame: the module is in SHADOW by cause 14, a secondary.
PAIR_END: a requesting module is unpaired with the code, a paired one unpaired. HEARTBEAT_LOSS in SHADOW: after a report of inspection the primary
is declared failed, and otherwise the module goes to READY by cause 16. PRIMARY_HEARTBEAT_LOSS: the primary is unpaired and stays in its mode.
FAILOVER_TAKEOVER at the first frame after the declaration: the module inspects by cause 15, or goes on to DEGRADED by cause 12 with capacity
lost, unpaired, FAILOVERS counts and the flag is set. The model's own readings in it are log entries 74, 95, 96 and 98. -/
def Obligations.PairsFormEndAndTakeOver : Prop :=
  (∀ (s : State) (path : Path),
    s.w.ready path = true → 
    DoesNv (.pairCmdPair path) s (fun nv t =>
      s.w.obeys t path Obj.pairCmd 1 [.sys, .sent, .timers] [Obj.pairState, Obj.pairRefusal] ∧ t.get Obj.pairState = (if s.w.pairMayAsk = true then 1 else s.w.get Obj.pairState) ∧ nv = s.nv)) ∧
  (∀ (s : State) (path : Path),
    s.w.ready path = true → 
    DoesNv (.pairCmdEnd path) s (fun nv t =>
      s.w.journals t path Obj.pairCmd 2 ∧ t.get Obj.pairState = 0 ∧ nv = s.nv ∧ (s.w.mode ≠ .shadow → s.w.obeys t path Obj.pairCmd 2 [.sys, .sent] [Obj.pairState, Obj.lastMirrorSeq]))) ∧
  (∀ (s : State) (a : Fin 1024) (pos : Fin 2),
    s.w.session a ≠ none → a.val = s.w.partner → s.w.get Obj.pairState = 0 ∨ s.w.get Obj.pairState = 1 → (pos.val : Int) ≠ s.w.conf Obj.pairPosition → s.w.mode.inspecting = true → 
    Does (.pairReq a pos) s (fun t =>
      t.get Obj.pairState = 3 ∧ t.get Obj.pairRefusal = 0 ∧ t.sent.length = s.w.sent.length + 1 ∧ s.w.only t [.sys, .sent, .timers] ∧ s.w.sameBut t [Obj.pairState, Obj.pairRefusal])) ∧
  (∀ (s : State) (a : Fin 1024) (pos : Fin 2) (z : Session),
    s.w.session a = some z → a.val ≠ s.w.partner ∨ (s.w.get Obj.pairState ≠ 0 ∧ s.w.get Obj.pairState ≠ 1) ∨ (pos.val : Int) = s.w.conf Obj.pairPosition → 
    Does (.pairReq a pos) s (fun t =>
      t.sent = .yalind a 7 8 (nth 0 z.nextOut 7) [if a.val ≠ s.w.partner ∨ (s.w.get Obj.pairState ≠ 0 ∧ s.w.get Obj.pairState ≠ 1) then 3 else 2] [] :: s.w.sent ∧ s.w.only t [.sys, .sent] ∧ s.w.sameBut t [])) ∧
  (∀ (s : State) (a : Fin 1024) (m : SnapMsg),
    s.w.session a ≠ none → a.val = s.w.partner → s.w.get Obj.pairState = 1 → s.w.mode = .ready → s.w.get Obj.alignState ≠ 2 → 
    Does (.snapshot a m) s (fun t =>
      t.get Obj.pairState = 0 ∧ t.get Obj.pairRefusal = 5 ∧ s.w.only t [.sys, .sent] ∧ s.w.sameBut t [Obj.pairState, Obj.pairRefusal])) ∧
  (∀ (s : State) (a : Fin 1024) (m : SnapMsg) (es : List ProfEntry),
    s.w.session a ≠ none → a.val = s.w.partner → s.w.get Obj.pairState = 1 → s.w.mode = .ready → s.w.get Obj.alignState = 2 → entriesOf m.entries 0 = .ok es → ((s.w.heard a).takeSnapshot m es).frameLenFault = false → ((s.w.heard a).takeSnapshot m es).staged.commitFaults = [] → 
    Does (.snapshot a m) s (fun t =>
      t.get Obj.pairState = 2 ∧ t.get Obj.journalId = m.journalId ∧ t.get Obj.ledgerId = m.ledgerId ∧ t.get Obj.ledgerHwm = m.hwm ∧ t.get Obj.lastMirrorSeq = m.head ∧ t.journal = { entries := [], head := m.head, gaps := [] } ∧ (t.sys.pair.shadowAt).isSome = true ∧ t.mode = .ready)) ∧
  (∀ (s : State) (n : Nat),
    s.w.sys.pair.shadowAt = some n → s.w.get Obj.pairState = 2 → s.w.mode = .ready → n ≤ s.w.frame → 
    Does (.shadowEntry) s (fun t =>
      t.get Obj.pairState = 4 ∧ t.sys.pair.shadowAt = none ∧ (s.w.axis.last = none → t.entered .shadow 14 ∧ (∀ k : Fin 16, (t.marker k).queue = []) ∧ t.journal = s.w.journal))) ∧
  (∀ (s : State) (a : Fin 1024) (code : Fin 6),
    s.w.session a ≠ none → a.val = s.w.partner → s.w.get Obj.pairState = 1 ∨ s.w.get Obj.pairState = 2 → 
    DoesNv (.pairEnd a code) s (fun nv t =>
      t.get Obj.pairState = 0 ∧ t.get Obj.pairRefusal = code.val ∧ nv = s.nv ∧ s.w.only t [.sys] ∧ s.w.sameBut t [Obj.pairState, Obj.pairRefusal])) ∧
  (∀ (s : State) (a : Fin 1024) (code : Fin 6),
    s.w.session a ≠ none → a.val = s.w.partner → s.w.get Obj.pairState = 3 → s.w.mode ≠ .shadow → s.w.sys.pair.proposals = [] → 
    DoesNv (.pairEnd a code) s (fun nv t =>
      t.get Obj.pairState = 0 ∧ t.mode = s.w.mode ∧ t.ledger.mirrored = [] ∧ t.ledger.unacked = [] ∧ nv = s.nv ∧ s.w.only t [.sys, .ledger, .router])) ∧
  (∀ (s : State),
    s.w.mode = .shadow → s.w.get Obj.pairState = 4 → s.w.silent = true → s.w.sys.pair.proposals = [] → 
    DoesNv (.heartbeatLoss) s (fun nv t =>
      if s.w.sys.pair.peerMode = 8 ∨ s.w.sys.pair.peerMode = 9 then t.get Obj.pairState = 5 ∧ t.sys.pair.declared = some s.w.frame ∧ t.mode = .shadow ∧ nv = s.nv ∧ s.w.only t [.sys] ∧ s.w.sameBut t [Obj.pairState, Obj.hbPaths] else t.get Obj.pairState = 0 ∧ t.entered .ready 16)) ∧
  (∀ (s : State),
    s.w.get Obj.pairState = 3 → s.w.silent = true → s.w.mode ≠ .shadow → s.w.sys.pair.proposals = [] → 
    DoesNv (.primaryHeartbeatLoss) s (fun nv t =>
      t.get Obj.pairState = 0 ∧ t.mode = s.w.mode ∧ t.ledger.mirrored = [] ∧ nv = s.nv ∧ s.w.only t [.sys, .ledger, .router])) ∧
  (∀ (s : State) (f : Nat),
    s.w.sys.pair.declared = some f → s.w.get Obj.pairState = 5 → s.w.mode = .shadow → f < s.w.frame → 
    Does (.failoverTakeover) s (fun t =>
      t.get Obj.pairState = 0 ∧ (if s.w.capacityLost = true then t.entered .degraded 12 else t.entered .inspect 15) ∧ t.get Obj.failovers = min (s.w.get Obj.failovers + 1) 0xFFFFFFFF ∧ bitOf (t.getN Obj.pairFlags) 0 = true ∧ t.run.started = true ∧ t.ledger.held = [] ∧ t.sys.pair.declared = none))

/-- A doorbell frees slots, rings start and stop, messages are coalesced and held while masked, and the PCIe link falls and comes back. With the
dictionary open and the link up, CI_DOORBELL from CI to PI moves CI, and any other value sets the error and leaves CI. For every state in which a
write over the path is ready: RING_ENABLE and RING_DISABLE of a ring with an ENABLE object are journaled; the ring starts from 0 while the link is
up, or stops with PI and CI kept; for a stream ring DEST has the value from frame p+1 on. COAL_TIME_EXPIRY: PI_SIGNALLED takes PI and the ring's
message is sent or pends. MSIX_UNMASK of the function sends every pending message of an unmasked vector once and no longer holds it; of one vector
while the function is masked it sends nothing. PCIE_LINK_DOWN while up: no ring is enabled, PI and CI stay, the open group of PCIe is gone and a
transfer ends; PCIE_PERST_RELEASE changes nothing but the pin; PCIE_LINK_UP lets the rings that are wanted run on. Nothing else changes. The
model's own readings in it are log entries 18 and 68. -/
def Obligations.RingsAndInterruptsServeTheHost : Prop :=
  (∀ (s : State) (r : Fin 17) (v : BitVec 64),
    s.w.mode.dictOpen = true → s.w.host.linkUp = true → 
    Does (.ciDoorbell r v) s (fun t =>
      t.host = { s.w.host with rings := upd s.w.host.rings r (fun g => if g.ci ≤ v.toNat ∧ v.toNat ≤ g.pi then { g with ci := v.toNat } else { g with ciErr := true }) } ∧ s.w.only t [.host] ∧ s.w.sameBut t [])) ∧
  (∀ (s : State) (path : Path) (r : Fin 17) (k : Nat),
    s.w.ready path = true → ringEnableKey r = some k → 
    DoesNv (.ringEnable path r) s (fun nv t =>
      s.w.obeys t path k 1 [.host, .timers] [k] ∧ t.get k = 1 ∧ nv = s.nv ∧ t.host = { s.w.host with rings := upd s.w.host.rings r (fun _ => if s.w.host.linkUp then { enabled := true } else {}) } ∧ t.timers = s.w.timers)) ∧
  (∀ (s : State) (path : Path) (r : Fin 17) (k : Nat),
    s.w.ready path = true → ringEnableKey r = some k → 
    DoesNv (.ringDisable path r) s (fun nv t =>
      s.w.obeys t path k 0 [.host, .timers] [k] ∧ t.get k = 0 ∧ nv = s.nv ∧ t.host = { s.w.host with rings := upd s.w.host.rings r (fun g => { g with enabled := false }) } ∧ t.running (.coal r) = false)) ∧
  (∀ (s : State) (path : Path) (q : Fin 8),
    s.w.ready path = true → 
    DoesNv (.ringEnable path (5 + q.castLE (by decide))) s (fun nv t =>
      s.w.obeys t path (Obj.dest q) 1 [.changes] [Obj.dest q] ∧ (∀ m, s.w.frame < m → t.valueAt (Obj.dest q) m = 1) ∧ nv = s.nv)) ∧
  (∀ (s : State) (path : Path) (q : Fin 8),
    s.w.ready path = true → 
    DoesNv (.ringDisable path (5 + q.castLE (by decide))) s (fun nv t =>
      s.w.obeys t path (Obj.dest q) 0 [.changes] [Obj.dest q] ∧ (∀ m, s.w.frame < m → t.valueAt (Obj.dest q) m = 0) ∧ nv = s.nv)) ∧
  (∀ (s : State) (r : Fin 17),
    s.w.expired (.coal r) (s.w.getN (Obj.coalTime r) * 1000) = true → 
    Does (.coalTimeExpiry r) s (fun t =>
      t.host.rings = upd s.w.host.rings r (fun g => { g with signalled := g.pi }) ∧ t.running (.coal r) = false ∧ s.w.only t [.host, .timers, .sent] ∧ s.w.sameBut t [] ∧
      (if s.w.host.funcMasked = false ∧ (16 + r.val) ∈ s.w.host.unmasked then t.sent = .msix (16 + r) :: s.w.sent else (16 + r.val) ∈ t.host.pending ∧ t.sent = s.w.sent))) ∧
  (∀ (s : State),
    Does (.msixUnmask none) s (fun t =>
      t.host.funcMasked = false ∧ t.host.pending = s.w.host.pending.filter (fun v => !(decide (v < 192) && s.w.host.unmasked.contains v)) ∧ t.sent.length = s.w.sent.length + ((upTo 192).filter (fun v => s.w.host.pending.contains v && s.w.host.unmasked.contains v)).length ∧ t.host.rings = s.w.host.rings ∧ s.w.only t [.host, .sent] ∧ s.w.sameBut t [])) ∧
  (∀ (s : State) (v : Fin 2048),
    Does (.msixUnmask (some v)) s (fun t =>
      v.val ∈ t.host.unmasked ∧ (s.w.host.funcMasked = true → t.host.pending = s.w.host.pending ∧ t.sent = s.w.sent) ∧ t.host.rings = s.w.host.rings ∧ s.w.only t [.host, .sent] ∧ s.w.sameBut t [])) ∧
  (∀ (s : State) (perst : Bool),
    s.w.host.linkUp = true → 
    Does (.pcieLinkDown perst) s (fun t =>
      t.host.linkUp = false ∧ t.host.rings.length = s.w.host.rings.length ∧ (∀ r : Fin 17, t.ring r = { s.w.ring r with enabled := false }) ∧ t.d.groupPcie.isOpen = false ∧ t.d.dt.busy = false ∧ t.host.hostMem = s.w.host.hostMem ∧ s.w.only t [.host, .timers, .groups, .dt] ∧ s.w.ledger = t.ledger ∧ s.w.sameBut t (Obj.dtStatus :: (upTo 5).map Obj.groupResult ++ (upTo 5).map Obj.groupCount))) ∧
  (∀ (s : State),
    Does (.pciePerstRelease) s (fun t =>
      t = { s.w with host := { s.w.host with perst := true } })) ∧
  (∀ (s : State),
    s.w.host.perst = true → s.w.host.linkUp = false → 
    Does (.pcieLinkUp) s (fun t =>
      t.host.linkUp = true ∧ (∀ r : Fin 17, t.ring r = if s.w.ringWanted r = true then { s.w.ring r with enabled := r.val < s.w.host.rings.length } else s.w.ring r) ∧ s.w.only t [.host] ∧ s.w.sameBut t []))

/-- Ethernet ports report and answer, EtherCAT changes state, its watchdog stops the drives, and process data passes. With the dictionary open.
ETH_LINK_CHANGE: ETH_LINK is the state, or 0 with the port off, and the FEC counters count. With the port up: ARP_REQUEST for its address and
ICMP_ECHO to it of at most 1,472 bytes are answered once, and PAUSE_FRAME only counts in RX_PAUSE. ECAT_STATE_CHANGE one step up or any step down:
ECAT_STATE is the state and a fall to INIT closes the group of CoE. ECAT_WATCHDOG in OP when ECAT_WDT has run out: WATCHDOG is set and the outputs
count as stopped. ECAT_SM2_WRITE in OP: the watchdog starts anew; with nothing mapped nothing else changes, and a single mapped entry of a plain
object of class IMM that has changed is written and journaled over CoE. ECAT_SM3_READ in SAFE-OP and OP: PD_STATUS is formed and one image is
answered. Nothing else changes. The model's own readings in it are log entries 68, 76 and 85. -/
def Obligations.NetworkAndEtherCatServe : Prop :=
  (∀ (s : State) (n : Fin 4) (l : Fin 3) (c u : Nat),
    s.w.mode.dictOpen = true → 
    Does (.ethLinkChange n l c u) s (fun t =>
      t.get (Obj.ethLink n) = (if s.w.confN (Obj.ethMode n) = 0 then 0 else l.val : Nat) ∧ t.get (Obj.fecCorr n) = min (s.w.get (Obj.fecCorr n) + c) 0xFFFFFFFFFFFFFFFF ∧ t.get (Obj.fecUncorr n) = min (s.w.get (Obj.fecUncorr n) + u) 0xFFFFFFFFFFFFFFFF ∧ s.w.only t [] ∧ s.w.sameBut t [Obj.ethLink n, Obj.fecCorr n, Obj.fecUncorr n])) ∧
  (∀ (s : State) (n : Fin 4) (ip fip : BitVec 32) (fmac : BitVec 48),
    s.w.ethUp n = true → s.w.confN (Obj.ethIpv4 n) ≠ 0 → ip.toNat = s.w.confN (Obj.ethIpv4 n) → 
    Does (.arpRequest n ip fip fmac) s (fun t =>
      t = s.w.send (.arpReply n ip.toNat (s.w.ethMac n) fip.toNat fmac.toNat))) ∧
  (∀ (s : State) (n : Fin 4) (ip fip : BitVec 32) (i q : BitVec 16) (b : Bytes),
    s.w.ethUp n = true → s.w.confN (Obj.ethIpv4 n) ≠ 0 → ip.toNat = s.w.confN (Obj.ethIpv4 n) → b.length ≤ 1472 → 
    Does (.icmpEcho n ip fip i q b) s (fun t =>
      t = s.w.send (.echoReply n fip.toNat i.toNat q.toNat b))) ∧
  (∀ (s : State) (n : Fin 4),
    s.w.ethUp n = true → 
    Does (.pauseFrame n) s (fun t =>
      t.get (Obj.rxPause n) = min (s.w.get (Obj.rxPause n) + 1) 0xFFFFFFFF ∧ s.w.only t [] ∧ s.w.sameBut t [Obj.rxPause n])) ∧
  (∀ (s : State) (e : EcatSt),
    s.w.mode.dictOpen = true → s.w.getN Obj.ecatState ≠ ecatCode e → ecatCode e < s.w.getN Obj.ecatState ∨ ecatCode e = 2 * s.w.getN Obj.ecatState → 
    Does (.ecatStateChange e) s (fun t =>
      t.get Obj.ecatState = ecatCode e ∧ t.ecat.rxHeld = [] ∧ t.ecat.stopped = false ∧ t.running .ecatWdt = decide (e = .op) ∧ (e = .init → t.d.groupCoe.isOpen = false) ∧ s.w.only t [.ecat, .timers, .groups] ∧ (e ≠ .init → s.w.sameBut t [Obj.ecatState]))) ∧
  (∀ (s : State),
    s.w.getN Obj.ecatWdt ≠ 0 → s.w.get Obj.ecatState = 8 → s.w.expired .ecatWdt (s.w.getN Obj.ecatWdt * 1000000) = true → 
    Does (.ecatWatchdog) s (fun t =>
      t.ecat.stopped = true ∧ bitOf (t.getN Obj.ecatFlags) 0 = true ∧ t.running .ecatWdt = false ∧ s.w.only t [.ecat, .timers] ∧ s.w.sameBut t [Obj.ecatFlags])) ∧
  (∀ (s : State) (b : Bytes),
    s.w.mode.dictOpen = true → s.w.get Obj.ecatState = 8 → s.w.pdo 0x1600 = [] → 
    DoesNv (.ecatSm2Write b) s (fun nv t =>
      t.ecat = { s.w.ecat with stopped := false } ∧ t.running .ecatWdt = true ∧ nv = s.nv ∧ s.w.only t [.ecat, .timers] ∧ s.w.sameBut t [])) ∧
  (∀ (s : State) (b : Bytes) (key : Nat) (v : Int) (r : ObjRow),
    s.w.ready .coe = true → s.w.get Obj.ecatState = 8 → s.w.pdo 0x1600 = [(0, key, r.typ.size)] → b.length = r.typ.size → plainNum .coe key v r = true → r.effect = .imm → r.typ.decode b = v → s.w.ecat.rxHeld.getD 0 none ≠ some v → 
    DoesNv (.ecatSm2Write b) s (fun nv t =>
      s.w.obeys t .coe key (field (8 * r.typ.size) (r.mask v)) [.ecat, .timers] [key] ∧ t.get key = r.mask v ∧ nv = s.nv ∧ t.ecat.stopped = false ∧ t.running .ecatWdt = true)) ∧
  (∀ (s : State),
    s.w.mode.dictOpen = true → s.w.get Obj.ecatState = 4 ∨ s.w.get Obj.ecatState = 8 → 
    DoesNv (.ecatSm3Read) s (fun nv t =>
      t.sent.length = s.w.sent.length + 1 ∧ nv = s.nv ∧ t.journal = s.w.journal ∧ t.d.changes = s.w.d.changes ∧ (s.w.pdo 0x1A00 = [(0, Obj.pdStatus, 4)] → t.get Obj.pdStatus = s.w.pdStatus ∧ t.sent = .reply .coe (objKey 0x1A00 0) (leBytes 4 s.w.pdStatus) :: s.w.sent ∧ s.w.only t [.ecat, .sent] ∧ s.w.sameBut t [Obj.pdStatus])))

/-- A fuse command burns its fuse once and shows the outcome, a key goes into the lowest empty slot, and the rollback counter rises only to what both
images bear. For every state in which a write over the path is ready, in HOLD or READY. FUSE_DEBUG_LOCK, FUSE_SIGN_PROFILES, FUSE_SIGN_MODELS and
FUSE_REVOKE_KEY are journaled; FUSE_RESULT is 2 for a fuse already burnt, 1 when the read-back is good and the fuse is burnt, and 3 otherwise with
the fuses as they were; POLICY shows the fuses. OWNER_KEY_BURN burns the digest and the valid bit of the lowest empty slot with result 1, and
answers 4 when none is empty. ROLLBACK_COMMIT raises the counter to the lower SVN of two valid images above it with result 1, and answers 6 or 5
where it may not. In every other mode but SHADOW such a command is refused with MODE. No other fuse, no flash and no other part of the state
changes. The model's own readings in it are log entry 58. -/
def Obligations.FusesAreBurntOnceAndStay : Prop :=
  (∀ (s : State) (path : Path) (good : Bool),
    s.w.ready path = true → s.w.mode = .hold ∨ s.w.mode = .ready → 
    DoesNv (.fuseDebugLock path good) s (fun nv t =>
      s.w.obeys t path Obj.fuseCmd 0x4C4B0001 [.blobs] (Obj.fuseResult :: Obj.fwPrefer :: Obj.rollback :: Obj.policy :: Obj.debugState :: (upTo 2).map Obj.fwState ++ (upTo 2).map Obj.fwSvn ++ (upTo 4).map Obj.ownerKeyState) ∧ t.get Obj.fuseResult = (if s.nv.fuses.debugLock = true then 2 else if good = true then 1 else 3) ∧ (s.nv.fuses.debugLock = true ∨ good = true → s.w.get Obj.debugState ≠ 2 → t.get Obj.debugState = 1) ∧
      nv = (if good = true then { s.nv with fuses := { s.nv.fuses with debugLock := true } } else s.nv))) ∧
  (∀ (s : State) (path : Path) (good : Bool),
    s.w.ready path = true → s.w.mode = .hold ∨ s.w.mode = .ready → 
    DoesNv (.fuseSignProfiles path good) s (fun nv t =>
      s.w.obeys t path Obj.fuseCmd 0x4C4B0002 [.blobs] (Obj.fuseResult :: Obj.fwPrefer :: Obj.rollback :: Obj.policy :: Obj.debugState :: (upTo 2).map Obj.fwState ++ (upTo 2).map Obj.fwSvn ++ (upTo 4).map Obj.ownerKeyState) ∧ t.get Obj.fuseResult = (if s.nv.fuses.signProfiles = true then 2 else if good = true then 1 else 3) ∧ bitOf (t.getN Obj.policy) 0 = (s.nv.fuses.signProfiles || good) ∧
      nv = (if good = true then { s.nv with fuses := { s.nv.fuses with signProfiles := true } } else s.nv))) ∧
  (∀ (s : State) (path : Path) (good : Bool),
    s.w.ready path = true → s.w.mode = .hold ∨ s.w.mode = .ready → 
    DoesNv (.fuseSignModels path good) s (fun nv t =>
      s.w.obeys t path Obj.fuseCmd 0x4C4B0003 [.blobs] (Obj.fuseResult :: Obj.fwPrefer :: Obj.rollback :: Obj.policy :: Obj.debugState :: (upTo 2).map Obj.fwState ++ (upTo 2).map Obj.fwSvn ++ (upTo 4).map Obj.ownerKeyState) ∧ t.get Obj.fuseResult = (if s.nv.fuses.signModels = true then 2 else if good = true then 1 else 3) ∧ bitOf (t.getN Obj.policy) 1 = (s.nv.fuses.signModels || good) ∧
      nv = (if good = true then { s.nv with fuses := { s.nv.fuses with signModels := true } } else s.nv))) ∧
  (∀ (s : State) (path : Path) (k : Fin 4) (good : Bool),
    s.w.ready path = true → s.w.mode = .hold ∨ s.w.mode = .ready → 
    DoesNv (.fuseRevokeKey path k good) s (fun nv t =>
      s.w.obeys t path Obj.fuseCmd (0x4C4B0010 + k) [.blobs] (Obj.fuseResult :: Obj.fwPrefer :: Obj.rollback :: Obj.policy :: Obj.debugState :: (upTo 2).map Obj.fwState ++ (upTo 2).map Obj.fwSvn ++ (upTo 4).map Obj.ownerKeyState) ∧ t.get Obj.fuseResult = (if (nth {} s.nv.fuses.keys k).revoked = true then 2 else if good = true then 1 else 3) ∧
      nv = (if good = true then { s.nv with fuses := { s.nv.fuses with keys := upd s.nv.fuses.keys k (fun x => { x with revoked := true }) } } else s.nv))) ∧
  (∀ (s : State) (path : Path) (good : Bool),
    s.w.ready path = true → s.w.mode ≠ .hold → s.w.mode ≠ .ready → s.w.mode ≠ .shadow → 
    DoesNv (.fuseDebugLock path good) s (fun nv t =>
      s.w.refuses t path Obj.fuseCmd .mode ∧ nv = s.nv)) ∧
  (∀ (s : State) (path : Path) (key : Bytes) (good : Bool),
    s.w.ready path = true → s.w.mode = .hold ∨ s.w.mode = .ready → key.length = 1793 → 
    DoesNv (.ownerKeyBurn path key good) s (fun nv t =>
      t.journal.head = s.w.journal.head + 1 ∧ s.w.only t [.journal, .lastRes, .blobs, .changes] ∧ s.w.sameBut t (acceptKeys path ++ (Obj.fuseResult :: Obj.fwPrefer :: Obj.rollback :: Obj.policy :: Obj.debugState :: (upTo 2).map Obj.fwState ++ (upTo 2).map Obj.fwSvn ++ (upTo 4).map Obj.ownerKeyState)) ∧ nv.flash = s.nv.flash ∧
      (∀ k : Fin 4, (∀ j : Fin 4, j < k → (nth {} s.nv.fuses.keys j).empty = false) → (nth {} s.nv.fuses.keys k).empty = true → t.get Obj.fuseResult = (if good = true then 1 else 3) ∧
        nv.fuses = (if good = true then { s.nv.fuses with keys := upd s.nv.fuses.keys k (fun x => { x with digest := shake256 key, valid := true }) } else s.nv.fuses)) ∧
      ((∀ k : Fin 4, (nth {} s.nv.fuses.keys k).empty = false) → t.get Obj.fuseResult = 4 ∧ nv = s.nv))) ∧
  (∀ (s : State) (path : Path) (good : Bool),
    s.w.ready path = true → s.w.mode = .hold ∨ s.w.mode = .ready → 
    DoesNv (.rollbackCommit path good) s (fun nv t =>
      s.w.obeys t path Obj.rollbackCommit 1 [.blobs] (Obj.fuseResult :: Obj.fwPrefer :: Obj.rollback :: Obj.policy :: Obj.debugState :: (upTo 2).map Obj.fwState ++ (upTo 2).map Obj.fwSvn ++ (upTo 4).map Obj.ownerKeyState) ∧ nv.flash = s.nv.flash ∧
      (s.nv.fwState 0 ≠ 1 ∨ s.nv.fwState 1 ≠ 1 → t.get Obj.fuseResult = 6 ∧ nv = s.nv) ∧
      (s.nv.fwState 0 = 1 → s.nv.fwState 1 = 1 → ∀ low : Nat, low = min (fwSvnOf (nth {} s.nv.flash.firmware 0).bytes) (fwSvnOf (nth {} s.nv.flash.firmware 1).bytes) →
        if low ≤ s.nv.fuses.rollback then t.get Obj.fuseResult = 5 ∧ nv = s.nv else t.get Obj.fuseResult = (if good = true then 1 else 3) ∧ nv.fuses = (if good = true then { s.nv.fuses with rollback := low } else s.nv.fuses))))

/-- Firmware is checked and programmed into the slot that does not run, a quote and a debug token answer to keys, and the identity key appears. For
every state in which a write over the path is ready: FW_IMAGE_WRITE of a length the object takes is refused with the code of the first check it
fails, and otherwise the image is in the slot that does not run, being programmed. FW_PROGRAM_DONE: the programming is over and FW_PREFER names
that slot. DEBUG_TOKEN with a valid signature block reopens core debug when it is locked, and with any other block is refused with SIGNATURE.
IDENTITY_KEY_READY, once: IDENTITY_KEY is the device's key. With the dictionary open QUOTE is refused with LOCKED while debug is open by a token
and with BUSY before the key is ready, and is otherwise answered once. No fuse changes and nothing else of the state. The model's own readings in
it are log entries 3 and 59. -/
def Obligations.FirmwareAndIdentityAreTrusted : Prop :=
  (∀ (s : State) (path : Path) (b : Bytes),
    s.w.ready path = true → 3424 ≤ b.length → b.length ≤ 16777216 → 
    DoesNv (.fwImageWrite path b) s (fun nv t =>
      nv.fuses = s.nv.fuses ∧ (fwCheck s.nv s.w b = none → nv = { s.nv with flash := { s.nv.flash with firmware := upd s.nv.flash.firmware s.w.otherImage (fun _ => ⟨b, false⟩), op := some (.firmware s.w.otherImage) } } ∧ t.journal.head = s.w.journal.head + 1 ∧ t.get (Obj.fwState s.w.otherImage) = 6) ∧
      (∀ e ∈ fwCheck s.nv s.w b, s.w.refuses t path Obj.fwImage e ∧ nv = s.nv))) ∧
  (∀ (s : State) (i : Nat),
    s.nv.flash.op = some (.firmware i) → 
    DoesNv (.fwProgramDone) s (fun nv t =>
      nv = { s.nv with flash := { s.nv.flash with op := none, prefer := i } } ∧ t.get Obj.fwPrefer = i ∧ s.w.only t [.blobs] ∧ s.w.sameBut t (Obj.fuseResult :: Obj.fwPrefer :: Obj.rollback :: Obj.policy :: Obj.debugState :: (upTo 2).map Obj.fwState ++ (upTo 2).map Obj.fwSvn ++ (upTo 4).map Obj.ownerKeyState))) ∧
  (∀ (s : State) (path : Path) (b : Bytes),
    s.w.ready path = true → b.length = 3328 → 
    Does (.debugToken path b) s (fun t =>
      if sigValid "TZDEBUG1" Config.glohusKeys s.w.tokenDigest b = true then t.get Obj.debugState = (if s.w.get Obj.debugState = 1 then 2 else s.w.get Obj.debugState) ∧ t.journal.head = s.w.journal.head + 1 ∧ s.w.only t [.journal, .lastRes, .blobs, .changes] ∧ s.w.sameBut t (acceptKeys path ++ [Obj.debugState])
        else s.w.refuses t path Obj.debugToken .signature)) ∧
  (∀ (s : State),
    s.w.mode.dictOpen = true → s.w.sec.keyReady = false → 
    Does (.identityKeyReady) s (fun t =>
      t.sec.keyReady = true ∧ t.blob Obj.identityKey = Config.identityKey ∧ t.blob Obj.identityCert = (if slice s.nv.flash.cert 64 1793 = Config.identityKey then s.nv.flash.cert else []) ∧ s.w.only t [.sec, .blobs] ∧ s.w.sameBut t [])) ∧
  (∀ (s : State) (path : Path),
    s.w.mode.dictOpen = true → 
    DoesNv (.quote path) s (fun nv t =>
      nv = s.nv ∧ (s.w.get Obj.debugState = 2 → s.w.refuses t path Obj.quote .locked) ∧ (s.w.get Obj.debugState ≠ 2 → s.w.sec.keyReady = false → s.w.refuses t path Obj.quote .busy) ∧
      (s.w.get Obj.debugState ≠ 2 → s.w.sec.keyReady = true → t.sent.length = s.w.sent.length + 1 ∧ t.drawCount = s.w.drawCount + 1 ∧ t.lastRes = 0 ∧ s.w.only t [.sent, .draws, .lastRes] ∧ s.w.sameBut t (resultKey path).toList)))

/-- An input leaves or enters its window, the module switches between inputs at once or after its time, and loss or a supply out of range resets it or
parks it. VIN_NOT_GOOD and VIN_GOOD show the level of the input and its judgement; while another input that is in use stays good nothing switches,
and when the input in use fails with the other good the module is on the other, SWITCHOVERS counts and the flag of the direction is set.
VIN_RANGE_TIMEOUT after 1 ms on A out of range with B in range switches to B; RETURN_TO_A after 100 ms switches back. HOLDUP_EXPIRY after 50 µs
without a good input is a cold reset: the module is in RESET by cause 1 and the fuses and the programmed flash stay. SUPPLY_SAFE_TIMEOUT after 10
ms with no switch possible: SAFE with cause 6, from every mode with an open dictionary but SAFE. VIO_FAULT at a level outside a tenth of its
nominal level: VIO_FAULT is set and the module enters SAFE with cause 6. RAILS_GOOD with a good input: the rails count as good. VIO_A_SETTLED
before reset is released, within a band: that band waits for the release. No other part of the state changes. The model's own readings in it are
log entries 81 and 69. -/
def Obligations.SuppliesSwitchAndFail : Prop :=
  (∀ (s : State) (b : Bool) (mv : BitVec 16),
    goodAfter true mv.toNat = false → 
    Does (.vinNotGood b mv) s (fun t =>
      t.get (if b then Obj.vinBMv else Obj.vinAMv) = mv.toNat ∧ t.power = (if b then { s.w.power with goodB := false, rangeB := inRange mv.toNat } else { s.w.power with goodA := false, rangeA := inRange mv.toNat }) ∧ s.w.only t [.power, .timers] ∧ s.w.sameBut t [(if b then Obj.vinBMv else Obj.vinAMv), Obj.supplyInUse, Obj.switchovers, Obj.supplyFlags] ∧
      (s.w.power.good s.w.onB = true → s.w.onB ≠ b → t.get Obj.supplyInUse = s.w.get Obj.supplyInUse ∧ t.get Obj.switchovers = s.w.get Obj.switchovers) ∧
      (s.w.onB = b → s.w.power.good (!b) = true → t.get Obj.supplyInUse = (if b then 0 else 1) ∧ t.get Obj.switchovers = min (s.w.get Obj.switchovers + 1) 0xFFFFFFFF ∧ bitOf (t.getN Obj.supplyFlags) (if b then 1 else 0) = true))) ∧
  (∀ (s : State) (b : Bool) (mv : BitVec 16),
    goodAfter (s.w.power.good b) mv.toNat = true → 
    Does (.vinGood b mv) s (fun t =>
      t.get (if b then Obj.vinBMv else Obj.vinAMv) = mv.toNat ∧ t.power = (if b then { s.w.power with goodB := true, rangeB := inRange mv.toNat } else { s.w.power with goodA := true, rangeA := inRange mv.toNat }) ∧ s.w.only t [.power, .timers] ∧ s.w.sameBut t [(if b then Obj.vinBMv else Obj.vinAMv), Obj.supplyInUse, Obj.switchovers, Obj.supplyFlags] ∧
      (s.w.power.good s.w.onB = true → s.w.onB ≠ b → t.get Obj.supplyInUse = s.w.get Obj.supplyInUse ∧ t.get Obj.switchovers = s.w.get Obj.switchovers))) ∧
  (∀ (s : State),
    s.w.onB = false → s.w.expired .vinRange 1000000 = true → s.w.power.goodB = true → s.w.power.rangeB = true → 
    Does (.vinRangeTimeout) s (fun t =>
      t.get Obj.supplyInUse = 1 ∧ t.get Obj.switchovers = min (s.w.get Obj.switchovers + 1) 0xFFFFFFFF ∧ bitOf (t.getN Obj.supplyFlags) 0 = true ∧ s.w.only t [.timers] ∧ s.w.sameBut t [Obj.supplyInUse, Obj.switchovers, Obj.supplyFlags])) ∧
  (∀ (s : State),
    s.w.onB = true → s.w.expired .returnA 100000000 = true → 
    Does (.returnToA) s (fun t =>
      t.get Obj.supplyInUse = 0 ∧ t.get Obj.switchovers = min (s.w.get Obj.switchovers + 1) 0xFFFFFFFF ∧ bitOf (t.getN Obj.supplyFlags) 1 = true ∧ s.w.only t [.timers] ∧ s.w.sameBut t [Obj.supplyInUse, Obj.switchovers, Obj.supplyFlags])) ∧
  (∀ (s : State),
    s.w.expired .holdup 50000 = true → 
    DoesNv (.holdupExpiry) s (fun nv t =>
      t.entered .reset 1 ∧ t.clk.tb = 0 ∧ t.power.rails = false ∧ t.journal.entries = [] ∧ t.host.hostMem = s.w.host.hostMem ∧ nv.fuses = s.nv.fuses ∧ nv.flash.cert = s.nv.flash.cert ∧ (s.nv.flash.op = none → nv = s.nv))) ∧
  (∀ (s : State),
    s.w.expired .supplyRange 10000000 = true → s.w.onB = true ∨ s.w.power.goodB = false ∨ s.w.power.rangeB = false → s.w.mode.dictOpen = true → s.w.mode ≠ .safe → 
    Does (.supplySafeTimeout) s (fun t =>
      t.entered .safe 17 ∧ t.get Obj.safeCause = 6 ∧ t.power = s.w.power ∧ t.journal = s.w.journal ∧ t.clk = s.w.clk)) ∧
  (∀ (s : State) (b : Bool) (mv : BitVec 16),
    s.w.power.released = true → withinTenth (if b then 1800 else 100 * s.w.getN Obj.vioALevel) mv.toNat = false → s.w.mode.dictOpen = true → s.w.mode ≠ .safe → 
    Does (.vioFault b mv) s (fun t =>
      t.entered .safe 17 ∧ t.get Obj.safeCause = 6 ∧ bitOf (t.getN Obj.supplyFlags) 4 = true ∧ t.get (if b then Obj.vioBMv else Obj.vioAMv) = mv.toNat ∧ t.power = s.w.power ∧ t.journal = s.w.journal)) ∧
  (∀ (s : State),
    s.w.power.goodA = true ∨ s.w.power.goodB = true → 
    Does (.railsGood) s (fun t =>
      t = { s.w with power := { s.w.power with rails := true } })) ∧
  (∀ (s : State) (mv : BitVec 16) (v : Nat),
    v = 18 ∨ v = 25 ∨ v = 33 → withinTenth (100 * v) mv.toNat = true → 
    Does (.vioASettled mv) s (fun t =>
      t.get Obj.vioAMv = mv.toNat ∧ t.power = (if s.w.power.released = true then s.w.power else { s.w.power with vioReady := true, vioLevel := v }) ∧ s.w.only t [.power] ∧ s.w.sameBut t [Obj.vioAMv]))

/-- A lost reference clock takes its links, and each reading shows the temperatures, sets the thermal state and, twice in a row at the limit, shuts
the module down. SERDES_REFCLK_LOSS: every lane that had a signal has none, no Ethernet port is up, and the flag is set. PCIE_REFCLK_LOSS: the
flag is set and the link is down. THERMAL_READING when due, with the dictionary open: TJ is the highest of the pixel dies and the hub, each sensor
shows its own, TJ_PEAK is no lower; below throttling a reading at TJ_THROTTLE begins it, and in SAFE or elsewhere nothing leaves SHUTDOWN.
THERMAL_SHUTDOWN after two readings in a row at TJ_SHUTDOWN: the latch is set, THERM_STATE is 3 and the module enters SAFE with cause 1 unless it
is there. Nothing else of the configuration changes. The model's own readings in it are log entry 86. -/
def Obligations.ClocksAndHeatAreWatched : Prop :=
  (∀ (s : State),
    Does (.serdesRefclkLoss) s (fun t =>
      bitOf (t.getN Obj.clockFlags) 1 = true ∧ (∀ n : Fin 4, t.get (Obj.ethLink n) = 0) ∧ (∀ l : Fin 128, t.laneState l = (if lsCdr ≤ s.w.laneState l then lsNoSignal else s.w.laneState l)) ∧ t.mode = s.w.mode ∧ t.journal = s.w.journal ∧ t.hbm = s.w.hbm ∧ t.host = s.w.host)) ∧
  (∀ (s : State),
    Does (.pcieRefclkLoss) s (fun t =>
      bitOf (t.getN Obj.clockFlags) 2 = true ∧ t.host.linkUp = false ∧ (s.w.host.linkUp = true → ∀ r : Fin 17, (t.ring r).enabled = false ∧ (t.ring r).pi = (s.w.ring r).pi ∧ (t.ring r).ci = (s.w.ring r).ci) ∧ s.w.only t [.host, .timers, .groups, .dt])) ∧
  (∀ (s : State) (d0 d1 d2 d3 h : BitVec 32),
    s.w.power.rails = true → s.w.running .thermal = true → s.w.expired .thermal 100000 = true → s.w.mode.dictOpen = true → 
    Does (.thermalReading d0 d1 d2 d3 h) s (fun t =>
      t.get Obj.tj = ([d0.toInt, d1.toInt, d2.toInt, d3.toInt].foldl max h.toInt) ∧ t.power.tj = ([d0.toInt, d1.toInt, d2.toInt, d3.toInt].foldl max h.toInt) ∧ t.get (Obj.tjPd 0) = d0.toInt ∧ t.get (Obj.tjPd 3) = d3.toInt ∧ t.get Obj.tjHub = h.toInt ∧ t.get Obj.tjPeak = max (s.w.get Obj.tjPeak) ([d0.toInt, d1.toInt, d2.toInt, d3.toInt].foldl max h.toInt) ∧ t.running .thermal = true ∧ t.journal = s.w.journal ∧
      t.power.hot = (if s.w.get Obj.tjShutdown ≤ ([d0.toInt, d1.toInt, d2.toInt, d3.toInt].foldl max h.toInt) then s.w.power.hot + 1 else 0) ∧ (s.w.get Obj.thermState = 3 → t.get Obj.thermState = 3) ∧ (s.w.get Obj.thermState ≠ 2 → s.w.get Obj.thermState ≠ 3 → s.w.get Obj.tjThrottle ≤ ([d0.toInt, d1.toInt, d2.toInt, d3.toInt].foldl max h.toInt) → t.get Obj.thermState = 2 ∧ bitOf (t.getN Obj.thermFlags) 1 = true ∧ t.mode = (if s.w.mode = .inspect then .degraded else s.w.mode)) ∧
      (s.w.get Obj.thermState = 0 → ([d0.toInt, d1.toInt, d2.toInt, d3.toInt].foldl max h.toInt) < s.w.get Obj.tjThrottle → t.mode = s.w.mode ∧ t.get Obj.thermState = (if s.w.get Obj.tjWarn ≤ ([d0.toInt, d1.toInt, d2.toInt, d3.toInt].foldl max h.toInt) then 1 else 0) ∧ s.w.only t [.power, .timers] ∧ s.w.sameBut t [Obj.tj, Obj.tjPd 0, Obj.tjPd 1, Obj.tjPd 2, Obj.tjPd 3, Obj.tjHub, Obj.tjPeak, Obj.thermState, Obj.thermFlags, Obj.lifeEquiv, Obj.opHours]))) ∧
  (∀ (s : State),
    2 ≤ s.w.power.hot → s.w.run.latch = false → s.w.mode.dictOpen = true → 
    Does (.thermalShutdown) s (fun t =>
      t.run.latch = true ∧ t.get Obj.thermState = 3 ∧ bitOf (t.getN Obj.thermFlags) 2 = true ∧ t.mode = .safe ∧ (s.w.mode ≠ .safe → t.entered .safe 17 ∧ t.get Obj.safeCause = 1) ∧ t.power = s.w.power ∧ t.journal = s.w.journal))
end

