-- ==== Sys2Proof/Laws/State.lean ====
section
/-! SUPPORT. One lemma for each field of the working state and each plain update: what the update leaves alone. -/
namespace Sys2Proof.Machine

variable (w : Work)

/-! ### set -/

@[simp] theorem Work.set_mode (k : Nat) (v : Int) : (w.set k v).mode = w.mode := rfl
@[simp] theorem Work.set_clk (k : Nat) (v : Int) : (w.set k v).clk = w.clk := rfl
@[simp] theorem Work.set_timers (k : Nat) (v : Int) : (w.set k v).timers = w.timers := rfl
@[simp] theorem Work.set_journal (k : Nat) (v : Int) : (w.set k v).journal = w.journal := rfl
@[simp] theorem Work.set_router (k : Nat) (v : Int) : (w.set k v).router = w.router := rfl
@[simp] theorem Work.set_host (k : Nat) (v : Int) : (w.set k v).host = w.host := rfl
@[simp] theorem Work.set_net (k : Nat) (v : Int) : (w.set k v).net = w.net := rfl
@[simp] theorem Work.set_ecat (k : Nat) (v : Int) : (w.set k v).ecat = w.ecat := rfl
@[simp] theorem Work.set_ledger (k : Nat) (v : Int) : (w.set k v).ledger = w.ledger := rfl
@[simp] theorem Work.set_posIn (k : Nat) (v : Int) : (w.set k v).posIn = w.posIn := rfl
@[simp] theorem Work.set_axis (k : Nat) (v : Int) : (w.set k v).axis = w.axis := rfl
@[simp] theorem Work.set_lanes (k : Nat) (v : Int) : (w.set k v).lanes = w.lanes := rfl
@[simp] theorem Work.set_run (k : Nat) (v : Int) : (w.set k v).run = w.run := rfl
@[simp] theorem Work.set_ports (k : Nat) (v : Int) : (w.set k v).ports = w.ports := rfl
@[simp] theorem Work.set_fuller (k : Nat) (v : Int) : (w.set k v).fuller = w.fuller := rfl
@[simp] theorem Work.set_cal (k : Nat) (v : Int) : (w.set k v).cal = w.cal := rfl
@[simp] theorem Work.set_calDev (k : Nat) (v : Int) : (w.set k v).calDev = w.calDev := rfl
@[simp] theorem Work.set_hbm (k : Nat) (v : Int) : (w.set k v).hbm = w.hbm := rfl
@[simp] theorem Work.set_loom (k : Nat) (v : Int) : (w.set k v).loom = w.loom := rfl
@[simp] theorem Work.set_stats (k : Nat) (v : Int) : (w.set k v).stats = w.stats := rfl
@[simp] theorem Work.set_markers (k : Nat) (v : Int) : (w.set k v).markers = w.markers := rfl
@[simp] theorem Work.set_axes (k : Nat) (v : Int) : (w.set k v).axes = w.axes := rfl
@[simp] theorem Work.set_seg (k : Nat) (v : Int) : (w.set k v).seg = w.seg := rfl
@[simp] theorem Work.set_cls (k : Nat) (v : Int) : (w.set k v).cls = w.cls := rfl
@[simp] theorem Work.set_place (k : Nat) (v : Int) : (w.set k v).place = w.place := rfl
@[simp] theorem Work.set_sec (k : Nat) (v : Int) : (w.set k v).sec = w.sec := rfl
@[simp] theorem Work.set_power (k : Nat) (v : Int) : (w.set k v).power = w.power := rfl
@[simp] theorem Work.set_sys (k : Nat) (v : Int) : (w.set k v).sys = w.sys := rfl
@[simp] theorem Work.set_streams (k : Nat) (v : Int) : (w.set k v).streams = w.streams := rfl
@[simp] theorem Work.set_scratch (k : Nat) (v : Int) : (w.set k v).scratch = w.scratch := rfl
@[simp] theorem Work.set_queues (k : Nat) (v : Int) : (w.set k v).queues = w.queues := rfl
@[simp] theorem Work.set_dma (k : Nat) (v : Int) : (w.set k v).dma = w.dma := rfl
@[simp] theorem Work.set_lastRes (k : Nat) (v : Int) : (w.set k v).lastRes = w.lastRes := rfl
@[simp] theorem Work.set_sent (k : Nat) (v : Int) : (w.set k v).sent = w.sent := rfl
@[simp] theorem Work.set_drawCount (k : Nat) (v : Int) : (w.set k v).drawCount = w.drawCount := rfl
@[simp] theorem Work.set_freeCount (k : Nat) (v : Int) : (w.set k v).freeCount = w.freeCount := rfl
@[simp] theorem Work.set_d_conf (k : Nat) (v : Int) : (w.set k v).d.conf = w.d.conf := rfl
@[simp] theorem Work.set_d_changes (k : Nat) (v : Int) : (w.set k v).d.changes = w.d.changes := rfl
@[simp] theorem Work.set_d_blobs (k : Nat) (v : Int) : (w.set k v).d.blobs = w.d.blobs := rfl
@[simp] theorem Work.set_d_blobConf (k : Nat) (v : Int) : (w.set k v).d.blobConf = w.d.blobConf := rfl
@[simp] theorem Work.set_d_blobChanges (k : Nat) (v : Int) : (w.set k v).d.blobChanges = w.d.blobChanges := rfl
@[simp] theorem Work.set_d_groupPcie (k : Nat) (v : Int) : (w.set k v).d.groupPcie = w.d.groupPcie := rfl
@[simp] theorem Work.set_d_groupCoe (k : Nat) (v : Int) : (w.set k v).d.groupCoe = w.d.groupCoe := rfl
@[simp] theorem Work.set_d_groupYal (k : Nat) (v : Int) : (w.set k v).d.groupYal = w.d.groupYal := rfl
@[simp] theorem Work.set_d_dt (k : Nat) (v : Int) : (w.set k v).d.dt = w.d.dt := rfl

/-! ### setBlob -/

@[simp] theorem Work.setBlob_mode (k : Nat) (b : Bytes) : (w.setBlob k b).mode = w.mode := rfl
@[simp] theorem Work.setBlob_clk (k : Nat) (b : Bytes) : (w.setBlob k b).clk = w.clk := rfl
@[simp] theorem Work.setBlob_timers (k : Nat) (b : Bytes) : (w.setBlob k b).timers = w.timers := rfl
@[simp] theorem Work.setBlob_journal (k : Nat) (b : Bytes) : (w.setBlob k b).journal = w.journal := rfl
@[simp] theorem Work.setBlob_router (k : Nat) (b : Bytes) : (w.setBlob k b).router = w.router := rfl
@[simp] theorem Work.setBlob_host (k : Nat) (b : Bytes) : (w.setBlob k b).host = w.host := rfl
@[simp] theorem Work.setBlob_net (k : Nat) (b : Bytes) : (w.setBlob k b).net = w.net := rfl
@[simp] theorem Work.setBlob_ecat (k : Nat) (b : Bytes) : (w.setBlob k b).ecat = w.ecat := rfl
@[simp] theorem Work.setBlob_ledger (k : Nat) (b : Bytes) : (w.setBlob k b).ledger = w.ledger := rfl
@[simp] theorem Work.setBlob_posIn (k : Nat) (b : Bytes) : (w.setBlob k b).posIn = w.posIn := rfl
@[simp] theorem Work.setBlob_axis (k : Nat) (b : Bytes) : (w.setBlob k b).axis = w.axis := rfl
@[simp] theorem Work.setBlob_lanes (k : Nat) (b : Bytes) : (w.setBlob k b).lanes = w.lanes := rfl
@[simp] theorem Work.setBlob_run (k : Nat) (b : Bytes) : (w.setBlob k b).run = w.run := rfl
@[simp] theorem Work.setBlob_ports (k : Nat) (b : Bytes) : (w.setBlob k b).ports = w.ports := rfl
@[simp] theorem Work.setBlob_fuller (k : Nat) (b : Bytes) : (w.setBlob k b).fuller = w.fuller := rfl
@[simp] theorem Work.setBlob_cal (k : Nat) (b : Bytes) : (w.setBlob k b).cal = w.cal := rfl
@[simp] theorem Work.setBlob_calDev (k : Nat) (b : Bytes) : (w.setBlob k b).calDev = w.calDev := rfl
@[simp] theorem Work.setBlob_hbm (k : Nat) (b : Bytes) : (w.setBlob k b).hbm = w.hbm := rfl
@[simp] theorem Work.setBlob_loom (k : Nat) (b : Bytes) : (w.setBlob k b).loom = w.loom := rfl
@[simp] theorem Work.setBlob_stats (k : Nat) (b : Bytes) : (w.setBlob k b).stats = w.stats := rfl
@[simp] theorem Work.setBlob_markers (k : Nat) (b : Bytes) : (w.setBlob k b).markers = w.markers := rfl
@[simp] theorem Work.setBlob_axes (k : Nat) (b : Bytes) : (w.setBlob k b).axes = w.axes := rfl
@[simp] theorem Work.setBlob_seg (k : Nat) (b : Bytes) : (w.setBlob k b).seg = w.seg := rfl
@[simp] theorem Work.setBlob_cls (k : Nat) (b : Bytes) : (w.setBlob k b).cls = w.cls := rfl
@[simp] theorem Work.setBlob_place (k : Nat) (b : Bytes) : (w.setBlob k b).place = w.place := rfl
@[simp] theorem Work.setBlob_sec (k : Nat) (b : Bytes) : (w.setBlob k b).sec = w.sec := rfl
@[simp] theorem Work.setBlob_power (k : Nat) (b : Bytes) : (w.setBlob k b).power = w.power := rfl
@[simp] theorem Work.setBlob_sys (k : Nat) (b : Bytes) : (w.setBlob k b).sys = w.sys := rfl
@[simp] theorem Work.setBlob_streams (k : Nat) (b : Bytes) : (w.setBlob k b).streams = w.streams := rfl
@[simp] theorem Work.setBlob_scratch (k : Nat) (b : Bytes) : (w.setBlob k b).scratch = w.scratch := rfl
@[simp] theorem Work.setBlob_queues (k : Nat) (b : Bytes) : (w.setBlob k b).queues = w.queues := rfl
@[simp] theorem Work.setBlob_dma (k : Nat) (b : Bytes) : (w.setBlob k b).dma = w.dma := rfl
@[simp] theorem Work.setBlob_lastRes (k : Nat) (b : Bytes) : (w.setBlob k b).lastRes = w.lastRes := rfl
@[simp] theorem Work.setBlob_sent (k : Nat) (b : Bytes) : (w.setBlob k b).sent = w.sent := rfl
@[simp] theorem Work.setBlob_drawCount (k : Nat) (b : Bytes) : (w.setBlob k b).drawCount = w.drawCount := rfl
@[simp] theorem Work.setBlob_freeCount (k : Nat) (b : Bytes) : (w.setBlob k b).freeCount = w.freeCount := rfl
@[simp] theorem Work.setBlob_d_conf (k : Nat) (b : Bytes) : (w.setBlob k b).d.conf = w.d.conf := rfl
@[simp] theorem Work.setBlob_d_changes (k : Nat) (b : Bytes) : (w.setBlob k b).d.changes = w.d.changes := rfl
@[simp] theorem Work.setBlob_d_blobConf (k : Nat) (b : Bytes) : (w.setBlob k b).d.blobConf = w.d.blobConf := rfl
@[simp] theorem Work.setBlob_d_blobChanges (k : Nat) (b : Bytes) : (w.setBlob k b).d.blobChanges = w.d.blobChanges := rfl
@[simp] theorem Work.setBlob_d_groupPcie (k : Nat) (b : Bytes) : (w.setBlob k b).d.groupPcie = w.d.groupPcie := rfl
@[simp] theorem Work.setBlob_d_groupCoe (k : Nat) (b : Bytes) : (w.setBlob k b).d.groupCoe = w.d.groupCoe := rfl
@[simp] theorem Work.setBlob_d_groupYal (k : Nat) (b : Bytes) : (w.setBlob k b).d.groupYal = w.d.groupYal := rfl
@[simp] theorem Work.setBlob_d_dt (k : Nat) (b : Bytes) : (w.setBlob k b).d.dt = w.d.dt := rfl

/-! ### addChange -/

@[simp] theorem Work.addChange_mode (n k : Nat) (v : Int) : (w.addChange n k v).mode = w.mode := rfl
@[simp] theorem Work.addChange_clk (n k : Nat) (v : Int) : (w.addChange n k v).clk = w.clk := rfl
@[simp] theorem Work.addChange_timers (n k : Nat) (v : Int) : (w.addChange n k v).timers = w.timers := rfl
@[simp] theorem Work.addChange_journal (n k : Nat) (v : Int) : (w.addChange n k v).journal = w.journal := rfl
@[simp] theorem Work.addChange_router (n k : Nat) (v : Int) : (w.addChange n k v).router = w.router := rfl
@[simp] theorem Work.addChange_host (n k : Nat) (v : Int) : (w.addChange n k v).host = w.host := rfl
@[simp] theorem Work.addChange_net (n k : Nat) (v : Int) : (w.addChange n k v).net = w.net := rfl
@[simp] theorem Work.addChange_ecat (n k : Nat) (v : Int) : (w.addChange n k v).ecat = w.ecat := rfl
@[simp] theorem Work.addChange_ledger (n k : Nat) (v : Int) : (w.addChange n k v).ledger = w.ledger := rfl
@[simp] theorem Work.addChange_posIn (n k : Nat) (v : Int) : (w.addChange n k v).posIn = w.posIn := rfl
@[simp] theorem Work.addChange_axis (n k : Nat) (v : Int) : (w.addChange n k v).axis = w.axis := rfl
@[simp] theorem Work.addChange_lanes (n k : Nat) (v : Int) : (w.addChange n k v).lanes = w.lanes := rfl
@[simp] theorem Work.addChange_run (n k : Nat) (v : Int) : (w.addChange n k v).run = w.run := rfl
@[simp] theorem Work.addChange_ports (n k : Nat) (v : Int) : (w.addChange n k v).ports = w.ports := rfl
@[simp] theorem Work.addChange_fuller (n k : Nat) (v : Int) : (w.addChange n k v).fuller = w.fuller := rfl
@[simp] theorem Work.addChange_cal (n k : Nat) (v : Int) : (w.addChange n k v).cal = w.cal := rfl
@[simp] theorem Work.addChange_calDev (n k : Nat) (v : Int) : (w.addChange n k v).calDev = w.calDev := rfl
@[simp] theorem Work.addChange_hbm (n k : Nat) (v : Int) : (w.addChange n k v).hbm = w.hbm := rfl
@[simp] theorem Work.addChange_loom (n k : Nat) (v : Int) : (w.addChange n k v).loom = w.loom := rfl
@[simp] theorem Work.addChange_stats (n k : Nat) (v : Int) : (w.addChange n k v).stats = w.stats := rfl
@[simp] theorem Work.addChange_markers (n k : Nat) (v : Int) : (w.addChange n k v).markers = w.markers := rfl
@[simp] theorem Work.addChange_axes (n k : Nat) (v : Int) : (w.addChange n k v).axes = w.axes := rfl
@[simp] theorem Work.addChange_seg (n k : Nat) (v : Int) : (w.addChange n k v).seg = w.seg := rfl
@[simp] theorem Work.addChange_cls (n k : Nat) (v : Int) : (w.addChange n k v).cls = w.cls := rfl
@[simp] theorem Work.addChange_place (n k : Nat) (v : Int) : (w.addChange n k v).place = w.place := rfl
@[simp] theorem Work.addChange_sec (n k : Nat) (v : Int) : (w.addChange n k v).sec = w.sec := rfl
@[simp] theorem Work.addChange_power (n k : Nat) (v : Int) : (w.addChange n k v).power = w.power := rfl
@[simp] theorem Work.addChange_sys (n k : Nat) (v : Int) : (w.addChange n k v).sys = w.sys := rfl
@[simp] theorem Work.addChange_streams (n k : Nat) (v : Int) : (w.addChange n k v).streams = w.streams := rfl
@[simp] theorem Work.addChange_scratch (n k : Nat) (v : Int) : (w.addChange n k v).scratch = w.scratch := rfl
@[simp] theorem Work.addChange_queues (n k : Nat) (v : Int) : (w.addChange n k v).queues = w.queues := rfl
@[simp] theorem Work.addChange_dma (n k : Nat) (v : Int) : (w.addChange n k v).dma = w.dma := rfl
@[simp] theorem Work.addChange_lastRes (n k : Nat) (v : Int) : (w.addChange n k v).lastRes = w.lastRes := rfl
@[simp] theorem Work.addChange_sent (n k : Nat) (v : Int) : (w.addChange n k v).sent = w.sent := rfl
@[simp] theorem Work.addChange_drawCount (n k : Nat) (v : Int) : (w.addChange n k v).drawCount = w.drawCount := rfl
@[simp] theorem Work.addChange_freeCount (n k : Nat) (v : Int) : (w.addChange n k v).freeCount = w.freeCount := rfl
@[simp] theorem Work.addChange_d_conf (n k : Nat) (v : Int) : (w.addChange n k v).d.conf = w.d.conf := rfl
@[simp] theorem Work.addChange_d_blobs (n k : Nat) (v : Int) : (w.addChange n k v).d.blobs = w.d.blobs := rfl
@[simp] theorem Work.addChange_d_blobConf (n k : Nat) (v : Int) : (w.addChange n k v).d.blobConf = w.d.blobConf := rfl
@[simp] theorem Work.addChange_d_blobChanges (n k : Nat) (v : Int) : (w.addChange n k v).d.blobChanges = w.d.blobChanges := rfl
@[simp] theorem Work.addChange_d_groupPcie (n k : Nat) (v : Int) : (w.addChange n k v).d.groupPcie = w.d.groupPcie := rfl
@[simp] theorem Work.addChange_d_groupCoe (n k : Nat) (v : Int) : (w.addChange n k v).d.groupCoe = w.d.groupCoe := rfl
@[simp] theorem Work.addChange_d_groupYal (n k : Nat) (v : Int) : (w.addChange n k v).d.groupYal = w.d.groupYal := rfl
@[simp] theorem Work.addChange_d_dt (n k : Nat) (v : Int) : (w.addChange n k v).d.dt = w.d.dt := rfl

/-! ### addBlobChange -/

@[simp] theorem Work.addBlobChange_mode (n k : Nat) (b : Bytes) : (w.addBlobChange n k b).mode = w.mode := rfl
@[simp] theorem Work.addBlobChange_clk (n k : Nat) (b : Bytes) : (w.addBlobChange n k b).clk = w.clk := rfl
@[simp] theorem Work.addBlobChange_timers (n k : Nat) (b : Bytes) : (w.addBlobChange n k b).timers = w.timers := rfl
@[simp] theorem Work.addBlobChange_journal (n k : Nat) (b : Bytes) : (w.addBlobChange n k b).journal = w.journal := rfl
@[simp] theorem Work.addBlobChange_router (n k : Nat) (b : Bytes) : (w.addBlobChange n k b).router = w.router := rfl
@[simp] theorem Work.addBlobChange_host (n k : Nat) (b : Bytes) : (w.addBlobChange n k b).host = w.host := rfl
@[simp] theorem Work.addBlobChange_net (n k : Nat) (b : Bytes) : (w.addBlobChange n k b).net = w.net := rfl
@[simp] theorem Work.addBlobChange_ecat (n k : Nat) (b : Bytes) : (w.addBlobChange n k b).ecat = w.ecat := rfl
@[simp] theorem Work.addBlobChange_ledger (n k : Nat) (b : Bytes) : (w.addBlobChange n k b).ledger = w.ledger := rfl
@[simp] theorem Work.addBlobChange_posIn (n k : Nat) (b : Bytes) : (w.addBlobChange n k b).posIn = w.posIn := rfl
@[simp] theorem Work.addBlobChange_axis (n k : Nat) (b : Bytes) : (w.addBlobChange n k b).axis = w.axis := rfl
@[simp] theorem Work.addBlobChange_lanes (n k : Nat) (b : Bytes) : (w.addBlobChange n k b).lanes = w.lanes := rfl
@[simp] theorem Work.addBlobChange_run (n k : Nat) (b : Bytes) : (w.addBlobChange n k b).run = w.run := rfl
@[simp] theorem Work.addBlobChange_ports (n k : Nat) (b : Bytes) : (w.addBlobChange n k b).ports = w.ports := rfl
@[simp] theorem Work.addBlobChange_fuller (n k : Nat) (b : Bytes) : (w.addBlobChange n k b).fuller = w.fuller := rfl
@[simp] theorem Work.addBlobChange_cal (n k : Nat) (b : Bytes) : (w.addBlobChange n k b).cal = w.cal := rfl
@[simp] theorem Work.addBlobChange_calDev (n k : Nat) (b : Bytes) : (w.addBlobChange n k b).calDev = w.calDev := rfl
@[simp] theorem Work.addBlobChange_hbm (n k : Nat) (b : Bytes) : (w.addBlobChange n k b).hbm = w.hbm := rfl
@[simp] theorem Work.addBlobChange_loom (n k : Nat) (b : Bytes) : (w.addBlobChange n k b).loom = w.loom := rfl
@[simp] theorem Work.addBlobChange_stats (n k : Nat) (b : Bytes) : (w.addBlobChange n k b).stats = w.stats := rfl
@[simp] theorem Work.addBlobChange_markers (n k : Nat) (b : Bytes) : (w.addBlobChange n k b).markers = w.markers := rfl
@[simp] theorem Work.addBlobChange_axes (n k : Nat) (b : Bytes) : (w.addBlobChange n k b).axes = w.axes := rfl
@[simp] theorem Work.addBlobChange_seg (n k : Nat) (b : Bytes) : (w.addBlobChange n k b).seg = w.seg := rfl
@[simp] theorem Work.addBlobChange_cls (n k : Nat) (b : Bytes) : (w.addBlobChange n k b).cls = w.cls := rfl
@[simp] theorem Work.addBlobChange_place (n k : Nat) (b : Bytes) : (w.addBlobChange n k b).place = w.place := rfl
@[simp] theorem Work.addBlobChange_sec (n k : Nat) (b : Bytes) : (w.addBlobChange n k b).sec = w.sec := rfl
@[simp] theorem Work.addBlobChange_power (n k : Nat) (b : Bytes) : (w.addBlobChange n k b).power = w.power := rfl
@[simp] theorem Work.addBlobChange_sys (n k : Nat) (b : Bytes) : (w.addBlobChange n k b).sys = w.sys := rfl
@[simp] theorem Work.addBlobChange_streams (n k : Nat) (b : Bytes) : (w.addBlobChange n k b).streams = w.streams := rfl
@[simp] theorem Work.addBlobChange_scratch (n k : Nat) (b : Bytes) : (w.addBlobChange n k b).scratch = w.scratch := rfl
@[simp] theorem Work.addBlobChange_queues (n k : Nat) (b : Bytes) : (w.addBlobChange n k b).queues = w.queues := rfl
@[simp] theorem Work.addBlobChange_dma (n k : Nat) (b : Bytes) : (w.addBlobChange n k b).dma = w.dma := rfl
@[simp] theorem Work.addBlobChange_lastRes (n k : Nat) (b : Bytes) : (w.addBlobChange n k b).lastRes = w.lastRes := rfl
@[simp] theorem Work.addBlobChange_sent (n k : Nat) (b : Bytes) : (w.addBlobChange n k b).sent = w.sent := rfl
@[simp] theorem Work.addBlobChange_drawCount (n k : Nat) (b : Bytes) : (w.addBlobChange n k b).drawCount = w.drawCount := rfl
@[simp] theorem Work.addBlobChange_freeCount (n k : Nat) (b : Bytes) : (w.addBlobChange n k b).freeCount = w.freeCount := rfl
@[simp] theorem Work.addBlobChange_d_conf (n k : Nat) (b : Bytes) : (w.addBlobChange n k b).d.conf = w.d.conf := rfl
@[simp] theorem Work.addBlobChange_d_changes (n k : Nat) (b : Bytes) : (w.addBlobChange n k b).d.changes = w.d.changes := rfl
@[simp] theorem Work.addBlobChange_d_blobs (n k : Nat) (b : Bytes) : (w.addBlobChange n k b).d.blobs = w.d.blobs := rfl
@[simp] theorem Work.addBlobChange_d_blobConf (n k : Nat) (b : Bytes) : (w.addBlobChange n k b).d.blobConf = w.d.blobConf := rfl
@[simp] theorem Work.addBlobChange_d_groupPcie (n k : Nat) (b : Bytes) : (w.addBlobChange n k b).d.groupPcie = w.d.groupPcie := rfl
@[simp] theorem Work.addBlobChange_d_groupCoe (n k : Nat) (b : Bytes) : (w.addBlobChange n k b).d.groupCoe = w.d.groupCoe := rfl
@[simp] theorem Work.addBlobChange_d_groupYal (n k : Nat) (b : Bytes) : (w.addBlobChange n k b).d.groupYal = w.d.groupYal := rfl
@[simp] theorem Work.addBlobChange_d_dt (n k : Nat) (b : Bytes) : (w.addBlobChange n k b).d.dt = w.d.dt := rfl

/-! ### flag -/

@[simp] theorem Work.flag_mode (k m : Nat) : (w.flag k m).mode = w.mode := rfl
@[simp] theorem Work.flag_clk (k m : Nat) : (w.flag k m).clk = w.clk := rfl
@[simp] theorem Work.flag_timers (k m : Nat) : (w.flag k m).timers = w.timers := rfl
@[simp] theorem Work.flag_journal (k m : Nat) : (w.flag k m).journal = w.journal := rfl
@[simp] theorem Work.flag_router (k m : Nat) : (w.flag k m).router = w.router := rfl
@[simp] theorem Work.flag_host (k m : Nat) : (w.flag k m).host = w.host := rfl
@[simp] theorem Work.flag_net (k m : Nat) : (w.flag k m).net = w.net := rfl
@[simp] theorem Work.flag_ecat (k m : Nat) : (w.flag k m).ecat = w.ecat := rfl
@[simp] theorem Work.flag_ledger (k m : Nat) : (w.flag k m).ledger = w.ledger := rfl
@[simp] theorem Work.flag_posIn (k m : Nat) : (w.flag k m).posIn = w.posIn := rfl
@[simp] theorem Work.flag_axis (k m : Nat) : (w.flag k m).axis = w.axis := rfl
@[simp] theorem Work.flag_lanes (k m : Nat) : (w.flag k m).lanes = w.lanes := rfl
@[simp] theorem Work.flag_run (k m : Nat) : (w.flag k m).run = w.run := rfl
@[simp] theorem Work.flag_ports (k m : Nat) : (w.flag k m).ports = w.ports := rfl
@[simp] theorem Work.flag_fuller (k m : Nat) : (w.flag k m).fuller = w.fuller := rfl
@[simp] theorem Work.flag_cal (k m : Nat) : (w.flag k m).cal = w.cal := rfl
@[simp] theorem Work.flag_calDev (k m : Nat) : (w.flag k m).calDev = w.calDev := rfl
@[simp] theorem Work.flag_hbm (k m : Nat) : (w.flag k m).hbm = w.hbm := rfl
@[simp] theorem Work.flag_loom (k m : Nat) : (w.flag k m).loom = w.loom := rfl
@[simp] theorem Work.flag_stats (k m : Nat) : (w.flag k m).stats = w.stats := rfl
@[simp] theorem Work.flag_markers (k m : Nat) : (w.flag k m).markers = w.markers := rfl
@[simp] theorem Work.flag_axes (k m : Nat) : (w.flag k m).axes = w.axes := rfl
@[simp] theorem Work.flag_seg (k m : Nat) : (w.flag k m).seg = w.seg := rfl
@[simp] theorem Work.flag_cls (k m : Nat) : (w.flag k m).cls = w.cls := rfl
@[simp] theorem Work.flag_place (k m : Nat) : (w.flag k m).place = w.place := rfl
@[simp] theorem Work.flag_sec (k m : Nat) : (w.flag k m).sec = w.sec := rfl
@[simp] theorem Work.flag_power (k m : Nat) : (w.flag k m).power = w.power := rfl
@[simp] theorem Work.flag_sys (k m : Nat) : (w.flag k m).sys = w.sys := rfl
@[simp] theorem Work.flag_streams (k m : Nat) : (w.flag k m).streams = w.streams := rfl
@[simp] theorem Work.flag_scratch (k m : Nat) : (w.flag k m).scratch = w.scratch := rfl
@[simp] theorem Work.flag_queues (k m : Nat) : (w.flag k m).queues = w.queues := rfl
@[simp] theorem Work.flag_dma (k m : Nat) : (w.flag k m).dma = w.dma := rfl
@[simp] theorem Work.flag_lastRes (k m : Nat) : (w.flag k m).lastRes = w.lastRes := rfl
@[simp] theorem Work.flag_sent (k m : Nat) : (w.flag k m).sent = w.sent := rfl
@[simp] theorem Work.flag_drawCount (k m : Nat) : (w.flag k m).drawCount = w.drawCount := rfl
@[simp] theorem Work.flag_freeCount (k m : Nat) : (w.flag k m).freeCount = w.freeCount := rfl
@[simp] theorem Work.flag_d_conf (k m : Nat) : (w.flag k m).d.conf = w.d.conf := rfl
@[simp] theorem Work.flag_d_changes (k m : Nat) : (w.flag k m).d.changes = w.d.changes := rfl
@[simp] theorem Work.flag_d_blobs (k m : Nat) : (w.flag k m).d.blobs = w.d.blobs := rfl
@[simp] theorem Work.flag_d_blobConf (k m : Nat) : (w.flag k m).d.blobConf = w.d.blobConf := rfl
@[simp] theorem Work.flag_d_blobChanges (k m : Nat) : (w.flag k m).d.blobChanges = w.d.blobChanges := rfl
@[simp] theorem Work.flag_d_groupPcie (k m : Nat) : (w.flag k m).d.groupPcie = w.d.groupPcie := rfl
@[simp] theorem Work.flag_d_groupCoe (k m : Nat) : (w.flag k m).d.groupCoe = w.d.groupCoe := rfl
@[simp] theorem Work.flag_d_groupYal (k m : Nat) : (w.flag k m).d.groupYal = w.d.groupYal := rfl
@[simp] theorem Work.flag_d_dt (k m : Nat) : (w.flag k m).d.dt = w.d.dt := rfl

/-! ### unflag -/

@[simp] theorem Work.unflag_mode (k m : Nat) : (w.unflag k m).mode = w.mode := rfl
@[simp] theorem Work.unflag_clk (k m : Nat) : (w.unflag k m).clk = w.clk := rfl
@[simp] theorem Work.unflag_timers (k m : Nat) : (w.unflag k m).timers = w.timers := rfl
@[simp] theorem Work.unflag_journal (k m : Nat) : (w.unflag k m).journal = w.journal := rfl
@[simp] theorem Work.unflag_router (k m : Nat) : (w.unflag k m).router = w.router := rfl
@[simp] theorem Work.unflag_host (k m : Nat) : (w.unflag k m).host = w.host := rfl
@[simp] theorem Work.unflag_net (k m : Nat) : (w.unflag k m).net = w.net := rfl
@[simp] theorem Work.unflag_ecat (k m : Nat) : (w.unflag k m).ecat = w.ecat := rfl
@[simp] theorem Work.unflag_ledger (k m : Nat) : (w.unflag k m).ledger = w.ledger := rfl
@[simp] theorem Work.unflag_posIn (k m : Nat) : (w.unflag k m).posIn = w.posIn := rfl
@[simp] theorem Work.unflag_axis (k m : Nat) : (w.unflag k m).axis = w.axis := rfl
@[simp] theorem Work.unflag_lanes (k m : Nat) : (w.unflag k m).lanes = w.lanes := rfl
@[simp] theorem Work.unflag_run (k m : Nat) : (w.unflag k m).run = w.run := rfl
@[simp] theorem Work.unflag_ports (k m : Nat) : (w.unflag k m).ports = w.ports := rfl
@[simp] theorem Work.unflag_fuller (k m : Nat) : (w.unflag k m).fuller = w.fuller := rfl
@[simp] theorem Work.unflag_cal (k m : Nat) : (w.unflag k m).cal = w.cal := rfl
@[simp] theorem Work.unflag_calDev (k m : Nat) : (w.unflag k m).calDev = w.calDev := rfl
@[simp] theorem Work.unflag_hbm (k m : Nat) : (w.unflag k m).hbm = w.hbm := rfl
@[simp] theorem Work.unflag_loom (k m : Nat) : (w.unflag k m).loom = w.loom := rfl
@[simp] theorem Work.unflag_stats (k m : Nat) : (w.unflag k m).stats = w.stats := rfl
@[simp] theorem Work.unflag_markers (k m : Nat) : (w.unflag k m).markers = w.markers := rfl
@[simp] theorem Work.unflag_axes (k m : Nat) : (w.unflag k m).axes = w.axes := rfl
@[simp] theorem Work.unflag_seg (k m : Nat) : (w.unflag k m).seg = w.seg := rfl
@[simp] theorem Work.unflag_cls (k m : Nat) : (w.unflag k m).cls = w.cls := rfl
@[simp] theorem Work.unflag_place (k m : Nat) : (w.unflag k m).place = w.place := rfl
@[simp] theorem Work.unflag_sec (k m : Nat) : (w.unflag k m).sec = w.sec := rfl
@[simp] theorem Work.unflag_power (k m : Nat) : (w.unflag k m).power = w.power := rfl
@[simp] theorem Work.unflag_sys (k m : Nat) : (w.unflag k m).sys = w.sys := rfl
@[simp] theorem Work.unflag_streams (k m : Nat) : (w.unflag k m).streams = w.streams := rfl
@[simp] theorem Work.unflag_scratch (k m : Nat) : (w.unflag k m).scratch = w.scratch := rfl
@[simp] theorem Work.unflag_queues (k m : Nat) : (w.unflag k m).queues = w.queues := rfl
@[simp] theorem Work.unflag_dma (k m : Nat) : (w.unflag k m).dma = w.dma := rfl
@[simp] theorem Work.unflag_lastRes (k m : Nat) : (w.unflag k m).lastRes = w.lastRes := rfl
@[simp] theorem Work.unflag_sent (k m : Nat) : (w.unflag k m).sent = w.sent := rfl
@[simp] theorem Work.unflag_drawCount (k m : Nat) : (w.unflag k m).drawCount = w.drawCount := rfl
@[simp] theorem Work.unflag_freeCount (k m : Nat) : (w.unflag k m).freeCount = w.freeCount := rfl
@[simp] theorem Work.unflag_d_conf (k m : Nat) : (w.unflag k m).d.conf = w.d.conf := rfl
@[simp] theorem Work.unflag_d_changes (k m : Nat) : (w.unflag k m).d.changes = w.d.changes := rfl
@[simp] theorem Work.unflag_d_blobs (k m : Nat) : (w.unflag k m).d.blobs = w.d.blobs := rfl
@[simp] theorem Work.unflag_d_blobConf (k m : Nat) : (w.unflag k m).d.blobConf = w.d.blobConf := rfl
@[simp] theorem Work.unflag_d_blobChanges (k m : Nat) : (w.unflag k m).d.blobChanges = w.d.blobChanges := rfl
@[simp] theorem Work.unflag_d_groupPcie (k m : Nat) : (w.unflag k m).d.groupPcie = w.d.groupPcie := rfl
@[simp] theorem Work.unflag_d_groupCoe (k m : Nat) : (w.unflag k m).d.groupCoe = w.d.groupCoe := rfl
@[simp] theorem Work.unflag_d_groupYal (k m : Nat) : (w.unflag k m).d.groupYal = w.d.groupYal := rfl
@[simp] theorem Work.unflag_d_dt (k m : Nat) : (w.unflag k m).d.dt = w.d.dt := rfl

/-! ### bump -/

@[simp] theorem Work.bump_mode (k n : Nat) : (w.bump k n).mode = w.mode := rfl
@[simp] theorem Work.bump_clk (k n : Nat) : (w.bump k n).clk = w.clk := rfl
@[simp] theorem Work.bump_timers (k n : Nat) : (w.bump k n).timers = w.timers := rfl
@[simp] theorem Work.bump_journal (k n : Nat) : (w.bump k n).journal = w.journal := rfl
@[simp] theorem Work.bump_router (k n : Nat) : (w.bump k n).router = w.router := rfl
@[simp] theorem Work.bump_host (k n : Nat) : (w.bump k n).host = w.host := rfl
@[simp] theorem Work.bump_net (k n : Nat) : (w.bump k n).net = w.net := rfl
@[simp] theorem Work.bump_ecat (k n : Nat) : (w.bump k n).ecat = w.ecat := rfl
@[simp] theorem Work.bump_ledger (k n : Nat) : (w.bump k n).ledger = w.ledger := rfl
@[simp] theorem Work.bump_posIn (k n : Nat) : (w.bump k n).posIn = w.posIn := rfl
@[simp] theorem Work.bump_axis (k n : Nat) : (w.bump k n).axis = w.axis := rfl
@[simp] theorem Work.bump_lanes (k n : Nat) : (w.bump k n).lanes = w.lanes := rfl
@[simp] theorem Work.bump_run (k n : Nat) : (w.bump k n).run = w.run := rfl
@[simp] theorem Work.bump_ports (k n : Nat) : (w.bump k n).ports = w.ports := rfl
@[simp] theorem Work.bump_fuller (k n : Nat) : (w.bump k n).fuller = w.fuller := rfl
@[simp] theorem Work.bump_cal (k n : Nat) : (w.bump k n).cal = w.cal := rfl
@[simp] theorem Work.bump_calDev (k n : Nat) : (w.bump k n).calDev = w.calDev := rfl
@[simp] theorem Work.bump_hbm (k n : Nat) : (w.bump k n).hbm = w.hbm := rfl
@[simp] theorem Work.bump_loom (k n : Nat) : (w.bump k n).loom = w.loom := rfl
@[simp] theorem Work.bump_stats (k n : Nat) : (w.bump k n).stats = w.stats := rfl
@[simp] theorem Work.bump_markers (k n : Nat) : (w.bump k n).markers = w.markers := rfl
@[simp] theorem Work.bump_axes (k n : Nat) : (w.bump k n).axes = w.axes := rfl
@[simp] theorem Work.bump_seg (k n : Nat) : (w.bump k n).seg = w.seg := rfl
@[simp] theorem Work.bump_cls (k n : Nat) : (w.bump k n).cls = w.cls := rfl
@[simp] theorem Work.bump_place (k n : Nat) : (w.bump k n).place = w.place := rfl
@[simp] theorem Work.bump_sec (k n : Nat) : (w.bump k n).sec = w.sec := rfl
@[simp] theorem Work.bump_power (k n : Nat) : (w.bump k n).power = w.power := rfl
@[simp] theorem Work.bump_sys (k n : Nat) : (w.bump k n).sys = w.sys := rfl
@[simp] theorem Work.bump_streams (k n : Nat) : (w.bump k n).streams = w.streams := rfl
@[simp] theorem Work.bump_scratch (k n : Nat) : (w.bump k n).scratch = w.scratch := rfl
@[simp] theorem Work.bump_queues (k n : Nat) : (w.bump k n).queues = w.queues := rfl
@[simp] theorem Work.bump_dma (k n : Nat) : (w.bump k n).dma = w.dma := rfl
@[simp] theorem Work.bump_lastRes (k n : Nat) : (w.bump k n).lastRes = w.lastRes := rfl
@[simp] theorem Work.bump_sent (k n : Nat) : (w.bump k n).sent = w.sent := rfl
@[simp] theorem Work.bump_drawCount (k n : Nat) : (w.bump k n).drawCount = w.drawCount := rfl
@[simp] theorem Work.bump_freeCount (k n : Nat) : (w.bump k n).freeCount = w.freeCount := rfl
@[simp] theorem Work.bump_d_conf (k n : Nat) : (w.bump k n).d.conf = w.d.conf := rfl
@[simp] theorem Work.bump_d_changes (k n : Nat) : (w.bump k n).d.changes = w.d.changes := rfl
@[simp] theorem Work.bump_d_blobs (k n : Nat) : (w.bump k n).d.blobs = w.d.blobs := rfl
@[simp] theorem Work.bump_d_blobConf (k n : Nat) : (w.bump k n).d.blobConf = w.d.blobConf := rfl
@[simp] theorem Work.bump_d_blobChanges (k n : Nat) : (w.bump k n).d.blobChanges = w.d.blobChanges := rfl
@[simp] theorem Work.bump_d_groupPcie (k n : Nat) : (w.bump k n).d.groupPcie = w.d.groupPcie := rfl
@[simp] theorem Work.bump_d_groupCoe (k n : Nat) : (w.bump k n).d.groupCoe = w.d.groupCoe := rfl
@[simp] theorem Work.bump_d_groupYal (k n : Nat) : (w.bump k n).d.groupYal = w.d.groupYal := rfl
@[simp] theorem Work.bump_d_dt (k n : Nat) : (w.bump k n).d.dt = w.d.dt := rfl

/-! ### startTimer -/

@[simp] theorem Work.startTimer_mode (t : Timer) : (w.startTimer t).mode = w.mode := rfl
@[simp] theorem Work.startTimer_clk (t : Timer) : (w.startTimer t).clk = w.clk := rfl
@[simp] theorem Work.startTimer_d (t : Timer) : (w.startTimer t).d = w.d := rfl
@[simp] theorem Work.startTimer_journal (t : Timer) : (w.startTimer t).journal = w.journal := rfl
@[simp] theorem Work.startTimer_router (t : Timer) : (w.startTimer t).router = w.router := rfl
@[simp] theorem Work.startTimer_host (t : Timer) : (w.startTimer t).host = w.host := rfl
@[simp] theorem Work.startTimer_net (t : Timer) : (w.startTimer t).net = w.net := rfl
@[simp] theorem Work.startTimer_ecat (t : Timer) : (w.startTimer t).ecat = w.ecat := rfl
@[simp] theorem Work.startTimer_ledger (t : Timer) : (w.startTimer t).ledger = w.ledger := rfl
@[simp] theorem Work.startTimer_posIn (t : Timer) : (w.startTimer t).posIn = w.posIn := rfl
@[simp] theorem Work.startTimer_axis (t : Timer) : (w.startTimer t).axis = w.axis := rfl
@[simp] theorem Work.startTimer_lanes (t : Timer) : (w.startTimer t).lanes = w.lanes := rfl
@[simp] theorem Work.startTimer_run (t : Timer) : (w.startTimer t).run = w.run := rfl
@[simp] theorem Work.startTimer_ports (t : Timer) : (w.startTimer t).ports = w.ports := rfl
@[simp] theorem Work.startTimer_fuller (t : Timer) : (w.startTimer t).fuller = w.fuller := rfl
@[simp] theorem Work.startTimer_cal (t : Timer) : (w.startTimer t).cal = w.cal := rfl
@[simp] theorem Work.startTimer_calDev (t : Timer) : (w.startTimer t).calDev = w.calDev := rfl
@[simp] theorem Work.startTimer_hbm (t : Timer) : (w.startTimer t).hbm = w.hbm := rfl
@[simp] theorem Work.startTimer_loom (t : Timer) : (w.startTimer t).loom = w.loom := rfl
@[simp] theorem Work.startTimer_stats (t : Timer) : (w.startTimer t).stats = w.stats := rfl
@[simp] theorem Work.startTimer_markers (t : Timer) : (w.startTimer t).markers = w.markers := rfl
@[simp] theorem Work.startTimer_axes (t : Timer) : (w.startTimer t).axes = w.axes := rfl
@[simp] theorem Work.startTimer_seg (t : Timer) : (w.startTimer t).seg = w.seg := rfl
@[simp] theorem Work.startTimer_cls (t : Timer) : (w.startTimer t).cls = w.cls := rfl
@[simp] theorem Work.startTimer_place (t : Timer) : (w.startTimer t).place = w.place := rfl
@[simp] theorem Work.startTimer_sec (t : Timer) : (w.startTimer t).sec = w.sec := rfl
@[simp] theorem Work.startTimer_power (t : Timer) : (w.startTimer t).power = w.power := rfl
@[simp] theorem Work.startTimer_sys (t : Timer) : (w.startTimer t).sys = w.sys := rfl
@[simp] theorem Work.startTimer_streams (t : Timer) : (w.startTimer t).streams = w.streams := rfl
@[simp] theorem Work.startTimer_scratch (t : Timer) : (w.startTimer t).scratch = w.scratch := rfl
@[simp] theorem Work.startTimer_queues (t : Timer) : (w.startTimer t).queues = w.queues := rfl
@[simp] theorem Work.startTimer_dma (t : Timer) : (w.startTimer t).dma = w.dma := rfl
@[simp] theorem Work.startTimer_lastRes (t : Timer) : (w.startTimer t).lastRes = w.lastRes := rfl
@[simp] theorem Work.startTimer_sent (t : Timer) : (w.startTimer t).sent = w.sent := rfl
@[simp] theorem Work.startTimer_drawCount (t : Timer) : (w.startTimer t).drawCount = w.drawCount := rfl
@[simp] theorem Work.startTimer_freeCount (t : Timer) : (w.startTimer t).freeCount = w.freeCount := rfl

/-! ### stopTimer -/

@[simp] theorem Work.stopTimer_mode (t : Timer) : (w.stopTimer t).mode = w.mode := rfl
@[simp] theorem Work.stopTimer_clk (t : Timer) : (w.stopTimer t).clk = w.clk := rfl
@[simp] theorem Work.stopTimer_d (t : Timer) : (w.stopTimer t).d = w.d := rfl
@[simp] theorem Work.stopTimer_journal (t : Timer) : (w.stopTimer t).journal = w.journal := rfl
@[simp] theorem Work.stopTimer_router (t : Timer) : (w.stopTimer t).router = w.router := rfl
@[simp] theorem Work.stopTimer_host (t : Timer) : (w.stopTimer t).host = w.host := rfl
@[simp] theorem Work.stopTimer_net (t : Timer) : (w.stopTimer t).net = w.net := rfl
@[simp] theorem Work.stopTimer_ecat (t : Timer) : (w.stopTimer t).ecat = w.ecat := rfl
@[simp] theorem Work.stopTimer_ledger (t : Timer) : (w.stopTimer t).ledger = w.ledger := rfl
@[simp] theorem Work.stopTimer_posIn (t : Timer) : (w.stopTimer t).posIn = w.posIn := rfl
@[simp] theorem Work.stopTimer_axis (t : Timer) : (w.stopTimer t).axis = w.axis := rfl
@[simp] theorem Work.stopTimer_lanes (t : Timer) : (w.stopTimer t).lanes = w.lanes := rfl
@[simp] theorem Work.stopTimer_run (t : Timer) : (w.stopTimer t).run = w.run := rfl
@[simp] theorem Work.stopTimer_ports (t : Timer) : (w.stopTimer t).ports = w.ports := rfl
@[simp] theorem Work.stopTimer_fuller (t : Timer) : (w.stopTimer t).fuller = w.fuller := rfl
@[simp] theorem Work.stopTimer_cal (t : Timer) : (w.stopTimer t).cal = w.cal := rfl
@[simp] theorem Work.stopTimer_calDev (t : Timer) : (w.stopTimer t).calDev = w.calDev := rfl
@[simp] theorem Work.stopTimer_hbm (t : Timer) : (w.stopTimer t).hbm = w.hbm := rfl
@[simp] theorem Work.stopTimer_loom (t : Timer) : (w.stopTimer t).loom = w.loom := rfl
@[simp] theorem Work.stopTimer_stats (t : Timer) : (w.stopTimer t).stats = w.stats := rfl
@[simp] theorem Work.stopTimer_markers (t : Timer) : (w.stopTimer t).markers = w.markers := rfl
@[simp] theorem Work.stopTimer_axes (t : Timer) : (w.stopTimer t).axes = w.axes := rfl
@[simp] theorem Work.stopTimer_seg (t : Timer) : (w.stopTimer t).seg = w.seg := rfl
@[simp] theorem Work.stopTimer_cls (t : Timer) : (w.stopTimer t).cls = w.cls := rfl
@[simp] theorem Work.stopTimer_place (t : Timer) : (w.stopTimer t).place = w.place := rfl
@[simp] theorem Work.stopTimer_sec (t : Timer) : (w.stopTimer t).sec = w.sec := rfl
@[simp] theorem Work.stopTimer_power (t : Timer) : (w.stopTimer t).power = w.power := rfl
@[simp] theorem Work.stopTimer_sys (t : Timer) : (w.stopTimer t).sys = w.sys := rfl
@[simp] theorem Work.stopTimer_streams (t : Timer) : (w.stopTimer t).streams = w.streams := rfl
@[simp] theorem Work.stopTimer_scratch (t : Timer) : (w.stopTimer t).scratch = w.scratch := rfl
@[simp] theorem Work.stopTimer_queues (t : Timer) : (w.stopTimer t).queues = w.queues := rfl
@[simp] theorem Work.stopTimer_dma (t : Timer) : (w.stopTimer t).dma = w.dma := rfl
@[simp] theorem Work.stopTimer_lastRes (t : Timer) : (w.stopTimer t).lastRes = w.lastRes := rfl
@[simp] theorem Work.stopTimer_sent (t : Timer) : (w.stopTimer t).sent = w.sent := rfl
@[simp] theorem Work.stopTimer_drawCount (t : Timer) : (w.stopTimer t).drawCount = w.drawCount := rfl
@[simp] theorem Work.stopTimer_freeCount (t : Timer) : (w.stopTimer t).freeCount = w.freeCount := rfl

/-! ### send -/

@[simp] theorem Work.send_mode (m : Sent) : (w.send m).mode = w.mode := rfl
@[simp] theorem Work.send_clk (m : Sent) : (w.send m).clk = w.clk := rfl
@[simp] theorem Work.send_timers (m : Sent) : (w.send m).timers = w.timers := rfl
@[simp] theorem Work.send_d (m : Sent) : (w.send m).d = w.d := rfl
@[simp] theorem Work.send_journal (m : Sent) : (w.send m).journal = w.journal := rfl
@[simp] theorem Work.send_router (m : Sent) : (w.send m).router = w.router := rfl
@[simp] theorem Work.send_host (m : Sent) : (w.send m).host = w.host := rfl
@[simp] theorem Work.send_net (m : Sent) : (w.send m).net = w.net := rfl
@[simp] theorem Work.send_ecat (m : Sent) : (w.send m).ecat = w.ecat := rfl
@[simp] theorem Work.send_ledger (m : Sent) : (w.send m).ledger = w.ledger := rfl
@[simp] theorem Work.send_posIn (m : Sent) : (w.send m).posIn = w.posIn := rfl
@[simp] theorem Work.send_axis (m : Sent) : (w.send m).axis = w.axis := rfl
@[simp] theorem Work.send_lanes (m : Sent) : (w.send m).lanes = w.lanes := rfl
@[simp] theorem Work.send_run (m : Sent) : (w.send m).run = w.run := rfl
@[simp] theorem Work.send_ports (m : Sent) : (w.send m).ports = w.ports := rfl
@[simp] theorem Work.send_fuller (m : Sent) : (w.send m).fuller = w.fuller := rfl
@[simp] theorem Work.send_cal (m : Sent) : (w.send m).cal = w.cal := rfl
@[simp] theorem Work.send_calDev (m : Sent) : (w.send m).calDev = w.calDev := rfl
@[simp] theorem Work.send_hbm (m : Sent) : (w.send m).hbm = w.hbm := rfl
@[simp] theorem Work.send_loom (m : Sent) : (w.send m).loom = w.loom := rfl
@[simp] theorem Work.send_stats (m : Sent) : (w.send m).stats = w.stats := rfl
@[simp] theorem Work.send_markers (m : Sent) : (w.send m).markers = w.markers := rfl
@[simp] theorem Work.send_axes (m : Sent) : (w.send m).axes = w.axes := rfl
@[simp] theorem Work.send_seg (m : Sent) : (w.send m).seg = w.seg := rfl
@[simp] theorem Work.send_cls (m : Sent) : (w.send m).cls = w.cls := rfl
@[simp] theorem Work.send_place (m : Sent) : (w.send m).place = w.place := rfl
@[simp] theorem Work.send_sec (m : Sent) : (w.send m).sec = w.sec := rfl
@[simp] theorem Work.send_power (m : Sent) : (w.send m).power = w.power := rfl
@[simp] theorem Work.send_sys (m : Sent) : (w.send m).sys = w.sys := rfl
@[simp] theorem Work.send_streams (m : Sent) : (w.send m).streams = w.streams := rfl
@[simp] theorem Work.send_scratch (m : Sent) : (w.send m).scratch = w.scratch := rfl
@[simp] theorem Work.send_queues (m : Sent) : (w.send m).queues = w.queues := rfl
@[simp] theorem Work.send_dma (m : Sent) : (w.send m).dma = w.dma := rfl
@[simp] theorem Work.send_lastRes (m : Sent) : (w.send m).lastRes = w.lastRes := rfl
@[simp] theorem Work.send_drawCount (m : Sent) : (w.send m).drawCount = w.drawCount := rfl
@[simp] theorem Work.send_freeCount (m : Sent) : (w.send m).freeCount = w.freeCount := rfl

/-! ### hostWrite -/

@[simp] theorem Work.hostWrite_mode (a : Nat) (b : Bytes) : (w.hostWrite a b).mode = w.mode := rfl
@[simp] theorem Work.hostWrite_clk (a : Nat) (b : Bytes) : (w.hostWrite a b).clk = w.clk := rfl
@[simp] theorem Work.hostWrite_timers (a : Nat) (b : Bytes) : (w.hostWrite a b).timers = w.timers := rfl
@[simp] theorem Work.hostWrite_d (a : Nat) (b : Bytes) : (w.hostWrite a b).d = w.d := rfl
@[simp] theorem Work.hostWrite_journal (a : Nat) (b : Bytes) : (w.hostWrite a b).journal = w.journal := rfl
@[simp] theorem Work.hostWrite_router (a : Nat) (b : Bytes) : (w.hostWrite a b).router = w.router := rfl
@[simp] theorem Work.hostWrite_net (a : Nat) (b : Bytes) : (w.hostWrite a b).net = w.net := rfl
@[simp] theorem Work.hostWrite_ecat (a : Nat) (b : Bytes) : (w.hostWrite a b).ecat = w.ecat := rfl
@[simp] theorem Work.hostWrite_ledger (a : Nat) (b : Bytes) : (w.hostWrite a b).ledger = w.ledger := rfl
@[simp] theorem Work.hostWrite_posIn (a : Nat) (b : Bytes) : (w.hostWrite a b).posIn = w.posIn := rfl
@[simp] theorem Work.hostWrite_axis (a : Nat) (b : Bytes) : (w.hostWrite a b).axis = w.axis := rfl
@[simp] theorem Work.hostWrite_lanes (a : Nat) (b : Bytes) : (w.hostWrite a b).lanes = w.lanes := rfl
@[simp] theorem Work.hostWrite_run (a : Nat) (b : Bytes) : (w.hostWrite a b).run = w.run := rfl
@[simp] theorem Work.hostWrite_ports (a : Nat) (b : Bytes) : (w.hostWrite a b).ports = w.ports := rfl
@[simp] theorem Work.hostWrite_fuller (a : Nat) (b : Bytes) : (w.hostWrite a b).fuller = w.fuller := rfl
@[simp] theorem Work.hostWrite_cal (a : Nat) (b : Bytes) : (w.hostWrite a b).cal = w.cal := rfl
@[simp] theorem Work.hostWrite_calDev (a : Nat) (b : Bytes) : (w.hostWrite a b).calDev = w.calDev := rfl
@[simp] theorem Work.hostWrite_hbm (a : Nat) (b : Bytes) : (w.hostWrite a b).hbm = w.hbm := rfl
@[simp] theorem Work.hostWrite_loom (a : Nat) (b : Bytes) : (w.hostWrite a b).loom = w.loom := rfl
@[simp] theorem Work.hostWrite_stats (a : Nat) (b : Bytes) : (w.hostWrite a b).stats = w.stats := rfl
@[simp] theorem Work.hostWrite_markers (a : Nat) (b : Bytes) : (w.hostWrite a b).markers = w.markers := rfl
@[simp] theorem Work.hostWrite_axes (a : Nat) (b : Bytes) : (w.hostWrite a b).axes = w.axes := rfl
@[simp] theorem Work.hostWrite_seg (a : Nat) (b : Bytes) : (w.hostWrite a b).seg = w.seg := rfl
@[simp] theorem Work.hostWrite_cls (a : Nat) (b : Bytes) : (w.hostWrite a b).cls = w.cls := rfl
@[simp] theorem Work.hostWrite_place (a : Nat) (b : Bytes) : (w.hostWrite a b).place = w.place := rfl
@[simp] theorem Work.hostWrite_sec (a : Nat) (b : Bytes) : (w.hostWrite a b).sec = w.sec := rfl
@[simp] theorem Work.hostWrite_power (a : Nat) (b : Bytes) : (w.hostWrite a b).power = w.power := rfl
@[simp] theorem Work.hostWrite_sys (a : Nat) (b : Bytes) : (w.hostWrite a b).sys = w.sys := rfl
@[simp] theorem Work.hostWrite_streams (a : Nat) (b : Bytes) : (w.hostWrite a b).streams = w.streams := rfl
@[simp] theorem Work.hostWrite_scratch (a : Nat) (b : Bytes) : (w.hostWrite a b).scratch = w.scratch := rfl
@[simp] theorem Work.hostWrite_queues (a : Nat) (b : Bytes) : (w.hostWrite a b).queues = w.queues := rfl
@[simp] theorem Work.hostWrite_dma (a : Nat) (b : Bytes) : (w.hostWrite a b).dma = w.dma := rfl
@[simp] theorem Work.hostWrite_lastRes (a : Nat) (b : Bytes) : (w.hostWrite a b).lastRes = w.lastRes := rfl
@[simp] theorem Work.hostWrite_sent (a : Nat) (b : Bytes) : (w.hostWrite a b).sent = w.sent := rfl
@[simp] theorem Work.hostWrite_drawCount (a : Nat) (b : Bytes) : (w.hostWrite a b).drawCount = w.drawCount := rfl
@[simp] theorem Work.hostWrite_freeCount (a : Nat) (b : Bytes) : (w.hostWrite a b).freeCount = w.freeCount := rfl

/-! ### updRing -/

@[simp] theorem Work.updRing_mode (r : Nat) (f : Ring → Ring) : (w.updRing r f).mode = w.mode := rfl
@[simp] theorem Work.updRing_clk (r : Nat) (f : Ring → Ring) : (w.updRing r f).clk = w.clk := rfl
@[simp] theorem Work.updRing_timers (r : Nat) (f : Ring → Ring) : (w.updRing r f).timers = w.timers := rfl
@[simp] theorem Work.updRing_d (r : Nat) (f : Ring → Ring) : (w.updRing r f).d = w.d := rfl
@[simp] theorem Work.updRing_journal (r : Nat) (f : Ring → Ring) : (w.updRing r f).journal = w.journal := rfl
@[simp] theorem Work.updRing_router (r : Nat) (f : Ring → Ring) : (w.updRing r f).router = w.router := rfl
@[simp] theorem Work.updRing_net (r : Nat) (f : Ring → Ring) : (w.updRing r f).net = w.net := rfl
@[simp] theorem Work.updRing_ecat (r : Nat) (f : Ring → Ring) : (w.updRing r f).ecat = w.ecat := rfl
@[simp] theorem Work.updRing_ledger (r : Nat) (f : Ring → Ring) : (w.updRing r f).ledger = w.ledger := rfl
@[simp] theorem Work.updRing_posIn (r : Nat) (f : Ring → Ring) : (w.updRing r f).posIn = w.posIn := rfl
@[simp] theorem Work.updRing_axis (r : Nat) (f : Ring → Ring) : (w.updRing r f).axis = w.axis := rfl
@[simp] theorem Work.updRing_lanes (r : Nat) (f : Ring → Ring) : (w.updRing r f).lanes = w.lanes := rfl
@[simp] theorem Work.updRing_run (r : Nat) (f : Ring → Ring) : (w.updRing r f).run = w.run := rfl
@[simp] theorem Work.updRing_ports (r : Nat) (f : Ring → Ring) : (w.updRing r f).ports = w.ports := rfl
@[simp] theorem Work.updRing_fuller (r : Nat) (f : Ring → Ring) : (w.updRing r f).fuller = w.fuller := rfl
@[simp] theorem Work.updRing_cal (r : Nat) (f : Ring → Ring) : (w.updRing r f).cal = w.cal := rfl
@[simp] theorem Work.updRing_calDev (r : Nat) (f : Ring → Ring) : (w.updRing r f).calDev = w.calDev := rfl
@[simp] theorem Work.updRing_hbm (r : Nat) (f : Ring → Ring) : (w.updRing r f).hbm = w.hbm := rfl
@[simp] theorem Work.updRing_loom (r : Nat) (f : Ring → Ring) : (w.updRing r f).loom = w.loom := rfl
@[simp] theorem Work.updRing_stats (r : Nat) (f : Ring → Ring) : (w.updRing r f).stats = w.stats := rfl
@[simp] theorem Work.updRing_markers (r : Nat) (f : Ring → Ring) : (w.updRing r f).markers = w.markers := rfl
@[simp] theorem Work.updRing_axes (r : Nat) (f : Ring → Ring) : (w.updRing r f).axes = w.axes := rfl
@[simp] theorem Work.updRing_seg (r : Nat) (f : Ring → Ring) : (w.updRing r f).seg = w.seg := rfl
@[simp] theorem Work.updRing_cls (r : Nat) (f : Ring → Ring) : (w.updRing r f).cls = w.cls := rfl
@[simp] theorem Work.updRing_place (r : Nat) (f : Ring → Ring) : (w.updRing r f).place = w.place := rfl
@[simp] theorem Work.updRing_sec (r : Nat) (f : Ring → Ring) : (w.updRing r f).sec = w.sec := rfl
@[simp] theorem Work.updRing_power (r : Nat) (f : Ring → Ring) : (w.updRing r f).power = w.power := rfl
@[simp] theorem Work.updRing_sys (r : Nat) (f : Ring → Ring) : (w.updRing r f).sys = w.sys := rfl
@[simp] theorem Work.updRing_streams (r : Nat) (f : Ring → Ring) : (w.updRing r f).streams = w.streams := rfl
@[simp] theorem Work.updRing_scratch (r : Nat) (f : Ring → Ring) : (w.updRing r f).scratch = w.scratch := rfl
@[simp] theorem Work.updRing_queues (r : Nat) (f : Ring → Ring) : (w.updRing r f).queues = w.queues := rfl
@[simp] theorem Work.updRing_dma (r : Nat) (f : Ring → Ring) : (w.updRing r f).dma = w.dma := rfl
@[simp] theorem Work.updRing_lastRes (r : Nat) (f : Ring → Ring) : (w.updRing r f).lastRes = w.lastRes := rfl
@[simp] theorem Work.updRing_sent (r : Nat) (f : Ring → Ring) : (w.updRing r f).sent = w.sent := rfl
@[simp] theorem Work.updRing_drawCount (r : Nat) (f : Ring → Ring) : (w.updRing r f).drawCount = w.drawCount := rfl
@[simp] theorem Work.updRing_freeCount (r : Nat) (f : Ring → Ring) : (w.updRing r f).freeCount = w.freeCount := rfl

/-! ### updPin -/

@[simp] theorem Work.updPin_mode (n : Nat) (f : PosIn → PosIn) : (w.updPin n f).mode = w.mode := rfl
@[simp] theorem Work.updPin_clk (n : Nat) (f : PosIn → PosIn) : (w.updPin n f).clk = w.clk := rfl
@[simp] theorem Work.updPin_timers (n : Nat) (f : PosIn → PosIn) : (w.updPin n f).timers = w.timers := rfl
@[simp] theorem Work.updPin_d (n : Nat) (f : PosIn → PosIn) : (w.updPin n f).d = w.d := rfl
@[simp] theorem Work.updPin_journal (n : Nat) (f : PosIn → PosIn) : (w.updPin n f).journal = w.journal := rfl
@[simp] theorem Work.updPin_router (n : Nat) (f : PosIn → PosIn) : (w.updPin n f).router = w.router := rfl
@[simp] theorem Work.updPin_host (n : Nat) (f : PosIn → PosIn) : (w.updPin n f).host = w.host := rfl
@[simp] theorem Work.updPin_net (n : Nat) (f : PosIn → PosIn) : (w.updPin n f).net = w.net := rfl
@[simp] theorem Work.updPin_ecat (n : Nat) (f : PosIn → PosIn) : (w.updPin n f).ecat = w.ecat := rfl
@[simp] theorem Work.updPin_ledger (n : Nat) (f : PosIn → PosIn) : (w.updPin n f).ledger = w.ledger := rfl
@[simp] theorem Work.updPin_axis (n : Nat) (f : PosIn → PosIn) : (w.updPin n f).axis = w.axis := rfl
@[simp] theorem Work.updPin_lanes (n : Nat) (f : PosIn → PosIn) : (w.updPin n f).lanes = w.lanes := rfl
@[simp] theorem Work.updPin_run (n : Nat) (f : PosIn → PosIn) : (w.updPin n f).run = w.run := rfl
@[simp] theorem Work.updPin_ports (n : Nat) (f : PosIn → PosIn) : (w.updPin n f).ports = w.ports := rfl
@[simp] theorem Work.updPin_fuller (n : Nat) (f : PosIn → PosIn) : (w.updPin n f).fuller = w.fuller := rfl
@[simp] theorem Work.updPin_cal (n : Nat) (f : PosIn → PosIn) : (w.updPin n f).cal = w.cal := rfl
@[simp] theorem Work.updPin_calDev (n : Nat) (f : PosIn → PosIn) : (w.updPin n f).calDev = w.calDev := rfl
@[simp] theorem Work.updPin_hbm (n : Nat) (f : PosIn → PosIn) : (w.updPin n f).hbm = w.hbm := rfl
@[simp] theorem Work.updPin_loom (n : Nat) (f : PosIn → PosIn) : (w.updPin n f).loom = w.loom := rfl
@[simp] theorem Work.updPin_stats (n : Nat) (f : PosIn → PosIn) : (w.updPin n f).stats = w.stats := rfl
@[simp] theorem Work.updPin_markers (n : Nat) (f : PosIn → PosIn) : (w.updPin n f).markers = w.markers := rfl
@[simp] theorem Work.updPin_axes (n : Nat) (f : PosIn → PosIn) : (w.updPin n f).axes = w.axes := rfl
@[simp] theorem Work.updPin_seg (n : Nat) (f : PosIn → PosIn) : (w.updPin n f).seg = w.seg := rfl
@[simp] theorem Work.updPin_cls (n : Nat) (f : PosIn → PosIn) : (w.updPin n f).cls = w.cls := rfl
@[simp] theorem Work.updPin_place (n : Nat) (f : PosIn → PosIn) : (w.updPin n f).place = w.place := rfl
@[simp] theorem Work.updPin_sec (n : Nat) (f : PosIn → PosIn) : (w.updPin n f).sec = w.sec := rfl
@[simp] theorem Work.updPin_power (n : Nat) (f : PosIn → PosIn) : (w.updPin n f).power = w.power := rfl
@[simp] theorem Work.updPin_sys (n : Nat) (f : PosIn → PosIn) : (w.updPin n f).sys = w.sys := rfl
@[simp] theorem Work.updPin_streams (n : Nat) (f : PosIn → PosIn) : (w.updPin n f).streams = w.streams := rfl
@[simp] theorem Work.updPin_scratch (n : Nat) (f : PosIn → PosIn) : (w.updPin n f).scratch = w.scratch := rfl
@[simp] theorem Work.updPin_queues (n : Nat) (f : PosIn → PosIn) : (w.updPin n f).queues = w.queues := rfl
@[simp] theorem Work.updPin_dma (n : Nat) (f : PosIn → PosIn) : (w.updPin n f).dma = w.dma := rfl
@[simp] theorem Work.updPin_lastRes (n : Nat) (f : PosIn → PosIn) : (w.updPin n f).lastRes = w.lastRes := rfl
@[simp] theorem Work.updPin_sent (n : Nat) (f : PosIn → PosIn) : (w.updPin n f).sent = w.sent := rfl
@[simp] theorem Work.updPin_drawCount (n : Nat) (f : PosIn → PosIn) : (w.updPin n f).drawCount = w.drawCount := rfl
@[simp] theorem Work.updPin_freeCount (n : Nat) (f : PosIn → PosIn) : (w.updPin n f).freeCount = w.freeCount := rfl

/-! ### updPort -/

@[simp] theorem Work.updPort_mode (p : Nat) (f : Port → Port) : (w.updPort p f).mode = w.mode := rfl
@[simp] theorem Work.updPort_clk (p : Nat) (f : Port → Port) : (w.updPort p f).clk = w.clk := rfl
@[simp] theorem Work.updPort_timers (p : Nat) (f : Port → Port) : (w.updPort p f).timers = w.timers := rfl
@[simp] theorem Work.updPort_d (p : Nat) (f : Port → Port) : (w.updPort p f).d = w.d := rfl
@[simp] theorem Work.updPort_journal (p : Nat) (f : Port → Port) : (w.updPort p f).journal = w.journal := rfl
@[simp] theorem Work.updPort_router (p : Nat) (f : Port → Port) : (w.updPort p f).router = w.router := rfl
@[simp] theorem Work.updPort_host (p : Nat) (f : Port → Port) : (w.updPort p f).host = w.host := rfl
@[simp] theorem Work.updPort_net (p : Nat) (f : Port → Port) : (w.updPort p f).net = w.net := rfl
@[simp] theorem Work.updPort_ecat (p : Nat) (f : Port → Port) : (w.updPort p f).ecat = w.ecat := rfl
@[simp] theorem Work.updPort_ledger (p : Nat) (f : Port → Port) : (w.updPort p f).ledger = w.ledger := rfl
@[simp] theorem Work.updPort_posIn (p : Nat) (f : Port → Port) : (w.updPort p f).posIn = w.posIn := rfl
@[simp] theorem Work.updPort_axis (p : Nat) (f : Port → Port) : (w.updPort p f).axis = w.axis := rfl
@[simp] theorem Work.updPort_lanes (p : Nat) (f : Port → Port) : (w.updPort p f).lanes = w.lanes := rfl
@[simp] theorem Work.updPort_run (p : Nat) (f : Port → Port) : (w.updPort p f).run = w.run := rfl
@[simp] theorem Work.updPort_fuller (p : Nat) (f : Port → Port) : (w.updPort p f).fuller = w.fuller := rfl
@[simp] theorem Work.updPort_cal (p : Nat) (f : Port → Port) : (w.updPort p f).cal = w.cal := rfl
@[simp] theorem Work.updPort_calDev (p : Nat) (f : Port → Port) : (w.updPort p f).calDev = w.calDev := rfl
@[simp] theorem Work.updPort_hbm (p : Nat) (f : Port → Port) : (w.updPort p f).hbm = w.hbm := rfl
@[simp] theorem Work.updPort_loom (p : Nat) (f : Port → Port) : (w.updPort p f).loom = w.loom := rfl
@[simp] theorem Work.updPort_stats (p : Nat) (f : Port → Port) : (w.updPort p f).stats = w.stats := rfl
@[simp] theorem Work.updPort_markers (p : Nat) (f : Port → Port) : (w.updPort p f).markers = w.markers := rfl
@[simp] theorem Work.updPort_axes (p : Nat) (f : Port → Port) : (w.updPort p f).axes = w.axes := rfl
@[simp] theorem Work.updPort_seg (p : Nat) (f : Port → Port) : (w.updPort p f).seg = w.seg := rfl
@[simp] theorem Work.updPort_cls (p : Nat) (f : Port → Port) : (w.updPort p f).cls = w.cls := rfl
@[simp] theorem Work.updPort_place (p : Nat) (f : Port → Port) : (w.updPort p f).place = w.place := rfl
@[simp] theorem Work.updPort_sec (p : Nat) (f : Port → Port) : (w.updPort p f).sec = w.sec := rfl
@[simp] theorem Work.updPort_power (p : Nat) (f : Port → Port) : (w.updPort p f).power = w.power := rfl
@[simp] theorem Work.updPort_sys (p : Nat) (f : Port → Port) : (w.updPort p f).sys = w.sys := rfl
@[simp] theorem Work.updPort_streams (p : Nat) (f : Port → Port) : (w.updPort p f).streams = w.streams := rfl
@[simp] theorem Work.updPort_scratch (p : Nat) (f : Port → Port) : (w.updPort p f).scratch = w.scratch := rfl
@[simp] theorem Work.updPort_queues (p : Nat) (f : Port → Port) : (w.updPort p f).queues = w.queues := rfl
@[simp] theorem Work.updPort_dma (p : Nat) (f : Port → Port) : (w.updPort p f).dma = w.dma := rfl
@[simp] theorem Work.updPort_lastRes (p : Nat) (f : Port → Port) : (w.updPort p f).lastRes = w.lastRes := rfl
@[simp] theorem Work.updPort_sent (p : Nat) (f : Port → Port) : (w.updPort p f).sent = w.sent := rfl
@[simp] theorem Work.updPort_drawCount (p : Nat) (f : Port → Port) : (w.updPort p f).drawCount = w.drawCount := rfl
@[simp] theorem Work.updPort_freeCount (p : Nat) (f : Port → Port) : (w.updPort p f).freeCount = w.freeCount := rfl

/-! ### updMarker -/

@[simp] theorem Work.updMarker_mode (k : Nat) (f : Marker → Marker) : (w.updMarker k f).mode = w.mode := rfl
@[simp] theorem Work.updMarker_clk (k : Nat) (f : Marker → Marker) : (w.updMarker k f).clk = w.clk := rfl
@[simp] theorem Work.updMarker_timers (k : Nat) (f : Marker → Marker) : (w.updMarker k f).timers = w.timers := rfl
@[simp] theorem Work.updMarker_d (k : Nat) (f : Marker → Marker) : (w.updMarker k f).d = w.d := rfl
@[simp] theorem Work.updMarker_journal (k : Nat) (f : Marker → Marker) : (w.updMarker k f).journal = w.journal := rfl
@[simp] theorem Work.updMarker_router (k : Nat) (f : Marker → Marker) : (w.updMarker k f).router = w.router := rfl
@[simp] theorem Work.updMarker_host (k : Nat) (f : Marker → Marker) : (w.updMarker k f).host = w.host := rfl
@[simp] theorem Work.updMarker_net (k : Nat) (f : Marker → Marker) : (w.updMarker k f).net = w.net := rfl
@[simp] theorem Work.updMarker_ecat (k : Nat) (f : Marker → Marker) : (w.updMarker k f).ecat = w.ecat := rfl
@[simp] theorem Work.updMarker_ledger (k : Nat) (f : Marker → Marker) : (w.updMarker k f).ledger = w.ledger := rfl
@[simp] theorem Work.updMarker_posIn (k : Nat) (f : Marker → Marker) : (w.updMarker k f).posIn = w.posIn := rfl
@[simp] theorem Work.updMarker_axis (k : Nat) (f : Marker → Marker) : (w.updMarker k f).axis = w.axis := rfl
@[simp] theorem Work.updMarker_lanes (k : Nat) (f : Marker → Marker) : (w.updMarker k f).lanes = w.lanes := rfl
@[simp] theorem Work.updMarker_run (k : Nat) (f : Marker → Marker) : (w.updMarker k f).run = w.run := rfl
@[simp] theorem Work.updMarker_ports (k : Nat) (f : Marker → Marker) : (w.updMarker k f).ports = w.ports := rfl
@[simp] theorem Work.updMarker_fuller (k : Nat) (f : Marker → Marker) : (w.updMarker k f).fuller = w.fuller := rfl
@[simp] theorem Work.updMarker_cal (k : Nat) (f : Marker → Marker) : (w.updMarker k f).cal = w.cal := rfl
@[simp] theorem Work.updMarker_calDev (k : Nat) (f : Marker → Marker) : (w.updMarker k f).calDev = w.calDev := rfl
@[simp] theorem Work.updMarker_hbm (k : Nat) (f : Marker → Marker) : (w.updMarker k f).hbm = w.hbm := rfl
@[simp] theorem Work.updMarker_loom (k : Nat) (f : Marker → Marker) : (w.updMarker k f).loom = w.loom := rfl
@[simp] theorem Work.updMarker_stats (k : Nat) (f : Marker → Marker) : (w.updMarker k f).stats = w.stats := rfl
@[simp] theorem Work.updMarker_axes (k : Nat) (f : Marker → Marker) : (w.updMarker k f).axes = w.axes := rfl
@[simp] theorem Work.updMarker_seg (k : Nat) (f : Marker → Marker) : (w.updMarker k f).seg = w.seg := rfl
@[simp] theorem Work.updMarker_cls (k : Nat) (f : Marker → Marker) : (w.updMarker k f).cls = w.cls := rfl
@[simp] theorem Work.updMarker_place (k : Nat) (f : Marker → Marker) : (w.updMarker k f).place = w.place := rfl
@[simp] theorem Work.updMarker_sec (k : Nat) (f : Marker → Marker) : (w.updMarker k f).sec = w.sec := rfl
@[simp] theorem Work.updMarker_power (k : Nat) (f : Marker → Marker) : (w.updMarker k f).power = w.power := rfl
@[simp] theorem Work.updMarker_sys (k : Nat) (f : Marker → Marker) : (w.updMarker k f).sys = w.sys := rfl
@[simp] theorem Work.updMarker_streams (k : Nat) (f : Marker → Marker) : (w.updMarker k f).streams = w.streams := rfl
@[simp] theorem Work.updMarker_scratch (k : Nat) (f : Marker → Marker) : (w.updMarker k f).scratch = w.scratch := rfl
@[simp] theorem Work.updMarker_queues (k : Nat) (f : Marker → Marker) : (w.updMarker k f).queues = w.queues := rfl
@[simp] theorem Work.updMarker_dma (k : Nat) (f : Marker → Marker) : (w.updMarker k f).dma = w.dma := rfl
@[simp] theorem Work.updMarker_lastRes (k : Nat) (f : Marker → Marker) : (w.updMarker k f).lastRes = w.lastRes := rfl
@[simp] theorem Work.updMarker_sent (k : Nat) (f : Marker → Marker) : (w.updMarker k f).sent = w.sent := rfl
@[simp] theorem Work.updMarker_drawCount (k : Nat) (f : Marker → Marker) : (w.updMarker k f).drawCount = w.drawCount := rfl
@[simp] theorem Work.updMarker_freeCount (k : Nat) (f : Marker → Marker) : (w.updMarker k f).freeCount = w.freeCount := rfl

/-! ### updAx -/

@[simp] theorem Work.updAx_mode (a : Nat) (f : MotionAxis → MotionAxis) : (w.updAx a f).mode = w.mode := rfl
@[simp] theorem Work.updAx_clk (a : Nat) (f : MotionAxis → MotionAxis) : (w.updAx a f).clk = w.clk := rfl
@[simp] theorem Work.updAx_timers (a : Nat) (f : MotionAxis → MotionAxis) : (w.updAx a f).timers = w.timers := rfl
@[simp] theorem Work.updAx_d (a : Nat) (f : MotionAxis → MotionAxis) : (w.updAx a f).d = w.d := rfl
@[simp] theorem Work.updAx_journal (a : Nat) (f : MotionAxis → MotionAxis) : (w.updAx a f).journal = w.journal := rfl
@[simp] theorem Work.updAx_router (a : Nat) (f : MotionAxis → MotionAxis) : (w.updAx a f).router = w.router := rfl
@[simp] theorem Work.updAx_host (a : Nat) (f : MotionAxis → MotionAxis) : (w.updAx a f).host = w.host := rfl
@[simp] theorem Work.updAx_net (a : Nat) (f : MotionAxis → MotionAxis) : (w.updAx a f).net = w.net := rfl
@[simp] theorem Work.updAx_ecat (a : Nat) (f : MotionAxis → MotionAxis) : (w.updAx a f).ecat = w.ecat := rfl
@[simp] theorem Work.updAx_ledger (a : Nat) (f : MotionAxis → MotionAxis) : (w.updAx a f).ledger = w.ledger := rfl
@[simp] theorem Work.updAx_posIn (a : Nat) (f : MotionAxis → MotionAxis) : (w.updAx a f).posIn = w.posIn := rfl
@[simp] theorem Work.updAx_axis (a : Nat) (f : MotionAxis → MotionAxis) : (w.updAx a f).axis = w.axis := rfl
@[simp] theorem Work.updAx_lanes (a : Nat) (f : MotionAxis → MotionAxis) : (w.updAx a f).lanes = w.lanes := rfl
@[simp] theorem Work.updAx_run (a : Nat) (f : MotionAxis → MotionAxis) : (w.updAx a f).run = w.run := rfl
@[simp] theorem Work.updAx_ports (a : Nat) (f : MotionAxis → MotionAxis) : (w.updAx a f).ports = w.ports := rfl
@[simp] theorem Work.updAx_fuller (a : Nat) (f : MotionAxis → MotionAxis) : (w.updAx a f).fuller = w.fuller := rfl
@[simp] theorem Work.updAx_cal (a : Nat) (f : MotionAxis → MotionAxis) : (w.updAx a f).cal = w.cal := rfl
@[simp] theorem Work.updAx_calDev (a : Nat) (f : MotionAxis → MotionAxis) : (w.updAx a f).calDev = w.calDev := rfl
@[simp] theorem Work.updAx_hbm (a : Nat) (f : MotionAxis → MotionAxis) : (w.updAx a f).hbm = w.hbm := rfl
@[simp] theorem Work.updAx_loom (a : Nat) (f : MotionAxis → MotionAxis) : (w.updAx a f).loom = w.loom := rfl
@[simp] theorem Work.updAx_stats (a : Nat) (f : MotionAxis → MotionAxis) : (w.updAx a f).stats = w.stats := rfl
@[simp] theorem Work.updAx_markers (a : Nat) (f : MotionAxis → MotionAxis) : (w.updAx a f).markers = w.markers := rfl
@[simp] theorem Work.updAx_seg (a : Nat) (f : MotionAxis → MotionAxis) : (w.updAx a f).seg = w.seg := rfl
@[simp] theorem Work.updAx_cls (a : Nat) (f : MotionAxis → MotionAxis) : (w.updAx a f).cls = w.cls := rfl
@[simp] theorem Work.updAx_place (a : Nat) (f : MotionAxis → MotionAxis) : (w.updAx a f).place = w.place := rfl
@[simp] theorem Work.updAx_sec (a : Nat) (f : MotionAxis → MotionAxis) : (w.updAx a f).sec = w.sec := rfl
@[simp] theorem Work.updAx_power (a : Nat) (f : MotionAxis → MotionAxis) : (w.updAx a f).power = w.power := rfl
@[simp] theorem Work.updAx_sys (a : Nat) (f : MotionAxis → MotionAxis) : (w.updAx a f).sys = w.sys := rfl
@[simp] theorem Work.updAx_streams (a : Nat) (f : MotionAxis → MotionAxis) : (w.updAx a f).streams = w.streams := rfl
@[simp] theorem Work.updAx_scratch (a : Nat) (f : MotionAxis → MotionAxis) : (w.updAx a f).scratch = w.scratch := rfl
@[simp] theorem Work.updAx_queues (a : Nat) (f : MotionAxis → MotionAxis) : (w.updAx a f).queues = w.queues := rfl
@[simp] theorem Work.updAx_dma (a : Nat) (f : MotionAxis → MotionAxis) : (w.updAx a f).dma = w.dma := rfl
@[simp] theorem Work.updAx_lastRes (a : Nat) (f : MotionAxis → MotionAxis) : (w.updAx a f).lastRes = w.lastRes := rfl
@[simp] theorem Work.updAx_sent (a : Nat) (f : MotionAxis → MotionAxis) : (w.updAx a f).sent = w.sent := rfl
@[simp] theorem Work.updAx_drawCount (a : Nat) (f : MotionAxis → MotionAxis) : (w.updAx a f).drawCount = w.drawCount := rfl
@[simp] theorem Work.updAx_freeCount (a : Nat) (f : MotionAxis → MotionAxis) : (w.updAx a f).freeCount = w.freeCount := rfl

/-! ### updClus -/

@[simp] theorem Work.updClus_mode (c : Nat) (f : Clus → Clus) : (w.updClus c f).mode = w.mode := rfl
@[simp] theorem Work.updClus_clk (c : Nat) (f : Clus → Clus) : (w.updClus c f).clk = w.clk := rfl
@[simp] theorem Work.updClus_timers (c : Nat) (f : Clus → Clus) : (w.updClus c f).timers = w.timers := rfl
@[simp] theorem Work.updClus_d (c : Nat) (f : Clus → Clus) : (w.updClus c f).d = w.d := rfl
@[simp] theorem Work.updClus_journal (c : Nat) (f : Clus → Clus) : (w.updClus c f).journal = w.journal := rfl
@[simp] theorem Work.updClus_router (c : Nat) (f : Clus → Clus) : (w.updClus c f).router = w.router := rfl
@[simp] theorem Work.updClus_host (c : Nat) (f : Clus → Clus) : (w.updClus c f).host = w.host := rfl
@[simp] theorem Work.updClus_net (c : Nat) (f : Clus → Clus) : (w.updClus c f).net = w.net := rfl
@[simp] theorem Work.updClus_ecat (c : Nat) (f : Clus → Clus) : (w.updClus c f).ecat = w.ecat := rfl
@[simp] theorem Work.updClus_ledger (c : Nat) (f : Clus → Clus) : (w.updClus c f).ledger = w.ledger := rfl
@[simp] theorem Work.updClus_posIn (c : Nat) (f : Clus → Clus) : (w.updClus c f).posIn = w.posIn := rfl
@[simp] theorem Work.updClus_axis (c : Nat) (f : Clus → Clus) : (w.updClus c f).axis = w.axis := rfl
@[simp] theorem Work.updClus_lanes (c : Nat) (f : Clus → Clus) : (w.updClus c f).lanes = w.lanes := rfl
@[simp] theorem Work.updClus_run (c : Nat) (f : Clus → Clus) : (w.updClus c f).run = w.run := rfl
@[simp] theorem Work.updClus_ports (c : Nat) (f : Clus → Clus) : (w.updClus c f).ports = w.ports := rfl
@[simp] theorem Work.updClus_fuller (c : Nat) (f : Clus → Clus) : (w.updClus c f).fuller = w.fuller := rfl
@[simp] theorem Work.updClus_cal (c : Nat) (f : Clus → Clus) : (w.updClus c f).cal = w.cal := rfl
@[simp] theorem Work.updClus_calDev (c : Nat) (f : Clus → Clus) : (w.updClus c f).calDev = w.calDev := rfl
@[simp] theorem Work.updClus_hbm (c : Nat) (f : Clus → Clus) : (w.updClus c f).hbm = w.hbm := rfl
@[simp] theorem Work.updClus_loom (c : Nat) (f : Clus → Clus) : (w.updClus c f).loom = w.loom := rfl
@[simp] theorem Work.updClus_stats (c : Nat) (f : Clus → Clus) : (w.updClus c f).stats = w.stats := rfl
@[simp] theorem Work.updClus_markers (c : Nat) (f : Clus → Clus) : (w.updClus c f).markers = w.markers := rfl
@[simp] theorem Work.updClus_axes (c : Nat) (f : Clus → Clus) : (w.updClus c f).axes = w.axes := rfl
@[simp] theorem Work.updClus_seg (c : Nat) (f : Clus → Clus) : (w.updClus c f).seg = w.seg := rfl
@[simp] theorem Work.updClus_cls (c : Nat) (f : Clus → Clus) : (w.updClus c f).cls = w.cls := rfl
@[simp] theorem Work.updClus_sec (c : Nat) (f : Clus → Clus) : (w.updClus c f).sec = w.sec := rfl
@[simp] theorem Work.updClus_power (c : Nat) (f : Clus → Clus) : (w.updClus c f).power = w.power := rfl
@[simp] theorem Work.updClus_sys (c : Nat) (f : Clus → Clus) : (w.updClus c f).sys = w.sys := rfl
@[simp] theorem Work.updClus_streams (c : Nat) (f : Clus → Clus) : (w.updClus c f).streams = w.streams := rfl
@[simp] theorem Work.updClus_scratch (c : Nat) (f : Clus → Clus) : (w.updClus c f).scratch = w.scratch := rfl
@[simp] theorem Work.updClus_queues (c : Nat) (f : Clus → Clus) : (w.updClus c f).queues = w.queues := rfl
@[simp] theorem Work.updClus_dma (c : Nat) (f : Clus → Clus) : (w.updClus c f).dma = w.dma := rfl
@[simp] theorem Work.updClus_lastRes (c : Nat) (f : Clus → Clus) : (w.updClus c f).lastRes = w.lastRes := rfl
@[simp] theorem Work.updClus_sent (c : Nat) (f : Clus → Clus) : (w.updClus c f).sent = w.sent := rfl
@[simp] theorem Work.updClus_drawCount (c : Nat) (f : Clus → Clus) : (w.updClus c f).drawCount = w.drawCount := rfl
@[simp] theorem Work.updClus_freeCount (c : Nat) (f : Clus → Clus) : (w.updClus c f).freeCount = w.freeCount := rfl

/-! ### setPair -/

@[simp] theorem Work.setPair_mode (f : Pair → Pair) : (w.setPair f).mode = w.mode := rfl
@[simp] theorem Work.setPair_clk (f : Pair → Pair) : (w.setPair f).clk = w.clk := rfl
@[simp] theorem Work.setPair_timers (f : Pair → Pair) : (w.setPair f).timers = w.timers := rfl
@[simp] theorem Work.setPair_d (f : Pair → Pair) : (w.setPair f).d = w.d := rfl
@[simp] theorem Work.setPair_journal (f : Pair → Pair) : (w.setPair f).journal = w.journal := rfl
@[simp] theorem Work.setPair_router (f : Pair → Pair) : (w.setPair f).router = w.router := rfl
@[simp] theorem Work.setPair_host (f : Pair → Pair) : (w.setPair f).host = w.host := rfl
@[simp] theorem Work.setPair_net (f : Pair → Pair) : (w.setPair f).net = w.net := rfl
@[simp] theorem Work.setPair_ecat (f : Pair → Pair) : (w.setPair f).ecat = w.ecat := rfl
@[simp] theorem Work.setPair_ledger (f : Pair → Pair) : (w.setPair f).ledger = w.ledger := rfl
@[simp] theorem Work.setPair_posIn (f : Pair → Pair) : (w.setPair f).posIn = w.posIn := rfl
@[simp] theorem Work.setPair_axis (f : Pair → Pair) : (w.setPair f).axis = w.axis := rfl
@[simp] theorem Work.setPair_lanes (f : Pair → Pair) : (w.setPair f).lanes = w.lanes := rfl
@[simp] theorem Work.setPair_run (f : Pair → Pair) : (w.setPair f).run = w.run := rfl
@[simp] theorem Work.setPair_ports (f : Pair → Pair) : (w.setPair f).ports = w.ports := rfl
@[simp] theorem Work.setPair_fuller (f : Pair → Pair) : (w.setPair f).fuller = w.fuller := rfl
@[simp] theorem Work.setPair_cal (f : Pair → Pair) : (w.setPair f).cal = w.cal := rfl
@[simp] theorem Work.setPair_calDev (f : Pair → Pair) : (w.setPair f).calDev = w.calDev := rfl
@[simp] theorem Work.setPair_hbm (f : Pair → Pair) : (w.setPair f).hbm = w.hbm := rfl
@[simp] theorem Work.setPair_loom (f : Pair → Pair) : (w.setPair f).loom = w.loom := rfl
@[simp] theorem Work.setPair_stats (f : Pair → Pair) : (w.setPair f).stats = w.stats := rfl
@[simp] theorem Work.setPair_markers (f : Pair → Pair) : (w.setPair f).markers = w.markers := rfl
@[simp] theorem Work.setPair_axes (f : Pair → Pair) : (w.setPair f).axes = w.axes := rfl
@[simp] theorem Work.setPair_seg (f : Pair → Pair) : (w.setPair f).seg = w.seg := rfl
@[simp] theorem Work.setPair_cls (f : Pair → Pair) : (w.setPair f).cls = w.cls := rfl
@[simp] theorem Work.setPair_place (f : Pair → Pair) : (w.setPair f).place = w.place := rfl
@[simp] theorem Work.setPair_sec (f : Pair → Pair) : (w.setPair f).sec = w.sec := rfl
@[simp] theorem Work.setPair_power (f : Pair → Pair) : (w.setPair f).power = w.power := rfl
@[simp] theorem Work.setPair_streams (f : Pair → Pair) : (w.setPair f).streams = w.streams := rfl
@[simp] theorem Work.setPair_scratch (f : Pair → Pair) : (w.setPair f).scratch = w.scratch := rfl
@[simp] theorem Work.setPair_queues (f : Pair → Pair) : (w.setPair f).queues = w.queues := rfl
@[simp] theorem Work.setPair_dma (f : Pair → Pair) : (w.setPair f).dma = w.dma := rfl
@[simp] theorem Work.setPair_lastRes (f : Pair → Pair) : (w.setPair f).lastRes = w.lastRes := rfl
@[simp] theorem Work.setPair_sent (f : Pair → Pair) : (w.setPair f).sent = w.sent := rfl
@[simp] theorem Work.setPair_drawCount (f : Pair → Pair) : (w.setPair f).drawCount = w.drawCount := rfl
@[simp] theorem Work.setPair_freeCount (f : Pair → Pair) : (w.setPair f).freeCount = w.freeCount := rfl

/-! ### updSession -/

@[simp] theorem Work.updSession_mode (p : Nat) (f : Session → Session) : (w.updSession p f).mode = w.mode := rfl
@[simp] theorem Work.updSession_clk (p : Nat) (f : Session → Session) : (w.updSession p f).clk = w.clk := rfl
@[simp] theorem Work.updSession_timers (p : Nat) (f : Session → Session) : (w.updSession p f).timers = w.timers := rfl
@[simp] theorem Work.updSession_d (p : Nat) (f : Session → Session) : (w.updSession p f).d = w.d := rfl
@[simp] theorem Work.updSession_journal (p : Nat) (f : Session → Session) : (w.updSession p f).journal = w.journal := rfl
@[simp] theorem Work.updSession_router (p : Nat) (f : Session → Session) : (w.updSession p f).router = w.router := rfl
@[simp] theorem Work.updSession_host (p : Nat) (f : Session → Session) : (w.updSession p f).host = w.host := rfl
@[simp] theorem Work.updSession_net (p : Nat) (f : Session → Session) : (w.updSession p f).net = w.net := rfl
@[simp] theorem Work.updSession_ecat (p : Nat) (f : Session → Session) : (w.updSession p f).ecat = w.ecat := rfl
@[simp] theorem Work.updSession_ledger (p : Nat) (f : Session → Session) : (w.updSession p f).ledger = w.ledger := rfl
@[simp] theorem Work.updSession_posIn (p : Nat) (f : Session → Session) : (w.updSession p f).posIn = w.posIn := rfl
@[simp] theorem Work.updSession_axis (p : Nat) (f : Session → Session) : (w.updSession p f).axis = w.axis := rfl
@[simp] theorem Work.updSession_lanes (p : Nat) (f : Session → Session) : (w.updSession p f).lanes = w.lanes := rfl
@[simp] theorem Work.updSession_run (p : Nat) (f : Session → Session) : (w.updSession p f).run = w.run := rfl
@[simp] theorem Work.updSession_ports (p : Nat) (f : Session → Session) : (w.updSession p f).ports = w.ports := rfl
@[simp] theorem Work.updSession_fuller (p : Nat) (f : Session → Session) : (w.updSession p f).fuller = w.fuller := rfl
@[simp] theorem Work.updSession_cal (p : Nat) (f : Session → Session) : (w.updSession p f).cal = w.cal := rfl
@[simp] theorem Work.updSession_calDev (p : Nat) (f : Session → Session) : (w.updSession p f).calDev = w.calDev := rfl
@[simp] theorem Work.updSession_hbm (p : Nat) (f : Session → Session) : (w.updSession p f).hbm = w.hbm := rfl
@[simp] theorem Work.updSession_loom (p : Nat) (f : Session → Session) : (w.updSession p f).loom = w.loom := rfl
@[simp] theorem Work.updSession_stats (p : Nat) (f : Session → Session) : (w.updSession p f).stats = w.stats := rfl
@[simp] theorem Work.updSession_markers (p : Nat) (f : Session → Session) : (w.updSession p f).markers = w.markers := rfl
@[simp] theorem Work.updSession_axes (p : Nat) (f : Session → Session) : (w.updSession p f).axes = w.axes := rfl
@[simp] theorem Work.updSession_seg (p : Nat) (f : Session → Session) : (w.updSession p f).seg = w.seg := rfl
@[simp] theorem Work.updSession_cls (p : Nat) (f : Session → Session) : (w.updSession p f).cls = w.cls := rfl
@[simp] theorem Work.updSession_place (p : Nat) (f : Session → Session) : (w.updSession p f).place = w.place := rfl
@[simp] theorem Work.updSession_sec (p : Nat) (f : Session → Session) : (w.updSession p f).sec = w.sec := rfl
@[simp] theorem Work.updSession_power (p : Nat) (f : Session → Session) : (w.updSession p f).power = w.power := rfl
@[simp] theorem Work.updSession_streams (p : Nat) (f : Session → Session) : (w.updSession p f).streams = w.streams := rfl
@[simp] theorem Work.updSession_scratch (p : Nat) (f : Session → Session) : (w.updSession p f).scratch = w.scratch := rfl
@[simp] theorem Work.updSession_queues (p : Nat) (f : Session → Session) : (w.updSession p f).queues = w.queues := rfl
@[simp] theorem Work.updSession_dma (p : Nat) (f : Session → Session) : (w.updSession p f).dma = w.dma := rfl
@[simp] theorem Work.updSession_lastRes (p : Nat) (f : Session → Session) : (w.updSession p f).lastRes = w.lastRes := rfl
@[simp] theorem Work.updSession_sent (p : Nat) (f : Session → Session) : (w.updSession p f).sent = w.sent := rfl
@[simp] theorem Work.updSession_drawCount (p : Nat) (f : Session → Session) : (w.updSession p f).drawCount = w.drawCount := rfl
@[simp] theorem Work.updSession_freeCount (p : Nat) (f : Session → Session) : (w.updSession p f).freeCount = w.freeCount := rfl

/-! ### raiseHop -/

@[simp] theorem Work.raiseHop_mode (a b : Nat) : (w.raiseHop a b).mode = w.mode := by unfold Work.raiseHop; dsimp only; split_ifs <;> rfl
@[simp] theorem Work.raiseHop_clk (a b : Nat) : (w.raiseHop a b).clk = w.clk := by unfold Work.raiseHop; dsimp only; split_ifs <;> rfl
@[simp] theorem Work.raiseHop_timers (a b : Nat) : (w.raiseHop a b).timers = w.timers := by unfold Work.raiseHop; dsimp only; split_ifs <;> rfl
@[simp] theorem Work.raiseHop_journal (a b : Nat) : (w.raiseHop a b).journal = w.journal := by unfold Work.raiseHop; dsimp only; split_ifs <;> rfl
@[simp] theorem Work.raiseHop_host (a b : Nat) : (w.raiseHop a b).host = w.host := by unfold Work.raiseHop; dsimp only; split_ifs <;> rfl
@[simp] theorem Work.raiseHop_net (a b : Nat) : (w.raiseHop a b).net = w.net := by unfold Work.raiseHop; dsimp only; split_ifs <;> rfl
@[simp] theorem Work.raiseHop_ecat (a b : Nat) : (w.raiseHop a b).ecat = w.ecat := by unfold Work.raiseHop; dsimp only; split_ifs <;> rfl
@[simp] theorem Work.raiseHop_ledger (a b : Nat) : (w.raiseHop a b).ledger = w.ledger := by unfold Work.raiseHop; dsimp only; split_ifs <;> rfl
@[simp] theorem Work.raiseHop_posIn (a b : Nat) : (w.raiseHop a b).posIn = w.posIn := by unfold Work.raiseHop; dsimp only; split_ifs <;> rfl
@[simp] theorem Work.raiseHop_axis (a b : Nat) : (w.raiseHop a b).axis = w.axis := by unfold Work.raiseHop; dsimp only; split_ifs <;> rfl
@[simp] theorem Work.raiseHop_lanes (a b : Nat) : (w.raiseHop a b).lanes = w.lanes := by unfold Work.raiseHop; dsimp only; split_ifs <;> rfl
@[simp] theorem Work.raiseHop_run (a b : Nat) : (w.raiseHop a b).run = w.run := by unfold Work.raiseHop; dsimp only; split_ifs <;> rfl
@[simp] theorem Work.raiseHop_ports (a b : Nat) : (w.raiseHop a b).ports = w.ports := by unfold Work.raiseHop; dsimp only; split_ifs <;> rfl
@[simp] theorem Work.raiseHop_fuller (a b : Nat) : (w.raiseHop a b).fuller = w.fuller := by unfold Work.raiseHop; dsimp only; split_ifs <;> rfl
@[simp] theorem Work.raiseHop_cal (a b : Nat) : (w.raiseHop a b).cal = w.cal := by unfold Work.raiseHop; dsimp only; split_ifs <;> rfl
@[simp] theorem Work.raiseHop_calDev (a b : Nat) : (w.raiseHop a b).calDev = w.calDev := by unfold Work.raiseHop; dsimp only; split_ifs <;> rfl
@[simp] theorem Work.raiseHop_hbm (a b : Nat) : (w.raiseHop a b).hbm = w.hbm := by unfold Work.raiseHop; dsimp only; split_ifs <;> rfl
@[simp] theorem Work.raiseHop_loom (a b : Nat) : (w.raiseHop a b).loom = w.loom := by unfold Work.raiseHop; dsimp only; split_ifs <;> rfl
@[simp] theorem Work.raiseHop_stats (a b : Nat) : (w.raiseHop a b).stats = w.stats := by unfold Work.raiseHop; dsimp only; split_ifs <;> rfl
@[simp] theorem Work.raiseHop_markers (a b : Nat) : (w.raiseHop a b).markers = w.markers := by unfold Work.raiseHop; dsimp only; split_ifs <;> rfl
@[simp] theorem Work.raiseHop_axes (a b : Nat) : (w.raiseHop a b).axes = w.axes := by unfold Work.raiseHop; dsimp only; split_ifs <;> rfl
@[simp] theorem Work.raiseHop_seg (a b : Nat) : (w.raiseHop a b).seg = w.seg := by unfold Work.raiseHop; dsimp only; split_ifs <;> rfl
@[simp] theorem Work.raiseHop_cls (a b : Nat) : (w.raiseHop a b).cls = w.cls := by unfold Work.raiseHop; dsimp only; split_ifs <;> rfl
@[simp] theorem Work.raiseHop_place (a b : Nat) : (w.raiseHop a b).place = w.place := by unfold Work.raiseHop; dsimp only; split_ifs <;> rfl
@[simp] theorem Work.raiseHop_sec (a b : Nat) : (w.raiseHop a b).sec = w.sec := by unfold Work.raiseHop; dsimp only; split_ifs <;> rfl
@[simp] theorem Work.raiseHop_power (a b : Nat) : (w.raiseHop a b).power = w.power := by unfold Work.raiseHop; dsimp only; split_ifs <;> rfl
@[simp] theorem Work.raiseHop_sys (a b : Nat) : (w.raiseHop a b).sys = w.sys := by unfold Work.raiseHop; dsimp only; split_ifs <;> rfl
@[simp] theorem Work.raiseHop_streams (a b : Nat) : (w.raiseHop a b).streams = w.streams := by unfold Work.raiseHop; dsimp only; split_ifs <;> rfl
@[simp] theorem Work.raiseHop_scratch (a b : Nat) : (w.raiseHop a b).scratch = w.scratch := by unfold Work.raiseHop; dsimp only; split_ifs <;> rfl
@[simp] theorem Work.raiseHop_queues (a b : Nat) : (w.raiseHop a b).queues = w.queues := by unfold Work.raiseHop; dsimp only; split_ifs <;> rfl
@[simp] theorem Work.raiseHop_dma (a b : Nat) : (w.raiseHop a b).dma = w.dma := by unfold Work.raiseHop; dsimp only; split_ifs <;> rfl
@[simp] theorem Work.raiseHop_lastRes (a b : Nat) : (w.raiseHop a b).lastRes = w.lastRes := by unfold Work.raiseHop; dsimp only; split_ifs <;> rfl
@[simp] theorem Work.raiseHop_sent (a b : Nat) : (w.raiseHop a b).sent = w.sent := by unfold Work.raiseHop; dsimp only; split_ifs <;> rfl
@[simp] theorem Work.raiseHop_drawCount (a b : Nat) : (w.raiseHop a b).drawCount = w.drawCount := by unfold Work.raiseHop; dsimp only; split_ifs <;> rfl
@[simp] theorem Work.raiseHop_freeCount (a b : Nat) : (w.raiseHop a b).freeCount = w.freeCount := by unfold Work.raiseHop; dsimp only; split_ifs <;> rfl
@[simp] theorem Work.raiseHop_d_conf (a b : Nat) : (w.raiseHop a b).d.conf = w.d.conf := by unfold Work.raiseHop; dsimp only; split_ifs <;> rfl
@[simp] theorem Work.raiseHop_d_changes (a b : Nat) : (w.raiseHop a b).d.changes = w.d.changes := by unfold Work.raiseHop; dsimp only; split_ifs <;> rfl
@[simp] theorem Work.raiseHop_d_blobs (a b : Nat) : (w.raiseHop a b).d.blobs = w.d.blobs := by unfold Work.raiseHop; dsimp only; split_ifs <;> rfl
@[simp] theorem Work.raiseHop_d_blobConf (a b : Nat) : (w.raiseHop a b).d.blobConf = w.d.blobConf := by unfold Work.raiseHop; dsimp only; split_ifs <;> rfl
@[simp] theorem Work.raiseHop_d_blobChanges (a b : Nat) : (w.raiseHop a b).d.blobChanges = w.d.blobChanges := by unfold Work.raiseHop; dsimp only; split_ifs <;> rfl
@[simp] theorem Work.raiseHop_d_groupPcie (a b : Nat) : (w.raiseHop a b).d.groupPcie = w.d.groupPcie := by unfold Work.raiseHop; dsimp only; split_ifs <;> rfl
@[simp] theorem Work.raiseHop_d_groupCoe (a b : Nat) : (w.raiseHop a b).d.groupCoe = w.d.groupCoe := by unfold Work.raiseHop; dsimp only; split_ifs <;> rfl
@[simp] theorem Work.raiseHop_d_groupYal (a b : Nat) : (w.raiseHop a b).d.groupYal = w.d.groupYal := by unfold Work.raiseHop; dsimp only; split_ifs <;> rfl
@[simp] theorem Work.raiseHop_d_dt (a b : Nat) : (w.raiseHop a b).d.dt = w.d.dt := by unfold Work.raiseHop; dsimp only; split_ifs <;> rfl

/-! ### msix -/

@[simp] theorem Work.msix_mode (v : Nat) : (w.msix v).mode = w.mode := by unfold Work.msix; split_ifs <;> rfl
@[simp] theorem Work.msix_clk (v : Nat) : (w.msix v).clk = w.clk := by unfold Work.msix; split_ifs <;> rfl
@[simp] theorem Work.msix_timers (v : Nat) : (w.msix v).timers = w.timers := by unfold Work.msix; split_ifs <;> rfl
@[simp] theorem Work.msix_d (v : Nat) : (w.msix v).d = w.d := by unfold Work.msix; split_ifs <;> rfl
@[simp] theorem Work.msix_journal (v : Nat) : (w.msix v).journal = w.journal := by unfold Work.msix; split_ifs <;> rfl
@[simp] theorem Work.msix_router (v : Nat) : (w.msix v).router = w.router := by unfold Work.msix; split_ifs <;> rfl
@[simp] theorem Work.msix_net (v : Nat) : (w.msix v).net = w.net := by unfold Work.msix; split_ifs <;> rfl
@[simp] theorem Work.msix_ecat (v : Nat) : (w.msix v).ecat = w.ecat := by unfold Work.msix; split_ifs <;> rfl
@[simp] theorem Work.msix_ledger (v : Nat) : (w.msix v).ledger = w.ledger := by unfold Work.msix; split_ifs <;> rfl
@[simp] theorem Work.msix_posIn (v : Nat) : (w.msix v).posIn = w.posIn := by unfold Work.msix; split_ifs <;> rfl
@[simp] theorem Work.msix_axis (v : Nat) : (w.msix v).axis = w.axis := by unfold Work.msix; split_ifs <;> rfl
@[simp] theorem Work.msix_lanes (v : Nat) : (w.msix v).lanes = w.lanes := by unfold Work.msix; split_ifs <;> rfl
@[simp] theorem Work.msix_run (v : Nat) : (w.msix v).run = w.run := by unfold Work.msix; split_ifs <;> rfl
@[simp] theorem Work.msix_ports (v : Nat) : (w.msix v).ports = w.ports := by unfold Work.msix; split_ifs <;> rfl
@[simp] theorem Work.msix_fuller (v : Nat) : (w.msix v).fuller = w.fuller := by unfold Work.msix; split_ifs <;> rfl
@[simp] theorem Work.msix_cal (v : Nat) : (w.msix v).cal = w.cal := by unfold Work.msix; split_ifs <;> rfl
@[simp] theorem Work.msix_calDev (v : Nat) : (w.msix v).calDev = w.calDev := by unfold Work.msix; split_ifs <;> rfl
@[simp] theorem Work.msix_hbm (v : Nat) : (w.msix v).hbm = w.hbm := by unfold Work.msix; split_ifs <;> rfl
@[simp] theorem Work.msix_loom (v : Nat) : (w.msix v).loom = w.loom := by unfold Work.msix; split_ifs <;> rfl
@[simp] theorem Work.msix_stats (v : Nat) : (w.msix v).stats = w.stats := by unfold Work.msix; split_ifs <;> rfl
@[simp] theorem Work.msix_markers (v : Nat) : (w.msix v).markers = w.markers := by unfold Work.msix; split_ifs <;> rfl
@[simp] theorem Work.msix_axes (v : Nat) : (w.msix v).axes = w.axes := by unfold Work.msix; split_ifs <;> rfl
@[simp] theorem Work.msix_seg (v : Nat) : (w.msix v).seg = w.seg := by unfold Work.msix; split_ifs <;> rfl
@[simp] theorem Work.msix_cls (v : Nat) : (w.msix v).cls = w.cls := by unfold Work.msix; split_ifs <;> rfl
@[simp] theorem Work.msix_place (v : Nat) : (w.msix v).place = w.place := by unfold Work.msix; split_ifs <;> rfl
@[simp] theorem Work.msix_sec (v : Nat) : (w.msix v).sec = w.sec := by unfold Work.msix; split_ifs <;> rfl
@[simp] theorem Work.msix_power (v : Nat) : (w.msix v).power = w.power := by unfold Work.msix; split_ifs <;> rfl
@[simp] theorem Work.msix_sys (v : Nat) : (w.msix v).sys = w.sys := by unfold Work.msix; split_ifs <;> rfl
@[simp] theorem Work.msix_streams (v : Nat) : (w.msix v).streams = w.streams := by unfold Work.msix; split_ifs <;> rfl
@[simp] theorem Work.msix_scratch (v : Nat) : (w.msix v).scratch = w.scratch := by unfold Work.msix; split_ifs <;> rfl
@[simp] theorem Work.msix_queues (v : Nat) : (w.msix v).queues = w.queues := by unfold Work.msix; split_ifs <;> rfl
@[simp] theorem Work.msix_dma (v : Nat) : (w.msix v).dma = w.dma := by unfold Work.msix; split_ifs <;> rfl
@[simp] theorem Work.msix_lastRes (v : Nat) : (w.msix v).lastRes = w.lastRes := by unfold Work.msix; split_ifs <;> rfl
@[simp] theorem Work.msix_drawCount (v : Nat) : (w.msix v).drawCount = w.drawCount := by unfold Work.msix; split_ifs <;> rfl
@[simp] theorem Work.msix_freeCount (v : Nat) : (w.msix v).freeCount = w.freeCount := by unfold Work.msix; split_ifs <;> rfl

/-! ### emit -/

@[simp] theorem Work.emit_mode (r : LRec) : (w.emit r).mode = w.mode := by unfold Work.emit; split <;> rfl
@[simp] theorem Work.emit_clk (r : LRec) : (w.emit r).clk = w.clk := by unfold Work.emit; split <;> rfl
@[simp] theorem Work.emit_timers (r : LRec) : (w.emit r).timers = w.timers := by unfold Work.emit; split <;> rfl
@[simp] theorem Work.emit_d (r : LRec) : (w.emit r).d = w.d := by unfold Work.emit; split <;> rfl
@[simp] theorem Work.emit_journal (r : LRec) : (w.emit r).journal = w.journal := by unfold Work.emit; split <;> rfl
@[simp] theorem Work.emit_router (r : LRec) : (w.emit r).router = w.router := by unfold Work.emit; split <;> rfl
@[simp] theorem Work.emit_host (r : LRec) : (w.emit r).host = w.host := by unfold Work.emit; split <;> rfl
@[simp] theorem Work.emit_net (r : LRec) : (w.emit r).net = w.net := by unfold Work.emit; split <;> rfl
@[simp] theorem Work.emit_ecat (r : LRec) : (w.emit r).ecat = w.ecat := by unfold Work.emit; split <;> rfl
@[simp] theorem Work.emit_posIn (r : LRec) : (w.emit r).posIn = w.posIn := by unfold Work.emit; split <;> rfl
@[simp] theorem Work.emit_axis (r : LRec) : (w.emit r).axis = w.axis := by unfold Work.emit; split <;> rfl
@[simp] theorem Work.emit_lanes (r : LRec) : (w.emit r).lanes = w.lanes := by unfold Work.emit; split <;> rfl
@[simp] theorem Work.emit_run (r : LRec) : (w.emit r).run = w.run := by unfold Work.emit; split <;> rfl
@[simp] theorem Work.emit_ports (r : LRec) : (w.emit r).ports = w.ports := by unfold Work.emit; split <;> rfl
@[simp] theorem Work.emit_fuller (r : LRec) : (w.emit r).fuller = w.fuller := by unfold Work.emit; split <;> rfl
@[simp] theorem Work.emit_cal (r : LRec) : (w.emit r).cal = w.cal := by unfold Work.emit; split <;> rfl
@[simp] theorem Work.emit_calDev (r : LRec) : (w.emit r).calDev = w.calDev := by unfold Work.emit; split <;> rfl
@[simp] theorem Work.emit_hbm (r : LRec) : (w.emit r).hbm = w.hbm := by unfold Work.emit; split <;> rfl
@[simp] theorem Work.emit_loom (r : LRec) : (w.emit r).loom = w.loom := by unfold Work.emit; split <;> rfl
@[simp] theorem Work.emit_stats (r : LRec) : (w.emit r).stats = w.stats := by unfold Work.emit; split <;> rfl
@[simp] theorem Work.emit_markers (r : LRec) : (w.emit r).markers = w.markers := by unfold Work.emit; split <;> rfl
@[simp] theorem Work.emit_axes (r : LRec) : (w.emit r).axes = w.axes := by unfold Work.emit; split <;> rfl
@[simp] theorem Work.emit_seg (r : LRec) : (w.emit r).seg = w.seg := by unfold Work.emit; split <;> rfl
@[simp] theorem Work.emit_cls (r : LRec) : (w.emit r).cls = w.cls := by unfold Work.emit; split <;> rfl
@[simp] theorem Work.emit_place (r : LRec) : (w.emit r).place = w.place := by unfold Work.emit; split <;> rfl
@[simp] theorem Work.emit_sec (r : LRec) : (w.emit r).sec = w.sec := by unfold Work.emit; split <;> rfl
@[simp] theorem Work.emit_power (r : LRec) : (w.emit r).power = w.power := by unfold Work.emit; split <;> rfl
@[simp] theorem Work.emit_sys (r : LRec) : (w.emit r).sys = w.sys := by unfold Work.emit; split <;> rfl
@[simp] theorem Work.emit_streams (r : LRec) : (w.emit r).streams = w.streams := by unfold Work.emit; split <;> rfl
@[simp] theorem Work.emit_scratch (r : LRec) : (w.emit r).scratch = w.scratch := by unfold Work.emit; split <;> rfl
@[simp] theorem Work.emit_queues (r : LRec) : (w.emit r).queues = w.queues := by unfold Work.emit; split <;> rfl
@[simp] theorem Work.emit_dma (r : LRec) : (w.emit r).dma = w.dma := by unfold Work.emit; split <;> rfl
@[simp] theorem Work.emit_lastRes (r : LRec) : (w.emit r).lastRes = w.lastRes := by unfold Work.emit; split <;> rfl
@[simp] theorem Work.emit_sent (r : LRec) : (w.emit r).sent = w.sent := by unfold Work.emit; split <;> rfl
@[simp] theorem Work.emit_drawCount (r : LRec) : (w.emit r).drawCount = w.drawCount := by unfold Work.emit; split <;> rfl
@[simp] theorem Work.emit_freeCount (r : LRec) : (w.emit r).freeCount = w.freeCount := by unfold Work.emit; split <;> rfl

/-! ### peak -/

@[simp] theorem Work.peak_mode (k v : Nat) : (w.peak k v).mode = w.mode := by unfold Work.peak; split <;> rfl
@[simp] theorem Work.peak_clk (k v : Nat) : (w.peak k v).clk = w.clk := by unfold Work.peak; split <;> rfl
@[simp] theorem Work.peak_timers (k v : Nat) : (w.peak k v).timers = w.timers := by unfold Work.peak; split <;> rfl
@[simp] theorem Work.peak_journal (k v : Nat) : (w.peak k v).journal = w.journal := by unfold Work.peak; split <;> rfl
@[simp] theorem Work.peak_router (k v : Nat) : (w.peak k v).router = w.router := by unfold Work.peak; split <;> rfl
@[simp] theorem Work.peak_host (k v : Nat) : (w.peak k v).host = w.host := by unfold Work.peak; split <;> rfl
@[simp] theorem Work.peak_net (k v : Nat) : (w.peak k v).net = w.net := by unfold Work.peak; split <;> rfl
@[simp] theorem Work.peak_ecat (k v : Nat) : (w.peak k v).ecat = w.ecat := by unfold Work.peak; split <;> rfl
@[simp] theorem Work.peak_ledger (k v : Nat) : (w.peak k v).ledger = w.ledger := by unfold Work.peak; split <;> rfl
@[simp] theorem Work.peak_posIn (k v : Nat) : (w.peak k v).posIn = w.posIn := by unfold Work.peak; split <;> rfl
@[simp] theorem Work.peak_axis (k v : Nat) : (w.peak k v).axis = w.axis := by unfold Work.peak; split <;> rfl
@[simp] theorem Work.peak_lanes (k v : Nat) : (w.peak k v).lanes = w.lanes := by unfold Work.peak; split <;> rfl
@[simp] theorem Work.peak_run (k v : Nat) : (w.peak k v).run = w.run := by unfold Work.peak; split <;> rfl
@[simp] theorem Work.peak_ports (k v : Nat) : (w.peak k v).ports = w.ports := by unfold Work.peak; split <;> rfl
@[simp] theorem Work.peak_fuller (k v : Nat) : (w.peak k v).fuller = w.fuller := by unfold Work.peak; split <;> rfl
@[simp] theorem Work.peak_cal (k v : Nat) : (w.peak k v).cal = w.cal := by unfold Work.peak; split <;> rfl
@[simp] theorem Work.peak_calDev (k v : Nat) : (w.peak k v).calDev = w.calDev := by unfold Work.peak; split <;> rfl
@[simp] theorem Work.peak_hbm (k v : Nat) : (w.peak k v).hbm = w.hbm := by unfold Work.peak; split <;> rfl
@[simp] theorem Work.peak_loom (k v : Nat) : (w.peak k v).loom = w.loom := by unfold Work.peak; split <;> rfl
@[simp] theorem Work.peak_stats (k v : Nat) : (w.peak k v).stats = w.stats := by unfold Work.peak; split <;> rfl
@[simp] theorem Work.peak_markers (k v : Nat) : (w.peak k v).markers = w.markers := by unfold Work.peak; split <;> rfl
@[simp] theorem Work.peak_axes (k v : Nat) : (w.peak k v).axes = w.axes := by unfold Work.peak; split <;> rfl
@[simp] theorem Work.peak_seg (k v : Nat) : (w.peak k v).seg = w.seg := by unfold Work.peak; split <;> rfl
@[simp] theorem Work.peak_cls (k v : Nat) : (w.peak k v).cls = w.cls := by unfold Work.peak; split <;> rfl
@[simp] theorem Work.peak_place (k v : Nat) : (w.peak k v).place = w.place := by unfold Work.peak; split <;> rfl
@[simp] theorem Work.peak_sec (k v : Nat) : (w.peak k v).sec = w.sec := by unfold Work.peak; split <;> rfl
@[simp] theorem Work.peak_power (k v : Nat) : (w.peak k v).power = w.power := by unfold Work.peak; split <;> rfl
@[simp] theorem Work.peak_sys (k v : Nat) : (w.peak k v).sys = w.sys := by unfold Work.peak; split <;> rfl
@[simp] theorem Work.peak_streams (k v : Nat) : (w.peak k v).streams = w.streams := by unfold Work.peak; split <;> rfl
@[simp] theorem Work.peak_scratch (k v : Nat) : (w.peak k v).scratch = w.scratch := by unfold Work.peak; split <;> rfl
@[simp] theorem Work.peak_queues (k v : Nat) : (w.peak k v).queues = w.queues := by unfold Work.peak; split <;> rfl
@[simp] theorem Work.peak_dma (k v : Nat) : (w.peak k v).dma = w.dma := by unfold Work.peak; split <;> rfl
@[simp] theorem Work.peak_lastRes (k v : Nat) : (w.peak k v).lastRes = w.lastRes := by unfold Work.peak; split <;> rfl
@[simp] theorem Work.peak_sent (k v : Nat) : (w.peak k v).sent = w.sent := by unfold Work.peak; split <;> rfl
@[simp] theorem Work.peak_drawCount (k v : Nat) : (w.peak k v).drawCount = w.drawCount := by unfold Work.peak; split <;> rfl
@[simp] theorem Work.peak_freeCount (k v : Nat) : (w.peak k v).freeCount = w.freeCount := by unfold Work.peak; split <;> rfl
@[simp] theorem Work.peak_d_conf (k v : Nat) : (w.peak k v).d.conf = w.d.conf := by unfold Work.peak; split <;> rfl
@[simp] theorem Work.peak_d_changes (k v : Nat) : (w.peak k v).d.changes = w.d.changes := by unfold Work.peak; split <;> rfl
@[simp] theorem Work.peak_d_blobs (k v : Nat) : (w.peak k v).d.blobs = w.d.blobs := by unfold Work.peak; split <;> rfl
@[simp] theorem Work.peak_d_blobConf (k v : Nat) : (w.peak k v).d.blobConf = w.d.blobConf := by unfold Work.peak; split <;> rfl
@[simp] theorem Work.peak_d_blobChanges (k v : Nat) : (w.peak k v).d.blobChanges = w.d.blobChanges := by unfold Work.peak; split <;> rfl
@[simp] theorem Work.peak_d_groupPcie (k v : Nat) : (w.peak k v).d.groupPcie = w.d.groupPcie := by unfold Work.peak; split <;> rfl
@[simp] theorem Work.peak_d_groupCoe (k v : Nat) : (w.peak k v).d.groupCoe = w.d.groupCoe := by unfold Work.peak; split <;> rfl
@[simp] theorem Work.peak_d_groupYal (k v : Nat) : (w.peak k v).d.groupYal = w.d.groupYal := by unfold Work.peak; split <;> rfl
@[simp] theorem Work.peak_d_dt (k v : Nat) : (w.peak k v).d.dt = w.d.dt := by unfold Work.peak; split <;> rfl

/-! ### setResult -/

@[simp] theorem Work.setResult_mode (p : Path) (r : Res) : (w.setResult p r).mode = w.mode := by unfold Work.setResult; split <;> rfl
@[simp] theorem Work.setResult_clk (p : Path) (r : Res) : (w.setResult p r).clk = w.clk := by unfold Work.setResult; split <;> rfl
@[simp] theorem Work.setResult_timers (p : Path) (r : Res) : (w.setResult p r).timers = w.timers := by unfold Work.setResult; split <;> rfl
@[simp] theorem Work.setResult_journal (p : Path) (r : Res) : (w.setResult p r).journal = w.journal := by unfold Work.setResult; split <;> rfl
@[simp] theorem Work.setResult_router (p : Path) (r : Res) : (w.setResult p r).router = w.router := by unfold Work.setResult; split <;> rfl
@[simp] theorem Work.setResult_host (p : Path) (r : Res) : (w.setResult p r).host = w.host := by unfold Work.setResult; split <;> rfl
@[simp] theorem Work.setResult_net (p : Path) (r : Res) : (w.setResult p r).net = w.net := by unfold Work.setResult; split <;> rfl
@[simp] theorem Work.setResult_ecat (p : Path) (r : Res) : (w.setResult p r).ecat = w.ecat := by unfold Work.setResult; split <;> rfl
@[simp] theorem Work.setResult_ledger (p : Path) (r : Res) : (w.setResult p r).ledger = w.ledger := by unfold Work.setResult; split <;> rfl
@[simp] theorem Work.setResult_posIn (p : Path) (r : Res) : (w.setResult p r).posIn = w.posIn := by unfold Work.setResult; split <;> rfl
@[simp] theorem Work.setResult_axis (p : Path) (r : Res) : (w.setResult p r).axis = w.axis := by unfold Work.setResult; split <;> rfl
@[simp] theorem Work.setResult_lanes (p : Path) (r : Res) : (w.setResult p r).lanes = w.lanes := by unfold Work.setResult; split <;> rfl
@[simp] theorem Work.setResult_run (p : Path) (r : Res) : (w.setResult p r).run = w.run := by unfold Work.setResult; split <;> rfl
@[simp] theorem Work.setResult_ports (p : Path) (r : Res) : (w.setResult p r).ports = w.ports := by unfold Work.setResult; split <;> rfl
@[simp] theorem Work.setResult_fuller (p : Path) (r : Res) : (w.setResult p r).fuller = w.fuller := by unfold Work.setResult; split <;> rfl
@[simp] theorem Work.setResult_cal (p : Path) (r : Res) : (w.setResult p r).cal = w.cal := by unfold Work.setResult; split <;> rfl
@[simp] theorem Work.setResult_calDev (p : Path) (r : Res) : (w.setResult p r).calDev = w.calDev := by unfold Work.setResult; split <;> rfl
@[simp] theorem Work.setResult_hbm (p : Path) (r : Res) : (w.setResult p r).hbm = w.hbm := by unfold Work.setResult; split <;> rfl
@[simp] theorem Work.setResult_loom (p : Path) (r : Res) : (w.setResult p r).loom = w.loom := by unfold Work.setResult; split <;> rfl
@[simp] theorem Work.setResult_stats (p : Path) (r : Res) : (w.setResult p r).stats = w.stats := by unfold Work.setResult; split <;> rfl
@[simp] theorem Work.setResult_markers (p : Path) (r : Res) : (w.setResult p r).markers = w.markers := by unfold Work.setResult; split <;> rfl
@[simp] theorem Work.setResult_axes (p : Path) (r : Res) : (w.setResult p r).axes = w.axes := by unfold Work.setResult; split <;> rfl
@[simp] theorem Work.setResult_seg (p : Path) (r : Res) : (w.setResult p r).seg = w.seg := by unfold Work.setResult; split <;> rfl
@[simp] theorem Work.setResult_cls (p : Path) (r : Res) : (w.setResult p r).cls = w.cls := by unfold Work.setResult; split <;> rfl
@[simp] theorem Work.setResult_place (p : Path) (r : Res) : (w.setResult p r).place = w.place := by unfold Work.setResult; split <;> rfl
@[simp] theorem Work.setResult_sec (p : Path) (r : Res) : (w.setResult p r).sec = w.sec := by unfold Work.setResult; split <;> rfl
@[simp] theorem Work.setResult_power (p : Path) (r : Res) : (w.setResult p r).power = w.power := by unfold Work.setResult; split <;> rfl
@[simp] theorem Work.setResult_sys (p : Path) (r : Res) : (w.setResult p r).sys = w.sys := by unfold Work.setResult; split <;> rfl
@[simp] theorem Work.setResult_streams (p : Path) (r : Res) : (w.setResult p r).streams = w.streams := by unfold Work.setResult; split <;> rfl
@[simp] theorem Work.setResult_scratch (p : Path) (r : Res) : (w.setResult p r).scratch = w.scratch := by unfold Work.setResult; split <;> rfl
@[simp] theorem Work.setResult_queues (p : Path) (r : Res) : (w.setResult p r).queues = w.queues := by unfold Work.setResult; split <;> rfl
@[simp] theorem Work.setResult_dma (p : Path) (r : Res) : (w.setResult p r).dma = w.dma := by unfold Work.setResult; split <;> rfl
@[simp] theorem Work.setResult_sent (p : Path) (r : Res) : (w.setResult p r).sent = w.sent := by unfold Work.setResult; split <;> rfl
@[simp] theorem Work.setResult_drawCount (p : Path) (r : Res) : (w.setResult p r).drawCount = w.drawCount := by unfold Work.setResult; split <;> rfl
@[simp] theorem Work.setResult_freeCount (p : Path) (r : Res) : (w.setResult p r).freeCount = w.freeCount := by unfold Work.setResult; split <;> rfl
@[simp] theorem Work.setResult_d_conf (p : Path) (r : Res) : (w.setResult p r).d.conf = w.d.conf := by unfold Work.setResult; split <;> rfl
@[simp] theorem Work.setResult_d_changes (p : Path) (r : Res) : (w.setResult p r).d.changes = w.d.changes := by unfold Work.setResult; split <;> rfl
@[simp] theorem Work.setResult_d_blobs (p : Path) (r : Res) : (w.setResult p r).d.blobs = w.d.blobs := by unfold Work.setResult; split <;> rfl
@[simp] theorem Work.setResult_d_blobConf (p : Path) (r : Res) : (w.setResult p r).d.blobConf = w.d.blobConf := by unfold Work.setResult; split <;> rfl
@[simp] theorem Work.setResult_d_blobChanges (p : Path) (r : Res) : (w.setResult p r).d.blobChanges = w.d.blobChanges := by unfold Work.setResult; split <;> rfl
@[simp] theorem Work.setResult_d_groupPcie (p : Path) (r : Res) : (w.setResult p r).d.groupPcie = w.d.groupPcie := by unfold Work.setResult; split <;> rfl
@[simp] theorem Work.setResult_d_groupCoe (p : Path) (r : Res) : (w.setResult p r).d.groupCoe = w.d.groupCoe := by unfold Work.setResult; split <;> rfl
@[simp] theorem Work.setResult_d_groupYal (p : Path) (r : Res) : (w.setResult p r).d.groupYal = w.d.groupYal := by unfold Work.setResult; split <;> rfl
@[simp] theorem Work.setResult_d_dt (p : Path) (r : Res) : (w.setResult p r).d.dt = w.d.dt := by unfold Work.setResult; split <;> rfl

/-! ### journalPut -/

@[simp] theorem Work.journalPut_mode (e : TallyEntry) : (w.journalPut e).mode = w.mode := by unfold Work.journalPut; dsimp only; split <;> rfl
@[simp] theorem Work.journalPut_clk (e : TallyEntry) : (w.journalPut e).clk = w.clk := by unfold Work.journalPut; dsimp only; split <;> rfl
@[simp] theorem Work.journalPut_timers (e : TallyEntry) : (w.journalPut e).timers = w.timers := by unfold Work.journalPut; dsimp only; split <;> rfl
@[simp] theorem Work.journalPut_router (e : TallyEntry) : (w.journalPut e).router = w.router := by unfold Work.journalPut; dsimp only; split <;> rfl
@[simp] theorem Work.journalPut_host (e : TallyEntry) : (w.journalPut e).host = w.host := by unfold Work.journalPut; dsimp only; split <;> rfl
@[simp] theorem Work.journalPut_net (e : TallyEntry) : (w.journalPut e).net = w.net := by unfold Work.journalPut; dsimp only; split <;> rfl
@[simp] theorem Work.journalPut_ecat (e : TallyEntry) : (w.journalPut e).ecat = w.ecat := by unfold Work.journalPut; dsimp only; split <;> rfl
@[simp] theorem Work.journalPut_ledger (e : TallyEntry) : (w.journalPut e).ledger = w.ledger := by unfold Work.journalPut; dsimp only; split <;> rfl
@[simp] theorem Work.journalPut_posIn (e : TallyEntry) : (w.journalPut e).posIn = w.posIn := by unfold Work.journalPut; dsimp only; split <;> rfl
@[simp] theorem Work.journalPut_axis (e : TallyEntry) : (w.journalPut e).axis = w.axis := by unfold Work.journalPut; dsimp only; split <;> rfl
@[simp] theorem Work.journalPut_lanes (e : TallyEntry) : (w.journalPut e).lanes = w.lanes := by unfold Work.journalPut; dsimp only; split <;> rfl
@[simp] theorem Work.journalPut_run (e : TallyEntry) : (w.journalPut e).run = w.run := by unfold Work.journalPut; dsimp only; split <;> rfl
@[simp] theorem Work.journalPut_ports (e : TallyEntry) : (w.journalPut e).ports = w.ports := by unfold Work.journalPut; dsimp only; split <;> rfl
@[simp] theorem Work.journalPut_fuller (e : TallyEntry) : (w.journalPut e).fuller = w.fuller := by unfold Work.journalPut; dsimp only; split <;> rfl
@[simp] theorem Work.journalPut_cal (e : TallyEntry) : (w.journalPut e).cal = w.cal := by unfold Work.journalPut; dsimp only; split <;> rfl
@[simp] theorem Work.journalPut_calDev (e : TallyEntry) : (w.journalPut e).calDev = w.calDev := by unfold Work.journalPut; dsimp only; split <;> rfl
@[simp] theorem Work.journalPut_hbm (e : TallyEntry) : (w.journalPut e).hbm = w.hbm := by unfold Work.journalPut; dsimp only; split <;> rfl
@[simp] theorem Work.journalPut_loom (e : TallyEntry) : (w.journalPut e).loom = w.loom := by unfold Work.journalPut; dsimp only; split <;> rfl
@[simp] theorem Work.journalPut_stats (e : TallyEntry) : (w.journalPut e).stats = w.stats := by unfold Work.journalPut; dsimp only; split <;> rfl
@[simp] theorem Work.journalPut_markers (e : TallyEntry) : (w.journalPut e).markers = w.markers := by unfold Work.journalPut; dsimp only; split <;> rfl
@[simp] theorem Work.journalPut_axes (e : TallyEntry) : (w.journalPut e).axes = w.axes := by unfold Work.journalPut; dsimp only; split <;> rfl
@[simp] theorem Work.journalPut_seg (e : TallyEntry) : (w.journalPut e).seg = w.seg := by unfold Work.journalPut; dsimp only; split <;> rfl
@[simp] theorem Work.journalPut_cls (e : TallyEntry) : (w.journalPut e).cls = w.cls := by unfold Work.journalPut; dsimp only; split <;> rfl
@[simp] theorem Work.journalPut_place (e : TallyEntry) : (w.journalPut e).place = w.place := by unfold Work.journalPut; dsimp only; split <;> rfl
@[simp] theorem Work.journalPut_sec (e : TallyEntry) : (w.journalPut e).sec = w.sec := by unfold Work.journalPut; dsimp only; split <;> rfl
@[simp] theorem Work.journalPut_power (e : TallyEntry) : (w.journalPut e).power = w.power := by unfold Work.journalPut; dsimp only; split <;> rfl
@[simp] theorem Work.journalPut_sys (e : TallyEntry) : (w.journalPut e).sys = w.sys := by unfold Work.journalPut; dsimp only; split <;> rfl
@[simp] theorem Work.journalPut_streams (e : TallyEntry) : (w.journalPut e).streams = w.streams := by unfold Work.journalPut; dsimp only; split <;> rfl
@[simp] theorem Work.journalPut_scratch (e : TallyEntry) : (w.journalPut e).scratch = w.scratch := by unfold Work.journalPut; dsimp only; split <;> rfl
@[simp] theorem Work.journalPut_queues (e : TallyEntry) : (w.journalPut e).queues = w.queues := by unfold Work.journalPut; dsimp only; split <;> rfl
@[simp] theorem Work.journalPut_dma (e : TallyEntry) : (w.journalPut e).dma = w.dma := by unfold Work.journalPut; dsimp only; split <;> rfl
@[simp] theorem Work.journalPut_lastRes (e : TallyEntry) : (w.journalPut e).lastRes = w.lastRes := by unfold Work.journalPut; dsimp only; split <;> rfl
@[simp] theorem Work.journalPut_sent (e : TallyEntry) : (w.journalPut e).sent = w.sent := by unfold Work.journalPut; dsimp only; split <;> rfl
@[simp] theorem Work.journalPut_drawCount (e : TallyEntry) : (w.journalPut e).drawCount = w.drawCount := by unfold Work.journalPut; dsimp only; split <;> rfl
@[simp] theorem Work.journalPut_freeCount (e : TallyEntry) : (w.journalPut e).freeCount = w.freeCount := by unfold Work.journalPut; dsimp only; split <;> rfl
@[simp] theorem Work.journalPut_d_conf (e : TallyEntry) : (w.journalPut e).d.conf = w.d.conf := by unfold Work.journalPut; dsimp only; split <;> rfl
@[simp] theorem Work.journalPut_d_changes (e : TallyEntry) : (w.journalPut e).d.changes = w.d.changes := by unfold Work.journalPut; dsimp only; split <;> rfl
@[simp] theorem Work.journalPut_d_blobs (e : TallyEntry) : (w.journalPut e).d.blobs = w.d.blobs := by unfold Work.journalPut; dsimp only; split <;> rfl
@[simp] theorem Work.journalPut_d_blobConf (e : TallyEntry) : (w.journalPut e).d.blobConf = w.d.blobConf := by unfold Work.journalPut; dsimp only; split <;> rfl
@[simp] theorem Work.journalPut_d_blobChanges (e : TallyEntry) : (w.journalPut e).d.blobChanges = w.d.blobChanges := by unfold Work.journalPut; dsimp only; split <;> rfl
@[simp] theorem Work.journalPut_d_groupPcie (e : TallyEntry) : (w.journalPut e).d.groupPcie = w.d.groupPcie := by unfold Work.journalPut; dsimp only; split <;> rfl
@[simp] theorem Work.journalPut_d_groupCoe (e : TallyEntry) : (w.journalPut e).d.groupCoe = w.d.groupCoe := by unfold Work.journalPut; dsimp only; split <;> rfl
@[simp] theorem Work.journalPut_d_groupYal (e : TallyEntry) : (w.journalPut e).d.groupYal = w.d.groupYal := by unfold Work.journalPut; dsimp only; split <;> rfl
@[simp] theorem Work.journalPut_d_dt (e : TallyEntry) : (w.journalPut e).d.dt = w.d.dt := by unfold Work.journalPut; dsimp only; split <;> rfl

/-! ### raise -/

@[simp] theorem Work.raise_mode (a : Nat) : (w.raise a).mode = w.mode := by unfold Work.raise; simp
@[simp] theorem Work.raise_clk (a : Nat) : (w.raise a).clk = w.clk := by unfold Work.raise; simp
@[simp] theorem Work.raise_timers (a : Nat) : (w.raise a).timers = w.timers := by unfold Work.raise; simp
@[simp] theorem Work.raise_journal (a : Nat) : (w.raise a).journal = w.journal := by unfold Work.raise; simp
@[simp] theorem Work.raise_host (a : Nat) : (w.raise a).host = w.host := by unfold Work.raise; simp
@[simp] theorem Work.raise_net (a : Nat) : (w.raise a).net = w.net := by unfold Work.raise; simp
@[simp] theorem Work.raise_ecat (a : Nat) : (w.raise a).ecat = w.ecat := by unfold Work.raise; simp
@[simp] theorem Work.raise_ledger (a : Nat) : (w.raise a).ledger = w.ledger := by unfold Work.raise; simp
@[simp] theorem Work.raise_posIn (a : Nat) : (w.raise a).posIn = w.posIn := by unfold Work.raise; simp
@[simp] theorem Work.raise_axis (a : Nat) : (w.raise a).axis = w.axis := by unfold Work.raise; simp
@[simp] theorem Work.raise_lanes (a : Nat) : (w.raise a).lanes = w.lanes := by unfold Work.raise; simp
@[simp] theorem Work.raise_run (a : Nat) : (w.raise a).run = w.run := by unfold Work.raise; simp
@[simp] theorem Work.raise_ports (a : Nat) : (w.raise a).ports = w.ports := by unfold Work.raise; simp
@[simp] theorem Work.raise_fuller (a : Nat) : (w.raise a).fuller = w.fuller := by unfold Work.raise; simp
@[simp] theorem Work.raise_cal (a : Nat) : (w.raise a).cal = w.cal := by unfold Work.raise; simp
@[simp] theorem Work.raise_calDev (a : Nat) : (w.raise a).calDev = w.calDev := by unfold Work.raise; simp
@[simp] theorem Work.raise_hbm (a : Nat) : (w.raise a).hbm = w.hbm := by unfold Work.raise; simp
@[simp] theorem Work.raise_loom (a : Nat) : (w.raise a).loom = w.loom := by unfold Work.raise; simp
@[simp] theorem Work.raise_stats (a : Nat) : (w.raise a).stats = w.stats := by unfold Work.raise; simp
@[simp] theorem Work.raise_markers (a : Nat) : (w.raise a).markers = w.markers := by unfold Work.raise; simp
@[simp] theorem Work.raise_axes (a : Nat) : (w.raise a).axes = w.axes := by unfold Work.raise; simp
@[simp] theorem Work.raise_seg (a : Nat) : (w.raise a).seg = w.seg := by unfold Work.raise; simp
@[simp] theorem Work.raise_cls (a : Nat) : (w.raise a).cls = w.cls := by unfold Work.raise; simp
@[simp] theorem Work.raise_place (a : Nat) : (w.raise a).place = w.place := by unfold Work.raise; simp
@[simp] theorem Work.raise_sec (a : Nat) : (w.raise a).sec = w.sec := by unfold Work.raise; simp
@[simp] theorem Work.raise_power (a : Nat) : (w.raise a).power = w.power := by unfold Work.raise; simp
@[simp] theorem Work.raise_sys (a : Nat) : (w.raise a).sys = w.sys := by unfold Work.raise; simp
@[simp] theorem Work.raise_streams (a : Nat) : (w.raise a).streams = w.streams := by unfold Work.raise; simp
@[simp] theorem Work.raise_scratch (a : Nat) : (w.raise a).scratch = w.scratch := by unfold Work.raise; simp
@[simp] theorem Work.raise_queues (a : Nat) : (w.raise a).queues = w.queues := by unfold Work.raise; simp
@[simp] theorem Work.raise_dma (a : Nat) : (w.raise a).dma = w.dma := by unfold Work.raise; simp
@[simp] theorem Work.raise_lastRes (a : Nat) : (w.raise a).lastRes = w.lastRes := by unfold Work.raise; simp
@[simp] theorem Work.raise_sent (a : Nat) : (w.raise a).sent = w.sent := by unfold Work.raise; simp
@[simp] theorem Work.raise_drawCount (a : Nat) : (w.raise a).drawCount = w.drawCount := by unfold Work.raise; simp
@[simp] theorem Work.raise_freeCount (a : Nat) : (w.raise a).freeCount = w.freeCount := by unfold Work.raise; simp
@[simp] theorem Work.raise_d_conf (a : Nat) : (w.raise a).d.conf = w.d.conf := by unfold Work.raise; simp
@[simp] theorem Work.raise_d_changes (a : Nat) : (w.raise a).d.changes = w.d.changes := by unfold Work.raise; simp
@[simp] theorem Work.raise_d_blobs (a : Nat) : (w.raise a).d.blobs = w.d.blobs := by unfold Work.raise; simp
@[simp] theorem Work.raise_d_blobConf (a : Nat) : (w.raise a).d.blobConf = w.d.blobConf := by unfold Work.raise; simp
@[simp] theorem Work.raise_d_blobChanges (a : Nat) : (w.raise a).d.blobChanges = w.d.blobChanges := by unfold Work.raise; simp
@[simp] theorem Work.raise_d_groupPcie (a : Nat) : (w.raise a).d.groupPcie = w.d.groupPcie := by unfold Work.raise; simp
@[simp] theorem Work.raise_d_groupCoe (a : Nat) : (w.raise a).d.groupCoe = w.d.groupCoe := by unfold Work.raise; simp
@[simp] theorem Work.raise_d_groupYal (a : Nat) : (w.raise a).d.groupYal = w.d.groupYal := by unfold Work.raise; simp
@[simp] theorem Work.raise_d_dt (a : Nat) : (w.raise a).d.dt = w.d.dt := by unfold Work.raise; simp

/-! ### refuse -/

@[simp] theorem Work.refuse_mode (p : Path) (k : Nat) (r : Res) : (w.refuse p k r).mode = w.mode := by unfold Work.refuse; simp
@[simp] theorem Work.refuse_clk (p : Path) (k : Nat) (r : Res) : (w.refuse p k r).clk = w.clk := by unfold Work.refuse; simp
@[simp] theorem Work.refuse_timers (p : Path) (k : Nat) (r : Res) : (w.refuse p k r).timers = w.timers := by unfold Work.refuse; simp
@[simp] theorem Work.refuse_journal (p : Path) (k : Nat) (r : Res) : (w.refuse p k r).journal = w.journal := by unfold Work.refuse; simp
@[simp] theorem Work.refuse_router (p : Path) (k : Nat) (r : Res) : (w.refuse p k r).router = w.router := by unfold Work.refuse; simp
@[simp] theorem Work.refuse_host (p : Path) (k : Nat) (r : Res) : (w.refuse p k r).host = w.host := by unfold Work.refuse; simp
@[simp] theorem Work.refuse_net (p : Path) (k : Nat) (r : Res) : (w.refuse p k r).net = w.net := by unfold Work.refuse; simp
@[simp] theorem Work.refuse_ecat (p : Path) (k : Nat) (r : Res) : (w.refuse p k r).ecat = w.ecat := by unfold Work.refuse; simp
@[simp] theorem Work.refuse_ledger (p : Path) (k : Nat) (r : Res) : (w.refuse p k r).ledger = w.ledger := by unfold Work.refuse; simp
@[simp] theorem Work.refuse_posIn (p : Path) (k : Nat) (r : Res) : (w.refuse p k r).posIn = w.posIn := by unfold Work.refuse; simp
@[simp] theorem Work.refuse_axis (p : Path) (k : Nat) (r : Res) : (w.refuse p k r).axis = w.axis := by unfold Work.refuse; simp
@[simp] theorem Work.refuse_lanes (p : Path) (k : Nat) (r : Res) : (w.refuse p k r).lanes = w.lanes := by unfold Work.refuse; simp
@[simp] theorem Work.refuse_run (p : Path) (k : Nat) (r : Res) : (w.refuse p k r).run = w.run := by unfold Work.refuse; simp
@[simp] theorem Work.refuse_ports (p : Path) (k : Nat) (r : Res) : (w.refuse p k r).ports = w.ports := by unfold Work.refuse; simp
@[simp] theorem Work.refuse_fuller (p : Path) (k : Nat) (r : Res) : (w.refuse p k r).fuller = w.fuller := by unfold Work.refuse; simp
@[simp] theorem Work.refuse_cal (p : Path) (k : Nat) (r : Res) : (w.refuse p k r).cal = w.cal := by unfold Work.refuse; simp
@[simp] theorem Work.refuse_calDev (p : Path) (k : Nat) (r : Res) : (w.refuse p k r).calDev = w.calDev := by unfold Work.refuse; simp
@[simp] theorem Work.refuse_hbm (p : Path) (k : Nat) (r : Res) : (w.refuse p k r).hbm = w.hbm := by unfold Work.refuse; simp
@[simp] theorem Work.refuse_loom (p : Path) (k : Nat) (r : Res) : (w.refuse p k r).loom = w.loom := by unfold Work.refuse; simp
@[simp] theorem Work.refuse_stats (p : Path) (k : Nat) (r : Res) : (w.refuse p k r).stats = w.stats := by unfold Work.refuse; simp
@[simp] theorem Work.refuse_markers (p : Path) (k : Nat) (r : Res) : (w.refuse p k r).markers = w.markers := by unfold Work.refuse; simp
@[simp] theorem Work.refuse_axes (p : Path) (k : Nat) (r : Res) : (w.refuse p k r).axes = w.axes := by unfold Work.refuse; simp
@[simp] theorem Work.refuse_seg (p : Path) (k : Nat) (r : Res) : (w.refuse p k r).seg = w.seg := by unfold Work.refuse; simp
@[simp] theorem Work.refuse_cls (p : Path) (k : Nat) (r : Res) : (w.refuse p k r).cls = w.cls := by unfold Work.refuse; simp
@[simp] theorem Work.refuse_place (p : Path) (k : Nat) (r : Res) : (w.refuse p k r).place = w.place := by unfold Work.refuse; simp
@[simp] theorem Work.refuse_sec (p : Path) (k : Nat) (r : Res) : (w.refuse p k r).sec = w.sec := by unfold Work.refuse; simp
@[simp] theorem Work.refuse_power (p : Path) (k : Nat) (r : Res) : (w.refuse p k r).power = w.power := by unfold Work.refuse; simp
@[simp] theorem Work.refuse_sys (p : Path) (k : Nat) (r : Res) : (w.refuse p k r).sys = w.sys := by unfold Work.refuse; simp
@[simp] theorem Work.refuse_streams (p : Path) (k : Nat) (r : Res) : (w.refuse p k r).streams = w.streams := by unfold Work.refuse; simp
@[simp] theorem Work.refuse_scratch (p : Path) (k : Nat) (r : Res) : (w.refuse p k r).scratch = w.scratch := by unfold Work.refuse; simp
@[simp] theorem Work.refuse_queues (p : Path) (k : Nat) (r : Res) : (w.refuse p k r).queues = w.queues := by unfold Work.refuse; simp
@[simp] theorem Work.refuse_dma (p : Path) (k : Nat) (r : Res) : (w.refuse p k r).dma = w.dma := by unfold Work.refuse; simp
@[simp] theorem Work.refuse_sent (p : Path) (k : Nat) (r : Res) : (w.refuse p k r).sent = w.sent := by unfold Work.refuse; simp
@[simp] theorem Work.refuse_drawCount (p : Path) (k : Nat) (r : Res) : (w.refuse p k r).drawCount = w.drawCount := by unfold Work.refuse; simp
@[simp] theorem Work.refuse_freeCount (p : Path) (k : Nat) (r : Res) : (w.refuse p k r).freeCount = w.freeCount := by unfold Work.refuse; simp
@[simp] theorem Work.refuse_d_conf (p : Path) (k : Nat) (r : Res) : (w.refuse p k r).d.conf = w.d.conf := by unfold Work.refuse; simp
@[simp] theorem Work.refuse_d_changes (p : Path) (k : Nat) (r : Res) : (w.refuse p k r).d.changes = w.d.changes := by unfold Work.refuse; simp
@[simp] theorem Work.refuse_d_blobs (p : Path) (k : Nat) (r : Res) : (w.refuse p k r).d.blobs = w.d.blobs := by unfold Work.refuse; simp
@[simp] theorem Work.refuse_d_blobConf (p : Path) (k : Nat) (r : Res) : (w.refuse p k r).d.blobConf = w.d.blobConf := by unfold Work.refuse; simp
@[simp] theorem Work.refuse_d_blobChanges (p : Path) (k : Nat) (r : Res) : (w.refuse p k r).d.blobChanges = w.d.blobChanges := by unfold Work.refuse; simp
@[simp] theorem Work.refuse_d_groupPcie (p : Path) (k : Nat) (r : Res) : (w.refuse p k r).d.groupPcie = w.d.groupPcie := by unfold Work.refuse; simp
@[simp] theorem Work.refuse_d_groupCoe (p : Path) (k : Nat) (r : Res) : (w.refuse p k r).d.groupCoe = w.d.groupCoe := by unfold Work.refuse; simp
@[simp] theorem Work.refuse_d_groupYal (p : Path) (k : Nat) (r : Res) : (w.refuse p k r).d.groupYal = w.d.groupYal := by unfold Work.refuse; simp
@[simp] theorem Work.refuse_d_dt (p : Path) (k : Nat) (r : Res) : (w.refuse p k r).d.dt = w.d.dt := by unfold Work.refuse; simp

/-! ### tally -/

@[simp] theorem Work.tally_mode (p : Path) (k r f : Nat) (g : Bool) : (w.tally p k r f g).mode = w.mode := by unfold Work.tally; simp
@[simp] theorem Work.tally_clk (p : Path) (k r f : Nat) (g : Bool) : (w.tally p k r f g).clk = w.clk := by unfold Work.tally; simp
@[simp] theorem Work.tally_timers (p : Path) (k r f : Nat) (g : Bool) : (w.tally p k r f g).timers = w.timers := by unfold Work.tally; simp
@[simp] theorem Work.tally_router (p : Path) (k r f : Nat) (g : Bool) : (w.tally p k r f g).router = w.router := by unfold Work.tally; simp
@[simp] theorem Work.tally_host (p : Path) (k r f : Nat) (g : Bool) : (w.tally p k r f g).host = w.host := by unfold Work.tally; simp
@[simp] theorem Work.tally_net (p : Path) (k r f : Nat) (g : Bool) : (w.tally p k r f g).net = w.net := by unfold Work.tally; simp
@[simp] theorem Work.tally_ecat (p : Path) (k r f : Nat) (g : Bool) : (w.tally p k r f g).ecat = w.ecat := by unfold Work.tally; simp
@[simp] theorem Work.tally_ledger (p : Path) (k r f : Nat) (g : Bool) : (w.tally p k r f g).ledger = w.ledger := by unfold Work.tally; simp
@[simp] theorem Work.tally_posIn (p : Path) (k r f : Nat) (g : Bool) : (w.tally p k r f g).posIn = w.posIn := by unfold Work.tally; simp
@[simp] theorem Work.tally_axis (p : Path) (k r f : Nat) (g : Bool) : (w.tally p k r f g).axis = w.axis := by unfold Work.tally; simp
@[simp] theorem Work.tally_lanes (p : Path) (k r f : Nat) (g : Bool) : (w.tally p k r f g).lanes = w.lanes := by unfold Work.tally; simp
@[simp] theorem Work.tally_run (p : Path) (k r f : Nat) (g : Bool) : (w.tally p k r f g).run = w.run := by unfold Work.tally; simp
@[simp] theorem Work.tally_ports (p : Path) (k r f : Nat) (g : Bool) : (w.tally p k r f g).ports = w.ports := by unfold Work.tally; simp
@[simp] theorem Work.tally_fuller (p : Path) (k r f : Nat) (g : Bool) : (w.tally p k r f g).fuller = w.fuller := by unfold Work.tally; simp
@[simp] theorem Work.tally_cal (p : Path) (k r f : Nat) (g : Bool) : (w.tally p k r f g).cal = w.cal := by unfold Work.tally; simp
@[simp] theorem Work.tally_calDev (p : Path) (k r f : Nat) (g : Bool) : (w.tally p k r f g).calDev = w.calDev := by unfold Work.tally; simp
@[simp] theorem Work.tally_hbm (p : Path) (k r f : Nat) (g : Bool) : (w.tally p k r f g).hbm = w.hbm := by unfold Work.tally; simp
@[simp] theorem Work.tally_loom (p : Path) (k r f : Nat) (g : Bool) : (w.tally p k r f g).loom = w.loom := by unfold Work.tally; simp
@[simp] theorem Work.tally_stats (p : Path) (k r f : Nat) (g : Bool) : (w.tally p k r f g).stats = w.stats := by unfold Work.tally; simp
@[simp] theorem Work.tally_markers (p : Path) (k r f : Nat) (g : Bool) : (w.tally p k r f g).markers = w.markers := by unfold Work.tally; simp
@[simp] theorem Work.tally_axes (p : Path) (k r f : Nat) (g : Bool) : (w.tally p k r f g).axes = w.axes := by unfold Work.tally; simp
@[simp] theorem Work.tally_seg (p : Path) (k r f : Nat) (g : Bool) : (w.tally p k r f g).seg = w.seg := by unfold Work.tally; simp
@[simp] theorem Work.tally_cls (p : Path) (k r f : Nat) (g : Bool) : (w.tally p k r f g).cls = w.cls := by unfold Work.tally; simp
@[simp] theorem Work.tally_place (p : Path) (k r f : Nat) (g : Bool) : (w.tally p k r f g).place = w.place := by unfold Work.tally; simp
@[simp] theorem Work.tally_sec (p : Path) (k r f : Nat) (g : Bool) : (w.tally p k r f g).sec = w.sec := by unfold Work.tally; simp
@[simp] theorem Work.tally_power (p : Path) (k r f : Nat) (g : Bool) : (w.tally p k r f g).power = w.power := by unfold Work.tally; simp
@[simp] theorem Work.tally_sys (p : Path) (k r f : Nat) (g : Bool) : (w.tally p k r f g).sys = w.sys := by unfold Work.tally; simp
@[simp] theorem Work.tally_streams (p : Path) (k r f : Nat) (g : Bool) : (w.tally p k r f g).streams = w.streams := by unfold Work.tally; simp
@[simp] theorem Work.tally_scratch (p : Path) (k r f : Nat) (g : Bool) : (w.tally p k r f g).scratch = w.scratch := by unfold Work.tally; simp
@[simp] theorem Work.tally_queues (p : Path) (k r f : Nat) (g : Bool) : (w.tally p k r f g).queues = w.queues := by unfold Work.tally; simp
@[simp] theorem Work.tally_dma (p : Path) (k r f : Nat) (g : Bool) : (w.tally p k r f g).dma = w.dma := by unfold Work.tally; simp
@[simp] theorem Work.tally_lastRes (p : Path) (k r f : Nat) (g : Bool) : (w.tally p k r f g).lastRes = w.lastRes := by unfold Work.tally; simp
@[simp] theorem Work.tally_sent (p : Path) (k r f : Nat) (g : Bool) : (w.tally p k r f g).sent = w.sent := by unfold Work.tally; simp
@[simp] theorem Work.tally_drawCount (p : Path) (k r f : Nat) (g : Bool) : (w.tally p k r f g).drawCount = w.drawCount := by unfold Work.tally; simp
@[simp] theorem Work.tally_freeCount (p : Path) (k r f : Nat) (g : Bool) : (w.tally p k r f g).freeCount = w.freeCount := by unfold Work.tally; simp
@[simp] theorem Work.tally_d_conf (p : Path) (k r f : Nat) (g : Bool) : (w.tally p k r f g).d.conf = w.d.conf := by unfold Work.tally; simp
@[simp] theorem Work.tally_d_changes (p : Path) (k r f : Nat) (g : Bool) : (w.tally p k r f g).d.changes = w.d.changes := by unfold Work.tally; simp
@[simp] theorem Work.tally_d_blobs (p : Path) (k r f : Nat) (g : Bool) : (w.tally p k r f g).d.blobs = w.d.blobs := by unfold Work.tally; simp
@[simp] theorem Work.tally_d_blobConf (p : Path) (k r f : Nat) (g : Bool) : (w.tally p k r f g).d.blobConf = w.d.blobConf := by unfold Work.tally; simp
@[simp] theorem Work.tally_d_blobChanges (p : Path) (k r f : Nat) (g : Bool) : (w.tally p k r f g).d.blobChanges = w.d.blobChanges := by unfold Work.tally; simp
@[simp] theorem Work.tally_d_groupPcie (p : Path) (k r f : Nat) (g : Bool) : (w.tally p k r f g).d.groupPcie = w.d.groupPcie := by unfold Work.tally; simp
@[simp] theorem Work.tally_d_groupCoe (p : Path) (k r f : Nat) (g : Bool) : (w.tally p k r f g).d.groupCoe = w.d.groupCoe := by unfold Work.tally; simp
@[simp] theorem Work.tally_d_groupYal (p : Path) (k r f : Nat) (g : Bool) : (w.tally p k r f g).d.groupYal = w.d.groupYal := by unfold Work.tally; simp
@[simp] theorem Work.tally_d_dt (p : Path) (k r f : Nat) (g : Bool) : (w.tally p k r f g).d.dt = w.d.dt := by unfold Work.tally; simp

end Sys2Proof.Machine
end

