-- ==== Sys2Proof/Laws/Ops.lean ====
section
/-! SUPPORT. What the shared operations do, each said once: association lists, registers, counters and flags, host memory, lists, and how a meaning becomes
an outcome. -/
namespace Sys2Proof.Machine

/-! ### Lists -/

/-- A stored value is found again, and every other key keeps its value. -/
theorem alGet_alSet {α : Type} (m : List (Nat × α)) (k k' : Nat) (v : α) :
    alGet (alSet m k v) k' = if k = k' then some v else alGet m k' := by
  induction m with
  | nil => simp [alSet, alGet]
  | cons e m ih =>
    obtain ⟨a, b⟩ := e
    simp only [alSet]
    split
    · simp [alGet]
    · split
      · rename_i h1 h2
        subst h2
        by_cases h : a = k' <;> simp [alGet, h]
      · rename_i h1 h2
        by_cases h : a = k'
        · subst h
          simp [alGet, Ne.symm h2]
        · simp [alGet, h, ih]

@[simp] theorem upd_length {α : Type} (xs : List α) (n : Nat) (f : α → α) : (upd xs n f).length = xs.length := by
  induction xs generalizing n with
  | nil => cases n <;> rfl
  | cons x xs ih => cases n <;> simp [upd, ih]

/-- Changing one place changes that place and no other. -/
theorem nth_upd {α : Type} (d : α) (xs : List α) (n m : Nat) (f : α → α) :
    nth d (upd xs n f) m = if n = m ∧ m < xs.length then f (nth d xs m) else nth d xs m := by
  induction xs generalizing n m with
  | nil => cases n <;> simp [upd, nth]
  | cons x xs ih =>
    cases n with
    | zero => cases m <;> simp [upd, nth]
    | succ n =>
      cases m with
      | zero => simp [upd, nth]
      | succ m =>
        have := ih n m
        simp only [nth, upd, List.getD_cons_succ, List.length_cons, Nat.add_lt_add_iff_right, Nat.add_right_cancel_iff] at this ⊢
        exact this

/-! ### Registers -/

/-- A register holds what was stored last; the others keep their values (R41). -/
theorem Work.get_set (w : Work) (k k' : Nat) (v : Int) : (w.set k v).get k' = if k = k' then v else w.get k' := by
  unfold Work.get Work.set
  simp only [alGet_alSet]
  split <;> rfl

@[simp] theorem Work.get_set_same (w : Work) (k : Nat) (v : Int) : (w.set k v).get k = v := by simp [Work.get_set]

theorem Work.get_set_other (w : Work) (k k' : Nat) (v : Int) (h : k ≠ k') : (w.set k v).get k' = w.get k' := by simp [Work.get_set, h]

@[simp] theorem Work.get_startTimer (w : Work) (t : Timer) (k : Nat) : (w.startTimer t).get k = w.get k := rfl
@[simp] theorem Work.get_stopTimer (w : Work) (t : Timer) (k : Nat) : (w.stopTimer t).get k = w.get k := rfl
@[simp] theorem Work.get_send (w : Work) (m : Sent) (k : Nat) : (w.send m).get k = w.get k := rfl
@[simp] theorem Work.get_setBlob (w : Work) (k' : Nat) (b : Bytes) (k : Nat) : (w.setBlob k' b).get k = w.get k := rfl
@[simp] theorem Work.get_addChange (w : Work) (n k' : Nat) (v : Int) (k : Nat) : (w.addChange n k' v).get k = w.get k := rfl

/-- A counter of which the old value is within its type stays within it (R59). -/
theorem Work.bump_le (w : Work) (k n : Nat) : (w.bump k n).get k ≤ counterMax k := by
  simp only [Work.bump, Work.get_set_same]
  exact min_le_right _ _

theorem Work.get_flag (w : Work) (k m k' : Nat) : (w.flag k m).get k' = if k = k' then Int.ofNat (w.getN k ||| m) else w.get k' := by
  simp [Work.flag, Work.get_set]

theorem Work.get_unflag (w : Work) (k m k' : Nat) :
    (w.unflag k m).get k' = if k = k' then Int.ofNat (w.getN k &&& ((2 ^ 64 - 1) ^^^ m)) else w.get k' := by
  simp [Work.unflag, Work.get_set]

theorem Work.get_bump (w : Work) (k n k' : Nat) :
    (w.bump k n).get k' = if k = k' then min (w.get k + n) (counterMax k) else w.get k' := by simp [Work.bump, Work.get_set]

theorem Work.get_peak (w : Work) (k v k' : Nat) :
    (w.peak k v).get k' = if k = k' ∧ w.get k < v then (v : Int) else w.get k' := by
  unfold Work.peak
  by_cases h : w.get k < v <;> simp [h, Work.get_set]

/-- Raising an event counts it in RAISED of its source and changes no other object (R448). -/
theorem Work.get_raiseHop (w : Work) (s h k : Nat) :
    (w.raiseHop s h).get k = if raisedKey s = k ∧ s < 376 then min (w.get k + 1) (counterMax k) else w.get k := by
  have key : ∀ v : Work, v.d = (w.bump (raisedKey s)).d → v.get k = (w.bump (raisedKey s)).get k := fun v hv => by simp only [Work.get, hv]
  by_cases hs : 376 ≤ s
  · simp [Work.raiseHop, hs]
  · have : (w.raiseHop s h).get k = (w.bump (raisedKey s)).get k := by
      apply key
      unfold Work.raiseHop
      rw [if_neg hs]
      dsimp only
      split <;> (split <;> rfl)
    rw [this, Work.get_bump]
    have hs' : s < 376 := by omega
    simp only [hs', and_true]
    split
    · rename_i h; subst h; rfl
    · rfl

theorem Work.get_raise (w : Work) (s k : Nat) :
    (w.raise s).get k = if raisedKey s = k ∧ s < 376 then min (w.get k + 1) (counterMax k) else w.get k := w.get_raiseHop s 0 k

@[simp] theorem Work.get_msix (w : Work) (v k : Nat) : (w.msix v).get k = w.get k := by unfold Work.msix; split_ifs <;> rfl
@[simp] theorem Work.get_emit (w : Work) (r : LRec) (k : Nat) : (w.emit r).get k = w.get k := by unfold Work.emit; split <;> rfl

/-- The result of an access stands in the object of its path. -/
theorem Work.get_setResult (w : Work) (p : Path) (r : Res) (k : Nat) :
    (w.setResult p r).get k = if resultKey p = some k then (r.code : Int) else w.get k := by
  unfold Work.setResult
  cases h : resultKey p with
  | none => rfl
  | some k' => simp only [Work.get_set, Option.some.injEq]; rfl

@[simp] theorem Work.setResult_lastRes (w : Work) (p : Path) (r : Res) : (w.setResult p r).lastRes = r.code := by
  unfold Work.setResult
  split <;> rfl

/-- A journal entry changes no object but the count of entries overwritten. -/
theorem Work.get_tally (w : Work) (p : Path) (key raw ef : Nat) (g : Bool) (k : Nat) (h : k ≠ Obj.overwritten) :
    (w.tally p key raw ef g).get k = w.get k := by
  unfold Work.tally Work.journalPut
  dsimp only
  split
  · exact (Work.get_bump w _ _ k).trans (if_neg (Ne.symm h))
  · rfl

/-! ### Outcomes -/

@[simp] theorem onWork_eq (f : Work → Work) (s : State) : onWork f s = .next { s with w := f s.w } := rfl
@[simp] theorem onWorkNv_eq (f : NonVol → Work → Work) (s : State) : onWorkNv f s = .next { s with w := f s.nv s.w } := rfl
theorem onBoth_eq (f : Both → Both) (s : State) : onBoth f s = .next { s with nv := (f (s.nv, s.w)).1, w := (f (s.nv, s.w)).2 } := rfl

/-! ### Host memory (R484) -/

/-- A written byte reads back, and every other byte keeps its value. -/
theorem memGet_memSet (m : List Host.Cell) (a a' : Nat) (b : Byte) (lo : Nat) (h : memWfFrom lo m = true) :
    memGet (memSet m a b) a' = if a = a' then b else memGet m a' := by
  induction m generalizing lo with
  | nil =>
    simp only [memSet]
    split
    · rename_i hb
      simp only [memGet]
      split <;> simp_all
    · simp only [memGet]
  | cons e m ih =>
    obtain ⟨c, d⟩ := e
    have hw := h
    simp only [memWfFrom, Bool.and_eq_true, decide_eq_true_eq] at hw
    have gone : ∀ (x : Nat) (n : List Host.Cell) (l : Nat), memWfFrom l n = true → x < l → memGet n x = unlistedByte := by
      intro x n
      induction n with
      | nil => intros; rfl
      | cons y n ihn =>
        intro l hl hx
        obtain ⟨p, q⟩ := y
        simp only [memWfFrom, Bool.and_eq_true, decide_eq_true_eq] at hl
        simp only [memGet]
        rw [if_neg (by omega)]
        exact ihn (p + 1) hl.2 (by omega)
    simp only [memSet]
    split
    · rename_i hlt
      split
      · rename_i hb
        by_cases ha : a = a'
        · subst ha
          rw [if_pos rfl, hb]
          simp only [memGet]
          rw [if_neg (by omega)]
          exact gone a m (c + 1) hw.2 (by omega)
        · rw [if_neg ha]
      · simp only [memGet]
    · split
      · rename_i h1 h2
        subst h2
        split
        · rename_i hb
          by_cases ha : c = a'
          · subst ha
            rw [if_pos rfl, hb]
            exact gone c m (c + 1) hw.2 (by omega)
          · rw [if_neg ha]
            simp [memGet, ha]
        · by_cases ha : c = a'
          · simp [memGet, ha]
          · simp [memGet, ha]
      · rename_i h1 h2
        have := ih (c + 1) hw.2
        by_cases ha : c = a'
        · subst ha
          simp [memGet, Ne.symm h2]
        · simp only [memGet, if_neg ha]
          exact this

/-- Writing one byte keeps the canonical form. -/
theorem memSet_wf (m : List Host.Cell) (a : Nat) (b : Byte) (lo : Nat) (h : memWfFrom lo m = true) (ha : lo ≤ a) :
    memWfFrom lo (memSet m a b) = true := by
  induction m generalizing lo with
  | nil =>
    simp only [memSet]
    split
    · rfl
    · simp_all [memWfFrom]
  | cons e m ih =>
    obtain ⟨c, d⟩ := e
    simp only [memWfFrom, Bool.and_eq_true, decide_eq_true_eq] at h
    simp only [memSet]
    split
    · rename_i hlt
      split
      · simp [memWfFrom, h]
      · rename_i hb
        simp only [memWfFrom, Bool.and_eq_true, decide_eq_true_eq]
        exact ⟨⟨ha, hb⟩, ⟨by omega, h.1.2⟩, h.2⟩
    · split
      · rename_i h1 h2
        subst h2
        split
        · have up : ∀ (n : List Host.Cell) (l k : Nat), l ≤ k → memWfFrom k n = true → memWfFrom l n = true := by
            intro n
            cases n with
            | nil => intros; rfl
            | cons y n =>
              obtain ⟨p, q⟩ := y
              intro l k hlk hk
              simp only [memWfFrom, Bool.and_eq_true, decide_eq_true_eq] at hk ⊢
              exact ⟨⟨by omega, hk.1.2⟩, hk.2⟩
          exact up m lo (c + 1) (by omega) h.2
        · rename_i hb
          simp only [memWfFrom, Bool.and_eq_true, decide_eq_true_eq]
          exact ⟨⟨h.1.1, hb⟩, h.2⟩
      · rename_i h1 h2
        simp only [memWfFrom, Bool.and_eq_true, decide_eq_true_eq]
        exact ⟨h.1, ih (c + 1) h.2 (by omega)⟩

/-- Writing a string of bytes keeps the canonical form. -/
theorem memWrite_wf (bs : Bytes) (m : List Host.Cell) (a : Nat) (h : Memory.wf m = true) : Memory.wf (memWrite m a bs) = true := by
  induction bs generalizing m a with
  | nil => exact h
  | cons b bs ih => exact ih (memSet m a b) (a + 1) (memSet_wf m a b 0 h (Nat.zero_le a))

/-- The module's writes into host memory keep its canonical form. -/
theorem hostWrite_wf (w : Work) (a : Nat) (bs : Bytes) (h : Memory.wf w.host.hostMem = true) :
    Memory.wf (w.hostWrite a bs).host.hostMem = true := memWrite_wf bs w.host.hostMem a h

/-- After reset host memory is in canonical form. -/
theorem reset_memory_wf : Memory.wf State.reset.w.host.hostMem = true := rfl

end Sys2Proof.Machine
end

