-- ==== Sys2Proof/Laws/Writes.lean ====
section
/-! SUPPORT. What a write over a path does, said once: the write that is ready and passes its checks is accepted and journaled. -/
namespace Sys2Proof.Machine

/-- What `ready` says, apart. -/
theorem Work.ready_iff (w : Work) (p : Path) : w.ready p = true ↔ w.mode.dictOpen = true ∧ w.pairedPrimary = false ∧
    w.sys.pair.proposals.isEmpty = true ∧ (hostPath p && w.mode == .shadow) = false ∧ (w.group p).isOpen = false := by
  simp only [Work.ready, Work.opens, Bool.and_eq_true, Bool.not_eq_true', and_assoc]

/-- A ready write that passes its checks is accepted, and its owner's effect follows. -/
theorem Work.writeNum_ready (w : Work) (p : Path) (key : Nat) (v : DictVal) (chk : OwnerCheck) (eff : Int → Work → Work) (ef : Option Nat)
    (r : ObjRow) (n : Int) (hr : w.ready p = true) (hc : w.checkNum p key v = .ok (r, n)) (hk : chk w n = none) :
    w.writeNum p key v chk eff ef = eff n (w.acceptNum p r key n (ef.getD (w.effectFrame r.effect))) := by
  obtain ⟨h1, h2, _, _, h4⟩ := (w.ready_iff p).mp hr
  have hm : w.mustPropose p = false := by simp [Work.mustPropose, h2]
  simp [Work.writeNum, h1, hc, hk, Work.groupStage, h4, hm]

/-- A row that is no group of another path and not read-only passes the access check outside SHADOW. -/
theorem Work.checkNum_row (w : Work) (p : Path) (key : Nat) (n : Int) (r : ObjRow) (hr : w.ready p = true)
    (hi : indexExists (key / 256) = true) (hf : findRow (key / 256) (key % 256) = some r) (hg : foreignGroup p key = false)
    (ha : r.access ≠ .ro) (hb : r.typ.isBlob = false) (hc : r.rng.check r.typ n = none) (hm : w.checkMode p r = none) :
    w.checkNum p key (.num n) = .ok (r, r.mask n) := by
  obtain ⟨_, _, _, hs, _⟩ := (w.ready_iff p).mp hr
  have : (r.access == Access.ro) = false := by simpa using ha
  simp [Work.checkNum, Work.checkAccess, hs, hi, hf, hg, this, hb, hc, hm]

/-- What an accepted number of a command row, stored nowhere, has done: the journal, the result, and nothing else (R61). -/
theorem Work.acceptNum_command (w : Work) (p : Path) (r : ObjRow) (key : Nat) (v : Int) (ef : Nat) (hr : w.ready p = true) (ha : r.access = .wo) :
    w.obeys (w.acceptNum p r key v ef) p key (field (8 * r.typ.size) v) [] [] := by
  have h2 : w.pairedPrimary = false := ((w.ready_iff p).mp hr).2.1
  have e : w.acceptNum p r key v ef = (w.tally p key (field (8 * r.typ.size) v) ef false).setResult p (w.resOf ef) := by
    have : (w.tally p key (field (8 * r.typ.size) v) ef false).pairedPrimary = false := by
      simp only [Work.pairedPrimary] at h2 ⊢
      rw [Work.get_tally _ _ _ _ _ _ _ (by decide)]
      exact h2
    simp [Work.acceptNum, Work.sendEntry, this, Work.store, ha]
  rw [e]
  refine ⟨?_, ?_, ?_, ?_, ?_⟩
  · refine ⟨?_, ?_⟩
    · simp only [Work.setResult_journal, Work.tally, Work.journalPut]
      split <;> rfl
    · simp only [Work.setResult_journal, Work.tally, Work.journalPut]
      refine ⟨_, _, rfl, ?_, ?_, rfl, rfl, rfl⟩
      · dsimp only
        split <;> rfl
      · simp only [objKey]
        omega
  · rw [Work.setResult_lastRes]
    unfold Work.resOf
    split <;> decide
  · intro k hk
    rw [Work.get_setResult, if_pos hk, Work.setResult_lastRes]
  · intro q hq
    cases q <;> simp [Part.same] at hq ⊢
  · intro k hk
    simp only [acceptKeys, List.append_nil, List.mem_cons, Option.mem_toList, not_or] at hk
    rw [Work.get_setResult, if_neg (by simpa using hk.2), Work.get_tally _ _ _ _ _ _ _ hk.1]

/-- A command row that is ready: its effect follows on its acceptance. -/
theorem Work.command_ready (w : Work) (p : Path) (key : Nat) (code : Int) (chk : Work → Option Res) (eff : Work → Work) (ef : Option Nat) (r : ObjRow)
    (hr : w.ready p = true) (hi : indexExists (key / 256) = true) (hf : findRow (key / 256) (key % 256) = some r)
    (hg : foreignGroup p key = false) (ha : r.access = .wo) (hb : r.typ.isBlob = false) (hc : r.rng.check r.typ code = none)
    (hm : r.mask code = code) (hk : chk w = none) :
    ∃ a, w.command p key code chk eff ef = eff a ∧ w.obeys a p key (field (8 * r.typ.size) code) [] [] := by
  have hm' : w.checkMode p r = none := by simp [Work.checkMode, ha]
  have h := w.checkNum_row p key code r hr hi hf hg (by simp [ha]) hb hc hm'
  rw [hm] at h
  exact ⟨_, w.writeNum_ready p key _ _ _ ef r code hr h hk, w.acceptNum_command p r key code _ hr ha⟩

/-- An effect on an accepted command that keeps the journal and the result adds what it changes itself. -/
theorem Work.obeys_trans (a b c : Work) (p : Path) (key raw : Nat) (ps : List Part) (ks : List Nat) (h : a.obeys b p key raw [] [])
    (hj : b.only c ps) (hs : b.sameBut c ks) (nj : Part.journal ∉ ps) (nl : Part.lastRes ∉ ps) (nk : ∀ k, resultKey p = some k → k ∉ ks) :
    a.obeys c p key raw ps ks := by
  obtain ⟨⟨h1, e, es, h2, h3⟩, h4, h5, h6, h7⟩ := h
  have ej : c.journal = b.journal := hj .journal nj
  have el : c.lastRes = b.lastRes := hj .lastRes nl
  refine ⟨⟨by rw [ej]; exact h1, e, es, by rw [ej]; exact h2, h3⟩, by rw [el]; exact h4, ?_, ?_, ?_⟩
  · intro k hk
    rw [hs k (nk k hk), el]
    exact h5 k hk
  · intro q hq
    simp only [List.mem_cons, not_or] at hq
    have x := h6 q (by simp [hq.1, hq.2.1])
    have y := hj q hq.2.2
    cases q <;> simp_all [Part.same]
  · intro k hk
    simp only [List.mem_append, not_or] at hk
    rw [hs k hk.2, h7 k (by simpa using hk.1)]

end Sys2Proof.Machine
end

