-- ==== Sys2Proof/WellFormed.lean ====
section
/-! DEFINITION. Well-formed commands: the bounds the spec sets on operands that their types do not carry. Every command has a meaning, well formed or
not; a well-formed one is what a sender that keeps to the spec sends. -/
namespace Sys2Proof

/-- A BAR0 form belongs to PCIe and every other form to the other paths (R49, R54, R459); a profile's writes are those of its load (R83). -/
def pathForm (p : Path) (bar0 : Bool) : Bool :=
  match p with
  | .pcie => bar0
  | .profile _ => false
  | _ => !bar0

/-- A model digest, or none (R470). -/
def digestLen (b : Bytes) : Bool := decide (b.length = 0) || decide (b.length = 32)

/-- A path that sends commands: any but the profile loader, whose writes are part of a load. -/
def pathSends (p : Path) : Bool :=
  match p with
  | .profile _ => false
  | _ => true

/-- Whether a command is well formed. -/
def Instr.wf (i : Instr) : Bool :=
  match i with
  | .objectWrite p f => pathForm p (match f with
    | .bar0 _ _ => true
    | .object _ _ _ => false)
  | .dtStart p => pathSends p
  | .dtAbort p => pathSends p
  | .dtComplete data => decide (data.length ≤ 268435455)
  | .coeSdoTransfer _ => true
  | .coeSdoInfo _ => true
  | .groupOpen p => pathSends p
  | .groupClose p => pathSends p
  | .groupAbort p => pathSends p
  | .tallyReadEntries p => pathSends p
  | .runStart p => pathSends p
  | .runStop p => pathSends p
  | .startTakesEffect => true
  | .stopTakesEffect => true
  | .stopDrainEnd => true
  | .calCmdDark p => pathSends p
  | .calCmdFlat p => pathSends p
  | .calCmdGeom p => pathSends p
  | .calCmdAbort p => pathSends p
  | .resetCmd p => pathSends p
  | .commit p => pathSends p
  | .loadProfile p _ => pathSends p
  | .profileImageWrite p _ _ => pathSends p
  | .profileProgramDone => true
  | .profileErase p _ => pathSends p
  | .idleRetention => true
  | .idleWakeDone => true
  | .capacityReturn => true
  | .mgmtWatchdogExpiry => true
  | .hubStateUncorr => true
  | .pwrResetAssert => true
  | .warmResetAssert => true
  | .resetRelease _ => true
  | .bootImageCheck _ => true
  | .firmwareTrainTimeout _ => true
  | .dieLinksTrained _ => true
  | .hbmTrained _ => true
  | .camWaitExpiry => true
  | .trainEnd => true
  | .posEdge _ _ _ => true
  | .indexPulse _ _ _ => true
  | .indexCorrection _ => true
  | .ssiPoll _ _ _ _ => true
  | .speedTimeout _ => true
  | .countWrite p _ _ => pathSends p
  | .triggerIssued _ => true
  | .cdrLock _ _ => true
  | .signalLoss _ => true
  | .freqErr _ _ => true
  | .blockLock _ _ => true
  | .blockLockLoss _ _ => true
  | .bitslip p _ => pathSends p
  | .alignSearch _ _ => true
  | .commaLock _ _ _ => true
  | .laneMarker _ _ _ _ => true
  | .laneRetrain p _ => pathSends p
  | .laneRetrainDone _ _ => true
  | .patternStart p _ => pathSends p
  | .patternStop p _ => pathSends p
  | .prbsLock _ _ => true
  | .eyePoint p _ => pathSends p
  | .eyeMap p _ => pathSends p
  | .eyeAbort p _ => pathSends p
  | .eyeScanDone _ _ => true
  | .linePacket _ _ _ _ _ _ _ => true
  | .lineTimeout _ _ => true
  | .portOverload _ _ _ => true
  | .portCapacityLost _ => true
  | .portCapacityReturn _ => true
  | .rslMessage _ _ _ => true
  | .cxpStreamPacket _ _ _ _ _ _ => true
  | .cxpHeartbeat _ => true
  | .portDiscovery _ => true
  | .discoveryAccessTimeout _ => true
  | .regRead p _ => pathSends p
  | .regWrite p _ => pathSends p
  | .regTimeout _ => true
  | .portSuspend p _ => pathSends p
  | .serviceImageWrite p _ _ => pathSends p
  | .portApplyResume p _ => pathSends p
  | .portResume _ => true
  | .fullerLine _ _ _ => true
  | .linePublished _ => true
  | .corrSwap _ => true
  | .lutTableWrite p _ _ _ => pathSends p
  | .pcalDark p _ => pathSends p
  | .pcalFlat p _ => pathSends p
  | .pcalAbort p _ => pathSends p
  | .pcalExclusionStart _ => true
  | .calConfirmInPlace p => pathSends p
  | .calConfirmRemoved p => pathSends p
  | .pcalConfirmInPlace p _ => pathSends p
  | .pcalConfirmRemoved p _ => pathSends p
  | .calRefTimeout _ => true
  | .calSettleDone _ => true
  | .calAccumulateDone _ => true
  | .calComputeDone _ => true
  | .calTraverseStop _ => true
  | .pcalReturn _ => true
  | .calTimerTrigger => true
  | .workOpenCopy p _ => pathSends p
  | .workOpenFresh p _ => pathSends p
  | .workDiscard p _ => pathSends p
  | .calCommit p _ => pathSends p
  | .calImport p _ _ => pathSends p
  | .geomImport p _ => pathSends p
  | .calExport p _ => pathSends p
  | .workExport p _ => pathSends p
  | .geomExport p => pathSends p
  | .geomFit _ _ => true
  | .sweepLine _ _ => true
  | .mapRewrite _ => true
  | .tilePassRequest _ _ _ tile _ _ => match tile with
    | some t => decide (t < 256)
    | none => true
  | .haloEdgeLines _ _ _ values _ _ => decide (values.length = 32) && values.all (fun v => decide (v < 65536))
  | .haloTimeout _ _ _ => true
  | .columnMap p => pathSends p
  | .bandPublished _ => true
  | .mergeLink _ => true
  | .mergeEdges _ _ f _ _ => decide (f < 8)
  | .mergeDone _ f _ => decide (f < 8)
  | .mergeAccum _ _ => true
  | .mergeSplit _ _ => true
  | .sysMergeTimeout => true
  | .classifyBatchDone _ _ => true
  | .ledgerNumber => true
  | .cropCutDone => true
  | .modelImageWrite p _ _ => pathSends p
  | .modelTakesEffect _ => true
  | .frameDone => true
  | .ledgerDeliver _ => true
  | .recordsLost _ => true
  | .statFrameComplete _ _ => true
  | .statRecordDelivered _ _ => true
  | .exposureWrite p _ _ _ => pathSends p
  | .camGainWrite p _ _ _ => pathSends p
  | .expFault _ => true
  | .expGenAdvance _ => true
  | .streamRecordHandoff _ _ => true
  | .streamSyncCmd p _ => pathSends p
  | .monSyncCmd p _ => pathSends p
  | .syncReset => true
  | .compEngineTake _ => true
  | .compStallEnd _ _ _ => true
  | .compMemberDone _ _ => true
  | .engineAbort p _ => pathSends p
  | .hcTarget p _ _ => pathSends p
  | .mqClear p _ => pathSends p
  | .markFire _ => true
  | .markPulseEnd _ => true
  | .mvPush p _ => pathSends p
  | .axisStep _ => true
  | .axisStop p _ => pathSends p
  | .axisQuickStop p _ => pathSends p
  | .axisHalt p _ => pathSends p
  | .axisEnable p _ => pathSends p
  | .axisDisable p _ => pathSends p
  | .axisClearFault p _ _ => pathSends p
  | .groupStop p _ => pathSends p
  | .groupQuickStop p _ => pathSends p
  | .standstillTimeout _ => true
  | .crWakeEnd _ => true
  | .axisStall _ _ => true
  | .drvFault _ => true
  | .homeFail _ => true
  | .axisSyncStart _ => true
  | .segJobDispatch => true
  | .segJobAbandon => true
  | .classifyBatchDispatch _ => true
  | .epochStart => true
  | .shedSend => true
  | .shedTimeout _ => true
  | .clRelease p _ => pathSends p
  | .clReturn p _ => pathSends p
  | .releaseSlotMove _ => true
  | .unitWatchdogExpiry _ => true
  | .hbmRefresh _ _ => true
  | .hbmTempRead _ _ => true
  | .hbmThrottle _ _ _ _ => true
  | .hbmPowerDown _ => true
  | .hbmSelfRefreshEntry _ => true
  | .hbmSelfRefreshExit _ => true
  | .hbmUncorr _ _ _ => true
  | .hbmPeriodicRetrain => true
  | .pcRetrainCmd p _ => pathSends p
  | .pcRetrainDone _ => true
  | .pcLostEffect => true
  | .spRowTest _ _ _ => true
  | .spUncorr _ => true
  | .spFullTest p _ => pathSends p
  | .spFullTestDone _ _ => true
  | .spRetain p _ => pathSends p
  | .spWake p _ => pathSends p
  | .queueWrite _ _ _ => true
  | .queueRead _ _ _ => true
  | .chProgramWrite p _ _ => pathSends p
  | .chStart p _ => pathSends p
  | .chStop p _ => pathSends p
  | .chClear p _ => pathSends p
  | .dmaStopped _ => true
  | .dmaMove _ _ _ => true
  | .dmaLoop _ => true
  | .dmaWait _ => true
  | .dmaSignal _ _ => true
  | .dmaEnd _ _ => true
  | .dmaAddr _ => true
  | .dmaWaitTimeout _ => true
  | .dmaError _ _ _ => true
  | .eventDelivery => true
  | .evtIn _ _ => true
  | .swRaise p _ => pathSends p
  | .relayOut _ => true
  | .evtOutPulseEnd _ => true
  | .yalindFrameRx _ _ _ payload => decide (payload.length ≤ 8984)
  | .helloSend => true
  | .hello _ _ _ _ _ _ _ => true
  | .helloAck _ _ => true
  | .bye _ => true
  | .ack _ _ _ => true
  | .yalindRetry _ _ _ => true
  | .sessionTimeout _ => true
  | .fragmentTimeout _ _ _ => true
  | .mgmtRead _ _ _ _ => true
  | .mgmtWrite _ _ _ _ _ => true
  | .mgmtResult _ _ _ _ => true
  | .align _ _ _ => true
  | .desc _ _ _ settings => decide (settings.length = 11)
  | .groupTimeout _ => true
  | .offerSend => true
  | .offer _ _ digests => digests.all (fun d => decide (d.length = 32))
  | .shedPeerTimeout _ => true
  | .batch _ _ fd nd cands => digestLen fd && digestLen nd && decide (cands.length ≤ 256) && cands.all (fun c => decide (c.feats.length = 64))
  | .shedResult _ _ answers => decide (answers.length ≤ 256)
  | .refuse _ _ => true
  | .leave _ => true
  | .heartbeatSend => true
  | .heartbeat _ m => decide (m.delivered.length = 4) && decide (m.fires.length = 16)
  | .pairHbIn _ => true
  | .propose _ _ => true
  | .entry _ _ => true
  | .mirrorRecord _ b => decide (b.length = 64) || decide (b.length = 128)
  | .frameSync _ m => decide (m.queues.length = 16) && m.queues.all (fun q => decide (q.length ≤ 64))
  | .snapshot _ _ => true
  | .shadowEntry => true
  | .pairReq _ _ => true
  | .pairEnd _ _ => true
  | .takeover _ => true
  | .pairCmdPair p => pathSends p
  | .pairCmdEnd p => pathSends p
  | .heartbeatLoss => true
  | .primaryHeartbeatLoss => true
  | .failoverTakeover => true
  | .ptpMessage _ _ _ => true
  | .pcieLinkDown _ => true
  | .pciePerstRelease => true
  | .ciDoorbell _ _ => true
  | .ringEnable p _ => pathSends p
  | .ringDisable p _ => pathSends p
  | .coalTimeExpiry _ => true
  | .msixUnmask _ => true
  | .ethLinkChange _ _ _ _ => true
  | .arpRequest _ _ _ _ => true
  | .icmpEcho _ _ _ _ _ _ => true
  | .ecatSm2Write _ => true
  | .ecatSm3Read => true
  | .ecatWatchdog => true
  | .ecatStateChange _ => true
  | .fuseDebugLock p _ => pathSends p
  | .fuseSignProfiles p _ => pathSends p
  | .fuseSignModels p _ => pathSends p
  | .fuseRevokeKey p _ _ => pathSends p
  | .ownerKeyBurn p _ _ => pathSends p
  | .fwImageWrite p _ => pathSends p
  | .fwProgramDone => true
  | .rollbackCommit p _ => pathSends p
  | .quote p => pathSends p
  | .debugToken p _ => pathSends p
  | .identityKeyReady => true
  | .vinNotGood _ _ => true
  | .vinGood _ _ => true
  | .vinRangeTimeout => true
  | .returnToA => true
  | .holdupExpiry => true
  | .supplySafeTimeout => true
  | .vioFault _ _ => true
  | .refclkLoss => true
  | .serdesRefclkLoss => true
  | .pcieRefclkLoss => true
  | .thermalReading _ _ _ _ _ => true
  | .thermalShutdown => true
  | .shutdownLatchClear => true
  | .railsGood => true
  | .vioASettled _ => true
  | .objectRead p f => pathForm p (match f with
    | .bar0 _ w => decide (w ≤ 4096)
    | .object _ _ => false)
  | .pcieLinkUp => true
  | .rootPllLock => true
  | .dieLinkFault _ => true
  | .hbmStackFailure _ => true
  | .cxpLaneUp _ => true
  | .cxpControlAck _ _ _ _ _ _ _ _ _ _ => true
  | .pathLost _ => true
  | .pauseFrame _ => true

end Sys2Proof
end

