-- ==== Sys2Proof/Tests/Slice0.lean ====
section
/-! SUPPORT. Tests: the well-formedness checks, the worked examples of the spec, and for every statement states and operands that meet its hypotheses. -/
set_option Elab.async false
open Sys2Proof Sys2Proof.Machine

/-- A module that inspects: the dictionary open, all lists as after reset. -/
def wInsp : Work := { mode := .inspect, clk := { ctl := 4000000000, tb := 10 ^ 15 } }

/-- A state around a working state. -/
def st (w : Work) : State := { w := w, pending := [] }


/-- The least feature model: one input, one fully connected layer with one output, class 0 alone, unsigned. -/
def tinyModel : Bytes :=
  let head := leBytes 64 (packBits [(0, 32, 0x4D444C4D), (32, 16, 1), (48, 8, 0), (56, 8, 1), (64, 16, 1), (80, 16, 1), (96, 8, 1), (104, 8, 0),
    (112, 32, 1), (144, 32, 24), (192, 64, 1)])
  let layer := leBytes 64 (packBits [(0, 8, 3), (8, 8, 0xFF), (24, 8, 2), (32, 8, 1), (40, 8, 1), (48, 8, 1), (64, 16, 1), (112, 8, 127), (160, 32, 1),
    (192, 32, 8)])
  let blob := leBytes 24 (packBits [(0, 8, 1), (96, 32, 2 ^ 30)])
  let body := head ++ List.replicate 16 0 ++ List.replicate 256 0 ++ layer ++ blob
  body ++ shake256 body

/-! ### Well-formedness: for each check a term that it refuses, and one that it takes -/

theorem test_wf_object_write_path_forms :
    (Instr.objectWrite .coe (.bar0 0 [1])).wf = false ∧ (Instr.objectWrite .pcie (.object 0x2000 1 (.num 0))).wf = false ∧
    (Instr.objectWrite (.profile 0) (.object 0x2000 1 (.num 0))).wf = false ∧ (Instr.objectWrite .pcie (.bar0 0 [1])).wf = true := by decide
theorem test_wf_object_read_forms :
    (Instr.objectRead .pcie (.bar0 0 4097)).wf = false ∧ (Instr.objectRead .coe (.bar0 0 8)).wf = false ∧
    (Instr.objectRead .pcie (.object 0x2000 1)).wf = false ∧ (Instr.objectRead .pcie (.bar0 0 8)).wf = true := by decide
theorem test_wf_dt_complete_length (b : Bytes) (h : b.length = 268435456) : (Instr.dtComplete b).wf = false := by
  show decide (b.length ≤ 268435455) = false; simp [h]
theorem test_wf_tile : (Instr.tilePassRequest 0 0 0 (some 256) 0 0).wf = false ∧ (Instr.tilePassRequest 0 0 0 (some 255) 0 0).wf = true := by decide
theorem test_wf_halo_count : (Instr.haloEdgeLines 0 0 0 [] 0 0).wf = false := by decide
theorem test_wf_halo_values : (Instr.haloEdgeLines 0 0 0 (List.replicate 32 65536) 0 0).wf = false ∧
    (Instr.haloEdgeLines 0 0 0 (List.replicate 32 65535) 0 0).wf = true := by decide
theorem test_wf_merge_done_field : (Instr.mergeDone 0 8 0).wf = false ∧ (Instr.mergeDone 0 7 0).wf = true := by decide
theorem test_wf_merge_edges_field : (Instr.mergeEdges 0 0 8 0 []).wf = false ∧ (Instr.mergeEdges 0 0 7 0 []).wf = true := by decide
theorem test_wf_yalind_payload (b : Bytes) (h : b.length = 8985) : (Instr.yalindFrameRx 0 0 0 b).wf = false := by
  show decide (b.length ≤ 8984) = false; simp [h]
theorem test_wf_offer_digests : (Instr.offer 0 0 [[1]]).wf = false ∧ (Instr.offer 0 0 [List.replicate 32 1]).wf = true := by decide
theorem test_wf_mirror_record : (Instr.mirrorRecord 0 []).wf = false ∧ (Instr.mirrorRecord 0 (List.replicate 64 0)).wf = true := by decide
theorem test_wf_shed_answers (a : Fin 1024) (n : Nat) (xs : List ShedAnswer) (h : xs.length = 257) : (Instr.shedResult a n xs).wf = false := by
  show decide (xs.length ≤ 256) = false; simp [h]
/-- The profile loader sends no command of its own: every row with a path refuses it. -/
theorem test_wf_profile_sends_nothing :
    ([.dtStart (.profile 0), .dtAbort (.profile 0), .groupOpen (.profile 0), .groupClose (.profile 0), .groupAbort (.profile 0), .tallyReadEntries (.profile 0),
      .runStart (.profile 0), .runStop (.profile 0), .calCmdDark (.profile 0), .calCmdFlat (.profile 0), .calCmdGeom (.profile 0), .calCmdAbort (.profile 0),
      .resetCmd (.profile 0), .commit (.profile 0), .loadProfile (.profile 0) 0, .profileImageWrite (.profile 0) 0 [], .profileErase (.profile 0) 0, .countWrite (.profile 0) 0 0,
      .bitslip (.profile 0) 0, .laneRetrain (.profile 0) 0, .patternStart (.profile 0) 0, .patternStop (.profile 0) 0, .eyePoint (.profile 0) 0, .eyeMap (.profile 0) 0,
      .eyeAbort (.profile 0) 0, .regRead (.profile 0) 0, .regWrite (.profile 0) 0, .portSuspend (.profile 0) 0, .serviceImageWrite (.profile 0) 0 [], .portApplyResume (.profile 0) 0,
      .lutTableWrite (.profile 0) 0 0 [], .pcalDark (.profile 0) 0, .pcalFlat (.profile 0) 0, .pcalAbort (.profile 0) 0, .calConfirmInPlace (.profile 0), .calConfirmRemoved (.profile 0),
      .pcalConfirmInPlace (.profile 0) 0, .pcalConfirmRemoved (.profile 0) 0, .workOpenCopy (.profile 0) 0, .workOpenFresh (.profile 0) 0, .workDiscard (.profile 0) 0, .calCommit (.profile 0) 0,
      .calImport (.profile 0) 0 [], .geomImport (.profile 0) [], .calExport (.profile 0) 0, .workExport (.profile 0) 0, .geomExport (.profile 0), .columnMap (.profile 0),
      .modelImageWrite (.profile 0) 0 [], .exposureWrite (.profile 0) 0 0 0, .camGainWrite (.profile 0) 0 0 0, .streamSyncCmd (.profile 0) 0, .monSyncCmd (.profile 0) 0, .engineAbort (.profile 0) 0,
      .hcTarget (.profile 0) 0 0, .mqClear (.profile 0) 0, .mvPush (.profile 0) 0, .axisStop (.profile 0) 0, .axisQuickStop (.profile 0) 0, .axisHalt (.profile 0) 0,
      .axisEnable (.profile 0) 0, .axisDisable (.profile 0) 0, .axisClearFault (.profile 0) 0 false, .groupStop (.profile 0) 0, .groupQuickStop (.profile 0) 0, .clRelease (.profile 0) 0,
      .clReturn (.profile 0) 0, .pcRetrainCmd (.profile 0) 0, .spFullTest (.profile 0) 0, .spRetain (.profile 0) 0, .spWake (.profile 0) 0, .chProgramWrite (.profile 0) 0 [],
      .chStart (.profile 0) 0, .chStop (.profile 0) 0, .chClear (.profile 0) 0, .swRaise (.profile 0) 0, .pairCmdPair (.profile 0), .pairCmdEnd (.profile 0),
      .ringEnable (.profile 0) 0, .ringDisable (.profile 0) 0, .fuseDebugLock (.profile 0) false, .fuseSignProfiles (.profile 0) false, .fuseSignModels (.profile 0) false, .fuseRevokeKey (.profile 0) 0 false,
      .ownerKeyBurn (.profile 0) [] false, .fwImageWrite (.profile 0) [], .rollbackCommit (.profile 0) false, .quote (.profile 0), .debugToken (.profile 0) []] : List Instr).all (fun i => !i.wf) = true := by decide
theorem test_wf_host_sends :
    ([.dtStart .coe, .dtAbort .coe, .groupOpen .coe, .groupClose .coe, .groupAbort .coe, .tallyReadEntries .coe,
      .runStart .coe, .runStop .coe, .calCmdDark .coe, .calCmdFlat .coe, .calCmdGeom .coe, .calCmdAbort .coe,
      .resetCmd .coe, .commit .coe, .loadProfile .coe 0, .profileImageWrite .coe 0 [], .profileErase .coe 0, .countWrite .coe 0 0,
      .bitslip .coe 0, .laneRetrain .coe 0, .patternStart .coe 0, .patternStop .coe 0, .eyePoint .coe 0, .eyeMap .coe 0,
      .eyeAbort .coe 0, .regRead .coe 0, .regWrite .coe 0, .portSuspend .coe 0, .serviceImageWrite .coe 0 [], .portApplyResume .coe 0,
      .lutTableWrite .coe 0 0 [], .pcalDark .coe 0, .pcalFlat .coe 0, .pcalAbort .coe 0, .calConfirmInPlace .coe, .calConfirmRemoved .coe,
      .pcalConfirmInPlace .coe 0, .pcalConfirmRemoved .coe 0, .workOpenCopy .coe 0, .workOpenFresh .coe 0, .workDiscard .coe 0, .calCommit .coe 0,
      .calImport .coe 0 [], .geomImport .coe [], .calExport .coe 0, .workExport .coe 0, .geomExport .coe, .columnMap .coe,
      .modelImageWrite .coe 0 [], .exposureWrite .coe 0 0 0, .camGainWrite .coe 0 0 0, .streamSyncCmd .coe 0, .monSyncCmd .coe 0, .engineAbort .coe 0,
      .hcTarget .coe 0 0, .mqClear .coe 0, .mvPush .coe 0, .axisStop .coe 0, .axisQuickStop .coe 0, .axisHalt .coe 0,
      .axisEnable .coe 0, .axisDisable .coe 0, .axisClearFault .coe 0 false, .groupStop .coe 0, .groupQuickStop .coe 0, .clRelease .coe 0,
      .clReturn .coe 0, .pcRetrainCmd .coe 0, .spFullTest .coe 0, .spRetain .coe 0, .spWake .coe 0, .chProgramWrite .coe 0 [],
      .chStart .coe 0, .chStop .coe 0, .chClear .coe 0, .swRaise .coe 0, .pairCmdPair .coe, .pairCmdEnd .coe,
      .ringEnable .coe 0, .ringDisable .coe 0, .fuseDebugLock .coe false, .fuseSignProfiles .coe false, .fuseSignModels .coe false, .fuseRevokeKey .coe 0 false,
      .ownerKeyBurn .coe [] false, .fwImageWrite .coe [], .rollbackCommit .coe false, .quote .coe, .debugToken .coe []] : List Instr).all (fun i => i.wf) = true := by decide

/-! ### The spec's worked examples -/

/-- The read-out example: READ_FIRST at BAR0 offset 0x0110_1008. -/
theorem test_bar0_slot_of_read_first :
    (match exec (.objectWrite .pcie (.bar0 0x01101008 (leBytes 8 1203345))) (st wInsp) with
     | .next t => (t.w.get (objKey 0x2202 1), t.w.journal.head)
     | _ => (0, 0)) = (1203345, 1) := by decide +kernel
/-- The read-out example: a full ring of which 1,203,878 is the newest keeps 1,138,343 as the oldest (R61). -/
theorem test_ring_keeps_65536 : 1203878 - journalSize + 1 = 1138343 := by decide
/-- MAX_LINE_RATE 320,000 lines/s: I_MIN is 1,250 control clocks. -/
theorem test_machine3_i_min : ({ d := { conf := [(Obj.maxLineRate, 320000)] } } : Work).iMin = 1250 := by decide +kernel
/-- INDEX_PERIOD 10,000, INDEX_REF 0: Z at 120,039,996 is an error of −4. -/
theorem test_machine3_index_slip : indexError 120039996 0 10000 = -4 := by decide
/-- Pixel 7,300 of camera 9: offset, gain, response table, packing. -/
theorem test_pixel_7300_gain : align 12 2310 = 36960 ∧ gainOf 0 35808 18842 4096 = 41180 := by decide
theorem test_pixel_7300_table :
    linearise (List.replicate 1290 0 ++ leBytes 2 41020 ++ leBytes 2 41090 ++ List.replicate 764 0) 41180 = 41051 ∧ packValue 12 41051 = 2566 := by decide +kernel
/-- Camera 5 and camera 6 at column 96,300: the cubic taps of phases 16 and 32. -/
theorem test_cubic_taps : kernelTaps 2 [] 16 = [-1152, 14208, 3712, -384] ∧ kernelTaps 2 [] 32 = [-1024, 9216, 9216, -1024] := by decide
/-- Camera 5's record: columns 80,101 to 96,481, and column 96,300 at pixel 16,200.25. -/
def camera5 : Geo := ⟨5, 0, 0, 16383, 2400, 26, 1, false, [379208031272960, 35182224605184, 0, 0, 0, 0]⟩
theorem test_camera5_columns : camera5.span = (80101, 96481) ∧ camera5.x64 96300 = 64 * 16200 + 16 := by decide +kernel
/-- The streak's thresholds at b = 41,100. -/
theorem test_streak_thresholds :
    ({ d := { changes := [⟨0, Obj.tLowAbs 0, 1024⟩, ⟨0, Obj.tLowRel 0, 3277⟩, ⟨0, Obj.tHighAbs 0, 4096⟩, ⟨0, Obj.tHighRel 0, 6554⟩] } } : Work).thresholds
      0 0 41100 = (3079, 8206) := by decide +kernel
/-- Monitor 5 on the scratch. -/
theorem test_scratch_mean :
    monMean ((List.replicate 52 41100 ++ List.replicate 4 35900 ++ List.replicate 8 32400).map (fun v => ⟨v, true, false, false⟩)) = some 39688 := by
  decide +kernel
/-- Stream 0: a CD delay of 279 columns, a ramp of 16 lines, and the longest member of a record. -/
theorem test_stream0_chain : chainDelay 0 5 = 279 ∧ rampOutputs 0 3 = 16 ∧ longestMember 771072 = 771234 := by decide
/-- The blended move: the first two speeds from rest at 10^7 steps/s², and their intervals. -/
theorem test_axis2_first_steps :
    (let w : Work := { d := { conf := [(Obj.maxStepRate 2, 5000000)] } }
     (w.stepInterval 2 (speedUp 0 10000000), w.stepInterval 2 (speedUp (speedUp 0 10000000) 10000000))) = (89443, 63246) := by decide +kernel
/-- Gray code, and an SSI reading that wraps steps by the least magnitude (R97). -/
theorem test_gray_code : grayToBin 4 0b0110 = 0b0100 ∧ ssiStep 4 15 0 = 1 ∧ ssiStep 4 0 15 = -1 := by decide
/-- CRC-32 as in RFC 1952: the check value of "123456789" in common use. -/
theorem test_crc32_check : crc32 [0x31, 0x32, 0x33, 0x34, 0x35, 0x36, 0x37, 0x38, 0x39] = 0xCBF43926#32 := by decide +kernel
/-- SHAKE256 of no bytes, the first 8 bytes of FIPS 202's example. -/
theorem test_shake256_empty : (shake256 []).take 8 = [0x46, 0xb9, 0xdd, 0x2b, 0x0b, 0xa8, 0x8d, 0x13] := by decide +kernel

/-! ### The hypotheses of the statements are met -/

set_option maxRecDepth 20000 in
/-- States and operands that meet the hypotheses of StepTakesTheFrontCommand. -/
theorem witness_StepTakesTheFrontCommand :
    State.reset.pending = [] := by decide +kernel

set_option maxRecDepth 20000 in
/-- States and operands that meet the hypotheses of ResetHoldsDefaults. -/
theorem witness_ResetHoldsDefaults :
    findRow (0x2000#16).toNat (1#8).toNat ≠ none ∧ findRow (0x0005#16).toNat (1#8).toNat = none := by decide +kernel

/-- Fuses, a state with the same fuses and a command in front, and its next state: the hypotheses of StepsKeepTheFuses. -/
theorem witness_StepsKeepTheFuses :
    ∃ (f : Fuses) (s t : State), f.rollback = 3 ∧ f.signModels = true ∧ f.Keeps s.nv.fuses ∧ s.pending = [.fuseDebugLock .pcie true] ∧ step s = .next t :=
  ⟨{ rollback := 3, signModels := true }, { nv := { fuses := { rollback := 3, signModels := true } }, w := {}, pending := [.fuseDebugLock .pcie true] }, _,
    rfl, rfl, ⟨fun _ => ⟨fun h => ⟨h, rfl⟩, id⟩, rfl, id, id, id, Nat.le_refl _⟩, rfl, rfl⟩

set_option maxRecDepth 20000 in
/-- States and operands that meet the hypotheses of ShadowStandsBy. -/
theorem witness_ShadowStandsBy :
    (st { mode := .shadow }).w.mode = .shadow ∧ hostPath (.yalind 3) = true ∧ (st { mode := .shadow }).w.sys.pair.proposals = [] := by decide +kernel

set_option maxRecDepth 20000 in
/-- States and operands that meet the hypotheses of MaskedVectorsPend. -/
theorem witness_MaskedVectorsPend :
    (fun (w : Work) v => vectorAssigned v = true ∧ (w.host.funcMasked = true ∨ v ∉ w.host.unmasked)) {} 191 ∧
    (fun (w : Work) v => vectorAssigned v = true ∧ w.host.funcMasked = false ∧ v ∈ w.host.unmasked) { host := { funcMasked := false, unmasked := [0] } } 0 ∧
    (fun (s : State) (v : Fin 2048) => vectorAssigned v = true ∧ s.w.host.funcMasked = false) (st { host := { funcMasked := false } }) 95 ∧
    (fun (s : State) (v : Nat) => vectorAssigned v = true ∧ v ∈ s.w.host.unmasked ∧ s.w.host.funcMasked = true) (st { host := { funcMasked := true, unmasked := [64] } }) 64 ∧
    (fun (w : Work) (n : Fin 64) => 128 + n.val ∈ w.host.pending) { host := { pending := [191] } } 63 := by decide +kernel

set_option maxRecDepth 20000 in
/-- States and operands that meet the hypotheses of HalfBandTapsAreTheTable. -/
theorem witness_HalfBandTapsAreTheTable :
    ((-9 : Int), (931 : Int)) ∈ halfTaps 0 ∧ (⟨65535, true, false, false⟩ : Samp).v < 65536 := by decide +kernel

set_option maxRecDepth 20000 in
/-- States and operands that meet the hypotheses of LaterWritesGovernByFrame. -/
theorem witness_LaterWritesGovernByFrame :
    (wInsp.ready .coe = true ∧ plainNum .coe (objKey 0x6000 3) 3 (⟨0x6000, 0x1, 1, 3, 3, "CLOSE_GAP", .u8, .rwl, .frame, .const 1, .nums [(1, 255)] 1 false false⟩ : ObjRow) = true ∧ plainNum .pcie (objKey 0x6000 3) 5 (⟨0x6000, 0x1, 1, 3, 3, "CLOSE_GAP", .u8, .rwl, .frame, .const 1, .nums [(1, 255)] 1 false false⟩ : ObjRow) = true ∧
      (⟨0x6000, 0x1, 1, 3, 3, "CLOSE_GAP", .u8, .rwl, .frame, .const 1, .nums [(1, 255)] 1 false false⟩ : ObjRow).effect = .frame ∧ wInsp.frame < wInsp.effectFrame .frame ∧ wInsp.ready .pcie = true) ∧
    ((⟨0xA000, 0x1, 1, 6, 6, "SHED_ENABLE", .bool, .rwl, .frame2, .const 0, .any⟩ : ObjRow).access ≠ .wo ∧ (⟨0xA000, 0x1, 1, 6, 6, "SHED_ENABLE", .bool, .rwl, .frame2, .const 0, .any⟩ : ObjRow).effect = .frame2) ∧
    (⟨0x6410, 0x1, 8, 1, 1, "MODEL_IMAGE", .domain, .rw, .frame, .const 0, .bytes 160 33554432 1⟩ : ObjRow).effect = .frame := by decide +kernel

set_option maxRecDepth 20000 in
/-- States and operands that meet the hypotheses of ObjectWritesAreAcceptedOrRefused. -/
theorem witness_ObjectWritesAreAcceptedOrRefused :
    (fun (s : State) (p : Path) (i : BitVec 16) (x : BitVec 8) (v : Int) (r : ObjRow) => (s.w.ready p = true) ∧ (plainNum p (objKey i.toNat x.toNat) v r = true) ∧ (r.effect = .imm)) (st wInsp) .pcie 0x8423 4 777 (⟨0x8420, 0x1, 16, 4, 4, "MV_ACCEL", .u32, .rw, .imm, .const 1000000, .nums [(1, 4294967295)] 1 false false⟩ : ObjRow) ∧
    (fun (s : State) (p : Path) (i : BitVec 16) (x : BitVec 8) (v : Int) (r : ObjRow) => (s.w.ready p = true) ∧ (plainNum p (objKey i.toNat x.toNat) v r = true) ∧ (r.effect = .w1c)) (st wInsp) .coe 0x8433 4 5 (⟨0x8430, 0x1, 16, 4, 4, "AX_FLAGS", .u16, .rw, .w1c, .const 0, .bits 0xFFFF⟩ : ObjRow) ∧
    (fun (s : State) (p : Path) (i : BitVec 16) (x : BitVec 8) (v : Int) (r : ObjRow) => (s.w.ready p = true) ∧ (plainNum p (objKey i.toNat x.toNat) v r = true) ∧ (r.effect = .frame)) (st wInsp) .coe 0x6000 3 3 (⟨0x6000, 0x1, 1, 3, 3, "CLOSE_GAP", .u8, .rwl, .frame, .const 1, .nums [(1, 255)] 1 false false⟩ : ObjRow) ∧
    (fun (s : State) (p : Path) (i : BitVec 16) (x : BitVec 8) (v : Int) (r : ObjRow) (e : Res) => (s.w.ready p = true) ∧ (plainKey p (objKey i.toNat x.toNat) = true) ∧ (findRow i.toNat x.toNat = some r) ∧ (r.typ.isBlob = false) ∧ (r.access = .ro ∧ e = .readOnly ∨ (r.access = .rw ∨ r.access = .rwl) ∧ r.rng.check r.typ v = some e)) (st wInsp) .pcie 0x8423 4 0 (⟨0x8420, 0x1, 16, 4, 4, "MV_ACCEL", .u32, .rw, .imm, .const 1000000, .nums [(1, 4294967295)] 1 false false⟩ : ObjRow) .belowRange := by decide +kernel

set_option maxRecDepth 20000 in
/-- States and operands that meet the hypotheses of ReadsAnswerTheObject. -/
theorem witness_ReadsAnswerTheObject :
    (fun (s : State) (_p : Path) (i : BitVec 16) (x : BitVec 8) (r : ObjRow) => (s.w.mode.dictOpen = true) ∧ (s.w.sys.pair.proposals = []) ∧ (findRow i.toNat x.toNat = some r) ∧ (r.access ≠ .wo) ∧ (r.typ.isBlob = false) ∧ ((atKey formedNums (objKey i.toNat x.toNat)).isNone = true)) (st wInsp) .coe 0x8423 4 (⟨0x8420, 0x1, 16, 4, 4, "MV_ACCEL", .u32, .rw, .imm, .const 1000000, .nums [(1, 4294967295)] 1 false false⟩ : ObjRow) ∧
    (fun (s : State) (_p : Path) (i : BitVec 16) (x : BitVec 8) (r : ObjRow) => (s.w.mode.dictOpen = true) ∧ (s.w.sys.pair.proposals = []) ∧ (findRow i.toNat x.toNat = some r) ∧ (r.access = .wo)) (st wInsp) .coe 0x8433 9 (⟨0x8430, 0x1, 16, 9, 9, "AX_CMD", .u8, .wo, .imm, .const 0, .codes [1, 2, 3, 4, 5, 6]⟩ : ObjRow) ∧
    (fun (s : State) (i : BitVec 16) (x : BitVec 8) (r : ObjRow) => (s.w.mailbox = true) ∧ (s.w.sys.pair.proposals = []) ∧ (findRow i.toNat x.toNat = some r) ∧ (r.access ≠ .wo) ∧ (r.typ.isBlob = false) ∧ ((atKey formedNums (objKey i.toNat x.toNat)).isNone = true)) (st (wInsp.set Obj.ecatState 8)) 0x8423 4 (⟨0x8420, 0x1, 16, 4, 4, "MV_ACCEL", .u32, .rw, .imm, .const 1000000, .nums [(1, 4294967295)] 1 false false⟩ : ObjRow) ∧
    (fun (s : State) (i : BitVec 16) (x : BitVec 8) (b : Bytes) (r : ObjRow) => (s.w.mailbox = true) ∧ (s.w.ready .coe = true) ∧ (plainNum .coe (objKey i.toNat x.toNat) (r.typ.decode b) r = true) ∧ (b.length = r.typ.size) ∧ (r.effect = .imm)) (st (wInsp.set Obj.ecatState 8)) 0x8423 4 [1,2,0,0] (⟨0x8420, 0x1, 16, 4, 4, "MV_ACCEL", .u32, .rw, .imm, .const 1000000, .nums [(1, 4294967295)] 1 false false⟩ : ObjRow) ∧
    (fun (s : State) (i : BitVec 16) (x : BitVec 8) (r : ObjRow) => (s.w.mailbox = true) ∧ (findRow i.toNat x.toNat = some r) ∧ (indexExists i.toNat = true)) (st (wInsp.set Obj.ecatState 8)) 0x8423 4 (⟨0x8420, 0x1, 16, 4, 4, "MV_ACCEL", .u32, .rw, .imm, .const 1000000, .nums [(1, 4294967295)] 1 false false⟩ : ObjRow) ∧
    (fun (s : State) (_p : Path) => (s.w.mode.dictOpen = true)) (st wInsp) .coe := by decide +kernel

set_option maxRecDepth 20000 in
/-- States and operands that meet the hypotheses of WriteGroupsStageAndClose. -/
theorem witness_WriteGroupsStageAndClose :
    (fun (s : State) (p : Path) (g : Nat) => (s.w.opens p = true) ∧ (groupNo p = some g) ∧ ((s.w.group p).isOpen = false)) (st wInsp) .coe 1 ∧
    (fun (s : State) (p : Path) (g : Nat) => (s.w.opens p = true) ∧ (groupNo p = some g) ∧ ((s.w.group p).isOpen = true)) (st (wInsp.setGroup .coe { isOpen := true })) .coe 1 ∧
    (fun (s : State) (p : Path) (i : BitVec 16) (x : BitVec 8) (v : Int) (r : ObjRow) => (s.w.opens p = true) ∧ ((s.w.group p).isOpen = true) ∧ ((s.w.group p).staged.length < 256) ∧ (plainNum p (objKey i.toNat x.toNat) v r = true) ∧ (r.effect = .frame)) (st (wInsp.setGroup .coe { isOpen := true })) .coe 0x6000 3 3 (⟨0x6000, 0x1, 1, 3, 3, "CLOSE_GAP", .u8, .rwl, .frame, .const 1, .nums [(1, 255)] 1 false false⟩ : ObjRow) ∧
    (fun (s : State) (p : Path) (g : Nat) => (s.w.opens p = true) ∧ (groupNo p = some g)) (st (wInsp.setGroup .coe { isOpen := true, staged := [(5,6)] })) .coe 1 ∧
    (fun (s : State) (p : Path) (g : Nat) => (s.w.opens p = true) ∧ (groupNo p = some g) ∧ ((s.w.group p).isOpen = true) ∧ (stagedPass p (s.w.group p).staged (s.nv, s.w.setGroup p {}) = false)) (st (wInsp.setGroup .coe { isOpen := true, staged := [(objKey 0x8423 4,0)] })) .coe 1 ∧
    (fun (s : State) (p : Path) (g : Nat) (key : Nat) (v : Int) (r : ObjRow) => (s.w.opens p = true) ∧ (groupNo p = some g) ∧ ((s.w.group p).isOpen = true) ∧ ((s.w.group p).staged = [(key, v)]) ∧ (plainNum p key v r = true) ∧ (r.effect = .frame) ∧ (r.mask v = v) ∧ (s.w.journal.entries = [] ∧ s.w.journal.head = 0)) (st (wInsp.setGroup .coe { isOpen := true, staged := [(objKey 0x6000 3,3)] })) .coe 1 (objKey 0x6000 3) 3 (⟨0x6000, 0x1, 1, 3, 3, "CLOSE_GAP", .u8, .rwl, .frame, .const 1, .nums [(1, 255)] 1 false false⟩ : ObjRow) := by decide +kernel

set_option maxRecDepth 20000 in
/-- States and operands that meet the hypotheses of DomainTransfersRun. -/
theorem witness_DomainTransfersRun :
    (fun (s : State) => (s.w.ready .pcie = true) ∧ (s.w.d.dt.busy = false) ∧ (s.w.get Obj.dtDirection = 0)) (st wInsp) ∧
    (fun (s : State) => (s.w.ready .pcie = true) ∧ (s.w.d.dt.busy = true)) (st { wInsp with d := { wInsp.d with dt := { busy := true } } }) ∧
    (fun (s : State) => (s.w.ready .pcie = true) ∧ (s.w.d.dt.busy = true)) (st { wInsp with d := { wInsp.d with dt := { busy := true } } }) ∧
    (fun (s : State) (_data : Bytes) => (s.w.d.dt.busy = true) ∧ (s.w.d.dt.upload = true) ∧ (s.w.sys.pair.proposals = []) ∧ (Memory.wf s.w.host.hostMem = true)) (st { wInsp with host := { wInsp.host with hostMem := [(9, 3), (17, 4)] }, d := { wInsp.d with dt := { busy := true, upload := true, addr := 16, bytes := [1,2,0,3] } } }) [] ∧
    (fun (s : State) (data : Bytes) (r : ObjRow) => (s.w.ready .pcie = true) ∧ (s.w.d.dt.busy = true) ∧ (s.w.d.dt.upload = false) ∧ (data.length = s.w.getN Obj.dtLength) ∧ (plainBytes .pcie s.w.d.dt.key data r = true) ∧ (r.effect = .imm)) (st { (wInsp.set Obj.dtLength 32) with d := { (wInsp.set Obj.dtLength 32).d with dt := { busy := true, key := Obj.quoteNonce } } }) (List.replicate 32 7) (⟨0x230A, 0x1, 1, 1, 1, "QUOTE_NONCE", .domain, .rw, .imm, .const 0, .bytes 32 32 1⟩ : ObjRow) := by decide +kernel

set_option maxRecDepth 20000 in
/-- States and operands that meet the hypotheses of RunCommandsWaitForTheirFrame. -/
theorem witness_RunCommandsWaitForTheirFrame :
    (fun (s : State) (p : Path) => (s.w.ready p = true) ∧ (s.w.mode = .ready) ∧ (s.w.get Obj.alignState ≠ 1) ∧ (s.w.run.startAt = none) ∧ (s.w.get Obj.idleState = 0)) (st { wInsp with mode := .ready }) .coe ∧
    (fun (s : State) (p : Path) => (s.w.ready p = true) ∧ (s.w.mode.inspecting = true) ∧ (s.w.run.stopAt = none) ∧ (s.w.get Obj.idleState = 0)) (st { wInsp with run := { wInsp.run with spans := [(0, none)] } }) .coe ∧
    (fun (s : State) (p : Path) (n : Nat) => (s.w.ready p = true) ∧ (s.w.mode = .ready) ∧ (s.w.run.startAt = some n) ∧ (s.w.get Obj.idleState = 0)) (st { wInsp with mode := .ready, run := { wInsp.run with startAt := some 4 } }) .coe 4 ∧
    (fun (s : State) (p : Path) => (s.w.ready p = true) ∧ (s.w.mode.inspecting = true) ∧ (s.w.run.stopAt = none) ∧ (s.w.get Obj.idleState = 0)) (st wInsp) .coe ∧
    (fun (s : State) (n : Nat) => (s.w.mode = .ready) ∧ (s.w.run.startAt = some n) ∧ (n ≤ s.w.frame)) (st { wInsp with mode := .ready, axis := { wInsp.axis with hwm := some 50000 }, run := { wInsp.run with startAt := some 4 } }) 4 ∧
    (fun (s : State) (n : Nat) => (s.w.mode.inspecting = true) ∧ (s.w.run.stopAt = some n) ∧ (n ≤ s.w.frame)) (st { wInsp with axis := { wInsp.axis with hwm := some 50000 }, run := { wInsp.run with stopAt := some 4 } }) 4 ∧
    (fun (s : State) => (s.w.run.draining = true) ∧ (s.w.drained = true) ∧ (s.w.run.waiting = none)) (st { wInsp with mode := .ready, run := { wInsp.run with draining := true } }) := by decide +kernel

set_option maxRecDepth 20000 in
/-- States and operands that meet the hypotheses of CalibrationCommandsEnterTheirModes. -/
theorem witness_CalibrationCommandsEnterTheirModes :
    (fun (s : State) (p : Path) (q : Fin 32) => (s.w.ready p = true) ∧ (s.w.mode = .ready) ∧ (s.w.run.startAt = none) ∧ (s.w.run.waiting = none) ∧ (s.w.run.draining = false) ∧ (s.w.get Obj.idleState = 0) ∧ ((s.w.activePorts.filter (fun i => bitOf (s.w.getN Obj.calPortMask) i)) = [q.val]) ∧ (s.w.traverse q = none)) (st { (wInsp.set Obj.calPortMask 0xFFFFFFFF) with mode := .ready, d := { (wInsp.set Obj.calPortMask 0xFFFFFFFF).d with conf := [(Obj.portEnable 5, 1)] } }) .coe 5 ∧
    (fun (s : State) (p : Path) (q : Fin 32) => (s.w.ready p = true) ∧ (s.w.mode = .ready) ∧ (s.w.run.startAt = none) ∧ (s.w.run.waiting = none) ∧ (s.w.run.draining = false) ∧ (s.w.get Obj.idleState = 0) ∧ ((s.w.activePorts.filter (fun i => bitOf (s.w.getN Obj.calPortMask) i)) = [q.val]) ∧ (s.w.traverse q = none)) (st { (wInsp.set Obj.calPortMask 0xFFFFFFFF) with mode := .ready, d := { (wInsp.set Obj.calPortMask 0xFFFFFFFF).d with conf := [(Obj.portEnable 5, 1)] } }) .coe 5 ∧
    (fun (s : State) (p : Path) (q : Fin 32) => (s.w.ready p = true) ∧ (s.w.mode = .ready) ∧ (s.w.run.startAt = none) ∧ (s.w.run.waiting = none) ∧ (s.w.run.draining = false) ∧ (s.w.get Obj.idleState = 0) ∧ ((s.w.activePorts.filter (fun i => bitOf (s.w.getN Obj.calPortMask) i)) = [q.val]) ∧ (s.w.traverse q = none) ∧ (s.w.get Obj.calTrigSource ≠ 1)) (st { (wInsp.set Obj.calPortMask 0xFFFFFFFF) with mode := .ready, d := { (wInsp.set Obj.calPortMask 0xFFFFFFFF).d with conf := [(Obj.portEnable 5, 1)] } }) .coe 5 ∧
    (fun (s : State) (p : Path) => (s.w.ready p = true) ∧ (s.w.mode.calibrating = false) ∧ (s.w.get Obj.idleState = 0)) (st wInsp) .coe ∧
    (fun (s : State) (p : Path) => (s.w.ready p = true) ∧ (s.w.mode.calibrating = true) ∧ (s.w.get Obj.idleState = 0)) (st { wInsp with mode := .calFlat }) .coe := by decide +kernel

set_option maxRecDepth 20000 in
/-- States and operands that meet the hypotheses of CommitsAndLoadsPassOrHold. -/
theorem witness_CommitsAndLoadsPassOrHold :
    (fun (s : State) (p : Path) => (s.w.ready p = true) ∧ (s.w.mode = .ready ∨ s.w.mode = .hold) ∧ (s.w.run.startAt = none) ∧ (s.w.run.waiting = none) ∧ (s.w.run.draining = false) ∧ (s.w.get Obj.idleState = 0) ∧ ((((s.w.took p Obj.commit 1).wake).set Obj.cmdResult 1).frameLenFault = false) ∧ ((((s.w.took p Obj.commit 1).wake).set Obj.cmdResult 1).staged.commitFaults = [])) (st { wInsp with mode := .ready }) .coe ∧
    (fun (s : State) (p : Path) (f : Nat × Nat) (fs : List (Nat × Nat)) => (s.w.ready p = true) ∧ (s.w.mode = .ready ∨ s.w.mode = .hold) ∧ (s.w.run.startAt = none) ∧ (s.w.run.waiting = none) ∧ (s.w.run.draining = false) ∧ (s.w.get Obj.idleState = 0) ∧ ((((s.w.took p Obj.commit 1).wake).set Obj.cmdResult 1).frameLenFault = false) ∧ ((((s.w.took p Obj.commit 1).wake).set Obj.cmdResult 1).staged.commitFaults = f :: fs)) (st { (wInsp.set (Obj.portEnable 3) 1) with mode := .ready }) .coe (4,3) [(5,3)] ∧
    (fun (s : State) (p : Path) (slot : Fin 4) => (s.w.ready p = true) ∧ (s.w.mode = .ready ∨ s.w.mode = .hold) ∧ (s.w.run.startAt = none) ∧ (s.w.run.waiting = none) ∧ (s.w.run.draining = false) ∧ (s.w.get Obj.idleState = 0) ∧ ((profCheck s.nv slot).code ≠ 0) ∧ (s.nv.flash.op ≠ some (.profile slot))) (st { wInsp with mode := .ready }) .coe 2 := by decide +kernel

set_option maxRecDepth 20000 in
/-- States and operands that meet the hypotheses of ProfilesAreProgrammedAndErased. -/
theorem witness_ProfilesAreProgrammedAndErased :
    (fun (s : State) (p : Path) (_n : Fin 4) (b : Bytes) => (s.w.ready p = true) ∧ (s.nv.flash.op = none) ∧ (96 ≤ b.length) ∧ (b.length ≤ 33554432)) (st wInsp) .coe 2 (List.replicate 100 1) ∧
    (fun (s : State) (p : Path) (_n : Fin 4) (b : Bytes) (o : FlashOp) => (s.w.ready p = true) ∧ (s.nv.flash.op = some o) ∧ (96 ≤ b.length) ∧ (b.length ≤ 33554432)) { (st wInsp) with nv := { flash := { op := some (.firmware 0) } } } .coe 2 (List.replicate 100 1) (.firmware 0) ∧
    (fun (s : State) (n : Nat) => (s.nv.flash.op = some (.profile n))) { (st wInsp) with nv := { flash := { op := some (.profile 0) } } } 0 ∧
    (fun (s : State) (p : Path) (_n : Fin 4) => (s.w.ready p = true) ∧ (s.nv.flash.op = none)) (st wInsp) .coe 2 := by decide +kernel

set_option maxRecDepth 20000 in
/-- States and operands that meet the hypotheses of IdleReadyRetainsAndWakes. -/
theorem witness_IdleReadyRetainsAndWakes :
    (fun (s : State) => (s.w.idleReady = true) ∧ (s.w.run.draining = false) ∧ (s.w.getN Obj.idleDelay ≠ 0) ∧ (s.w.get Obj.idleState = 0) ∧ (s.w.expired .idle (s.w.getN Obj.idleDelay * 1000000) = true)) (st { (wInsp.set Obj.idleDelay 1000) with mode := .ready, timers := [(.idle, 0)] }) ∧
    (fun (s : State) => (s.w.expired .idleWake 2000 = true) ∧ (s.w.run.waiting = none)) (st { ((wInsp.set Obj.idleState 1).set (Obj.spState 4) 3) with mode := .ready, timers := [(.idleWake, 0)] }) ∧
    (fun (s : State) (n : Nat) => (s.w.mode = .degraded) ∧ (s.w.run.returnAt = some n) ∧ (n ≤ s.w.frame) ∧ (s.w.capacityLost = false) ∧ (s.w.run.stopAt = none)) (st { wInsp with mode := .degraded, axis := { wInsp.axis with hwm := some 50000 }, run := { wInsp.run with returnAt := some 3 } }) 3 := by decide +kernel

set_option maxRecDepth 20000 in
/-- States and operands that meet the hypotheses of SafeCausesEnterSafe. -/
theorem witness_SafeCausesEnterSafe :
    (fun (s : State) => (s.w.mode.dictOpen = true) ∧ (s.w.mode ≠ .safe)) (st wInsp) ∧
    (fun (s : State) => (s.w.mode.dictOpen = true) ∧ (s.w.mode ≠ .safe)) (st { wInsp with mode := .ready, run := { wInsp.run with startAt := some 5, waiting := some .commit } }) ∧
    (fun (s : State) => (s.w.mode.dictOpen = true) ∧ (s.w.mode ≠ .safe) ∧ (s.w.mode = .train) ∧ (s.w.run.dieLinks = false)) (st { wInsp with mode := .train }) ∧
    (fun (s : State) => (s.w.mode.dictOpen = true) ∧ (s.w.mode ≠ .safe)) (st wInsp) ∧
    (fun (s : State) (_n : Fin 2) => (s.w.mode.dictOpen = true) ∧ (s.w.mode ≠ .safe)) (st wInsp) 1 ∧
    (fun (s : State) => (s.w.mode.dictOpen = true) ∧ (s.w.mode ≠ .safe)) (st wInsp) := by decide +kernel

set_option maxRecDepth 20000 in
/-- States and operands that meet the hypotheses of ResetsKeepAndClear. -/
theorem witness_ResetsKeepAndClear :
    (fun (s : State) => (s.w.power.rails = true) ∧ (s.w.get Obj.pairState = 0)) (st { (wInsp.set Obj.triggerHwm 70) with power := { wInsp.power with rails := true }, axis := { wInsp.axis with hwm := some 70 }, d := { (wInsp.set Obj.triggerHwm 70).d with conf := [(5,6)] } }) ∧
    (fun (s : State) => (s.w.power.rails = true) ∧ (s.w.get Obj.pairState = 0)) (st { (wInsp.set Obj.triggerHwm 70) with power := { wInsp.power with rails := true }, axis := { wInsp.axis with hwm := some 70 }, d := { (wInsp.set Obj.triggerHwm 70).d with conf := [(5,6)] } }) ∧
    (fun (s : State) (p : Path) => (s.w.ready p = true) ∧ (s.w.run.latch = false) ∧ (s.w.get Obj.pairState = 0)) (st wInsp) .coe ∧
    (fun (s : State) (p : Path) => (s.w.ready p = true) ∧ (s.w.run.latch = true)) (st { wInsp with run := { wInsp.run with latch := true } }) .coe := by decide +kernel

set_option maxRecDepth 20000 in
/-- States and operands that meet the hypotheses of StartUpReachesTrain. -/
theorem witness_StartUpReachesTrain :
    (fun (s : State) (_sel : Fin 4) => (s.w.mode = .reset) ∧ (s.w.power.released = false) ∧ (s.w.power.rails = true) ∧ (s.w.power.vioReady = true) ∧ (s.w.running .resetRelease = false) ∧ (s.w.power.pll = true) ∧ (s.w.run.latch = false)) (st { ({} : Work) with power := { rails := true, vioReady := true, vioLevel := 18, pll := true } }) 2 ∧
    (fun (s : State) => (s.w.mode = .reset) ∧ (s.w.power.released = true) ∧ (s.w.run.latch = false)) (st { ({} : Work) with power := { rails := true, vioReady := true, released := true } }) ∧
    (fun (s : State) => (s.w.run.latch = true) ∧ (s.w.power.tj < s.w.get Obj.tjResume)) (st { ({} : Work) with run := { latch := true }, power := { rails := true, released := true, pll := true } }) ∧
    (fun (s : State) => (s.w.mode = .boot) ∧ (s.w.run.bootFailed = false) ∧ (s.w.sec.running = none)) (st { ({} : Work) with mode := .boot }) ∧
    (fun (s : State) => (s.w.mode = .boot) ∧ (s.w.run.bootFailed = false) ∧ (s.w.expired .train 200000000 = true)) (st { ({} : Work) with mode := .boot, clk := { ctl := 400000000 }, timers := [(.train, 0)] }) ∧
    (fun (s : State) => (s.w.mode = .train) ∧ (s.w.hbm.trained = false)) (st { wInsp with mode := .train }) ∧
    (fun (s : State) => (s.w.mode = .train) ∧ (s.w.run.dieLinks = false)) (st { wInsp with mode := .train }) ∧
    (fun (s : State) => (s.w.mode = .train) ∧ (s.w.run.profileOk = true) ∧ (s.w.expired .camWait (s.w.run.camWait * 1000000) = true)) (st { wInsp with mode := .train, timers := [(.camWait, 0)], run := { profileOk := true, camWait := 5 } }) ∧
    (fun (s : State) => (s.w.mode = .train) ∧ (s.w.hbm.trained = true) ∧ (s.w.run.dieLinks = true) ∧ (s.w.run.profileOk = false) ∧ ((profCheck s.nv (s.w.getN Obj.profSelPins)).code ≠ 0)) (st { wInsp with mode := .train, hbm := { wInsp.hbm with trained := true }, run := { dieLinks := true } }) := by decide +kernel

set_option maxRecDepth 20000 in
/-- States and operands that meet the hypotheses of PositionInputsCount. -/
theorem witness_PositionInputsCount :
    (fun (s : State) (i : Fin 16) (v : BitVec 3) (_ph : Phase) (d : Int) => (s.w.mode.dictOpen = true) ∧ (s.w.conf (Obj.piMode i) = 1) ∧ (s.w.conf (Obj.edgeFilter i) = 0) ∧ (cycleStep 4 (quadPlace ((s.w.pin i).levels.toNat % 4)) (quadPlace (v.toNat % 4)) = some d) ∧ (d ≠ 0) ∧ (s.w.get (Obj.limitMin i) ≤ s.w.get (Obj.count i) + (if s.w.conf (Obj.direction i) = 0 then d else -d)) ∧ (s.w.get (Obj.count i) + (if s.w.conf (Obj.direction i) = 0 then d else -d) ≤ s.w.get (Obj.limitMax i))) (st { wInsp with posIn := upd wInsp.posIn 2 (fun p => { p with levels := 0b001 }), d := { wInsp.d with conf := [(Obj.piMode 2, 1), (Obj.indexPeriod 2, 4000)] } }) 2 0b011 1 1 ∧
    (fun (s : State) (i : Fin 16) (v : BitVec 3) (_ph : Phase) => (s.w.mode.dictOpen = true) ∧ (s.w.conf (Obj.piMode i) = 1) ∧ (s.w.conf (Obj.edgeFilter i) = 0) ∧ (cycleStep 4 (quadPlace ((s.w.pin i).levels.toNat % 4)) (quadPlace (v.toNat % 4)) = none)) (st { wInsp with posIn := upd wInsp.posIn 2 (fun p => { p with levels := 0b001 }), d := { wInsp.d with conf := [(Obj.piMode 2, 1), (Obj.indexPeriod 2, 4000)] } }) 2 0b010 1 ∧
    (fun (s : State) (i : Fin 16) (_v : BitVec 48) (_ph : Phase) => (s.w.mode.dictOpen = true) ∧ (s.w.conf (Obj.piMode i) = 3)) (st { wInsp with posIn := upd wInsp.posIn 2 (fun p => { p with levels := 0b001 }), d := { wInsp.d with conf := [(Obj.piMode 2, 3), (Obj.indexPeriod 2, 4000)] } }) 2 77 1 ∧
    (fun (s : State) (i : Fin 16) (v : BitVec 48) (_ph : Phase) (o : Nat) (d : Int) => (s.w.mode.dictOpen = true) ∧ (s.w.conf (Obj.piMode i) = 3) ∧ (s.w.conf (Obj.ssiCode i) = 0) ∧ ((s.w.pin i).ssiLast = some o) ∧ (ssiStep (s.w.confN (Obj.ssiBits i)) o (v.toNat % 2 ^ s.w.confN (Obj.ssiBits i)) = d) ∧ (s.w.get (Obj.limitMin i) ≤ s.w.get (Obj.count i) + d) ∧ (s.w.get (Obj.count i) + d ≤ s.w.get (Obj.limitMax i))) (st { wInsp with posIn := upd wInsp.posIn 2 (fun p => { p with ssiLast := some 5 }), d := { wInsp.d with conf := [(Obj.piMode 2, 3), (Obj.indexPeriod 2, 4000)] } }) 2 3 1 5 (-2) ∧
    (fun (s : State) (i : Fin 16) => (s.w.conf (Obj.piMode i) ≠ 3) ∧ (∀ t0 ∈ (s.w.pin i).stamps.head?, t0 + nsClocks (s.w.getN (Obj.speedTimeout i) * 1000) ≤ s.w.clk.ctl)) (st { wInsp with posIn := upd wInsp.posIn 2 (fun p => { p with stamps := [7, 5] }), d := { wInsp.d with conf := [(Obj.piMode 2, 1), (Obj.indexPeriod 2, 4000)] } }) 2 ∧
    (fun (s : State) (p : Path) (i : Fin 16) (v : Int) => (s.w.ready p = true) ∧ (s.w.confN Obj.webSource ≠ i) ∧ (s.w.get (Obj.limitMin i) ≤ v) ∧ (v ≤ s.w.get (Obj.limitMax i)) ∧ (-0x8000000000000000 ≤ v ∧ v ≤ 0x7FFFFFFFFFFFFFFF)) (st { wInsp with posIn := upd wInsp.posIn 2 (fun p => { p with stamps := [7, 5] }), d := { wInsp.d with conf := [(Obj.piMode 2, 1), (Obj.indexPeriod 2, 4000)] } }) .coe 2 (-77) ∧
    (fun (s : State) (p : Path) (i : Fin 16) (v : Int) => (s.w.ready p = true) ∧ (s.w.confN Obj.webSource = i) ∧ (-0x8000000000000000 ≤ v ∧ v ≤ 0x7FFFFFFFFFFFFFFF)) (st { wInsp with d := { wInsp.d with conf := [(Obj.webSource, 3)] } }) .coe 3 (-77) := by decide +kernel

set_option maxRecDepth 20000 in
/-- States and operands that meet the hypotheses of IndexChecksAndTriggers. -/
theorem witness_IndexChecksAndTriggers :
    (fun (s : State) (i : Fin 16) (v : BitVec 3) (_ph : Phase) => (s.w.mode.dictOpen = true) ∧ (s.w.conf (Obj.piMode i) = 1) ∧ (s.w.conf (Obj.edgeFilter i) = 0) ∧ (v.toNat % 4 = (s.w.pin i).levels.toNat % 4) ∧ (zGateState (s.w.confN (Obj.zGate i)) = none ∨ zGateState (s.w.confN (Obj.zGate i)) = some (v.toNat % 4)) ∧ (s.w.confN (Obj.indexPeriod i) ≠ 0) ∧ (s.w.get (Obj.indexRefValid i) = 0)) (st { wInsp with posIn := upd wInsp.posIn 2 (fun p => { p with levels := 0b001 }), d := { wInsp.d with conf := [(Obj.piMode 2, 1), (Obj.indexPeriod 2, 4000)] } }) 2 0b001 1 ∧
    (fun (s : State) (i : Fin 16) (v : BitVec 3) (_ph : Phase) => (s.w.mode.dictOpen = true) ∧ (s.w.conf (Obj.piMode i) = 1) ∧ (s.w.conf (Obj.edgeFilter i) = 0) ∧ (v.toNat % 4 = (s.w.pin i).levels.toNat % 4) ∧ (zGateState (s.w.confN (Obj.zGate i)) = none ∨ zGateState (s.w.confN (Obj.zGate i)) = some (v.toNat % 4)) ∧ (s.w.confN (Obj.indexPeriod i) ≠ 0) ∧ (s.w.get (Obj.indexRefValid i) ≠ 0) ∧ (s.w.getN (Obj.indexTol i) < (indexError (s.w.get (Obj.count i)) (s.w.get (Obj.indexRef i)) (s.w.confN (Obj.indexPeriod i))).natAbs)) (st { wInsp with posIn := upd wInsp.posIn 2 (fun p => { p with levels := 0b001 }), d := { ((wInsp.set (Obj.indexRefValid 2) 1).set (Obj.count 2) 700).d with conf := [(Obj.piMode 2, 1), (Obj.indexPeriod 2, 4000)] } }) 2 0b001 1 ∧
    (fun (s : State) (i : Fin 16) (e : Int) => ((s.w.pin i).corr = some e) ∧ (s.w.get (Obj.indexMode i) = 2)) (st { wInsp with posIn := upd wInsp.posIn 2 (fun p => { p with corr := some 33 }), d := { (wInsp.set (Obj.indexMode 2) 2).d with conf := [(Obj.piMode 2, 1), (Obj.indexPeriod 2, 4000)] } }) 2 33 ∧
    (fun (s : State) (ph : Phase) => (s.w.run.startAt = none) ∧ (s.w.run.stopAt = none) ∧ (s.w.mayTrigger s.w.nextTrigger (s.w.now ph) = true) ∧ (s.w.nextTrigger % s.w.frameLen ≠ 0)) (st { (wInsp.set Obj.freeSpeed 1000) with axis := { started := true, hwm := some 40, due := some 5 }, d := { (wInsp.set Obj.freeSpeed 1000).d with conf := [(Obj.webSource, 16), (Obj.portEnable 3, 1)] } }) 1 := by decide +kernel

set_option maxRecDepth 20000 in
/-- States and operands that meet the hypotheses of LanesLockAndLoseLock. -/
theorem witness_LanesLockAndLoseLock :
    (fun (s : State) (l : Fin 128) (ppm : Int) => (s.w.lanePowered l = true) ∧ (s.w.laneState l = lsOff ∨ s.w.laneState l = lsNoSignal ∨ s.w.laneState l = lsRetrain) ∧ (ppm.natAbs ≤ 200)) (st { ((wInsp).set (Obj.state 5) 1) with lanes := upd wInsp.lanes 5 (fun n => { n with good := 7 }), d := { ((wInsp).set (Obj.state 5) 1).d with conf := [(Obj.portEnable 1, 1), (Obj.lanes 1, 1), (Obj.rateObj 5, 3), (Obj.rateObj 4, 3)] } }) 5 (-200) ∧
    (fun (s : State) (l : Fin 128) => (lsCdr ≤ s.w.laneState l)) (st { ((wInsp).set (Obj.state 5) 4) with lanes := upd wInsp.lanes 5 (fun n => { n with good := 7 }), d := { ((wInsp).set (Obj.state 5) 4).d with conf := [(Obj.portEnable 1, 1), (Obj.lanes 1, 1), (Obj.rateObj 5, 3), (Obj.rateObj 4, 3)] } }) 5 ∧
    (fun (s : State) (l : Fin 128) (ppm : Int) => (s.w.lanePowered l = true) ∧ (200 < ppm.natAbs) ∧ (lsCdr ≤ s.w.laneState l) ∧ (s.w.laneState l ≤ lsUp)) (st { ((wInsp).set (Obj.state 5) 4) with lanes := upd wInsp.lanes 5 (fun n => { n with good := 7 }), d := { ((wInsp).set (Obj.state 5) 4).d with conf := [(Obj.portEnable 1, 1), (Obj.lanes 1, 1), (Obj.rateObj 5, 3), (Obj.rateObj 4, 3)] } }) 5 201 ∧
    (fun (s : State) (l : Fin 128) (headers : List (BitVec 2)) => (s.w.laneState l = lsCdr) ∧ (isRslRate (s.w.confN (Obj.rateObj l)) = true) ∧ (headers.all validHeader = true) ∧ (64 ≤ (s.w.lane l).good + headers.length)) (st { ((wInsp).set (Obj.state 5) 2) with lanes := upd wInsp.lanes 5 (fun n => { n with good := 62 }), d := { ((wInsp).set (Obj.state 5) 2).d with conf := [(Obj.portEnable 1, 1), (Obj.lanes 1, 1), (Obj.rateObj 5, 3), (Obj.rateObj 4, 3)] } }) 5 [0b01#2, 0b10#2] ∧
    (fun (s : State) (l : Fin 128) (h : BitVec 2) => (s.w.laneState l = lsLock ∨ s.w.laneState l = lsUp) ∧ (isRslRate (s.w.confN (Obj.rateObj l)) = true) ∧ (validHeader h = false) ∧ (((l : Nat) < s.w.lanes.length)) ∧ (15 ≤ (((s.w.lane l).window.take 63).filter (fun b => !b)).length)) (st { ((wInsp).set (Obj.state 5) 4) with lanes := upd wInsp.lanes 5 (fun n => { n with window := List.replicate 15 false }), d := { ((wInsp).set (Obj.state 5) 4).d with conf := [(Obj.portEnable 1, 1), (Obj.lanes 1, 1), (Obj.rateObj 5, 3), (Obj.rateObj 4, 3)] } }) 5 0b11#2 ∧
    (fun (s : State) (l : Fin 128) (chars : List Bool) => (s.w.laneState l = lsCdr) ∧ (isCxpRate (s.w.confN (Obj.rateObj l)) = true) ∧ (chars.all id = true)) (st { ((wInsp).set (Obj.state 5) 2) with lanes := upd wInsp.lanes 5 (fun n => { n with good := 62 }), d := { ((wInsp).set (Obj.state 5) 2).d with conf := [(Obj.rateObj 5, 20)] } }) 5 [true, true] ∧
    (fun (s : State) (l : Fin 128) => (isCxpRate (s.w.confN (Obj.rateObj l)) = true) ∧ (s.w.laneState l = lsLock) ∧ ((s.w.lane l).chars.all id = true)) (st { ((wInsp).set (Obj.state 5) 3) with lanes := upd wInsp.lanes 5 (fun n => { n with chars := [true] }), d := { ((wInsp).set (Obj.state 5) 3).d with conf := [(Obj.rateObj 5, 20)] } }) 5 ∧
    (fun (s : State) (l : Fin 128) (_b : Fin 66) => (s.w.laneState l = lsCdr) ∧ (s.w.get (Obj.alignMode l) = 0) ∧ (isRslRate (s.w.confN (Obj.rateObj l)) = true)) (st { ((wInsp).set (Obj.state 5) 2) with lanes := upd wInsp.lanes 5 (fun n => { n with good := 62 }), d := { ((wInsp).set (Obj.state 5) 2).d with conf := [(Obj.portEnable 1, 1), (Obj.lanes 1, 1), (Obj.rateObj 5, 3), (Obj.rateObj 4, 3)] } }) 5 41 := by decide +kernel

set_option maxRecDepth 20000 in
/-- States and operands that meet the hypotheses of LaneCommandsAct. -/
theorem witness_LaneCommandsAct :
    (fun (s : State) (p : Path) (l : Fin 128) => (s.w.ready p = true) ∧ (s.w.get (Obj.alignMode l) ≠ 0) ∧ (isCxpRate (s.w.confN (Obj.rateObj l)) = false)) (st { ((wInsp.set (Obj.alignMode 5) 1).set (Obj.state 5) 4) with lanes := upd wInsp.lanes 5 (fun n => { n with good := 62 }), d := { ((wInsp.set (Obj.alignMode 5) 1).set (Obj.state 5) 4).d with conf := [(Obj.portEnable 1, 1), (Obj.lanes 1, 1), (Obj.rateObj 5, 3), (Obj.rateObj 4, 3)] } }) .coe 5 ∧
    (fun (s : State) (p : Path) (l : Fin 128) => (s.w.ready p = true) ∧ (s.w.laneState l ≠ lsRetrain) ∧ (s.w.lanePowered l = true) ∧ ((∀ x : Fin 128, (s.w.lane x).hostRetrain = false))) (st { ((wInsp).set (Obj.state 5) 4) with lanes := upd wInsp.lanes 5 (fun n => { n with good := 62 }), d := { ((wInsp).set (Obj.state 5) 4).d with conf := [(Obj.portEnable 1, 1), (Obj.lanes 1, 1), (Obj.rateObj 5, 3), (Obj.rateObj 4, 3)] } }) .coe 5 ∧
    (fun (s : State) (p : Path) (l : Fin 128) => (s.w.ready p = true) ∧ (s.w.patternAllowed l = true)) (st { ((wInsp).set (Obj.state 5) 1) with lanes := upd wInsp.lanes 5 (fun n => { n with good := 62 }), d := { ((wInsp).set (Obj.state 5) 1).d with conf := [(Obj.lanes 1, 1), (Obj.rateObj 5, 3), (Obj.rateObj 4, 3)] } }) .coe 5 ∧
    (fun (s : State) (p : Path) (l : Fin 128) => (s.w.ready p = true) ∧ (s.w.patternAllowed l = true)) (st { ((wInsp).set (Obj.state 5) 5) with lanes := upd wInsp.lanes 5 (fun n => { n with good := 62 }), d := { ((wInsp).set (Obj.state 5) 5).d with conf := [(Obj.lanes 1, 1), (Obj.rateObj 5, 3), (Obj.rateObj 4, 3)] } }) .coe 5 ∧
    (fun (s : State) (p : Path) (_l : Fin 128) => (s.w.ready p = true)) (st { ((wInsp).set (Obj.state 5) 4) with lanes := upd wInsp.lanes 5 (fun n => { n with good := 62 }), d := { ((wInsp).set (Obj.state 5) 4).d with conf := [(Obj.portEnable 1, 1), (Obj.lanes 1, 1), (Obj.rateObj 5, 3), (Obj.rateObj 4, 3)] } }) .coe 5 ∧
    (fun (s : State) (p : Path) (_l : Fin 128) => (s.w.ready p = true)) (st { ((wInsp).set (Obj.state 5) 4) with lanes := upd wInsp.lanes 5 (fun n => { n with good := 62 }), d := { ((wInsp).set (Obj.state 5) 4).d with conf := [(Obj.portEnable 1, 1), (Obj.lanes 1, 1), (Obj.rateObj 5, 3), (Obj.rateObj 4, 3)] } }) .coe 5 ∧
    (fun (s : State) (p : Path) (l : Fin 128) => (s.w.ready p = true) ∧ (s.w.get (Obj.eyeStatus l) = 1)) (st { (((wInsp).set (Obj.state 5) 4).set (Obj.eyeStatus 5) 1) with lanes := upd wInsp.lanes 5 (fun n => { n with good := 62 }), d := { (((wInsp).set (Obj.state 5) 4).set (Obj.eyeStatus 5) 1).d with conf := [(Obj.portEnable 1, 1), (Obj.lanes 1, 1), (Obj.rateObj 5, 3), (Obj.rateObj 4, 3)] } }) .coe 5 ∧
    (fun (s : State) (l : Fin 128) (m : BitVec 64) (_parity : BitVec 8) (_block : Nat) => (isRslRate (s.w.confN (Obj.rateObj l)) = true) ∧ (s.w.laneState l = lsLock ∨ s.w.laneState l = lsUp) ∧ (m.toNat % 256 = 0xD2) ∧ ((l : Nat) < s.w.lanes.length) ∧ (0 < (s.w.lane l).markers) ∧ (s.w.linkLanes (s.w.portOfLane l) = [(l : Nat)]) ∧ ((markerFields m).2.2.1 = s.w.confN (Obj.lanes (s.w.portOfLane l)))) (st { ((wInsp).set (Obj.state 4) 3) with lanes := upd wInsp.lanes 4 (fun n => { n with markers := 1 }), d := { ((wInsp).set (Obj.state 4) 3).d with conf := [(Obj.portEnable 1, 1), (Obj.lanes 1, 1), (Obj.rateObj 5, 3), (Obj.rateObj 4, 3)] } }) 4 0x00005500070100D2 0x54 77 ∧
    (fun (s : State) (l : Fin 128) (lead : Nat) => (s.w.laneState l = lsRetrain) ∧ (lead ≤ 31)) (st { ((wInsp).set (Obj.state 5) 6) with lanes := upd wInsp.lanes 5 (fun n => { n with hostRetrain := true }), d := { ((wInsp).set (Obj.state 5) 6).d with conf := [(Obj.portEnable 1, 1), (Obj.lanes 1, 1), (Obj.rateObj 5, 3), (Obj.rateObj 4, 3)] } }) 5 31 ∧
    (fun (s : State) (l : Fin 128) => (s.w.laneState l = lsPrbs) ∧ (s.w.get (Obj.prbsLock l) ≠ 1) ∧ (63 ≤ (s.w.lane l).prbsGood)) (st { ((wInsp).set (Obj.state 5) 5) with lanes := upd wInsp.lanes 5 (fun n => { n with prbsGood := 63 }), d := { ((wInsp).set (Obj.state 5) 5).d with conf := [(Obj.portEnable 1, 1), (Obj.lanes 1, 1), (Obj.rateObj 5, 3), (Obj.rateObj 4, 3)] } }) 5 ∧
    (fun (s : State) (l : Fin 128) (_b : Bool) => (s.w.laneState l = lsPrbs) ∧ (s.w.get (Obj.prbsLock l) = 1)) (st { (((wInsp).set (Obj.state 5) 5).set (Obj.prbsLock 5) 1) with lanes := upd wInsp.lanes 5 (fun n => { n with prbsGood := 64 }), d := { (((wInsp).set (Obj.state 5) 5).set (Obj.prbsLock 5) 1).d with conf := [(Obj.portEnable 1, 1), (Obj.lanes 1, 1), (Obj.rateObj 5, 3), (Obj.rateObj 4, 3)] } }) 5 false ∧
    (fun (s : State) (l : Fin 128) (_counts : List Nat) => (s.w.get (Obj.eyeStatus l) = 1) ∧ ((s.w.lane l).eye.kind = 1)) (st { (((wInsp).set (Obj.state 5) 4).set (Obj.eyeStatus 5) 1) with lanes := upd wInsp.lanes 5 (fun n => { n with eye := ⟨1, 0, 0, 12, 3, false, []⟩ }), d := { (((wInsp).set (Obj.state 5) 4).set (Obj.eyeStatus 5) 1).d with conf := [(Obj.portEnable 1, 1), (Obj.lanes 1, 1), (Obj.rateObj 5, 3), (Obj.rateObj 4, 3)] } }) 5 [19] ∧
    (fun (s : State) (l : Fin 128) (_counts : List Nat) => (s.w.get (Obj.eyeStatus l) = 1) ∧ ((s.w.lane l).eye.kind = 2)) (st { (((wInsp).set (Obj.state 5) 4).set (Obj.eyeStatus 5) 1) with lanes := upd wInsp.lanes 5 (fun n => { n with eye := ⟨2, 0, 0, 12, 3, false, []⟩ }), d := { (((wInsp).set (Obj.state 5) 4).set (Obj.eyeStatus 5) 1).d with conf := [(Obj.portEnable 1, 1), (Obj.lanes 1, 1), (Obj.rateObj 5, 3), (Obj.rateObj 4, 3)] } }) 5 [19, 0] := by decide +kernel

set_option maxRecDepth 20000 in
/-- States and operands that meet the hypotheses of LinesMeetTheirTriggers. -/
theorem witness_LinesMeetTheirTriggers :
    (fun (s : State) (p : Fin 32) (start stop : BitVec 64) (data : List (BitVec 64)) (g : Trig) (rest : List Trig) => (s.w.portLive p false = true) ∧ (bitsOf start.toNat 8 3 < s.w.confN (Obj.tagCount p)) ∧ (s.w.outstanding p (bitsOf start.toNat 8 3) = g :: rest) ∧ (g.seq = bitsOf start.toNat 32 16) ∧ (bitsOf stop.toNat 16 16 = data.length % 65536) ∧ (bitsOf stop.toNat 32 32 = crc32 (blocksBytes data)) ∧ (bitsOf start.toNat 48 16 = s.w.tagPx p (bitsOf start.toNat 8 3)) ∧ (s.w.tagPx p (bitsOf start.toNat 8 3) ≤ 32768) ∧ ((unpackPixels (s.w.confN (Obj.portDepth p)) (s.w.tagPx p (bitsOf start.toNat 8 3)) data).length = s.w.tagPx p (bitsOf start.toNat 8 3)) ∧ (s.w.fifoFill p + data.length * 8 + 16 ≤ fifoBytes) ∧ ((s.w.port p).poison = none)) (st { (wInsp) with ports := upd wInsp.ports 2 (fun n => { n with waiting := [[⟨5, 700, some 690, 0, 1, 100⟩]] }), d := { (wInsp).d with conf := [(Obj.portEnable 2, 1), (Obj.lanes 2, 1), (Obj.rateObj 8, 3), (Obj.tagCount 2, 1), (Obj.portDepth 2, 8), (Obj.tagPixels 2 0, 8)] } }) 2 (BitVec.ofNat 64 (8 * 2 ^ 48 + 5 * 2 ^ 32 + 2 ^ 24)) (BitVec.ofNat 64 (65536 + 2 ^ 32 * (crc32 (blocksBytes [0x0807060504030201])).toNat)) [0x0807060504030201] ⟨5, 700, some 690, 0, 1, 100⟩ [] ∧
    (fun (s : State) (p : Fin 32) (t8 : Fin 8) (px : List Nat) (g : Trig) (rest : List Trig) => (s.w.portLive p true = true) ∧ ((t8 : Nat) < s.w.confN (Obj.tagCount p)) ∧ (s.w.outstanding p t8 = g :: rest) ∧ (px.length = s.w.tagPx p t8) ∧ (0 < px.length) ∧ (s.w.fifoFill p + (ceilDiv (px.length * s.w.confN (Obj.portDepth p)) 64 * 8 + 16) ≤ fifoBytes) ∧ ((s.w.port p).poison = none)) (st { (wInsp) with ports := upd wInsp.ports 2 (fun n => { n with waiting := [[⟨5, 700, some 690, 0, 1, 100⟩]] }), d := { (wInsp).d with conf := [(Obj.portEnable 2, 1), (Obj.lanes 2, 1), (Obj.rateObj 8, 3), (Obj.tagCount 2, 1), (Obj.portDepth 2, 8), (Obj.tagPixels 2 0, 8), (Obj.protocol 2, 1)] } }) 2 0 [1, 2, 3, 4, 5, 6, 7, 300] ⟨5, 700, some 690, 0, 1, 100⟩ [] ∧
    (fun (s : State) (p : Fin 32) (t8 : Fin 8) (_ok : Bool) (_n : Nat) (_px : List Nat) => (s.w.portLive p true = true) ∧ (s.w.outstanding p t8 = [])) (st { (wInsp) with ports := upd wInsp.ports 2 (fun n => { n with txn := none }), d := { (wInsp).d with conf := [(Obj.portEnable 2, 1), (Obj.lanes 2, 1), (Obj.rateObj 8, 3), (Obj.tagCount 2, 1), (Obj.portDepth 2, 8), (Obj.tagPixels 2 0, 8), (Obj.protocol 2, 1)] } }) 2 0 true 1 [1] ∧
    (fun (s : State) (p : Fin 32) (t8 : Fin 8) (g : Trig) (rest : List Trig) => (s.w.outstanding p t8 = g :: rest) ∧ (g.sentAt + nsClocks (s.w.getN (Obj.lineTimeout p)) ≤ s.w.clk.ctl)) (st { (wInsp) with ports := upd wInsp.ports 2 (fun n => { n with waiting := [[⟨5, 700, some 690, 0, 1, 100⟩]] }), d := { (wInsp).d with conf := [(Obj.portEnable 2, 1), (Obj.lanes 2, 1), (Obj.rateObj 8, 3), (Obj.tagCount 2, 1), (Obj.portDepth 2, 8), (Obj.tagPixels 2 0, 8)] } }) 2 0 ⟨5, 700, some 690, 0, 1, 100⟩ [] ∧
    (fun (s : State) (p : Fin 32) (start : BitVec 64) (blocks : Nat) (g : Trig) (rest : List Trig) => (s.w.portLive p false = true) ∧ (fifoBytes < s.w.fifoFill p + blocks * 8 + 8) ∧ (bitsOf start.toNat 8 3 < s.w.confN (Obj.tagCount p)) ∧ (s.w.outstanding p (bitsOf start.toNat 8 3) = g :: rest) ∧ (g.seq = bitsOf start.toNat 32 16)) (st { (wInsp) with ports := upd wInsp.ports 2 (fun n => { n with waiting := [[⟨5, 700, some 690, 0, 1, 100⟩]] }), d := { (wInsp).d with conf := [(Obj.portEnable 2, 1), (Obj.lanes 2, 1), (Obj.rateObj 8, 3), (Obj.tagCount 2, 1), (Obj.portDepth 2, 8), (Obj.tagPixels 2 0, 8)] } }) 2 (BitVec.ofNat 64 (8 * 2 ^ 48 + 5 * 2 ^ 32 + 2 ^ 24)) 40000 ⟨5, 700, some 690, 0, 1, 100⟩ [] ∧
    (fun (s : State) (p : Fin 32) => (s.w.portLive p true = true)) (st { (wInsp) with ports := upd wInsp.ports 2 (fun n => { n with txn := none }), d := { (wInsp).d with conf := [(Obj.portEnable 2, 1), (Obj.lanes 2, 1), (Obj.rateObj 8, 3), (Obj.tagCount 2, 1), (Obj.portDepth 2, 8), (Obj.tagPixels 2 0, 8), (Obj.protocol 2, 1)] } }) 2 := by decide +kernel

set_option maxRecDepth 20000 in
/-- States and operands that meet the hypotheses of CamerasAreDiscoveredAndRead. -/
theorem witness_CamerasAreDiscoveredAndRead :
    (fun (s : State) (p : Fin 32) => (s.w.portActive p = true) ∧ (s.w.mode.lanesPowered = true) ∧ (s.w.getN (Obj.portState p) ≤ 1) ∧ (s.w.linkUp p = true) ∧ ((s.w.port p).txn = none) ∧ (s.w.portCxp p = false)) (st { (wInsp.set (Obj.state 8) 4) with ports := upd wInsp.ports 2 (fun n => { n with txn := none }), d := { (wInsp.set (Obj.state 8) 4).d with conf := [(Obj.portEnable 2, 1), (Obj.lanes 2, 1), (Obj.rateObj 8, 3), (Obj.tagCount 2, 1), (Obj.portDepth 2, 8), (Obj.tagPixels 2 0, 8)] } }) 2 ∧
    (fun (s : State) (p : Fin 32) (b : BitVec 64) (_data : List (BitVec 64)) (x : Txn) => (s.w.portLive p false = true) ∧ ((s.w.port p).txn = some x) ∧ (x.use = .configure) ∧ (bitsOf b.toNat 24 8 = x.tag) ∧ (bitsOf b.toNat 8 8 = 3) ∧ (s.w.confN (Obj.expAddr p) = 0) ∧ ((s.w.port p).resuming = false) ∧ ((s.w.port p).suspended = false) ∧ ((s.w.port p).expWait = false) ∧ ((s.w.port p).passWait = none)) (st { (wInsp.set (Obj.portState 2) 3) with ports := upd wInsp.ports 2 (fun n => { n with txn := some ⟨.configure, 7, true, 0x2000, 1⟩ }), d := { (wInsp.set (Obj.portState 2) 3).d with conf := [(Obj.portEnable 2, 1), (Obj.lanes 2, 1), (Obj.rateObj 8, 3), (Obj.tagCount 2, 1), (Obj.portDepth 2, 8), (Obj.tagPixels 2 0, 8)] } }) 2 (BitVec.ofNat 64 (7 * 2 ^ 24 + 3 * 256)) [] ⟨.configure, 7, true, 0x2000, 1⟩ ∧
    (fun (s : State) (p : Fin 32) => (s.w.expired (.discovery p) 200000000 = true)) (st { (wInsp) with ports := upd wInsp.ports 2 (fun n => { n with txn := some ⟨.identify, 7, false, 0x2000, 1⟩ }), d := { (wInsp).d with conf := [(Obj.portEnable 2, 1), (Obj.lanes 2, 1), (Obj.rateObj 8, 3), (Obj.tagCount 2, 1), (Obj.portDepth 2, 8), (Obj.tagPixels 2 0, 8)] }, timers := [(.discovery 2, 0)] }) 2 ∧
    (fun (s : State) (path : Path) (p : Fin 32) => (s.w.ready path = true) ∧ (s.w.get (Obj.regStatus p) ≠ 1) ∧ (s.w.portActive p = true) ∧ (4 ≤ s.w.getN (Obj.portState p)) ∧ ((s.w.port p).txn = none) ∧ ((s.w.port p).expWait = false) ∧ (s.w.portCxp p = false) ∧ ((p : Nat) < s.w.ports.length)) (st { (wInsp.set (Obj.portState 2) 4) with ports := upd wInsp.ports 2 (fun n => { n with txn := none }), d := { (wInsp.set (Obj.portState 2) 4).d with conf := [(Obj.portEnable 2, 1), (Obj.lanes 2, 1), (Obj.rateObj 8, 3), (Obj.tagCount 2, 1), (Obj.portDepth 2, 8), (Obj.tagPixels 2 0, 8)] } }) .coe 2 ∧
    (fun (s : State) (path : Path) (p : Fin 32) => (s.w.ready path = true) ∧ (s.w.get (Obj.regStatus p) ≠ 1) ∧ (s.w.portActive p = true) ∧ (0x1000 ≤ s.w.getN (Obj.regAddr p)) ∧ (4 ≤ s.w.getN (Obj.portState p)) ∧ ((s.w.port p).txn = none) ∧ ((s.w.port p).expWait = false) ∧ (s.w.portCxp p = false) ∧ ((p : Nat) < s.w.ports.length)) (st { ((wInsp.set (Obj.portState 2) 4).set (Obj.regAddr 2) 0x2000) with ports := upd wInsp.ports 2 (fun n => { n with txn := none }), d := { ((wInsp.set (Obj.portState 2) 4).set (Obj.regAddr 2) 0x2000).d with conf := [(Obj.portEnable 2, 1), (Obj.lanes 2, 1), (Obj.rateObj 8, 3), (Obj.tagCount 2, 1), (Obj.portDepth 2, 8), (Obj.tagPixels 2 0, 8)] } }) .coe 2 ∧
    (fun (s : State) (p : Fin 32) (b : BitVec 64) (_data : List (BitVec 64)) (x : Txn) => (s.w.portLive p false = true) ∧ ((s.w.port p).txn = some x) ∧ (x.use = .passRead) ∧ (bitsOf b.toNat 24 8 = x.tag) ∧ (bitsOf b.toNat 8 8 = 3) ∧ ((s.w.port p).expWait = false) ∧ ((s.w.port p).passWait = none)) (st { ((wInsp.set (Obj.portState 2) 4).set (Obj.regStatus 2) 1) with ports := upd wInsp.ports 2 (fun n => { n with txn := some ⟨.passRead, 7, false, 0x2000, 1⟩ }), d := { ((wInsp.set (Obj.portState 2) 4).set (Obj.regStatus 2) 1).d with conf := [(Obj.portEnable 2, 1), (Obj.lanes 2, 1), (Obj.rateObj 8, 3), (Obj.tagCount 2, 1), (Obj.portDepth 2, 8), (Obj.tagPixels 2 0, 8)] } }) 2 (BitVec.ofNat 64 (7 * 2 ^ 24 + 3 * 256)) [0x1122334455667788] ⟨.passRead, 7, false, 0x2000, 1⟩ ∧
    (fun (s : State) (p : Fin 32) (_code _tags _pixels _depths _lanes : Nat) (_ws : List Nat) (_model _serial : Bytes) (x : Txn) => (s.w.portLive p true = true) ∧ ((s.w.port p).txn = some x) ∧ (x.use = .passWrite) ∧ ((s.w.port p).expWait = false) ∧ ((s.w.port p).passWait = none)) (st { ((wInsp.set (Obj.portState 2) 4).set (Obj.regStatus 2) 1) with ports := upd wInsp.ports 2 (fun n => { n with txn := some ⟨.passWrite, 7, true, 0x2000, 1⟩ }), d := { ((wInsp.set (Obj.portState 2) 4).set (Obj.regStatus 2) 1).d with conf := [(Obj.portEnable 2, 1), (Obj.lanes 2, 1), (Obj.rateObj 8, 3), (Obj.tagCount 2, 1), (Obj.portDepth 2, 8), (Obj.tagPixels 2 0, 8), (Obj.protocol 2, 1)] } }) 2 9 0 0 0 0 [] [] [] ⟨.passWrite, 7, true, 0x2000, 1⟩ ∧
    (fun (s : State) (p : Fin 32) => (s.w.expired (.regCmd p) 200000000 = true) ∧ ((s.w.port p).expWait = false) ∧ ((s.w.port p).passWait = none)) (st { ((wInsp.set (Obj.portState 2) 4).set (Obj.regStatus 2) 1) with ports := upd wInsp.ports 2 (fun n => { n with txn := some ⟨.passRead, 7, false, 0x2000, 1⟩ }), d := { ((wInsp.set (Obj.portState 2) 4).set (Obj.regStatus 2) 1).d with conf := [(Obj.portEnable 2, 1), (Obj.lanes 2, 1), (Obj.rateObj 8, 3), (Obj.tagCount 2, 1), (Obj.portDepth 2, 8), (Obj.tagPixels 2 0, 8)] }, timers := [(.regCmd 2, 0)] }) 2 := by decide +kernel

set_option maxRecDepth 20000 in
/-- States and operands that meet the hypotheses of PortsLeaveAndReturn. -/
theorem witness_PortsLeaveAndReturn :
    (fun (s : State) (p : Fin 32) => (s.w.portActive p = true) ∧ (s.w.getN (Obj.lostFrames p) ≤ (s.w.port p).downBounds) ∧ (s.w.run.capacity.contains (.port p) = false)) (st { (wInsp) with ports := upd wInsp.ports 2 (fun n => { n with downBounds := 9 }), d := { (wInsp).d with conf := [(Obj.portEnable 2, 1), (Obj.lanes 2, 1), (Obj.rateObj 8, 3), (Obj.tagCount 2, 1), (Obj.portDepth 2, 8), (Obj.tagPixels 2 0, 8)] } }) 2 ∧
    (fun (s : State) (p : Fin 32) (f : Nat) => ((s.w.port p).matched = some f) ∧ (f < s.w.frame) ∧ (s.w.run.capacity.contains (.port p) = true)) (st { (wInsp) with ports := upd wInsp.ports 2 (fun n => { n with matched := some 1 }), d := { (wInsp).d with conf := [(Obj.portEnable 2, 1), (Obj.lanes 2, 1), (Obj.rateObj 8, 3), (Obj.tagCount 2, 1), (Obj.portDepth 2, 8), (Obj.tagPixels 2 0, 8)] }, mode := .degraded, axis := { wInsp.axis with hwm := some 50000 }, run := { wInsp.run with capacity := [.port 2] } }) 2 1 ∧
    (fun (s : State) (path : Path) (p : Fin 32) => (s.w.ready path = true) ∧ (s.w.mode.inspecting = true) ∧ (s.w.portActive p = true) ∧ ((s.w.port p).suspended = false) ∧ ((s.w.port p).suspendAt = none)) (st { (wInsp) with ports := upd wInsp.ports 2 (fun n => { n with txn := none }), d := { (wInsp).d with conf := [(Obj.portEnable 2, 1), (Obj.lanes 2, 1), (Obj.rateObj 8, 3), (Obj.tagCount 2, 1), (Obj.portDepth 2, 8), (Obj.tagPixels 2 0, 8)] } }) .coe 2 ∧
    (fun (s : State) (path : Path) (p : Fin 32) (b : Bytes) (es : List ProfEntry) => (s.w.ready path = true) ∧ ((s.w.port p).suspended = true) ∧ ((entriesOf b 0).toOption = some es) ∧ (es.all (fun e => portOwns p e.key) = true) ∧ (8 ≤ b.length) ∧ (b.length ≤ 1048576)) (st { (wInsp) with ports := upd wInsp.ports 2 (fun n => { n with suspended := true }), d := { (wInsp).d with conf := [(Obj.portEnable 2, 1), (Obj.lanes 2, 1), (Obj.rateObj 8, 3), (Obj.tagCount 2, 1), (Obj.portDepth 2, 8), (Obj.tagPixels 2 0, 8)] } }) .coe 2 [0x40, 0x30, 0x0B, 0, 1, 0, 0, 0, 5, 0, 0, 0, 0, 0, 0, 0] [⟨0x30400B, [5]⟩] ∧
    (fun (s : State) (path : Path) (p : Fin 32) => (s.w.ready path = true) ∧ ((s.w.port p).suspended = true) ∧ (∀ q : Fin 32, (s.w.port q).resuming = false) ∧ (s.w.blob (Obj.serviceImage p) = []) ∧ ((let w := s.w.tookNow path (Obj.portCmd p) 2; { w with loom := { w.loom with work := none } }).commitFaults = [])) (st { wInsp with ports := upd wInsp.ports 2 (fun n => { n with suspended := true }) }) .coe 2 ∧
    (fun (s : State) (p : Fin 32) (m : Nat) => ((s.w.port p).readyAt = some m) ∧ ((s.w.port p).resuming = true) ∧ (m ≤ s.w.frame)) (st { (wInsp) with ports := upd wInsp.ports 2 (fun n => { n with suspended := true, resuming := true, readyAt := some 0 }), d := { (wInsp).d with conf := [(Obj.portEnable 2, 1), (Obj.lanes 2, 1), (Obj.rateObj 8, 3), (Obj.tagCount 2, 1), (Obj.portDepth 2, 8), (Obj.tagPixels 2 0, 8)] } }) 2 0 := by decide +kernel

set_option maxRecDepth 20000 in
/-- States and operands that meet the hypotheses of LinesPassFullerAndArePublished. -/
theorem witness_LinesPassFullerAndArePublished :
    (fun (s : State) (p : Fin 32) (r : RxLine) (rest : List RxLine) (l : Nat) => ((s.w.port p).rx = r :: rest) ∧ (r.line = some l) ∧ (r.state < 3) ∧ (s.w.outFill (dieOfPort p) + s.w.lineBytes p r.tag ≤ 262144) ∧ ((s.w.calOf p).badWords = []) ∧ (dieOfPort p < s.w.fuller.length) ∧ (s.w.getN (Obj.pcalState p) ≠ 3)) (st { (wInsp) with ports := upd wInsp.ports 2 (fun n => { n with rx := [⟨700, some 690, 0, 0, 0, 8, 1, 0, false, [0, 1, 2, 3, 4, 5, 4094, 4095]⟩] }), d := { (wInsp).d with conf := [(Obj.portEnable 2, 1), (Obj.lanes 2, 1), (Obj.rateObj 8, 3), (Obj.tagCount 2, 1), (Obj.portDepth 2, 12), (Obj.tagPixels 2 0, 8)] } }) 2 ⟨700, some 690, 0, 0, 0, 8, 1, 0, false, [0, 1, 2, 3, 4, 5, 4094, 4095]⟩ [] 690 ∧
    (fun (s : State) (p : Fin 32) (r : RxLine) (rest : List RxLine) (l : Nat) => ((s.w.port p).rx = r :: rest) ∧ (r.line = some l) ∧ (3 ≤ r.state) ∧ (r.repeatOf = 0) ∧ (s.w.outFill (dieOfPort p) + s.w.lineBytes p r.tag ≤ 262144) ∧ (dieOfPort p < s.w.fuller.length) ∧ (s.w.getN (Obj.pcalState p) ≠ 3)) (st { (wInsp) with ports := upd wInsp.ports 2 (fun n => { n with rx := [⟨700, some 690, 0, 0, 4, 0, 1, 0, false, []⟩] }), d := { (wInsp).d with conf := [(Obj.portEnable 2, 1), (Obj.lanes 2, 1), (Obj.rateObj 8, 3), (Obj.tagCount 2, 1), (Obj.portDepth 2, 12), (Obj.tagPixels 2 0, 8)] } }) 2 ⟨700, some 690, 0, 0, 4, 0, 1, 0, false, []⟩ [] 690 ∧
    (fun (s : State) (p : Fin 32) (r : RxLine) (rest : List RxLine) (_c : Nat) (_bad : List Nat) => ((s.w.port p).rx = r :: rest) ∧ (s.w.outFill (dieOfPort p) + s.w.lineBytes p r.tag > 262144)) (st { (wInsp) with ports := upd wInsp.ports 2 (fun n => { n with rx := [⟨700, some 690, 0, 0, 0, 8, 1, 0, false, [0, 1, 2, 3, 4, 5, 4094, 4095]⟩] }), d := { (wInsp).d with conf := [(Obj.portEnable 2, 1), (Obj.lanes 2, 1), (Obj.rateObj 8, 3), (Obj.tagCount 2, 1), (Obj.portDepth 2, 12), (Obj.tagPixels 2 0, 8)] }, fuller := upd wInsp.fuller 0 (fun x => { x with outq := List.replicate 65 ⟨700, 16, ⟨0,0,0,0,0,0,0,0,0,0,0,0,false,false,false,false,false⟩, List.replicate 4096 0, []⟩ }) }) 2 ⟨700, some 690, 0, 0, 0, 8, 1, 0, false, [0, 1, 2, 3, 4, 5, 4094, 4095]⟩ [] 0 [] ∧
    (fun (s : State) (d : Fin 4) (q : Packed) (rest : List Packed) => ((nth {} s.w.fuller d).outq = q :: rest)) (st { (wInsp) with ports := upd wInsp.ports 2 (fun n => { n with rx := [⟨700, some 690, 0, 0, 0, 8, 1, 0, false, [0, 1, 2, 3, 4, 5, 4094, 4095]⟩] }), d := { (wInsp).d with conf := [(Obj.portEnable 2, 1), (Obj.lanes 2, 1), (Obj.rateObj 8, 3), (Obj.tagCount 2, 1), (Obj.portDepth 2, 12), (Obj.tagPixels 2 0, 8)] }, fuller := upd wInsp.fuller 0 (fun x => { x with outq := [⟨700, 16, ⟨690,0,0,2,0,0,0,0,0,0,0,0,false,false,false,false,false⟩, [], []⟩] }) }) 0 ⟨700, 16, ⟨690,0,0,2,0,0,0,0,0,0,0,0,false,false,false,false,false⟩, [], []⟩ [] := by decide +kernel

set_option maxRecDepth 20000 in
/-- States and operands that meet the hypotheses of CorrectionSettingsSwap. -/
theorem witness_CorrectionSettingsSwap :
    (fun (s : State) (p : Fin 32) => (s.w.getN (Obj.switchFrame p) ≠ noFrame) ∧ (s.w.getN (Obj.switchFrame p) ≤ s.w.frame)) (st { (wInsp.set (Obj.switchFrame 2) 1) with axis := { wInsp.axis with hwm := some 50000 }, cal := upd wInsp.cal 2 (fun c => { c with sets := [(1, { gen := 7 }), (0, { gen := 3 })] }) }) 2 ∧
    (fun (s : State) (path : Path) (_d : Fin 4) (_n : Fin 64) (b : Bytes) => (s.w.ready path = true) ∧ (b.length = 2058) ∧ (leAt b 0 4 = 0x54554C46) ∧ (leAt b 2054 4 = crc32 (b.take 2054))) (st wInsp) .coe 1 7 (leBytes 4 0x54554C46 ++ List.replicate 2050 0 ++ leBytes 4 (crc32 (leBytes 4 0x54554C46 ++ List.replicate 2050 0)).toNat) ∧
    (fun (c : CalSet) (_tag _f _b _dgain _fillX i : Nat) (px : List Nat) => (c.map = []) ∧ (i < px.length)) {} 0 0 12 4096 0 1 [5, 100] := by decide +kernel

set_option maxRecDepth 20000 in
/-- States and operands that meet the hypotheses of PortCalibrationsRunTheirStates. -/
theorem witness_PortCalibrationsRunTheirStates :
    (fun (s : State) (path : Path) (p : Fin 32) => (s.w.ready path = true) ∧ (s.w.mode.inspecting = true ∨ s.w.mode = .shadow) ∧ ((s.w.calOf p).kind = 0) ∧ ((s.w.port p).suspended = false) ∧ ((s.w.port p).suspendAt = none) ∧ (s.w.portActive p = true)) (st { (wInsp) with mode := .inspect, cal := upd wInsp.cal 2 (fun n => { n with trigs := 0 }), d := { (wInsp).d with conf := [(Obj.portEnable 2, 1), (Obj.lanes 2, 1), (Obj.rateObj 8, 3), (Obj.tagCount 2, 1), (Obj.portDepth 2, 12), (Obj.tagPixels 2 0, 4)] } }) .coe 2 ∧
    (fun (s : State) (path : Path) (p : Fin 32) => (s.w.ready path = true) ∧ (s.w.mode.inspecting = true ∨ s.w.mode = .shadow) ∧ ((s.w.calOf p).kind = 0) ∧ ((s.w.port p).suspended = false) ∧ ((s.w.port p).suspendAt = none) ∧ (s.w.portActive p = true)) (st { (wInsp) with mode := .inspect, cal := upd wInsp.cal 2 (fun n => { n with trigs := 0 }), d := { (wInsp).d with conf := [(Obj.portEnable 2, 1), (Obj.lanes 2, 1), (Obj.rateObj 8, 3), (Obj.tagCount 2, 1), (Obj.portDepth 2, 12), (Obj.tagPixels 2 0, 4)] } }) .coe 2 ∧
    (fun (s : State) (p : Fin 32) => ((s.w.calOf p).kind ≠ 0) ∧ ((s.w.calOf p).device = false) ∧ ((s.w.calOf p).backAt = none) ∧ (s.w.getN (Obj.pcalState p) = 0) ∧ ((s.w.calOf p).startAt ≤ s.w.frame)) (st { (wInsp) with mode := .inspect, cal := upd wInsp.cal 2 (fun n => { n with kind := 1 }), d := { (wInsp).d with conf := [(Obj.portEnable 2, 1), (Obj.lanes 2, 1), (Obj.rateObj 8, 3), (Obj.tagCount 2, 1), (Obj.portDepth 2, 12), (Obj.tagPixels 2 0, 4)] } }) 2 ∧
    (fun (s : State) (path : Path) (p : Fin 32) => (s.w.ready path = true) ∧ (s.w.waitsFor p 1 = true)) (st { ((wInsp).set (Obj.pcalState 2) 1) with mode := .inspect, cal := upd wInsp.cal 2 (fun n => { n with kind := 1 }), d := { ((wInsp).set (Obj.pcalState 2) 1).d with conf := [(Obj.portEnable 2, 1), (Obj.lanes 2, 1), (Obj.rateObj 8, 3), (Obj.tagCount 2, 1), (Obj.portDepth 2, 12), (Obj.tagPixels 2 0, 4)] } }) .coe 2 ∧
    (fun (s : State) (path : Path) => (s.w.ready path = true)) (st { ((wInsp).set (Obj.pcalState 2) 1) with mode := .calDark, cal := upd wInsp.cal 2 (fun n => { n with kind := 1, device := true }), d := { ((wInsp).set (Obj.pcalState 2) 1).d with conf := [(Obj.portEnable 2, 1), (Obj.lanes 2, 1), (Obj.rateObj 8, 3), (Obj.tagCount 2, 1), (Obj.portDepth 2, 12), (Obj.tagPixels 2 0, 4)] } }) .coe ∧
    (fun (s : State) (path : Path) (p : Fin 32) => (s.w.ready path = true) ∧ (s.w.waitsFor p 5 = true)) (st { ((wInsp).set (Obj.pcalState 2) 5) with mode := .inspect, cal := upd wInsp.cal 2 (fun n => { n with kind := 1 }), d := { ((wInsp).set (Obj.pcalState 2) 5).d with conf := [(Obj.portEnable 2, 1), (Obj.lanes 2, 1), (Obj.rateObj 8, 3), (Obj.tagCount 2, 1), (Obj.portDepth 2, 12), (Obj.tagPixels 2 0, 4)] } }) .coe 2 ∧
    (fun (s : State) (path : Path) => (s.w.ready path = true) ∧ (∀ p : Fin 32, (s.w.calOf p).device = true → s.w.getN (Obj.pcalState p) ≠ 5)) (st { ((wInsp).set (Obj.pcalState 2) 1) with mode := .calDark, cal := upd wInsp.cal 2 (fun n => { n with kind := 1, device := true }), d := { ((wInsp).set (Obj.pcalState 2) 1).d with conf := [(Obj.portEnable 2, 1), (Obj.lanes 2, 1), (Obj.rateObj 8, 3), (Obj.tagCount 2, 1), (Obj.portDepth 2, 12), (Obj.tagPixels 2 0, 4)] } }) .coe ∧
    (fun (s : State) (p : Fin 32) (a : Nat) => (s.w.traverse p = some a) ∧ ((s.w.ax a).running = false) ∧ ((s.w.ax a).queue = []) ∧ (s.w.getN (Obj.pcalState p) = 1) ∧ (s.w.axPos a = s.w.stopPos 0)) (st { ((wInsp.set Obj.travAxis 5).set (Obj.pcalState 2) 1) with mode := .inspect, cal := upd wInsp.cal 2 (fun n => { n with kind := 2 }), d := { ((wInsp.set Obj.travAxis 5).set (Obj.pcalState 2) 1).d with conf := [(Obj.portEnable 2, 1), (Obj.lanes 2, 1), (Obj.rateObj 8, 3), (Obj.tagCount 2, 1), (Obj.portDepth 2, 12), (Obj.tagPixels 2 0, 4)] } }) 2 5 ∧
    (fun (s : State) (p : Fin 32) => ((s.w.calOf p).kind ≠ 0) ∧ ((s.w.calOf p).ready = false) ∧ (s.w.getN Obj.settleLines ≤ (s.w.calOf p).trigs) ∧ (s.w.getN (Obj.pcalState p) = 2)) (st { ((wInsp).set (Obj.pcalState 2) 2) with mode := .inspect, cal := upd wInsp.cal 2 (fun n => { n with kind := 1, trigs := 1024 }), d := { ((wInsp).set (Obj.pcalState 2) 2).d with conf := [(Obj.portEnable 2, 1), (Obj.lanes 2, 1), (Obj.rateObj 8, 3), (Obj.tagCount 2, 1), (Obj.portDepth 2, 12), (Obj.tagPixels 2 0, 4)] } }) 2 ∧
    (fun (s : State) (p : Fin 32) => ((s.w.calOf p).kind = 1) ∧ ((s.w.calOf p).failed = false) ∧ ((s.w.calOf p).ready = true) ∧ (s.w.allSummed p = true) ∧ (s.w.getN (Obj.pcalState p) = 3)) (st { ((wInsp).set (Obj.pcalState 2) 3) with mode := .inspect, cal := upd wInsp.cal 2 (fun n => { n with kind := 1, ready := true, acc := ⟨List.replicate 64 4096, [], []⟩ }), d := { ((wInsp).set (Obj.pcalState 2) 3).d with conf := [(Obj.portEnable 2, 1), (Obj.lanes 2, 1), (Obj.rateObj 8, 3), (Obj.tagCount 2, 1), (Obj.portDepth 2, 12), (Obj.tagPixels 2 0, 4)] } }) 2 ∧
    (fun (s : State) (p : Fin 32) (m : Nat) => ((s.w.calOf p).backAt = some m) ∧ (m ≤ s.w.frame)) (st { ((wInsp).set (Obj.pcalState 2) 6) with mode := .inspect, cal := upd wInsp.cal 2 (fun n => { n with kind := 1, backAt := some 0 }), d := { ((wInsp).set (Obj.pcalState 2) 6).d with conf := [(Obj.portEnable 2, 1), (Obj.lanes 2, 1), (Obj.rateObj 8, 3), (Obj.tagCount 2, 1), (Obj.portDepth 2, 12), (Obj.tagPixels 2 0, 4)] } }) 2 0 := by decide +kernel

set_option maxRecDepth 20000 in
/-- States and operands that meet the hypotheses of CalibrationsEndWithAResult. -/
theorem witness_CalibrationsEndWithAResult :
    (fun (s : State) (p : Fin 32) (c : CalSet) => ((s.w.calOf p).kind = 1 ∨ (s.w.calOf p).kind = 2) ∧ ((s.w.calOf p).device = false) ∧ (s.w.getN (Obj.pcalState p) = 4) ∧ ((s.w.calOf p).work = some c) ∧ ((s.w.computeAll p c (s.w.calOf p).kind).toOption.map (fun r => decide ((addFound c.map r.2).length ≤ 4096)) = some true)) (st { ((wInsp).set (Obj.pcalState 2) 4) with mode := .inspect, cal := upd wInsp.cal 2 (fun n => { n with kind := 1, work := some { depth := 12, tagCount := 1, fieldCount := 1, tagPixels := [4, 0, 0, 0, 0, 0, 0, 0], words := List.replicate 4 0x40000000 }, acc := ⟨[], [4096 * 100, 4096 * 101, 4096 * 99, 4096 * 100], [0, 0, 0, 0]⟩ }), d := { ((wInsp).set (Obj.pcalState 2) 4).d with conf := [(Obj.portEnable 2, 1), (Obj.lanes 2, 1), (Obj.rateObj 8, 3), (Obj.tagCount 2, 1), (Obj.portDepth 2, 12), (Obj.tagPixels 2 0, 4)] } }) 2 { depth := 12, tagCount := 1, fieldCount := 1, tagPixels := [4, 0, 0, 0, 0, 0, 0, 0], words := List.replicate 4 0x40000000 } ∧
    (fun (s : State) (path : Path) (p : Fin 32) => (s.w.ready path = true) ∧ (s.w.mode.inspecting = true ∨ s.w.mode = .shadow) ∧ ((s.w.calOf p).kind ≠ 0) ∧ ((s.w.calOf p).device = false) ∧ (s.w.getN (Obj.pcalState p) < 5)) (st { ((wInsp).set (Obj.pcalState 2) 3) with mode := .inspect, cal := upd wInsp.cal 2 (fun n => { n with kind := 1 }), d := { ((wInsp).set (Obj.pcalState 2) 3).d with conf := [(Obj.portEnable 2, 1), (Obj.lanes 2, 1), (Obj.rateObj 8, 3), (Obj.tagCount 2, 1), (Obj.portDepth 2, 12), (Obj.tagPixels 2 0, 4)] } }) .coe 2 ∧
    (fun (s : State) (p : Fin 32) => ((s.w.calOf p).kind ≠ 0) ∧ (s.w.expired (.refPcal p) (s.w.getN Obj.refTimeout * 1000000) = true) ∧ (s.w.getN (Obj.pcalState p) = 1)) (st { ((wInsp).set (Obj.pcalState 2) 1) with mode := .inspect, cal := upd wInsp.cal 2 (fun n => { n with kind := 1 }), d := { ((wInsp).set (Obj.pcalState 2) 1).d with conf := [(Obj.portEnable 2, 1), (Obj.lanes 2, 1), (Obj.rateObj 8, 3), (Obj.tagCount 2, 1), (Obj.portDepth 2, 12), (Obj.tagPixels 2 0, 4)] }, timers := [(.refPcal 2, 0)], clk := { ctl := 4000000000000, tb := 10 ^ 15 } }) 2 ∧
    (fun (s : State) => (s.w.mode.calibrating = true) ∧ (s.w.calDev.timer = true) ∧ (s.w.calDev.dueAt ≤ s.w.clk.ctl)) (st { (wInsp) with mode := .calDark, cal := upd wInsp.cal 2 (fun n => { n with trigs := 0 }), d := { (wInsp).d with conf := [(Obj.portEnable 2, 1), (Obj.lanes 2, 1), (Obj.rateObj 8, 3), (Obj.tagCount 2, 1), (Obj.portDepth 2, 12), (Obj.tagPixels 2 0, 4)] }, calDev := { timer := true, count := 5, dueAt := 77 } }) ∧
    (fun (s : State) (dots : List DotView) (links : List DotLink) => (s.w.mode = .calGeom) ∧ (s.w.geomPorts ≠ []) ∧ (∀ p ∈ s.w.geomPorts, s.w.getN (Obj.pcalState p) = 3) ∧ ((s.w.geomFits ((s.w.geomPorts.map s.w.portSensors).flatten) dots links).toOption.map (fun f => decide ((worstFit f).err ≤ s.w.getN Obj.geomTol)) = some true)) (st { (((wInsp.set Obj.geomDegree 1).set Obj.gridCdPitch 10).set (Obj.pcalState 2) 3) with mode := .calGeom, cal := upd wInsp.cal 2 (fun n => { n with kind := 3, device := true }), d := { (((wInsp.set Obj.geomDegree 1).set Obj.gridCdPitch 10).set (Obj.pcalState 2) 3).d with conf := [(Obj.portEnable 2, 1), (Obj.lanes 2, 1), (Obj.rateObj 8, 3), (Obj.tagCount 2, 1), (Obj.portDepth 2, 12), (Obj.tagPixels 2 0, 4)] } }) [⟨16, false, [⟨true, [(0, 256, 0)]⟩, ⟨false, [(0, 512, 0)]⟩, ⟨false, [(0, 768, 0)]⟩, ⟨false, [(0, 1024, 0)]⟩]⟩] [] := by decide +kernel

set_option maxRecDepth 20000 in
/-- States and operands that meet the hypotheses of WorkingSetsOpenCommitAndTravel. -/
theorem witness_WorkingSetsOpenCommitAndTravel :
    (fun (s : State) (path : Path) (p : Fin 32) => (s.w.ready path = true) ∧ ((s.w.calOf p).kind = 0)) (st { (wInsp) with mode := .inspect, cal := upd wInsp.cal 2 (fun n => { n with trigs := 0 }), d := { (wInsp).d with conf := [(Obj.portEnable 2, 1), (Obj.lanes 2, 1), (Obj.rateObj 8, 3), (Obj.tagCount 2, 1), (Obj.portDepth 2, 12), (Obj.tagPixels 2 0, 4)] } }) .coe 2 ∧
    (fun (s : State) (path : Path) (p : Fin 32) => (s.w.ready path = true) ∧ ((s.w.calOf p).kind = 0)) (st { (wInsp) with mode := .inspect, cal := upd wInsp.cal 2 (fun n => { n with trigs := 0 }), d := { (wInsp).d with conf := [(Obj.portEnable 2, 1), (Obj.lanes 2, 1), (Obj.rateObj 8, 3), (Obj.tagCount 2, 1), (Obj.portDepth 2, 12), (Obj.tagPixels 2 0, 4)] } }) .coe 2 ∧
    (fun (s : State) (path : Path) (p : Fin 32) => (s.w.ready path = true) ∧ ((s.w.calOf p).kind = 0)) (st { (wInsp) with mode := .inspect, cal := upd wInsp.cal 2 (fun n => { n with trigs := 0 }), d := { (wInsp).d with conf := [(Obj.portEnable 2, 1), (Obj.lanes 2, 1), (Obj.rateObj 8, 3), (Obj.tagCount 2, 1), (Obj.portDepth 2, 12), (Obj.tagPixels 2 0, 4)] } }) .coe 2 ∧
    (fun (s : State) (path : Path) (mask : BitVec 32) => (s.w.ready path = true) ∧ (∀ p ∈ maskPorts mask.toNat, s.w.workComplete p = true ∧ s.w.bankBusy p = false) ∧ (mask ≠ 0)) (st { (wInsp.set (Obj.workState 2) 3) with mode := .inspect, cal := upd wInsp.cal 2 (fun n => { n with work := some {} }), d := { (wInsp.set (Obj.workState 2) 3).d with conf := [(Obj.portEnable 2, 1), (Obj.lanes 2, 1), (Obj.rateObj 8, 3), (Obj.tagCount 2, 1), (Obj.portDepth 2, 12), (Obj.tagPixels 2 0, 4)] } }) .coe 4#32 ∧
    (fun (s : State) (path : Path) (p : Fin 32) (b : Bytes) => (s.w.ready path = true) ∧ (calImportCheck p s.w b = none) ∧ (80 ≤ b.length) ∧ (b.length ≤ 4194304)) (st { (wInsp) with mode := .inspect, cal := upd wInsp.cal 2 (fun n => { n with trigs := 0 }), d := { (wInsp).d with conf := [(Obj.portEnable 2, 1), (Obj.lanes 2, 1), (Obj.rateObj 8, 3), (Obj.tagCount 2, 1), (Obj.portDepth 2, 12), (Obj.tagPixels 2 0, 4)] } }) .coe 2 (({ depth := 12, tagCount := 1, fieldCount := 1, tagPixels := [4, 0, 0, 0, 0, 0, 0, 0], words := List.replicate 4 0x40000000 } : CalSet).image 2 false 0) ∧
    (fun (s : State) (path : Path) (b : Bytes) => (s.w.ready path = true) ∧ (geomImportCheck s.w b = none) ∧ (80 ≤ b.length) ∧ (b.length ≤ 16464)) (st { (wInsp) with mode := .inspect, cal := upd wInsp.cal 2 (fun n => { n with trigs := 0 }), d := { (wInsp).d with conf := [(Obj.portEnable 2, 1), (Obj.lanes 2, 1), (Obj.rateObj 8, 3), (Obj.tagCount 2, 1), (Obj.portDepth 2, 12), (Obj.tagPixels 2 0, 4)] } }) .coe (({ recs := [] } : GeomSet).image) ∧
    (fun (s : State) (_path : Path) (_p : Fin 32) => (s.w.mode.dictOpen = true)) (st { (wInsp) with mode := .inspect, cal := upd wInsp.cal 2 (fun n => { n with trigs := 0 }), d := { (wInsp).d with conf := [(Obj.portEnable 2, 1), (Obj.lanes 2, 1), (Obj.rateObj 8, 3), (Obj.tagCount 2, 1), (Obj.portDepth 2, 12), (Obj.tagPixels 2 0, 4)] } }) .coe 2 ∧
    (fun (s : State) (_path : Path) (_p : Fin 32) => (s.w.mode.dictOpen = true)) (st { (wInsp) with mode := .inspect, cal := upd wInsp.cal 2 (fun n => { n with trigs := 0 }), d := { (wInsp).d with conf := [(Obj.portEnable 2, 1), (Obj.lanes 2, 1), (Obj.rateObj 8, 3), (Obj.tagCount 2, 1), (Obj.portDepth 2, 12), (Obj.tagPixels 2 0, 4)] } }) .coe 2 ∧
    (fun (s : State) (_path : Path) => (s.w.mode.dictOpen = true)) (st { (wInsp) with mode := .inspect, cal := upd wInsp.cal 2 (fun n => { n with trigs := 0 }), d := { (wInsp).d with conf := [(Obj.portEnable 2, 1), (Obj.lanes 2, 1), (Obj.rateObj 8, 3), (Obj.tagCount 2, 1), (Obj.portDepth 2, 12), (Obj.tagPixels 2 0, 4)] } }) .coe ∧
    (fun (s : State) (_path : Path) => (s.w.mode.dictOpen = true)) (st { (wInsp) with mode := .inspect, cal := upd wInsp.cal 2 (fun n => { n with trigs := 0 }), d := { (wInsp).d with conf := [(Obj.portEnable 2, 1), (Obj.lanes 2, 1), (Obj.rateObj 8, 3), (Obj.tagCount 2, 1), (Obj.portDepth 2, 12), (Obj.tagPixels 2 0, 4)] } }) .coe := by decide +kernel

set_option maxRecDepth 20000 in
/-- States and operands that meet the hypotheses of LinesAreSweptAndDelivered. -/
theorem witness_LinesAreSweptAndDelivered :
    (fun (s : State) (line _corrected : Nat) (_bad : List Nat) => (s.w.sweepAt = some line) ∧ (s.w.sweepReady line = true)) (st { (wInsp) with axis := { wInsp.axis with last := some 3 }, run := { wInsp.run with spans := [(0, none)] }, loom := { wInsp.loom with next := some 3, sensors := [⟨16, { port := 2, tag := 0, first := 0, last := 40, stagger := 0, frac := 0, degree := 1, descend := false, coef := [20 * 2 ^ 32, 20 * 2 ^ 32, 0, 0, 0, 0] }, 1, 39⟩], width := 41 }, hbm := { wInsp.hbm with rows := [{ k := 3, spans := [], lines := [⟨3, 16, { line := 3, valid := 41, gen := 1, port := 2, tag := 0, field := 0, state := 0, repeatOf := 0 }, List.replicate 41 9, []⟩] }] }, d := { (wInsp).d with conf := [(Obj.portEnable 2, 1), (Obj.tagCount 2, 1), (Obj.portDepth 2, 8), (Obj.tagPixels 2 0, 41), (Obj.frameLength, 1), (Obj.maxLineRate, 1000)] } }) 3 2 [7] ∧
    (fun (s : State) (src : Fin 1024) (line : BitVec 48) (f : Fin 8) (_vs : List Nat) (_valid _uncal : BitVec 32) (j own : Nat) => ((s.w.session src).isSome = true) ∧ (s.w.memberFrom src = some j) ∧ (s.w.memberIndex = some own) ∧ (j = own + 1 ∨ own = j + 1) ∧ (s.w.haloLine (decide (own < j)) f line.toNat = none)) (st { (wInsp) with axis := { wInsp.axis with last := some 3 }, run := { wInsp.run with spans := [(0, none)] }, loom := { wInsp.loom with next := some 3, sensors := [⟨16, { port := 2, tag := 0, first := 0, last := 40, stagger := 0, frac := 0, degree := 1, descend := false, coef := [20 * 2 ^ 32, 20 * 2 ^ 32, 0, 0, 0, 0] }, 1, 39⟩], width := 41 }, hbm := { wInsp.hbm with rows := [{ k := 3, spans := [], lines := [⟨3, 16, { line := 3, valid := 41, gen := 1, port := 2, tag := 0, field := 0, state := 0, repeatOf := 0 }, List.replicate 41 9, []⟩] }] }, d := { (wInsp).d with conf := [(Obj.portEnable 2, 1), (Obj.tagCount 2, 1), (Obj.portDepth 2, 8), (Obj.tagPixels 2 0, 41), (Obj.frameLength, 1), (Obj.maxLineRate, 1000), (Obj.groupId, 1), (Obj.memberAddr 0, 5), (Obj.memberAddr 1, 6), (Obj.ylAddress, 5), (Obj.memberPartner 0, 0xFFFF), (Obj.memberPartner 1, 0xFFFF)] }, sys := { wInsp.sys with sessions := [{ peer := 6, number := 1, lastRx := 0 }] } }) 6 3#48 0 [1, 2] 0xFFFFFFFF#32 0#32 1 0 ∧
    (fun (s : State) (upper : Bool) (f line : Nat) (x : Sensor) (r : Row) => (s.w.hasNeighbour upper = true) ∧ (s.w.haloLine upper f line = none) ∧ (s.w.sweepReady line = true) ∧ (x ∈ s.w.loom.sensors) ∧ (r ∈ s.w.hbm.rows.find? (fun r => r.k == s.w.rowOf x.s line)) ∧ (r.pubAt + nsClocks (s.w.getN Obj.haloTimeout * 1000) ≤ s.w.clk.ctl)) (st { (wInsp) with axis := { wInsp.axis with last := some 3 }, run := { wInsp.run with spans := [(0, none)] }, loom := { wInsp.loom with next := some 3, sensors := [⟨16, { port := 2, tag := 0, first := 0, last := 40, stagger := 0, frac := 0, degree := 1, descend := false, coef := [20 * 2 ^ 32, 20 * 2 ^ 32, 0, 0, 0, 0] }, 1, 39⟩], width := 41 }, hbm := { wInsp.hbm with rows := [{ k := 3, spans := [], lines := [⟨3, 16, { line := 3, valid := 41, gen := 1, port := 2, tag := 0, field := 0, state := 0, repeatOf := 0 }, List.replicate 41 9, []⟩] }] }, d := { (wInsp).d with conf := [(Obj.portEnable 2, 1), (Obj.tagCount 2, 1), (Obj.portDepth 2, 8), (Obj.tagPixels 2 0, 41), (Obj.frameLength, 1), (Obj.maxLineRate, 1000), (Obj.groupId, 1), (Obj.memberAddr 0, 5), (Obj.memberAddr 1, 6), (Obj.ylAddress, 5), (Obj.memberPartner 0, 0xFFFF), (Obj.memberPartner 1, 0xFFFF)] } }) true 0 3 ⟨16, { port := 2, tag := 0, first := 0, last := 40, stagger := 0, frac := 0, degree := 1, descend := false, coef := [20 * 2 ^ 32, 20 * 2 ^ 32, 0, 0, 0, 0] }, 1, 39⟩ { k := 3, spans := [], lines := [⟨3, 16, { line := 3, valid := 41, gen := 1, port := 2, tag := 0, field := 0, state := 0, repeatOf := 0 }, List.replicate 41 9, []⟩] } ∧
    (fun (s : State) (f n _req : Nat) (first : Int) (width : Nat) => (s.w.loom.sensors ≠ []) ∧ (s.w.passReady f n ⟨first, min width 4096, 0xFFFF⟩ = true)) (st { (wInsp) with axis := { wInsp.axis with last := some 3 }, run := { wInsp.run with spans := [(0, none)] }, loom := { wInsp.loom with next := some 3, sensors := [⟨16, { port := 2, tag := 0, first := 0, last := 40, stagger := 0, frac := 0, degree := 1, descend := false, coef := [20 * 2 ^ 32, 20 * 2 ^ 32, 0, 0, 0, 0] }, 1, 39⟩], width := 41 }, hbm := { wInsp.hbm with rows := [{ k := 3, spans := [], lines := [⟨3, 16, { line := 3, valid := 41, gen := 1, port := 2, tag := 0, field := 0, state := 0, repeatOf := 0 }, List.replicate 41 9, []⟩] }] }, d := { (wInsp).d with conf := [(Obj.portEnable 2, 1), (Obj.tagCount 2, 1), (Obj.portDepth 2, 8), (Obj.tagPixels 2 0, 41), (Obj.frameLength, 1), (Obj.maxLineRate, 1000)] } }) 0 3 9 2 4 ∧
    (fun (s : State) (f n _req k : Nat) (_first : Int) (_width : Nat) => (s.w.loom.sensors ≠ []) ∧ (s.w.passReady f n (tileWindow s.w.groupBase k) = true)) (st { (wInsp) with axis := { wInsp.axis with last := some 3 }, run := { wInsp.run with spans := [(0, none)] }, loom := { wInsp.loom with next := some 3, sensors := [⟨16, { port := 2, tag := 0, first := 0, last := 40, stagger := 0, frac := 0, degree := 1, descend := false, coef := [20 * 2 ^ 32, 20 * 2 ^ 32, 0, 0, 0, 0] }, 1, 39⟩], width := 41 }, hbm := { wInsp.hbm with rows := [{ k := 3, spans := [], lines := [⟨3, 16, { line := 3, valid := 41, gen := 1, port := 2, tag := 0, field := 0, state := 0, repeatOf := 0 }, List.replicate 41 9, []⟩] }] }, d := { (wInsp).d with conf := [(Obj.portEnable 2, 1), (Obj.tagCount 2, 1), (Obj.portDepth 2, 8), (Obj.tagPixels 2 0, 41), (Obj.frameLength, 1), (Obj.maxLineRate, 1000)] } }) 0 3 9 0 2 4 := by decide +kernel

set_option maxRecDepth 20000 in
/-- States and operands that meet the hypotheses of BandsArePublishedAndPiecesMerge. -/
theorem witness_BandsArePublishedAndPiecesMerge :
    (fun (s : State) (u : Fin 1024) (j : Job) => (s.w.seg.jobs.find? (fun j => j.unit = some u.val) = some j) ∧ (j.band + 1 < s.w.bandCount) ∧ (s.w.bandReady j.frame j.tile j.field j.band = true)) (st { (wInsp) with axis := { wInsp.axis with last := some 700 }, run := { wInsp.run with spans := [(0, none)] }, loom := { wInsp.loom with next := some 3, sensors := [], width := 41 }, hbm := { wInsp.hbm with rows := [{ k := 3, spans := [], lines := [⟨3, 16, { line := 3, valid := 41, gen := 1, port := 2, tag := 0, field := 0, state := 0, repeatOf := 0 }, List.replicate 41 9, []⟩] }] }, d := { (wInsp).d with conf := [(Obj.portEnable 2, 1), (Obj.tagCount 2, 1), (Obj.portDepth 2, 8), (Obj.tagPixels 2 0, 41), (Obj.frameLength, 1024), (Obj.maxLineRate, 1000), (Obj.segFields, 1)] }, seg := { wInsp.seg with jobs := [{ frame := 0, tile := 0, field := 0, ready := 0, cluster := 0, unit := some 5 }] } }) 5 ({ frame := 0, tile := 0, field := 0, ready := 0, cluster := 0, unit := some 5 }) ∧
    (fun (s : State) (level : Fin 4) (m : Meet) (p q : Piece) => (s.w.seg.meets.find? (fun m => s.w.meetLevel m == level.val) = some m) ∧ (s.w.piece? m.a = some p) ∧ (s.w.piece? m.b = some q) ∧ (m.a ≠ m.b)) (st { (wInsp) with axis := { wInsp.axis with last := some 700 }, run := { wInsp.run with spans := [(0, none)] }, loom := { wInsp.loom with next := some 3, sensors := [], width := 41 }, hbm := { wInsp.hbm with rows := [{ k := 3, spans := [], lines := [⟨3, 16, { line := 3, valid := 41, gen := 1, port := 2, tag := 0, field := 0, state := 0, repeatOf := 0 }, List.replicate 41 9, []⟩] }] }, d := { (wInsp).d with conf := [(Obj.portEnable 2, 1), (Obj.tagCount 2, 1), (Obj.portDepth 2, 8), (Obj.tagPixels 2 0, 41), (Obj.frameLength, 1024), (Obj.maxLineRate, 1000), (Obj.segFields, 1)] }, seg := { wInsp.seg with pieces := [{ id := 1, label := 5, field := 0, clusters := [0], pix := [{ y := 3, c := 9, v := 1, b := 2, t := 1, h := 1, gx := 0, gm := 0, frac := 0, uncal := false, li := false, ri := false }] }, { id := 2, label := 16384, field := 0, clusters := [0], pix := [{ y := 3, c := 9, v := 1, b := 2, t := 1, h := 1, gx := 0, gm := 0, frac := 0, uncal := false, li := false, ri := false }] }], meets := [{ a := 1, b := 2, field := 0, tiles := [0, 1], line := 3 }] } }) 1 { a := 1, b := 2, field := 0, tiles := [0, 1], line := 3 } ({ id := 1, label := 5, field := 0, clusters := [0], pix := [{ y := 3, c := 9, v := 1, b := 2, t := 1, h := 1, gx := 0, gm := 0, frac := 0, uncal := false, li := false, ri := false }] }) ({ id := 2, label := 16384, field := 0, clusters := [0], pix := [{ y := 3, c := 9, v := 1, b := 2, t := 1, h := 1, gx := 0, gm := 0, frac := 0, uncal := false, li := false, ri := false }] }) ∧
    (fun (s : State) (upper : Bool) (_n _f _b : Nat) (_es : List EdgeMsg) => (s.w.hasNeighbour upper = true)) (st { (wInsp) with axis := { wInsp.axis with last := some 700 }, run := { wInsp.run with spans := [(0, none)] }, loom := { wInsp.loom with next := some 3, sensors := [], width := 41 }, hbm := { wInsp.hbm with rows := [{ k := 3, spans := [], lines := [⟨3, 16, { line := 3, valid := 41, gen := 1, port := 2, tag := 0, field := 0, state := 0, repeatOf := 0 }, List.replicate 41 9, []⟩] }] }, d := { (wInsp).d with conf := [(Obj.portEnable 2, 1), (Obj.tagCount 2, 1), (Obj.portDepth 2, 8), (Obj.tagPixels 2 0, 41), (Obj.frameLength, 1024), (Obj.maxLineRate, 1000), (Obj.segFields, 1), (Obj.groupId, 1), (Obj.memberAddr 0, 5), (Obj.memberAddr 1, 6), (Obj.ylAddress, 5), (Obj.memberPartner 0, 0xFFFF), (Obj.memberPartner 1, 0xFFFF)] }, seg := { wInsp.seg with jobs := [] } }) true 0 0 0 [{ line := 3, piece := some 4, seen := 3 }] ∧
    (fun (s : State) (upper : Bool) (_f _line : Nat) => (s.w.hasNeighbour upper = true)) (st { (wInsp) with axis := { wInsp.axis with last := some 700 }, run := { wInsp.run with spans := [(0, none)] }, loom := { wInsp.loom with next := some 3, sensors := [], width := 41 }, hbm := { wInsp.hbm with rows := [{ k := 3, spans := [], lines := [⟨3, 16, { line := 3, valid := 41, gen := 1, port := 2, tag := 0, field := 0, state := 0, repeatOf := 0 }, List.replicate 41 9, []⟩] }] }, d := { (wInsp).d with conf := [(Obj.portEnable 2, 1), (Obj.tagCount 2, 1), (Obj.portDepth 2, 8), (Obj.tagPixels 2 0, 41), (Obj.frameLength, 1024), (Obj.maxLineRate, 1000), (Obj.segFields, 1), (Obj.groupId, 1), (Obj.memberAddr 0, 5), (Obj.memberAddr 1, 6), (Obj.ylAddress, 5), (Obj.memberPartner 0, 0xFFFF), (Obj.memberPartner 1, 0xFFFF)] }, seg := { wInsp.seg with jobs := [] } }) true 0 255 ∧
    (fun (s : State) (ids : List Nat) (_px : List Pix) => (s.w.hasNeighbour true = true) ∧ (∀ i ∈ ids, s.w.seg.upper.split.contains i = false ∧ ∀ p ∈ s.w.seg.pieces, p.foreign.contains i = false)) (st { (wInsp) with axis := { wInsp.axis with last := some 700 }, run := { wInsp.run with spans := [(0, none)] }, loom := { wInsp.loom with next := some 3, sensors := [], width := 41 }, hbm := { wInsp.hbm with rows := [{ k := 3, spans := [], lines := [⟨3, 16, { line := 3, valid := 41, gen := 1, port := 2, tag := 0, field := 0, state := 0, repeatOf := 0 }, List.replicate 41 9, []⟩] }] }, d := { (wInsp).d with conf := [(Obj.portEnable 2, 1), (Obj.tagCount 2, 1), (Obj.portDepth 2, 8), (Obj.tagPixels 2 0, 41), (Obj.frameLength, 1024), (Obj.maxLineRate, 1000), (Obj.segFields, 1), (Obj.groupId, 1), (Obj.memberAddr 0, 5), (Obj.memberAddr 1, 6), (Obj.ylAddress, 5), (Obj.memberPartner 0, 0xFFFF), (Obj.memberPartner 1, 0xFFFF)] }, seg := { wInsp.seg with jobs := [] } }) [4, 5] [{ y := 3, c := 9, v := 1, b := 2, t := 1, h := 1, gx := 0, gm := 0, frac := 0, uncal := false, li := false, ri := false }] ∧
    (fun (s : State) (_ids : List Nat) => (s.w.hasNeighbour true = true)) (st { (wInsp) with axis := { wInsp.axis with last := some 700 }, run := { wInsp.run with spans := [(0, none)] }, loom := { wInsp.loom with next := some 3, sensors := [], width := 41 }, hbm := { wInsp.hbm with rows := [{ k := 3, spans := [], lines := [⟨3, 16, { line := 3, valid := 41, gen := 1, port := 2, tag := 0, field := 0, state := 0, repeatOf := 0 }, List.replicate 41 9, []⟩] }] }, d := { (wInsp).d with conf := [(Obj.portEnable 2, 1), (Obj.tagCount 2, 1), (Obj.portDepth 2, 8), (Obj.tagPixels 2 0, 41), (Obj.frameLength, 1024), (Obj.maxLineRate, 1000), (Obj.segFields, 1), (Obj.groupId, 1), (Obj.memberAddr 0, 5), (Obj.memberAddr 1, 6), (Obj.ylAddress, 5), (Obj.memberPartner 0, 0xFFFF), (Obj.memberPartner 1, 0xFFFF)] }, seg := { wInsp.seg with pieces := [{ id := 1, label := 5, field := 0, clusters := [0], pix := [{ y := 3, c := 9, v := 1, b := 2, t := 1, h := 1, gx := 0, gm := 0, frac := 0, uncal := false, li := false, ri := false }], foreign := [4] }] } }) [4, 5] ∧
    (fun (s : State) (_ids : List Nat) => (s.w.hasNeighbour false = true)) (st { (wInsp) with axis := { wInsp.axis with last := some 700 }, run := { wInsp.run with spans := [(0, none)] }, loom := { wInsp.loom with next := some 3, sensors := [], width := 41 }, hbm := { wInsp.hbm with rows := [{ k := 3, spans := [], lines := [⟨3, 16, { line := 3, valid := 41, gen := 1, port := 2, tag := 0, field := 0, state := 0, repeatOf := 0 }, List.replicate 41 9, []⟩] }] }, d := { (wInsp).d with conf := [(Obj.portEnable 2, 1), (Obj.tagCount 2, 1), (Obj.portDepth 2, 8), (Obj.tagPixels 2 0, 41), (Obj.frameLength, 1024), (Obj.maxLineRate, 1000), (Obj.segFields, 1), (Obj.groupId, 1), (Obj.memberAddr 0, 5), (Obj.memberAddr 1, 6), (Obj.ylAddress, 6), (Obj.memberPartner 0, 0xFFFF), (Obj.memberPartner 1, 0xFFFF)] }, seg := { wInsp.seg with pieces := [{ id := 4, label := 5, field := 0, clusters := [0], pix := [{ y := 3, c := 9, v := 1, b := 2, t := 1, h := 1, gx := 0, gm := 0, frac := 0, uncal := false, li := false, ri := false }], given := true }] } }) [4, 5] ∧
    (fun (s : State) => (s.w.expired .sysMerge (s.w.getN Obj.sysMergeTimeout * 1000) = true) ∧ (s.w.seamDue false = true)) (st { (wInsp) with axis := { wInsp.axis with last := some 700 }, run := { wInsp.run with spans := [(0, none)] }, loom := { wInsp.loom with next := some 3, sensors := [], width := 41 }, hbm := { wInsp.hbm with rows := [{ k := 3, spans := [], lines := [⟨3, 16, { line := 3, valid := 41, gen := 1, port := 2, tag := 0, field := 0, state := 0, repeatOf := 0 }, List.replicate 41 9, []⟩] }] }, d := { (wInsp).d with conf := [(Obj.portEnable 2, 1), (Obj.tagCount 2, 1), (Obj.portDepth 2, 8), (Obj.tagPixels 2 0, 41), (Obj.frameLength, 1024), (Obj.maxLineRate, 1000), (Obj.segFields, 1), (Obj.groupId, 1), (Obj.memberAddr 0, 5), (Obj.memberAddr 1, 6), (Obj.ylAddress, 6), (Obj.memberPartner 0, 0xFFFF), (Obj.memberPartner 1, 0xFFFF)] }, seg := { wInsp.seg with jobs := [{ frame := 0, tile := 0, field := 0, ready := 0, cluster := 0, band := 1 }] }, timers := [(.sysMerge, 0)] }) := by decide +kernel

set_option maxRecDepth 20000 in
/-- States and operands that meet the hypotheses of WorkIsPlacedOnUnits. -/
theorem witness_WorkIsPlacedOnUnits :
    (fun (s : State) (j : Job) (u k : Nat) => (s.w.pipeRuns = true) ∧ (s.w.nextDispatch = some (j, u)) ∧ (s.w.axis.last = some k) ∧ (k ≤ s.w.latestStart j)) (st { (wInsp.set Obj.ringDepth 1000000) with axis := { wInsp.axis with last := some 700 }, run := { wInsp.run with spans := [(0, none)] }, loom := { wInsp.loom with next := some 3, sensors := [], width := 41 }, hbm := { wInsp.hbm with rows := [{ k := 3, spans := [], lines := [⟨3, 16, { line := 3, valid := 41, gen := 1, port := 2, tag := 0, field := 0, state := 0, repeatOf := 0 }, List.replicate 41 9, []⟩] }] }, d := { (wInsp.set Obj.ringDepth 1000000).d with conf := [(Obj.portEnable 2, 1), (Obj.tagCount 2, 1), (Obj.portDepth 2, 8), (Obj.tagPixels 2 0, 41), (Obj.frameLength, 1024), (Obj.maxLineRate, 1000), (Obj.segFields, 1)] }, seg := { wInsp.seg with jobs := [{ frame := 0, tile := 0, field := 0, ready := 0, cluster := 0, unit := none }] } }) ({ frame := 0, tile := 0, field := 0, ready := 0, cluster := 0, unit := none }) 0 700 ∧
    (fun (s : State) (j : Job) (k : Nat) => (s.w.firstJob s.w.readyJobs = some j) ∧ (s.w.axis.last = some k) ∧ (s.w.latestStart j < k)) (st { (wInsp) with axis := { wInsp.axis with last := some 200000000 }, run := { wInsp.run with spans := [(0, none)] }, loom := { wInsp.loom with next := some 3, sensors := [], width := 41 }, hbm := { wInsp.hbm with rows := [{ k := 3, spans := [], lines := [⟨3, 16, { line := 3, valid := 41, gen := 1, port := 2, tag := 0, field := 0, state := 0, repeatOf := 0 }, List.replicate 41 9, []⟩] }] }, d := { (wInsp).d with conf := [(Obj.portEnable 2, 1), (Obj.tagCount 2, 1), (Obj.portDepth 2, 8), (Obj.tagPixels 2 0, 41), (Obj.frameLength, 1024), (Obj.maxLineRate, 1000), (Obj.segFields, 1)] }, seg := { wInsp.seg with jobs := [{ frame := 0, tile := 0, field := 0, ready := 0, cluster := 0, unit := none }] } }) ({ frame := 0, tile := 0, field := 0, ready := 0, cluster := 0, unit := none }) 200000000 ∧
    (fun (s : State) (limit : Nat) (c : Candidate) (cs : List Candidate) (u : Nat) => (s.w.batchHead limit = c :: cs) ∧ (s.w.pipeRuns = true) ∧ (s.w.nextDispatch = none) ∧ ((s.w.unitsAt (s.w.frameOf c.last)).find? (fun u => s.w.unitFree u && s.w.valueAtN (Obj.clRole (u / 16)) (s.w.frameOf c.last) ≠ 1) = some u)) (st { (wInsp) with axis := { wInsp.axis with last := some 700 }, run := { wInsp.run with spans := [(0, none)] }, loom := { wInsp.loom with next := some 3, sensors := [], width := 41 }, hbm := { wInsp.hbm with rows := [{ k := 3, spans := [], lines := [⟨3, 16, { line := 3, valid := 41, gen := 1, port := 2, tag := 0, field := 0, state := 0, repeatOf := 0 }, List.replicate 41 9, []⟩] }] }, d := { (wInsp).d with conf := [(Obj.portEnable 2, 1), (Obj.tagCount 2, 1), (Obj.portDepth 2, 8), (Obj.tagPixels 2 0, 41), (Obj.frameLength, 1024), (Obj.maxLineRate, 1000), (Obj.segFields, 1)] }, seg := { wInsp.seg with jobs := [] }, cls := { wInsp.cls with queue := [({ id := 7, field := 0, part := 0, first := 3, last := 3, flags := 0, feats := [] } : Candidate), ({ id := 8, field := 0, part := 0, first := 3, last := 3, flags := 0, feats := [] } : Candidate)] } }) 200 (({ id := 7, field := 0, part := 0, first := 3, last := 3, flags := 0, feats := [] } : Candidate)) [({ id := 8, field := 0, part := 0, first := 3, last := 3, flags := 0, feats := [] } : Candidate)] 0 ∧
    (fun (s : State) (u : Fin 1024) (j : Job) => (s.w.seg.jobs.find? (fun j => j.unit = some u.val) = some j) ∧ (s.w.expired (.unitBand u) (4 * 2112 * (s.w.bandLines j.field j.frame j.band).length * 1000 / s.w.valueAtN Obj.unitRate j.frame) = true) ∧ (s.w.bandReady j.frame j.tile j.field j.band = true)) (st { (wInsp) with axis := { wInsp.axis with last := some 700 }, run := { wInsp.run with spans := [(0, none)] }, loom := { wInsp.loom with next := some 3, sensors := [], width := 41 }, hbm := { wInsp.hbm with rows := [{ k := 3, spans := [], lines := [⟨3, 16, { line := 3, valid := 41, gen := 1, port := 2, tag := 0, field := 0, state := 0, repeatOf := 0 }, List.replicate 41 9, []⟩] }] }, d := { (wInsp).d with conf := [(Obj.portEnable 2, 1), (Obj.tagCount 2, 1), (Obj.portDepth 2, 8), (Obj.tagPixels 2 0, 41), (Obj.frameLength, 1024), (Obj.maxLineRate, 1000), (Obj.segFields, 1)] }, seg := { wInsp.seg with jobs := [{ frame := 0, tile := 0, field := 0, ready := 0, cluster := 0, unit := some 5 }] }, timers := [(.unitBand 5, 0)] }) 5 ({ frame := 0, tile := 0, field := 0, ready := 0, cluster := 0, unit := some 5 }) := by decide +kernel

set_option maxRecDepth 20000 in
/-- States and operands that meet the hypotheses of ClustersLeaveAndReturn. -/
theorem witness_ClustersLeaveAndReturn :
    (fun (s : State) (path : Path) (c : Fin 64) => (s.w.ready path = true) ∧ (∀ d : Fin 64, d ≠ c → s.w.getN (Obj.clState d) ≠ 1 ∧ s.w.getN (Obj.clState d) ≠ 2 ∧ s.w.getN (Obj.clState d) ≠ 4) ∧ (s.w.getN (Obj.clState c) = 0)) (st wInsp) .coe 3 ∧
    (fun (s : State) (path : Path) (c : Fin 64) => (s.w.ready path = true) ∧ (s.w.getN (Obj.clState c) = 2 ∨ s.w.getN (Obj.clState c) = 3) ∧ ((s.w.clus c).faultAt ≠ some s.w.frame) ∧ ((s.w.clus c).faulted = true → (s.w.clus c).tested = true) ∧ ((s.w.clus c).faulted = false → (s.w.clus c).failed = false) ∧ (s.w.getN (Obj.spState c) ≠ 5)) (st (wInsp.set (Obj.clState 3) 2)) .coe 3 ∧
    (fun (s : State) (e : Nat) (rest : List Nat) => (s.w.place.epochs = e :: rest) ∧ (e ≤ s.w.frame)) (st { wInsp with place := { wInsp.place with epochs := [0, 4] } }) 0 [4] ∧
    (fun (s : State) (c : Fin 64) => (s.w.getN (Obj.clState c) = 1) ∧ (s.w.seg.jobs.any (fun j => j.unit.isSome && j.cluster == c.val) = false) ∧ (s.w.openIn c = 0) ∧ (s.w.inService c s.w.frame = false)) (st { (wInsp.set (Obj.clState 3) 1) with place := { wInsp.place with clus := upd wInsp.place.clus 3 (fun k => { k with service := [(0, false)] }) } }) 3 := by decide +kernel

set_option maxRecDepth 20000 in
/-- States and operands that meet the hypotheses of CandidatesModelsAndRecordsFlow. -/
theorem witness_CandidatesModelsAndRecordsFlow :
    (fun (s : State) (id : Nat) (_room : Fin 16385) (b : Batch) => (s.w.cls.batches.find? (fun b => b.id == id && b.unit.isSome) = some b) ∧ (b.cands.all s.w.netReady = true) ∧ (b.cands ≠ [])) (st { (wInsp) with cls := { wInsp.cls with batches := [⟨7, some 5, none, [({ id := 9, field := 0, part := 0, first := 3, last := 3, flags := 0, feats := [] } : Candidate)]⟩] } }) 7 100 (⟨7, some 5, none, [({ id := 9, field := 0, part := 0, first := 3, last := 3, flags := 0, feats := [] } : Candidate)]⟩) ∧
    (fun (s : State) (path : Path) (m : Fin 8) (b : Bytes) => (s.w.ready path = true) ∧ (modelCheck m s.nv s.w b = none) ∧ (160 ≤ b.length) ∧ (b.length ≤ 33554432)) (st wInsp) .coe 2 tinyModel ∧
    (fun (s : State) (m : Fin 8) (e : Nat × Bytes) (rest : List (Nat × Bytes)) => ((nth {} s.w.cls.slots m).images = e :: rest) ∧ (s.w.get (Obj.modelFrame m) = e.1) ∧ (e.1 ≤ s.w.frame)) (st { (wInsp.set (Obj.modelFrame 2) 0) with cls := { wInsp.cls with slots := upd wInsp.cls.slots 2 (fun x => { x with images := [(0, tinyModel)] }) } }) 2 (0, tinyModel) [] ∧
    (fun (s : State) (x : Incoming) (rest : List Incoming) => (nextIncoming s.w.ledger.incoming = some (x, rest)) ∧ (s.w.mode ≠ .shadow) ∧ (x.only = none → s.w.suppressed x.body = false)) (st { (wInsp) with ledger := { wInsp.ledger with incoming := [⟨.cov { reason := 0x30, detail := 5, firstLine := 0, lastLine := 3, cdFirst := 0, cdLast := 9, fieldMask := 1 }, none, 5⟩] } }) ⟨.cov { reason := 0x30, detail := 5, firstLine := 0, lastLine := 3, cdFirst := 0, cdLast := 9, fieldMask := 1 }, none, 5⟩ [] ∧
    (fun (s : State) (q : Fin 4) (x : Staged) => (s.w.ledger.staged.find? (fun x => x.rings.contains q.val) = some x) ∧ (s.w.mode ≠ .shadow) ∧ ((s.w.ring q).enabled = true) ∧ (s.w.ringFree q ≠ 0)) (st { (wInsp.set (Obj.lrSlots 2) 64) with host := { wInsp.host with rings := upd wInsp.host.rings 2 (fun r => { r with enabled := true }) }, ledger := { wInsp.ledger with staged := [⟨44, [1, 2, 3], [1, 2], 0, 0⟩] } }) 2 ⟨44, [1, 2, 3], [1, 2], 0, 0⟩ ∧
    (fun (s : State) (q : Fin 4) => ((nth {} s.w.ledger.losses q).count ≠ 0) ∧ ((s.w.ring q).enabled = true) ∧ (s.w.ringFree q ≠ 0) ∧ (s.w.mode.inspecting = true)) (st { (wInsp.set (Obj.lrSlots 2) 64) with host := { wInsp.host with rings := upd wInsp.host.rings 2 (fun r => { r with enabled := true }) }, ledger := { wInsp.ledger with losses := upd wInsp.ledger.losses 2 (fun _ => ⟨3, 5, 9⟩) } }) 2 ∧
    (fun (s : State) (c : CropReq) (rest : List CropReq) => (s.w.cls.crops = c :: rest) ∧ (∀ x ∈ s.w.sweepAt, (s.w.cropLines c).foldl max 0 < x)) (st { (wInsp) with cls := { wInsp.cls with crops := [⟨44, 9, 0, 0, 1, 0, 3, 0, 16, 16, 8, false⟩] } }) ⟨44, 9, 0, 0, 1, 0, 3, 0, 16, 16, 8, false⟩ [] ∧
    (fun (s : State) (n : Nat) => (s.w.nextFrameDone s.w.frame = some n) ∧ (s.w.frameSettled n = true) ∧ (s.w.mode.inspecting = true)) (st { (wInsp.set Obj.doneMin 40000) with axis := { wInsp.axis with hwm := some 50000 }, run := { wInsp.run with spans := [(0, none)] } }) 0 := by decide +kernel

set_option maxRecDepth 20000 in
/-- States and operands that meet the hypotheses of StatisticsAndExposureAdvance. -/
theorem witness_StatisticsAndExposureAdvance :
    (fun (s : State) (p : Fin 32) (f : Fin 8) (k : StatBank) (rest : List StatBank) => ((s.w.statOf p f).banks = k :: rest) ∧ (s.w.statDone p f k.frame = true)) (st { (wInsp) with stats := upd wInsp.stats 17 (fun x => { x with banks := [({ frame := 0, lines := 9 } : StatBank)], readout := some { frame := 0 } }), hbm := { wInsp.hbm with rows := [{ k := 70000, spans := [], lines := [] }] }, d := { (wInsp).d with conf := [(Obj.portEnable 2, 1)] } }) 2 1 ({ frame := 0, lines := 9 } : StatBank) [] ∧
    (fun (s : State) (p : Fin 32) (f : Fin 8) (k : StatBank) => ((s.w.statOf p f).readout = some k) ∧ (s.w.mode ≠ .shadow) ∧ ((s.w.ring 4).enabled = true) ∧ (s.w.ringFree 4 ≠ 0)) (st { (wInsp.set Obj.stSlots 64) with stats := upd wInsp.stats 17 (fun x => { x with readout := some ({ frame := 0, lines := 9 } : StatBank) }), host := { wInsp.host with rings := upd wInsp.host.rings 4 (fun r => { r with enabled := true }) }, d := { (wInsp.set Obj.stSlots 64).d with conf := [(Obj.portEnable 2, 1)] } }) 2 1 ({ frame := 0, lines := 9 } : StatBank) ∧
    (fun (s : State) (path : Path) (p : Fin 32) (_f : Fin 8) (v : Int) => (s.w.ready path = true) ∧ (0 ≤ v) ∧ (v < 2 ^ 32) ∧ (s.w.getN Obj.configGen ≠ 0) ∧ ((s.w.port p).exp.gens.any (fun g => g.1 == s.w.frame + 2) = false)) (st (wInsp.set Obj.configGen 1)) .coe 2 1 0xFFFFFFFF ∧
    (fun (s : State) (path : Path) (p : Fin 32) (_f : Fin 8) (v : Int) => (s.w.ready path = true) ∧ (0 ≤ v) ∧ (v < 2 ^ 32) ∧ (s.w.getN Obj.configGen ≠ 0) ∧ ((s.w.port p).exp.gens.any (fun g => g.1 == s.w.frame + 2) = false)) (st (wInsp.set Obj.configGen 1)) .coe 2 1 0xFFFFFFFF ∧
    (fun (s : State) (p : Fin 32) (g : Nat × Nat) (rest : List (Nat × Nat)) => ((s.w.port p).exp.gens = g :: rest) ∧ (g.1 ≤ s.w.frame) ∧ (s.w.getN (Obj.expPendingFrame p) ≤ s.w.frame) ∧ (s.w.frame < noFrame)) (st { (wInsp.set (Obj.expPendingFrame 2) 0) with ports := upd wInsp.ports 2 (fun q => { q with exp := { q.exp with gens := [(0, 7)] } }), d := { (wInsp.set (Obj.expPendingFrame 2) 0).d with conf := [(Obj.portEnable 2, 1)] } }) 2 (0, 7) [] ∧
    (fun (s : State) (p : Fin 32) => (s.w.expired (.expWrite p) 200000000 = true) ∧ ((s.w.port p).expWait = false) ∧ ((s.w.port p).passWait = none)) (st { (wInsp) with timers := [(.expWrite 2, 0)], ports := upd wInsp.ports 2 (fun q => { q with txn := some ⟨.expSet, 7, true, 0x2000, 2⟩ }), d := { (wInsp).d with conf := [(Obj.portEnable 2, 1)] } }) 2 := by decide +kernel

set_option maxRecDepth 20000 in
/-- States and operands that meet the hypotheses of StreamRecordsFlowAndCompress. -/
theorem witness_StreamRecordsFlowAndCompress :
    (fun (s : State) (q : Fin 8) (_room : Bool) (c : ClosedRec) (rest : List ClosedRec) => ((s.w.stream q).ready = c :: rest) ∧ (c.stream = q) ∧ (s.w.valueAtN (Obj.dest q) c.frame = 1)) (st { ((wInsp.set (Obj.srSlotSize 3) 4096).set (Obj.srSlots 3) 64) with streams := { wInsp.streams with st := upd wInsp.streams.st 3 (fun x => { x with ready := [({ stream := 3, frame := 0, seq := 5, head := 0, raw := [1, 2, 3], compress := true } : ClosedRec)] }) }, host := { wInsp.host with rings := upd wInsp.host.rings 8 (fun r => { r with enabled := true }) }, d := { ((wInsp.set (Obj.srSlotSize 3) 4096).set (Obj.srSlots 3) 64).d with changes := [⟨0, Obj.dest 3, 1⟩] } }) 3 true ({ stream := 3, frame := 0, seq := 5, head := 0, raw := [1, 2, 3], compress := true } : ClosedRec) [] ∧
    (fun (s : State) (path : Path) (_q : Fin 8) => (s.w.ready path = true)) (st wInsp) .coe 2 ∧
    (fun (s : State) (path : Path) (_m : Fin 64) => (s.w.ready path = true)) (st wInsp) .coe 2 ∧
    (fun (s : State) (q : Fin 8) (l : Nat) => (s.w.sweepAt = some l) ∧ (l % s.w.frameLen = 0) ∧ (s.w.streamSyncDue q (s.w.frameOf l) = true)) (st { (wInsp.set (Obj.syncFrame 2) 9) with loom := { wInsp.loom with next := some 0 }, run := { wInsp.run with spans := [(0, none)] }, axis := { wInsp.axis with hwm := some 10 }, d := { (wInsp.set (Obj.syncFrame 2) 9).d with changes := [⟨0, Obj.streamEnable 2, 1⟩] } }) 2 0 ∧
    (fun (s : State) (_stalls : Bool) (c : ClosedRec) (rest : List ClosedRec) (e : Fin 4) => (s.w.streams.queue = c :: rest) ∧ ((upTo 4).find? (fun e => (nth {} s.w.streams.engines e).held.isNone) = some e.val) ∧ (s.w.throttledAt s.w.frame = false) ∧ (s.w.valueAtN (Obj.dest c.stream) c.frame = 1 → (s.w.ring (5 + c.stream)).enabled = true ∧ s.w.slotsHeld c.stream < s.w.ringFree (5 + c.stream))) (st { (wInsp) with streams := { wInsp.streams with queue := [({ stream := 3, frame := 0, seq := 5, head := 0, raw := [1, 2, 3], compress := true } : ClosedRec)] } }) true ({ stream := 3, frame := 0, seq := 5, head := 0, raw := [1, 2, 3], compress := true } : ClosedRec) [] 0 ∧
    (fun (s : State) (e : Fin 4) (_clocks : Nat) (_again : Bool) => ((nth {} s.w.streams.engines e).held ≠ none) ∧ ((nth {} s.w.streams.engines e).stalled = true)) (st { (wInsp) with streams := { wInsp.streams with engines := upd wInsp.streams.engines 2 (fun _ => ⟨some ({ stream := 3, frame := 0, seq := 5, head := 0, raw := [1, 2, 3], compress := true } : ClosedRec), true⟩) } }) 2 700 false ∧
    (fun (s : State) (e : Fin 4) (_room : Bool) (c : ClosedRec) => (nth {} s.w.streams.engines e = ⟨some c, false⟩) ∧ ((s.w.valueAtN (Obj.dest c.stream) c.frame = 1 && decide (s.w.getN (Obj.srSlotSize c.stream) < 64 + (gzipMember c.raw).1.length)) = false)) (st { (wInsp) with streams := { wInsp.streams with engines := upd wInsp.streams.engines 2 (fun _ => ⟨some ({ stream := 3, frame := 0, seq := 5, head := 0, raw := [1, 2, 3], compress := true } : ClosedRec), false⟩) } }) 2 true ({ stream := 3, frame := 0, seq := 5, head := 0, raw := [1, 2, 3], compress := true } : ClosedRec) ∧
    (fun (s : State) (path : Path) (e : Fin 4) (c : ClosedRec) => (s.w.ready path = true) ∧ ((nth {} s.w.streams.engines e).held = some c) ∧ (c.stream < 8)) (st { (wInsp) with streams := { wInsp.streams with engines := upd wInsp.streams.engines 2 (fun _ => ⟨some ({ stream := 3, frame := 0, seq := 5, head := 0, raw := [1, 2, 3], compress := true } : ClosedRec), false⟩) } }) .coe 2 ({ stream := 3, frame := 0, seq := 5, head := 0, raw := [1, 2, 3], compress := true } : ClosedRec) := by decide +kernel

set_option maxRecDepth 20000 in
/-- States and operands that meet the hypotheses of AxisCommandsActAtOnce. -/
theorem witness_AxisCommandsActAtOnce :
    (fun (s : State) (p : Path) (_a : Fin 16) => (s.w.ready p = true)) (st { wInsp with axes := upd wInsp.axes 3 (fun x => { x with enabled := true, running := true, v := 5000 * 65536, queue := [⟨1, 100000, 5000, 100, 100, false, some 100000⟩] }) }) .pcie 3 ∧
    (fun (s : State) (p : Path) (a : Fin 16) => (s.w.ready p = true) ∧ (s.w.mode.axesRun = true) ∧ (s.w.get (Obj.axState a) ≠ 5)) (st wInsp) .coe 3 ∧
    (fun (s : State) (p : Path) (a : Fin 16) => (s.w.ready p = true) ∧ (s.w.get (Obj.axState a) ≠ 5)) (st { wInsp with axes := upd wInsp.axes 3 (fun x => { x with enabled := true, running := true, v := 5000 * 65536, queue := [⟨1, 100000, 5000, 100, 100, false, some 100000⟩] }) }) .pcie 3 ∧
    (fun (s : State) (p : Path) (a : Fin 16) => (s.w.ready p = true) ∧ (s.w.get (Obj.axState a) = 5)) (st (wInsp.axSt 3 5)) .pcie 3 ∧
    (fun (s : State) (p : Path) (a : Fin 16) (m : Move) (rest : List Move) => (s.w.ready p = true) ∧ ((s.w.ax a).queue = m :: rest) ∧ ((s.w.ax a).running = true) ∧ (0 < brakeSteps (s.w.ax a).v m.decel)) (st { wInsp with axes := upd wInsp.axes 3 (fun x => { x with enabled := true, running := true, v := 5000 * 65536, queue := [⟨1, 100000, 5000, 100, 100, false, some 100000⟩] }) }) .pcie 3 ⟨1, 100000, 5000, 100, 100, false, some 100000⟩ [] ∧
    (fun (s : State) (p : Path) (a : Fin 16) => (s.w.ready p = true) ∧ ((s.w.ax a).queue ≠ []) ∧ ((s.w.ax a).running = true) ∧ (0 < brakeSteps (s.w.ax a).v (s.w.getN (Obj.qstopDecel a)))) (st { wInsp with axes := upd wInsp.axes 3 (fun x => { x with enabled := true, running := true, v := 50000 * 65536, queue := [⟨1, 100000, 5000, 100, 100, false, some 100000⟩] }) }) .pcie 3 ∧
    (fun (s : State) (p : Path) (_g : Fin 4) => (s.w.ready p = true)) (st { wInsp with axes := upd wInsp.axes 3 (fun x => { x with enabled := true, running := true, v := 5000 * 65536, queue := [⟨1, 100000, 5000, 100, 100, false, some 100000⟩] }) }) .pcie 0 ∧
    (fun (s : State) (p : Path) (_g : Fin 4) => (s.w.ready p = true)) (st { wInsp with axes := upd wInsp.axes 3 (fun x => { x with enabled := true, running := true, v := 50000 * 65536, queue := [⟨1, 100000, 5000, 100, 100, false, some 100000⟩] }) }) .pcie 0 := by decide +kernel

set_option maxRecDepth 20000 in
/-- States and operands that meet the hypotheses of MovesArePushedAndStarted. -/
theorem witness_MovesArePushedAndStarted :
    (fun (s : State) (p : Path) (a : Fin 16) => (s.w.ready p = true) ∧ (s.w.mode.axesRun = true) ∧ ((s.w.ax a).enabled = true) ∧ (s.w.get (Obj.axState a) ≠ 5) ∧ (32 ≤ (s.w.ax a).queue.length)) (st { wInsp with axes := upd wInsp.axes 3 (fun x => { x with enabled := true, queue := List.replicate 32 ⟨1, 100000, 5000, 100, 100, false, some 100000⟩ }) }) .pcie 3 ∧
    (fun (s : State) (p : Path) (a : Fin 16) (h : Move) (rest : List Move) => (s.w.ready p = true) ∧ (s.w.mode.axesRun = true) ∧ ((s.w.ax a).enabled = true) ∧ (s.w.get (Obj.axState a) ≠ 5) ∧ ((s.w.ax a).queue = h :: rest) ∧ (rest.length < 31) ∧ ((s.w.ax a).running = true) ∧ (h.kind ≠ 3) ∧ (s.w.getN (Obj.mvKind a) = 1 ∧ s.w.axHomed a = true ∧ s.w.beyondSoft a (s.w.get (Obj.mvTarget a)) = false)) (st { wInsp.set (Obj.homed 3) 1 with axes := upd wInsp.axes 3 (fun x => { x with enabled := true, running := true, v := 5000 * 65536, queue := [⟨1, 100000, 5000, 100, 100, false, some 100000⟩] }) }) .pcie 3 ⟨1, 100000, 5000, 100, 100, false, some 100000⟩ [] ∧
    (fun (s : State) (a : Fin 16) => (s.w.expired (.crWake a) (s.w.getN (Obj.crWake a) * 1000) = true) ∧ (s.w.startable a = true) ∧ (∀ m ∈ (s.w.ax a).queue, m.sync = false)) (st { wInsp with axes := upd wInsp.axes 3 (fun x => { x with enabled := true, cr := false, queue := [⟨1, 100000, 5000, 100, 100, false, some 100000⟩] }), timers := [(.crWake 3, 0)] }) 3 ∧
    (fun (s : State) (g : Fin 4) => (s.w.mode.axesRun = true) ∧ (s.w.syncAxes g ≠ []) ∧ (∀ a ∈ s.w.syncAxes g, s.w.startable a = true ∧ s.w.running (.crWake a) = false)) (st { wInsp with axes := upd wInsp.axes 3 (fun x => { x with enabled := true, cr := false, queue := [⟨1, 100000, 5000, 100, 100, true, some 100000⟩] }) }) 0 := by decide +kernel

set_option maxRecDepth 20000 in
/-- States and operands that meet the hypotheses of AxisEventsTakeEffect. -/
theorem witness_AxisEventsTakeEffect :
    (fun (s : State) (a : Fin 16) (d : Nat) (m : Move) (rest : List Move) => ((s.w.ax a).due = some d) ∧ (d ≤ s.w.clk.ctl) ∧ ((s.w.ax a).running = true) ∧ (s.w.mode.axesRun = true) ∧ ((s.w.ax a).queue = m :: rest) ∧ ((s.w.ax a).home ≠ 1) ∧ (m.kind = 4 ∨ s.w.beyondSoft a (s.w.axPos a + (s.w.ax a).dir) = false)) (st { wInsp with axes := upd wInsp.axes 3 (fun x => { x with enabled := true, running := true, due := some 5, v := 5000 * 65536, queue := [⟨1, 100000, 5000, 100, 100, false, some 100000⟩] }) }) 3 5 ⟨1, 100000, 5000, 100, 100, false, some 100000⟩ [] ∧
    (fun (s : State) (a : Fin 16) (d : Nat) (m : Move) (rest : List Move) => ((s.w.ax a).due = some d) ∧ (d ≤ s.w.clk.ctl) ∧ ((s.w.ax a).running = true) ∧ (s.w.mode.axesRun = true) ∧ ((s.w.ax a).queue = m :: rest) ∧ ((s.w.ax a).home ≠ 1) ∧ (m.kind ≠ 4) ∧ (s.w.beyondSoft a (s.w.axPos a + (s.w.ax a).dir) = true) ∧ (s.w.notTraverse a = true)) (st { (wInsp.set (Obj.homed 3) 1).set (Obj.softMax 3) 0 with axes := upd wInsp.axes 3 (fun x => { x with enabled := true, running := true, due := some 5, v := 5000 * 65536, queue := [⟨1, 100000, 5000, 100, 100, false, some 100000⟩] }) }) 3 5 ⟨1, 100000, 5000, 100, 100, false, some 100000⟩ [] ∧
    (fun (s : State) (a : Fin 16) => (s.w.get (Obj.stallSource a) = 0) ∧ (s.w.feedback a = false) ∧ ((s.w.ax a).enabled = true) ∧ (s.w.mode.axesRun = true) ∧ (s.w.getN (Obj.stallBlank a) < (s.w.ax a).since) ∧ ((s.w.ax a).home = 0) ∧ (s.w.notTraverse a = true)) (st { wInsp with axes := upd wInsp.axes 3 (fun x => { x with enabled := true, running := true, since := 100, v := 5000 * 65536, queue := [⟨1, 100000, 5000, 100, 100, false, some 100000⟩] }) }) 3 ∧
    (fun (s : State) (a : Fin 16) => (s.w.get (Obj.stallSource a) = 0) ∧ (s.w.feedback a = false) ∧ ((s.w.ax a).enabled = true) ∧ (s.w.mode.axesRun = true) ∧ (s.w.getN (Obj.stallBlank a) < (s.w.ax a).since) ∧ ((s.w.ax a).home = 1)) (st { wInsp with axes := upd wInsp.axes 3 (fun x => { x with enabled := true, running := true, since := 100, home := 1, v := 5000 * 65536, queue := [⟨4, 100000, 5000, 100, 100, false, some 100000⟩] }) }) 3 ∧
    (fun (s : State) (a : Fin 16) => (s.w.notTraverse a = true)) (st { wInsp with axes := upd wInsp.axes 3 (fun x => { x with enabled := true, running := true, v := 5000 * 65536, queue := [⟨1, 100000, 5000, 100, 100, false, some 100000⟩] }) }) 3 ∧
    (fun (s : State) (a : Fin 16) => ((s.w.ax a).home = 1) ∧ (s.w.getN (Obj.homeMaxTravel a) ≤ (s.w.ax a).travelled)) (st { wInsp with axes := upd wInsp.axes 3 (fun x => { x with enabled := true, running := true, travelled := 1000000, home := 1, v := 5000 * 65536, queue := [⟨4, 100000, 5000, 100, 100, false, some 100000⟩] }) }) 3 ∧
    (fun (s : State) (a : Fin 16) => (s.w.getN (Obj.standstillDelay a) ≠ 0) ∧ (s.w.expired (.standstill a) (s.w.getN (Obj.standstillDelay a) * 1000) = true) ∧ ((s.w.ax a).enabled = true) ∧ ((s.w.ax a).running = false) ∧ ((s.w.ax a).queue = [])) (st { wInsp with timers := [(.standstill 3, 0)], axes := upd wInsp.axes 3 (fun x => { x with enabled := true }) }) 3 := by decide +kernel

set_option maxRecDepth 20000 in
/-- States and operands that meet the hypotheses of MarkersQueueAndFire. -/
theorem witness_MarkersQueueAndFire :
    (fun (s : State) (p : Path) (k : Fin 16) (v : Int) => (s.w.ready p = true) ∧ (s.w.mode.inspecting = true) ∧ (0 ≤ v) ∧ (v < 2 ^ 64) ∧ (s.w.markRoom k = true)) (st { wInsp with axis := { wInsp.axis with started := true }, markers := upd wInsp.markers 2 (fun m => { m with queue := [⟨500, 7⟩], active := false }) }) .pcie 2 400 ∧
    (fun (s : State) (p : Path) (k : Fin 16) (v : Int) => (s.w.ready p = true) ∧ (s.w.mode.inspecting = true) ∧ (0 ≤ v) ∧ (v < 2 ^ 64) ∧ (s.w.markRoom k = false)) (st { wInsp with axis := { wInsp.axis with started := true }, markers := upd wInsp.markers 2 (fun m => { m with queue := List.replicate 64 ⟨500, 7⟩, active := false }) }) .pcie 2 400 ∧
    (fun (s : State) (p : Path) (_k : Fin 16) => (s.w.ready p = true)) (st { wInsp with axis := { wInsp.axis with started := true }, markers := upd wInsp.markers 2 (fun m => { m with queue := [⟨500, 7⟩], active := false }) }) .pcie 2 ∧
    (fun (s : State) (k : Fin 16) (last : Compare) => (s.w.mode.marksFire = true) ∧ ((s.w.compareHit k).getLast? = some last)) (st { wInsp with axis := { wInsp.axis with started := true }, markers := upd wInsp.markers 2 (fun m => { m with queue := [⟨-5, 7⟩, ⟨0, 8⟩, ⟨9, 9⟩], active := false }) }) 2 ⟨0, 8⟩ ∧
    (fun (s : State) (k : Fin 16) => ((s.w.marker k).active = true) ∧ (s.w.get (Obj.pulseMode k) = 0) ∧ ((s.w.marker k).since + nsClocks (s.w.getN (Obj.pulseTime k)) ≤ s.w.clk.ctl)) (st { wInsp with axis := { wInsp.axis with started := true }, markers := upd wInsp.markers 2 (fun m => { m with queue := [], active := true }) }) 2 ∧
    (fun (s : State) (k : Fin 16) => ((s.w.marker k).active = true) ∧ (s.w.get (Obj.pulseMode k) = 1) ∧ ((s.w.marker k).target + s.w.get (Obj.pulseLen k) ≤ s.w.posAt s.w.clk.ctl)) (st { wInsp.set (Obj.pulseMode 2) 1 with axis := { wInsp.axis with started := true }, markers := upd wInsp.markers 2 (fun m => { m with queue := [], active := true, target := -1000 }) }) 2 := by decide +kernel

set_option maxRecDepth 20000 in
/-- States and operands that meet the hypotheses of PackageMemoryRefreshesAndSleeps. -/
theorem witness_PackageMemoryRefreshesAndSleeps :
    (fun (s : State) (n : Fin 64) (_pending : Bool) => (s.w.hbmRuns = true) ∧ (s.w.pcSt n ≠ 2) ∧ (s.w.pcSt n ≠ 4)) (st { (wInsp) with hbm := { wInsp.hbm with trained := true } }) 33 true ∧
    (fun (s : State) (_t0 _t1 : Fin 256) => (s.w.hbmRuns = true) ∧ (s.w.running .tempRead = true → s.w.expired .tempRead 32000 = true)) (st { (wInsp) with hbm := { wInsp.hbm with trained := true } }) 85 82 ∧
    (fun (s : State) (r : Fin 8) (n : Fin 64) (a : Fin 805306368) (count k c : Nat) => (s.w.hbmRuns = true) ∧ (k = (r.val * 64 + n.val) * 64 + (hbmDecode s.w.hbm.banks a).sid * 16 + (hbmDecode s.w.hbm.banks a).bank) ∧ (c = (alGet (s.w.windowRoll (n / 32)).hbm.acts k).getD 0 + count)) (st { (wInsp) with hbm := { wInsp.hbm with trained := true } }) 3 33 1000000 70000 (14400 + 0 * 16 + (hbmDecode wInsp.hbm.banks 1000000).bank) 70000 ∧
    (fun (s : State) (n : Fin 64) => (s.w.hbmRuns = true) ∧ (s.w.getN Obj.pdDelay ≠ 0) ∧ (s.w.pcSt n = 0) ∧ (nth 0 s.w.hbm.lastUse n + nsClocks (s.w.getN Obj.pdDelay) ≤ s.w.clk.ctl)) (st { (wInsp) with hbm := { wInsp.hbm with trained := true } }) 33 ∧
    (fun (s : State) (k : Fin 2) => (s.w.hbmRuns = true) ∧ (s.w.mode = .ready) ∧ (s.w.getN Obj.idleState ≠ 0) ∧ (s.w.running .idleWake = false) ∧ ((stackPcs k).all (fun n => s.w.pcSt n = 1 || s.w.pcSt n = 4) = true) ∧ ((stackPcs k).all (fun n => decide (nth 0 s.w.hbm.lastUse n + nsClocks (s.w.getN Obj.srDelay * 1000000) ≤ s.w.clk.ctl)) = true) ∧ (s.w.expired .idle (s.w.getN Obj.srDelay * 1000000) = true)) (st { ((stackPcs 1).foldl (fun (w : Work) n => w.set (Obj.pcState n) 1) (wInsp.set Obj.idleState 1)) with hbm := { wInsp.hbm with trained := true }, mode := .ready, timers := [(.idle, 0)], clk := { ctl := 10 ^ 15, tb := 10 ^ 15 } }) 1 ∧
    (fun (s : State) (k : Fin 2) => (s.w.hbmRuns = true) ∧ (s.w.asleep k = true)) (st { (wInsp.set (Obj.pcState 40) 2) with hbm := { wInsp.hbm with trained := true } }) 1 ∧
    (fun (s : State) => (∃ e ∈ s.w.hbm.lossDue, e.1 ≤ s.w.frame)) (st { (wInsp) with hbm := { wInsp.hbm with trained := true, lossDue := [(0, 7)] } }) := by decide +kernel

set_option maxRecDepth 20000 in
/-- States and operands that meet the hypotheses of PseudoChannelsRetrainAndErr. -/
theorem witness_PseudoChannelsRetrainAndErr :
    (fun (s : State) (n : Fin 64) (_corrected : Nat) (_target : HbmTarget) => (s.w.hbmRuns = true) ∧ (s.w.pcSt n ≠ 2) ∧ (s.w.pcSt n ≠ 4)) (st { (wInsp) with hbm := { wInsp.hbm with trained := true } }) 33 5 .other ∧
    (fun (s : State) (n : Fin 64) => (s.w.hbmRuns = true) ∧ (s.w.hbm.retraining = none) ∧ (s.w.expired .retrain (s.w.getN Obj.retrainPeriod * 1000000) = true) ∧ (((upTo 64).map (fun i => (s.w.hbm.nextPc + i) % 64)).find? (fun n => s.w.pcSt n ≠ 4) = some n.val) ∧ (s.w.asleep (n / 32) = false)) (st { (wInsp) with hbm := { wInsp.hbm with trained := true, nextPc := 63 }, timers := [(.retrain, 0)], clk := { ctl := 10 ^ 15, tb := 10 ^ 15 } }) 63 ∧
    (fun (s : State) (path : Path) (_n : Fin 64) => (s.w.ready path = true) ∧ (s.w.hbmRuns = true)) (st { (wInsp) with hbm := { wInsp.hbm with trained := true } }) .coe 33 ∧
    (fun (s : State) (_passes : Bool) (n : Fin 64) (cmd : Bool) => (s.w.hbm.retraining = some (n.val, cmd))) (st { (wInsp) with hbm := { wInsp.hbm with trained := true, retraining := some (33, true) } }) true 33 true := by decide +kernel

set_option maxRecDepth 20000 in
/-- States and operands that meet the hypotheses of ScratchpadsTestAndQueuesPass. -/
theorem witness_ScratchpadsTestAndQueuesPass :
    (fun (s : State) (c : Fin 64) (_bad : Fin 65) (_corr : Nat) => (s.w.get Obj.testEnable = 1) ∧ (s.w.spServes c = true) ∧ (s.w.mode.dictOpen = true) ∧ (s.w.mode ≠ .train) ∧ (s.w.mode ≠ .safe) ∧ ((s.w.scr c).lastAt + nsClocks (s.w.getN Obj.testRowInterval * 1000) ≤ s.w.clk.ctl)) (st { (wInsp) with clk := { ctl := 10 ^ 15, tb := 10 ^ 15 } }) 9 0 2 ∧
    (fun (s : State) (c : Fin 64) => (s.w.mode.dictOpen = true) ∧ (s.w.mode ≠ .safe) ∧ (s.w.get (Obj.spState c) ≠ 2) ∧ (s.w.get (Obj.spState c) ≠ 3)) (st { (wInsp) with clk := { ctl := 10 ^ 15, tb := 10 ^ 15 } }) 9 ∧
    (fun (s : State) (path : Path) (c : Fin 64) => (s.w.ready path = true) ∧ (s.w.get (Obj.clState c) = 2 ∨ s.w.get (Obj.clState c) = 3 ∨ s.w.get (Obj.clState c) = 4)) (st { ((wInsp.set (Obj.clState 9) 3).set (Obj.spState 9) 4) with clk := { ctl := 10 ^ 15, tb := 10 ^ 15 } }) .coe 9 ∧
    (fun (s : State) (path : Path) (c : Fin 64) => (s.w.ready path = true) ∧ (s.w.get (Obj.clState c) = 2 ∨ s.w.get (Obj.clState c) = 3 ∨ s.w.get (Obj.clState c) = 4)) (st { ((wInsp.set (Obj.clState 9) 3).set (Obj.spState 9) 4) with clk := { ctl := 10 ^ 15, tb := 10 ^ 15 } }) .coe 9 ∧
    (fun (s : State) (path : Path) (c : Fin 64) => (s.w.ready path = true) ∧ (s.w.get (Obj.clState c) = 2 ∨ s.w.get (Obj.clState c) = 3 ∨ s.w.get (Obj.clState c) = 4)) (st { ((wInsp.set (Obj.clState 9) 3).set (Obj.spState 9) 2) with clk := { ctl := 10 ^ 15, tb := 10 ^ 15 } }) .coe 9 ∧
    (fun (s : State) (c : Fin 64) => (s.w.get (Obj.spState c) = 1) ∧ ((s.w.scr c).fullAt + nsClocks ((s.w.testRows c).length * 880) ≤ s.w.clk.ctl)) (st { (wInsp.set (Obj.spState 9) 1) with clk := { ctl := 10 ^ 15, tb := 10 ^ 15 } }) 9 ∧
    (fun (s : State) (c : Fin 64) (_fails : List (Fin 528 × Nat)) => (s.w.get (Obj.spState c) = 1) ∧ ((s.w.scr c).fullAt + nsClocks ((s.w.testRows c).length * 880) ≤ s.w.clk.ctl)) (st { (wInsp.set (Obj.spState 9) 1) with clk := { ctl := 10 ^ 15, tb := 10 ^ 15 } }) 9 [(3, 1), (517, 2)] ∧
    (fun (s : State) (q : Fin 173) (item : List Word64) (_waited : Nat) => (s.w.mode.dictOpen = true) ∧ (item.length = itemWords q) ∧ ((s.w.cqueue q).words.length + item.length ≤ queueDepth q)) (st wInsp) 5 [1, 2, 3] 9 ∧
    (fun (s : State) (q : Fin 173) (_corr : Nat) => (s.w.mode.dictOpen = true) ∧ ((s.w.cqueue q).words ≠ [])) (st { (wInsp) with clk := { ctl := 10 ^ 15, tb := 10 ^ 15 }, queues := upd wInsp.queues 5 (fun x => { x with words := List.replicate 3 7 }) }) 5 1 ∧
    (fun (s : State) (q : Fin 173) (_corr : Nat) (_bad : List (Fin 40)) => (s.w.mode.dictOpen = true) ∧ ((s.w.cqueue q).words = [])) (st wInsp) 5 1 [3] ∧
    (fun (s : State) (q : Fin 173) (_corr : Nat) (bad : List (Fin 40)) => (s.w.mode.dictOpen = true) ∧ (∃ i ∈ bad, i.val < (s.w.cqueue q).words.length ∧ i.val < itemWords q)) (st { (wInsp) with clk := { ctl := 10 ^ 15, tb := 10 ^ 15 }, queues := upd wInsp.queues 5 (fun x => { x with words := List.replicate 3 7 }) }) 5 1 [2, 2, 7] := by decide +kernel

set_option maxRecDepth 20000 in
/-- States and operands that meet the hypotheses of DmaChannelsAreCommanded. -/
theorem witness_DmaChannelsAreCommanded :
    (fun (s : State) (path : Path) (c : Fin 32) (b : Bytes) => (s.w.ready path = true) ∧ (s.w.chStateOf c ≠ 1) ∧ (s.w.chStateOf c ≠ 2) ∧ ((upTo (b.length / 16)).all (fun i => instrGood i (instrAt b i)) = true) ∧ (16 ≤ b.length) ∧ (b.length ≤ 1024) ∧ (b.length % 16 = 0)) (st wInsp) .coe 9 (List.replicate 32 0) ∧
    (fun (s : State) (path : Path) (_c : Fin 32) => (s.w.ready path = true)) (st { (wInsp.set (Obj.chState 9) 5) with clk := { ctl := 10 ^ 15, tb := 10 ^ 15 }, dma := { wInsp.dma with chans := upd wInsp.dma.chans 9 (fun x => { x with posted := 5 }) } }) .coe 9 ∧
    (fun (s : State) (path : Path) (_c : Fin 32) => (s.w.ready path = true)) (st { (wInsp.set (Obj.chState 9) 2) with clk := { ctl := 10 ^ 15, tb := 10 ^ 15 }, dma := { wInsp.dma with chans := upd wInsp.dma.chans 9 (fun x => { x with posted := 5 }) } }) .coe 9 ∧
    (fun (s : State) (path : Path) (_c : Fin 32) => (s.w.ready path = true)) (st { (wInsp.set (Obj.chState 9) 4) with clk := { ctl := 10 ^ 15, tb := 10 ^ 15 }, dma := { wInsp.dma with chans := upd wInsp.dma.chans 9 (fun x => { x with posted := 5 }) } }) .coe 9 ∧
    (fun (s : State) (c : Fin 32) => ((s.w.chan c).stopping = true)) (st { (wInsp) with clk := { ctl := 10 ^ 15, tb := 10 ^ 15 }, dma := { wInsp.dma with chans := upd wInsp.dma.chans 9 (fun x => { x with stopping := true, posted := 9 }) } }) 9 ∧
    (fun (s : State) (c : Fin 32) (x : Nat) => (s.w.chStateOf c = 2) ∧ (x = instrAt (s.w.blob (Obj.chProgram c)) (s.w.getN (Obj.chPc c))) ∧ (bitsOf x 0 32 ≠ 0) ∧ (s.w.expired (.dmaWait c) (bitsOf x 0 32 * 1000) = true)) (st { (wInsp.set (Obj.chState 9) 2) with clk := { ctl := 10 ^ 15, tb := 10 ^ 15 }, dma := { wInsp.dma with chans := upd wInsp.dma.chans 9 (fun x => { x with posted := 5 }) }, d := { (wInsp.set (Obj.chState 9) 2).d with blobs := [(Obj.chProgram 9, (leBytes 16 (packBits [(124, 4, 3), (0, 32, 7)])))] }, timers := [(.dmaWait 9, 0)] }) 9 (packBits [(124, 4, 3), (0, 32, 7)]) := by decide +kernel

set_option maxRecDepth 20000 in
/-- States and operands that meet the hypotheses of DmaProgramsRun. -/
theorem witness_DmaProgramsRun :
    (fun (s : State) (c : Fin 32) (_data : Bytes) (_corr x : Nat) => (s.w.chAt c 1 = some x) ∧ ((s.w.chan c).inMove = true) ∧ ((s.w.chan c).hold = []) ∧ (bitsOf x 121 3 = bitsOf x 118 3) ∧ (bitOf x 117 = false) ∧ (bitOf x 116 = false) ∧ (s.w.getN (Obj.chSrc c) % 128 = s.w.getN (Obj.chDst c) % 128) ∧ (s.w.burstBytes c x ≠ 0) ∧ (dmaRegion (s.w.getN (Obj.chSrc c)) ≠ .none) ∧ (dmaRegion (s.w.getN (Obj.chSrc c) + s.w.burstBytes c x - 1) = dmaRegion (s.w.getN (Obj.chSrc c))) ∧ (dmaRegion (s.w.getN (Obj.chDst c)) = .host ∨ dmaRegion (s.w.getN (Obj.chDst c)) = .sram) ∧ (dmaRegion (s.w.getN (Obj.chDst c) + s.w.burstBytes c x - 1) = dmaRegion (s.w.getN (Obj.chDst c)))) (st { (((wInsp.set (Obj.chState 9) 1).setMany [(Obj.chRemain 9, 64), (Obj.chSrc 9, 4096), (Obj.chDst 9, 2 ^ 63)])) with clk := { ctl := 10 ^ 15, tb := 10 ^ 15 }, dma := { wInsp.dma with chans := upd wInsp.dma.chans 9 (fun x => { x with inMove := true }) }, d := { ((wInsp.set (Obj.chState 9) 1).setMany [(Obj.chRemain 9, 64), (Obj.chSrc 9, 4096), (Obj.chDst 9, 2 ^ 63)]).d with blobs := [(Obj.chProgram 9, (leBytes 16 (packBits [(124, 4, 1), (121, 3, 3), (118, 3, 3), (0, 32, 64)])))] } }) 9 (List.replicate 64 7) 0 (packBits [(124, 4, 1), (121, 3, 3), (118, 3, 3), (0, 32, 64)]) ∧
    (fun (s : State) (c : Fin 32) (x : Nat) => (s.w.chAt c 2 = some x)) (st { ((wInsp.set (Obj.chState 9) 1)) with clk := { ctl := 10 ^ 15, tb := 10 ^ 15 }, dma := { wInsp.dma with chans := upd wInsp.dma.chans 9 (fun x => { x with posted := 5 }) }, d := { (wInsp.set (Obj.chState 9) 1).d with blobs := [(Obj.chProgram 9, (leBytes 16 (packBits [(124, 4, 2), (123, 1, 1), (0, 32, 3)])))] } }) 9 (packBits [(124, 4, 2), (123, 1, 1), (0, 32, 3)]) ∧
    (fun (s : State) (c : Fin 32) (x : Nat) => (s.w.chAt c 3 = some x)) (st { ((wInsp.set (Obj.chState 9) 1)) with clk := { ctl := 10 ^ 15, tb := 10 ^ 15 }, dma := { wInsp.dma with chans := upd wInsp.dma.chans 9 (fun x => { x with posted := 5 }) }, d := { (wInsp.set (Obj.chState 9) 1).d with blobs := [(Obj.chProgram 9, (leBytes 16 (packBits [(124, 4, 3), (0, 32, 3)])))] } }) 9 (packBits [(124, 4, 3), (0, 32, 3)]) ∧
    (fun (s : State) (c : Fin 32) (x : Nat) => (s.w.chAt c 4 = some x)) (st { ((wInsp.set (Obj.chState 9) 1)) with clk := { ctl := 10 ^ 15, tb := 10 ^ 15 }, dma := { wInsp.dma with chans := upd wInsp.dma.chans 9 (fun x => { x with posted := 5 }) }, d := { (wInsp.set (Obj.chState 9) 1).d with blobs := [(Obj.chProgram 9, (leBytes 16 (packBits [(124, 4, 4), (0, 17, 65537)])))] } }) 9 (packBits [(124, 4, 4), (0, 17, 65537)]) ∧
    (fun (s : State) (c : Fin 32) (x : Nat) => (s.w.chAt c 0 = some x)) (st { ((wInsp.set (Obj.chState 9) 1)) with clk := { ctl := 10 ^ 15, tb := 10 ^ 15 }, dma := { wInsp.dma with chans := upd wInsp.dma.chans 9 (fun x => { x with posted := 5 }) }, d := { (wInsp.set (Obj.chState 9) 1).d with blobs := [(Obj.chProgram 9, (leBytes 16 (packBits [(124, 4, 0)])))] } }) 9 0 ∧
    (fun (s : State) (c : Fin 32) (x : Nat) => (s.w.chAt c 5 = some x)) (st { ((wInsp.set (Obj.chState 9) 1)) with clk := { ctl := 10 ^ 15, tb := 10 ^ 15 }, dma := { wInsp.dma with chans := upd wInsp.dma.chans 9 (fun x => { x with posted := 5 }) }, d := { (wInsp.set (Obj.chState 9) 1).d with blobs := [(Obj.chProgram 9, (leBytes 16 (packBits [(124, 4, 5), (0, 64, 4096)])))] } }) 9 (packBits [(124, 4, 5), (0, 64, 4096)]) ∧
    (fun (s : State) (c : Fin 32) (beat x : Nat) => (s.w.chAt c 1 = some x) ∧ ((s.w.chan c).inMove = true) ∧ (beat * 2 ^ bitsOf x 121 3 < s.w.burstBytes c x) ∧ (dmaRegion (s.w.getN (Obj.chSrc c)) ≠ .none)) (st { (((wInsp.set (Obj.chState 9) 1).setMany [(Obj.chRemain 9, 64), (Obj.chSrc 9, 4096), (Obj.chDst 9, 2 ^ 63)])) with clk := { ctl := 10 ^ 15, tb := 10 ^ 15 }, dma := { wInsp.dma with chans := upd wInsp.dma.chans 9 (fun x => { x with inMove := true }) }, d := { ((wInsp.set (Obj.chState 9) 1).setMany [(Obj.chRemain 9, 64), (Obj.chSrc 9, 4096), (Obj.chDst 9, 2 ^ 63)]).d with blobs := [(Obj.chProgram 9, (leBytes 16 (packBits [(124, 4, 1), (121, 3, 3), (118, 3, 3), (0, 32, 64)])))] } }) 9 3 (packBits [(124, 4, 1), (121, 3, 3), (118, 3, 3), (0, 32, 64)]) ∧
    (fun (s : State) (c : Fin 32) (_beat x : Nat) => (s.w.chAt c 1 = some x) ∧ ((s.w.chan c).inMove = true) ∧ (dmaRegion (s.w.getN (Obj.chDst c)) = .sram)) (st { (((wInsp.set (Obj.chState 9) 1).setMany [(Obj.chRemain 9, 64), (Obj.chSrc 9, 4096), (Obj.chDst 9, 2 ^ 63)])) with clk := { ctl := 10 ^ 15, tb := 10 ^ 15 }, dma := { wInsp.dma with chans := upd wInsp.dma.chans 9 (fun x => { x with inMove := true }) }, d := { ((wInsp.set (Obj.chState 9) 1).setMany [(Obj.chRemain 9, 64), (Obj.chSrc 9, 4096), (Obj.chDst 9, 2 ^ 63)]).d with blobs := [(Obj.chProgram 9, (leBytes 16 (packBits [(124, 4, 1), (121, 3, 3), (118, 3, 3), (0, 32, 64)])))] } }) 9 3 (packBits [(124, 4, 1), (121, 3, 3), (118, 3, 3), (0, 32, 64)]) := by decide +kernel

set_option maxRecDepth 20000 in
/-- States and operands that meet the hypotheses of EventsAreRoutedAndMerged. -/
theorem witness_EventsAreRoutedAndMerged :
    (fun (s : State) (_n : Fin 64) (e : Nat) => (∃ r ∈ s.w.router.raised, r.due = e) ∧ (∀ r ∈ s.w.router.raised, e ≤ r.due) ∧ (e ≤ s.w.clk.ctl / 2)) (st { ((wInsp.set (Obj.route 0 3) (2147483648 + 350 + 65536 * 240)).set (Obj.route 0 4) (2147483648 + 351 + 65536 * 240)) with clk := { ctl := 10 ^ 15, tb := 10 ^ 15 }, router := { wInsp.router with raised := [⟨350, 2, 40⟩, ⟨351, 0, 50⟩, ⟨351, 0, 40⟩] } }) 7 40 ∧
    (fun (s : State) (i : Fin 16) (high : Bool) => (s.w.router.evtIn.contains i.val ≠ high)) (st wInsp) 5 true ∧
    (fun (s : State) (path : Path) (_v : BitVec 16) => (s.w.ready path = true)) (st wInsp) .coe 0x8005 ∧
    (fun (s : State) (n : Fin 16) (r : RelayRun) => (alGet s.w.router.relays n = some r) ∧ (s.w.expired (.relay n) (5 * s.w.getN (Obj.relayDelay n)) = true)) (st { (wInsp) with clk := { ctl := 10 ^ 15, tb := 10 ^ 15 }, router := { wInsp.router with relays := [(5, ⟨7, [3, 4]⟩)] }, timers := [(.relay 5, 0)] }) 5 ⟨7, [3, 4]⟩ ∧
    (fun (s : State) (i : Fin 16) => (s.w.expired (.evtPulse i) (5 * s.w.getN (Obj.evtPulse i)) = true)) (st { (wInsp) with clk := { ctl := 10 ^ 15, tb := 10 ^ 15 }, router := { wInsp.router with pulses := [5, 6] }, timers := [(.evtPulse 5, 0)] }) 5 := by decide +kernel

set_option maxRecDepth 20000 in
/-- States and operands that meet the hypotheses of SessionsOpenCarryAndEnd. -/
theorem witness_SessionsOpenCarryAndEnd :
    (fun (s : State) => (s.w.mode.dictOpen = true) ∧ (s.w.running .hello = true → s.w.expired .hello 100000000 = true)) (st { ((wInsp.set (Obj.ethLink 2) 2)) with clk := { ctl := 10 ^ 15, tb := 10 ^ 15 }, sys := { wInsp.sys with sessions := [({ peer := 5, number := 77, lastRx := 0 } : Session)] }, d := { ((wInsp.set (Obj.ethLink 2) 2)).d with conf := [(Obj.ylPorts, 15)] } }) ∧
    (fun (s : State) (port : Fin 4) (_mac : BitVec 48) (a : Fin 1024) (_serial : BitVec 32) (_mode : Fin 12) (_group _pair : BitVec 16) => (s.w.mode.dictOpen = true) ∧ (bitOf (s.w.confN Obj.ylPorts) port = true) ∧ (s.w.ethUp port = true) ∧ (a.val ≠ s.w.ylAddress) ∧ (a.val ∉ s.w.sys.shut) ∧ (s.w.session a = none)) (st { ((wInsp.set (Obj.ethLink 2) 2)) with clk := { ctl := 10 ^ 15, tb := 10 ^ 15 }, sys := { wInsp.sys with sessions := [({ peer := 5, number := 77, lastRx := 0 } : Session)] }, d := { ((wInsp.set (Obj.ethLink 2) 2)).d with conf := [(Obj.ylPorts, 15)] } }) 2 0 7 3 5 0 0 ∧
    (fun (s : State) (port : Fin 4) (_mac : BitVec 48) (a : Fin 1024) (_serial : BitVec 32) (_mode : Fin 12) (_group _pair : BitVec 16) => (s.w.mode.dictOpen = true) ∧ (bitOf (s.w.confN Obj.ylPorts) port = true) ∧ (s.w.ethUp port = true) ∧ (a.val = s.w.ylAddress)) (st { ((wInsp.set (Obj.ethLink 2) 2)) with clk := { ctl := 10 ^ 15, tb := 10 ^ 15 }, sys := { wInsp.sys with sessions := [({ peer := 5, number := 77, lastRx := 0 } : Session)] }, d := { ((wInsp.set (Obj.ethLink 2) 2)).d with conf := [(Obj.ylPorts, 15)] } }) 2 0 0 3 5 0 0 ∧
    (fun (s : State) (a : Fin 1024) (_number : BitVec 16) => (s.w.mode.dictOpen = true) ∧ (s.w.addrOk a = true) ∧ (s.w.session a = none)) (st { (wInsp) with clk := { ctl := 10 ^ 15, tb := 10 ^ 15 }, sys := { wInsp.sys with sessions := [({ peer := 5, number := 77, lastRx := 0 } : Session)] } }) 7 99 ∧
    (fun (s : State) (a : Fin 1024) => (s.w.session a ≠ none) ∧ (s.w.sys.pair.proposals = [])) (st { (wInsp) with clk := { ctl := 10 ^ 15, tb := 10 ^ 15 }, sys := { wInsp.sys with sessions := [({ peer := 5, number := 77, lastRx := 0 } : Session)] } }) 5 ∧
    (fun (s : State) (a : Fin 1024) (z : Session) => (s.w.session a = some z) ∧ (z.lastRx + nsClocks s.w.sessionNs ≤ s.w.clk.ctl) ∧ (s.w.sys.pair.proposals = [])) (st { (wInsp) with clk := { ctl := 10 ^ 15, tb := 10 ^ 15 }, sys := { wInsp.sys with sessions := [({ peer := 5, number := 77, lastRx := 0 } : Session)] } }) 5 ({ peer := 5, number := 77, lastRx := 0 } : Session) ∧
    (fun (s : State) (a : Fin 1024) (c : Fin 16) (n : BitVec 32) (z : Session) (m : YWait) => (s.w.session a = some z) ∧ (z.waits.find? (fun m => m.msg.cls == c.val && m.msg.seq == n.toNat) = some m) ∧ (c ≠ 7)) (st { (wInsp) with clk := { ctl := 10 ^ 15, tb := 10 ^ 15 }, sys := { wInsp.sys with sessions := [({ peer := 5, number := 77, lastRx := 0, waits := [({ msg := ({ cls := 4, typ := 1, seq := 9, fields := [], data := [] } : YMsg), tries := 0, sentAt := 0 } : YWait)] } : Session)] } }) 5 4 9 ({ peer := 5, number := 77, lastRx := 0, waits := [({ msg := ({ cls := 4, typ := 1, seq := 9, fields := [], data := [] } : YMsg), tries := 0, sentAt := 0 } : YWait)] } : Session) ({ msg := ({ cls := 4, typ := 1, seq := 9, fields := [], data := [] } : YMsg), tries := 0, sentAt := 0 } : YWait) ∧
    (fun (s : State) (a : Fin 1024) (c : Fin 16) (n : BitVec 32) (z : Session) (m : YWait) => (s.w.session a = some z) ∧ (z.waits.find? (fun m => m.msg.cls == c.val && m.msg.seq == n.toNat) = some m) ∧ (m.sentAt + nsClocks (s.w.getN Obj.ylRetry * 1000) ≤ s.w.clk.ctl) ∧ (m.tries < s.w.getN Obj.ylRetries)) (st { (wInsp) with clk := { ctl := 10 ^ 15, tb := 10 ^ 15 }, sys := { wInsp.sys with sessions := [({ peer := 5, number := 77, lastRx := 0, waits := [({ msg := ({ cls := 4, typ := 1, seq := 9, fields := [], data := [] } : YMsg), tries := 0, sentAt := 0 } : YWait)] } : Session)] } }) 5 4 9 ({ peer := 5, number := 77, lastRx := 0, waits := [({ msg := ({ cls := 4, typ := 1, seq := 9, fields := [], data := [] } : YMsg), tries := 0, sentAt := 0 } : YWait)] } : Session) ({ msg := ({ cls := 4, typ := 1, seq := 9, fields := [], data := [] } : YMsg), tries := 0, sentAt := 0 } : YWait) ∧
    (fun (s : State) (port : Fin 4) (_ok : Bool) (_h : BitVec 128) (_b : Bytes) => (s.w.mode.dictOpen = true) ∧ (bitOf (s.w.confN Obj.ylPorts) port = true) ∧ (s.w.ethUp port = true)) (st { ((wInsp.set (Obj.ethLink 2) 2)) with clk := { ctl := 10 ^ 15, tb := 10 ^ 15 }, sys := { wInsp.sys with sessions := [({ peer := 5, number := 77, lastRx := 0 } : Session)] }, d := { ((wInsp.set (Obj.ethLink 2) 2)).d with conf := [(Obj.ylPorts, 15)] } }) 2 false 0 [] ∧
    (fun (s : State) (a : Fin 1024) (c : Fin 16) (n : BitVec 32) => (∃ f ∈ s.w.sys.frags, f.peer = a.val ∧ f.cls = c.val ∧ f.seq = n.toNat ∧ f.whole = false ∧ f.since + nsClocks 1000000 ≤ s.w.clk.ctl)) (st { (wInsp) with clk := { ctl := 10 ^ 15, tb := 10 ^ 15 }, sys := { wInsp.sys with sessions := [({ peer := 5, number := 77, lastRx := 0 } : Session)], frags := [⟨5, 4, 9, [], none, 0, false⟩] } }) 5 4 9 ∧
    (fun (s : State) (port : Fin 4) (_role : PtpRole) (_off : Int) => (s.w.mode.dictOpen = true) ∧ (s.w.conf Obj.ptpEnable = 1) ∧ (bitOf (s.w.confN Obj.ptpPorts) port = true) ∧ (s.w.ethUp port = true)) (st { ((wInsp.set (Obj.ethLink 2) 2)) with clk := { ctl := 10 ^ 15, tb := 10 ^ 15 }, sys := { wInsp.sys with sessions := [({ peer := 5, number := 77, lastRx := 0 } : Session)] }, d := { ((wInsp.set (Obj.ethLink 2) 2)).d with conf := [(Obj.ptpEnable, 1), (Obj.ptpPorts, 4)] } }) 2 .slave 70 := by decide +kernel

set_option maxRecDepth 20000 in
/-- States and operands that meet the hypotheses of PeersManageTheModule. -/
theorem witness_PeersManageTheModule :
    (fun (s : State) (a : Fin 1024) (_tag : BitVec 56) (i : BitVec 16) (x : BitVec 8) (z : Session) (r : ObjRow) => (s.w.session a = some z) ∧ (s.w.mode.dictOpen = true) ∧ (z.requests < 16) ∧ (s.w.sys.pair.proposals = []) ∧ (findRow i.toNat x.toNat = some r) ∧ (r.access ≠ .wo) ∧ (r.typ.isBlob = false) ∧ ((atKey formedNums (objKey i.toNat x.toNat)).isNone = true)) (st { (wInsp) with clk := { ctl := 10 ^ 15, tb := 10 ^ 15 }, sys := { wInsp.sys with sessions := [({ peer := 5, number := 77, lastRx := 0 } : Session)] } }) 5 1 0x8423 4 ({ peer := 5, number := 77, lastRx := 0 } : Session) (⟨0x8420, 0x1, 16, 4, 4, "MV_ACCEL", .u32, .rw, .imm, .const 1000000, .nums [(1, 4294967295)] 1 false false⟩ : ObjRow) ∧
    (fun (s : State) (a : Fin 1024) (_tag : BitVec 56) (i : BitVec 16) (x : BitVec 8) (b : Bytes) (z : Session) (v : Int) (r : ObjRow) => (s.w.session a = some z) ∧ (z.requests < 16) ∧ (s.w.mgmtMay a = true) ∧ (s.w.ready (.yalind a) = true) ∧ (plainNum (.yalind a) (objKey i.toNat x.toNat) v r = true) ∧ (r.effect = .imm) ∧ (b.length = r.typ.size) ∧ (r.typ.decode b = v)) (st { (wInsp.set Obj.mgmtAny 1) with clk := { ctl := 10 ^ 15, tb := 10 ^ 15 }, sys := { wInsp.sys with sessions := [({ peer := 5, number := 77, lastRx := 0 } : Session)] } }) 5 1 0x8423 4 [9, 3, 0, 0] ({ peer := 5, number := 77, lastRx := 0 } : Session) 777 (⟨0x8420, 0x1, 16, 4, 4, "MV_ACCEL", .u32, .rw, .imm, .const 1000000, .nums [(1, 4294967295)] 1 false false⟩ : ObjRow) ∧
    (fun (s : State) (a : Fin 1024) (_tag : BitVec 56) (_i : BitVec 16) (_x : BitVec 8) (_b : Bytes) (z : Session) => (s.w.session a = some z) ∧ (s.w.mode.dictOpen = true) ∧ (z.requests < 16) ∧ (s.w.mgmtMay a = false)) (st { (wInsp) with clk := { ctl := 10 ^ 15, tb := 10 ^ 15 }, sys := { wInsp.sys with sessions := [({ peer := 5, number := 77, lastRx := 0 } : Session)] } }) 5 1 0x8423 4 [9, 3] ({ peer := 5, number := 77, lastRx := 0 } : Session) ∧
    (fun (s : State) (a : Fin 1024) (_tag : BitVec 56) (_code : BitVec 16) (_b : Bytes) (z : Session) => (s.w.session a = some z)) (st { (wInsp) with clk := { ctl := 10 ^ 15, tb := 10 ^ 15 }, sys := { wInsp.sys with sessions := [({ peer := 5, number := 77, lastRx := 0 } : Session)] } }) 5 1 0 [] ({ peer := 5, number := 77, lastRx := 0 } : Session) := by decide +kernel

set_option maxRecDepth 20000 in
/-- States and operands that meet the hypotheses of GroupsAlignAndLend. -/
theorem witness_GroupsAlignAndLend :
    (fun (s : State) (a : Fin 1024) (j : Fin 8) (_base _width : BitVec 32) (_xs : List Int) => (s.w.session a ≠ none) ∧ (s.w.memberFrom a = some j.val)) (st { (wInsp) with clk := { ctl := 10 ^ 15, tb := 10 ^ 15 }, sys := { wInsp.sys with sessions := [({ peer := 5, number := 77, lastRx := 0 } : Session)] }, d := { (wInsp).d with conf := [(Obj.groupId, 1), (Obj.memberAddr 2, 5)] } }) 5 2 100 50 [1] ∧
    (fun (s : State) (j : Fin 8) => (s.w.mode.dictOpen = true) ∧ (s.w.memberUsed j = true) ∧ ((nth {} s.w.sys.members j).absent = false) ∧ (∀ c ∈ (nth {} s.w.sys.members j).heardAt, c + nsClocks (s.w.getN Obj.groupTimeout * 1000) ≤ s.w.clk.ctl)) (st { (wInsp) with clk := { ctl := 10 ^ 15, tb := 10 ^ 15 }, sys := { wInsp.sys with sessions := [({ peer := 5, number := 77, lastRx := 0 } : Session)] }, d := { (wInsp).d with conf := [(Obj.groupId, 1), (Obj.memberAddr 2, 5)] } }) 2 ∧
    (fun (s : State) (a : Fin 1024) (_k : BitVec 48) (time : BitVec 64) => (s.w.session a ≠ none) ∧ (s.w.fromRef a = true) ∧ (s.w.get Obj.alignState = 1) ∧ (s.w.clearOfEdges (s.w.clockAt time.toNat) = true)) (st { (wInsp.set Obj.alignState 1) with clk := { ctl := 10 ^ 15, tb := 10 ^ 15 }, sys := { wInsp.sys with sessions := [({ peer := 5, number := 77, lastRx := 0 } : Session)] }, d := { (wInsp.set Obj.alignState 1).d with conf := [(Obj.webRef, 5), (Obj.webSource, 16), (Obj.scaleDen, 1)] } }) 5 1000 5 ∧
    (fun (s : State) (a : Fin 1024) (_k : BitVec 48) (_time : BitVec 64) => (s.w.session a ≠ none) ∧ (s.w.fromRef a = true) ∧ (s.w.get Obj.alignState = 2)) (st { (wInsp.set Obj.alignState 2) with clk := { ctl := 10 ^ 15, tb := 10 ^ 15 }, sys := { wInsp.sys with sessions := [({ peer := 5, number := 77, lastRx := 0 } : Session)] }, d := { (wInsp.set Obj.alignState 2).d with conf := [(Obj.webRef, 5), (Obj.webSource, 16), (Obj.scaleDen, 1)] } }) 5 1000 5 ∧
    (fun (s : State) => (s.w.mode.dictOpen = true) ∧ (s.w.running .offer = true → s.w.expired .offer 1000000 = true)) (st { (wInsp.set (Obj.shedPeer 0) 5) with clk := { ctl := 10 ^ 15, tb := 10 ^ 15 }, sys := { wInsp.sys with sessions := [({ peer := 5, number := 77, lastRx := 0 } : Session)] }, d := { (wInsp.set (Obj.shedPeer 0) 5).d with changes := [⟨0, Obj.shedAccept, 1⟩] } }) ∧
    (fun (s : State) (a : Fin 1024) (_rate : BitVec 32) (_ds : List Bytes) => (s.w.session a ≠ none)) (st { (wInsp) with clk := { ctl := 10 ^ 15, tb := 10 ^ 15 }, sys := { wInsp.sys with sessions := [({ peer := 5, number := 77, lastRx := 0 } : Session)] } }) 5 7 [] ∧
    (fun (s : State) (a : Fin 1024) => (∃ o ∈ s.w.sys.shed.offers, o.addr = a.val ∧ o.at_ + nsClocks 10000000 ≤ s.w.clk.ctl)) (st { (wInsp) with clk := { ctl := 10 ^ 15, tb := 10 ^ 15 }, sys := { wInsp.sys with sessions := [({ peer := 5, number := 77, lastRx := 0 } : Session)], shed := { offers := [({ addr := 5, rate := 7, digests := [], at_ := 0 } : OfferMsg)] } } }) 5 ∧
    (fun (s : State) (a : Fin 1024) => (s.w.session a ≠ none)) (st { (wInsp) with clk := { ctl := 10 ^ 15, tb := 10 ^ 15 }, sys := { wInsp.sys with sessions := [({ peer := 5, number := 77, lastRx := 0 } : Session)], shed := { offers := [({ addr := 5, rate := 7, digests := [], at_ := 0 } : OfferMsg)] } } }) 5 ∧
    (fun (s : State) (a : Fin 1024) (c : Candidate) (cs : List Candidate) => (s.w.batchHead 256 = c :: cs) ∧ (s.w.valueAt Obj.shedEnable s.w.frame = 1) ∧ (s.w.pipeRuns = true) ∧ (s.w.mode ≠ .shadow) ∧ (s.w.valueAtN Obj.shedHigh s.w.frame < s.w.cls.queue.length) ∧ ((c :: cs).all s.w.netReady = true) ∧ (s.w.shedPeerFor [s.w.digestFor (s.w.modelsOf c).1 (s.w.frameOf c.last), s.w.digestFor (s.w.modelsOf c).2 (s.w.frameOf c.last)] = some a.val)) (st { (wInsp) with clk := { ctl := 10 ^ 15, tb := 10 ^ 15 }, sys := { wInsp.sys with sessions := [({ peer := 5, number := 77, lastRx := 0 } : Session)], shed := { offers := [({ addr := 5, rate := 7, digests := [], at_ := 0 } : OfferMsg)] } }, cls := { wInsp.cls with queue := [({ id := 1, field := 0, part := 0, first := 3, last := 3, flags := 0, feats := [] } : Candidate)] }, d := { (wInsp).d with changes := [⟨0, Obj.shedEnable, 1⟩, ⟨0, Obj.shedHigh, 0⟩] } }) 5 ({ id := 1, field := 0, part := 0, first := 3, last := 3, flags := 0, feats := [] } : Candidate) [] ∧
    (fun (s : State) (id : Nat) => (∃ e ∈ s.w.sys.shed.sentAt, e.1 = id ∧ e.2 + nsClocks (s.w.getN Obj.shedTimeout * 1000) ≤ s.w.clk.ctl)) (st { (wInsp) with clk := { ctl := 10 ^ 15, tb := 10 ^ 15 }, sys := { wInsp.sys with sessions := [({ peer := 5, number := 77, lastRx := 0 } : Session)], shed := { sentAt := [(7, 0)] } }, cls := { wInsp.cls with batches := [({ id := 7, unit := none, peer := some 5, cands := [({ id := 1, field := 0, part := 0, first := 3, last := 3, flags := 0, feats := [] } : Candidate)] } : Batch)] } }) 7 ∧
    (fun (s : State) (a : Fin 1024) (id : Nat) => (s.w.session a ≠ none) ∧ (∃ b ∈ s.w.cls.batches, b.id = id ∧ b.peer = some a.val)) (st { (wInsp) with clk := { ctl := 10 ^ 15, tb := 10 ^ 15 }, sys := { wInsp.sys with sessions := [({ peer := 5, number := 77, lastRx := 0 } : Session)], shed := { sentAt := [(7, 0)] } }, cls := { wInsp.cls with batches := [({ id := 7, unit := none, peer := some 5, cands := [({ id := 1, field := 0, part := 0, first := 3, last := 3, flags := 0, feats := [] } : Candidate)] } : Batch)] } }) 5 7 ∧
    (fun (s : State) (a : Fin 1024) (_id : Nat) (_d1 _d2 : Bytes) (_cs : List ShedCand) => (s.w.session a ≠ none)) (st { (wInsp) with clk := { ctl := 10 ^ 15, tb := 10 ^ 15 }, sys := { wInsp.sys with sessions := [({ peer := 5, number := 77, lastRx := 0 } : Session)] }, d := { (wInsp).d with changes := [⟨0, Obj.shedAccept, 1⟩] } }) 5 7 [] [] [] ∧
    (fun (s : State) (a : Fin 1024) (id : Nat) (_xs : List ShedAnswer) => (s.w.session a ≠ none) ∧ (∃ b ∈ s.w.cls.batches, b.id = id ∧ b.peer = some a.val)) (st { (wInsp) with clk := { ctl := 10 ^ 15, tb := 10 ^ 15 }, sys := { wInsp.sys with sessions := [({ peer := 5, number := 77, lastRx := 0 } : Session)], shed := { sentAt := [(7, 0)] } }, cls := { wInsp.cls with batches := [({ id := 7, unit := none, peer := some 5, cands := [({ id := 1, field := 0, part := 0, first := 3, last := 3, flags := 0, feats := [] } : Candidate)] } : Batch)] } }) 5 7 [] := by decide +kernel

set_option maxRecDepth 20000 in
/-- States and operands that meet the hypotheses of PairsBeatAndMirror. -/
theorem witness_PairsBeatAndMirror :
    (fun (s : State) => (s.w.mode.beats = true) ∧ (s.w.pairStands = true) ∧ (s.w.running .heartbeatSend = true → s.w.expired .heartbeatSend 500000 = true)) (st { (wInsp.set Obj.pairState 3) with mode := .inspect, clk := { ctl := 10 ^ 15, tb := 10 ^ 15 }, sys := { wInsp.sys with sessions := [({ peer := 5, number := 77, lastRx := 0 } : Session)] }, d := { (wInsp.set Obj.pairState 3).d with conf := [(Obj.pairPeer, 5)] } }) ∧
    (fun (s : State) => (s.w.mode.beats = false ∨ s.w.pairStands = false)) (st { (wInsp.set Obj.pairState 3) with mode := .ready, clk := { ctl := 10 ^ 15, tb := 10 ^ 15 }, sys := { wInsp.sys with sessions := [({ peer := 5, number := 77, lastRx := 0 } : Session)] }, d := { (wInsp.set Obj.pairState 3).d with conf := [(Obj.pairPeer, 5)] } }) ∧
    (fun (s : State) (a : Fin 1024) (_m : BeatMsg) => (s.w.session a ≠ none) ∧ (a.val = s.w.partner) ∧ (s.w.pairStands = true ∨ s.w.get Obj.pairState = 2)) (st { (wInsp.set Obj.pairState 4) with mode := .shadow, clk := { ctl := 10 ^ 15, tb := 10 ^ 15 }, sys := { wInsp.sys with sessions := [({ peer := 5, number := 77, lastRx := 0 } : Session)] }, d := { (wInsp.set Obj.pairState 4).d with conf := [(Obj.pairPeer, 5)] } }) 5 { mode := 5, head := 0, hwm := 0, completion := 7, delivered := [], fires := [] } ∧
    (fun (s : State) (path : PairPath) => (s.w.pairStands = true) ∧ (s.w.recent s.w.sys.pair.heardYal = decide (path = .pin)) ∧ (s.w.recent s.w.sys.pair.heardPin = decide (path = .yalind))) (st { (wInsp.set Obj.pairState 4) with mode := .inspect, clk := { ctl := 10 ^ 15, tb := 10 ^ 15 }, sys := { wInsp.sys with sessions := [({ peer := 5, number := 77, lastRx := 0 } : Session)], pair := { heardPin := some (10 ^ 15) } }, d := { (wInsp.set Obj.pairState 4).d with conf := [(Obj.pairPeer, 5)] } }) .yalind ∧
    (fun (s : State) (a : Fin 1024) (_n : BitVec 32) (z : Session) => (s.w.session a = some z)) (st { (wInsp.set Obj.pairState 4) with mode := .inspect, clk := { ctl := 10 ^ 15, tb := 10 ^ 15 }, sys := { wInsp.sys with sessions := [({ peer := 5, number := 77, lastRx := 0 } : Session)] }, d := { (wInsp.set Obj.pairState 4).d with conf := [(Obj.pairPeer, 5)] } }) 5 3 ({ peer := 5, number := 77, lastRx := 0 } : Session) ∧
    (fun (s : State) (a : Fin 1024) (e : MirrorEntry) => (s.w.session a ≠ none) ∧ (a.val = s.w.partner) ∧ (s.w.get Obj.pairState = 2 ∨ s.w.get Obj.pairState = 4 ∨ s.w.get Obj.pairState = 5) ∧ (s.w.getN Obj.lastMirrorSeq < e.seq)) (st { (wInsp.set Obj.pairState 4) with mode := .shadow, clk := { ctl := 10 ^ 15, tb := 10 ^ 15 }, sys := { wInsp.sys with sessions := [({ peer := 5, number := 77, lastRx := 0 } : Session)] }, d := { (wInsp.set Obj.pairState 4).d with conf := [(Obj.pairPeer, 5)] } }) 5 ({ seq := 9, time := 5, effectFrame := 0xFFFFFFFFFFFF, index := 0x7009, sub := 2, path := 1, group := false, deferred := false, domain := false, result := 0, sourceId := 0, dlen := 1, value := 1, data := [] } : MirrorEntry) ∧
    (fun (s : State) (a : Fin 1024) (b : Bytes) => (s.w.session a ≠ none) ∧ (a.val = s.w.partner) ∧ (s.w.get Obj.pairState = 2 ∨ s.w.get Obj.pairState = 4 ∨ s.w.get Obj.pairState = 5) ∧ (∀ r ∈ s.w.sys.pair.records, r.seq ≠ leAt b 0 8)) (st { (wInsp.set Obj.pairState 4) with mode := .shadow, clk := { ctl := 10 ^ 15, tb := 10 ^ 15 }, sys := { wInsp.sys with sessions := [({ peer := 5, number := 77, lastRx := 0 } : Session)] }, d := { (wInsp.set Obj.pairState 4).d with conf := [(Obj.pairPeer, 5)] } }) 5 (List.replicate 128 2) ∧
    (fun (s : State) (a : Fin 1024) (_m : SyncMsg) => (s.w.session a ≠ none) ∧ (a.val = s.w.partner) ∧ (s.w.get Obj.pairState = 2 ∨ s.w.get Obj.pairState = 4 ∨ s.w.get Obj.pairState = 5)) (st { (wInsp.set Obj.pairState 4) with mode := .shadow, clk := { ctl := 10 ^ 15, tb := 10 ^ 15 }, sys := { wInsp.sys with sessions := [({ peer := 5, number := 77, lastRx := 0 } : Session)] }, d := { (wInsp.set Obj.pairState 4).d with conf := [(Obj.pairPeer, 5)] } }) 5 { epoch := 3, epochFrame := 0, queues := [], hwm := 70, completion := 5, sets := [] } ∧
    (fun (s : State) (a : Fin 1024) => (s.w.session a ≠ none) ∧ (a.val = s.w.partner)) (st { (wInsp.set Obj.pairState 0) with mode := .inspect, clk := { ctl := 10 ^ 15, tb := 10 ^ 15 }, sys := { wInsp.sys with sessions := [({ peer := 5, number := 77, lastRx := 0 } : Session)] }, d := { (wInsp.set Obj.pairState 0).d with conf := [(Obj.pairPeer, 5)] } }) 5 := by decide +kernel

set_option maxRecDepth 20000 in
/-- States and operands that meet the hypotheses of PairsFormEndAndTakeOver. -/
theorem witness_PairsFormEndAndTakeOver :
    (fun (s : State) (path : Path) => (s.w.ready path = true)) (st { (wInsp.set Obj.pairState 0) with mode := .ready, clk := { ctl := 10 ^ 15, tb := 10 ^ 15 }, sys := { wInsp.sys with sessions := [({ peer := 5, number := 77, lastRx := 0 } : Session)] }, d := { (wInsp.set Obj.pairState 0).d with conf := [(Obj.pairPeer, 5)] } }) .coe ∧
    (fun (s : State) (path : Path) => (s.w.ready path = true)) (st { (wInsp.set Obj.pairState 1) with mode := .ready, clk := { ctl := 10 ^ 15, tb := 10 ^ 15 }, sys := { wInsp.sys with sessions := [({ peer := 5, number := 77, lastRx := 0 } : Session)] }, d := { (wInsp.set Obj.pairState 1).d with conf := [(Obj.pairPeer, 5)] } }) .coe ∧
    (fun (s : State) (a : Fin 1024) (pos : Fin 2) => (s.w.session a ≠ none) ∧ (a.val = s.w.partner) ∧ (s.w.get Obj.pairState = 0 ∨ s.w.get Obj.pairState = 1) ∧ ((pos.val : Int) ≠ s.w.conf Obj.pairPosition) ∧ (s.w.mode.inspecting = true)) (st { (wInsp.set Obj.pairState 0) with mode := .inspect, clk := { ctl := 10 ^ 15, tb := 10 ^ 15 }, sys := { wInsp.sys with sessions := [({ peer := 5, number := 77, lastRx := 0 } : Session)] }, d := { (wInsp.set Obj.pairState 0).d with conf := [(Obj.pairPeer, 5)] } }) 5 1 ∧
    (fun (s : State) (a : Fin 1024) (pos : Fin 2) (z : Session) => (s.w.session a = some z) ∧ (a.val ≠ s.w.partner ∨ (s.w.get Obj.pairState ≠ 0 ∧ s.w.get Obj.pairState ≠ 1) ∨ (pos.val : Int) = s.w.conf Obj.pairPosition)) (st { (wInsp.set Obj.pairState 0) with mode := .inspect, clk := { ctl := 10 ^ 15, tb := 10 ^ 15 }, sys := { wInsp.sys with sessions := [({ peer := 5, number := 77, lastRx := 0 } : Session)] }, d := { (wInsp.set Obj.pairState 0).d with conf := [(Obj.pairPeer, 5)] } }) 5 0 ({ peer := 5, number := 77, lastRx := 0 } : Session) ∧
    (fun (s : State) (a : Fin 1024) (_m : SnapMsg) => (s.w.session a ≠ none) ∧ (a.val = s.w.partner) ∧ (s.w.get Obj.pairState = 1) ∧ (s.w.mode = .ready) ∧ (s.w.get Obj.alignState ≠ 2)) (st { (wInsp.set Obj.pairState 1) with mode := .ready, clk := { ctl := 10 ^ 15, tb := 10 ^ 15 }, sys := { wInsp.sys with sessions := [({ peer := 5, number := 77, lastRx := 0 } : Session)] }, d := { (wInsp.set Obj.pairState 1).d with conf := [(Obj.pairPeer, 5)] } }) 5 { journalId := 11, head := 5, ledgerId := 12, hwm := 9, entries := [], sets := [], geom := [], models := [] } ∧
    (fun (s : State) (a : Fin 1024) (m : SnapMsg) (es : List ProfEntry) => (s.w.session a ≠ none) ∧ (a.val = s.w.partner) ∧ (s.w.get Obj.pairState = 1) ∧ (s.w.mode = .ready) ∧ (s.w.get Obj.alignState = 2) ∧ (entriesOf m.entries 0 = .ok es) ∧ (((s.w.heard a).takeSnapshot m es).frameLenFault = false) ∧ (((s.w.heard a).takeSnapshot m es).staged.commitFaults = [])) (st { ((wInsp.set Obj.pairState 1).set Obj.alignState 2) with mode := .ready, clk := { ctl := 10 ^ 15, tb := 10 ^ 15 }, sys := { wInsp.sys with sessions := [({ peer := 5, number := 77, lastRx := 0 } : Session)] }, d := { ((wInsp.set Obj.pairState 1).set Obj.alignState 2).d with conf := [(Obj.pairPeer, 5)] } }) 5 { journalId := 11, head := 5, ledgerId := 12, hwm := 9, entries := [], sets := [], geom := [], models := [] } [] ∧
    (fun (s : State) (n : Nat) => (s.w.sys.pair.shadowAt = some n) ∧ (s.w.get Obj.pairState = 2) ∧ (s.w.mode = .ready) ∧ (n ≤ s.w.frame)) (st { (wInsp.set Obj.pairState 2) with mode := .ready, clk := { ctl := 10 ^ 15, tb := 10 ^ 15 }, sys := { wInsp.sys with sessions := [({ peer := 5, number := 77, lastRx := 0 } : Session)], pair := { shadowAt := some 0 } }, d := { (wInsp.set Obj.pairState 2).d with conf := [(Obj.pairPeer, 5)] } }) 0 ∧
    (fun (s : State) (a : Fin 1024) (_code : Fin 6) => (s.w.session a ≠ none) ∧ (a.val = s.w.partner) ∧ (s.w.get Obj.pairState = 1 ∨ s.w.get Obj.pairState = 2)) (st { (wInsp.set Obj.pairState 1) with mode := .ready, clk := { ctl := 10 ^ 15, tb := 10 ^ 15 }, sys := { wInsp.sys with sessions := [({ peer := 5, number := 77, lastRx := 0 } : Session)] }, d := { (wInsp.set Obj.pairState 1).d with conf := [(Obj.pairPeer, 5)] } }) 5 3 ∧
    (fun (s : State) (a : Fin 1024) (_code : Fin 6) => (s.w.session a ≠ none) ∧ (a.val = s.w.partner) ∧ (s.w.get Obj.pairState = 3) ∧ (s.w.mode ≠ .shadow) ∧ (s.w.sys.pair.proposals = [])) (st { (wInsp.set Obj.pairState 3) with mode := .inspect, clk := { ctl := 10 ^ 15, tb := 10 ^ 15 }, sys := { wInsp.sys with sessions := [({ peer := 5, number := 77, lastRx := 0 } : Session)] }, d := { (wInsp.set Obj.pairState 3).d with conf := [(Obj.pairPeer, 5)] } }) 5 0 ∧
    (fun (s : State) => (s.w.mode = .shadow) ∧ (s.w.get Obj.pairState = 4) ∧ (s.w.silent = true) ∧ (s.w.sys.pair.proposals = [])) (st { (wInsp.set Obj.pairState 4) with mode := .shadow, clk := { ctl := 10 ^ 15, tb := 10 ^ 15 }, sys := { wInsp.sys with sessions := [({ peer := 5, number := 77, lastRx := 0 } : Session)], pair := { heardYal := some 0, peerMode := 8 } }, d := { (wInsp.set Obj.pairState 4).d with conf := [(Obj.pairPeer, 5)] } }) ∧
    (fun (s : State) => (s.w.get Obj.pairState = 3) ∧ (s.w.silent = true) ∧ (s.w.mode ≠ .shadow) ∧ (s.w.sys.pair.proposals = [])) (st { (wInsp.set Obj.pairState 3) with mode := .inspect, clk := { ctl := 10 ^ 15, tb := 10 ^ 15 }, sys := { wInsp.sys with sessions := [({ peer := 5, number := 77, lastRx := 0 } : Session)], pair := { heardYal := some 0 } }, d := { (wInsp.set Obj.pairState 3).d with conf := [(Obj.pairPeer, 5)] } }) ∧
    (fun (s : State) (f : Nat) => (s.w.sys.pair.declared = some f) ∧ (s.w.get Obj.pairState = 5) ∧ (s.w.mode = .shadow) ∧ (f < s.w.frame)) (st { (wInsp.set Obj.pairState 5) with mode := .shadow, clk := { ctl := 10 ^ 15, tb := 10 ^ 15 }, sys := { wInsp.sys with sessions := [({ peer := 5, number := 77, lastRx := 0 } : Session)], pair := { declared := some 0 } }, d := { (wInsp.set Obj.pairState 5).d with conf := [(Obj.pairPeer, 5)] }, axis := { wInsp.axis with last := some 5000, hwm := some 5000 } }) 0 := by decide +kernel

set_option maxRecDepth 20000 in
/-- States and operands that meet the hypotheses of RingsAndInterruptsServeTheHost. -/
theorem witness_RingsAndInterruptsServeTheHost :
    (fun (s : State) (_r : Fin 17) (_v : BitVec 64) => (s.w.mode.dictOpen = true) ∧ (s.w.host.linkUp = true)) (st { (wInsp) with clk := { ctl := 10 ^ 15, tb := 10 ^ 15 }, host := { wInsp.host with linkUp := true, perst := true, rings := upd wInsp.host.rings 2 (fun r => { r with pi := 9, ci := 4 }) } }) 2 7 ∧
    (fun (s : State) (path : Path) (r : Fin 17) (k : Nat) => (s.w.ready path = true) ∧ (ringEnableKey r = some k)) (st { (wInsp) with clk := { ctl := 10 ^ 15, tb := 10 ^ 15 }, host := { wInsp.host with linkUp := true, perst := true, rings := upd wInsp.host.rings 2 (fun r => { r with enabled := true, pi := 9, ci := 4 }) } }) .coe 2 (Obj.lrEnable 2) ∧
    (fun (s : State) (path : Path) (r : Fin 17) (k : Nat) => (s.w.ready path = true) ∧ (ringEnableKey r = some k)) (st { (wInsp) with clk := { ctl := 10 ^ 15, tb := 10 ^ 15 }, host := { wInsp.host with linkUp := true, perst := true, rings := upd wInsp.host.rings 2 (fun r => { r with enabled := true, pi := 9, ci := 4 }) } }) .coe 2 (Obj.lrEnable 2) ∧
    (fun (s : State) (path : Path) (_q : Fin 8) => (s.w.ready path = true)) (st wInsp) .coe 3 ∧
    (fun (s : State) (path : Path) (_q : Fin 8) => (s.w.ready path = true)) (st wInsp) .coe 3 ∧
    (fun (s : State) (r : Fin 17) => (s.w.expired (.coal r) (s.w.getN (Obj.coalTime r) * 1000) = true)) (st { (wInsp) with clk := { ctl := 10 ^ 15, tb := 10 ^ 15 }, host := { wInsp.host with linkUp := true, perst := true, rings := upd wInsp.host.rings 2 (fun r => { r with pi := 9, ci := 4 }) }, timers := [(.coal 2, 0)] }) 2 ∧
    (fun (s : State) (_perst : Bool) => (s.w.host.linkUp = true)) (st { (wInsp) with clk := { ctl := 10 ^ 15, tb := 10 ^ 15 }, host := { wInsp.host with linkUp := true, perst := true, rings := upd wInsp.host.rings 2 (fun r => { r with enabled := true, pi := 9, ci := 4 }) } }) true ∧
    (fun (s : State) => (s.w.host.perst = true) ∧ (s.w.host.linkUp = false)) (st { (wInsp) with clk := { ctl := 10 ^ 15, tb := 10 ^ 15 }, host := { wInsp.host with perst := true, linkUp := false } }) := by decide +kernel

set_option maxRecDepth 20000 in
/-- States and operands that meet the hypotheses of NetworkAndEtherCatServe. -/
theorem witness_NetworkAndEtherCatServe :
    (fun (s : State) (_n : Fin 4) (_l : Fin 3) (_c _u : Nat) => (s.w.mode.dictOpen = true)) (st { (wInsp) with clk := { ctl := 10 ^ 15, tb := 10 ^ 15 }, host := { wInsp.host with linkUp := true, perst := true }, d := { (wInsp).d with conf := [(Obj.ethMode 2, 1)] } }) 2 2 5 1 ∧
    (fun (s : State) (n : Fin 4) (ip _fip : BitVec 32) (_fmac : BitVec 48) => (s.w.ethUp n = true) ∧ (s.w.confN (Obj.ethIpv4 n) ≠ 0) ∧ (ip.toNat = s.w.confN (Obj.ethIpv4 n))) (st { ((wInsp.set (Obj.ethLink 2) 2)) with clk := { ctl := 10 ^ 15, tb := 10 ^ 15 }, host := { wInsp.host with linkUp := true, perst := true }, d := { ((wInsp.set (Obj.ethLink 2) 2)).d with conf := [(Obj.ethIpv4 2, 77)] } }) 2 77 5 6 ∧
    (fun (s : State) (n : Fin 4) (ip _fip : BitVec 32) (_i _q : BitVec 16) (b : Bytes) => (s.w.ethUp n = true) ∧ (s.w.confN (Obj.ethIpv4 n) ≠ 0) ∧ (ip.toNat = s.w.confN (Obj.ethIpv4 n)) ∧ (b.length ≤ 1472)) (st { ((wInsp.set (Obj.ethLink 2) 2)) with clk := { ctl := 10 ^ 15, tb := 10 ^ 15 }, host := { wInsp.host with linkUp := true, perst := true }, d := { ((wInsp.set (Obj.ethLink 2) 2)).d with conf := [(Obj.ethIpv4 2, 77)] } }) 2 77 5 6 7 (List.replicate 1472 0) ∧
    (fun (s : State) (n : Fin 4) => (s.w.ethUp n = true)) (st { ((wInsp.set (Obj.ethLink 2) 2)) with clk := { ctl := 10 ^ 15, tb := 10 ^ 15 }, host := { wInsp.host with linkUp := true, perst := true } }) 2 ∧
    (fun (s : State) (e : EcatSt) => (s.w.mode.dictOpen = true) ∧ (s.w.getN Obj.ecatState ≠ ecatCode e) ∧ (ecatCode e < s.w.getN Obj.ecatState ∨ ecatCode e = 2 * s.w.getN Obj.ecatState)) (st (wInsp.set Obj.ecatState 4)) .op ∧
    (fun (s : State) => (s.w.getN Obj.ecatWdt ≠ 0) ∧ (s.w.get Obj.ecatState = 8) ∧ (s.w.expired .ecatWdt (s.w.getN Obj.ecatWdt * 1000000) = true)) (st { (wInsp.set Obj.ecatState 8) with clk := { ctl := 10 ^ 15, tb := 10 ^ 15 }, host := { wInsp.host with linkUp := true, perst := true }, timers := [(.ecatWdt, 0)] }) ∧
    (fun (s : State) (_b : Bytes) => (s.w.mode.dictOpen = true) ∧ (s.w.get Obj.ecatState = 8) ∧ (s.w.pdo 0x1600 = [])) (st { (wInsp.set Obj.ecatState 8) with clk := { ctl := 10 ^ 15, tb := 10 ^ 15 }, host := { wInsp.host with linkUp := true, perst := true } }) [1] ∧
    (fun (s : State) (b : Bytes) (key : Nat) (v : Int) (r : ObjRow) => (s.w.ready .coe = true) ∧ (s.w.get Obj.ecatState = 8) ∧ (s.w.pdo 0x1600 = [(0, key, r.typ.size)]) ∧ (b.length = r.typ.size) ∧ (plainNum .coe key v r = true) ∧ (r.effect = .imm) ∧ (r.typ.decode b = v) ∧ (s.w.ecat.rxHeld.getD 0 none ≠ some v)) (st { ((wInsp.set Obj.ecatState 8).set (objKey 0x1600 1) 0x84230420) with clk := { ctl := 10 ^ 15, tb := 10 ^ 15 }, host := { wInsp.host with linkUp := true, perst := true } }) [9, 3, 0, 0] 0x842304 777 (⟨0x8420, 0x1, 16, 4, 4, "MV_ACCEL", .u32, .rw, .imm, .const 1000000, .nums [(1, 4294967295)] 1 false false⟩ : ObjRow) ∧
    (fun (s : State) => (s.w.mode.dictOpen = true) ∧ (s.w.get Obj.ecatState = 4 ∨ s.w.get Obj.ecatState = 8)) (st { (wInsp.set Obj.ecatState 8) with clk := { ctl := 10 ^ 15, tb := 10 ^ 15 }, host := { wInsp.host with linkUp := true, perst := true } }) := by decide +kernel

set_option maxRecDepth 20000 in
/-- States and operands that meet the hypotheses of FusesAreBurntOnceAndStay. -/
theorem witness_FusesAreBurntOnceAndStay :
    (fun (s : State) (path : Path) (_good : Bool) => (s.w.ready path = true) ∧ (s.w.mode = .hold ∨ s.w.mode = .ready)) { (st { (wInsp) with mode := .hold }) with nv := {  } } .coe true ∧
    (fun (s : State) (path : Path) (_good : Bool) => (s.w.ready path = true) ∧ (s.w.mode = .hold ∨ s.w.mode = .ready)) { (st { (wInsp) with mode := .hold }) with nv := {  } } .coe true ∧
    (fun (s : State) (path : Path) (_good : Bool) => (s.w.ready path = true) ∧ (s.w.mode = .hold ∨ s.w.mode = .ready)) { (st { (wInsp) with mode := .hold }) with nv := {  } } .coe true ∧
    (fun (s : State) (path : Path) (_k : Fin 4) (_good : Bool) => (s.w.ready path = true) ∧ (s.w.mode = .hold ∨ s.w.mode = .ready)) { (st { (wInsp) with mode := .hold }) with nv := {  } } .coe 2 true ∧
    (fun (s : State) (path : Path) (_good : Bool) => (s.w.ready path = true) ∧ (s.w.mode ≠ .hold) ∧ (s.w.mode ≠ .ready) ∧ (s.w.mode ≠ .shadow)) { (st { (wInsp) with mode := .inspect }) with nv := {  } } .coe true ∧
    (fun (s : State) (path : Path) (key : Bytes) (_good : Bool) => (s.w.ready path = true) ∧ (s.w.mode = .hold ∨ s.w.mode = .ready) ∧ (key.length = 1793)) { (st { (wInsp) with mode := .hold }) with nv := {  } } .coe (List.replicate 1793 7) true ∧
    (fun (s : State) (path : Path) (_good : Bool) => (s.w.ready path = true) ∧ (s.w.mode = .hold ∨ s.w.mode = .ready)) { (st { (wInsp) with mode := .hold }) with nv := { flash := { firmware := [] } } } .coe true := by decide +kernel

set_option maxRecDepth 20000 in
/-- States and operands that meet the hypotheses of FirmwareAndIdentityAreTrusted. -/
theorem witness_FirmwareAndIdentityAreTrusted :
    (fun (s : State) (path : Path) (b : Bytes) => (s.w.ready path = true) ∧ (3424 ≤ b.length) ∧ (b.length ≤ 16777216)) { (st { (wInsp) with mode := .hold }) with nv := {  } } .coe (List.replicate 4000 0) ∧
    (fun (s : State) (i : Nat) => (s.nv.flash.op = some (.firmware i))) { (st { (wInsp) with mode := .hold }) with nv := { flash := { firmware := [], op := some (.firmware 1) } } } 1 ∧
    (fun (s : State) (path : Path) (b : Bytes) => (s.w.ready path = true) ∧ (b.length = 3328)) (st wInsp) .coe (List.replicate 3328 0) ∧
    (fun (s : State) => (s.w.mode.dictOpen = true) ∧ (s.w.sec.keyReady = false)) { (st { (wInsp) with mode := .hold }) with nv := {  } } ∧
    (fun (s : State) (_path : Path) => (s.w.mode.dictOpen = true)) { (st { (wInsp) with mode := .hold, sec := { wInsp.sec with keyReady := true } }) with nv := {  } } .coe := by decide +kernel

set_option maxRecDepth 20000 in
/-- States and operands that meet the hypotheses of SuppliesSwitchAndFail. -/
theorem witness_SuppliesSwitchAndFail :
    (fun (_s : State) (_b : Bool) (mv : BitVec 16) => (goodAfter true mv.toNat = false)) (st { (wInsp) with mode := .inspect, clk := { ctl := 10 ^ 15, tb := 10 ^ 15 }, power := { wInsp.power with rails := true, released := true, goodA := true, goodB := true } }) false 9000 ∧
    (fun (s : State) (b : Bool) (mv : BitVec 16) => (goodAfter (s.w.power.good b) mv.toNat = true)) (st { (wInsp) with mode := .inspect, clk := { ctl := 10 ^ 15, tb := 10 ^ 15 }, power := { wInsp.power with rails := true, released := true, goodA := true } }) true 12000 ∧
    (fun (s : State) => (s.w.onB = false) ∧ (s.w.expired .vinRange 1000000 = true) ∧ (s.w.power.goodB = true) ∧ (s.w.power.rangeB = true)) (st { (wInsp) with mode := .inspect, clk := { ctl := 10 ^ 15, tb := 10 ^ 15 }, power := { wInsp.power with rails := true, released := true, goodA := true, goodB := true, rangeB := true }, timers := [(.vinRange, 0)] }) ∧
    (fun (s : State) => (s.w.onB = true) ∧ (s.w.expired .returnA 100000000 = true)) (st { (wInsp.set Obj.supplyInUse 1) with mode := .inspect, clk := { ctl := 10 ^ 15, tb := 10 ^ 15 }, power := { wInsp.power with rails := true, released := true, goodA := true, rangeA := true, goodB := true }, timers := [(.returnA, 0)] }) ∧
    (fun (s : State) => (s.w.expired .holdup 50000 = true)) (st { (wInsp) with mode := .inspect, clk := { ctl := 10 ^ 15, tb := 10 ^ 15 }, power := { wInsp.power with rails := true, released := true }, timers := [(.holdup, 0)] }) ∧
    (fun (s : State) => (s.w.expired .supplyRange 10000000 = true) ∧ (s.w.onB = true ∨ s.w.power.goodB = false ∨ s.w.power.rangeB = false) ∧ (s.w.mode.dictOpen = true) ∧ (s.w.mode ≠ .safe)) (st { (wInsp) with mode := .inspect, clk := { ctl := 10 ^ 15, tb := 10 ^ 15 }, power := { wInsp.power with rails := true, released := true, goodA := true }, timers := [(.supplyRange, 0)] }) ∧
    (fun (s : State) (b : Bool) (mv : BitVec 16) => (s.w.power.released = true) ∧ (withinTenth (if b then 1800 else 100 * s.w.getN Obj.vioALevel) mv.toNat = false) ∧ (s.w.mode.dictOpen = true) ∧ (s.w.mode ≠ .safe)) (st { (wInsp.set Obj.vioALevel 33) with mode := .inspect, clk := { ctl := 10 ^ 15, tb := 10 ^ 15 }, power := { wInsp.power with rails := true, released := true } }) false 2969 ∧
    (fun (s : State) => (s.w.power.goodA = true ∨ s.w.power.goodB = true)) (st { (wInsp) with mode := .inspect, clk := { ctl := 10 ^ 15, tb := 10 ^ 15 }, power := { wInsp.power with goodA := true } }) ∧
    (fun (_s : State) (mv : BitVec 16) (v : Nat) => (v = 18 ∨ v = 25 ∨ v = 33) ∧ (withinTenth (100 * v) mv.toNat = true)) (st { (wInsp) with mode := .inspect, clk := { ctl := 10 ^ 15, tb := 10 ^ 15 }, power := { wInsp.power with goodA := true } }) 3300 33 := by decide +kernel

set_option maxRecDepth 20000 in
/-- States and operands that meet the hypotheses of ClocksAndHeatAreWatched. -/
theorem witness_ClocksAndHeatAreWatched :
    (fun (s : State) (_d0 _d1 _d2 _d3 _h : BitVec 32) => (s.w.power.rails = true) ∧ (s.w.running .thermal = true → s.w.expired .thermal 100000 = true) ∧ (s.w.mode.dictOpen = true)) (st { (wInsp) with mode := .inspect, clk := { ctl := 10 ^ 15, tb := 10 ^ 15 }, power := { wInsp.power with rails := true, released := true } }) 5242880 0 0 6553600 1 ∧
    (fun (s : State) => (2 ≤ s.w.power.hot) ∧ (s.w.run.latch = false) ∧ (s.w.mode.dictOpen = true)) (st { (wInsp) with mode := .inspect, clk := { ctl := 10 ^ 15, tb := 10 ^ 15 }, power := { wInsp.power with rails := true, released := true, hot := 2 } }) := by decide +kernel
end

section
/-! The frame rules of `Part.same`, `Work.only` and `Work.sameBut`: a frame holds of no change, composes along a chain of changes, widens, and
passes through a fold of which every turn keeps it. -/
namespace Sys2Proof.Machine

theorem Part.same_refl (p : Part) (a : Work) : p.same a a := by
  cases p <;> simp [Part.same]

theorem Part.same_trans {p : Part} {a b c : Work} (hab : p.same a b) (hbc : p.same b c) : p.same a c := by
  cases p <;> simp_all [Part.same]

theorem Work.only_refl (a : Work) (ps : List Part) : a.only a ps := fun p _ => p.same_refl a

theorem Work.only_trans {a b c : Work} {ps : List Part} (hab : a.only b ps) (hbc : b.only c ps) : a.only c ps :=
  fun p hp => Part.same_trans (hab p hp) (hbc p hp)

theorem Work.only_mono {a b : Work} {ps qs : List Part} (h : a.only b ps) (hsub : ps ⊆ qs) : a.only b qs :=
  fun p hp => h p (fun hmem => hp (hsub hmem))

theorem Work.only_foldl {α : Type} {f : Work → α → Work} {ps : List Part} (xs : List α) (hf : ∀ w : Work, ∀ x ∈ xs, w.only (f w x) ps) (w : Work) :
    w.only (xs.foldl f w) ps := by
  induction xs generalizing w with
  | nil => exact w.only_refl ps
  | cons x xs ih =>
    exact Work.only_trans (hf w x List.mem_cons_self) (ih (fun v y hy => hf v y (List.mem_cons_of_mem x hy)) (f w x))

theorem Work.sameBut_refl (a : Work) (ks : List Nat) : a.sameBut a ks := fun _ _ => rfl

theorem Work.sameBut_trans {a b c : Work} {ks : List Nat} (hab : a.sameBut b ks) (hbc : b.sameBut c ks) : a.sameBut c ks :=
  fun k hk => (hbc k hk).trans (hab k hk)

theorem Work.sameBut_foldl {α : Type} {f : Work → α → Work} {ks : List Nat} (xs : List α) (hf : ∀ w : Work, ∀ x ∈ xs, w.sameBut (f w x) ks) (w : Work) :
    w.sameBut (xs.foldl f w) ks := by
  induction xs generalizing w with
  | nil => exact w.sameBut_refl ks
  | cons x xs ih =>
    exact Work.sameBut_trans (hf w x List.mem_cons_self) (ih (fun v y hy => hf v y (List.mem_cons_of_mem x hy)) (f w x))

/-! What storing a register, stopping a timer and running the clock change. -/

/-- The registers are no part: storing one leaves every part as it was. -/
theorem Work.only_set (w : Work) (k : Nat) (v : Int) (ps : List Part) : w.only (w.set k v) ps := by
  intro p _
  cases p <;> simp [Part.same]

theorem Work.sameBut_set (w : Work) {k : Nat} (v : Int) {ks : List Nat} (hk : k ∈ ks) : w.sameBut (w.set k v) ks :=
  fun k' hk' => w.get_set_other k k' v (fun heq => hk' (heq ▸ hk))

theorem Work.only_stopTimer (w : Work) (t : Timer) : w.only (w.stopTimer t) [.timers] := by
  intro p hp
  cases p <;> simp [Part.same] at hp ⊢

theorem Work.sameBut_stopTimer (w : Work) (t : Timer) (ks : List Nat) : w.sameBut (w.stopTimer t) ks :=
  fun k _ => w.get_stopTimer t k

theorem Work.only_clk (w : Work) (c : Clock) : w.only { w with clk := c } [.clk] := by
  intro p hp
  cases p <;> simp [Part.same] at hp ⊢

theorem Work.sameBut_clk (w : Work) (c : Clock) (ks : List Nat) : w.sameBut { w with clk := c } ks := fun _ _ => rfl

end Sys2Proof.Machine
end

section
/-! One clock of the timebase on an empty queue (R31, R34), and the scratchpads of which the wake is over (R423). -/
namespace Sys2Proof.Machine

/-- The end of wakes stops timers and changes no other part. -/
theorem Work.only_spWaken (w : Work) : w.only w.spWaken [.timers] := by
  refine Work.only_foldl _ (fun v c _ => ?_) w
  split
  · exact Work.only_trans (v.only_set (Obj.spState c) 4 _) (Work.only_stopTimer _ (.spWake c))
  · exact v.only_refl _

/-- The end of wakes shows in SP_STATE of the 64 scratchpads and in no other object. -/
theorem Work.sameBut_spWaken (w : Work) : w.sameBut w.spWaken ((upTo 64).map Obj.spState) := by
  refine Work.sameBut_foldl _ (fun v c hc => ?_) w
  split
  · exact Work.sameBut_trans (v.sameBut_set 4 (List.mem_map_of_mem hc)) (Work.sameBut_stopTimer _ (.spWake c) _)
  · exact v.sameBut_refl _

/-- The control clock counts four and the timebase 10 ns with the servo's trim; the end of wakes leaves both. -/
theorem Work.tick_clk (w : Work) :
    w.tick.clk = { w.clk with ctl := w.clk.ctl + 4, tb := ((w.clk.tb : Int) + 10 ^ 9 + w.clk.trim).toNat } :=
  Work.only_spWaken _ .clk (by decide)

theorem Work.tick_ctl (w : Work) : w.tick.clk.ctl = w.clk.ctl + 4 := by rw [w.tick_clk]

theorem Work.only_tick (w : Work) : w.only w.tick [.clk, .timers] :=
  Work.only_trans (Work.only_mono (w.only_clk _) (by simp)) (Work.only_mono (Work.only_spWaken _) (by simp))

theorem Work.sameBut_tick (w : Work) : w.sameBut w.tick ((upTo 64).map Obj.spState) :=
  Work.sameBut_trans (w.sameBut_clk _ _) (Work.sameBut_spWaken _)

theorem step_pending_cons (c : Instr) (q : List Instr) (s : State) : step { s with pending := c :: q } = exec c { s with pending := q } := rfl

theorem step_pending_nil {s : State} (h : s.pending = []) : step s = .next { s with w := s.w.tick } := by
  simp [step, h]

/-- Settles O1: `step` matches on the queue, and the clock of an empty queue is `Work.tick`, whose frame is that of `Work.spWaken`. -/
theorem stepTakesTheFrontCommand : Obligations.StepTakesTheFrontCommand :=
  ⟨step_pending_cons, fun s h => ⟨s.w.tick, step_pending_nil h, s.w.tick_ctl, s.w.only_tick, s.w.sameBut_tick⟩⟩

end Sys2Proof.Machine
end

section
/-! The frames of the operations that a write over a path is made of: the result of a path, a refusal, a journal entry, an acceptance. -/
namespace Sys2Proof.Machine

/-! ### The keys of the objects -/

@[simp] theorem objKey_div (i s : Nat) (hs : s < 256) : objKey i s / 256 = i := by
  unfold objKey; omega

@[simp] theorem objKey_mod (i s : Nat) (hs : s < 256) : objKey i s % 256 = s := by
  unfold objKey; omega

theorem objKey_div_toNat (i : BitVec 16) (x : BitVec 8) : objKey i.toNat x.toNat / 256 = i.toNat := objKey_div _ _ x.isLt

theorem objKey_mod_toNat (i : BitVec 16) (x : BitVec 8) : objKey i.toNat x.toNat % 256 = x.toNat := objKey_mod _ _ x.isLt

/-- The result objects of the paths are three keys, none of them a count, a flag or a value that a write is taken to. -/
theorem resultKey_mem {p : Path} {k : Nat} (h : resultKey p = some k) : k ∈ [Obj.resultPcie, Obj.resultCoe, Obj.resultYalind] := by
  cases p <;> simp [resultKey] at h <;> simp [← h]

/-! ### The result of a path -/

theorem Work.only_setResult (w : Work) (p : Path) (r : Res) : w.only (w.setResult p r) [.lastRes] := by
  intro q hq
  cases q <;> simp [Part.same] at hq ⊢

theorem Work.sameBut_setResult (w : Work) (p : Path) (r : Res) : w.sameBut (w.setResult p r) (resultKey p).toList := by
  intro k hk
  rw [w.get_setResult, if_neg (by simpa using hk)]

theorem Work.only_freeCount (w : Work) (n : Nat) : w.only { w with freeCount := n } [.frees] := by
  intro q hq
  cases q <;> simp [Part.same] at hq ⊢

theorem Work.sameBut_freeCount (w : Work) (n : Nat) (ks : List Nat) : w.sameBut { w with freeCount := n } ks := fun _ _ => rfl

/-! ### A refusal (R57) -/

theorem Work.get_refuse (w : Work) (p : Path) (key : Nat) (r : Res) (k : Nat) :
    (w.refuse p key r).get k = if resultKey p = some k then (r.code : Int) else if k = Obj.refusedObject then Int.ofNat (key % 2 ^ 24)
      else if k = Obj.refusedCount then min (w.get Obj.refusedCount + 1) (counterMax Obj.refusedCount) else w.get k := by
  simp only [Work.refuse, Work.get_setResult, Work.get_set, Work.get_bump, eq_comm (a := k)]
  rfl

/-- A refusal is what `refuses` says of it. -/
theorem Work.refuses_refuse (w : Work) (p : Path) (key : Nat) (r : Res) : w.refuses (w.refuse p key r) p key r := by
  have hne : ∀ k ∈ [Obj.refusedCount, Obj.refusedObject], resultKey p ≠ some k := by
    cases p <;> simp [resultKey]
  refine ⟨?_, ?_, ?_, ?_, ?_, ?_⟩
  · simp [Work.refuse]
  · intro k hk
    rw [w.get_refuse, if_pos hk]
  · rw [w.get_refuse, if_neg (hne _ (by simp)), if_neg (by decide), if_pos rfl]
  · rw [w.get_refuse, if_neg (hne _ (by simp)), if_pos rfl]
  · intro q hq
    cases q <;> simp [Part.same] at hq ⊢
  · intro k hk
    simp only [refusalKeys, List.mem_cons, Option.mem_toList, not_or] at hk
    obtain ⟨hcount, hobject, hresult⟩ := hk
    rw [w.get_refuse, if_neg (by simpa using hresult), if_neg hobject, if_neg hcount]

end Sys2Proof.Machine
end

section
/-! SHADOW (R45): whichever meaning a write is routed to, a host path's is refused with STANDBY under its own key. -/
namespace Sys2Proof.Machine

/-- A meaning of a write of an object over a path that in SHADOW refuses it with STANDBY, where no more than free values have been taken. -/
def StandsBy (p : Path) (key : Nat) (f : Both → Both) : Prop :=
  ∀ x : Both, x.2.mode = .shadow → ∃ n, f x = (x.1, ({ x.2 with freeCount := n }).refuse p key .standby)

theorem standsBy_of_refuse {p : Path} {key : Nat} {f : Both → Both}
    (h : ∀ x : Both, x.2.mode = .shadow → f x = (x.1, x.2.refuse p key .standby)) : StandsBy p key f :=
  fun x hs => ⟨x.2.freeCount, h x hs⟩

section
variable {p : Path} (hp : hostPath p = true)
include hp

theorem Work.checkAccess_shadow {w : Work} (hs : w.mode = .shadow) (key : Nat) : w.checkAccess p key = .error .standby := by
  simp [Work.checkAccess, hp, hs]

theorem Work.checkNum_shadow {w : Work} (hs : w.mode = .shadow) (key : Nat) (v : DictVal) : w.checkNum p key v = .error .standby := by
  simp [Work.checkNum, w.checkAccess_shadow hp hs]

theorem Work.checkBlob_shadow {w : Work} (hs : w.mode = .shadow) (key : Nat) (b : Bytes) : w.checkBlob p key b = .error .standby := by
  simp [Work.checkBlob, w.checkAccess_shadow hp hs]

theorem standsBy_writeNum {key : Nat} {f : Both → Both}
    (h : ∀ x, ∃ v chk eff ef, f x = (x.1, x.2.writeNum p key v chk eff ef)) : StandsBy p key f :=
  standsBy_of_refuse fun x hs => by
    obtain ⟨v, chk, eff, ef, hf⟩ := h x
    simp [hf, Work.writeNum, hs, Mode.dictOpen, Work.checkNum_shadow hp hs]

/-- A command row is the write of its code. -/
theorem standsBy_command {key : Nat} {f : Both → Both}
    (h : ∀ x, ∃ code chk eff ef, f x = (x.1, x.2.command p key code chk eff ef)) : StandsBy p key f :=
  standsBy_writeNum hp fun x => by
    obtain ⟨code, chk, eff, ef, hf⟩ := h x
    exact ⟨_, _, _, _, hf⟩

theorem standsBy_writeBlob {key : Nat} {f : Both → Both}
    (h : ∀ x, ∃ b chk eff ef, f x = (x.1, x.2.writeBlob p key b chk eff ef)) : StandsBy p key f :=
  standsBy_of_refuse fun x hs => by
    obtain ⟨b, chk, eff, ef, hf⟩ := h x
    simp [hf, Work.writeBlob, hs, Mode.dictOpen, Work.checkBlob_shadow hp hs]

theorem standsBy_writeNumNv {key : Nat} {f : Both → Both}
    (h : ∀ x, ∃ v chk eff ef, f x = writeNumNv p key v chk eff x ef) : StandsBy p key f :=
  standsBy_of_refuse fun x hs => by
    obtain ⟨v, chk, eff, ef, hf⟩ := h x
    simp [hf, writeNumNv, hs, Mode.dictOpen, Work.checkNum_shadow hp hs]

theorem standsBy_writeBlobNv {key : Nat} {f : Both → Both}
    (h : ∀ x, ∃ b chk eff, f x = writeBlobNv p key b chk eff x) : StandsBy p key f :=
  standsBy_of_refuse fun x hs => by
    obtain ⟨b, chk, eff, hf⟩ := h x
    simp [hf, writeBlobNv, hs, Mode.dictOpen, Work.checkBlob_shadow hp hs]

theorem standsBy_groupClose : StandsBy p (groupKey p) (groupClose p) :=
  standsBy_of_refuse fun x hs => by simp [groupClose, hs, Mode.dictOpen, Work.checkNum_shadow hp hs]

end

/-- A burn takes one free value before its write is checked (log entry 58). -/
theorem standsBy_fused {p : Path} {key : Nat} {f : Bool → Both → Both} (h : ∀ good, StandsBy p key (f good)) : StandsBy p key (fused f) :=
  fun x hs => (h _) (x.1, { x.2 with freeCount := x.2.freeCount + 1 }) hs

/-! ### The rows of the command table -/

/-- A row stands by under the key that its place in its table gives it. -/
def RowStandsBy (e : At NumRow) : Prop :=
  ∀ (i : Fin e.count) (p : Path), hostPath p = true → ∀ (v : Int) (f : Both → Both), e.act i p v = some f →
    StandsBy p ((e.base + e.stride * i) * 256 + e.sub) f

theorem objNo_eq_some {base stride count sub key i : Nat} (h : objNo base stride count sub key = some i) :
    i < count ∧ key = (base + stride * i) * 256 + sub := by
  simp only [objNo, Bool.and_eq_true, decide_eq_true_eq, Option.ite_none_right_eq_some, Option.some.injEq] at h
  obtain ⟨⟨⟨⟨hsub, hbase⟩, hstride⟩, hcount⟩, rfl⟩ := h
  refine ⟨hcount, ?_⟩
  have hdiv := Nat.div_add_mod (key / 256 - base) stride
  have hkey := Nat.div_add_mod key 256
  omega

theorem atKey_eq_some {α : Type} {es : List (At α)} {key : Nat} {a : α} (h : atKey es key = some a) :
    ∃ e ∈ es, ∃ i : Fin e.count, key = (e.base + e.stride * i) * 256 + e.sub ∧ a = e.act i := by
  obtain ⟨e, he, hact⟩ := List.exists_of_findSome?_eq_some h
  obtain ⟨i, hi, rfl⟩ := Option.map_eq_some_iff.mp hact
  obtain ⟨hlt, hkey⟩ := objNo_eq_some hi
  exact ⟨e, he, ⟨i, hlt⟩, hkey, rfl⟩

theorem rowStandsBy_codes {base stride count sub : Nat} {rows : Nat → List (Int × (Path → Both → Both))}
    (h : ∀ (i : Fin count) (p : Path), hostPath p = true → ∀ r ∈ rows i, StandsBy p ((base + stride * i) * 256 + sub) (r.2 p)) :
    RowStandsBy ⟨base, stride, count, sub, fun i => codes (rows i)⟩ := by
  intro i p hp v f hf
  obtain ⟨r, hr, rfl⟩ := Option.map_eq_some_iff.mp hf
  exact h i p hp r (List.mem_of_find?_eq_some hr)

theorem rowStandsBy_some {base stride count sub : Nat} {row : Nat → Path → Int → Both → Both}
    (h : ∀ (i : Fin count) (p : Path), hostPath p = true → ∀ v : Int, StandsBy p ((base + stride * i) * 256 + sub) (row i p v)) :
    RowStandsBy ⟨base, stride, count, sub, fun i p v => some (row i p v)⟩ := by
  intro i p hp v f hf
  obtain rfl := Option.some.inj hf
  exact h i p hp v

theorem mem_upTo {n i : Nat} : i ∈ upTo n ↔ i < n := List.mem_range

theorem plantRows_standBy : ∀ e ∈ plantRows, RowStandsBy e := by
  simp only [plantRows, List.forall_mem_append, List.forall_mem_cons, List.forall_mem_map, List.not_mem_nil, false_imp_iff, implies_true,
    and_true]
  refine ⟨⟨⟨rowStandsBy_codes fun l p hp => ?_, rowStandsBy_codes fun l p hp => ?_, rowStandsBy_codes fun l p hp => ?_,
    rowStandsBy_codes fun q p hp => ?_, rowStandsBy_codes fun q p hp => ?_, rowStandsBy_some fun i p hp v => ?_⟩,
    fun f hf => rowStandsBy_some fun q p hp v => ?_⟩, fun f hf => rowStandsBy_some fun q p hp v => ?_⟩
  case' refine_7 => lift f to Fin 8 using mem_upTo.mp hf
  case' refine_8 => lift f to Fin 8 using mem_upTo.mp hf
  all_goals
    simp only [List.forall_mem_cons, List.not_mem_nil, false_imp_iff, implies_true, and_true, Fin.ofNat_val_eq_self, Nat.one_mul,
      ← Nat.add_assoc]
  case refine_5 | refine_6 | refine_7 | refine_8 => exact standsBy_writeNum hp fun x => ⟨_, _, _, _, rfl⟩
  all_goals
    and_intros
    all_goals exact standsBy_command hp fun x => ⟨_, _, _, _, rfl⟩

theorem calRows_standBy : ∀ e ∈ calRows, RowStandsBy e := by
  simp only [calRows, List.forall_mem_cons, List.not_mem_nil, false_imp_iff, implies_true, and_true]
  refine ⟨rowStandsBy_codes fun q p hp => ?_, rowStandsBy_codes fun _ p hp => ?_, rowStandsBy_codes fun q p hp => ?_,
    rowStandsBy_codes fun q p hp => ?_, fun i p hp v f hf => ?_⟩
  case refine_5 =>
    obtain ⟨-, hf⟩ := Option.ite_none_left_eq_some.mp hf
    obtain rfl := Option.some.inj hf
    obtain rfl := Fin.fin_one_eq_zero i
    exact standsBy_writeNum hp fun x => ⟨_, _, _, _, rfl⟩
  all_goals
    simp only [List.forall_mem_cons, List.not_mem_nil, false_imp_iff, implies_true, and_true, Fin.ofNat_val_eq_self, Nat.one_mul,
      Fin.val_eq_zero]
    and_intros
    all_goals exact standsBy_command hp fun x => ⟨_, _, _, _, rfl⟩

theorem outputRows_standBy : ∀ e ∈ outputRows, RowStandsBy e := by
  simp only [outputRows, List.forall_mem_cons, List.not_mem_nil, false_imp_iff, implies_true, and_true]
  refine ⟨rowStandsBy_codes fun s p hp => ?_, rowStandsBy_codes fun m p hp => ?_, rowStandsBy_codes fun e p hp => ?_,
    rowStandsBy_some fun k p hp v => ?_, rowStandsBy_codes fun k p hp => ?_, rowStandsBy_codes fun a p hp => ?_,
    rowStandsBy_codes fun a p hp => ?_, rowStandsBy_codes fun g p hp => ?_⟩
  all_goals
    simp only [List.forall_mem_cons, List.not_mem_nil, false_imp_iff, implies_true, and_true, Fin.ofNat_val_eq_self, Nat.one_mul]
  case refine_4 => exact standsBy_writeNum hp fun x => ⟨_, _, _, _, rfl⟩
  all_goals
    and_intros
    all_goals exact standsBy_command hp fun x => ⟨_, _, _, _, rfl⟩

theorem hubRows_standBy : ∀ e ∈ hubRows, RowStandsBy e := by
  simp only [hubRows, List.forall_mem_cons, List.not_mem_nil, false_imp_iff, implies_true, and_true]
  refine ⟨rowStandsBy_codes fun c p hp => ?_, rowStandsBy_codes fun n p hp => ?_, rowStandsBy_codes fun c p hp => ?_,
    rowStandsBy_codes fun c p hp => ?_, fun i p hp v f hf => ?_, rowStandsBy_codes fun _ p hp => ?_, rowStandsBy_codes fun _ p hp => ?_,
    rowStandsBy_codes fun _ p hp => ?_, fun i p hp v f hf => ?_⟩
  case refine_5 =>
    obtain ⟨-, hf⟩ := Option.ite_none_left_eq_some.mp hf
    obtain rfl := Option.some.inj hf
    obtain rfl := Fin.fin_one_eq_zero i
    exact standsBy_command hp fun x => ⟨_, _, _, _, rfl⟩
  case refine_9 =>
    obtain ⟨-, hf⟩ := Option.ite_none_right_eq_some.mp hf
    obtain rfl := Option.some.inj hf
    obtain rfl := Fin.fin_one_eq_zero i
    exact standsBy_writeNumNv hp fun x => ⟨_, _, _, _, rfl⟩
  all_goals
    simp only [List.forall_mem_cons, List.not_mem_nil, false_imp_iff, implies_true, and_true, List.forall_mem_map, Fin.ofNat_val_eq_self,
      Nat.one_mul, Fin.val_eq_zero]
  case refine_7 | refine_8 =>
    and_intros
    all_goals exact standsBy_fused fun good => standsBy_writeNumNv hp fun x => ⟨_, _, _, _, rfl⟩
  all_goals
    and_intros
    all_goals exact standsBy_command hp fun x => ⟨_, _, _, _, rfl⟩

theorem numRows_standBy : ∀ e ∈ plantRows ++ calRows ++ outputRows ++ hubRows, RowStandsBy e := by
  simp only [List.forall_mem_append]
  exact ⟨⟨⟨plantRows_standBy, calRows_standBy⟩, outputRows_standBy⟩, hubRows_standBy⟩

theorem blobRows_standBy : ∀ e ∈ blobRows, ∀ (i : Fin e.count) (p : Path), hostPath p = true → ∀ b : Bytes,
    StandsBy p ((e.base + e.stride * i) * 256 + e.sub) (e.act i p b) := by
  simp only [blobRows, List.forall_mem_cons, List.not_mem_nil, false_imp_iff, implies_true, and_true, Fin.ofNat_val_eq_self, Nat.one_mul,
    Fin.val_eq_zero]
  refine ⟨fun i p hp b => ?_, fun q p hp b => ?_, fun _ p hp b => ?_, fun m p hp b => ?_, fun c p hp b => ?_, fun _ p hp b => ?_, fun _ p hp b => ?_,
    fun _ p hp b => ?_⟩
  case refine_1 =>
    have hi : 64 * (Fin.ofNat 4 (i / 64)).val + (Fin.ofNat 64 i).val = i := by
      simp only [Fin.val_ofNat]
      omega
    have hkey : (0x4100 + i.val) * 256 + 1 = Obj.lutTable (64 * (Fin.ofNat 4 (i / 64)).val + (Fin.ofNat 64 i).val) := by rw [hi]
    rw [hkey]
    exact standsBy_writeBlob hp fun x => ⟨_, _, _, _, rfl⟩
  case refine_6 => exact standsBy_writeBlobNv hp fun x => ⟨_, _, _, rfl⟩
  case refine_7 => exact standsBy_fused fun good => standsBy_writeBlobNv hp fun x => ⟨_, _, _, rfl⟩
  all_goals exact standsBy_writeBlob hp fun x => ⟨_, _, _, _, rfl⟩

/-! ### The routing of a write -/

section
variable {p : Path} (hp : hostPath p = true)
include hp

theorem standsBy_writeBase (key : Nat) (v : DictVal) : StandsBy p key (writeBase p key v) := by
  have hplain : StandsBy p key (wk fun w => w.writeNum p key v (ownerCheck key) (ownerEffect key w)) :=
    standsBy_writeNum hp fun x => ⟨_, _, _, _, rfl⟩
  intro x hs
  unfold writeBase
  split
  · exact hplain x hs
  · split
    · split
      · exact hplain x hs
      · split
        · next f hf =>
          obtain ⟨e, he, i, rfl, rfl⟩ := atKey_eq_some hf
          exact blobRows_standBy e he i p hp _ x hs
        · exact standsBy_writeBlob hp (fun x => ⟨_, _, _, _, rfl⟩) x hs
    · split
      · next f hf =>
        obtain ⟨n, -, hrow⟩ := Option.bind_eq_some_iff.mp hf
        obtain ⟨row, hat, hact⟩ := Option.bind_eq_some_iff.mp hrow
        obtain ⟨e, he, i, rfl, rfl⟩ := atKey_eq_some hat
        exact numRows_standBy e he i p hp n f hact x hs
      · exact hplain x hs

theorem standsBy_modeRow {key : Nat} {n : Int} {f : Both → Both} (hf : modeRow p key n = some f) : StandsBy p key f := by
  unfold modeRow at hf
  split at hf
  · next hrun =>
    obtain rfl := Option.some.inj hf
    rw [hrun]
    exact standsBy_writeNum hp fun x => ⟨_, _, _, _, rfl⟩
  split at hf
  · obtain rfl := Option.some.inj hf
    exact standsBy_writeNumNv hp fun x => ⟨_, _, _, _, rfl⟩
  split at hf
  · next hreset =>
    obtain rfl := Option.some.inj hf
    obtain ⟨rfl, -⟩ : key = Obj.resetCmd ∧ _ := by simpa using hreset
    exact standsBy_writeNumNv hp fun x => ⟨_, _, _, _, rfl⟩
  split at hf
  · obtain rfl := Option.some.inj hf
    exact standsBy_writeNumNv hp fun x => ⟨_, _, _, _, rfl⟩
  split at hf
  · obtain rfl := Option.some.inj hf
    exact standsBy_writeNumNv hp fun x => ⟨_, _, _, _, rfl⟩
  split at hf
  · next s hs =>
    obtain ⟨hlt, rfl⟩ := objNo_eq_some hs
    lift s to Fin 4 using hlt
    obtain ⟨-, hf⟩ := Option.ite_none_right_eq_some.mp hf
    obtain rfl := Option.some.inj hf
    rw [Nat.one_mul, Fin.ofNat_val_eq_self]
    exact standsBy_writeNumNv hp fun x => ⟨_, _, _, _, rfl⟩
  · next q _ hq =>
    obtain ⟨hlt, rfl⟩ := objNo_eq_some hq
    lift q to Fin 32 using hlt
    obtain ⟨-, hf⟩ := Option.ite_none_right_eq_some.mp hf
    obtain rfl := Option.some.inj hf
    rw [Fin.ofNat_val_eq_self]
    exact standsBy_writeNumNv hp fun x => ⟨_, _, _, _, rfl⟩
  · cases hf

theorem standsBy_imageRow {key : Nat} {b : Bytes} {f : Both → Both} (hf : imageRow p key b = some f) : StandsBy p key f := by
  unfold imageRow at hf
  split at hf
  · next s hs =>
    obtain ⟨hlt, rfl⟩ := objNo_eq_some hs
    lift s to Fin 4 using hlt
    obtain rfl := Option.some.inj hf
    rw [Nat.one_mul, Fin.ofNat_val_eq_self]
    exact standsBy_writeBlobNv hp fun x => ⟨_, _, _, rfl⟩
  · next q _ hq =>
    obtain ⟨hlt, rfl⟩ := objNo_eq_some hq
    lift q to Fin 32 using hlt
    obtain rfl := Option.some.inj hf
    rw [Fin.ofNat_val_eq_self]
    exact standsBy_writeBlobNv hp fun x => ⟨_, _, _, rfl⟩
  · cases hf

theorem standsBy_writeMode (key : Nat) (v : DictVal) : StandsBy p key (writeMode p key v) := by
  intro x hs
  simp only [writeMode]
  split
  · next f hf =>
    split at hf
    · cases hf
    · split at hf
      · split at hf
        · exact standsBy_imageRow hp hf x hs
        · cases hf
      · obtain ⟨n, -, hrow⟩ := Option.bind_eq_some_iff.mp hf
        exact standsBy_modeRow hp hrow x hs
  · exact standsBy_writeBase hp key v x hs

theorem standsBy_writeOne (key : Nat) (v : DictVal) : StandsBy p key (writeOne p key v) := by
  intro x hs
  unfold writeOne
  split
  · exact standsBy_writeMode hp key v x hs
  next hkey =>
  obtain rfl : key = groupKey p := by
    by_contra hne
    simp [hne] at hkey
  split
  · exact standsBy_command hp (f := fun x => (x.1, groupOpen p x.2)) (fun x => ⟨_, _, _, _, rfl⟩) x hs
  split
  · exact standsBy_groupClose hp x hs
  split
  · exact standsBy_command hp (f := fun x => (x.1, groupAbort p x.2)) (fun x => ⟨_, _, _, _, rfl⟩) x hs
  · exact standsBy_writeMode hp _ v x hs

end

/-! ### The write of an object over a path, without a held access -/

theorem drainAll_of_nil {x : Both} (h : x.2.sys.pair.proposals = []) : drainAll x = x := by
  simp [drainAll, h]

/-- A write with no access held before and after it is its meaning, answered. -/
theorem writeAny_of_nil {p : Path} {key : Nat} {v : DictVal} {tag : Option Nat} {x : Both} (hx : x.2.sys.pair.proposals = [])
    (hy : (writeOne p key v x).2.sys.pair.proposals = [])
    (hz : ((writeOne p key v x).2.answerWrite p key tag).sys.pair.proposals = []) :
    writeAny p key v tag x = ((writeOne p key v x).1, (writeOne p key v x).2.answerWrite p key tag) := by
  simp only [writeAny, hx, hy, List.length_nil, Nat.lt_irrefl, if_false]
  rw [drainAll_of_nil hz, ite_self]

@[simp] theorem Work.answerWrite_none (w : Work) (p : Path) (key : Nat) : w.answerWrite p key none = w := by
  cases p <;> rfl

/-- Settles O5: every row that a write can be routed to is a write under the object's own key, and in SHADOW its access check comes first. -/
theorem shadowStandsBy : Obligations.ShadowStandsBy := by
  intro s p i x v hmode hp hheld
  obtain ⟨n, hw⟩ := standsBy_writeOne hp (objKey i.toNat x.toNat) v (s.nv, s.w) hmode
  have hany : writeAny p (objKey i.toNat x.toNat) v none (s.nv, s.w) =
      (s.nv, ({ s.w with freeCount := n }).refuse p (objKey i.toNat x.toNat) .standby) := by
    rw [writeAny_of_nil hheld] <;> simp [hw, hheld]
  obtain ⟨hlast, hres, hcount, hobject, honly, hsame⟩ := Work.refuses_refuse { s.w with freeCount := n } p (objKey i.toNat x.toNat) .standby
  refine ⟨_, ?_, hlast, hres, hcount, hobject, ?_, Work.sameBut_trans (s.w.sameBut_freeCount n _) hsame⟩
  · show onBoth (objectWrite p (.object i x v)) s = _
    rw [onBoth_eq]
    simp only [objectWrite, hany]
  · exact Work.only_trans (Work.only_mono (s.w.only_freeCount n) (by simp)) (Work.only_mono honly (by simp))

end Sys2Proof.Machine
end

section
/-! Every command answers a next state and leaves the queue alone: its meaning is a change of the working state and of the non-volatile part. -/
namespace Sys2Proof.Machine

/-- A meaning answers a next state, with the queue as it was. -/
def Answers (f : State → Host.Outcome State Fault Refusal) : Prop := ∀ s, ∃ t, f s = .next t ∧ t.pending = s.pending

/-- Each arm of the dispatcher is `onWork`, `onWorkNv` or `onBoth` of a change, and these answer `.next` by definition. -/
theorem exec_answers (c : Instr) : Answers (exec c) := by
  cases c with
  | _ => exact fun s => ⟨_, rfl, rfl⟩

/-- Settles O2: a clock on an empty queue, and else the command at the front, on the rest of the queue, which it keeps. -/
theorem everyStepAnswersAState : Obligations.EveryStepAnswersAState := by
  rintro ⟨nv, w, q⟩
  cases q with
  | nil => exact ⟨_, step_pending_nil rfl, rfl⟩
  | cons c q =>
    obtain ⟨t, ht, hq⟩ := exec_answers c ⟨nv, w, q⟩
    exact ⟨t, (step_pending_cons c q ⟨nv, w, q⟩).trans ht, hq⟩

end Sys2Proof.Machine
end

section
/-! The state after reset: nothing is stored, so every object reads its default (R39, R88). -/
namespace Sys2Proof.Machine

theorem defaultOf_of_findRow {i x : Nat} (hx : x < 256) {r : ObjRow} (h : findRow i x = some r) : defaultOf (objKey i x) = r.default i x := by
  simp [defaultOf, hx, h]

theorem defaultOf_of_no_row {i x : Nat} (hx : x < 256) (h : findRow i x = none) : defaultOf (objKey i x) = 0 := by
  simp [defaultOf, hx, h]

theorem reset_get (k : Nat) : State.reset.w.get k = defaultOf k := rfl

theorem reset_valueAt (k n : Nat) : State.reset.w.valueAt k n = defaultOf k := rfl

/-- Settles O3: the registers, the changes and every queue of `State.reset` are empty lists, and a register that nothing has written reads the default
of its row. -/
theorem resetHoldsDefaults : Obligations.ResetHoldsDefaults := by
  refine ⟨rfl, by decide, fun i x r h => ?_, fun i x h => ?_, reset_valueAt, fun p => ?_, rfl, rfl, rfl, rfl, rfl, rfl, rfl, rfl, rfl, rfl, rfl, rfl,
    fun k => ?_, rfl, reset_memory_wf⟩
  · rw [reset_get, defaultOf_of_findRow x.isLt h]
  · rw [reset_get, defaultOf_of_no_row x.isLt h]
  · cases p <;> rfl
  · exact List.getD_replicate _ k.isLt

end Sys2Proof.Machine
end

section
/-! What an accepted write does, part by part: its journal entry (R61), the ENTRY to the partner (R475), the value stored by its effect class (R43, R46)
and the result shown (R57). -/
namespace Sys2Proof.Machine

/-! ### The journal entry -/

theorem Work.journalPut_head (w : Work) (e : TallyEntry) : (w.journalPut e).journal.head = w.journal.head + 1 := by
  unfold Work.journalPut
  dsimp only
  split <;> rfl

theorem Work.journalPut_entries (w : Work) (e : TallyEntry) :
    (w.journalPut e).journal.entries = { e with seq := w.journal.head + 1 } :: w.journal.entries.take (journalSize - 1) := by
  unfold Work.journalPut
  dsimp only
  split <;> rfl

theorem Work.only_journalPut (w : Work) (e : TallyEntry) : w.only (w.journalPut e) [.journal] := by
  intro q hq
  cases q <;> simp [Part.same] at hq ⊢

theorem Work.sameBut_journalPut (w : Work) (e : TallyEntry) : w.sameBut (w.journalPut e) [Obj.overwritten] := by
  intro k hk
  unfold Work.journalPut
  dsimp only
  split
  · exact (w.get_bump _ _ k).trans (if_neg fun h => hk (by simp [← h]))
  · rfl

theorem Work.only_tally (w : Work) (p : Path) (key raw ef : Nat) (g : Bool) : w.only (w.tally p key raw ef g) [.journal] := w.only_journalPut _

theorem Work.sameBut_tally (w : Work) (p : Path) (key raw ef : Nat) (g : Bool) : w.sameBut (w.tally p key raw ef g) [Obj.overwritten] :=
  w.sameBut_journalPut _

theorem Work.tally_head (w : Work) (p : Path) (key raw ef : Nat) (g : Bool) : (w.tally p key raw ef g).journal.head = w.journal.head + 1 :=
  w.journalPut_head _

theorem Work.tally_effectFrame (w : Work) (p : Path) (key raw ef : Nat) (g : Bool) :
    (w.tally p key raw ef g).journal.entries.head?.map (·.effectFrame) = some ef := by
  rw [Work.tally, w.journalPut_entries]
  rfl

theorem Work.journals_tally (w : Work) (p : Path) (key raw ef : Nat) (g : Bool) : w.journals (w.tally p key raw ef g) p key raw := by
  refine ⟨w.tally_head p key raw ef g, _, _, w.journalPut_entries _, rfl, ?_, rfl, rfl, rfl⟩
  simp only [objKey]
  omega

theorem Work.only_tallyBlob (w : Work) (p : Path) (key : Nat) (b : Bytes) (ef : Nat) : w.only (w.tallyBlob p key b ef) [.journal] := w.only_journalPut _

theorem Work.sameBut_tallyBlob (w : Work) (p : Path) (key : Nat) (b : Bytes) (ef : Nat) : w.sameBut (w.tallyBlob p key b ef) [Obj.overwritten] :=
  w.sameBut_journalPut _

theorem Work.tallyBlob_head (w : Work) (p : Path) (key : Nat) (b : Bytes) (ef : Nat) :
    (w.tallyBlob p key b ef).journal.head = w.journal.head + 1 := w.journalPut_head _

/-! ### The frame that a write is accepted in -/

/-- The present frame rests on the axis and the committed values. -/
theorem Work.frame_congr {a b : Work} (haxis : b.axis = a.axis) (hconf : b.d.conf = a.d.conf) : b.frame = a.frame := by
  simp only [Work.frame, Work.frameOf, Work.frameLen, Work.confN, Work.conf, haxis, hconf]

theorem Work.frame_of_only {a b : Work} {ps : List Part} (h : a.only b ps) (haxis : Part.axis ∉ ps) (hconf : Part.conf ∉ ps) : b.frame = a.frame :=
  Work.frame_congr (h .axis haxis) (h .conf hconf).1

/-- Outside a pair no other module takes part: the mark rests on PAIR_STATE. -/
theorem Work.pairedPrimary_of_sameBut {a b : Work} {ks : List Nat} (h : a.sameBut b ks) (hk : Obj.pairState ∉ ks) :
    b.pairedPrimary = a.pairedPrimary := by
  simp only [Work.pairedPrimary, h _ hk]

/-! ### The ENTRY to the partner -/

theorem Work.only_ylSend (w : Work) (peer cls typ : Nat) (fields : List Nat) (data : Bytes) :
    w.only (w.ylSend peer cls typ fields data).1 [.sys, .sent] := by
  intro q hq
  unfold Work.ylSend
  split
  · exact q.same_refl w
  · cases q <;> simp [Part.same] at hq ⊢

theorem Work.only_sendEntry (w : Work) (p : Path) (key ef raw : Nat) (data : Bytes) : w.only (w.sendEntry p key ef raw data) [.sys, .sent] := by
  unfold Work.sendEntry
  split
  · exact w.only_ylSend _ _ _ _ _
  · exact w.only_refl _

theorem Work.sendEntry_of_unpaired {w : Work} (h : w.pairedPrimary = false) (p : Path) (key ef raw : Nat) (data : Bytes) :
    w.sendEntry p key ef raw data = w := by
  simp [Work.sendEntry, h]

/-! ### The stored value -/

theorem Work.only_addChange (w : Work) (n k : Nat) (v : Int) : w.only (w.addChange n k v) [.changes] := by
  intro q hq
  cases q <;> simp [Part.same] at hq ⊢

theorem Work.only_setBlob (w : Work) (k : Nat) (b : Bytes) : w.only (w.setBlob k b) [.blobs] := by
  intro q hq
  cases q <;> simp [Part.same] at hq ⊢

theorem Work.only_store (w : Work) (r : ObjRow) (key : Nat) (v : Int) (ef : Nat) : w.only (w.store r key v ef) [.changes] := by
  have hset : ∀ u : Int, w.only (w.set key u) [.changes] := fun u => w.only_set key u _
  have hput : ∀ n, w.only ((w.set key v).addChange n key v) [.changes] := fun n => Work.only_trans (hset v) (Work.only_addChange _ n key v)
  unfold Work.store
  split
  case h_1 => exact w.only_refl _
  case h_2 => exact hset _
  case h_7 => exact hset _
  all_goals exact hput _

theorem Work.sameBut_store (w : Work) (r : ObjRow) (key : Nat) (v : Int) (ef : Nat) : w.sameBut (w.store r key v ef) [key] := by
  have hset : ∀ u : Int, w.sameBut (w.set key u) [key] := fun u => w.sameBut_set u (by simp)
  unfold Work.store
  split
  case h_1 => exact w.sameBut_refl _
  all_goals exact hset _

theorem Work.store_imm (w : Work) {r : ObjRow} (hwo : r.access ≠ .wo) (h : r.effect = .imm) (key : Nat) (v : Int) (ef : Nat) :
    w.store r key v ef = w.set key v := by
  cases ha : r.access <;> simp_all [Work.store]

theorem Work.store_w1c (w : Work) {r : ObjRow} (hwo : r.access ≠ .wo) (h : r.effect = .w1c) (key : Nat) (v : Int) (ef : Nat) :
    w.store r key v ef = w.set key (Int.ofNat (w.getN key &&& ((2 ^ 64 - 1) ^^^ v.toNat))) := by
  cases ha : r.access <;> simp_all [Work.store]

/-- A class of frames, and SPAN where it waits for one, records the value under its effect frame. -/
theorem Work.store_frame (w : Work) {r : ObjRow} (hwo : r.access ≠ .wo) {ef : Nat}
    (h : r.effect = .frame ∨ r.effect = .frame2 ∨ r.effect = .span ∧ ef ≠ w.frame) (key : Nat) (v : Int) :
    w.store r key v ef = (w.set key v).addChange ef key v := by
  rcases h with h | h | ⟨h, hne⟩ <;> cases ha : r.access <;> simp_all [Work.store]

/-! ### The value in effect at a frame (R46) -/

theorem Work.valueAt_congr {a b : Work} (h : b.d.changes = a.d.changes) (key m : Nat) : b.valueAt key m = a.valueAt key m := by
  simp only [Work.valueAt, h]

theorem Work.valueAt_addChange (w : Work) (n key : Nat) (v : Int) (m : Nat) :
    (w.addChange n key v).valueAt key m = if n ≤ m then v else w.valueAt key m := by
  unfold Work.valueAt Work.addChange
  by_cases h : n ≤ m <;> simp [h]

theorem Work.blobAt_congr {a b : Work} (h : b.d.blobChanges = a.d.blobChanges) (key m : Nat) : b.blobAt key m = a.blobAt key m := by
  simp only [Work.blobAt, h]

theorem Work.blobAt_addBlobChange (w : Work) (n key : Nat) (b : Bytes) (m : Nat) :
    (w.addBlobChange n key b).blobAt key m = if n ≤ m then b else w.blobAt key m := by
  unfold Work.blobAt Work.addBlobChange
  by_cases h : n ≤ m <;> simp [h]

/-! ### The acceptance of bytes -/

/-- Bytes of a class of frames are in effect from their effect frame on, and before it what was in effect (R46). -/
theorem Work.blobAt_acceptBlob (w : Work) (p : Path) {r : ObjRow} (key : Nat) (b : Bytes) (ef : Nat) (h : r.effect = .frame ∨ r.effect = .frame2)
    (m : Nat) : (w.acceptBlob p r key b ef).blobAt key m = if ef ≤ m then b else w.blobAt key m := by
  have honly : w.only ((w.tallyBlob p key b ef).sendEntry p key ef b.length b) [.journal, .sys, .sent] :=
    Work.only_trans (Work.only_mono (w.only_tallyBlob p key b ef) (by simp)) (Work.only_mono (Work.only_sendEntry _ p key ef _ b) (by simp))
  have hstored : ∀ u : Work, (if r.access == .wo then u else u.setBlob key b).d.blobChanges = u.d.blobChanges := fun u => by split <;> rfl
  have hchanges := (honly .changes (by decide)).2
  rcases h with h | h <;>
    simp only [Work.acceptBlob, h, Work.blobAt_congr (Work.setResult_d_blobChanges ..), Work.blobAt_addBlobChange, Work.blobAt_congr (hstored _),
      Work.blobAt_congr hchanges]

theorem Work.acceptBlob_head (w : Work) (p : Path) (r : ObjRow) (key : Nat) (b : Bytes) (ef : Nat) :
    (w.acceptBlob p r key b ef).journal.head = w.journal.head + 1 := by
  have hentry := (w.tallyBlob p key b ef).only_sendEntry p key ef b.length b .journal (by decide)
  simp only [Part.same] at hentry
  have hstored : ∀ u : Work, (if r.access == .wo then u else u.setBlob key b).journal = u.journal := fun u => by split <;> rfl
  simp only [Work.acceptBlob, Work.setResult_journal]
  split <;> simp only [Work.addBlobChange_journal, hstored, hentry, Work.tallyBlob_head]

/-! ### The acceptance of a number -/

/-- An acceptance journals its write and nothing else. -/
theorem Work.acceptNum_journal (w : Work) (p : Path) (r : ObjRow) (key : Nat) (v : Int) (ef : Nat) (g : Bool) :
    (w.acceptNum p r key v ef g).journal = (w.tally p key (field (8 * r.typ.size) v) ef g).journal := by
  rw [Work.acceptNum, Work.setResult_journal]
  exact (Work.only_store _ r key v ef .journal (by decide)).trans (Work.only_sendEntry _ p key ef _ [] .journal (by decide))

/-- The value accepted is in effect from its effect frame on, and before that frame what was in effect (R46). -/
theorem Work.valueAt_acceptNum (w : Work) (p : Path) {r : ObjRow} (key : Nat) (v : Int) {ef : Nat} (g : Bool) (hwo : r.access ≠ .wo)
    (h : r.effect = .frame ∨ r.effect = .frame2 ∨ r.effect = .span ∧ ef ≠ w.frame) (m : Nat) :
    (w.acceptNum p r key v ef g).valueAt key m = if ef ≤ m then v else w.valueAt key m := by
  have honly : w.only ((w.tally p key (field (8 * r.typ.size) v) ef g).sendEntry p key ef (field (8 * r.typ.size) v) []) [.journal, .sys, .sent] :=
    Work.only_trans (Work.only_mono (w.only_tally p key _ ef g) (by simp)) (Work.only_mono (Work.only_sendEntry _ p key ef _ []) (by simp))
  have hframe := Work.frame_of_only honly (by decide) (by decide)
  have hchanges := (honly .changes (by decide)).1
  rw [Work.acceptNum, Work.valueAt_congr (Work.setResult_d_changes ..), Work.store_frame _ hwo (by rwa [hframe]), Work.valueAt_addChange,
    Work.valueAt_congr (Work.set_d_changes ..), Work.valueAt_congr hchanges]

theorem Work.acceptNum_of_unpaired {w : Work} (h : w.pairedPrimary = false) (p : Path) (r : ObjRow) (key : Nat) (v : Int) (ef : Nat) (g : Bool) :
    w.acceptNum p r key v ef g = ((w.tally p key (field (8 * r.typ.size) v) ef g).store r key v ef).setResult p (w.resOf ef) := by
  have hunpaired : (w.tally p key (field (8 * r.typ.size) v) ef g).pairedPrimary = false :=
    (Work.pairedPrimary_of_sameBut (w.sameBut_tally p key _ ef g) (by decide)).trans h
  rw [Work.acceptNum, Work.sendEntry_of_unpaired hunpaired]

theorem Work.resOf_accepted (w : Work) (ef : Nat) : (w.resOf ef).code ≤ 0xFF := by
  unfold Work.resOf
  split <;> decide

/-- What is journaled and then changed within a frame, and shown as accepted, obeys its write. -/
theorem Work.obeys_of_tally {w b : Work} {p : Path} {key raw ef : Nat} {g : Bool} {ps : List Part} {ks : List Nat}
    (honly : (w.tally p key raw ef g).only b ps) (hsame : (w.tally p key raw ef g).sameBut b ks) (hj : Part.journal ∉ ps) {res : Res}
    (hres : res.code ≤ 0xFF) : w.obeys (b.setResult p res) p key raw ps ks := by
  have hjournal : (b.setResult p res).journal = (w.tally p key raw ef g).journal := (b.setResult_journal p res).trans (honly .journal hj)
  obtain ⟨hhead, e, es, hentries, hentry⟩ := w.journals_tally p key raw ef g
  refine ⟨⟨by rw [hjournal]; exact hhead, e, es, by rw [hjournal]; exact hentries, hentry⟩, by rwa [b.setResult_lastRes], ?_, ?_, ?_⟩
  · intro k hk
    rw [b.get_setResult, if_pos hk, b.setResult_lastRes]
  · refine Work.only_trans (Work.only_mono (w.only_tally p key raw ef g) (by simp)) ?_
    exact Work.only_trans (Work.only_mono honly (by simp)) (Work.only_mono (b.only_setResult p res) (by simp))
  · intro k hk
    simp only [acceptKeys, List.cons_append, List.mem_cons, List.mem_append, not_or] at hk
    obtain ⟨hover, hresult, hkeys⟩ := hk
    rw [b.sameBut_setResult p res k hresult, hsame k hkeys, w.sameBut_tally p key raw ef g k (by simpa using hover)]

end Sys2Proof.Machine
end

section
/-! The write of a plain object: no row of the command table and no owner's rule takes it, so it is checked, accepted and stored as its row says. -/
namespace Sys2Proof.Machine

theorem indexExists_of_findRow {i x : Nat} {r : ObjRow} (h : findRow i x = some r) : indexExists i = true := by
  have hhits : r.hits i x = true := List.find?_some (p := fun r : ObjRow => r.hits i x) h
  simp only [ObjRow.hits, Bool.and_eq_true] at hhits
  exact List.any_eq_true.mpr ⟨r, List.mem_of_find?_eq_some h, hhits.1.1⟩

/-! ### What a plain key rules out -/

section
variable {p : Path} {key : Nat} (hk : plainKey p key = true)
include hk

theorem rules_of_plainKey : foreignGroup p key = false ∧ key ≠ groupKey p ∧ modeRow p key 0 = none ∧ key ≠ Obj.calCmd ∧ key ≠ Obj.resetCmd ∧
    key ≠ Obj.commit ∧ objNo 0x2010 1 4 5 key = none ∧ objNo 0x3004 0x20 32 1 key = none ∧ imageRow p key [] = none ∧
    atKey (plantRows ++ calRows ++ outputRows ++ hubRows) key = none ∧ atKey blobRows key = none ∧ atKey blobChecks key = none ∧
    atKey (setupChecks ++ recipeChecks ++ streamChecks ++ ringChecks ++ hubChecks) key = none ∧ atKey ownerEffects key = none := by
  simpa only [plainKey, Bool.and_eq_true, Bool.not_eq_true', bne_iff_ne, Option.isNone_iff_eq_none, and_assoc] using hk

theorem modeRow_of_plainKey (n : Int) : modeRow p key n = none := by
  obtain ⟨-, -, hzero, hcal, hreset, hcommit, herase, hport, -⟩ := rules_of_plainKey hk
  have hrun : key ≠ Obj.runCmd := fun h => by simp [modeRow, h] at hzero
  have hload : key ≠ Obj.loadProfile := fun h => by simp [modeRow, h] at hzero
  simp [modeRow, hrun, hcal, hreset, hcommit, hload, herase, hport]

theorem imageRow_of_plainKey (b : Bytes) : imageRow p key b = none := by
  obtain ⟨-, -, -, -, -, -, -, -, himage, -⟩ := rules_of_plainKey hk
  unfold imageRow at himage ⊢
  split at himage <;> simp_all

theorem ownerCheck_of_plainKey : ownerCheck key = noCheck := by
  obtain ⟨-, -, -, -, -, -, -, -, -, -, -, -, hcheck, -⟩ := rules_of_plainKey hk
  simp only [ownerCheck, hcheck, Option.getD_none]

theorem ownerEffect_of_plainKey (old : Work) : ownerEffect key old = fun _ w => w := by
  obtain ⟨-, -, -, -, -, -, -, -, -, -, -, -, -, heffect⟩ := rules_of_plainKey hk
  simp only [ownerEffect, heffect, Option.getD_none]

/-- A plain number is written without a check or effect of an owner. -/
theorem writeOne_plainNum {r : ObjRow} (hf : findRow (key / 256) (key % 256) = some r) (hb : r.typ.isBlob = false) (v : DictVal) (x : Both) :
    writeOne p key v x = (x.1, x.2.writeNum p key v noCheck (fun _ w => w)) := by
  obtain ⟨-, hgroup, -, -, -, -, -, -, -, hrow, -⟩ := rules_of_plainKey hk
  have hmode : (asNum r v).bind (modeRow p key) = none := by
    cases asNum r v <;> simp [modeRow_of_plainKey hk]
  have hbase : (asNum r v).bind (fun n => (atKey (plantRows ++ calRows ++ outputRows ++ hubRows) key).bind (fun f => f p n)) = none := by
    cases asNum r v <;> simp only [Option.bind_none, Option.bind_some, hrow]
  simp only [writeOne, hgroup, ne_eq, not_false_eq_true, decide_true, Bool.true_or, if_true, writeMode, writeBase, hf, hb, Bool.false_eq_true,
    if_false, hmode, hbase, wk, ownerCheck_of_plainKey hk, ownerEffect_of_plainKey hk]

/-- Plain bytes are written without a check or effect of an owner. -/
theorem writeOne_plainBytes {r : ObjRow} (hf : findRow (key / 256) (key % 256) = some r) (hb : r.typ.isBlob = true) (b : Bytes) (x : Both) :
    writeOne p key (.bytes b) x = (x.1, x.2.writeBlob p key b (fun _ _ => none) (fun _ w => w)) := by
  obtain ⟨-, hgroup, -, -, -, -, -, -, -, -, hrow, hcheck, -⟩ := rules_of_plainKey hk
  simp only [writeOne, hgroup, ne_eq, not_false_eq_true, decide_true, Bool.true_or, if_true, writeMode, writeBase, hf, hb, wk,
    imageRow_of_plainKey hk, hrow, hcheck, Option.getD_none]

end

/-! ### The checks of a write of a ready path -/

/-- A value of the right length is checked as the number it spells. -/
theorem Work.checkNum_bytes (w : Work) (p : Path) {key : Nat} {r : ObjRow} {b : Bytes} (hf : findRow (key / 256) (key % 256) = some r)
    (hlen : b.length = r.typ.size) : w.checkNum p key (.bytes b) = w.checkNum p key (.num (r.typ.decode b)) := by
  have hrow : ∀ r', w.checkAccess p key = .ok r' → r' = r := by
    intro r' h
    simp only [Work.checkAccess, hf] at h
    split_ifs at h
    exact (Except.ok.inj h).symm
  unfold Work.checkNum
  cases h : w.checkAccess p key with
  | error e => rfl
  | ok r' =>
    obtain rfl := hrow r' h
    simp only [hlen, if_true]

section
variable {w : Work} {p : Path} (hr : w.ready p = true)
include hr

theorem Work.unpaired_of_ready : w.pairedPrimary = false := ((w.ready_iff p).mp hr).2.1

theorem Work.dictOpen_of_ready : w.mode.dictOpen = true := ((w.ready_iff p).mp hr).1

theorem Work.no_proposals_of_ready : w.sys.pair.proposals = [] := List.isEmpty_iff.mp ((w.ready_iff p).mp hr).2.2.1

/-- The access check of an object that has a row and is no other path's group asks whether it is read-only. -/
theorem Work.checkAccess_of_ready {key : Nat} {r : ObjRow} (hf : findRow (key / 256) (key % 256) = some r) (hg : foreignGroup p key = false) :
    w.checkAccess p key = if r.access == .ro then .error .readOnly else .ok r := by
  obtain ⟨-, -, -, hshadow, -⟩ := (w.ready_iff p).mp hr
  simp [Work.checkAccess, hshadow, indexExists_of_findRow hf, hf, hg]

/-- A write that fails its checks is refused. -/
theorem Work.writeNum_of_error {key : Nat} {v : DictVal} {e : Res} (hc : w.checkNum p key v = .error e) (chk : OwnerCheck)
    (eff : Int → Work → Work) (ef : Option Nat) : w.writeNum p key v chk eff ef = w.refuse p key e := by
  simp only [Work.writeNum, Work.dictOpen_of_ready hr, hc, Bool.not_true, Bool.false_eq_true, if_false]

/-- An accepted number obeys its write; of the parts it may change what its effect class stores. -/
theorem Work.obeys_acceptNum {r : ObjRow} {key : Nat} {v : Int} {ef : Nat} {ps : List Part}
    (hstore : (w.tally p key (field (8 * r.typ.size) v) ef false).only ((w.tally p key (field (8 * r.typ.size) v) ef false).store r key v ef) ps)
    (hj : Part.journal ∉ ps) : w.obeys (w.acceptNum p r key v ef) p key (field (8 * r.typ.size) v) ps [key] := by
  rw [Work.acceptNum_of_unpaired (Work.unpaired_of_ready hr)]
  exact Work.obeys_of_tally hstore (Work.sameBut_store _ r key v ef) hj (w.resOf_accepted ef)

theorem Work.acceptNum_sys (r : ObjRow) (key : Nat) (v : Int) (ef : Nat) : (w.acceptNum p r key v ef).sys = w.sys := by
  rw [Work.acceptNum_of_unpaired (Work.unpaired_of_ready hr), Work.setResult_sys]
  exact (Work.only_store _ r key v ef .sys (by decide)).trans (w.tally_sys ..)

end

/-! ### A plain number within the range of its row -/

section
variable {p : Path} {key : Nat} {n : Int} {r : ObjRow} (hn : plainNum p key n r = true)
include hn

theorem row_of_plainNum : plainKey p key = true ∧ findRow (key / 256) (key % 256) = some r ∧ r.typ.isBlob = false ∧
    (r.access = .rw ∨ r.access = .rwl) ∧ r.rng.check r.typ n = none := by
  simpa only [plainNum, Bool.and_eq_true, Bool.or_eq_true, decide_eq_true_eq, Bool.not_eq_true', beq_iff_eq, Option.isNone_iff_eq_none, and_assoc]
    using hn

theorem not_wo_of_plainNum : r.access ≠ .wo := by
  obtain ⟨-, -, -, ha | ha, -⟩ := row_of_plainNum hn <;> simp [ha]

/-- The results of the paths are read-only, so no plain object is one of them. -/
theorem resultKey_ne_of_plainNum (q : Path) : resultKey q ≠ some key := by
  obtain ⟨-, hf, -, ha, -⟩ := row_of_plainNum hn
  intro h
  have hro : ∀ k ∈ [Obj.resultPcie, Obj.resultCoe, Obj.resultYalind], (findRow (k / 256) (k % 256)).map (·.access) = some .ro := by decide
  have := hro key (resultKey_mem h)
  rw [hf] at this
  rcases ha with ha | ha <;> simp [ha] at this

variable {w : Work} (hr : w.ready p = true)
include hr

theorem Work.checkNum_of_plainNum : w.checkNum p key (.num n) = .ok (r, r.mask n) := by
  obtain ⟨hk, hf, hb, ha, hrange⟩ := row_of_plainNum hn
  have hmode : w.checkMode p r = none := by rcases ha with ha | ha <;> simp [Work.checkMode, ha]
  have hro : r.access ≠ .ro := by rcases ha with ha | ha <;> simp [ha]
  exact w.checkNum_row p key n r hr (indexExists_of_findRow hf) hf (rules_of_plainKey hk).1 hro hb hrange hmode

theorem Work.writeNum_of_plainNum : w.writeNum p key (.num n) noCheck (fun _ w => w) = w.acceptNum p r key (r.mask n) (w.effectFrame r.effect) :=
  w.writeNum_ready p key _ _ _ none r _ hr (Work.checkNum_of_plainNum hn hr) rfl

/-- After its acceptance the object reads what its effect class has stored. -/
theorem Work.get_acceptNum_of_plainNum (v : Int) (ef : Nat) :
    (w.acceptNum p r key v ef).get key = ((w.tally p key (field (8 * r.typ.size) v) ef false).store r key v ef).get key := by
  rw [Work.acceptNum_of_unpaired (Work.unpaired_of_ready hr), Work.get_setResult, if_neg (resultKey_ne_of_plainNum hn p)]

end

/-! ### The write over a path -/

/-- A command of which the meaning changes both parts answers what that change makes of them. -/
theorem exec_of_onBoth {c : Instr} {s : State} {f : Both → Both} {nv : NonVol} {w : Work} (hc : exec c s = onBoth f s)
    (h : f (s.nv, s.w) = (nv, w)) : exec c s = .next { s with nv := nv, w := w } := by
  rw [hc, onBoth_eq, h]

/-- The write of a plain number over a path that is ready is accepted with its effect frame. -/
theorem exec_objectWrite_plainNum {s : State} {p : Path} {i : BitVec 16} {x : BitVec 8} {v : Int} {r : ObjRow} (hr : s.w.ready p = true)
    (hn : plainNum p (objKey i.toNat x.toNat) v r = true) :
    exec (.objectWrite p (.object i x (.num v))) s =
      .next { s with w := s.w.acceptNum p r (objKey i.toNat x.toNat) (r.mask v) (s.w.effectFrame r.effect) } := by
  obtain ⟨hk, hf, hb, -⟩ := row_of_plainNum hn
  have hone := writeOne_plainNum hk hf hb (.num v) (s.nv, s.w)
  rw [Work.writeNum_of_plainNum hn hr] at hone
  have hheld := Work.no_proposals_of_ready hr
  refine exec_of_onBoth (f := objectWrite p (.object i x (.num v))) (nv := s.nv) rfl ?_
  rw [objectWrite, writeAny_of_nil hheld] <;> simp [hone, Work.acceptNum_sys hr, hheld]

/-- The write of a plain number that fails its checks over a path that is ready is refused. -/
theorem exec_objectWrite_refused {s : State} {p : Path} {i : BitVec 16} {x : BitVec 8} {v : Int} {r : ObjRow} {e : Res} (hr : s.w.ready p = true)
    (hk : plainKey p (objKey i.toNat x.toNat) = true) (hf : findRow i.toNat x.toNat = some r) (hb : r.typ.isBlob = false)
    (hc : s.w.checkNum p (objKey i.toNat x.toNat) (.num v) = .error e) :
    exec (.objectWrite p (.object i x (.num v))) s = .next { s with w := s.w.refuse p (objKey i.toNat x.toNat) e } := by
  have hone := writeOne_plainNum hk (by rwa [objKey_div_toNat, objKey_mod_toNat]) hb (.num v) (s.nv, s.w)
  rw [Work.writeNum_of_error hr hc] at hone
  have hheld := Work.no_proposals_of_ready hr
  refine exec_of_onBoth (f := objectWrite p (.object i x (.num v))) (nv := s.nv) rfl ?_
  rw [objectWrite, writeAny_of_nil hheld] <;> simp [hone, hheld]

theorem Work.checkNum_of_refused {w : Work} {p : Path} {key : Nat} {v : Int} {r : ObjRow} {e : Res} (hr : w.ready p = true)
    (hg : foreignGroup p key = false) (hf : findRow (key / 256) (key % 256) = some r) (hb : r.typ.isBlob = false)
    (he : r.access = .ro ∧ e = .readOnly ∨ (r.access = .rw ∨ r.access = .rwl) ∧ r.rng.check r.typ v = some e) :
    w.checkNum p key (.num v) = .error e := by
  have haccess := Work.checkAccess_of_ready hr hf hg
  rcases he with ⟨hro, rfl⟩ | ⟨hrw, hrange⟩
  · simp [Work.checkNum, haccess, hro]
  · have hne : r.access ≠ .ro := by rcases hrw with h | h <;> simp [h]
    simp [Work.checkNum, haccess, hne, hb, hrange]

/-- The status flags are not the count of overwritten journal entries. -/
theorem ne_overwritten_of_w1c {key : Nat} {r : ObjRow} (hf : findRow (key / 256) (key % 256) = some r) (h : r.effect = .w1c) :
    key ≠ Obj.overwritten := by
  rintro rfl
  have hother : (findRow (Obj.overwritten / 256) (Obj.overwritten % 256)).map (·.effect) ≠ some .w1c := by decide
  exact hother (by rw [hf, Option.map_some, h])

/-- Settles O9: a plain write is an acceptance or a refusal, and what an acceptance stores follows the effect class. -/
theorem objectWritesAreAcceptedOrRefused : Obligations.ObjectWritesAreAcceptedOrRefused := by
  refine ⟨fun s p i x v r hr hn he => ?_, fun s p i x v r hr hn he => ?_, fun s p i x v r hr hn he => ?_,
    fun s p i x v r e hr hk hf hb he => ?_⟩
  · have hstore := fun w : Work => w.store_imm (not_wo_of_plainNum hn) he (objKey i.toNat x.toNat) (r.mask v) (s.w.effectFrame r.effect)
    refine ⟨s.nv, _, exec_objectWrite_plainNum hr hn, Work.obeys_acceptNum hr ?_ (by simp), ?_, rfl⟩
    · rw [hstore]
      exact Work.only_set _ _ _ _
    · rw [Work.get_acceptNum_of_plainNum hn hr, hstore, Work.get_set_same]
  · have hstore := fun w : Work => w.store_w1c (not_wo_of_plainNum hn) he (objKey i.toNat x.toNat) (r.mask v) (s.w.effectFrame r.effect)
    obtain ⟨-, hf, -⟩ := row_of_plainNum hn
    refine ⟨s.nv, _, exec_objectWrite_plainNum hr hn, Work.obeys_acceptNum hr ?_ (by simp), ?_, rfl⟩
    · rw [hstore]
      exact Work.only_set _ _ _ _
    · rw [Work.get_acceptNum_of_plainNum hn hr, hstore, Work.get_set_same, Work.getN, Work.get_tally _ _ _ _ _ _ _ (ne_overwritten_of_w1c hf he),
        Work.getN]
  · have hstore := fun w : Work => w.store_frame (not_wo_of_plainNum hn) (ef := s.w.frame + 1) (.inl he) (objKey i.toNat x.toNat) (r.mask v)
    have hvalue := s.w.valueAt_acceptNum p (objKey i.toNat x.toNat) (r.mask v) (ef := s.w.frame + 1) false (not_wo_of_plainNum hn) (.inl he)
    have hexec := exec_objectWrite_plainNum hr hn
    rw [he] at hexec
    refine ⟨s.nv, _, hexec, Work.obeys_acceptNum hr (Work.only_store _ r _ _ _) (by simp), ?_, ?_, rfl, fun m hm => ?_, fun m hm => ?_⟩
    · show (s.w.acceptNum p r _ _ (s.w.frame + 1)).get _ = _
      rw [Work.get_acceptNum_of_plainNum hn hr, hstore, Work.get_addChange, Work.get_set_same]
    · show (s.w.acceptNum p r _ _ (s.w.frame + 1)).lastRes = _
      simp [Work.acceptNum, Work.resOf, Res.code]
    · exact (hvalue m).trans (if_pos hm)
    · exact (hvalue m).trans (if_neg (by omega))
  · have hc := Work.checkNum_of_refused hr (rules_of_plainKey hk).1 (by rwa [objKey_div_toNat, objKey_mod_toNat]) hb he
    exact ⟨s.nv, _, exec_objectWrite_refused hr hk hf hb hc, s.w.refuses_refuse p _ e, rfl⟩

/-- The classes of which a value waits for its effect frame, where that frame is not the present one. -/
theorem waits_of_lt {w : Work} {r : ObjRow} (he : r.effect = .frame ∨ r.effect = .span) (hlt : w.frame < w.effectFrame r.effect) :
    r.effect = .frame ∨ r.effect = .frame2 ∨ r.effect = .span ∧ w.effectFrame r.effect ≠ w.frame :=
  he.imp id fun h => .inr ⟨h, hlt.ne'⟩

/-- Settles O8: an acceptance puts its value in front of the changes, and the value in effect is the first one of which the frame has come. -/
theorem laterWritesGovernByFrame : Obligations.LaterWritesGovernByFrame := by
  refine ⟨fun s p q i x v₁ v₂ r hr hn₁ hn₂ he hlt => ?_, fun w p r key v ef g hwo he => ?_, fun w p r key b ef he => ?_⟩
  · refine ⟨s.nv, _, exec_objectWrite_plainNum hr hn₁, (Work.obeys_acceptNum hr (Work.only_store _ r _ _ _) (by simp)).1,
      by rw [Work.acceptNum_journal, Work.tally_effectFrame], fun u hu hru hltu => ?_⟩
    refine ⟨u.nv, _, exec_objectWrite_plainNum hru hn₂, (Work.obeys_acceptNum hru (Work.only_store _ r _ _ _) (by simp)).1,
      by rw [Work.acceptNum_journal, Work.tally_effectFrame], fun m => ?_⟩
    rw [Work.valueAt_acceptNum _ _ _ _ _ (not_wo_of_plainNum hn₂) (waits_of_lt he hltu), Work.valueAt_congr hu,
      Work.valueAt_acceptNum _ _ _ _ _ (not_wo_of_plainNum hn₁) (waits_of_lt he hlt)]
  · refine ⟨by rw [Work.acceptNum_journal, Work.tally_head], w.valueAt_acceptNum p key v g hwo ?_⟩
    exact he.imp id .inl
  · exact ⟨w.acceptBlob_head p r key b ef, w.blobAt_acceptBlob p key b ef he⟩

end Sys2Proof.Machine
end

section
/-! Reads (R40, R51, R54, R57, R64): a number as it stands, the refusal of a write-only object, and how the answer leaves over each path. -/
namespace Sys2Proof.Machine

theorem Work.only_send (w : Work) (m : Sent) : w.only (w.send m) [.sent] := by
  intro q hq
  cases q <;> simp [Part.same] at hq ⊢

/-- What follows an accepted write and keeps the journal, the result and every number adds the parts it changes itself. -/
theorem Work.obeys_of_only {a b c : Work} {p : Path} {key raw : Nat} {ps qs : List Part} {ks : List Nat} (h : a.obeys b p key raw ps ks)
    (honly : b.only c qs) (hsame : b.sameBut c []) (hj : Part.journal ∉ qs) (hl : Part.lastRes ∉ qs) : a.obeys c p key raw (ps ++ qs) ks := by
  obtain ⟨⟨hhead, e, es, hentries, hentry⟩, hcode, hresult, hparts, hkeys⟩ := h
  have hjournal : c.journal = b.journal := honly .journal hj
  have hlast : c.lastRes = b.lastRes := honly .lastRes hl
  have hget : ∀ k, c.get k = b.get k := fun k => hsame k List.not_mem_nil
  refine ⟨⟨by rw [hjournal]; exact hhead, e, es, by rw [hjournal]; exact hentries, hentry⟩, by rw [hlast]; exact hcode,
    fun k hk => by rw [hget, hlast]; exact hresult k hk, ?_, fun k hk => (hget k).trans (hkeys k hk)⟩
  have hleft : Part.journal :: Part.lastRes :: ps ⊆ Part.journal :: Part.lastRes :: (ps ++ qs) :=
    List.cons_subset_cons _ (List.cons_subset_cons _ (List.subset_append_left ps qs))
  exact Work.only_trans (Work.only_mono hparts hleft) (Work.only_mono honly fun q hq => by simp [hq])

/-! ### The value read -/

section
variable {w : Work} {key : Nat} {r : ObjRow} (hf : findRow (key / 256) (key % 256) = some r)
include hf

/-- A number that the module does not measure at the read reads as it stands. -/
theorem readObject_num (hwo : r.access ≠ .wo) (hb : r.typ.isBlob = false) (hformed : (atKey formedNums key).isNone = true) (nv : NonVol) :
    readObject nv w key = .ok (.num (w.get key), w) := by
  have hnum : w.readNum key = (w.get key, w) := by rw [Work.readNum, Option.isNone_iff_eq_none.mp hformed]
  simp [readObject, indexExists_of_findRow hf, hf, hwo, hb, hnum]

theorem readObject_writeOnly (hwo : r.access = .wo) (nv : NonVol) : readObject nv w key = .error .writeOnly := by
  simp [readObject, indexExists_of_findRow hf, hf, hwo]

theorem encodeVal_num (n : Int) : encodeVal key (.num n) = r.typ.encode n := by
  simp [encodeVal, hf]

end

/-! ### The answer -/

@[simp] theorem Work.answerRead_none (w : Work) (p : Path) (key : Nat) (data : Bytes) : w.answerRead p key none data = w.send (.reply p key data) := by
  cases p <;> rfl

/-- With no held access on its path a read is answered at once. -/
theorem readAny_of_nil {p : Path} {key : Nat} {tag : Option Nat} {x : Both} (hx : x.2.sys.pair.proposals = []) :
    readAny p key tag x = readOne p key tag x := by
  simp [readAny, Work.pathHeld, hx]

/-- A read of a number answers its 64-bit image over PCIe, and its encoding over the other paths. -/
theorem readOne_num {p : Path} {key : Nat} {nv : NonVol} {w : Work} {r : ObjRow} {n : Int} (hf : findRow (key / 256) (key % 256) = some r)
    (h : readObject nv w key = .ok (.num n, w)) : readOne p key none (nv, w) =
      (nv, (w.setResult p .ok).send (.reply p key (if p = .pcie then leBytes 8 (field 64 n) else r.typ.encode n))) := by
  cases p <;> simp [readOne, h, slotBytes, encodeVal_num hf]

/-- The SDO upload of a number answers its encoding. -/
theorem readOne_coe {key : Nat} {nv : NonVol} {w : Work} {r : ObjRow} {n : Int} (hf : findRow (key / 256) (key % 256) = some r)
    (h : readObject nv w key = .ok (.num n, w)) :
    readOne .coe key (some 0) (nv, w) = (nv, (w.setResult .coe .ok).send (.reply .coe key (r.typ.encode n))) := by
  simp [readOne, h, encodeVal_num hf, Work.answerRead, Res.code]

theorem readOne_error {p : Path} {key : Nat} {nv : NonVol} {w : Work} {e : Res} (h : readObject nv w key = .error e) :
    ∃ data, readOne p key none (nv, w) = (nv, (w.refuse p key e).send (.reply p key data)) := by
  simp only [readOne, h, Work.answerRead_none]
  exact ⟨_, rfl⟩

/-- A refusal sends nothing by itself: taking back the answer leaves the refusal. -/
theorem Work.refuses_of_answer (w : Work) (p : Path) (key : Nat) (e : Res) (m : Sent) :
    w.refuses { (w.refuse p key e).send m with sent := w.sent } p key e := by
  have heq : { (w.refuse p key e).send m with sent := w.sent } = w.refuse p key e := by
    rw [← w.refuse_sent p key e]
    rfl
  rw [heq]
  exact w.refuses_refuse p key e

/-! ### The SDO download of a plain number -/

theorem abortOfCode_ok : abortOfCode Res.ok.code = 0 := by decide

theorem Work.effectFrame_imm {w : Work} {r : ObjRow} (h : r.effect = .imm) : w.effectFrame r.effect = w.frame := by
  rw [h]
  rfl

theorem Work.lastRes_acceptNum (w : Work) (p : Path) (r : ObjRow) (key : Nat) (v : Int) (ef : Nat) (g : Bool) :
    (w.acceptNum p r key v ef g).lastRes = (w.resOf ef).code := by
  rw [Work.acceptNum, Work.setResult_lastRes]

theorem sdoWrite_plainNum {nv : NonVol} {w : Work} {key : Nat} {b : Bytes} {r : ObjRow} (hr : w.ready .coe = true)
    (hn : plainNum .coe key (r.typ.decode b) r = true) (hlen : b.length = r.typ.size) (he : r.effect = .imm) :
    writeAny .coe key (.bytes b) (some 0) (nv, w) =
      (nv, (w.acceptNum .coe r key (r.mask (r.typ.decode b)) w.frame).send (.sdoEnd key 0)) := by
  obtain ⟨hk, hf, hb, -⟩ := row_of_plainNum hn
  have hcheck : w.checkNum .coe key (.bytes b) = .ok (r, r.mask (r.typ.decode b)) :=
    (w.checkNum_bytes .coe hf hlen).trans (Work.checkNum_of_plainNum hn hr)
  have hone := writeOne_plainNum hk hf hb (.bytes b) (nv, w)
  rw [w.writeNum_ready .coe key _ _ _ none r _ hr hcheck rfl, Option.getD_none, Work.effectFrame_imm he] at hone
  have hlast : (w.acceptNum .coe r key (r.mask (r.typ.decode b)) w.frame).lastRes = Res.ok.code := by
    rw [Work.lastRes_acceptNum, Work.resOf, if_pos rfl]
  have hheld := Work.no_proposals_of_ready hr
  rw [writeAny_of_nil hheld] <;> simp [hone, Work.answerWrite, hlast, abortOfCode_ok, Work.acceptNum_sys hr, hheld]

/-! ### The statement -/

theorem objectRead_of_nil {p : Path} {i : BitVec 16} {x : BitVec 8} {y : Both} (hopen : y.2.mode.dictOpen = true)
    (hheld : y.2.sys.pair.proposals = []) : objectRead p (.object i x) y = readOne p (objKey i.toNat x.toNat) none y := by
  rw [objectRead, if_pos hopen, readAny_of_nil hheld]

theorem coeSdoTransfer_read {i : BitVec 16} {x : BitVec 8} {y : Both} (hmail : y.2.mailbox = true) (hheld : y.2.sys.pair.proposals = []) :
    coeSdoTransfer (.read i x) y = readOne .coe (objKey i.toNat x.toNat) (some 0) y := by
  simp only [coeSdoTransfer, hmail, Bool.not_true, Bool.false_eq_true, if_false, readAny_of_nil hheld]

theorem coeSdoTransfer_write {i : BitVec 16} {x : BitVec 8} {b : Bytes} {y : Both} (hmail : y.2.mailbox = true) :
    coeSdoTransfer (.write i x b) y = writeAny .coe (objKey i.toNat x.toNat) (.bytes b) (some 0) y := by
  simp only [coeSdoTransfer, hmail, Bool.not_true, Bool.false_eq_true, if_false]

theorem coeSdoInfo_entry {i : BitVec 16} {x : BitVec 8} {w : Work} {r : ObjRow} (hmail : w.mailbox = true) (hf : findRow i.toNat x.toNat = some r) :
    coeSdoInfo (.entryDescription i x) w =
      w.send (.sdoInfo i.toNat [i.toNat, x.toNat, typeCode r.typ, 8 * r.typ.size, accessCode r.access]) := by
  simp [coeSdoInfo, hmail, indexExists_of_findRow hf, hf]

theorem uploadBlob_readEntries {p : Path} {nv : NonVol} {w : Work} (hopen : w.mode.dictOpen = true) :
    uploadBlob p Obj.readEntries (nv, w) = (nv, (w.send (.reply p Obj.readEntries w.readEntries)).setResult p .ok) := by
  have hread : readBlob nv w Obj.readEntries = .ok (w.readEntries, w) := rfl
  simp only [uploadBlob, hopen, hread, Bool.not_true, Bool.false_eq_true, if_false]

/-- Settles O10: the value read is the register, and each path has its own form of the answer. -/
theorem readsAnswerTheObject : Obligations.ReadsAnswerTheObject := by
  have hrow : ∀ {i : BitVec 16} {x : BitVec 8} {r : ObjRow}, findRow i.toNat x.toNat = some r →
      findRow (objKey i.toNat x.toNat / 256) (objKey i.toNat x.toNat % 256) = some r := by
    intro i x r hf
    rwa [objKey_div_toNat, objKey_mod_toNat]
  refine ⟨fun s p i x r hopen hheld hf hwo hb hformed => ?_, fun s p i x r hopen hheld hf hwo => ?_, fun s i x r hmail hheld hf hwo hb hformed => ?_,
    fun s i x b r hmail hr hn hlen he => ?_, fun s i x r hmail hf _ => ?_, fun s p hopen => ?_⟩
  · have hread := readOne_num (p := p) (hrow hf) (readObject_num (w := s.w) (hrow hf) hwo hb hformed s.nv)
    exact ⟨s.nv, _, exec_of_onBoth rfl ((objectRead_of_nil hopen hheld).trans hread), rfl, rfl⟩
  · obtain ⟨data, hread⟩ := readOne_error (p := p) (readObject_writeOnly (w := s.w) (hrow hf) hwo s.nv)
    exact ⟨s.nv, _, exec_of_onBoth rfl ((objectRead_of_nil hopen hheld).trans hread), s.w.refuses_of_answer p _ _ _, by simp [Work.send], rfl⟩
  · have hread := readOne_coe (hrow hf) (readObject_num (w := s.w) (hrow hf) hwo hb hformed s.nv)
    exact ⟨s.nv, _, exec_of_onBoth rfl ((coeSdoTransfer_read hmail hheld).trans hread), rfl, rfl⟩
  · have hstore := fun w : Work => w.store_imm (not_wo_of_plainNum hn) he (objKey i.toNat x.toNat) (r.mask (r.typ.decode b)) s.w.frame
    have hobeys := Work.obeys_acceptNum (ps := []) hr (by rw [hstore]; exact Work.only_set _ _ _ _) (by simp)
    have ⟨_, _, _, honly, _⟩ := hobeys
    refine ⟨s.nv, _, exec_of_onBoth rfl ((coeSdoTransfer_write hmail).trans (sdoWrite_plainNum hr hn hlen he)), ?_, ?_, ?_, rfl⟩
    · rw [Work.get_send, Work.get_acceptNum_of_plainNum hn hr, hstore, Work.get_set_same]
    · exact Work.obeys_of_only hobeys (Work.only_send _ _) (fun _ _ => rfl) (by simp) (by simp)
    · exact congrArg _ (honly .sent (by simp))
  · refine ⟨_, ?_, rfl⟩
    show onWork (coeSdoInfo (.entryDescription i x)) s = _
    rw [onWork_eq, coeSdoInfo_entry hmail hf]
  · exact ⟨s.nv, _, exec_of_onBoth rfl (uploadBlob_readEntries hopen), rfl, rfl⟩

end Sys2Proof.Machine
end

section
/-! Host memory after a string of bytes is written (R484): the bytes stand there, and every other byte is as it was. -/
namespace Sys2Proof.Machine

theorem memGet_memWrite (bs : Bytes) (m : List Host.Cell) (a x : Nat) (h : Memory.wf m = true) :
    memGet (memWrite m a bs) x = if a ≤ x ∧ x < a + bs.length then bs.getD (x - a) 0 else memGet m x := by
  induction bs generalizing m a with
  | nil => rw [memWrite, if_neg (by simp)]
  | cons b bs ih =>
    rw [memWrite, ih _ _ (memSet_wf m a b 0 h (Nat.zero_le a)), memGet_memSet m a x b 0 h]
    rcases Nat.lt_trichotomy x a with hlt | rfl | hgt
    · rw [if_neg (by omega), if_neg (by omega), if_neg (by omega)]
    · rw [if_neg (by omega), if_pos rfl, if_pos (by simp), Nat.sub_self, List.getD_cons_zero]
    · have hsub : x - a = x - (a + 1) + 1 := by omega
      simp only [List.length_cons, hsub, List.getD_cons_succ, if_neg hgt.ne]
      congr 1
      exact propext (by omega)

theorem memRead_eq (m : List Host.Cell) (a n : Nat) : memRead m a n = (List.range n).map (fun i => memGet m (a + i)) := by
  induction n generalizing a with
  | zero => rfl
  | succ n ih =>
    rw [memRead, ih, List.range_succ_eq_map, List.map_cons, List.map_map, Nat.add_zero]
    congr 1
    exact List.map_congr_left fun i _ => by rw [Function.comp_apply, Nat.succ_eq_add_one, Nat.add_assoc, Nat.add_comm 1 i]

theorem memRead_memWrite (bs : Bytes) (m : List Host.Cell) (a : Nat) (h : Memory.wf m = true) : memRead (memWrite m a bs) a bs.length = bs := by
  refine List.ext_getElem (by simp [memRead_eq]) fun i hi hi' => ?_
  simp only [memRead_eq, List.getElem_map, List.getElem_range]
  rw [memGet_memWrite bs m a (a + i) h, if_pos (by omega), Nat.add_sub_cancel_left, List.getD_eq_getElem _ _ hi']

end Sys2Proof.Machine
end

section
/-! Domain transfers over PCIe (R52, R53): the control writes, the end of a transfer, and what its completion moves. -/
namespace Sys2Proof.Machine

/-! ### The end of a transfer -/

/-- The running transfer of a state. -/
def Work.setDt (w : Work) (dt : DomXfer) : Work := { w with d := { w.d with dt := dt } }

theorem Work.only_setDt (w : Work) (dt : DomXfer) : w.only (w.setDt dt) [.dt] := by
  intro q hq
  cases q <;> simp [Part.same, Work.setDt] at hq ⊢

@[simp] theorem Work.get_setDt (w : Work) (dt : DomXfer) (k : Nat) : (w.setDt dt).get k = w.get k := rfl

theorem Work.only_msix (w : Work) (v : Nat) : w.only (w.msix v) [.host, .sent] := by
  intro q hq
  cases q <;> simp [Part.same] at hq ⊢

theorem Work.only_hostWrite (w : Work) (a : Nat) (b : Bytes) : w.only (w.hostWrite a b) [.host] := by
  intro q hq
  cases q <;> simp [Part.same] at hq ⊢

/-- A message or its pending bit leaves host memory alone. -/
@[simp] theorem Work.msix_hostMem (w : Work) (v : Nat) : (w.msix v).host.hostMem = w.host.hostMem := by
  unfold Work.msix
  split_ifs <;> rfl

theorem Work.dtEnd_eq (w : Work) (st : Nat) (r : Res) : w.dtEnd st r = (((w.setDt {}).set Obj.dtStatus st).set Obj.dtResult r.code).msix 0 := rfl

theorem Work.get_dtEnd (w : Work) (st : Nat) (r : Res) (k : Nat) :
    (w.dtEnd st r).get k = if k = Obj.dtResult then (r.code : Int) else if k = Obj.dtStatus then (st : Int) else w.get k := by
  simp only [Work.dtEnd_eq, Work.get_msix, Work.get_set, eq_comm (a := k)]
  rfl

theorem Work.only_dtEnd (w : Work) (st : Nat) (r : Res) : w.only (w.dtEnd st r) [.dt, .host, .sent] := by
  rw [w.dtEnd_eq]
  refine Work.only_trans (Work.only_mono (w.only_setDt {}) (by simp)) ?_
  exact Work.only_trans (Work.only_trans (Work.only_set _ _ _ _) (Work.only_set _ _ _ _)) (Work.only_mono (Work.only_msix _ 0) (by simp))

@[simp] theorem Work.dtEnd_dt (w : Work) (st : Nat) (r : Res) : (w.dtEnd st r).d.dt = {} := by
  simp [w.dtEnd_eq, Work.setDt]

@[simp] theorem Work.dtEnd_hostMem (w : Work) (st : Nat) (r : Res) : (w.dtEnd st r).host.hostMem = w.host.hostMem := by
  simp [w.dtEnd_eq, Work.setDt]

/-- A write taken ends the transfer that carried it with the same end as a copy moved. -/
theorem Work.dtFinish_of_ok {w : Work} (hbusy : w.d.dt.busy = true) (hlast : w.lastRes = Res.ok.code) : w.dtFinish = w.dtEnd 2 .ok := by
  simp [Work.dtFinish, hbusy, hlast, Work.dtEnd, Res.code]

theorem Work.get_dtMoved (w : Work) (b : Bytes) (k : Nat) :
    (w.dtMoved b).get k = if k = Obj.dtDoneLength then (b.length : Int) else if k = Obj.dtCrc then ((crc32 b).toNat : Int) else w.get k := by
  simp only [Work.dtMoved, Work.get_set, eq_comm (a := k)]

theorem Work.only_dtMoved (w : Work) (b : Bytes) (ps : List Part) : w.only (w.dtMoved b) ps :=
  Work.only_trans (w.only_set _ _ _) (Work.only_set _ _ _ _)

/-! ### DT_CTRL -/

theorem writeNumNv_ready {p : Path} {key : Nat} {v : DictVal} {chk : Work → Option Res} {eff : Both → Both} {nv : NonVol} {w : Work} {r : ObjRow}
    {n : Int} (hr : w.ready p = true) (hc : w.checkNum p key v = .ok (r, n)) (hk : chk w = none) :
    writeNumNv p key v chk eff (nv, w) = eff (nv, w.acceptNum p r key n (w.effectFrame r.effect)) := by
  have hpropose : w.mustPropose p = false := by simp [Work.mustPropose, Work.unpaired_of_ready hr]
  simp [writeNumNv, Work.dictOpen_of_ready hr, hc, hk, hpropose]

theorem writeNumNv_refused {p : Path} {key : Nat} {v : DictVal} {chk : Work → Option Res} {eff : Both → Both} {nv : NonVol} {w : Work} {r : ObjRow}
    {n : Int} {e : Res} (hr : w.ready p = true) (hc : w.checkNum p key v = .ok (r, n)) (hk : chk w = some e) :
    writeNumNv p key v chk eff (nv, w) = (nv, w.refuse p key e) := by
  simp [writeNumNv, Work.dictOpen_of_ready hr, hc, hk]

/-- The row of DT_CTRL: a command object with the codes 1 and 2. -/
def dtCtrlRow : ObjRow := ⟨0x1F90, 0x1, 1, 5, 5, "DT_CTRL", .u8, .wo, .imm, .const 0, .codes [1, 2]⟩

theorem findRow_dtCtrl : findRow (Obj.dtCtrl / 256) (Obj.dtCtrl % 256) = some dtCtrlRow := by decide

section
variable {w : Work} (hr : w.ready .pcie = true)
include hr

theorem checkNum_dtCtrl {code : Int} (hcode : code = 1 ∨ code = 2) : w.checkNum .pcie Obj.dtCtrl (.num code) = .ok (dtCtrlRow, code) := by
  have hrange : dtCtrlRow.rng.check dtCtrlRow.typ code = none := by rcases hcode with rfl | rfl <;> decide
  exact w.checkNum_row .pcie _ code dtCtrlRow hr (indexExists_of_findRow findRow_dtCtrl) findRow_dtCtrl (by decide) (by decide) rfl hrange rfl

/-- DT_CTRL with a code that no running transfer stands against is journaled, and then acts. -/
theorem dtCtrl_acts {code : Nat} (hcode : code = 1 ∨ code = 2) (hfree : code = 1 → w.d.dt.busy = false) (nv : NonVol) :
    ∃ a, dtCtrl .pcie code (nv, w) = (if code = 1 then dtBegin else dtStop) (nv, a) ∧ w.obeys a .pcie Obj.dtCtrl code [] [] := by
  have hcode' : (code : Int) = 1 ∨ (code : Int) = 2 := by omega
  have hraw : field (8 * dtCtrlRow.typ.size) (code : Int) = code := by rcases hcode with rfl | rfl <;> decide
  have hobeys := w.acceptNum_command .pcie dtCtrlRow Obj.dtCtrl code (w.effectFrame dtCtrlRow.effect) hr rfl
  rw [hraw] at hobeys
  refine ⟨_, ?_, hobeys⟩
  rw [dtCtrl, writeNumNv_ready hr (checkNum_dtCtrl hr hcode')]
  · simp only [Nat.cast_eq_one]
  · rcases hcode with rfl | rfl
    · simp [hfree rfl]
    · rfl

theorem dtCtrl_busy (hbusy : w.d.dt.busy = true) (nv : NonVol) : dtCtrl .pcie 1 (nv, w) = (nv, w.refuse .pcie Obj.dtCtrl .busy) :=
  writeNumNv_refused hr (checkNum_dtCtrl hr (.inl rfl)) (by simp [hbusy])

end

/-- The transfer that the objects of a download name. -/
def Work.downloadNamed (w : Work) : DomXfer :=
  { busy := true, key := w.getN Obj.dtTarget, upload := false, bytes := [], addr := w.getN Obj.dtHostAddr }

theorem dtBegin_download {nv : NonVol} {w : Work} (h : w.get Obj.dtDirection = 0) :
    dtBegin (nv, w) = (nv, (((w.set Obj.dtStatus 1).set Obj.dtResult 0).set Obj.dtDoneLength 0).setDt w.downloadNamed) := by
  simp [dtBegin, Work.get_set, Work.getN, h, Work.setDt, Work.downloadNamed]

theorem dtStop_busy {nv : NonVol} {w : Work} (h : w.d.dt.busy = true) : dtStop (nv, w) = (nv, (w.setDt {}).set Obj.dtStatus 0) := by
  simp only [dtStop, h, if_true]
  rfl

/-! ### The completion -/

/-- The state with the copy of the running upload in host memory and shown, before its transfer ends. -/
def Work.uploaded (w : Work) : Work := ((w.hostWrite w.d.dt.addr w.d.dt.bytes).dtMoved w.d.dt.bytes).setResult .pcie .ok

@[simp] theorem Work.uploaded_hostMem (w : Work) : w.uploaded.host.hostMem = memWrite w.host.hostMem w.d.dt.addr w.d.dt.bytes := by
  rw [Work.uploaded, Work.setResult_host]
  rfl

theorem Work.get_uploaded (w : Work) (k : Nat) : w.uploaded.get k = if k = Obj.resultPcie then (Res.ok.code : Int)
    else if k = Obj.dtDoneLength then (w.d.dt.bytes.length : Int) else if k = Obj.dtCrc then ((crc32 w.d.dt.bytes).toNat : Int) else w.get k := by
  simp only [Work.uploaded, Work.get_setResult, Work.get_dtMoved, resultKey, Option.some.injEq, eq_comm (b := k)]
  rfl

theorem Work.only_uploaded (w : Work) : w.only w.uploaded [.host, .lastRes] := by
  refine Work.only_trans (Work.only_mono (w.only_hostWrite w.d.dt.addr w.d.dt.bytes) (by simp)) ?_
  exact Work.only_trans (Work.only_dtMoved _ _ _) (Work.only_mono (Work.only_setResult _ _ _) (by simp))

/-- A transfer whose path holds nothing completes: an upload's copy goes to host memory. -/
theorem dtComplete_upload {nv : NonVol} {w : Work} (hbusy : w.d.dt.busy = true) (hup : w.d.dt.upload = true) (hheld : w.sys.pair.proposals = [])
    (data : Bytes) : dtComplete data (nv, w) = (nv, w.uploaded.dtEnd 2 .ok) := by
  simp [dtComplete, hbusy, hup, Work.pathHeld, hheld, Work.uploaded]

theorem Work.ready_set (w : Work) (p : Path) {k : Nat} (v : Int) (hk : k ≠ Obj.pairState) : (w.set k v).ready p = w.ready p := by
  have hgroup : (w.set k v).group p = w.group p := by cases p <;> rfl
  simp [Work.ready, Work.opens, Work.pairedPrimary, Work.get_set, hk, hgroup]

theorem Work.ready_dtMoved (w : Work) (p : Path) (b : Bytes) : (w.dtMoved b).ready p = w.ready p := by
  rw [Work.dtMoved, Work.ready_set _ _ _ (by decide), Work.ready_set _ _ _ (by decide)]

/-- The state after bytes that take effect at once are accepted: journaled, stored, and answered with OK. -/
def Work.tookBytes (w : Work) (p : Path) (key : Nat) (b : Bytes) : Work := ((w.tallyBlob p key b w.frame).setBlob key b).setResult p .ok

theorem Work.only_tookBytes (w : Work) (p : Path) (key : Nat) (b : Bytes) : w.only (w.tookBytes p key b) [.journal, .blobs, .lastRes] :=
  Work.only_trans (Work.only_mono (w.only_tallyBlob p key b w.frame) (by simp))
    (Work.only_trans (Work.only_mono (Work.only_setBlob _ key b) (by simp)) (Work.only_mono (Work.only_setResult _ p .ok) (by simp)))

theorem Work.sameBut_tookBytes (w : Work) (p : Path) (key : Nat) (b : Bytes) : w.sameBut (w.tookBytes p key b) (acceptKeys p) := by
  intro k hk
  simp only [acceptKeys, List.mem_cons, not_or] at hk
  obtain ⟨hover, hresult⟩ := hk
  rw [Work.tookBytes, Work.sameBut_setResult _ p .ok k hresult, Work.get_setBlob, w.sameBut_tallyBlob p key b _ k (by simpa using hover)]

@[simp] theorem Work.lastRes_tookBytes (w : Work) (p : Path) (key : Nat) (b : Bytes) : (w.tookBytes p key b).lastRes = Res.ok.code :=
  Work.setResult_lastRes ..

theorem Work.blob_setBlob (w : Work) (key : Nat) (b : Bytes) : (w.setBlob key b).blob key = b := by
  simp [Work.blob, Work.setBlob, alGet_alSet]

theorem Work.blob_congr {a b : Work} (h : b.d.blobs = a.d.blobs) (key : Nat) : b.blob key = a.blob key := by
  simp only [Work.blob, h]

@[simp] theorem Work.blob_tookBytes (w : Work) (p : Path) (key : Nat) (b : Bytes) : (w.tookBytes p key b).blob key = b :=
  (Work.blob_congr (Work.setResult_d_blobs ..) key).trans (Work.blob_setBlob _ key b)

section
variable {p : Path} {key : Nat} {b : Bytes} {r : ObjRow} (hb : plainBytes p key b r = true)
include hb

theorem row_of_plainBytes : plainKey p key = true ∧ findRow (key / 256) (key % 256) = some r ∧ r.typ.isBlob = true ∧ r.access = .rw ∧
    r.rng.checkLen b.length = none := by
  simpa only [plainBytes, Bool.and_eq_true, decide_eq_true_eq, beq_iff_eq, Option.isNone_iff_eq_none, and_assoc] using hb

variable {w : Work} (hr : w.ready p = true)
include hr

/-- Plain bytes within their length are accepted. -/
theorem Work.writeBlob_of_plainBytes :
    w.writeBlob p key b (fun _ _ => none) (fun _ w => w) = w.acceptBlob p r key b (w.effectFrame r.effect) := by
  obtain ⟨hk, hf, hblob, hrw, hlen⟩ := row_of_plainBytes hb
  have hcheck : w.checkBlob p key b = .ok r := by
    simp [Work.checkBlob, Work.checkAccess_of_ready hr hf (rules_of_plainKey hk).1, hrw, hblob, hlen, Work.checkMode]
  have hpropose : w.mustPropose p = false := by simp [Work.mustPropose, Work.unpaired_of_ready hr]
  simp [Work.writeBlob, Work.dictOpen_of_ready hr, hcheck, hpropose]

theorem Work.acceptBlob_of_imm (he : r.effect = .imm) : w.acceptBlob p r key b (w.effectFrame r.effect) = w.tookBytes p key b := by
  obtain ⟨-, -, -, hrw, -⟩ := row_of_plainBytes hb
  have hunpaired : (w.tallyBlob p key b w.frame).pairedPrimary = false :=
    (Work.pairedPrimary_of_sameBut (w.sameBut_tallyBlob p key b _) (by decide)).trans (Work.unpaired_of_ready hr)
  rw [Work.effectFrame_imm he]
  simp [Work.acceptBlob, Work.sendEntry_of_unpaired hunpaired, hrw, he, Work.resOf, Work.tookBytes]

end

/-- A download of DT_LENGTH bytes is taken as one write of its object, and the transfer ends. -/
theorem dtComplete_download {nv : NonVol} {w : Work} {data : Bytes} {r : ObjRow} (hr : w.ready .pcie = true) (hbusy : w.d.dt.busy = true)
    (hdown : w.d.dt.upload = false) (hlen : data.length = w.getN Obj.dtLength) (hb : plainBytes .pcie w.d.dt.key data r = true)
    (he : r.effect = .imm) :
    dtComplete data (nv, w) = (nv, ((w.dtMoved data).tookBytes .pcie w.d.dt.key data).dtEnd 2 .ok) := by
  obtain ⟨hk, hf, hblob, -⟩ := row_of_plainBytes hb
  have hheld := Work.no_proposals_of_ready hr
  have hr' : (w.dtMoved data).ready .pcie = true := (w.ready_dtMoved .pcie data).trans hr
  have hcomplete : dtComplete data (nv, w) = writeAny .pcie w.d.dt.key (.bytes data) (some 0) (nv, w.dtMoved data) := by
    simp [dtComplete, hbusy, hdown, Work.pathHeld, hheld, hlen, hf, hblob]
  have hone := writeOne_plainBytes hk hf hblob data (nv, w.dtMoved data)
  rw [Work.writeBlob_of_plainBytes hb hr', Work.acceptBlob_of_imm hb hr' he] at hone
  have honly : w.only ((w.dtMoved data).tookBytes .pcie w.d.dt.key data) [.journal, .blobs, .lastRes] :=
    Work.only_trans (w.only_dtMoved data _) (Work.only_tookBytes _ _ _ _)
  have hdt : ((w.dtMoved data).tookBytes .pcie w.d.dt.key data).d.dt = w.d.dt := honly .dt (by simp)
  have hsys : ((w.dtMoved data).tookBytes .pcie w.d.dt.key data).sys = w.sys := honly .sys (by simp)
  have hend : ((w.dtMoved data).tookBytes .pcie w.d.dt.key data).answerWrite .pcie w.d.dt.key (some 0) =
      ((w.dtMoved data).tookBytes .pcie w.d.dt.key data).dtEnd 2 .ok :=
    Work.dtFinish_of_ok (by rw [hdt, hbusy]) (Work.lastRes_tookBytes ..)
  have hsysEnd : (((w.dtMoved data).tookBytes .pcie w.d.dt.key data).dtEnd 2 .ok).sys = w.sys := (Work.only_dtEnd _ 2 .ok .sys (by simp)).trans hsys
  rw [hcomplete, writeAny_of_nil hheld] <;> simp [hone, hend, hsys, hsysEnd, hheld]

/-! ### The five clauses -/

section
variable {s : State}

/-- DT_CTRL 1 with no transfer running begins the download that the objects name. -/
theorem dtStart_begins (hr : s.w.ready .pcie = true) (hbusy : s.w.d.dt.busy = false) (hdir : s.w.get Obj.dtDirection = 0) :
    DoesNv (.dtStart .pcie) s (fun nv t =>
      s.w.obeys t .pcie Obj.dtCtrl 1 [.dt] [Obj.dtStatus, Obj.dtResult, Obj.dtDoneLength] ∧ nv = s.nv ∧ t.get Obj.dtStatus = 1 ∧
      t.get Obj.dtResult = 0 ∧ t.d.dt = s.w.downloadNamed) := by
  obtain ⟨a, hacts, hobeys⟩ := dtCtrl_acts hr (code := 1) (.inl rfl) (fun _ => hbusy) s.nv
  have ⟨_, _, _, _, hsame⟩ := hobeys
  have hnamed : a.downloadNamed = s.w.downloadNamed := by
    simp only [Work.downloadNamed, Work.getN, hsame Obj.dtTarget (by decide), hsame Obj.dtHostAddr (by decide)]
  rw [if_pos rfl, dtBegin_download ((hsame _ (by decide)).trans hdir)] at hacts
  refine ⟨s.nv, _, exec_of_onBoth rfl hacts, ?_, rfl, ?_, ?_, hnamed⟩
  · refine s.w.obeys_trans a _ .pcie Obj.dtCtrl 1 _ _ hobeys ?_ ?_ (by decide) (by decide) (by simp [resultKey])
    · exact Work.only_trans (Work.only_trans (a.only_set _ _ _) (Work.only_trans (Work.only_set _ _ _ _) (Work.only_set _ _ _ _))) (Work.only_setDt _ _)
    · intro k hk
      simp only [List.mem_cons, List.not_mem_nil, or_false, not_or] at hk
      obtain ⟨hstatus, hresult, hdone⟩ := hk
      rw [Work.get_setDt, Work.get_set_other _ _ _ _ (Ne.symm hdone), Work.get_set_other _ _ _ _ (Ne.symm hresult),
        Work.get_set_other _ _ _ _ (Ne.symm hstatus)]
  · simp [Work.get_set]
  · simp [Work.get_set]

/-- DT_CTRL 1 with a transfer running is refused. -/
theorem dtStart_refused (hr : s.w.ready .pcie = true) (hbusy : s.w.d.dt.busy = true) :
    DoesNv (.dtStart .pcie) s (fun nv t => s.w.refuses t .pcie Obj.dtCtrl .busy ∧ nv = s.nv) :=
  ⟨s.nv, _, exec_of_onBoth rfl (dtCtrl_busy hr hbusy s.nv), s.w.refuses_refuse .pcie Obj.dtCtrl .busy, rfl⟩

/-- DT_CTRL 2 with a transfer running ends it. -/
theorem dtAbort_ends (hr : s.w.ready .pcie = true) (hbusy : s.w.d.dt.busy = true) :
    DoesNv (.dtAbort .pcie) s (fun nv t =>
      s.w.obeys t .pcie Obj.dtCtrl 2 [.dt] [Obj.dtStatus] ∧ nv = s.nv ∧ t.get Obj.dtStatus = 0 ∧ t.d.dt = {}) := by
  obtain ⟨a, hacts, hobeys⟩ := dtCtrl_acts hr (code := 2) (.inr rfl) (by simp) s.nv
  have ⟨_, _, _, honly, _⟩ := hobeys
  have hdt : a.d.dt = s.w.d.dt := honly .dt (by simp)
  rw [if_neg (by decide), dtStop_busy (by rw [hdt, hbusy])] at hacts
  refine ⟨s.nv, _, exec_of_onBoth rfl hacts, ?_, rfl, Work.get_set_same .., rfl⟩
  refine s.w.obeys_trans a _ .pcie Obj.dtCtrl 2 _ _ hobeys ?_ ?_ (by decide) (by decide) (by simp [resultKey])
  · exact Work.only_trans (a.only_setDt {}) (Work.only_set _ _ _ _)
  · exact Work.sameBut_set _ _ (by simp)

/-- The completion of an upload writes its copy to host memory. -/
theorem dtComplete_uploads (data : Bytes) (hbusy : s.w.d.dt.busy = true) (hup : s.w.d.dt.upload = true) (hheld : s.w.sys.pair.proposals = [])
    (hwf : Memory.wf s.w.host.hostMem = true) :
    DoesNv (.dtComplete data) s (fun nv t =>
      nv = s.nv ∧ memRead t.host.hostMem s.w.d.dt.addr s.w.d.dt.bytes.length = s.w.d.dt.bytes ∧
      (∀ a, a < s.w.d.dt.addr ∨ s.w.d.dt.addr + s.w.d.dt.bytes.length ≤ a → memGet t.host.hostMem a = memGet s.w.host.hostMem a) ∧
      t.get Obj.dtStatus = 2 ∧ t.get Obj.dtResult = 0 ∧ t.get Obj.dtDoneLength = s.w.d.dt.bytes.length ∧
      t.get Obj.dtCrc = (crc32 s.w.d.dt.bytes).toNat ∧ t.d.dt = {} ∧ s.w.only t [.dt, .host, .sent, .lastRes] ∧
      s.w.sameBut t [Obj.dtStatus, Obj.dtResult, Obj.dtDoneLength, Obj.dtCrc, Obj.resultPcie]) := by
  have hget := fun k => (s.w.uploaded.get_dtEnd 2 .ok k).trans (by rw [s.w.get_uploaded k])
  refine ⟨s.nv, _, exec_of_onBoth rfl (dtComplete_upload hbusy hup hheld data), rfl, ?_, fun a ha => ?_, ?_, ?_, ?_, ?_, Work.dtEnd_dt .., ?_, ?_⟩
  · rw [Work.dtEnd_hostMem, Work.uploaded_hostMem, memRead_memWrite _ _ _ hwf]
  · rw [Work.dtEnd_hostMem, Work.uploaded_hostMem, memGet_memWrite _ _ _ _ hwf, if_neg (by omega)]
  · rw [hget, if_neg (by decide), if_pos rfl]
    rfl
  · rw [hget, if_pos rfl]
    rfl
  · rw [hget, if_neg (by decide), if_neg (by decide), if_neg (by decide), if_pos rfl]
  · rw [hget, if_neg (by decide), if_neg (by decide), if_neg (by decide), if_neg (by decide), if_pos rfl]
  · exact Work.only_trans (Work.only_mono s.w.only_uploaded (by simp)) (Work.only_mono (Work.only_dtEnd _ _ _) (by simp))
  · intro k hk
    simp only [List.mem_cons, List.not_mem_nil, or_false, not_or] at hk
    obtain ⟨hstatus, hresult, hdone, hcrc, hpcie⟩ := hk
    rw [hget, if_neg hresult, if_neg hstatus, if_neg hpcie, if_neg hdone, if_neg hcrc]

/-- The completion of a download writes its object. -/
theorem dtComplete_downloads {data : Bytes} {r : ObjRow} (hr : s.w.ready .pcie = true) (hbusy : s.w.d.dt.busy = true)
    (hdown : s.w.d.dt.upload = false) (hlen : data.length = s.w.getN Obj.dtLength) (hb : plainBytes .pcie s.w.d.dt.key data r = true)
    (he : r.effect = .imm) :
    DoesNv (.dtComplete data) s (fun nv t =>
      nv = s.nv ∧ t.blob s.w.d.dt.key = data ∧ t.get Obj.dtStatus = 2 ∧ t.get Obj.dtDoneLength = data.length ∧ t.d.dt = {} ∧
      s.w.only t [.dt, .host, .sent, .lastRes, .journal, .blobs]) := by
  have hend := Work.only_dtEnd ((s.w.dtMoved data).tookBytes .pcie s.w.d.dt.key data) 2 .ok
  refine ⟨s.nv, _, exec_of_onBoth rfl (dtComplete_download hr hbusy hdown hlen hb he), rfl, ?_, ?_, ?_, Work.dtEnd_dt .., ?_⟩
  · rw [Work.blob_congr (hend .blobs (by simp)), Work.blob_tookBytes]
  · rw [Work.get_dtEnd, if_neg (by decide), if_pos rfl]
    rfl
  · rw [Work.get_dtEnd, if_neg (by decide), if_neg (by decide), Work.sameBut_tookBytes _ _ _ _ _ (by decide), Work.get_dtMoved, if_pos rfl]
  · refine Work.only_trans (s.w.only_dtMoved data _) ?_
    exact Work.only_trans (Work.only_mono (Work.only_tookBytes _ _ _ _) (by simp)) (Work.only_mono hend (by simp))

end

/-- Settles O12: DT_CTRL is a command that a ready path accepts, and a completion moves the bytes and then ends the transfer. -/
theorem domainTransfersRun : Obligations.DomainTransfersRun :=
  ⟨fun _ => dtStart_begins, fun _ => dtStart_refused, fun _ => dtAbort_ends, fun _ => dtComplete_uploads, fun _ _ _ => dtComplete_downloads⟩

end Sys2Proof.Machine
end

section
/-! What the work of the plant leaves of the mode machine (R65 to R75): the mode, the run with its pending commands, and the objects from 0x2000 to
0x20FF. An operation that leaves all three has the same `Work.modeView`, and views of a chain of operations are rewritten one by one. -/
namespace Sys2Proof.Machine

/-- What the mode machine keeps of its own. -/
structure ModeView where
  mode : Mode
  run : Run
  objs : Nat → Int

/-- The mode, the run, and the objects that stand below 0x2100; where an object stands from 0x2100 on, 0. -/
def Work.modeView (w : Work) : ModeView := ⟨w.mode, w.run, fun k => if k / 256 < 0x2100 then w.get k else 0⟩

theorem Work.modeView_eq_iff {a b : Work} :
    b.modeView = a.modeView ↔ b.mode = a.mode ∧ b.run = a.run ∧ ∀ k, k / 256 < 0x2100 → b.get k = a.get k := by
  simp only [Work.modeView, ModeView.mk.injEq, funext_iff]
  refine and_congr_right fun _ => and_congr_right fun _ => forall_congr' fun k => ?_
  split <;> simp [*]

variable (w : Work)

@[simp] theorem Work.modeView_set {i s : Nat} (v : Int) (hi : 0x2100 ≤ i) : (w.set (i * 256 + s) v).modeView = w.modeView :=
  Work.modeView_eq_iff.mpr ⟨rfl, rfl, fun _ hk => w.get_set_other _ _ v (by omega)⟩

@[simp] theorem Work.modeView_flag {i s : Nat} (m : Nat) (hi : 0x2100 ≤ i) : (w.flag (i * 256 + s) m).modeView = w.modeView := w.modeView_set _ hi

@[simp] theorem Work.modeView_unflag {i s : Nat} (m : Nat) (hi : 0x2100 ≤ i) : (w.unflag (i * 256 + s) m).modeView = w.modeView :=
  w.modeView_set _ hi

@[simp] theorem Work.modeView_bump {i s : Nat} (n : Nat) (hi : 0x2100 ≤ i) : (w.bump (i * 256 + s) n).modeView = w.modeView :=
  w.modeView_set _ hi

@[simp] theorem Work.modeView_peak {i s : Nat} (v : Nat) (hi : 0x2100 ≤ i) : (w.peak (i * 256 + s) v).modeView = w.modeView := by
  unfold Work.peak
  split
  · exact w.modeView_set _ hi
  · rfl

@[simp] theorem Work.modeView_startTimer (t : Timer) : (w.startTimer t).modeView = w.modeView := rfl
@[simp] theorem Work.modeView_stopTimer (t : Timer) : (w.stopTimer t).modeView = w.modeView := rfl

@[simp] theorem Work.modeView_raise (s : Nat) : (w.raise s).modeView = w.modeView := by
  refine Work.modeView_eq_iff.mpr ⟨w.raiseHop_mode s 0, w.raiseHop_run s 0, fun k hk => ?_⟩
  rw [w.get_raise, if_neg]
  rintro ⟨rfl, hs⟩
  simp only [raisedKey, Obj.raised] at hk
  omega

@[simp] theorem Work.modeView_emit (r : LRec) : (w.emit r).modeView = w.modeView :=
  Work.modeView_eq_iff.mpr ⟨w.emit_mode r, w.emit_run r, fun k _ => w.get_emit r k⟩

@[simp] theorem Work.modeView_event (e : EvtRec) : (w.event e).modeView = w.modeView := w.modeView_emit _
@[simp] theorem Work.modeView_cover (c : CovRec) : (w.cover c).modeView = w.modeView := w.modeView_emit _

theorem Work.modeView_foldl {α : Type} {f : Work → α → Work} (xs : List α) (hf : ∀ v x, (f v x).modeView = v.modeView) :
    (xs.foldl f w).modeView = w.modeView := by
  induction xs generalizing w with
  | nil => rfl
  | cons x xs ih => exact (ih _).trans (hf w x)

variable {w} in
/-- Both branches of a choice that leave the mode machine alone do so whichever is taken. -/
theorem Work.modeView_ite {c : Prop} [Decidable c] {a b : Work} (ha : a.modeView = w.modeView) (hb : b.modeView = w.modeView) :
    (if c then a else b).modeView = w.modeView := by
  split
  · exact ha
  · exact hb

/-! ### Axes -/

@[simp] theorem Work.modeView_updAx (a : Nat) (f : MotionAxis → MotionAxis) : (w.updAx a f).modeView = w.modeView := rfl

@[simp] theorem Work.modeView_axSt (a st : Nat) : (w.axSt a st).modeView = w.modeView := w.modeView_set _ (by omega)

@[simp] theorem Work.modeView_showMoves (a : Nat) : (w.showMoves a).modeView = w.modeView := w.modeView_set _ (by omega)

@[simp] theorem Work.modeView_axFlag (a bit : Nat) : (w.axFlag a bit).modeView = w.modeView := by
  unfold Work.axFlag
  split <;> simp (disch := omega)

@[simp] theorem Work.modeView_loadStep (a next setup : Nat) : (w.loadStep a next setup).modeView = w.modeView := by
  unfold Work.loadStep
  simp (disch := omega)

@[simp] theorem Work.modeView_standstill (a : Nat) : (w.standstill a).modeView = w.modeView := by
  unfold Work.standstill
  simp only
  split <;> simp (disch := omega)

@[simp] theorem Work.modeView_brake (a decel : Nat) (rest : List Move) : (w.brake a decel rest).modeView = w.modeView := by
  unfold Work.brake
  refine Work.modeView_ite ?_ (Work.modeView_ite ?_ ?_) <;> simp

@[simp] theorem Work.modeView_startHead (a fuel : Nat) : (w.startHead a fuel).modeView = w.modeView := by
  induction fuel generalizing w with
  | zero => rfl
  | succ fuel ih =>
    unfold Work.startHead
    dsimp only
    split
    · exact w.modeView_standstill a
    · refine Work.modeView_ite rfl (Work.modeView_ite (ih _) (Work.modeView_ite ?_ (Work.modeView_ite (ih _) (Work.modeView_ite ?_
        (Work.modeView_ite ?_ (Work.modeView_ite rfl ?_))))))
      · rw [Work.modeView_brake, Work.modeView_axFlag]
      · rw [Work.modeView_standstill, Work.modeView_updAx]
      · rw [Work.modeView_brake, Work.modeView_updAx]
      · rw [Work.modeView_showMoves, Work.modeView_loadStep, Work.modeView_axSt]
        rfl

@[simp] theorem Work.modeView_pushMove (a : Nat) (m : Move) : (w.pushMove a m).modeView = w.modeView := by
  have hput : ∀ (v : Work) (n : Int), (v.set (Obj.mvResult a) n).modeView = v.modeView := fun v n => v.modeView_set n (by omega)
  unfold Work.pushMove
  refine Work.modeView_ite (hput _ _) (Work.modeView_ite (hput _ _) (Work.modeView_ite ((hput _ _).trans (w.modeView_axFlag _ _))
    (Work.modeView_ite (hput _ _) (Work.modeView_ite (hput _ _) ?_))))
  have hqueued : ∀ f, (((w.updAx a f).set (Obj.mvResult a) (1 : Nat)).showMoves a).modeView = w.modeView := fun f => by
    rw [Work.modeView_showMoves, hput, Work.modeView_updAx]
  dsimp only
  split
  · refine Work.modeView_ite (Work.modeView_ite ?_ ?_) (hqueued _)
    · rw [Work.modeView_startHead, Work.modeView_updAx, hqueued]
    · rw [Work.modeView_brake, hqueued]
  · refine Work.modeView_ite (hqueued _) ?_
    rw [Work.modeView_startHead, hqueued]

@[simp] theorem Work.modeView_sendAxis (a : Nat) (x : Int) : (w.sendAxis a x).modeView = w.modeView :=
  Work.modeView_ite rfl (w.modeView_pushMove _ _)

@[simp] theorem Work.modeView_haltAxis (a : Nat) : (w.haltAxis a).modeView = w.modeView := by
  unfold Work.haltAxis
  refine Work.modeView_ite ?_ (Work.modeView_ite ?_ ?_) <;> simp (disch := omega)

@[simp] theorem Work.modeView_disableAxis (a st : Nat) : (w.disableAxis a st).modeView = w.modeView := by
  simp [Work.disableAxis]

@[simp] theorem Work.modeView_axesOff : w.axesOff.modeView = w.modeView := w.modeView_foldl _ fun v a => v.modeView_disableAxis a 0

/-! ### The work that SAFE ends -/

@[simp] theorem Work.modeView_eyeAbort (l : Nat) : (w.eyeAbort l).modeView = w.modeView :=
  Work.modeView_ite (w.modeView_set _ (by omega)) rfl

@[simp] theorem Work.modeView_lanesDown : w.lanesDown.modeView = w.modeView :=
  (Work.modeView_foldl _ _ fun v l => (Work.modeView_set _ _ (by omega)).trans (v.modeView_eyeAbort l)).trans rfl

@[simp] theorem Work.modeView_showQueue (k : Nat) : (w.showQueue k).modeView = w.modeView :=
  (Work.modeView_set _ _ (by omega)).trans (w.modeView_set _ (by omega))

@[simp] theorem Work.modeView_markersOff : w.markersOff.modeView = w.modeView :=
  w.modeView_foldl _ fun _ k => (Work.modeView_showQueue _ k).trans rfl

@[simp] theorem Work.modeView_chSet (c st : Nat) : (w.chSet c st).modeView = w.modeView :=
  Work.modeView_ite ((Work.modeView_flag _ _ (by decide)).trans (w.modeView_set _ (by omega)))
    ((Work.modeView_unflag _ _ (by decide)).trans (w.modeView_set _ (by omega)))

@[simp] theorem Work.modeView_chFail (c code addr : Nat) : (w.chFail c code addr).modeView = w.modeView := by
  rw [Work.chFail, Work.modeView_chSet, Work.chFlag, Work.modeView_flag _ _ (by omega), Work.modeView_set _ _ (by omega),
    Work.modeView_set _ _ (by omega)]
  rfl

@[simp] theorem Work.modeView_dmaAbort : w.dmaAbort.modeView = w.modeView :=
  w.modeView_foldl _ fun v c => Work.modeView_ite (v.modeView_chFail c 6 0) rfl

@[simp] theorem Work.modeView_updEngine (e : Nat) (f : Engine → Engine) : (w.updEngine e f).modeView = w.modeView :=
  (Work.modeView_set _ _ (by decide)).trans ((Work.modeView_set _ _ (by omega)).trans (Work.modeView_set _ _ (by omega)))

@[simp] theorem Work.modeView_dropRecord (s bit : Nat) : (w.dropRecord s bit).modeView = w.modeView :=
  (Work.modeView_flag _ _ (by omega)).trans (w.modeView_bump _ (by omega))

@[simp] theorem Work.modeView_abortEngine (e bit : Nat) : (w.abortEngine e bit).modeView = w.modeView := by
  unfold Work.abortEngine
  split
  · rfl
  · exact Work.modeView_ite ((Work.modeView_bump _ _ (by omega)).trans (w.modeView_updEngine e _))
      ((Work.modeView_dropRecord _ _ _).trans ((Work.modeView_bump _ _ (by omega)).trans (w.modeView_updEngine e _)))

@[simp] theorem Work.modeView_streamsStop : w.streamsStop.modeView = w.modeView := by
  refine (Work.modeView_foldl _ _ fun v s => v.modeView_set 0 (by omega)).trans ((Work.modeView_set _ _ (by decide)).trans ?_)
  exact w.modeView_foldl _ fun v e => v.modeView_abortEngine e 0

@[simp] theorem Work.modeView_hbmPark : w.hbmPark.modeView = w.modeView := by
  refine (Work.modeView_foldl _ _ fun v s => ?_).trans rfl
  refine (Work.modeView_foldl _ _ fun u n => Work.modeView_ite rfl (u.modeView_set 2 (by omega))).trans ?_
  exact Work.modeView_ite (v.modeView_bump _ (by decide)) rfl

@[simp] theorem Work.modeView_showSeg : w.showSeg.modeView = w.modeView := by
  refine (Work.modeView_foldl _ _ fun v c => ?_).trans ((Work.modeView_peak _ _ (by decide)).trans (w.modeView_set _ (by decide)))
  exact Work.modeView_ite rfl ((Work.modeView_peak _ _ (by omega)).trans (v.modeView_set _ (by omega)))

@[simp] theorem Work.modeView_pipeDrop : w.pipeDrop.modeView = w.modeView := by
  rw [Work.pipeDrop, Work.modeView_stopTimer, Work.showCands, Work.modeView_set _ _ (by decide), Work.modeView_showSeg]
  rfl

@[simp] theorem Work.modeView_evtOutsOff : w.evtOutsOff.modeView = w.modeView :=
  w.modeView_foldl _ fun _ _ => rfl

@[simp] theorem Work.modeView_ylSend (peer cls typ : Nat) (fields : List Nat) (data : Bytes) :
    (w.ylSend peer cls typ fields data).1.modeView = w.modeView := by
  unfold Work.ylSend
  split <;> rfl

@[simp] theorem Work.modeView_secondaryLeaves : w.secondaryLeaves.modeView = w.modeView :=
  Work.modeView_ite ((Work.modeView_set _ _ (by decide)).trans ((Work.modeView_set _ _ (by decide)).trans (w.modeView_ylSend ..))) rfl

/-! ### Calibrations -/

@[simp] theorem Work.modeView_updCal (p : Nat) (f : PortCal → PortCal) : (w.updCal p f).modeView = w.modeView := rfl

@[simp] theorem Work.modeView_closeExcl (p reason m : Nat) : (w.closeExcl p reason m).modeView = w.modeView := rfl

@[simp] theorem Work.modeView_calFail (p code : Nat) : (w.calFail p code).modeView = w.modeView :=
  (Work.modeView_ite (Work.modeView_set _ _ (by decide)) (Work.modeView_set _ _ (by omega))).trans (w.modeView_set _ (by omega))

@[simp] theorem Work.modeView_pcal (p st : Nat) : (w.pcal p st).modeView = w.modeView :=
  (Work.modeView_set _ _ (by decide)).trans (w.modeView_set _ (by omega))

@[simp] theorem Work.modeView_abortCals (only : Bool) : (w.abortCals only).modeView = w.modeView := by
  refine w.modeView_foldl _ fun v p => Work.modeView_ite rfl ?_
  have hfailed : ∀ f, (if v.getN (Obj.pcalState p) < pcWaitRemoval then (v.calFail p 3).updCal p f else v).modeView = v.modeView :=
    fun f => Work.modeView_ite (v.modeView_calFail p 3) rfl
  rw [Work.modeView_stopTimer, Work.modeView_pcal, Work.modeView_updCal, Work.calRecord, Work.modeView_event, Work.modeView_set _ _ (by omega),
    Work.modeView_closeExcl]
  split
  · rw [Work.modeView_sendAxis, hfailed]
  · exact hfailed _

/-! ### The work of a trigger -/

@[simp] theorem Work.modeView_rxPush (p : Nat) (r : RxLine) : (w.rxPush p r).modeView = w.modeView :=
  (Work.modeView_peak _ _ (by omega)).trans rfl

@[simp] theorem Work.modeView_closeMissing (p t : Nat) (g : Trig) (st : Nat) : (w.closeMissing p t g st).modeView = w.modeView :=
  (Work.modeView_rxPush _ _ _).trans ((Work.modeView_flag _ _ (by omega)).trans
    (Work.modeView_ite (w.modeView_bump _ (by omega)) (w.modeView_bump _ (by omega))))

@[simp] theorem Work.modeView_addTrig (p t : Nat) (g : Trig) : (w.addTrig p t g).modeView = w.modeView := by
  unfold Work.addTrig
  dsimp only
  split
  · exact Work.modeView_ite ((Work.modeView_closeMissing _ _ _ _ _).trans rfl) rfl
  · rfl

@[simp] theorem Work.modeView_startTxn (p : Nat) (use : TxnUse) (write : Bool) (addr words : Nat) (data : List Nat) :
    (w.startTxn p use write addr words data).modeView = w.modeView := Work.modeView_ite rfl rfl

@[simp] theorem Work.modeView_nextTxn (p : Nat) : (w.nextTxn p).modeView = w.modeView := by
  refine Work.modeView_ite rfl (Work.modeView_ite ?_ ?_)
  · split
    · exact (Work.modeView_startTxn _ _ _ _ _ _ _).trans rfl
    · rfl
  · split
    · rfl
    · exact (Work.modeView_startTxn _ _ _ _ _ _ _).trans rfl

@[simp] theorem Work.modeView_triggerPort (p k : Nat) (timer : Bool) : (w.triggerPort p k timer).modeView = w.modeView := by
  refine Work.modeView_ite rfl ?_
  generalize (w.tagsOf p).filterMap _ = calls
  cases calls with
  | nil => rfl
  | cons c cs =>
    refine Work.modeView_ite (w.modeView_foldl _ fun v c => v.modeView_rxPush p _) ?_
    refine (Work.modeView_foldl _ _ fun v c => v.modeView_addTrig p _ _).trans ?_
    refine (Work.modeView_ite (Work.modeView_set _ _ (by omega)) rfl).trans ?_
    exact Work.modeView_ite rfl rfl

@[simp] theorem Work.modeView_expTrigger (p k : Nat) : (w.expTrigger p k).modeView = w.modeView := by
  have hlate : ∀ (c : Prop) [Decidable c], (if c then w.flag (Obj.expFlags p) 2 else w).modeView = w.modeView :=
    fun _ _ => Work.modeView_ite (w.modeView_flag _ (by omega)) rfl
  refine Work.modeView_ite rfl (Work.modeView_ite (hlate _) (Work.modeView_ite (hlate _) ?_))
  rw [Work.modeView_nextTxn]
  exact hlate _

@[simp] theorem Work.modeView_traverseStart (p k : Nat) : (w.traverseStart p k).modeView = w.modeView := by
  unfold Work.traverseStart
  dsimp only
  split
  · exact Work.modeView_ite (Work.modeView_sendAxis _ _ _) rfl
  · rfl

@[simp] theorem Work.modeView_lagEnd : w.lagEnd.modeView = w.modeView := by
  unfold Work.lagEnd
  split
  · rfl
  · exact Work.modeView_cover _ _

@[simp] theorem Work.modeView_lagLine (k : Nat) : (w.lagLine k).modeView = w.modeView := Work.modeView_ite w.modeView_lagEnd rfl

@[simp] theorem Work.modeView_makeJobs (k fuel : Nat) : (w.makeJobs k fuel).modeView = w.modeView := by
  induction fuel generalizing w with
  | zero => rfl
  | succ fuel ih => exact Work.modeView_ite rfl ((ih _).trans (Work.modeView_ite rfl rfl))

@[simp] theorem Work.modeView_closeRecord (s : Nat) (r : OpenRec) (frameEnd : Bool) : (w.closeRecord s r frameEnd).modeView = w.modeView := by
  have hseq : ∀ n : Int, ((w.set (Obj.streamSeq s) n).updStream s (fun x => { x with cur := none })).modeView = w.modeView :=
    fun n => w.modeView_set n (by omega)
  refine Work.modeView_ite (hseq _) (Work.modeView_ite ?_ ?_)
  · exact (Work.modeView_set _ _ (by decide)).trans (hseq _)
  · exact (Work.modeView_ite (Work.modeView_bump _ _ (by decide)) rfl).trans (hseq _)

@[simp] theorem Work.modeView_addLine (s n newest web : Nat) (b : Bytes) (flags step : Nat) :
    (w.addLine s n newest web b flags step).modeView = w.modeView :=
  have hline : ∀ f, ((w.updStream s f).set (Obj.lastLine s) web).modeView = w.modeView := fun _ => Work.modeView_set _ _ (by omega)
  Work.modeView_ite ((Work.modeView_closeRecord _ _ _ _).trans (hline _)) (hline _)

@[simp] theorem Work.modeView_heldRecords (k : Nat) : (w.heldRecords k).modeView = w.modeView := by
  refine w.modeView_foldl _ fun v s => ?_
  dsimp only
  split
  · rfl
  · exact Work.modeView_ite rfl ((Work.modeView_set _ _ (by omega)).trans (Work.modeView_addLine _ _ _ _ _ _ _ _))

@[simp] theorem Work.modeView_triggerWork (k : Nat) : (w.triggerWork k).modeView = w.modeView := by
  have hcalls : ∀ v : Work, (v.activePorts.foldl (fun u p => ((u.triggerPort p k false).expTrigger p k).traverseStart p k) v).settleTick.modeView =
      v.modeView := fun v => (v.modeView_foldl _ fun u p => by simp)
  have hjobs : ∀ (u : Work) (n : Nat) (c : Prop) [Decidable c], (if c then u.makeJobs k n else u).modeView = u.modeView :=
    fun u n _ _ => Work.modeView_ite (u.modeView_makeJobs k n) rfl
  refine (Work.modeView_ite (Work.modeView_heldRecords _ _) rfl).trans ((hjobs _ _ _).trans ?_)
  exact (Work.modeView_ite (hcalls _) rfl).trans (w.modeView_lagLine k)

@[simp] theorem Work.modeView_lateLosses (n : Nat) : (w.lateLosses n).modeView = w.modeView :=
  Work.modeView_foldl _ _ fun _ _ => (Work.modeView_raise _ _).trans (Work.modeView_event _ _)

end Sys2Proof.Machine
end

section
/-! A transition of the mode machine (R69, R70): what it shows and what it leaves. -/
namespace Sys2Proof.Machine
variable (w : Work)

theorem Work.only_raise (s : Nat) : w.only (w.raise s) [.router] := by
  intro q hq
  cases q <;> simp [Part.same, Work.raise] at hq ⊢

theorem Work.only_startTimer (t : Timer) : w.only (w.startTimer t) [.timers] := by
  intro q hq
  cases q <;> simp [Part.same] at hq ⊢

theorem Work.only_idleBegin : w.only w.idleBegin [.timers] := by
  unfold Work.idleBegin
  split
  · exact w.only_startTimer .idle
  · exact w.only_refl _

@[simp] theorem Work.get_idleBegin (k : Nat) : w.idleBegin.get k = w.get k := by
  unfold Work.idleBegin
  split <;> rfl

/-- The state that shows a mode and its cause, before the event of the transition. -/
def Work.showMode (m : Mode) (cause : Nat) : Work :=
  let v := ({ w with mode := m }).set Obj.mirrorActive (if m.drivesMarkers then 1 else 0)
  (((v.set Obj.devMode m.code).set Obj.modeCause cause).set Obj.modeFrame v.frame).set Obj.modeTime v.timeNs

theorem Work.modeTo_eq (m : Mode) (cause : Nat) : w.modeTo m cause = ((((w.showMode m cause).raise 2).msix 1).stopTimer .idle).idleBegin := rfl

theorem Work.only_showMode (m : Mode) (cause : Nat) : w.only (w.showMode m cause) [.mode] := by
  intro q hq
  cases q <;> simp [Part.same, Work.showMode] at hq ⊢

theorem Work.get_showMode (m : Mode) (cause k : Nat) : (w.showMode m cause).get k =
    if k = Obj.modeTime then (w.timeNs : Int) else if k = Obj.modeFrame then (w.frame : Int) else if k = Obj.modeCause then (cause : Int)
    else if k = Obj.devMode then (m.code : Int) else if k = Obj.mirrorActive then (if m.drivesMarkers then 1 else 0) else w.get k := by
  simp only [Work.showMode, Work.get_set, eq_comm (b := k)]
  rfl

/-- The event of a transition and the begin of idle READY change no mode, and no object but the count of the event. -/
theorem Work.only_modeEvent : w.only ((((w.raise 2).msix 1).stopTimer .idle).idleBegin) [.router, .timers, .host, .sent] := by
  refine Work.only_trans (Work.only_mono (w.only_raise 2) (by simp)) (Work.only_trans (Work.only_mono (Work.only_msix _ 1) (by simp)) ?_)
  exact Work.only_trans (Work.only_mono (Work.only_stopTimer _ .idle) (by simp)) (Work.only_mono (Work.only_idleBegin _) (by simp))

theorem Work.only_modeTo (m : Mode) (cause : Nat) : w.only (w.modeTo m cause) [.mode, .router, .timers, .host, .sent] :=
  Work.only_trans (Work.only_mono (w.only_showMode m cause) (by simp)) (Work.only_mono (Work.only_modeEvent _) (by simp))

theorem Work.get_modeTo (m : Mode) (cause k : Nat) (hraised : raisedKey 2 ≠ k) : (w.modeTo m cause).get k = (w.showMode m cause).get k := by
  rw [w.modeTo_eq, Work.get_idleBegin, Work.get_stopTimer, Work.get_msix, Work.get_raise, if_neg fun h => hraised h.1]

theorem Work.modeTo_mode (m : Mode) (cause : Nat) : (w.modeTo m cause).mode = m := Work.only_modeEvent (w.showMode m cause) .mode (by decide)

theorem Work.entered_modeTo (m : Mode) (cause : Nat) : (w.modeTo m cause).entered m cause := by
  refine ⟨w.modeTo_mode m cause, ?_, ?_⟩
  · rw [w.get_modeTo m cause _ (by decide), w.get_showMode, if_neg (by decide), if_neg (by decide), if_neg (by decide), if_pos rfl]
  · rw [w.get_modeTo m cause _ (by decide), w.get_showMode, if_neg (by decide), if_neg (by decide), if_pos rfl]

/-- What a transition sets beside the mode itself. -/
def transitionKeys : List Nat := [Obj.modeTime, Obj.modeFrame, Obj.modeCause, Obj.devMode, Obj.mirrorActive, raisedKey 2]

theorem Work.sameBut_modeTo (m : Mode) (cause : Nat) : w.sameBut (w.modeTo m cause) transitionKeys := by
  intro k hk
  simp only [transitionKeys, List.mem_cons, List.not_mem_nil, or_false, not_or] at hk
  obtain ⟨htime, hframe, hcause, hmode, hmirror, hraised⟩ := hk
  rw [w.get_modeTo m cause k (Ne.symm hraised), w.get_showMode, if_neg htime, if_neg hframe, if_neg hcause, if_neg hmode, if_neg hmirror]

theorem Work.modeTo_run (m : Mode) (cause : Nat) : (w.modeTo m cause).run = w.run := w.only_modeTo m cause .run (by decide)

end Sys2Proof.Machine
end

section
/-! The commands of the mode machine while a wake runs: COMMIT, LOAD_PROFILE and CAL_CMD wait for its end (R90), and the statements about them also
speak of a state in which IDLE_STATE reads 0 and the timer of the wake still runs. -/
namespace Sys2Proof.Machine

/-- READY with port 0 active and selected for calibration, IDLE_STATE 0, and the 2 µs of a wake running. -/
def wakingReady : State :=
  { State.reset with w := { State.reset.w with
    mode := .ready, timers := [(.idleWake, 0)], d := { regs := [(Obj.calPortMask, 1)], conf := [(Obj.portEnable 0, 1)] } } }

/-- A command answers one state: where that state lacks a property, the command does not lead to it. -/
theorem not_doesNv_of_exec {c : Instr} {s t : State} {P : NonVol → Work → Prop} (h : exec c s = .next t) (hP : ¬ P t.nv t.w) : ¬ DoesNv c s P := by
  rintro ⟨nv, w, hexec, hPw⟩
  obtain rfl : t = { s with nv := nv, w := w } := Host.Outcome.next.inj (h.symm.trans hexec)
  exact hP hPw

/-- Refutes O15: LOAD_PROFILE of an empty slot waits for the end of the wake, and the mode stays READY where the statement has HOLD. -/
theorem not_commitsAndLoadsPassOrHold : ¬ Obligations.CommitsAndLoadsPassOrHold := by
  rintro ⟨-, -, hload⟩
  refine not_doesNv_of_exec rfl ?_ (hload wakingReady .device 0 (by decide) (.inl rfl) rfl rfl rfl (by decide) (by decide) (by decide))
  rintro ⟨-, ⟨hmode, -⟩, -⟩
  exact absurd hmode (by decide)

/-- Refutes O14: CAL_CMD 1 waits for the end of the wake, and the mode stays READY where the statement has CAL_DARK. -/
theorem not_calibrationCommandsEnterTheirModes : ¬ Obligations.CalibrationCommandsEnterTheirModes := by
  rintro ⟨hdark, -⟩
  refine not_doesNv_of_exec rfl ?_ (hdark wakingReady .device 0 (by decide) rfl rfl rfl rfl (by decide) (by decide) (by decide))
  rintro ⟨-, -, ⟨hmode, -⟩, -⟩
  exact absurd hmode (by decide)

end Sys2Proof.Machine
end

section
/-! The entry to SAFE (R70 cause 17, R73): what is pending goes, and nothing that SAFE ends touches the mode machine. -/
namespace Sys2Proof.Machine

theorem Work.get_of_modeView {a b : Work} (h : b.modeView = a.modeView) {k : Nat} (hk : k / 256 < 0x2100) : b.get k = a.get k :=
  (Work.modeView_eq_iff.mp h).2.2 k hk

theorem Work.mode_of_modeView {a b : Work} (h : b.modeView = a.modeView) : b.mode = a.mode := congrArg ModeView.mode h

theorem Work.run_of_modeView {a b : Work} (h : b.modeView = a.modeView) : b.run = a.run := congrArg ModeView.run h

theorem Work.get_endSpan (w : Work) (n k : Nat) : (w.endSpan n).get k = w.get k := by
  unfold Work.endSpan
  split <;> rfl

/-- The end of a span changes the spans alone. -/
theorem Work.endSpan_run (w : Work) (n : Nat) : (w.endSpan n).run = { w.run with spans := (w.endSpan n).run.spans } := by
  unfold Work.endSpan
  split <;> rfl

/-- The module is in SAFE by a cause, and no START, STOP or other command of before is pending or waits. -/
abbrev Work.inSafe (t : Work) (cause : Int) : Prop :=
  t.entered .safe 17 ∧ t.get Obj.safeCause = cause ∧ t.run.startAt = none ∧ t.run.stopAt = none ∧ t.run.waiting = none ∧ t.run.draining = false

/-- What is like a state whose commands are dropped, but for what SAFE ends of the plant, is in SAFE after the transition. -/
theorem Work.inSafe_of_dropped {u v : Work} {n : Nat} {cause : Int} (hview : v.modeView = (u.dropCommands.endSpan n).modeView)
    (hcause : u.get Obj.safeCause = cause) : (v.modeTo .safe 17).inSafe cause := by
  have hrun : (v.modeTo .safe 17).run = { u.dropCommands.run with spans := (u.dropCommands.endSpan n).run.spans } := by
    rw [Work.modeTo_run, Work.run_of_modeView hview, Work.endSpan_run]
  refine ⟨v.entered_modeTo _ _, ?_, ?_, ?_, ?_, ?_⟩
  · rw [Work.sameBut_modeTo _ _ _ _ (by decide), Work.get_of_modeView hview (by decide), Work.get_endSpan]
    exact hcause
  all_goals rw [hrun]; rfl

/-- The state in which a SAFE cause is shown and calibrations have ended, before the commands are dropped. -/
def Work.beforeSafe (w : Work) (cause : Nat) : Work :=
  let shown := w.set Obj.safeCause cause
  let answered := if w.run.startAt.isSome || w.run.stopAt.isSome || w.run.waiting.isSome then shown.set Obj.cmdResult 4 else shown
  answered.secondaryLeaves.abortCals false

theorem Work.get_beforeSafe (w : Work) (cause : Nat) : (w.beforeSafe cause).get Obj.safeCause = cause := by
  rw [Work.beforeSafe, Work.get_of_modeView (Work.modeView_abortCals _ _) (by decide),
    Work.get_of_modeView (Work.modeView_secondaryLeaves _) (by decide)]
  split
  · rw [Work.get_set_other _ _ _ _ (by decide), Work.get_set_same]
  · exact Work.get_set_same _ _ _

/-- What SAFE ends of the plant once the commands are dropped. -/
def Work.parked (w : Work) : Work :=
  ((w.pipeDrop.streamsStop.markersOff.axesOff.lanesDown.dmaAbort.evtOutsOff.hbmPark).stopTimer .idle).stopTimer .idleWake

theorem Work.modeView_parked (w : Work) : w.parked.modeView = w.modeView := by
  simp only [Work.parked, Work.modeView_stopTimer, Work.modeView_hbmPark, Work.modeView_evtOutsOff, Work.modeView_dmaAbort,
    Work.modeView_lanesDown, Work.modeView_axesOff, Work.modeView_markersOff, Work.modeView_streamsStop, Work.modeView_pipeDrop]

/-- A SAFE cause leads to SAFE from every mode from TRAIN on. -/
theorem Work.inSafe_enterSafe {w : Work} (hopen : w.mode.dictOpen = true) (hne : w.mode ≠ .safe) (cause : Nat) :
    (w.enterSafe cause).inSafe cause := by
  have hsteps : ∃ n, w.enterSafe cause = ((w.beforeSafe cause).dropCommands.endSpan n).parked.modeTo .safe 17 :=
    ⟨_, if_neg (by simp [hopen, hne])⟩
  obtain ⟨n, hsteps⟩ := hsteps
  rw [hsteps]
  exact Work.inSafe_of_dropped (Work.modeView_parked _) (w.get_beforeSafe cause)

theorem does_of_onWork {c : Instr} {s : State} {f : Work → Work} {P : Work → Prop} (hc : exec c s = onWork f s) (h : P (f s.w)) : Does c s P :=
  ⟨f s.w, hc, h⟩

/-- Settles O18: each of the six events enters SAFE with its cause. -/
theorem safeCausesEnterSafe : Obligations.SafeCausesEnterSafe := by
  refine ⟨fun s hopen hne => does_of_onWork rfl (Work.inSafe_enterSafe hopen hne 4),
    fun s hopen hne => does_of_onWork rfl (Work.inSafe_enterSafe hopen hne 5), fun s hopen hne htrain hlinks => does_of_onWork rfl ?_,
    fun s hopen hne => does_of_onWork rfl ?_, fun s n hopen hne => does_of_onWork rfl ?_, fun s hopen hne => does_of_onWork rfl ?_⟩
  · rw [dieLinksTrained, if_neg (by simp [htrain, hlinks]), if_neg (by decide)]
    exact Work.inSafe_enterSafe hopen hne 2
  · rw [dieLinkFault, if_neg (by simp [hopen, hne])]
    exact Work.inSafe_enterSafe hopen hne 2
  · rw [hbmStackFailure, if_neg (by simp [hopen])]
    refine Work.inSafe_enterSafe ?_ ?_ 3
    exacts [hopen, hne]
  · rw [refclkLoss]
    refine Work.inSafe_enterSafe ?_ ?_ 4
    exacts [hopen, hne]

end Sys2Proof.Machine
end

section
/-! Idle READY (R89, R90, R423): the fold over the clusters shows each of them its own new state. -/
namespace Sys2Proof.Machine

/-! ### A fold over numbered objects -/

section
variable {f : Work → Nat → Work} {key : Nat → Nat} (hother : ∀ (v : Work) (s i : Nat), i ≠ s → (f v s).get (key i) = v.get (key i))
include hother

theorem Work.get_foldl_upTo_of_le {n i : Nat} (hi : n ≤ i) (w : Work) : ((upTo n).foldl f w).get (key i) = w.get (key i) := by
  induction n with
  | zero => rfl
  | succ n ih =>
    rw [upTo, List.range_succ, List.foldl_append]
    exact (hother _ n i (by omega)).trans (ih (by omega))

/-- What each turn does to the object of its own number the whole fold does, where a turn leaves the objects of other numbers. -/
theorem Work.rel_foldl_upTo {R : Nat → Int → Int → Prop} (hown : ∀ (v : Work) (s : Nat), R s (v.get (key s)) ((f v s).get (key s))) {n i : Nat}
    (hi : i < n) (w : Work) : R i (w.get (key i)) (((upTo n).foldl f w).get (key i)) := by
  induction n with
  | zero => omega
  | succ n ih =>
    rw [upTo, List.range_succ, List.foldl_append]
    rcases Nat.lt_succ_iff_lt_or_eq.mp hi with hlt | rfl
    · exact (hother _ n i (by omega)).symm ▸ ih hlt
    · rw [← Work.get_foldl_upTo_of_le hother (Nat.le_refl i) w]
      exact hown _ i

end

/-! ### Retention -/

theorem spState_inj {c d : Nat} (h : d ≠ c) : Obj.spState c ≠ Obj.spState d := by
  unfold Obj.spState
  omega

theorem idleState_ne_spState (c : Nat) : Obj.idleState ≠ Obj.spState c := by
  unfold Obj.idleState Obj.spState
  omega

/-- SP_STATE of a cluster that enters retention from operation or rest. -/
def retained (n : Int) : Int := if n = 0 ∨ n = 4 then 2 else n

/-- Cluster c enters retention. -/
def Work.retainCluster (w : Work) (c : Nat) : Work :=
  if w.get (Obj.spState c) = 0 || w.get (Obj.spState c) = 4 then w.set (Obj.spState c) 2 else w

theorem Work.get_retainCluster_same (w : Work) (c : Nat) : (w.retainCluster c).get (Obj.spState c) = retained (w.get (Obj.spState c)) := by
  unfold Work.retainCluster retained
  split <;> simp_all

theorem Work.get_retainCluster_other (w : Work) {c k : Nat} (h : Obj.spState c ≠ k) : (w.retainCluster c).get k = w.get k := by
  unfold Work.retainCluster
  split
  · exact w.get_set_other _ _ _ h
  · rfl

theorem Work.only_retainCluster (w : Work) (c : Nat) : w.only (w.retainCluster c) [] := by
  unfold Work.retainCluster
  split
  · exact w.only_set _ _ _
  · exact w.only_refl _

theorem idleRetention_due {w : Work} (hidle : w.idleReady = true) (hdrain : w.run.draining = false) (hdelay : w.getN Obj.idleDelay ≠ 0)
    (hstate : w.get Obj.idleState = 0) (hexp : w.expired .idle (w.getN Obj.idleDelay * 1000000) = true) :
    idleRetention w = (((upTo 64).foldl Work.retainCluster w).set Obj.idleState 1).startTimer .idle :=
  if_neg (by simp [hidle, hdrain, hdelay, hstate, hexp])

theorem idleRetention_retains {s : State} (hidle : s.w.idleReady = true) (hdrain : s.w.run.draining = false) (hdelay : s.w.getN Obj.idleDelay ≠ 0)
    (hstate : s.w.get Obj.idleState = 0) (hexp : s.w.expired .idle (s.w.getN Obj.idleDelay * 1000000) = true) :
    Does (.idleRetention) s (fun t =>
      t.get Obj.idleState = 1 ∧ (∀ c : Fin 64, t.get (Obj.spState c) = retained (s.w.get (Obj.spState c))) ∧ s.w.only t [.timers]) := by
  refine does_of_onWork rfl ?_
  rw [idleRetention_due hidle hdrain hdelay hstate hexp]
  refine ⟨by rw [Work.get_startTimer, Work.get_set_same], fun c => ?_, ?_⟩
  · rw [Work.get_startTimer, Work.get_set_other _ _ _ _ (idleState_ne_spState c)]
    exact Work.rel_foldl_upTo (R := fun _ a b => b = retained a) (fun v c d h => v.get_retainCluster_other (spState_inj h))
      (fun v c => v.get_retainCluster_same c) c.isLt s.w
  · refine Work.only_trans (Work.only_foldl (upTo 64) (fun v c _ => Work.only_mono (v.only_retainCluster c) (by simp)) s.w) ?_
    exact Work.only_trans (Work.only_set _ _ _ _) (Work.only_startTimer _ .idle)

/-! ### The end of a wake -/

/-- Cluster c, whose scratchpad is waking, serves or is at rest. -/
def Work.wokenCluster (w : Work) (c : Nat) : Work :=
  if w.get (Obj.spState c) = 3 then (w.set (Obj.spState c) (if w.get (Obj.clState c) = 0 then 0 else 4)).stopTimer (.spWake c) else w

theorem Work.get_wokenCluster_ne (w : Work) (c : Nat) : (w.wokenCluster c).get (Obj.spState c) ≠ 3 := by
  unfold Work.wokenCluster
  split
  · rw [Work.get_stopTimer, Work.get_set_same]
    split <;> decide
  · assumption

theorem Work.get_wokenCluster_other (w : Work) {c k : Nat} (h : Obj.spState c ≠ k) : (w.wokenCluster c).get k = w.get k := by
  unfold Work.wokenCluster
  split
  · exact w.get_set_other _ _ _ h
  · rfl

theorem Work.only_wokenCluster (w : Work) (c : Nat) : w.only (w.wokenCluster c) [.timers] := by
  unfold Work.wokenCluster
  split
  · exact Work.only_trans (w.only_set _ _ _) (Work.only_stopTimer _ (.spWake c))
  · exact w.only_refl _

theorem Work.wakeOver_eq (w : Work) :
    w.wakeOver = ((((upTo 64).foldl Work.wokenCluster w).stopTimer .idleWake).set Obj.idleState 0).idleBegin := rfl

theorem Work.only_wakeOver (w : Work) : w.only w.wakeOver [.timers] := by
  rw [w.wakeOver_eq]
  refine Work.only_trans (Work.only_foldl (upTo 64) (fun v c _ => v.only_wokenCluster c) w) ?_
  refine Work.only_trans (Work.only_stopTimer _ .idleWake) ?_
  exact Work.only_trans (Work.only_set _ _ _ _) (Work.only_idleBegin _)

theorem Work.running_set (w : Work) (k : Nat) (v : Int) (t : Timer) : (w.set k v).running t = w.running t := rfl

theorem Work.running_stopTimer (w : Work) (t : Timer) : (w.stopTimer t).running t = false := by
  simp [Work.running, Work.stopTimer]

/-- The idle timer is the only one that idle READY starts. -/
theorem Work.running_idleBegin (w : Work) {t : Timer} (ht : t ≠ .idle) : w.idleBegin.running t = w.running t := by
  unfold Work.idleBegin
  split
  · have hkept : ∀ e : Timer × Nat, (decide (e.1 ≠ .idle) && decide (e.1 = t)) = decide (e.1 = t) := fun e => by
      by_cases he : e.1 = t <;> simp [he, ht]
    simp only [Work.running, Work.startTimer, List.any_cons, List.any_filter, hkept, decide_eq_false (Ne.symm ht), Bool.false_or]
  · rfl

theorem Work.wakeOver_shows (w : Work) :
    w.wakeOver.get Obj.idleState = 0 ∧ w.wakeOver.running .idleWake = false ∧ ∀ c : Fin 64, w.wakeOver.get (Obj.spState c) ≠ 3 := by
  refine ⟨?_, ?_, fun c => ?_⟩
  · rw [w.wakeOver_eq, Work.get_idleBegin, Work.get_set_same]
  · rw [w.wakeOver_eq, Work.running_idleBegin _ (by decide), Work.running_set, Work.running_stopTimer]
  · rw [w.wakeOver_eq, Work.get_idleBegin, Work.get_set_other _ _ _ _ (idleState_ne_spState c), Work.get_stopTimer]
    exact Work.rel_foldl_upTo (R := fun _ _ b => b ≠ 3) (fun v c d h => v.get_wokenCluster_other (spState_inj h))
      (fun v c => v.get_wokenCluster_ne c) c.isLt w

theorem releaseWaiting_none {x : Both} (h : x.2.run.waiting = none) : releaseWaiting x = x := by
  simp only [releaseWaiting, h]

theorem idleWakeDone_serves {s : State} (hexp : s.w.expired .idleWake 2000 = true) (hwait : s.w.run.waiting = none) :
    DoesNv (.idleWakeDone) s (fun nv t => nv = s.nv ∧ t.get Obj.idleState = 0 ∧ t.running .idleWake = false ∧
      (∀ c : Fin 64, t.get (Obj.spState c) ≠ 3) ∧ s.w.only t [.timers]) := by
  have hrun : s.w.wakeOver.run = s.w.run := s.w.only_wakeOver .run (by decide)
  have hdone : idleWakeDone (s.nv, s.w) = (s.nv, s.w.wakeOver) := by
    rw [idleWakeDone, if_pos hexp, releaseWaiting_none (by rw [hrun, hwait])]
  obtain ⟨hidle, htimer, hclusters⟩ := s.w.wakeOver_shows
  exact ⟨s.nv, _, exec_of_onBoth rfl hdone, rfl, hidle, htimer, hclusters, s.w.only_wakeOver⟩

/-! ### The return of capacity -/

theorem capacityReturn_inspects {s : State} {n : Nat} (hmode : s.w.mode = .degraded) (hat : s.w.run.returnAt = some n) (hn : n ≤ s.w.frame)
    (hlost : s.w.capacityLost = false) (hstop : s.w.run.stopAt = none) :
    Does (.capacityReturn) s (fun t => t.entered .inspect 13 ∧ t.run = { s.w.run with returnAt := none } ∧
      s.w.only t [.mode, .run, .router, .timers, .host, .sent]) := by
  have hreturn : capacityReturn s.w = ({ s.w with run := { s.w.run with returnAt := none } }).modeTo .inspect 13 := by
    simp only [capacityReturn, hat, hstop, hmode, hlost, Nat.not_lt.mpr hn]
    rfl
  refine does_of_onWork rfl ?_
  rw [hreturn]
  refine ⟨Work.entered_modeTo _ _ _, Work.modeTo_run _ _ _, ?_⟩
  have hrun : s.w.only { s.w with run := { s.w.run with returnAt := none } } [.run] := fun q hq => by cases q <;> simp [Part.same] at hq ⊢
  exact Work.only_trans (Work.only_mono hrun (by simp)) (Work.only_mono (Work.only_modeTo _ _ _) (by simp))

/-- Settles O17: each turn of a fold over the clusters shows one of them, and the return of capacity is one transition. -/
theorem idleReadyRetainsAndWakes : Obligations.IdleReadyRetainsAndWakes :=
  ⟨fun _ => idleRetention_retains, fun _ => idleWakeDone_serves, fun _ _ => capacityReturn_inspects⟩

end Sys2Proof.Machine
end

section
/-! Command objects: a number or bytes written to an object that stores nothing are journaled, answered, and then act (R41, R61). -/
namespace Sys2Proof.Machine

/-- An object of a command with a code that its row admits as it stands. -/
def commandRow (key : Nat) (code : Int) (r : ObjRow) : Bool :=
  decide (findRow (key / 256) (key % 256) = some r) && (List.range 3).all (fun i => key != Obj.groupCtrl i) && r.access == .wo && !r.typ.isBlob &&
  (r.rng.check r.typ code).isNone && decide (r.mask code = code)

theorem foreignGroup_of_ne {key : Nat} (h : (List.range 3).all (fun i => key != Obj.groupCtrl i) = true) (p : Path) : foreignGroup p key = false := by
  simp only [List.all_eq_true, bne_iff_ne] at h
  simp only [foreignGroup, List.any_eq_false, Bool.and_eq_true, beq_iff_eq, not_and]
  exact fun i hi hkey => absurd hkey (h i hi)

section
variable {key : Nat} {code : Int} {r : ObjRow} (hc : commandRow key code r = true) {w : Work} {p : Path} (hr : w.ready p = true)
include hc hr

theorem Work.checkNum_of_commandRow : w.checkNum p key (.num code) = .ok (r, code) ∧ r.access = .wo := by
  simp only [commandRow, Bool.and_eq_true, decide_eq_true_eq, beq_iff_eq, Bool.not_eq_true', Option.isNone_iff_eq_none] at hc
  obtain ⟨⟨⟨⟨⟨hf, hg⟩, ha⟩, hb⟩, hrange⟩, hmask⟩ := hc
  have hcheck := w.checkNum_row p key code r hr (indexExists_of_findRow hf) hf (foreignGroup_of_ne hg p) (by simp [ha]) hb hrange
    (by simp [Work.checkMode, ha])
  rw [hmask] at hcheck
  exact ⟨hcheck, ha⟩

/-- A command with no rule against it is accepted, and acts. -/
theorem writeNumNv_command {chk : Work → Option Res} (hk : chk w = none) (eff : Both → Both) (nv : NonVol) :
    ∃ a, writeNumNv p key (.num code) chk eff (nv, w) = eff (nv, a) ∧ w.obeys a p key (field (8 * r.typ.size) code) [] [] := by
  obtain ⟨hcheck, ha⟩ := Work.checkNum_of_commandRow hc hr
  exact ⟨_, writeNumNv_ready hr hcheck hk, w.acceptNum_command p r key code _ hr ha⟩

/-- The same of a command that governs from a frame of its own. -/
theorem Work.writeNum_command (eff : Int → Work → Work) (ef : Nat) :
    ∃ a, w.writeNum p key (.num code) noCheck eff (some ef) = eff code a ∧ w.obeys a p key (field (8 * r.typ.size) code) [] [] := by
  obtain ⟨hcheck, ha⟩ := Work.checkNum_of_commandRow hc hr
  exact ⟨_, w.writeNum_ready p key _ _ _ (some ef) r code hr hcheck rfl, w.acceptNum_command p r key code _ hr ha⟩

end

/-- Bytes of a command object, within their length, pass the checks of a ready path. -/
theorem Work.checkBlob_row {w : Work} {p : Path} {key : Nat} {b : Bytes} {r : ObjRow} (hr : w.ready p = true)
    (hf : findRow (key / 256) (key % 256) = some r) (hg : foreignGroup p key = false) (ha : r.access = .wo) (hb : r.typ.isBlob = true)
    (hlen : r.rng.checkLen b.length = none) : w.checkBlob p key b = .ok r := by
  simp [Work.checkBlob, Work.checkAccess_of_ready hr hf hg, ha, hb, hlen, Work.checkMode]

theorem writeBlobNv_ready {p : Path} {key : Nat} {b : Bytes} {chk : NonVol → Work → Bytes → Option Res} {eff : Both → Both} {nv : NonVol} {w : Work}
    {r : ObjRow} (hr : w.ready p = true) (hc : w.checkBlob p key b = .ok r) (hk : chk nv w b = none) :
    writeBlobNv p key b chk eff (nv, w) = eff (nv, w.acceptBlob p r key b (w.effectFrame r.effect)) := by
  have hpropose : w.mustPropose p = false := by simp [Work.mustPropose, Work.unpaired_of_ready hr]
  simp [writeBlobNv, Work.dictOpen_of_ready hr, hc, hk, hpropose]

theorem writeBlobNv_refused {p : Path} {key : Nat} {b : Bytes} {chk : NonVol → Work → Bytes → Option Res} {eff : Both → Both} {nv : NonVol} {w : Work}
    {r : ObjRow} {e : Res} (hr : w.ready p = true) (hc : w.checkBlob p key b = .ok r) (hk : chk nv w b = some e) :
    writeBlobNv p key b chk eff (nv, w) = (nv, w.refuse p key e) := by
  simp [writeBlobNv, Work.dictOpen_of_ready hr, hc, hk]

/-- Bytes of a command object that are accepted are journaled and answered, and stored nowhere. -/
theorem Work.only_acceptBlob_command {w : Work} {p : Path} (hr : w.ready p = true) {r : ObjRow} (ha : r.access = .wo) (he : r.effect = .imm)
    (key : Nat) (b : Bytes) : w.only (w.acceptBlob p r key b (w.effectFrame r.effect)) [.journal, .lastRes] := by
  have hunpaired : (w.tallyBlob p key b w.frame).pairedPrimary = false :=
    (Work.pairedPrimary_of_sameBut (w.sameBut_tallyBlob p key b _) (by decide)).trans (Work.unpaired_of_ready hr)
  have haccepted : w.acceptBlob p r key b w.frame = (w.tallyBlob p key b w.frame).setResult p .ok := by
    simp [Work.acceptBlob, Work.sendEntry_of_unpaired hunpaired, ha, he, Work.resOf]
  rw [Work.effectFrame_imm he, haccepted]
  exact Work.only_trans (Work.only_mono (w.only_tallyBlob p key b _) (by simp)) (Work.only_mono (Work.only_setResult _ p .ok) (by simp))

end Sys2Proof.Machine
end

section
/-! Stored profiles (R82, R500): what the slots show after a change of the flash. -/
namespace Sys2Proof.Machine

/-- PROFILE_STATE of slot s: being programmed, or what the checks of its image find. -/
def slotState (nv : NonVol) (s : Nat) : Int := if nv.flash.op = some (.profile s) then 6 else (profCheck nv s).state

/-- PROFILE_LENGTH of slot s. -/
def slotLength (nv : NonVol) (s : Nat) : Int := if nv.flash.op = some (.profile s) then 0 else (nth ({} : FlashSlot) nv.flash.profiles s).bytes.length

/-- The objects of slot s take what the flash holds. -/
def Work.showSlot (nv : NonVol) (w : Work) (s : Nat) : Work :=
  ((w.set (Obj.profileState s) (slotState nv s)).set (Obj.profileLength s) (slotLength nv s)).setBlob (Obj.profileDigest s)
    (profDigestOf (nth ({} : FlashSlot) nv.flash.profiles s).bytes)

theorem showProf_eq (nv : NonVol) (w : Work) : showProf (nv, w) = (nv, (upTo 4).foldl (Work.showSlot nv) w) := by
  unfold showProf
  congr 1
  refine congrArg (fun f => (upTo 4).foldl f w) (funext fun v => funext fun s => ?_)
  simp only [Work.showSlot, slotState, slotLength, decide_eq_true_eq]

theorem Work.only_showSlots (nv : NonVol) (w : Work) : w.only ((upTo 4).foldl (Work.showSlot nv) w) [.blobs] := by
  refine Work.only_foldl (upTo 4) (fun v s _ => ?_) w
  exact Work.only_trans (Work.only_trans (v.only_set _ _ _) (Work.only_set _ _ _ _)) (Work.only_setBlob _ _ _)

theorem profileState_ne_length (s i : Nat) : Obj.profileLength s ≠ Obj.profileState i := by
  unfold Obj.profileLength Obj.profileState
  omega

theorem profileState_inj {s i : Nat} (h : i ≠ s) : Obj.profileState s ≠ Obj.profileState i := by
  unfold Obj.profileState
  omega

theorem profileLength_inj {s i : Nat} (h : i ≠ s) : Obj.profileLength s ≠ Obj.profileLength i := by
  unfold Obj.profileLength
  omega

theorem Work.get_showSlots_state (nv : NonVol) (w : Work) (i : Fin 4) :
    ((upTo 4).foldl (Work.showSlot nv) w).get (Obj.profileState i) = slotState nv i := by
  refine Work.rel_foldl_upTo (key := Obj.profileState) (R := fun s _ b => b = slotState nv s) (fun v s i h => ?_) (fun v s => ?_) i.isLt w
  · rw [Work.showSlot, Work.get_setBlob, Work.get_set_other _ _ _ _ (profileState_ne_length s i), Work.get_set_other _ _ _ _ (profileState_inj h)]
  · rw [Work.showSlot, Work.get_setBlob, Work.get_set_other _ _ _ _ (profileState_ne_length s s), Work.get_set_same]

theorem Work.get_showSlots_length (nv : NonVol) (w : Work) (i : Fin 4) :
    ((upTo 4).foldl (Work.showSlot nv) w).get (Obj.profileLength i) = slotLength nv i := by
  refine Work.rel_foldl_upTo (key := Obj.profileLength) (R := fun s _ b => b = slotLength nv s) (fun v s i h => ?_) (fun v s => ?_) i.isLt w
  · rw [Work.showSlot, Work.get_setBlob, Work.get_set_other _ _ _ _ (profileLength_inj h),
      Work.get_set_other _ _ _ _ (profileState_ne_length i s).symm]
  · rw [Work.showSlot, Work.get_setBlob, Work.get_set_same]

/-! ### PROFILE_IMAGE and PROFILE_ERASE -/

/-- An emptied place is empty, and so is one beyond the end. -/
theorem nth_upd_const {α : Type} (d : α) (xs : List α) (n : Nat) : nth d (upd xs n fun _ => d) n = d := by
  rw [nth_upd]
  split
  · rfl
  · exact List.getD_eq_default _ _ (by omega)

/-- The row of PROFILE_IMAGE. -/
def profileImageRow : ObjRow := ⟨0x2010, 0x1, 4, 1, 1, "PROFILE_IMAGE", .domain, .wo, .imm, .const 0, .bytes 96 33554432 1⟩

/-- The row of PROFILE_ERASE. -/
def profileEraseRow : ObjRow := ⟨0x2010, 0x1, 4, 5, 5, "PROFILE_ERASE", .u8, .wo, .imm, .const 0, .codes [1]⟩

theorem checkBlob_profileImage {w : Work} {p : Path} {b : Bytes} (hr : w.ready p = true) (n : Fin 4) (hlo : 96 ≤ b.length)
    (hhi : b.length ≤ 33554432) : w.checkBlob p (Obj.profileImage n) b = .ok profileImageRow := by
  have hf : ∀ n : Fin 4, findRow (Obj.profileImage n / 256) (Obj.profileImage n % 256) = some profileImageRow := by decide
  have hg : ∀ n : Fin 4, (List.range 3).all (fun i => Obj.profileImage n != Obj.groupCtrl i) = true := by decide
  have hlen : profileImageRow.rng.checkLen b.length = none := by
    simp [profileImageRow, Rng.checkLen, hlo, hhi, Nat.mod_one]
  exact Work.checkBlob_row hr (hf n) (foreignGroup_of_ne (hg n) p) rfl rfl hlen

section
variable {s : State} {p : Path} {n : Fin 4} {b : Bytes} (hr : s.w.ready p = true)
include hr

theorem profileImageWrite_programs (hop : s.nv.flash.op = none) (hlo : 96 ≤ b.length) (hhi : b.length ≤ 33554432) :
    DoesNv (.profileImageWrite p n b) s (fun nv t => nv = s.nv.putProfile n ⟨b, false⟩ (some (.profile n)) ∧ t.get (Obj.profileState n) = 6 ∧
      t.get (Obj.profileLength n) = 0 ∧ t.journal.head = s.w.journal.head + 1 ∧ s.w.only t [.journal, .lastRes, .blobs]) := by
  have htaken := writeBlobNv_ready (chk := fun nv _ _ => if nv.flash.op.isSome then some .busy else none) (nv := s.nv)
    (eff := fun x => showProf (x.1.putProfile n ⟨b, false⟩ (some (.profile n)), x.2)) hr (checkBlob_profileImage hr n hlo hhi) (by simp [hop])
  rw [showProf_eq] at htaken
  have honly := Work.only_showSlots (s.nv.putProfile n ⟨b, false⟩ (some (.profile n)))
    (s.w.acceptBlob p profileImageRow (Obj.profileImage n) b (s.w.effectFrame .imm))
  refine ⟨_, _, exec_of_onBoth rfl htaken, rfl, ?_, ?_, ?_, ?_⟩
  · exact (Work.get_showSlots_state _ _ n).trans (if_pos rfl)
  · exact (Work.get_showSlots_length _ _ n).trans (if_pos rfl)
  · exact (congrArg Journal.head (honly .journal (by decide))).trans (Work.acceptBlob_head ..)
  · exact Work.only_trans (Work.only_mono (Work.only_acceptBlob_command hr (r := profileImageRow) rfl rfl _ b) (by simp))
      (Work.only_mono honly (by simp))

theorem profileImageWrite_busy {o : FlashOp} (hop : s.nv.flash.op = some o) (hlo : 96 ≤ b.length) (hhi : b.length ≤ 33554432) :
    DoesNv (.profileImageWrite p n b) s (fun nv t => nv = s.nv ∧ s.w.refuses t p (Obj.profileImage n) .busy) :=
  ⟨s.nv, _, exec_of_onBoth rfl (writeBlobNv_refused hr (checkBlob_profileImage hr n hlo hhi) (by simp [hop])), rfl, s.w.refuses_refuse p _ _⟩

theorem profileErase_empties (hop : s.nv.flash.op = none) :
    DoesNv (.profileErase p n) s (fun nv t => nv = s.nv.putProfile n {} none ∧ (t.get (Obj.profileState n) = 0 ∧ t.get (Obj.profileLength n) = 0) ∧
      s.w.journals t p (Obj.profileErase n) 1 ∧ s.w.only t [.journal, .lastRes, .blobs]) := by
  have hrow : ∀ n : Fin 4, commandRow (Obj.profileErase n) 1 profileEraseRow = true := by decide
  obtain ⟨a, hacts, hobeys⟩ := writeNumNv_command (hrow n) hr (chk := fun _ => if s.nv.flash.op.isSome then some .busy else none) (by simp [hop])
    (fun x => showProf (x.1.putProfile n {} none, x.2)) s.nv
  rw [showProf_eq] at hacts
  obtain ⟨⟨hhead, e, es, hentries, hentry⟩, -, -, honly, -⟩ := hobeys
  have hshown := Work.only_showSlots (s.nv.putProfile n {} none) a
  have hjournal := hshown .journal (by decide)
  have hempty : nth ({} : FlashSlot) (s.nv.putProfile n {} none).flash.profiles n = {} := nth_upd_const _ _ _
  refine ⟨_, _, exec_of_onBoth rfl hacts, rfl, ⟨?_, ?_⟩, ⟨?_, e, es, ?_, hentry⟩, ?_⟩
  · rw [Work.get_showSlots_state, slotState, if_neg (by simp [NonVol.putProfile])]
    simp [profCheck, hempty]
  · rw [Work.get_showSlots_length, slotLength, if_neg (by simp [NonVol.putProfile]), hempty]
    rfl
  · rw [hjournal, hhead]
  · rw [hjournal, hentries]
  · exact Work.only_trans (Work.only_mono honly (by simp)) (Work.only_mono hshown (by simp))

end

theorem profileProgramDone_shows {s : State} {n : Nat} (hop : s.nv.flash.op = some (.profile n)) :
    DoesNv (.profileProgramDone) s (fun nv t => nv = { s.nv with flash := { s.nv.flash with op := none } } ∧
      (∀ i : Fin 4, t.get (Obj.profileState i) = (profCheck nv i).state) ∧ s.w.only t [.blobs]) := by
  have hdone : profileProgramDone (s.nv, s.w) = showProf ({ s.nv with flash := { s.nv.flash with op := none } }, s.w) := by
    simp only [profileProgramDone, hop]
  refine ⟨_, _, exec_of_onBoth rfl (hdone.trans (showProf_eq _ _)), rfl, fun i => ?_, Work.only_showSlots _ s.w⟩
  exact (Work.get_showSlots_state _ s.w i).trans (if_neg (by simp))

/-- Settles O16: a slot shows what the flash holds of it after every change of the flash. -/
theorem profilesAreProgrammedAndErased : Obligations.ProfilesAreProgrammedAndErased := by
  refine ⟨fun s p n b => profileImageWrite_programs, fun s p n b o hr => profileImageWrite_busy hr, fun s n => profileProgramDone_shows,
    fun s p n hr hop => ?_⟩
  obtain ⟨nv, t, hexec, hnv, hshown, hjournals, honly⟩ := profileErase_empties hr hop
  exact ⟨nv, t, hexec, hnv, fun _ => hshown, hjournals, honly⟩

end Sys2Proof.Machine
end

section
/-! A warm reset (R70 cause 1, R88): what it keeps, and the flash it cuts short. -/
namespace Sys2Proof.Machine

/-! ### The records of a partner are released -/

/-- The objects in which the Ledger shows what waits and what was dropped. -/
def ringCount (k : Nat) : Prop := k = Obj.staged ∨ k = Obj.ledgerFlags ∨ (∃ q, k = Obj.lrBacklog q) ∨ ∃ q, k = Obj.lrDropped q

/-- They stand from 0x6700 on, under the subindices 4, 6 and 7. -/
theorem not_ringCount {k : Nat} (h : k / 256 < 0x6700 ∨ k % 256 ∉ [4, 6, 7]) : ¬ ringCount k := by
  simp only [List.mem_cons, List.not_mem_nil, or_false, not_or] at h
  rintro (rfl | rfl | ⟨q, rfl⟩ | ⟨q, rfl⟩)
  · exact absurd h (by decide)
  · exact absurd h (by decide)
  · unfold Obj.lrBacklog at h
    omega
  · unfold Obj.lrDropped at h
    omega

/-- A state differs in the Ledger, and in the objects that count its records, alone. -/
def Work.restages (a b : Work) : Prop := a.only b [.ledger] ∧ ∀ k, ¬ ringCount k → b.get k = a.get k

theorem Work.restages_trans {a b c : Work} (hab : a.restages b) (hbc : b.restages c) : a.restages c :=
  ⟨Work.only_trans hab.1 hbc.1, fun k hk => (hbc.2 k hk).trans (hab.2 k hk)⟩

theorem Work.restages_refl (w : Work) : w.restages w := ⟨w.only_refl _, fun _ _ => rfl⟩

theorem Work.restages_set (w : Work) {k : Nat} (v : Int) (hk : ringCount k) : w.restages (w.set k v) :=
  ⟨w.only_set _ _ _, fun k' hk' => w.get_set_other k k' v fun h => hk' (h ▸ hk)⟩

theorem Work.restages_ledger (w : Work) (l : Ledger) : w.restages { w with ledger := l } :=
  ⟨fun q hq => by cases q <;> simp [Part.same] at hq ⊢, fun _ _ => rfl⟩

theorem Work.restages_foldl {α : Type} {f : Work → α → Work} (hf : ∀ (v : Work) (x : α), v.restages (f v x)) (xs : List α) (w : Work) :
    w.restages (xs.foldl f w) :=
  List.foldlRecOn xs f w.restages_refl fun _ hv x _ => Work.restages_trans hv (hf _ x)

theorem Work.restages_showStaged (w : Work) : w.restages w.showStaged :=
  Work.restages_trans (w.restages_set _ (.inl rfl))
    (Work.restages_foldl (fun v q => v.restages_set _ (.inr (.inr (.inl ⟨q, rfl⟩)))) (upTo 4) _)

theorem Work.only_showStaged (w : Work) (ps : List Part) : w.only w.showStaged ps :=
  Work.only_trans (w.only_set _ _ _) (Work.only_foldl (upTo 4) (fun v _ _ => v.only_set _ _ _) _)

/-- A record is staged for its rings, or a ring at its share counts it as dropped. -/
theorem Work.restages_stage (w : Work) (s : Staged) (forced : Bool) : w.restages (w.stage s forced) := by
  refine Work.restages_trans ?_ (Work.restages_showStaged _)
  generalize hr : List.foldl _ _ _ = r
  have hrings : w.restages r.1 := by
    rw [← hr]
    refine List.foldlRecOn (motive := fun acc => w.restages acc.1) _ _ ?_ fun (acc : Work × List Nat) hacc q _ => ?_
    · exact w.restages_refl
    split
    · refine Work.restages_trans hacc (Work.restages_trans ?_ (Work.restages_ledger _ _))
      exact Work.restages_trans (acc.1.restages_set _ (.inr (.inr (.inr ⟨q, rfl⟩)))) (Work.restages_set _ _ (.inr (.inl rfl)))
    · exact hacc
  split
  · exact hrings
  · exact Work.restages_trans hrings (r.1.restages_ledger _)

theorem Work.restages_releaseHeld (w : Work) : w.restages w.releaseHeld :=
  Work.restages_trans (w.restages_ledger _) (Work.restages_foldl (fun v s => v.restages_stage s false) _ _)

/-! ### What is kept -/

theorem alGet_filter {α : Type} (f : Nat → Bool) (m : List (Nat × α)) {k : Nat} (hk : f k = true) :
    alGet (m.filter fun e => f e.1) k = alGet m k := by
  induction m with
  | nil => rfl
  | cons e m ih =>
    obtain ⟨a, b⟩ := e
    by_cases ha : a = k
    · subst ha
      simp [alGet, hk]
    · by_cases hf : f a = true <;> simp [alGet, ha, hf, ih]

/-- The calibration sets and the use of the correction store, shown after a reset. -/
def Work.showSets (w : Work) : Work := (upTo 4).foldl (fun w d => w.storeUse d) ((upTo 32).foldl (fun w p => w.showSet p 0) w)

/-- The objects that show them. -/
def setKeys : List Nat :=
  (upTo 32).flatMap (fun p => [Obj.activeGen p, Obj.deadPixels p, Obj.activeFlags p]) ++ (upTo 4).map (fun d => Obj.storeUsed d)

theorem Work.only_showSets (w : Work) (ps : List Part) : w.only w.showSets ps :=
  Work.only_trans
    (Work.only_foldl (upTo 32) (fun v _ _ => Work.only_trans (Work.only_trans (v.only_set _ _ _) (Work.only_set _ _ _ _)) (Work.only_set _ _ _ _)) w)
    (Work.only_foldl (upTo 4) (fun v _ _ => v.only_set _ _ _) _)

theorem Work.sameBut_showSets (w : Work) : w.sameBut w.showSets setKeys := by
  refine Work.sameBut_trans (Work.sameBut_foldl (upTo 32) (fun v p hp => ?_) w) (Work.sameBut_foldl (upTo 4) (fun v d hd => ?_) _)
  · have hmem : ∀ k ∈ [Obj.activeGen p, Obj.deadPixels p, Obj.activeFlags p], k ∈ setKeys :=
      fun k hk => List.mem_append_left _ (List.mem_flatMap.mpr ⟨p, hp, hk⟩)
    exact Work.sameBut_trans (Work.sameBut_trans (v.sameBut_set _ (hmem _ (by simp))) (Work.sameBut_set _ _ (hmem _ (by simp))))
      (Work.sameBut_set _ _ (hmem _ (by simp)))
  · exact v.sameBut_set _ (List.mem_append_right _ (List.mem_map_of_mem hd))

/-- An unpaired module loses in a warm reset all but what R88 keeps, shows its sets and staged records anew and counts the reset. -/
theorem Work.warmReset_eq {w : Work} (hpair : w.get Obj.pairState = 0) : ∃ v : Work,
    w.warmReset = (v.showSets.bump Obj.warmResets).showStaged.modeTo .reset 1 ∧ v.journal = w.releaseHeld.journal ∧
    v.clk.tb = w.releaseHeld.clk.tb ∧ v.d.regs = w.releaseHeld.d.regs.filter (fun e => keptOver e.1) ∧ v.d.conf = [] ∧ v.d.groupPcie = {} ∧
    v.d.groupCoe = {} ∧ v.d.groupYal = {} ∧ v.run.startAt = none ∧ v.run.waiting = none ∧ v.axis.started = false ∧
    v.axis.hwm = w.releaseHeld.axis.hwm := by
  have hleaves : w.secondaryLeaves = w := if_neg (by simp [hpair])
  rw [Work.warmReset, hleaves]
  exact ⟨_, rfl, rfl, rfl, rfl, rfl, rfl, rfl, rfl, rfl, rfl, rfl, rfl⟩

/-- What the statement says of the state that a warm reset leads to. -/
abbrev Work.resetFrom (w t : Work) : Prop :=
  t.entered .reset 1 ∧ t.journal = w.journal ∧ t.timeNs = w.timeNs ∧ t.get Obj.triggerHwm = w.get Obj.triggerHwm ∧
  t.get Obj.configGen = w.get Obj.configGen ∧ t.get Obj.ledgerId = w.get Obj.ledgerId ∧ t.get Obj.ledgerHwm = w.get Obj.ledgerHwm ∧
  t.get Obj.warmResets = min (w.get Obj.warmResets + 1) 0xFFFFFFFF ∧ t.d.conf = [] ∧ t.d.groupPcie = {} ∧ t.d.groupCoe = {} ∧
  t.d.groupYal = {} ∧ t.run.startAt = none ∧ t.run.waiting = none ∧ t.axis.started = false ∧ t.axis.hwm = w.axis.hwm

theorem Work.resetFrom_warmReset {w : Work} (hpair : w.get Obj.pairState = 0) : w.resetFrom w.warmReset := by
  obtain ⟨v, hreset, hjournal, htb, hregs, hconf, hpcie, hcoe, hyal, hstart, hwait, hstarted, hhwm⟩ := w.warmReset_eq hpair
  obtain ⟨hheld, hheldGet⟩ := w.restages_releaseHeld
  have honly : v.only w.warmReset [.mode, .router, .timers, .host, .sent] := by
    rw [hreset]
    exact Work.only_trans (v.only_showSets _)
      (Work.only_trans (Work.only_set _ _ _ _) (Work.only_trans (Work.only_showStaged _ _) (Work.only_modeTo _ _ _)))
  have hkept : ∀ k, keptOver k = true → ¬ ringCount k → k ∉ setKeys → v.showSets.get k = w.get k := fun k hk hring hsets => by
    rw [v.sameBut_showSets k hsets, ← hheldGet k hring, Work.get, hregs, alGet_filter keptOver _ hk]
    rfl
  have hshown : ∀ k, ¬ ringCount k → k ∉ transitionKeys → w.warmReset.get k = (v.showSets.bump Obj.warmResets).get k := fun k hring htrans => by
    rw [hreset, Work.sameBut_modeTo _ _ _ k htrans, (Work.restages_showStaged _).2 k hring]
  have hsame : ∀ k, keptOver k = true → ¬ ringCount k → k ∉ setKeys → k ∉ transitionKeys → k ≠ Obj.warmResets → w.warmReset.get k = w.get k :=
    fun k hk hring hsets htrans hne => by rw [hshown k hring htrans, Work.get_bump, if_neg hne.symm, hkept k hk hring hsets]
  have htime : w.warmReset.clk.tb = w.clk.tb := by
    rw [show w.warmReset.clk = v.clk from honly .clk (by decide), htb, show w.releaseHeld.clk = w.clk from hheld .clk (by decide)]
  have hjournal' : w.warmReset.journal = v.journal := honly .journal (by decide)
  obtain ⟨hconf', -⟩ := honly .conf (by decide)
  obtain ⟨hpcie', hcoe', hyal'⟩ := honly .groups (by decide)
  have hrun : w.warmReset.run = v.run := honly .run (by decide)
  have haxis : w.warmReset.axis = v.axis := honly .axis (by decide)
  refine ⟨by rw [hreset]; exact Work.entered_modeTo _ _ _, ?_, by rw [Work.timeNs, htime, Work.timeNs],
    hsame _ (by decide) (not_ringCount (by decide)) (by decide) (by decide) (by decide),
    hsame _ (by decide) (not_ringCount (by decide)) (by decide) (by decide) (by decide),
    hsame _ (by decide) (not_ringCount (by decide)) (by decide) (by decide) (by decide),
    hsame _ (by decide) (not_ringCount (by decide)) (by decide) (by decide) (by decide),
    ?_, hconf'.trans hconf, hpcie'.trans hpcie, hcoe'.trans hcoe, hyal'.trans hyal, by rw [hrun, hstart], by rw [hrun, hwait],
    by rw [haxis, hstarted], ?_⟩
  · rw [hjournal', hjournal]
    exact hheld .journal (by decide)
  · rw [hshown _ (not_ringCount (by decide)) (by decide), Work.get_bump, if_pos rfl,
      hkept _ (by decide) (not_ringCount (by decide)) (by decide)]
    rfl
  · rw [haxis, hhwm]
    exact congrArg Axis.hwm (hheld .axis (by decide))

/-! ### The flash -/

theorem NonVol.fuses_tear (nv : NonVol) : nv.tear.fuses = nv.fuses := by
  unfold NonVol.tear
  split <;> rfl

/-- A programming under way has ended. -/
theorem NonVol.op_tear (nv : NonVol) : nv.tear.flash.op = none := by
  unfold NonVol.tear
  split
  · assumption
  · rfl
  · rfl

theorem NonVol.tear_of_idle {nv : NonVol} (h : nv.flash.op = none) : nv.tear = nv := by
  simp only [NonVol.tear, h]

/-! ### The commands -/

/-- A reset pin of a module with good rails, unpaired, is a warm reset. -/
theorem warmResetAssert_resets {c : Instr} {s : State} (hc : exec c s = onBoth warmResetAssert s) (hrails : s.w.power.rails = true)
    (hpair : s.w.get Obj.pairState = 0) :
    DoesNv c s (fun nv t => s.w.resetFrom t ∧ nv.fuses = s.nv.fuses ∧ nv.flash.op = none ∧ (s.nv.flash.op = none → nv = s.nv)) :=
  ⟨_, _, exec_of_onBoth hc (if_pos hrails), Work.resetFrom_warmReset hpair, s.nv.fuses_tear, s.nv.op_tear, NonVol.tear_of_idle⟩

/-- The row of RESET_CMD. -/
def resetCmdRow : ObjRow := ⟨0x2000, 0x1, 1, 4, 4, "RESET_CMD", .u16, .wo, .imm, .const 0, .codes [42435]⟩

theorem Work.running_startTimer (w : Work) (t : Timer) : (w.startTimer t).running t = true := by
  simp [Work.running, Work.startTimer]

/-- Beside its object an acceptance changes the count of overwritten entries and the result of a path. -/
theorem not_mem_acceptKeys {k : Nat} (h : k ∉ [Obj.overwritten, Obj.resultPcie, Obj.resultCoe, Obj.resultYalind]) {p : Path} : k ∉ acceptKeys p := by
  simp only [acceptKeys, List.mem_cons, Option.mem_toList, not_or] at h ⊢
  exact ⟨h.1, fun hp => by simpa [h.2] using resultKey_mem hp⟩

section
variable {s : State} {p : Path} (hr : s.w.ready p = true)
include hr

/-- RESET_CMD is accepted, and acts on the state in which it is journaled. -/
theorem resetCmd_accepted : ∃ a, resetCmd p (s.nv, s.w) = resetAct (s.nv, a) ∧ s.w.obeys a p Obj.resetCmd 0xA5C3 [] [] :=
  writeNumNv_command (r := resetCmdRow) (by decide) hr rfl resetAct s.nv

theorem resetCmd_resets (hlatch : s.w.run.latch = false) (hpair : s.w.get Obj.pairState = 0) :
    DoesNv (.resetCmd p) s (fun nv t => t.entered .reset 1 ∧ t.journal.head = s.w.journal.head + 1 ∧ t.running .resetRelease = true ∧ t.d.conf = [] ∧
      nv.fuses = s.nv.fuses) := by
  obtain ⟨a, hacts, ⟨hhead, -⟩, -, -, honly, hsame⟩ := resetCmd_accepted hr
  have hrun : a.run = s.w.run := honly .run (by decide)
  have hpair' : a.get Obj.pairState = 0 := by
    rw [hsame _ (by simpa using not_mem_acceptKeys (by decide)), hpair]
  rw [resetAct, if_neg (by simp [hrun, hlatch])] at hacts
  obtain ⟨hentered, hjournal, -, -, -, -, -, -, hconf, -⟩ := Work.resetFrom_warmReset hpair'
  exact ⟨_, _, exec_of_onBoth rfl hacts, hentered, by rw [← hhead, ← hjournal]; rfl, Work.running_startTimer _ _, hconf, s.nv.fuses_tear⟩

theorem resetCmd_latched (hlatch : s.w.run.latch = true) :
    DoesNv (.resetCmd p) s (fun nv t => s.w.obeys t p Obj.resetCmd 0xA5C3 [] [Obj.cmdResult] ∧ t.get Obj.cmdResult = 3 ∧ nv = s.nv) := by
  obtain ⟨a, hacts, hobeys⟩ := resetCmd_accepted hr
  have ⟨_, _, _, honly, _⟩ := hobeys
  have hrun : a.run = s.w.run := honly .run (by decide)
  rw [resetAct, if_pos (by simp [hrun, hlatch])] at hacts
  refine ⟨_, _, exec_of_onBoth rfl hacts, ?_, Work.get_set_same _ _ _, rfl⟩
  exact s.w.obeys_trans a _ p _ _ _ _ hobeys (a.only_set _ _ _) (a.sameBut_set _ (by simp)) (by simp) (by simp)
    (fun k hk => by cases p <;> simp [resultKey] at hk <;> simp [← hk])

end

/-- Settles O19: the reset pins and RESET_CMD lead to one warm reset. -/
theorem resetsKeepAndClear : Obligations.ResetsKeepAndClear := by
  refine ⟨fun s hrails hpair => ?_, fun s hrails hpair => ?_, fun s p => resetCmd_resets, fun s p => resetCmd_latched⟩
  · simpa only [and_assoc] using warmResetAssert_resets (c := .warmResetAssert) rfl hrails hpair
  · simpa only [and_assoc] using warmResetAssert_resets (c := .pwrResetAssert) rfl hrails hpair

end Sys2Proof.Machine
end

section
/-! START and STOP (R46, R68, R74, R555): what their acceptance makes pending, and what they do at their frames. -/
namespace Sys2Proof.Machine

/-! ### What RUN_CMD makes of the state that has accepted it -/

/-- The state with another run. -/
def Work.setRun (w : Work) (r : Run) : Work := { w with run := r }

theorem Work.only_setRun (w : Work) (r : Run) : w.only (w.setRun r) [.run] := by
  intro q hq
  cases q <;> simp [Part.same, Work.setRun] at hq ⊢

/-- The state with another run and an answer of a command. -/
def Work.answerRun (w : Work) (r : Run) (n : Int) : Work := (w.setRun r).set Obj.cmdResult n

theorem Work.only_answerRun (w : Work) (r : Run) (n : Int) : w.only (w.answerRun r n) [.run] :=
  Work.only_trans (w.only_setRun r) (Work.only_set _ _ _ _)

theorem Work.sameBut_answerRun (w : Work) (r : Run) (n : Int) : w.sameBut (w.answerRun r n) [Obj.cmdResult] :=
  Work.sameBut_set (w.setRun r) n (by simp)

theorem Work.get_answerRun (w : Work) (r : Run) (n : Int) : (w.answerRun r n).get Obj.cmdResult = n := Work.get_set_same _ _ _

section
variable {w : Work} (ef : Nat)

theorem Work.startAct_pends (hmode : w.mode = .ready) (halign : w.get Obj.alignState ≠ 1) (hstart : w.run.startAt = none) :
    w.startAct ef = w.answerRun { w.run with startAt := some ef } 2 := by
  simp [Work.startAct, hmode, halign, hstart, Mode.inspecting, Work.answerRun, Work.setRun]

theorem Work.startAct_inspecting (hmode : w.mode.inspecting = true) (hstop : w.run.stopAt = none) : w.startAct ef = w.set Obj.cmdResult 3 := by
  simp [Work.startAct, hmode, hstop]

theorem Work.stopAct_pends (hmode : w.mode.inspecting = true) (hstop : w.run.stopAt = none) :
    w.stopAct ef = w.answerRun { (w.endSpan ef).run with stopAt := some ef } 2 := by
  have hspan : ∀ r, (w.endSpan ef).setRun r = w.setRun r := fun r => by
    unfold Work.endSpan
    split <;> rfl
  rw [Work.answerRun, ← hspan]
  simp [Work.stopAct, hmode, hstop, Work.setRun]

theorem Work.stopAct_cancels {n : Nat} (hmode : w.mode = .ready) (hstart : w.run.startAt = some n) :
    w.stopAct ef = (w.answerRun { w.run with startAt := none } 1).idleBegin := by
  simp [Work.stopAct, hmode, hstart, Mode.inspecting, Work.answerRun, Work.setRun]

end

/-! ### The acceptance -/

/-- The row of RUN_CMD. -/
def runCmdRow : ObjRow := ⟨0x2000, 0x1, 1, 2, 2, "RUN_CMD", .u8, .wo, .frame, .const 0, .codes [1, 2]⟩

section
variable {s : State} {p : Path} (hr : s.w.ready p = true) (hidle : s.w.get Obj.idleState = 0)
include hr hidle

/-- Outside idle RUN_CMD governs from the next frame on. -/
theorem runCmd_accepted {code : Int} (hrow : commandRow Obj.runCmd code runCmdRow = true) : ∃ a,
    runCmd p (.num code) (s.nv, s.w) = (s.nv, if code = 1 then (a.stopTimer .idle).startAct (s.w.frame + 1) else (a.stopTimer .idle).stopAct (s.w.frame + 1)) ∧
    s.w.obeys a p Obj.runCmd (field 8 code) [] [] := by
  have hframe : s.w.runFrame code = s.w.frame + 1 := by simp [Work.runFrame, hidle]
  obtain ⟨a, hacts, hobeys⟩ := Work.writeNum_command hrow hr
    (fun n v => if n = 1 then v.wake.startAct (s.w.frame + 1) else v.wake.stopAct (s.w.frame + 1)) (s.w.frame + 1)
  have ⟨_, _, _, _, hsame⟩ := hobeys
  have hawake : a.get Obj.idleState = 0 := by rw [hsame _ (by simpa using not_mem_acceptKeys (by decide)), hidle]
  have hwake : a.wake = a.stopTimer .idle := if_pos (by simp [hawake])
  refine ⟨a, ?_, hobeys⟩
  simp only [runCmd, hframe, hacts, hwake]

/-- What RUN_CMD does to the run and shows in CMD_RESULT is all it does beside its acceptance. -/
theorem runCmd_obeys {c : Instr} {code : Int} {ps : List Part} {P : Work → Prop} (hc : exec c s = onBoth (runCmd p (.num code)) s)
    (hrow : commandRow Obj.runCmd code runCmdRow = true) (hps : Part.journal ∉ ps ∧ Part.lastRes ∉ ps ∧ Part.timers ∈ ps)
    (hact : ∀ v : Work, v.mode = s.w.mode → v.run = s.w.run → v.get Obj.alignState = s.w.get Obj.alignState → ∀ t,
      t = (if code = 1 then v.startAct (s.w.frame + 1) else v.stopAct (s.w.frame + 1)) → v.only t ps ∧ v.sameBut t [Obj.cmdResult] ∧ P t) :
    DoesNv c s (fun nv t => s.w.obeys t p Obj.runCmd (field 8 code) ps [Obj.cmdResult] ∧ nv = s.nv ∧ P t) := by
  obtain ⟨a, hacts, hobeys⟩ := runCmd_accepted hr hidle hrow
  have ⟨_, _, _, honly, hsame⟩ := hobeys
  obtain ⟨hparts, hkeys, hP⟩ := hact (a.stopTimer .idle) (honly .mode (by decide)) (honly .run (by decide))
    (hsame _ (by simpa using not_mem_acceptKeys (by decide))) _ rfl
  refine ⟨_, _, exec_of_onBoth hc hacts, s.w.obeys_trans a _ p _ _ _ _ hobeys ?_ ?_ hps.1 hps.2.1 ?_, rfl, hP⟩
  · exact Work.only_trans (Work.only_mono (a.only_stopTimer .idle) (by simp [hps.2.2])) hparts
  · exact Work.sameBut_trans (a.sameBut_stopTimer .idle _) hkeys
  · intro k hk
    have := resultKey_mem hk
    rintro hmem
    obtain rfl := List.mem_singleton.mp hmem
    exact absurd this (by decide)

theorem runStart_pends (hmode : s.w.mode = .ready) (halign : s.w.get Obj.alignState ≠ 1) (hstart : s.w.run.startAt = none) :
    DoesNv (.runStart p) s (fun nv t => s.w.obeys t p Obj.runCmd 1 [.run, .timers] [Obj.cmdResult] ∧ nv = s.nv ∧
      t.run = { s.w.run with startAt := some (s.w.frame + 1) } ∧ t.get Obj.cmdResult = 2) := by
  refine runCmd_obeys hr hidle (code := 1) rfl (by decide) (by decide) fun v hvmode hvrun hvalign t ht => ?_
  rw [if_pos rfl, Work.startAct_pends _ (hvmode.trans hmode) (by rwa [hvalign]) (by rw [hvrun, hstart])] at ht
  subst ht
  refine ⟨Work.only_mono (v.only_answerRun _ _) (by simp), v.sameBut_answerRun _ _, ?_, v.get_answerRun _ _⟩
  rw [← hvrun]
  rfl

theorem runStop_pends (hmode : s.w.mode.inspecting = true) (hstop : s.w.run.stopAt = none) :
    DoesNv (.runStop p) s (fun nv t => s.w.obeys t p Obj.runCmd 2 [.run, .timers] [Obj.cmdResult] ∧ nv = s.nv ∧
      t.run.stopAt = some (s.w.frame + 1) ∧ t.run.startAt = s.w.run.startAt ∧ t.get Obj.cmdResult = 2 ∧
      (∀ a e rest, s.w.run.spans = (a, e) :: rest → t.run.spans = (a, some (min (s.w.frame + 1) (e.getD (s.w.frame + 1)))) :: rest)) := by
  refine runCmd_obeys hr hidle (code := 2) rfl (by decide) (by decide) fun v hvmode hvrun _ t ht => ?_
  rw [if_neg (by decide), Work.stopAct_pends _ (by rwa [hvmode]) (by rw [hvrun, hstop])] at ht
  subst ht
  refine ⟨Work.only_mono (v.only_answerRun _ _) (by simp), v.sameBut_answerRun _ _, rfl, ?_, v.get_answerRun _ _, fun a e rest hspans => ?_⟩
  · show (v.endSpan _).run.startAt = _
    rw [v.endSpan_run, hvrun]
  · show (v.endSpan _).run.spans = _
    simp only [Work.endSpan, hvrun, hspans]

theorem runStop_cancels {n : Nat} (hmode : s.w.mode = .ready) (hstart : s.w.run.startAt = some n) :
    DoesNv (.runStop p) s (fun nv t => s.w.obeys t p Obj.runCmd 2 [.run, .timers] [Obj.cmdResult] ∧ nv = s.nv ∧
      t.run = { s.w.run with startAt := none } ∧ t.get Obj.cmdResult = 1) := by
  refine runCmd_obeys hr hidle (code := 2) rfl (by decide) (by decide) fun v hvmode hvrun _ t ht => ?_
  rw [if_neg (by decide), Work.stopAct_cancels _ (hvmode.trans hmode) (by rw [hvrun, hstart])] at ht
  subst ht
  refine ⟨Work.only_trans (Work.only_mono (v.only_answerRun _ _) (by simp)) (Work.only_mono (Work.only_idleBegin _) (by simp)),
    Work.sameBut_trans (v.sameBut_answerRun _ _) fun k _ => Work.get_idleBegin _ k, ?_, by rw [Work.get_idleBegin, v.get_answerRun]⟩
  rw [Work.only_idleBegin _ .run (by decide), ← hvrun]
  rfl

theorem runStart_inspecting (hmode : s.w.mode.inspecting = true) (hstop : s.w.run.stopAt = none) :
    DoesNv (.runStart p) s (fun nv t => s.w.obeys t p Obj.runCmd 1 [.timers] [Obj.cmdResult] ∧ nv = s.nv ∧ t.get Obj.cmdResult = 3) := by
  refine runCmd_obeys hr hidle (code := 1) rfl (by decide) (by decide) fun v hvmode hvrun _ t ht => ?_
  rw [if_pos rfl, Work.startAct_inspecting _ (by rwa [hvmode]) (by rw [hvrun, hstop])] at ht
  subst ht
  exact ⟨v.only_set _ _ _, v.sameBut_set _ (by simp), Work.get_set_same _ _ _⟩

end

/-! ### At the frame -/

/-- The state in which the mode of inspection is entered, its START no longer pending. -/
def Work.enterInspection (w : Work) : Work :=
  let v := w.setRun { w.run with startAt := none }
  if v.capacityLost then v.modeTo .degraded 18 else v.modeTo .inspect 10

theorem Work.entered_enterInspection (w : Work) :
    w.enterInspection.entered (if w.capacityLost then .degraded else .inspect) (if w.capacityLost then 18 else 10) := by
  have hlost : (w.setRun { w.run with startAt := none }).capacityLost = w.capacityLost := rfl
  unfold Work.enterInspection
  dsimp only
  rw [hlost]
  split
  · exact Work.entered_modeTo _ _ _
  · exact Work.entered_modeTo _ _ _

theorem Work.enterInspection_run (w : Work) : w.enterInspection.run = { w.run with startAt := none } := by
  unfold Work.enterInspection
  dsimp only
  split
  · exact Work.modeTo_run _ _ _
  · exact Work.modeTo_run _ _ _

/-- The restart forgets the frame at which inspection had stopped. -/
theorem Work.modeView_coverStopped (w : Work) (n : Nat) :
    (w.coverStopped n).modeView = (w.setRun { w.run with stopped := none }).modeView := by
  unfold Work.coverStopped
  split
  · next h =>
    have hsame : ({ w.run with stopped := none } : Run) = w.run := by rw [← h]
    rw [hsame]
    rfl
  · exact Work.modeView_ite rfl (Work.modeView_cover _ _)

/-- The frames from n on are begun, with the records of the START. -/
def Work.beginRecords (w : Work) (n : Nat) : Work :=
  let done := if w.run.started then w.getN Obj.completeFrame else w.run.keptDone
  ((w.beginFrames n).coverStopped n).event { event := 1, frame := n, d0 := n * w.frameLen, d1 := w.getN Obj.ledgerId, d2 := done }

/-- The START is answered, with the records of capacity lost before it. -/
def Work.beginInspection (w : Work) (n : Nat) : Work :=
  let v := w.beginRecords n
  ((v.setRun { v.run with started := true }).lateLosses n).set Obj.cmdResult 1

theorem Work.modeView_beginRecords (w : Work) (n : Nat) :
    (w.beginRecords n).modeView = ((w.beginFrames n).setRun { (w.beginFrames n).run with stopped := none }).modeView :=
  (Work.modeView_event _ _).trans (Work.modeView_coverStopped _ n)

theorem Work.beginInspection_shows (w : Work) (n : Nat) :
    (w.beginInspection n).mode = w.mode ∧
    (w.beginInspection n).run = { w.run with spans := (n, none) :: w.run.spans, stopped := none, started := true } ∧
    (w.beginInspection n).get Obj.cmdResult = 1 ∧
    ∀ k, k / 256 < 0x2100 → k ≠ Obj.cmdResult → (w.beginInspection n).get k = w.get k := by
  have hview := w.modeView_beginRecords n
  have hlate := ((w.beginRecords n).setRun { (w.beginRecords n).run with started := true }).modeView_lateLosses n
  refine ⟨?_, ?_, Work.get_set_same _ _ _, fun k hk hne => ?_⟩
  · exact (Work.mode_of_modeView hlate).trans (Work.mode_of_modeView hview :)
  · rw [Work.beginInspection, Work.set_run, Work.run_of_modeView hlate, Work.setRun, Work.run_of_modeView hview]
    rfl
  · rw [Work.beginInspection, Work.get_set_other _ _ _ _ hne.symm, Work.get_of_modeView hlate hk]
    exact (Work.get_of_modeView hview hk :)

/-- The trigger of the frame then reaches the cameras, which leaves the mode machine alone. -/
theorem Work.modeView_startNow (w : Work) (n : Nat) :
    (w.startNow n).modeView = ((if w.running .idleWake then w.wakeOver else w).enterInspection.beginInspection n).modeView := by
  unfold Work.startNow
  dsimp only
  split
  · exact Work.modeView_triggerWork _ _
  · rfl

theorem startTakesEffect_inspects {s : State} {n : Nat} (hmode : s.w.mode = .ready) (hstart : s.w.run.startAt = some n) (hn : n ≤ s.w.frame) :
    Does (.startTakesEffect) s (fun t => t.mode.inspecting = true ∧ t.run.startAt = none ∧ t.run.started = true ∧ t.get Obj.cmdResult = 1 ∧
      t.inspected n = true ∧ t.entered (if s.w.capacityLost then .degraded else .inspect) (if s.w.capacityLost then 18 else 10)) := by
  have hdue : startDue s.w = s.w.startNow n := by simp [startDue, hstart, hmode, hn]
  refine does_of_onWork rfl ?_
  rw [hdue]
  generalize hu : (if s.w.running .idleWake then s.w.wakeOver else s.w) = u
  have hurun : u.run = s.w.run := by
    rw [← hu]
    split
    · exact s.w.only_wakeOver .run (by decide)
    · rfl
  have hlost : u.capacityLost = s.w.capacityLost := by simp only [Work.capacityLost, hurun]
  have hview := s.w.modeView_startNow n
  rw [hu] at hview
  obtain ⟨hbmode, hbrun, hbresult, hbget⟩ := u.enterInspection.beginInspection_shows n
  obtain ⟨hemode, hedev, hecause⟩ := u.entered_enterInspection
  have hrun := (Work.run_of_modeView hview).trans hbrun
  rw [hlost] at hemode hedev hecause
  have hm := (Work.mode_of_modeView hview).trans (hbmode.trans hemode)
  refine ⟨?_, ?_, ?_, ?_, ?_, hm, ?_, ?_⟩
  · rw [hm]
    split <;> rfl
  · rw [hrun, u.enterInspection_run]
  · rw [hrun]
  · exact (Work.get_of_modeView hview (by decide)).trans hbresult
  · simp [Work.inspected, hrun]
  · rw [Work.get_of_modeView hview (by decide), hbget _ (by decide) (by decide), hedev]
  · rw [Work.get_of_modeView hview (by decide), hbget _ (by decide) (by decide), hecause]

/-- The state in which a STOP has taken effect, before the calibrations of single ports end. -/
def Work.stopInspection (w : Work) (n : Nat) : Work :=
  ((w.setRun { w.run with stopAt := none, returnAt := none, stopped := some n, draining := true }).lagEnd).modeTo .ready 11

theorem stopTakesEffect_stops {s : State} {n : Nat} (hmode : s.w.mode.inspecting = true) (hstop : s.w.run.stopAt = some n) (hn : n ≤ s.w.frame) :
    Does (.stopTakesEffect) s (fun t => t.entered .ready 11 ∧ t.run.stopAt = none ∧ t.run.stopped = some n ∧ t.run.draining = true ∧
      t.get Obj.cmdResult = 1) := by
  have hdue : stopDue s.w = ((s.w.stopInspection n).abortCals true).set Obj.cmdResult 1 := by
    simp only [stopDue, hstop, hmode, hn, decide_true, Bool.and_self, if_true]
    rfl
  have hview := (s.w.stopInspection n).modeView_abortCals true
  have hrun : ((s.w.stopInspection n).abortCals true).run =
      { s.w.run with stopAt := none, returnAt := none, stopped := some n, draining := true } := by
    rw [Work.run_of_modeView hview, Work.stopInspection, Work.modeTo_run, Work.run_of_modeView (Work.modeView_lagEnd _)]
    rfl
  obtain ⟨hemode, hedev, hecause⟩ : (s.w.stopInspection n).entered .ready 11 := Work.entered_modeTo _ _ _
  refine does_of_onWork rfl ?_
  rw [hdue]
  refine ⟨⟨by rw [Work.set_mode, Work.mode_of_modeView hview, hemode], ?_, ?_⟩, by rw [Work.set_run, hrun], by rw [Work.set_run, hrun], by rw [Work.set_run, hrun],
    Work.get_set_same _ _ _⟩
  · rw [Work.get_set_other _ _ _ _ (by decide), Work.get_of_modeView hview (by decide), hedev]
  · rw [Work.get_set_other _ _ _ _ (by decide), Work.get_of_modeView hview (by decide), hecause]

/-- The work of a STOP has ended, and nothing waits for it. -/
theorem stopDrainEnd_ends {s : State} (hdrain : s.w.run.draining = true) (hdone : s.w.drained = true) (hwait : s.w.run.waiting = none) :
    DoesNv (.stopDrainEnd) s (fun nv t => nv = s.nv ∧ t.run = { s.w.run with draining := false } ∧ s.w.only t [.run, .timers] ∧ s.w.sameBut t []) := by
  have hrun : (s.w.setRun { s.w.run with draining := false }).idleBegin.run = { s.w.run with draining := false } :=
    Work.only_idleBegin _ .run (by decide)
  have hend : stopDrainEnd (s.nv, s.w) = (s.nv, (s.w.setRun { s.w.run with draining := false }).idleBegin) := by
    rw [stopDrainEnd, if_neg (by simp [hdrain, hdone])]
    exact releaseWaiting_none ((congrArg Run.waiting hrun).trans hwait)
  refine ⟨_, _, exec_of_onBoth rfl hend, rfl, hrun, ?_, fun k _ => Work.get_idleBegin _ k⟩
  exact Work.only_trans (Work.only_mono (s.w.only_setRun _) (by simp)) (Work.only_mono (Work.only_idleBegin _) (by simp))

/-- Settles O13: an accepted RUN_CMD changes the run alone, and what a START or STOP sets going leaves the mode it has entered. -/
theorem runCommandsWaitForTheirFrame : Obligations.RunCommandsWaitForTheirFrame := by
  refine ⟨fun s p hr hmode halign hstart hidle => runStart_pends hr hidle hmode halign hstart,
    fun s p hr hmode hstop hidle => runStop_pends hr hidle hmode hstop, fun s p n hr hmode hstart hidle => runStop_cancels hr hidle hmode hstart,
    fun s p hr hmode hstop hidle => runStart_inspecting hr hidle hmode hstop, fun s n hmode hstart hn => ?_,
    fun s n => stopTakesEffect_stops, fun s => stopDrainEnd_ends⟩
  obtain ⟨t, hexec, hinsp, hat, hstarted, hresult, hspan, hentered⟩ := startTakesEffect_inspects hmode hstart hn
  exact ⟨t, hexec, hinsp, hat, hstarted, hresult, hspan, fun _ => hentered⟩

end Sys2Proof.Machine
end

section
/-! Position inputs (R94 to R104): what an input's fault, a counted edge and a new speed change, and the sample of a quadrature input. -/
namespace Sys2Proof.Machine
variable (w : Work)

/-! ### Storing in flags, counters and an input -/

theorem Work.only_flag (k m : Nat) (ps : List Part) : w.only (w.flag k m) ps := w.only_set k _ ps

theorem Work.sameBut_flag {k : Nat} (m : Nat) {ks : List Nat} (hk : k ∈ ks) : w.sameBut (w.flag k m) ks := w.sameBut_set _ hk

theorem Work.only_bump (k n : Nat) (ps : List Part) : w.only (w.bump k n) ps := w.only_set k _ ps

theorem Work.sameBut_bump {k : Nat} (n : Nat) {ks : List Nat} (hk : k ∈ ks) : w.sameBut (w.bump k n) ks := w.sameBut_set _ hk

theorem Work.sameBut_raise {s : Nat} {ks : List Nat} (hs : raisedKey s ∈ ks) : w.sameBut (w.raise s) ks := fun k hk => by
  rw [w.get_raise, if_neg]
  rintro ⟨rfl, -⟩
  exact hk hs

theorem Work.sameBut_mono {a b : Work} {ks ls : List Nat} (h : a.sameBut b ks) (hsub : ks ⊆ ls) : a.sameBut b ls :=
  fun k hk => h k fun hmem => hk (hsub hmem)

theorem Work.only_updPin (i : Nat) (f : PosIn → PosIn) : w.only (w.updPin i f) [.posIn] := by
  intro q hq
  cases q <;> simp [Part.same] at hq ⊢

theorem Work.sameBut_updPin (i : Nat) (f : PosIn → PosIn) (ks : List Nat) : w.sameBut (w.updPin i f) ks := fun _ _ => rfl

theorem Work.pin_updPin_other {i j : Nat} (h : j ≠ i) (f : PosIn → PosIn) : (w.updPin i f).pin j = w.pin j := by
  rw [Work.pin, Work.updPin, nth_upd, if_neg fun ⟨hij, _⟩ => h hij.symm, Work.pin]

theorem Work.pin_congr {a b : Work} (h : b.posIn = a.posIn) (j : Nat) : b.pin j = a.pin j := by rw [Work.pin, h, Work.pin]

/-! ### The objects of an input -/

/-- What the samples of an input show beside its count, in the events that they raise too. -/
def shownKeys (i : Nat) : List Nat :=
  [Obj.rawState i, Obj.status i, Obj.speed i, Obj.motion i, Obj.faultCount i, Obj.webStatus, raisedKey (8 + i), raisedKey (24 + i)]

/-- The count of an input, its limits, and the objects of its index. -/
def countKeys (i : Nat) : List Nat :=
  [Obj.count i, Obj.limitMin i, Obj.limitMax i, Obj.indexMode i, Obj.indexRef i, Obj.indexRefValid i, Obj.indexTol i, Obj.slipCount i]

theorem not_mem_shownKeys (i : Fin 16) : ∀ k ∈ countKeys i, k ∉ shownKeys i := by decide +revert

theorem faultCount_not_mem (i : Fin 16) :
    Obj.faultCount i ∉ [Obj.rawState i, Obj.count i, Obj.status i, Obj.speed i, Obj.motion i, Obj.webStatus, raisedKey (8 + i)] := by decide +revert

theorem not_mem_rawState (i : Fin 16) : Obj.status i ∉ [Obj.rawState i] ∧ Obj.faultCount i ∉ [Obj.rawState i] := by decide +revert

/-- A change of what is shown leaves the count, its limits and the index. -/
theorem Work.get_countKey {a b : Work} (i : Fin 16) {ks : List Nat} (h : a.sameBut b ks) (hks : ks ⊆ shownKeys i) {k : Nat}
    (hk : k ∈ countKeys i) : b.get k = a.get k :=
  h k fun hmem => not_mem_shownKeys i k hk (hks hmem)

/-! ### Faults of an input (R94) -/

theorem Work.only_posStatus (i bit : Nat) : w.only (w.posStatus i bit) [.router] := by
  unfold Work.posStatus
  dsimp only
  split
  · exact w.only_flag _ _ _
  · exact Work.only_trans (w.only_flag _ _ _) (Work.only_raise _ _)

theorem Work.sameBut_posStatus (i bit : Nat) : w.sameBut (w.posStatus i bit) [Obj.status i, raisedKey (8 + i)] := by
  unfold Work.posStatus
  dsimp only
  split
  · exact w.sameBut_flag _ (by simp)
  · exact Work.sameBut_trans (w.sameBut_flag _ (by simp)) (Work.sameBut_raise _ (by simp))

/-- The counts of events stand below the objects of the position inputs. -/
theorem raisedKey_lt {s : Nat} (hs : s < 376) : raisedKey s < 0x8000 * 256 := by
  unfold raisedKey Obj.raised
  omega

theorem Work.get_posStatus_status (i : Fin 16) (bit : Nat) :
    (w.posStatus i bit).get (Obj.status i) = Int.ofNat (w.getN (Obj.status i) ||| 2 ^ bit) := by
  have hflag : (w.flag (Obj.status i) (2 ^ bit)).get (Obj.status i) = Int.ofNat (w.getN (Obj.status i) ||| 2 ^ bit) := Work.get_set_same _ _ _
  have hraised := raisedKey_lt (s := 8 + i) (by omega)
  unfold Work.posStatus
  dsimp only
  split
  · exact hflag
  · rw [Work.get_raise, if_neg, hflag]
    rintro ⟨h, -⟩
    unfold Obj.status at h
    omega

theorem Work.only_posFault (i bit : Nat) : w.only (w.posFault i bit) [.router] :=
  Work.only_trans (w.only_posStatus i bit) (Work.only_bump _ _ _ _)

theorem Work.sameBut_posFault (i bit : Nat) : w.sameBut (w.posFault i bit) [Obj.status i, Obj.faultCount i, raisedKey (8 + i)] :=
  Work.sameBut_trans (Work.sameBut_mono (w.sameBut_posStatus i bit) (by simp)) (Work.sameBut_bump _ _ (by simp))

theorem counterMax_faultCount : ∀ i : Fin 16, counterMax (Obj.faultCount i) = 0xFFFFFFFF := by decide

theorem counterMax_slipCount : ∀ i : Fin 16, counterMax (Obj.slipCount i) = 0xFFFFFFFF := by decide

/-- Beside its status object, an input's fault touches no object from 0x8000 on that is not its FAULT_COUNT. -/
theorem Work.get_posStatus_other (i : Fin 16) (bit : Nat) {k : Nat} (hk : 0x8000 * 256 ≤ k) (hne : k ≠ Obj.status i) :
    (w.posStatus i bit).get k = w.get k := by
  have hraised := raisedKey_lt (s := 8 + i) (by omega)
  exact w.sameBut_posStatus i bit k (by simp only [List.mem_cons, List.not_mem_nil, or_false]; omega)

theorem Work.get_posFault_faultCount (i : Fin 16) (bit : Nat) :
    (w.posFault i bit).get (Obj.faultCount i) = min (w.get (Obj.faultCount i) + 1) 0xFFFFFFFF := by
  rw [Work.posFault, Work.get_bump, if_pos rfl, w.get_posStatus_other i bit (by unfold Obj.faultCount; omega) (by decide +revert),
    counterMax_faultCount]
  rfl

theorem Work.get_posFault_status (i : Fin 16) (bit : Nat) :
    (w.posFault i bit).get (Obj.status i) = Int.ofNat (w.getN (Obj.status i) ||| 2 ^ bit) := by
  rw [Work.posFault, Work.get_bump, if_neg (by decide +revert), w.get_posStatus_status]

/-! ### The web axis after a change of the count (R108, R111) -/

theorem Work.only_setAxis (a : Axis) : w.only { w with axis := a } [.axis] := by
  intro q hq
  cases q <;> simp [Part.same] at hq ⊢

theorem Work.only_reloadTimer (t : Nat) : w.only (w.reloadTimer t) [.axis] := by
  unfold Work.reloadTimer
  dsimp only
  split <;> exact w.only_setAxis _

@[simp] theorem Work.get_reloadTimer (t k : Nat) : (w.reloadTimer t).get k = w.get k := by
  unfold Work.reloadTimer
  dsimp only
  split <;> rfl

theorem Work.only_checkBacktrack (t : Nat) : w.only (w.checkBacktrack t) [.axis] := by
  unfold Work.checkBacktrack
  split
  · split
    · exact Work.only_trans (w.only_flag Obj.webStatus 2 _) (Work.only_setAxis _ _)
    · exact w.only_refl _
  · exact w.only_refl _

theorem Work.sameBut_checkBacktrack (t : Nat) : w.sameBut (w.checkBacktrack t) [Obj.webStatus] := by
  unfold Work.checkBacktrack
  split
  · split
    · exact w.sameBut_flag 2 (by simp)
    · exact w.sameBut_refl _
  · exact w.sameBut_refl _

theorem Work.only_axisMoved (i t : Nat) : w.only (w.axisMoved i t) [.axis] := by
  unfold Work.axisMoved
  split
  · exact Work.only_trans (w.only_checkBacktrack t) (Work.only_reloadTimer _ t)
  · exact w.only_refl _

theorem Work.sameBut_axisMoved (i t : Nat) : w.sameBut (w.axisMoved i t) [Obj.webStatus] := by
  unfold Work.axisMoved
  split
  · exact Work.sameBut_trans (w.sameBut_checkBacktrack t) fun k _ => Work.get_reloadTimer _ t k
  · exact w.sameBut_refl _

/-! ### A new speed (R102, R104) -/

/-- What a change of an input's speed is made of: the input with its stamps, SPEED and MOTION, and what the web axis makes of it. -/
def Work.showSpeed (i : Nat) (f : PosIn → PosIn) (speed motion : Int) (t : Nat) : Work :=
  (((w.updPin i f).set (Obj.speed i) speed).set (Obj.motion i) motion).axisMoved i t

theorem Work.only_showSpeed (i : Fin 16) (f : PosIn → PosIn) (speed motion : Int) (t : Nat) :
    w.only (w.showSpeed i f speed motion t) [.posIn, .axis] :=
  Work.only_trans (b := w.updPin i f) (Work.only_mono (w.only_updPin i f) (by simp))
    (Work.only_trans (Work.only_set _ (Obj.speed i) speed _)
      (Work.only_trans (Work.only_set _ (Obj.motion i) motion _) (Work.only_mono (Work.only_axisMoved _ i t) (by simp))))

theorem Work.sameBut_showSpeed (i : Fin 16) (f : PosIn → PosIn) (speed motion : Int) (t : Nat) :
    w.sameBut (w.showSpeed i f speed motion t) [Obj.speed i, Obj.motion i, Obj.webStatus] :=
  Work.sameBut_trans (w.sameBut_updPin i f _)
    (Work.sameBut_trans (Work.sameBut_set _ (k := Obj.speed i) speed (by simp))
      (Work.sameBut_trans (Work.sameBut_set _ (k := Obj.motion i) motion (by simp)) (Work.sameBut_mono (Work.sameBut_axisMoved _ i t) (by simp))))

theorem Work.pin_showSpeed_other {i j : Fin 16} (h : j ≠ i) (f : PosIn → PosIn) (speed motion : Int) (t : Nat) :
    (w.showSpeed i f speed motion t).pin j = w.pin j :=
  (Work.pin_congr (Work.only_axisMoved _ i t .posIn (by decide)) j).trans (w.pin_updPin_other (by omega) f)

theorem Work.get_showSpeed_motion (i : Fin 16) (f : PosIn → PosIn) (speed motion : Int) (t : Nat) :
    (w.showSpeed i f speed motion t).get (Obj.motion i) = motion := by
  rw [Work.showSpeed, Work.sameBut_axisMoved _ i t _ (by decide +revert), Work.get_set_same]

theorem Work.get_showSpeed_speed (i : Fin 16) (f : PosIn → PosIn) (speed motion : Int) (t : Nat) :
    (w.showSpeed i f speed motion t).get (Obj.speed i) = speed := by
  rw [Work.showSpeed, Work.sameBut_axisMoved _ i t _ (by decide +revert), Work.get_set_other _ _ _ _ (by decide +revert), Work.get_set_same]

/-! ### A counted edge (R98, R102) -/

theorem Work.only_moveCount (i : Nat) (d : Int) : w.only (w.moveCount i d) [.router] := by
  unfold Work.moveCount
  dsimp only
  split
  · exact Work.only_trans (w.only_set _ _ _) (Work.only_posStatus _ i 7)
  · split
    · exact Work.only_trans (w.only_set _ _ _) (Work.only_posStatus _ i 6)
    · exact w.only_set _ _ _

variable {w} in
/-- Within its limits the count moves by the whole step. -/
theorem Work.moveCount_of_within {i : Nat} {d : Int} (hmin : w.get (Obj.limitMin i) ≤ w.get (Obj.count i) + d)
    (hmax : w.get (Obj.count i) + d ≤ w.get (Obj.limitMax i)) : w.moveCount i d = w.set (Obj.count i) (w.get (Obj.count i) + d) := by
  rw [Work.moveCount, if_neg (not_lt.mpr hmax), if_neg (not_lt.mpr hmin)]

/-- The direction that an edge is counted in, as DIRECTION sets it. -/
def Work.senseOf (i : Nat) (d : Int) : Int := if w.conf (Obj.direction i) = 0 then d else -d

theorem Work.senseOf_ne_zero (i : Nat) {d : Int} (hd : d ≠ 0) : w.senseOf i d ≠ 0 := by
  unfold Work.senseOf
  split
  · exact hd
  · exact neg_ne_zero.mpr hd

/-- The stamp of an edge, and what the web axis makes of it, are a new speed, after REVERSED where the direction has changed. -/
theorem Work.stampEdge_axisMoved (i : Fin 16) (d : Int) (t : Nat) : ∃ v f speed motion,
    (w.stampEdge i d t).axisMoved i t = v.showSpeed i f speed motion t ∧ (v = w ∨ v = w.posStatus i 0) := by
  refine ⟨_, _, _, _, rfl, ?_⟩
  split
  · exact .inr rfl
  · exact .inl rfl

/-- An edge that the limits let count changes the count by one step in the sense of DIRECTION. -/
theorem Work.countEdge_counts (i : Fin 16) {d : Int} (hd : d ≠ 0) (t : Nat) (hmin : w.get (Obj.limitMin i) ≤ w.get (Obj.count i) + w.senseOf i d)
    (hmax : w.get (Obj.count i) + w.senseOf i d ≤ w.get (Obj.limitMax i)) :
    (w.countEdge i d t).get (Obj.count i) = w.get (Obj.count i) + w.senseOf i d ∧
    (∀ j : Fin 16, j ≠ i → (w.countEdge i d t).pin j = w.pin j) ∧
    w.only (w.countEdge i d t) [.posIn, .axis, .router] ∧
    w.sameBut (w.countEdge i d t) [Obj.count i, Obj.status i, Obj.speed i, Obj.motion i, Obj.webStatus, raisedKey (8 + i)] := by
  let u := w.set (Obj.count i) (w.get (Obj.count i) + w.senseOf i d)
  have hmoves : u.get (Obj.count i) ≠ w.get (Obj.count i) := by
    have := w.senseOf_ne_zero i hd
    rw [Work.get_set_same]
    omega
  have hcount : w.countEdge i d t = (u.stampEdge i (w.senseOf i d) t).axisMoved i t := by
    rw [Work.countEdge, ← Work.senseOf, Work.moveCount_of_within hmin hmax, if_neg hmoves]
  obtain ⟨v, f, speed, motion, hstamp, hv⟩ := u.stampEdge_axisMoved i (w.senseOf i d) t
  have huonly : u.only v [.router] := by
    rcases hv with rfl | rfl
    exacts [u.only_refl _, u.only_posStatus i 0]
  have husame : u.sameBut v [Obj.status i, raisedKey (8 + i)] := by
    rcases hv with rfl | rfl
    exacts [u.sameBut_refl _, u.sameBut_posStatus i 0]
  rw [hcount, hstamp]
  refine ⟨?_, fun j hj => ?_, ?_, ?_⟩
  · rw [Work.get_countKey i (v.sameBut_showSpeed i f speed motion t) (by simp [shownKeys]) (by simp [countKeys]),
      Work.get_countKey i husame (by simp [shownKeys]) (by simp [countKeys]), Work.get_set_same]
  · rw [v.pin_showSpeed_other hj, Work.pin_congr (huonly .posIn (by decide))]
    rfl
  · exact Work.only_trans (w.only_set _ _ _)
      (Work.only_trans (Work.only_mono huonly (by simp)) (Work.only_mono (v.only_showSpeed i f speed motion t) (by simp)))
  · exact Work.sameBut_trans (w.sameBut_set _ (by simp))
      (Work.sameBut_trans (Work.sameBut_mono husame (by simp)) (Work.sameBut_mono (v.sameBut_showSpeed i f speed motion t) (by simp)))

/-! ### A sample of a quadrature input (R94) -/

/-- The state in which the levels of an input are taken, before they are judged. -/
def Work.sampled (i : Nat) (levels : BitVec 3) : Work :=
  (w.updPin i (fun p => { p with levels := levels })).set (Obj.rawState i) levels.toNat

theorem Work.only_sampled (i : Nat) (levels : BitVec 3) : w.only (w.sampled i levels) [.posIn] :=
  Work.only_trans (w.only_updPin i _) (Work.only_set _ _ _ _)

theorem Work.sameBut_sampled (i : Nat) (levels : BitVec 3) : w.sameBut (w.sampled i levels) [Obj.rawState i] :=
  Work.sameBut_trans (w.sameBut_updPin i _ _) (Work.sameBut_set _ _ (by simp))

variable {w} in
theorem Work.confN_eq_of_conf {k n : Nat} (h : w.conf k = n) : w.confN k = n := by
  rw [Work.confN, h, Int.toNat_natCast]

variable {w} in
/-- In quadrature without the TZ-640 filter the A/B states before and after are compared. -/
theorem Work.posSample_quad {i : Nat} (hmode : w.conf (Obj.piMode i) = 1) (hfilter : w.conf (Obj.edgeFilter i) = 0) (levels : BitVec 3) (t : Nat) :
    w.posSample i levels t = (w.sampled i levels).quadSample i ((w.pin i).levels.toNat % 4) (levels.toNat % 4) t := by
  have hsame : (w.sampled i levels).confN (Obj.edgeFilter i) = 0 := Work.confN_eq_of_conf (w := w) hfilter
  rw [Work.posSample, ← Work.sampled, Work.confN_eq_of_conf hmode, if_pos rfl, if_pos hsame]

theorem Work.quadSample_of_same (i old t : Nat) : w.quadSample i old old t = w := by
  simp [Work.quadSample, cycleStep]

variable {w} in
theorem Work.quadSample_of_skip {old new : Nat} (h : cycleStep 4 (quadPlace old) (quadPlace new) = none) (i t : Nat) :
    w.quadSample i old new t = w.posFault i 1 := by
  rw [Work.quadSample, h]

variable {w} in
theorem Work.quadSample_of_step {old new : Nat} {d : Int} (h : cycleStep 4 (quadPlace old) (quadPlace new) = some d) (hd : d ≠ 0) (i t : Nat) :
    w.quadSample i old new t = w.countEdge i d t := by
  rw [Work.quadSample, h]
  split
  · next h0 => cases h0
  · next h0 => exact absurd (Option.some.inj h0) hd
  · next h0 => rw [Option.some.inj h0]

/-! ### The inputs' events -/

/-- POS_EDGE by one place of the cycle. -/
theorem posEdge_counts {s : State} {i : Fin 16} {v : BitVec 3} {ph : Phase} {d : Int} (hopen : s.w.mode.dictOpen = true)
    (hmode : s.w.conf (Obj.piMode i) = 1) (hfilter : s.w.conf (Obj.edgeFilter i) = 0)
    (hstep : cycleStep 4 (quadPlace ((s.w.pin i).levels.toNat % 4)) (quadPlace (v.toNat % 4)) = some d) (hd : d ≠ 0)
    (hmin : s.w.get (Obj.limitMin i) ≤ s.w.get (Obj.count i) + s.w.senseOf i d)
    (hmax : s.w.get (Obj.count i) + s.w.senseOf i d ≤ s.w.get (Obj.limitMax i)) :
    Does (.posEdge i v ph) s (fun t => t.get (Obj.count i) = s.w.get (Obj.count i) + s.w.senseOf i d ∧
      t.get (Obj.faultCount i) = s.w.get (Obj.faultCount i) ∧ (∀ j : Fin 16, j ≠ i → t.pin j = s.w.pin j) ∧ s.w.only t [.posIn, .axis, .router] ∧
      s.w.sameBut t [Obj.rawState i, Obj.count i, Obj.status i, Obj.speed i, Obj.motion i, Obj.faultCount i, Obj.webStatus, raisedKey (8 + i)]) := by
  let u := s.w.sampled i v
  have hkept : ∀ k ∈ countKeys i, u.get k = s.w.get k := fun k hk => Work.get_countKey i (s.w.sameBut_sampled i v) (by simp [shownKeys]) hk
  have hcount : u.get (Obj.count i) = s.w.get (Obj.count i) := hkept _ (by simp [countKeys])
  obtain ⟨hmoved, hpins, honly, hsame⟩ := u.countEdge_counts i hd (s.w.now ph)
    (by rw [hcount, hkept _ (by simp [countKeys])]; exact hmin) (by rw [hcount, hkept _ (by simp [countKeys])]; exact hmax)
  have hframe : s.w.sameBut (u.countEdge i d (s.w.now ph))
      [Obj.rawState i, Obj.count i, Obj.status i, Obj.speed i, Obj.motion i, Obj.webStatus, raisedKey (8 + i)] :=
    Work.sameBut_trans (Work.sameBut_mono (s.w.sameBut_sampled i v) (by simp)) (Work.sameBut_mono hsame (by simp))
  refine does_of_onWork rfl ?_
  rw [posEdge, if_pos hopen, Work.posSample_quad hmode hfilter, Work.quadSample_of_step hstep hd]
  refine ⟨by rw [hmoved, hcount]; rfl, hframe _ (faultCount_not_mem i), fun j hj => ?_, ?_, Work.sameBut_mono hframe (by simp)⟩
  · exact (hpins j hj).trans (s.w.pin_updPin_other (by omega) _)
  · exact Work.only_trans (Work.only_mono (s.w.only_sampled i v) (by simp)) honly

/-- POS_EDGE with both signals changed. -/
theorem posEdge_faults {s : State} {i : Fin 16} {v : BitVec 3} {ph : Phase} (hopen : s.w.mode.dictOpen = true)
    (hmode : s.w.conf (Obj.piMode i) = 1) (hfilter : s.w.conf (Obj.edgeFilter i) = 0)
    (hskip : cycleStep 4 (quadPlace ((s.w.pin i).levels.toNat % 4)) (quadPlace (v.toNat % 4)) = none) :
    Does (.posEdge i v ph) s (fun t => t.get (Obj.count i) = s.w.get (Obj.count i) ∧
      t.get (Obj.faultCount i) = min (s.w.get (Obj.faultCount i) + 1) 0xFFFFFFFF ∧ t.get (Obj.status i) = Int.ofNat (s.w.getN (Obj.status i) ||| 2) ∧
      s.w.only t [.posIn, .router] ∧
      s.w.sameBut t [Obj.rawState i, Obj.count i, Obj.status i, Obj.speed i, Obj.motion i, Obj.faultCount i, Obj.webStatus, raisedKey (8 + i)]) := by
  have hsame : s.w.sameBut ((s.w.sampled i v).posFault i 1) [Obj.rawState i, Obj.status i, Obj.faultCount i, raisedKey (8 + i)] :=
    Work.sameBut_trans (Work.sameBut_mono (s.w.sameBut_sampled i v) (by simp)) (Work.sameBut_mono (Work.sameBut_posFault _ i 1) (by simp))
  refine does_of_onWork rfl ?_
  rw [posEdge, if_pos hopen, Work.posSample_quad hmode hfilter, Work.quadSample_of_skip hskip]
  refine ⟨Work.get_countKey i hsame (by simp [shownKeys]) (by simp [countKeys]), ?_, ?_, ?_, Work.sameBut_mono hsame (by simp)⟩
  · rw [Work.get_posFault_faultCount, Work.sameBut_sampled _ i v _ (not_mem_rawState i).2]
  · rw [Work.get_posFault_status, Work.getN, Work.sameBut_sampled _ i v _ (not_mem_rawState i).1]
    rfl
  · exact Work.only_trans (Work.only_mono (s.w.only_sampled i v) (by simp)) (Work.only_mono (Work.only_posFault _ i 1) (by simp))

/-- SSI_POLL with the data line not high. -/
theorem ssiPoll_faults {s : State} {i : Fin 16} (v : BitVec 48) (ph : Phase) (hopen : s.w.mode.dictOpen = true) (hmode : s.w.conf (Obj.piMode i) = 3) :
    Does (.ssiPoll i v false ph) s (fun t => t.get (Obj.count i) = s.w.get (Obj.count i) ∧
      t.get (Obj.faultCount i) = min (s.w.get (Obj.faultCount i) + 1) 0xFFFFFFFF ∧
      t.get (Obj.status i) = Int.ofNat (s.w.getN (Obj.status i) ||| 512) ∧ s.w.only t [.router]) := by
  have hssi : s.w.confN (Obj.piMode i) = 3 := Work.confN_eq_of_conf hmode
  refine does_of_onWork rfl ?_
  rw [ssiPoll, if_neg (by simp [hopen, hssi]), if_pos (by decide)]
  exact ⟨Work.get_countKey i (s.w.sameBut_posFault i 9) (by simp [shownKeys]) (by simp [countKeys]), s.w.get_posFault_faultCount i 9,
    s.w.get_posFault_status i 9, s.w.only_posFault i 9⟩

/-- SSI_POLL after an earlier reading. -/
theorem ssiPoll_counts {s : State} {i : Fin 16} {v : BitVec 48} {ph : Phase} {o : Nat} {d : Int} (hopen : s.w.mode.dictOpen = true)
    (hmode : s.w.conf (Obj.piMode i) = 3) (hcode : s.w.conf (Obj.ssiCode i) = 0) (hlast : (s.w.pin i).ssiLast = some o)
    (hstep : ssiStep (s.w.confN (Obj.ssiBits i)) o (v.toNat % 2 ^ s.w.confN (Obj.ssiBits i)) = d)
    (hmin : s.w.get (Obj.limitMin i) ≤ s.w.get (Obj.count i) + d) (hmax : s.w.get (Obj.count i) + d ≤ s.w.get (Obj.limitMax i)) :
    Does (.ssiPoll i v true ph) s (fun t => t.get (Obj.count i) = s.w.get (Obj.count i) + d ∧
      t.get (Obj.faultCount i) = s.w.get (Obj.faultCount i) ∧ s.w.only t [.posIn, .axis] ∧
      s.w.sameBut t [Obj.rawState i, Obj.count i, Obj.status i, Obj.speed i, Obj.motion i, Obj.faultCount i, Obj.webStatus, raisedKey (8 + i)]) := by
  have hssi : s.w.confN (Obj.piMode i) = 3 := Work.confN_eq_of_conf hmode
  have hbinary : s.w.confN (Obj.ssiCode i) = 0 := Work.confN_eq_of_conf hcode
  have hpoll : ∃ f speed motion, ssiPoll i v true ph s.w = (s.w.moveCount i d).showSpeed i f speed motion (s.w.now ph) := by
    rw [ssiPoll, if_neg (by simp [hopen, hssi]), if_neg (by simp)]
    simp only [hbinary, hlast, hstep, zero_ne_one, if_false]
    exact ⟨_, _, _, rfl⟩
  obtain ⟨f, speed, motion, hpoll⟩ := hpoll
  have hshown := fun u : Work => u.sameBut_showSpeed i f speed motion (s.w.now ph)
  have hframe : s.w.sameBut ((s.w.set (Obj.count i) (s.w.get (Obj.count i) + d)).showSpeed i f speed motion (s.w.now ph))
      [Obj.rawState i, Obj.count i, Obj.status i, Obj.speed i, Obj.motion i, Obj.webStatus, raisedKey (8 + i)] :=
    Work.sameBut_trans (s.w.sameBut_set _ (by simp)) (Work.sameBut_mono (hshown _) (by simp))
  refine does_of_onWork rfl ?_
  rw [hpoll, Work.moveCount_of_within hmin hmax]
  refine ⟨?_, hframe _ (faultCount_not_mem i), ?_, Work.sameBut_mono hframe (by simp)⟩
  · rw [Work.get_countKey i (hshown _) (by simp [shownKeys]) (by simp [countKeys]), Work.get_set_same]
  · exact Work.only_trans (s.w.only_set _ _ _) (Work.only_showSpeed _ i f speed motion _)

/-- SPEED_TIMEOUT on an input quiet for that time. -/
theorem speedTimeout_stands {s : State} {i : Fin 16} (hmode : s.w.conf (Obj.piMode i) ≠ 3) {t0 : Nat} (hstamp : t0 ∈ (s.w.pin i).stamps.head?)
    (hquiet : t0 + nsClocks (s.w.getN (Obj.speedTimeout i) * 1000) ≤ s.w.clk.ctl) :
    Does (.speedTimeout i) s (fun t => t.get (Obj.speed i) = 0 ∧ t.get (Obj.motion i) = 0 ∧ t.get (Obj.count i) = s.w.get (Obj.count i) ∧
      s.w.only t [.posIn, .axis]) := by
  have hnossi : s.w.confN (Obj.piMode i) ≠ 3 := by
    unfold Work.confN
    omega
  obtain ⟨ts, hstamps⟩ : ∃ ts, (s.w.pin i).stamps = t0 :: ts := List.head?_eq_some_iff.mp hstamp
  have hstands : speedTimeout i s.w = s.w.showSpeed i (fun p => { p with stamps := p.stamps.take 1, dir := 0 }) 0 0 s.w.clk.ctl := by
    simp only [speedTimeout, hstamps, hquiet, hnossi, decide_true, Bool.not_true, decide_false, Bool.or_false, Bool.false_eq_true, if_false]
    rfl
  refine does_of_onWork rfl ?_
  rw [hstands]
  exact ⟨s.w.get_showSpeed_speed i _ 0 0 _, s.w.get_showSpeed_motion i _ 0 0 _,
    Work.get_countKey i (s.w.sameBut_showSpeed i _ 0 0 _) (by simp [shownKeys]) (by simp [countKeys]), s.w.only_showSpeed i _ 0 0 _⟩

/-! ### COUNT_WRITE (R99) -/

/-- The row of COUNT. -/
def countRow : ObjRow := ⟨0x8000, 0x1, 16, 6, 6, "COUNT", .i64, .rw, .imm, .const 0, .any⟩

theorem findRow_count (i : Fin 16) : findRow (Obj.count i / 256) (Obj.count i % 256) = some countRow := by decide +revert

theorem count_ne_groupCtrl (i : Fin 16) : (List.range 3).all (fun g => Obj.count i != Obj.groupCtrl g) = true := by decide +revert

theorem count_not_mem_results (i : Fin 16) : Obj.count i ∉ [Obj.resultPcie, Obj.resultCoe, Obj.resultYalind] := by decide +revert

/-- A number that the checks of its row pass and its owner refuses. -/
theorem Work.writeNum_of_owner {w : Work} {p : Path} {key : Nat} {v : DictVal} {chk : OwnerCheck} {r : ObjRow} {n : Int} {e : Res}
    (hr : w.ready p = true) (hc : w.checkNum p key v = .ok (r, n)) (hk : chk w n = some e) (eff : Int → Work → Work) (ef : Option Nat) :
    w.writeNum p key v chk eff ef = w.refuse p key e := by
  obtain ⟨hopen, -, -, -, hgroup⟩ := (w.ready_iff p).mp hr
  simp [Work.writeNum, hopen, hc, Work.groupStage, hgroup, hk]

section
variable {s : State} {p : Path} {i : Fin 16} {v : Int} (hr : s.w.ready p = true) (hv : -0x8000000000000000 ≤ v ∧ v ≤ 0x7FFFFFFFFFFFFFFF)
include hr hv

theorem Work.checkNum_count : s.w.checkNum p (Obj.count i) (.num v) = .ok (countRow, v) := by
  have hrange : countRow.rng.check countRow.typ v = none := (if_neg (not_lt.mpr hv.2)).trans (if_neg (not_lt.mpr hv.1))
  exact s.w.checkNum_row p _ v countRow hr (indexExists_of_findRow (findRow_count i)) (findRow_count i)
    (foreignGroup_of_ne (count_ne_groupCtrl i) p) (by decide) rfl hrange (by simp [Work.checkMode, countRow])

/-- COUNT of an input beside the web axis takes a value within its limits. -/
theorem countWrite_sets (hsrc : s.w.confN Obj.webSource ≠ i) (hmin : s.w.get (Obj.limitMin i) ≤ v) (hmax : v ≤ s.w.get (Obj.limitMax i)) :
    Does (.countWrite p i v) s (fun t => s.w.obeys t p (Obj.count i) (field 64 v) [] [Obj.count i] ∧ t.get (Obj.count i) = v) := by
  have howner : countCheck i s.w v = none := by
    simp [countCheck, hsrc, not_lt.mpr hmin, not_lt.mpr hmax]
  have hstore : ∀ (u : Work) (ef : Nat), u.store countRow (Obj.count i) v ef = u.set (Obj.count i) v :=
    fun u ef => u.store_imm (by decide) rfl _ v ef
  have hresult : resultKey p ≠ some (Obj.count i) := fun h => count_not_mem_results i (resultKey_mem h)
  refine does_of_onWork rfl ?_
  rw [countWrite, s.w.writeNum_ready p _ _ _ _ none _ _ hr (Work.checkNum_count hr hv) howner]
  refine ⟨Work.obeys_acceptNum hr ?_ (by simp), ?_⟩
  · rw [hstore]
    exact Work.only_set _ _ _ _
  · rw [Work.acceptNum_of_unpaired (Work.unpaired_of_ready hr), Work.get_setResult, if_neg hresult, hstore, Work.get_set_same]

/-- COUNT of the input that drives the web axis is refused. -/
theorem countWrite_refused (hsrc : s.w.confN Obj.webSource = i) :
    Does (.countWrite p i v) s (fun t => s.w.refuses t p (Obj.count i) .inconsistent) := by
  refine does_of_onWork rfl ?_
  rw [countWrite, Work.writeNum_of_owner hr (Work.checkNum_count hr hv) (if_pos hsrc)]
  exact s.w.refuses_refuse p _ _

end

/-- Settles O21: one lemma for each event of an input, over the frames of a counted edge, of a fault and of a new speed. -/
theorem positionInputsCount : Obligations.PositionInputsCount :=
  ⟨fun _ _ _ _ _ => posEdge_counts, fun _ _ _ _ => posEdge_faults, fun _ _ => ssiPoll_faults, fun _ _ _ _ _ _ => ssiPoll_counts,
    fun _ _ hmode _ => speedTimeout_stands hmode, fun _ _ _ _ hr hsrc hmin hmax hv => countWrite_sets hr hv hsrc hmin hmax,
    fun _ _ _ _ hr hsrc hv => countWrite_refused hr hv hsrc⟩

end Sys2Proof.Machine
end

section
/-! The index (R99 to R101): the check of an accepted Z, and a pending correction. -/
namespace Sys2Proof.Machine
variable {w : Work}

/-! ### The check of Z (R100) -/

/-- Z stands beside A and B. -/
theorem ab_or_z (v : BitVec 3) : (v ||| 0b100#3).toNat % 4 = v.toNat % 4 := by decide +revert

/-- The state in which Z has risen with A and B as they were. -/
def Work.zAccepted (w : Work) (i : Nat) (v : BitVec 3) : Work := (w.sampled i (v ||| 0b100#3)).raise (24 + i)

theorem Work.only_zAccepted (w : Work) (i : Nat) (v : BitVec 3) : w.only (w.zAccepted i v) [.posIn, .router] :=
  Work.only_trans (Work.only_mono (w.only_sampled i _) (by simp)) (Work.only_mono (Work.only_raise _ _) (by simp))

theorem Work.sameBut_zAccepted (w : Work) (i : Nat) (v : BitVec 3) : w.sameBut (w.zAccepted i v) [Obj.rawState i, raisedKey (24 + i)] :=
  Work.sameBut_trans (Work.sameBut_mono (w.sameBut_sampled i _) (by simp)) (Work.sameBut_raise _ (by simp))

/-- In its gating state, with A and B unchanged, a Z of a quadrature input is checked. -/
theorem indexPulse_checks {i : Fin 16} {v : BitVec 3} (ph : Phase) (hopen : w.mode.dictOpen = true) (hmode : w.conf (Obj.piMode i) = 1)
    (hfilter : w.conf (Obj.edgeFilter i) = 0) (hab : v.toNat % 4 = (w.pin i).levels.toNat % 4)
    (hgate : zGateState (w.confN (Obj.zGate i)) = none ∨ zGateState (w.confN (Obj.zGate i)) = some (v.toNat % 4)) :
    indexPulse i v ph w = (w.zAccepted i v).indexCheck i := by
  have hquad : w.confN (Obj.piMode i) = 1 := Work.confN_eq_of_conf hmode
  have hconf : ∀ k, (w.sampled i (v ||| 0b100#3)).confN k = w.confN k := fun _ => rfl
  have hsample : ∀ t, w.posSample i (v ||| 0b100#3) t = w.sampled i (v ||| 0b100#3) := fun t => by
    rw [Work.posSample_quad hmode hfilter, ab_or_z, hab, Work.quadSample_of_same]
  rw [indexPulse, if_neg (by simp [hopen, hquad])]
  simp only [hsample, hconf, Work.confN_eq_of_conf (n := 0) hfilter, if_true]
  rcases hgate with hgate | hgate
  · rw [hgate]
    rfl
  · rw [hgate]
    exact if_pos rfl

theorem Work.indexCheck_first {i : Nat} (hperiod : w.confN (Obj.indexPeriod i) ≠ 0) (hvalid : w.get (Obj.indexRefValid i) = 0) :
    w.indexCheck i = (w.set (Obj.indexRef i) (w.get (Obj.count i))).set (Obj.indexRefValid i) 1 := by
  rw [Work.indexCheck, if_neg hperiod, if_pos hvalid]

/-- What a slip shows, before a correction of it is pending. -/
def Work.slipped (w : Work) (i : Nat) (e : Int) : Work :=
  (((w.posStatus i 8).set (Obj.indexErr i) e).set (Obj.indexAt i) (w.get (Obj.count i))).bump (Obj.slipCount i)

theorem Work.only_slipped (w : Work) (i : Nat) (e : Int) : w.only (w.slipped i e) [.router] :=
  Work.only_trans (w.only_posStatus i 8)
    (Work.only_trans (Work.only_set _ (Obj.indexErr i) e _) (Work.only_trans (Work.only_set _ (Obj.indexAt i) _ _) (Work.only_bump _ _ _ _)))

/-- An error beyond the tolerance is a slip; of a pending correction only the input knows. -/
theorem Work.indexCheck_slips {i : Nat} (hperiod : w.confN (Obj.indexPeriod i) ≠ 0) (hvalid : w.get (Obj.indexRefValid i) ≠ 0)
    (htol : w.getN (Obj.indexTol i) < (indexError (w.get (Obj.count i)) (w.get (Obj.indexRef i)) (w.confN (Obj.indexPeriod i))).natAbs) :
    let u := w.slipped i (indexError (w.get (Obj.count i)) (w.get (Obj.indexRef i)) (w.confN (Obj.indexPeriod i)))
    u.only (w.indexCheck i) [.posIn] ∧ ∀ k, (w.indexCheck i).get k = u.get k := by
  rw [Work.indexCheck, if_neg hperiod, if_neg hvalid]
  dsimp only
  rw [if_neg (not_le.mpr htol)]
  split
  · exact ⟨Work.only_refl _ _, fun _ => rfl⟩
  · exact ⟨Work.only_updPin _ _ _, fun _ => rfl⟩

/-- What a slip sets beside its flag, each key another and none of them the flag or the count. -/
def slipKeys (i : Nat) : List Nat := [Obj.indexErr i, Obj.indexAt i, Obj.slipCount i]

theorem slipKeys_distinct (i : Fin 16) : Obj.slipCount i ≠ Obj.indexErr i ∧ Obj.slipCount i ≠ Obj.indexAt i ∧ Obj.indexAt i ≠ Obj.indexErr i ∧
    Obj.status i ∉ slipKeys i ∧ Obj.count i ∉ slipKeys i := by decide +revert

theorem Work.sameBut_slipped (w : Work) (i : Nat) (e : Int) : (w.posStatus i 8).sameBut (w.slipped i e) (slipKeys i) :=
  Work.sameBut_trans (Work.sameBut_set _ (k := Obj.indexErr i) e (by simp [slipKeys]))
    (Work.sameBut_trans (Work.sameBut_set _ (k := Obj.indexAt i) _ (by simp [slipKeys])) (Work.sameBut_bump _ _ (by simp [slipKeys])))

theorem Work.slipped_shows (w : Work) (i : Fin 16) (e : Int) :
    (w.slipped i e).get (Obj.indexErr i) = e ∧ (w.slipped i e).get (Obj.indexAt i) = w.get (Obj.count i) ∧
    (w.slipped i e).get (Obj.slipCount i) = min (w.get (Obj.slipCount i) + 1) 0xFFFFFFFF ∧
    (w.slipped i e).get (Obj.status i) = Int.ofNat (w.getN (Obj.status i) ||| 256) ∧ (w.slipped i e).get (Obj.count i) = w.get (Obj.count i) := by
  have hkept : ∀ k ∈ countKeys i, (w.posStatus i 8).get k = w.get k := fun k hk =>
    Work.get_countKey i (w.sameBut_posStatus i 8) (by simp [shownKeys]) hk
  obtain ⟨herr, hat, hatErr, hstatus, hcount⟩ := slipKeys_distinct i
  refine ⟨?_, ?_, ?_, ?_, ?_⟩
  · rw [Work.slipped, Work.get_bump, if_neg herr, Work.get_set_other _ _ _ _ hatErr, Work.get_set_same]
  · rw [Work.slipped, Work.get_bump, if_neg hat, Work.get_set_same]
  · rw [Work.slipped, Work.get_bump, if_pos rfl, Work.get_set_other _ _ _ _ hat.symm, Work.get_set_other _ _ _ _ herr.symm,
      hkept _ (by simp [countKeys]), counterMax_slipCount]
    rfl
  · rw [w.sameBut_slipped i e _ hstatus, w.get_posStatus_status]
    rfl
  · rw [w.sameBut_slipped i e _ hcount, hkept _ (by simp [countKeys])]

theorem Work.confN_zAccepted (w : Work) (i : Nat) (v : BitVec 3) (k : Nat) : (w.zAccepted i v).confN k = w.confN k := by
  have hconf := (w.only_zAccepted i v .conf (by decide)).1
  rw [Work.confN, Work.conf, hconf, Work.confN, Work.conf]

theorem status_not_mem_zKeys (i : Fin 16) : Obj.status i ∉ [Obj.rawState i, raisedKey (24 + i)] := by decide +revert

theorem refKeys_distinct (i : Fin 16) :
    Obj.indexRefValid i ≠ Obj.indexRef i ∧ Obj.indexRefValid i ≠ Obj.count i ∧ Obj.indexRef i ≠ Obj.count i := by decide +revert

/-- An input of which the correction is taken has none pending, whether or not the module has the input. -/
theorem Work.corr_updPin_none (w : Work) (i : Nat) : ((w.updPin i (fun p => { p with corr := none })).pin i).corr = none := by
  simp only [Work.pin, Work.updPin, nth_upd, true_and]
  split
  · rfl
  · next h => rw [nth, List.getD_eq_default _ _ (not_lt.mp h)]

/-! ### The events -/

section
variable {s : State} {i : Fin 16} {v : BitVec 3} (ph : Phase) (hopen : s.w.mode.dictOpen = true) (hmode : s.w.conf (Obj.piMode i) = 1)
  (hfilter : s.w.conf (Obj.edgeFilter i) = 0) (hab : v.toNat % 4 = (s.w.pin i).levels.toNat % 4)
  (hgate : zGateState (s.w.confN (Obj.zGate i)) = none ∨ zGateState (s.w.confN (Obj.zGate i)) = some (v.toNat % 4))
  (hperiod : s.w.confN (Obj.indexPeriod i) ≠ 0)
include hopen hmode hfilter hab hgate hperiod

/-- The first index. -/
theorem indexPulse_first (hvalid : s.w.get (Obj.indexRefValid i) = 0) :
    Does (.indexPulse i v ph) s (fun t => t.get (Obj.indexRef i) = s.w.get (Obj.count i) ∧ t.get (Obj.indexRefValid i) = 1 ∧
      t.get (Obj.count i) = s.w.get (Obj.count i) ∧ s.w.only t [.posIn, .router]) := by
  have hkept : ∀ k ∈ countKeys i, (s.w.zAccepted i v).get k = s.w.get k := fun k hk =>
    Work.get_countKey i (s.w.sameBut_zAccepted i v) (by simp [shownKeys]) hk
  obtain ⟨hrefValid, hcountValid, hcountRef⟩ := refKeys_distinct i
  refine does_of_onWork rfl ?_
  rw [indexPulse_checks ph hopen hmode hfilter hab hgate, Work.indexCheck_first (by rwa [Work.confN_zAccepted])
    (by rwa [hkept _ (by simp [countKeys])]), hkept (Obj.count i) (by simp [countKeys])]
  refine ⟨?_, Work.get_set_same _ _ _, ?_, ?_⟩
  · rw [Work.get_set_other _ _ _ _ hrefValid, Work.get_set_same]
  · rw [Work.get_set_other _ _ _ _ hcountValid, Work.get_set_other _ _ _ _ hcountRef, hkept _ (by simp [countKeys])]
  · exact Work.only_trans (s.w.only_zAccepted i v) (Work.only_trans (Work.only_set _ (Obj.indexRef i) _ _) (Work.only_set _ _ _ _))

/-- A later index beyond the tolerance. -/
theorem indexPulse_slips (hvalid : s.w.get (Obj.indexRefValid i) ≠ 0)
    (htol : s.w.getN (Obj.indexTol i) < (indexError (s.w.get (Obj.count i)) (s.w.get (Obj.indexRef i)) (s.w.confN (Obj.indexPeriod i))).natAbs) :
    Does (.indexPulse i v ph) s (fun t =>
      t.get (Obj.indexErr i) = indexError (s.w.get (Obj.count i)) (s.w.get (Obj.indexRef i)) (s.w.confN (Obj.indexPeriod i)) ∧
      t.get (Obj.indexAt i) = s.w.get (Obj.count i) ∧ t.get (Obj.slipCount i) = min (s.w.get (Obj.slipCount i) + 1) 0xFFFFFFFF ∧
      t.get (Obj.status i) = Int.ofNat (s.w.getN (Obj.status i) ||| 256) ∧ t.get (Obj.count i) = s.w.get (Obj.count i) ∧
      s.w.only t [.posIn, .router]) := by
  have hsame := s.w.sameBut_zAccepted i v
  have hkept : ∀ k ∈ countKeys i, (s.w.zAccepted i v).get k = s.w.get k := fun k hk => Work.get_countKey i hsame (by simp [shownKeys]) hk
  have hcount := hkept (Obj.count i) (by simp [countKeys])
  have href := hkept (Obj.indexRef i) (by simp [countKeys])
  have hstatus : (s.w.zAccepted i v).getN (Obj.status i) = s.w.getN (Obj.status i) := by
    rw [Work.getN, hsame _ (status_not_mem_zKeys i), Work.getN]
  have hslips := Work.indexCheck_slips (w := s.w.zAccepted i v) (i := i) (by rwa [Work.confN_zAccepted]) (by rwa [hkept _ (by simp [countKeys])])
    (by rwa [hcount, href, Work.confN_zAccepted, Work.getN, hkept _ (by simp [countKeys])])
  rw [hcount, href, Work.confN_zAccepted] at hslips
  obtain ⟨honly, hget⟩ := hslips
  refine does_of_onWork rfl ?_
  rw [indexPulse_checks ph hopen hmode hfilter hab hgate]
  simp only [hget]
  obtain ⟨herr, hat, hslip, hflag, hstays⟩ := (s.w.zAccepted i v).slipped_shows i
    (indexError (s.w.get (Obj.count i)) (s.w.get (Obj.indexRef i)) (s.w.confN (Obj.indexPeriod i)))
  refine ⟨herr, by rw [hat, hcount], by rw [hslip, hkept _ (by simp [countKeys])], by rw [hflag, hstatus], by rw [hstays, hcount], ?_⟩
  exact Work.only_trans (s.w.only_zAccepted i v)
    (Work.only_trans (Work.only_mono (Work.only_slipped _ i _) (by simp)) (Work.only_mono honly (by simp)))

end

/-- INDEX_CORRECTION with INDEX_MODE 2 (R101). -/
theorem indexCorrection_subtracts {s : State} {i : Fin 16} {e : Int} (hcorr : (s.w.pin i).corr = some e) (hmode : s.w.get (Obj.indexMode i) = 2) :
    Does (.indexCorrection i) s (fun t =>
      t.get (Obj.count i) = clampInt (s.w.get (Obj.limitMin i)) (s.w.get (Obj.limitMax i)) (s.w.get (Obj.count i) - e) ∧
      (t.pin i).corr = none ∧ s.w.only t [.posIn, .axis, .router]) := by
  let u := s.w.updPin i (fun p => { p with corr := none })
  let c := clampInt (s.w.get (Obj.limitMin i)) (s.w.get (Obj.limitMax i)) (s.w.get (Obj.count i) - e)
  have hdone : indexCorrection i s.w = ((u.moveCount i (-e)).set (Obj.count i) c).axisMoved i u.clk.ctl := by
    have hclk : (u.moveCount i (-e)).clk = u.clk := u.only_moveCount i (-e) .clk (by decide)
    simp only [indexCorrection, hcorr, hmode, decide_true, Bool.true_or, Bool.not_true, Bool.false_eq_true, if_false]
    rw [← hclk]
    rfl
  have hposIn : (indexCorrection i s.w).posIn = u.posIn := by
    rw [hdone, Work.only_axisMoved _ i _ .posIn (by decide)]
    exact u.only_moveCount i (-e) .posIn (by decide)
  have honly : u.only (indexCorrection i s.w) [.axis, .router] := by
    rw [hdone]
    exact Work.only_trans (Work.only_mono (u.only_moveCount i (-e)) (by simp))
      (Work.only_trans (Work.only_set _ (Obj.count i) c _) (Work.only_mono (Work.only_axisMoved _ i _) (by simp)))
  refine does_of_onWork rfl ⟨?_, ?_, Work.only_trans (Work.only_mono (s.w.only_updPin i _) (by simp)) (Work.only_mono honly (by simp))⟩
  · rw [hdone, Work.get_countKey i (Work.sameBut_axisMoved _ i _) (by simp [shownKeys]) (by simp [countKeys]), Work.get_set_same]
  · rw [Work.pin_congr hposIn]
    exact s.w.corr_updPin_none i

end Sys2Proof.Machine
end

section
/-! What the work of a trigger leaves of the web axis (R105 to R111): the axis but for its run of lagging lines, and the objects of 0x8101. An
operation that leaves both has the same `Work.webView`, and the views of a chain of operations are rewritten one by one. -/
namespace Sys2Proof.Machine

/-- What the web axis keeps of its own. -/
structure WebView where
  axis : Axis
  objs : Nat → Int

/-- The axis but for its run of lagging lines, and the objects of 0x8101; where another object stands, 0. -/
def Work.webView (w : Work) : WebView := ⟨{ w.axis with lag := none }, fun k => if k / 256 = 0x8101 then w.get k else 0⟩

variable (w : Work)

theorem Work.webView_of_get {a b : Work} (haxis : b.axis = a.axis) (hget : ∀ k, k / 256 = 0x8101 → b.get k = a.get k) : b.webView = a.webView := by
  simp only [Work.webView, haxis, WebView.mk.injEq, true_and]
  funext k
  split
  · next hk => exact hget k hk
  · rfl

theorem Work.get_of_webView {a b : Work} (h : b.webView = a.webView) {k : Nat} (hk : k / 256 = 0x8101) : b.get k = a.get k := by
  simpa [Work.webView, hk] using congrFun (congrArg WebView.objs h) k

theorem Work.axis_of_webView {a b : Work} (h : b.webView = a.webView) :
    b.axis.last = a.axis.last ∧ b.axis.lastAt = a.axis.lastAt ∧ b.axis.hwm = a.axis.hwm :=
  ⟨congrArg (·.axis.last) h, congrArg (·.axis.lastAt) h, congrArg (·.axis.hwm) h⟩

/-! ### Registers, events and choices -/

theorem Work.webView_set {i x : Nat} (v : Int) (hi : i ≠ 0x8101) (hx : x < 256) : (w.set (i * 256 + x) v).webView = w.webView :=
  Work.webView_of_get rfl fun _ hk => w.get_set_other _ _ v (by omega)

theorem Work.webView_flag {i x : Nat} (m : Nat) (hi : i ≠ 0x8101) (hx : x < 256) : (w.flag (i * 256 + x) m).webView = w.webView :=
  w.webView_set _ hi hx

theorem Work.webView_bump {i x : Nat} (n : Nat) (hi : i ≠ 0x8101) (hx : x < 256) : (w.bump (i * 256 + x) n).webView = w.webView :=
  w.webView_set _ hi hx

theorem Work.webView_peak {i x : Nat} (v : Nat) (hi : i ≠ 0x8101) (hx : x < 256) : (w.peak (i * 256 + x) v).webView = w.webView := by
  unfold Work.peak
  split
  · exact w.webView_set _ hi hx
  · rfl

@[simp] theorem Work.webView_raise (s : Nat) : (w.raise s).webView = w.webView := by
  refine Work.webView_of_get (w.raiseHop_axis s 0) fun k hk => ?_
  rw [w.get_raise, if_neg]
  rintro ⟨rfl, hs⟩
  have := raisedKey_lt hs
  omega

@[simp] theorem Work.webView_emit (r : LRec) : (w.emit r).webView = w.webView :=
  Work.webView_of_get (w.emit_axis r) fun k _ => w.get_emit r k

theorem Work.webView_foldl {α : Type} {f : Work → α → Work} (xs : List α) (hf : ∀ v, ∀ x ∈ xs, (f v x).webView = v.webView) :
    (xs.foldl f w).webView = w.webView :=
  List.foldlRecOn (motive := fun v => v.webView = w.webView) xs f rfl fun v hv x hx => (hf v x hx).trans hv

variable {w} in
/-- Both branches of a choice that leave the web axis alone do so whichever is taken. -/
theorem Work.webView_ite {c : Prop} [Decidable c] {a b : Work} (ha : a.webView = w.webView) (hb : b.webView = w.webView) :
    (if c then a else b).webView = w.webView := by
  split
  · exact ha
  · exact hb

/-! ### Motion axes, of which a traverse is one -/

theorem Work.webView_axFlag (a bit : Nat) : (w.axFlag a bit).webView = w.webView :=
  have hflag := w.webView_flag (i := 0x8430 + a) (2 ^ bit) (by omega) (by decide)
  Work.webView_ite ((Work.webView_raise _ _).trans hflag) hflag

theorem Work.webView_axSt (a st : Nat) : (w.axSt a st).webView = w.webView := w.webView_set _ (by omega) (by decide)

theorem Work.webView_showMoves (a : Nat) : (w.showMoves a).webView = w.webView := w.webView_set _ (by omega) (by decide)

theorem Work.webView_loadStep (a v wait : Nat) : (w.loadStep a v wait).webView = w.webView :=
  (Work.webView_set _ _ (by omega) (by decide)).trans rfl

theorem Work.webView_standstill (a : Nat) : (w.standstill a).webView = w.webView := by
  have hshown : ∀ v : Work, ((v.set (Obj.velocity a) 0).showMoves a).webView = v.webView := fun v =>
    (Work.webView_showMoves _ a).trans (v.webView_set 0 (by omega) (by decide))
  refine Work.webView_ite ?_ ((Work.webView_axSt _ a 1).trans (hshown _))
  exact (Work.webView_raise _ _).trans ((Work.webView_axSt _ a 1).trans (hshown _))

theorem Work.webView_brake (a decel : Nat) (rest : List Move) : (w.brake a decel rest).webView = w.webView := by
  have hstands : ∀ f, ((w.updAx a f).standstill a).webView = w.webView := fun _ => Work.webView_standstill _ a
  refine Work.webView_ite (hstands _) (Work.webView_ite (hstands _) ?_)
  exact (Work.webView_showMoves _ a).trans (Work.webView_axSt _ a 4)

theorem Work.webView_startHead (a fuel : Nat) : (w.startHead a fuel).webView = w.webView := by
  induction fuel generalizing w with
  | zero => rfl
  | succ fuel ih =>
    unfold Work.startHead
    dsimp only
    split
    · exact w.webView_standstill a
    · refine Work.webView_ite rfl (Work.webView_ite (ih _) (Work.webView_ite ?_ (Work.webView_ite (ih _) (Work.webView_ite ?_
        (Work.webView_ite ?_ (Work.webView_ite rfl ?_))))))
      · exact (Work.webView_brake _ a _ _).trans (w.webView_axFlag a _)
      · exact Work.webView_standstill _ a
      · exact Work.webView_brake _ a _ _
      · exact (Work.webView_showMoves _ a).trans ((Work.webView_loadStep _ a _ _).trans (Work.webView_axSt _ a _))

theorem Work.webView_pushMove (a : Nat) (m : Move) : (w.pushMove a m).webView = w.webView := by
  have hput : ∀ (v : Work) (n : Int), (v.set (Obj.mvResult a) n).webView = v.webView := fun v n => v.webView_set n (by omega) (by decide)
  have hqueued : ∀ f, (((w.updAx a f).set (Obj.mvResult a) (1 : Nat)).showMoves a).webView = w.webView := fun _ =>
    (Work.webView_showMoves _ a).trans (hput _ _)
  unfold Work.pushMove
  refine Work.webView_ite (hput _ _) (Work.webView_ite (hput _ _) (Work.webView_ite ((hput _ _).trans (w.webView_axFlag a _))
    (Work.webView_ite (hput _ _) (Work.webView_ite (hput _ _) ?_))))
  dsimp only
  split
  · refine Work.webView_ite (Work.webView_ite ?_ ?_) (hqueued _)
    · exact (Work.webView_startHead _ a 33).trans (hqueued _)
    · exact (Work.webView_brake _ a _ _).trans (hqueued _)
  · exact Work.webView_ite (hqueued _) ((Work.webView_startHead _ a 33).trans (hqueued _))

theorem Work.webView_traverseStart (p k : Nat) : (w.traverseStart p k).webView = w.webView := by
  unfold Work.traverseStart
  dsimp only
  split
  · exact Work.webView_ite (Work.webView_ite rfl (Work.webView_pushMove _ _ _)) rfl
  · rfl

/-! ### Ports, of which there are 32 -/

theorem Work.webView_nextTxn (p : Nat) : (w.nextTxn p).webView = w.webView := by
  have hsent : ∀ (v : Work) (use : TxnUse) (write : Bool) (addr words : Nat) (data : List Nat),
      (v.startTxn p use write addr words data).webView = v.webView := fun _ _ _ _ _ _ => Work.webView_ite rfl rfl
  refine Work.webView_ite rfl (Work.webView_ite ?_ ?_)
  · split
    · exact (hsent _ _ _ _ _ _).trans rfl
    · rfl
  · split
    · rfl
    · exact (hsent _ _ _ _ _ _).trans rfl

section
variable {p : Nat} (hp : p < 32)
include hp

theorem Work.webView_rxPush (r : RxLine) : (w.rxPush p r).webView = w.webView := Work.webView_peak _ _ (by omega) (by decide)

theorem Work.webView_addTrig (t : Nat) (g : Trig) : (w.addTrig p t g).webView = w.webView := by
  have hclosed : ∀ (v : Work) (g : Trig) (st : Nat), (v.closeMissing p t g st).webView = v.webView := fun v _ _ =>
    (Work.webView_rxPush _ hp _).trans ((Work.webView_flag _ _ (by omega) (by decide)).trans
      (Work.webView_ite (v.webView_bump 1 (by omega) (by decide)) (v.webView_bump 1 (by omega) (by decide))))
  unfold Work.addTrig
  dsimp only
  split
  · exact Work.webView_ite (hclosed _ _ _) rfl
  · rfl

theorem Work.webView_triggerPort (k : Nat) : (w.triggerPort p k false).webView = w.webView := by
  refine Work.webView_ite rfl ?_
  generalize (w.tagsOf p).filterMap _ = calls
  cases calls with
  | nil => rfl
  | cons c cs =>
    refine Work.webView_ite (w.webView_foldl _ fun v c _ => v.webView_rxPush hp _) ?_
    refine (Work.webView_foldl _ _ fun v c _ => v.webView_addTrig hp _ _).trans ?_
    exact (Work.webView_ite (Work.webView_set _ _ (by omega) (by decide)) rfl).trans (Work.webView_ite rfl rfl)

theorem Work.webView_expTrigger (k : Nat) : (w.expTrigger p k).webView = w.webView := by
  have hlate : ∀ (c : Prop) [Decidable c], (if c then w.flag (Obj.expFlags p) 2 else w).webView = w.webView :=
    fun _ _ => Work.webView_ite (w.webView_flag 2 (by omega) (by decide)) rfl
  exact Work.webView_ite rfl (Work.webView_ite (hlate _) (Work.webView_ite (hlate _) ((Work.webView_nextTxn _ p).trans (hlate _))))

end

/-! ### Lag, jobs and held records -/

theorem Work.webView_lagLine (k : Nat) : (w.lagLine k).webView = w.webView := by
  refine Work.webView_ite ?_ rfl
  unfold Work.lagEnd
  split
  · rfl
  · exact Work.webView_emit _ _

theorem Work.webView_makeJobs (k fuel : Nat) : (w.makeJobs k fuel).webView = w.webView := by
  induction fuel generalizing w with
  | zero => rfl
  | succ fuel ih => exact Work.webView_ite rfl ((ih _).trans (Work.webView_ite rfl rfl))

theorem Work.webView_closeRecord {s : Nat} (hs : s < 8) (r : OpenRec) (frameEnd : Bool) : (w.closeRecord s r frameEnd).webView = w.webView := by
  have hseq : ∀ n : Int, ((w.set (Obj.streamSeq s) n).updStream s (fun x => { x with cur := none })).webView = w.webView :=
    fun n => w.webView_set n (by omega) (by decide)
  refine Work.webView_ite (hseq _) (Work.webView_ite ?_ ?_)
  · exact (Work.webView_set _ _ (by decide) (by decide)).trans (hseq _)
  · exact (Work.webView_ite (Work.webView_bump _ _ (by decide) (by decide)) rfl).trans (hseq _)

theorem Work.webView_heldRecords (k : Nat) : (w.heldRecords k).webView = w.webView := by
  refine w.webView_foldl _ fun v s hs => ?_
  have hs : s < 8 := mem_upTo.mp hs
  have hline : ∀ (f : StreamSt → StreamSt) (n : Int), ((v.updStream s f).set (Obj.lastLine s) n).webView = v.webView :=
    fun _ n => Work.webView_set _ n (by omega) (by decide)
  dsimp only
  split
  · rfl
  · refine Work.webView_ite rfl ((Work.webView_set _ _ (by omega) (by decide)).trans ?_)
    exact Work.webView_ite ((Work.webView_closeRecord _ hs _ _).trans (hline _ _)) (hline _ _)

/-- The work of a trigger toward the cameras and behind them changes nothing that the trigger's index shows. -/
theorem Work.webView_triggerWork (k : Nat) : (w.triggerWork k).webView = w.webView := by
  have hport : ∀ (v : Work) (p : Nat), p < 32 → (((v.triggerPort p k false).expTrigger p k).traverseStart p k).webView = v.webView := fun v p hp =>
    (Work.webView_traverseStart _ p k).trans ((Work.webView_expTrigger _ hp k).trans (v.webView_triggerPort hp k))
  have hcalls : ∀ v : Work, (v.activePorts.foldl (fun u p => ((u.triggerPort p k false).expTrigger p k).traverseStart p k) v).settleTick.webView =
      v.webView := fun v => v.webView_foldl _ fun u p hmem => hport u p (mem_upTo.mp (List.mem_filter.mp hmem).1)
  have hjobs : ∀ (u : Work) (n : Nat) (c : Prop) [Decidable c], (if c then u.makeJobs k n else u).webView = u.webView :=
    fun u n _ _ => Work.webView_ite (u.webView_makeJobs k n) rfl
  refine (Work.webView_ite (Work.webView_heldRecords _ k) rfl).trans ((hjobs _ _ _).trans ?_)
  exact (Work.webView_ite (hcalls _) rfl).trans (w.webView_lagLine k)

end Sys2Proof.Machine
end

section
/-! TRIGGER_ISSUED (R106, R108, R110): the index assigned, what it shows, and the work of a trigger that begins no frame. -/
namespace Sys2Proof.Machine
variable (w : Work)

/-- The lag shown with an index (R110). -/
def Work.lagAt (k t : Nat) : Int := clampInt (-0x80000000) 0x7FFFFFFF (w.posAt t - (k : Int) * 256)

/-- The state in which index k is assigned, before its lag is judged. -/
def Work.indexed (k t : Nat) : Work :=
  let high := max k (w.axis.hwm.getD 0)
  let a := { w.axis with
    last := some k, lastAt := t, hwm := some high, backtrack := false, frameLen := some w.frameLen,
    times := ((k, w.timeNs + (t - w.clk.ctl) * 5 / 2) :: w.axis.times).take 262144 }
  ((({ w with axis := a }).set Obj.triggerIndex k).set Obj.triggerHwm high).set Obj.lag (w.lagAt k t)

/-- A lag over LAG_TOL is flagged and counted, and the index stands. -/
theorem Work.indexTrigger_eq (k t : Nat) : w.indexTrigger k t = if w.lagAt k t ≤ (w.indexed k t).get Obj.lagTol then w.indexed k t
    else ((w.indexed k t).flag Obj.webStatus 1).bump Obj.lagLines := by
  cases hhwm : w.axis.hwm with
  | none =>
    simp only [Work.indexTrigger, Work.indexed, hhwm, Option.getD_none, Nat.max_zero]
    rfl
  | some h =>
    simp only [Work.indexTrigger, Work.indexed, hhwm, Option.getD_some, Nat.max_comm k h]
    rfl

theorem Work.only_indexTrigger (k t : Nat) : (w.indexed k t).only (w.indexTrigger k t) [] := by
  rw [Work.indexTrigger_eq]
  split
  · exact Work.only_refl _ _
  · exact Work.only_trans (Work.only_flag _ _ _ _) (Work.only_bump _ _ _ _)

theorem Work.sameBut_indexTrigger (k t : Nat) : (w.indexed k t).sameBut (w.indexTrigger k t) [Obj.webStatus, Obj.lagLines] := by
  rw [Work.indexTrigger_eq]
  split
  · exact Work.sameBut_refl _ _
  · exact Work.sameBut_trans (Work.sameBut_flag _ _ (by simp)) (Work.sameBut_bump _ _ (by simp))

theorem Work.axis_indexTrigger (k t : Nat) : (w.indexTrigger k t).axis = (w.indexed k t).axis := w.only_indexTrigger k t .axis (by simp)

theorem Work.frameLen_indexTrigger (k t : Nat) : (w.indexTrigger k t).frameLen = w.frameLen := by
  rw [Work.frameLen, w.axis_indexTrigger]
  rfl

theorem Work.get_indexTrigger_triggerIndex (k t : Nat) : (w.indexTrigger k t).get Obj.triggerIndex = k := by
  rw [w.sameBut_indexTrigger k t _ (by decide), Work.indexed, Work.get_set_other _ _ _ _ (by decide), Work.get_set_other _ _ _ _ (by decide),
    Work.get_set_same]

theorem Work.get_indexTrigger_lag (k t : Nat) : (w.indexTrigger k t).get Obj.lag = w.lagAt k t := by
  rw [w.sameBut_indexTrigger k t _ (by decide), Work.indexed, Work.get_set_same]

/-- The timer alone is loaded anew. -/
theorem Work.axis_reloadTimer (t : Nat) : ∃ due, (w.reloadTimer t).axis = { w.axis with due := due } := by
  unfold Work.reloadTimer
  dsimp only
  split
  · exact ⟨_, rfl⟩
  · exact ⟨_, rfl⟩

/-- A trigger with no START or STOP pending that begins no frame is its index, its event, its work and the timer of the next. -/
theorem triggerIssued_inside {nv : NonVol} {w : Work} {ph : Phase} (hstart : w.run.startAt = none) (hstop : w.run.stopAt = none)
    (hmay : w.mayTrigger w.nextTrigger (w.now ph) = true) (hinside : w.nextTrigger % w.frameLen ≠ 0) :
    triggerIssued ph (nv, w) =
      (nv, ((((w.indexTrigger w.nextTrigger (w.now ph)).raise 1).triggerWork w.nextTrigger).reloadTimer (w.now ph))) := by
  have hdue : stopDue (startDue w) = w := by
    have hstartDue : startDue w = w := by rw [startDue, hstart]
    rw [hstartDue, stopDue, hstop]
  have hlen : ((w.indexTrigger w.nextTrigger (w.now ph)).raise 1).frameLen = w.frameLen := by
    have haxis := Work.only_raise (w.indexTrigger w.nextTrigger (w.now ph)) 1 .axis (by decide)
    have hconf := (Work.only_raise (w.indexTrigger w.nextTrigger (w.now ph)) 1 .conf (by decide)).1
    rw [← w.frameLen_indexTrigger w.nextTrigger (w.now ph), Work.frameLen, haxis, Work.confN, Work.conf, hconf]
    rfl
  simp only [triggerIssued, hdue, hmay, hlen, hinside, Bool.not_true, Bool.false_eq_true, if_false, decide_false]

theorem triggerIssued_shows {s : State} {ph : Phase} (hstart : s.w.run.startAt = none) (hstop : s.w.run.stopAt = none)
    (hmay : s.w.mayTrigger s.w.nextTrigger (s.w.now ph) = true) (hinside : s.w.nextTrigger % s.w.frameLen ≠ 0) :
    DoesNv (.triggerIssued ph) s (fun nv t => nv = s.nv ∧ t.axis.last = some s.w.nextTrigger ∧ t.axis.lastAt = s.w.now ph ∧
      t.axis.hwm = some (max s.w.nextTrigger (s.w.axis.hwm.getD 0)) ∧ t.get Obj.triggerIndex = s.w.nextTrigger ∧
      t.get Obj.lag = s.w.lagAt s.w.nextTrigger (s.w.now ph)) := by
  have hview := ((((s.w.indexTrigger s.w.nextTrigger (s.w.now ph)).raise 1).webView_triggerWork s.w.nextTrigger)).trans (Work.webView_raise _ 1)
  obtain ⟨hlast, hlastAt, hhwm⟩ := Work.axis_of_webView hview
  rw [Work.axis_indexTrigger] at hlast hlastAt hhwm
  obtain ⟨due, haxis⟩ :=
    (((s.w.indexTrigger s.w.nextTrigger (s.w.now ph)).raise 1).triggerWork s.w.nextTrigger).axis_reloadTimer (s.w.now ph)
  refine ⟨_, _, exec_of_onBoth rfl (triggerIssued_inside hstart hstop hmay hinside), rfl, ?_, ?_, ?_, ?_, ?_⟩
  · rw [haxis]
    exact hlast
  · rw [haxis]
    exact hlastAt
  · rw [haxis]
    exact hhwm
  · rw [Work.get_reloadTimer, Work.get_of_webView hview (by decide), Work.get_indexTrigger_triggerIndex]
  · rw [Work.get_reloadTimer, Work.get_of_webView hview (by decide), Work.get_indexTrigger_lag]

/-- Settles O22: the index is judged on the state in which Z is accepted, and the work of a trigger has the web axis' view of its index. -/
theorem indexChecksAndTriggers : Obligations.IndexChecksAndTriggers :=
  ⟨fun _ _ _ => indexPulse_first, fun _ _ _ => indexPulse_slips, fun _ _ _ => indexCorrection_subtracts, fun _ _ => triggerIssued_shows⟩

end Sys2Proof.Machine
end

section
/-! Camera lanes (R115 to R123): what a flag, an aborted eye scan and a lost lock of a lane change, and the events of its signal, clock and lock. -/
namespace Sys2Proof.Machine
variable (w : Work)

/-! ### Storing in a lane -/

theorem Work.only_updLane (l : Nat) (f : Lane → Lane) : w.only (w.updLane l f) [.lanes] := by
  intro q hq
  cases q <;> simp [Part.same, Work.updLane] at hq ⊢

theorem Work.sameBut_updLane (l : Nat) (f : Lane → Lane) (ks : List Nat) : w.sameBut (w.updLane l f) ks := fun _ _ => rfl

theorem Work.lane_updLane_other {l x : Nat} (h : x ≠ l) (f : Lane → Lane) : (w.updLane l f).lane x = w.lane x := by
  rw [Work.lane, Work.updLane, nth_upd, if_neg fun ⟨hlx, _⟩ => h hlx.symm, Work.lane]

/-- A lane that is not kept reads as after reset, and a change of it is lost. -/
theorem Work.lane_updLane_same (l : Nat) (f : Lane → Lane) : (w.updLane l f).lane l = if l < w.lanes.length then f (w.lane l) else {} := by
  rw [Work.lane, Work.updLane, nth_upd]
  by_cases h : l < w.lanes.length
  · rw [if_pos ⟨rfl, h⟩, if_pos h, Work.lane]
  · rw [if_neg fun ⟨_, hl⟩ => h hl, if_neg h]
    exact List.getD_eq_default _ _ (not_lt.mp h)

/-- A lane enters a state. -/
def Work.moveLane (l st : Nat) (f : Lane → Lane) : Work := (w.setLane l st).updLane l f

theorem Work.only_moveLane (l st : Nat) (f : Lane → Lane) : w.only (w.moveLane l st f) [.lanes] :=
  Work.only_trans (w.only_set _ _ _) (Work.only_updLane _ l f)

theorem Work.sameBut_moveLane (l st : Nat) (f : Lane → Lane) : w.sameBut (w.moveLane l st f) [Obj.state l] :=
  Work.sameBut_trans (w.sameBut_set _ (by simp)) (Work.sameBut_updLane _ l f _)

@[simp] theorem Work.laneState_moveLane (l st : Nat) (f : Lane → Lane) : (w.moveLane l st f).laneState l = st :=
  congrArg Int.toNat (w.get_set_same (Obj.state l) st)

theorem Work.lane_moveLane_other {l x : Nat} (h : x ≠ l) (st : Nat) (f : Lane → Lane) : (w.moveLane l st f).lane x = w.lane x :=
  Work.lane_updLane_other _ h f

/-! ### Flags of a lane -/

/-- The counts of events stand above the objects of the lanes but for the eye scan's. -/
theorem Work.get_raise_of_lt (s : Nat) {k : Nat} (hk : k < 0x7810 * 256) : (w.raise s).get k = w.get k := by
  rw [w.get_raise, if_neg]
  rintro ⟨rfl, -⟩
  unfold raisedKey Obj.raised at hk
  omega

theorem statusKeys_ne {l x y : Nat} (h : x ≠ y) : (0x3402 + 0x8 * l) * 256 + x ≠ (0x3402 + 0x8 * l) * 256 + y :=
  fun heq => h (Nat.add_left_cancel heq)

theorem statusKey_lt (l : Fin 128) {x : Nat} (hx : x < 256) : (0x3402 + 0x8 * l.val) * 256 + x < 0x7810 * 256 := by omega

/-- A flag raises the alarm of the lane's port, or raises nothing. -/
theorem Work.laneFlag_eq (l bit : Nat) : w.laneFlag l bit = w.flag (Obj.flags l) (2 ^ bit) ∨
    w.laneFlag l bit = (w.flag (Obj.flags l) (2 ^ bit)).raise (40 + w.portOfLane l) := by
  unfold Work.laneFlag
  dsimp only
  split
  · exact .inr rfl
  · exact .inl rfl

theorem Work.only_laneFlag (l bit : Nat) : w.only (w.laneFlag l bit) [.router] := by
  rcases w.laneFlag_eq l bit with h | h
  · exact h ▸ w.only_flag _ _ _
  · exact h ▸ Work.only_trans (w.only_flag _ _ _) (Work.only_raise _ _)

theorem Work.sameBut_laneFlag (l bit : Nat) : w.sameBut (w.laneFlag l bit) [Obj.flags l, raisedKey (40 + w.portOfLane l)] := by
  rcases w.laneFlag_eq l bit with h | h
  · exact h ▸ w.sameBut_flag _ (by simp)
  · exact h ▸ Work.sameBut_trans (w.sameBut_flag _ (by simp)) (Work.sameBut_raise _ (by simp))

theorem Work.get_laneFlag_flags (l : Fin 128) (bit : Nat) :
    (w.laneFlag l bit).get (Obj.flags l) = Int.ofNat (w.getN (Obj.flags l) ||| 2 ^ bit) := by
  rcases w.laneFlag_eq l bit with h | h
  · rw [h, w.get_flag, if_pos rfl]
  · rw [h, Work.get_raise_of_lt _ _ (statusKey_lt l (by decide)), w.get_flag, if_pos rfl]

/-- The other status objects of the lane stay. -/
theorem Work.get_laneFlag_status (l : Fin 128) (bit : Nat) {x : Nat} (hx : x < 256) (hne : 2 ≠ x) :
    (w.laneFlag l bit).get ((0x3402 + 0x8 * l.val) * 256 + x) = w.get ((0x3402 + 0x8 * l.val) * 256 + x) := by
  rcases w.laneFlag_eq l bit with h | h
  · rw [h, w.get_flag, if_neg (statusKeys_ne hne)]
  · rw [h, Work.get_raise_of_lt _ _ (statusKey_lt l hx), w.get_flag, if_neg (statusKeys_ne hne)]

@[simp] theorem Work.portOfLane_laneFlag (l bit x : Nat) : (w.laneFlag l bit).portOfLane x = w.portOfLane x := by
  have hconf := (w.only_laneFlag l bit .conf (by decide)).1
  simp only [Work.portOfLane, Work.confN, Work.conf, hconf]
  rfl

/-! ### The fall of a lane -/

theorem Work.only_eyeAbort (l : Nat) : w.only (w.eyeAbort l) [.lanes] := by
  unfold Work.eyeAbort
  split
  · exact Work.only_trans (w.only_set _ _ _) (Work.only_updLane _ l _)
  · exact w.only_refl _

theorem Work.sameBut_eyeAbort (l : Nat) : w.sameBut (w.eyeAbort l) [Obj.eyeStatus l] := by
  unfold Work.eyeAbort
  split
  · exact Work.sameBut_trans (w.sameBut_set _ (by simp)) (Work.sameBut_updLane _ l _ _)
  · exact w.sameBut_refl _

/-- A lane falls to a state: a running eye scan ends (R134). -/
def Work.dropLane (l st : Nat) (f : Lane → Lane) : Work := (w.eyeAbort l).moveLane l st f

theorem Work.only_dropLane (l st : Nat) (f : Lane → Lane) : w.only (w.dropLane l st f) [.lanes] :=
  Work.only_trans (w.only_eyeAbort l) (Work.only_moveLane _ l st f)

theorem Work.sameBut_dropLane (l st : Nat) (f : Lane → Lane) : w.sameBut (w.dropLane l st f) [Obj.state l, Obj.eyeStatus l] :=
  Work.sameBut_trans (Work.sameBut_mono (w.sameBut_eyeAbort l) (by simp)) (Work.sameBut_mono (Work.sameBut_moveLane _ l st f) (by simp))

@[simp] theorem Work.laneState_dropLane (l st : Nat) (f : Lane → Lane) : (w.dropLane l st f).laneState l = st := Work.laneState_moveLane _ l st f

/-- What is forgotten of a lane that holds lock no longer. -/
def Lane.unlocked (n : Lane) : Lane := { n with good := 0, window := [], chars := [], markers := 0 }

/-- A lost lock is flagged and counted, and the lane falls to CDR_LOCK. -/
theorem Work.loseLock_eq (l : Nat) : w.loseLock l = ((w.laneFlag l 1).bump (Obj.lockLoss l)).dropLane l lsCdr Lane.unlocked := rfl

theorem Work.only_loseLock (l : Nat) : w.only (w.loseLock l) [.lanes, .router] :=
  Work.only_trans (Work.only_mono (w.only_laneFlag l 1) (by simp))
    (Work.only_trans (Work.only_bump _ (Obj.lockLoss l) 1 _) (Work.only_mono (Work.only_dropLane _ l lsCdr Lane.unlocked) (by simp)))

theorem Work.sameBut_loseLock (l : Nat) :
    w.sameBut (w.loseLock l) [Obj.state l, Obj.flags l, Obj.lockLoss l, Obj.eyeStatus l, raisedKey (40 + w.portOfLane l)] :=
  Work.sameBut_trans (Work.sameBut_mono (w.sameBut_laneFlag l 1) (by simp))
    (Work.sameBut_trans (Work.sameBut_bump _ (k := Obj.lockLoss l) 1 (by simp))
      (Work.sameBut_mono (Work.sameBut_dropLane _ l lsCdr Lane.unlocked) (by simp)))

@[simp] theorem Work.laneState_loseLock (l : Nat) : (w.loseLock l).laneState l = lsCdr := Work.laneState_dropLane _ l lsCdr _

theorem flags_not_mem_dropped (l : Fin 128) : Obj.flags l ∉ [Obj.state l, Obj.eyeStatus l] := by decide +revert

theorem lockLoss_not_mem_dropped (l : Fin 128) : Obj.lockLoss l ∉ [Obj.state l, Obj.eyeStatus l] := by decide +revert

theorem counterMax_lockLoss : ∀ l : Fin 128, counterMax (Obj.lockLoss l) = 0xFFFFFFFF := by decide

theorem counterMax_shErr : ∀ l : Fin 128, counterMax (Obj.shErr l) = 0xFFFFFFFFFFFFFFFF := by decide

theorem Work.get_loseLock_flags (l : Fin 128) : (w.loseLock l).get (Obj.flags l) = Int.ofNat (w.getN (Obj.flags l) ||| 2) := by
  rw [Work.loseLock_eq, Work.sameBut_dropLane _ _ _ _ _ (flags_not_mem_dropped l), Work.get_bump, if_neg (statusKeys_ne (by decide)),
    Work.get_laneFlag_flags]
  rfl

theorem Work.get_loseLock_lockLoss (l : Fin 128) : (w.loseLock l).get (Obj.lockLoss l) = min (w.get (Obj.lockLoss l) + 1) 0xFFFFFFFF := by
  rw [Work.loseLock_eq, Work.sameBut_dropLane _ _ _ _ _ (lockLoss_not_mem_dropped l), Work.get_bump, if_pos rfl, counterMax_lockLoss,
    Work.get_laneFlag_status _ l _ (by decide) (by decide)]
  rfl

theorem Work.get_loseLock_shErr (l : Fin 128) : (w.loseLock l).get (Obj.shErr l) = w.get (Obj.shErr l) := by
  rw [Work.loseLock_eq, Work.sameBut_dropLane _ _ _ _ _ (by decide +revert), Work.get_bump, if_neg (statusKeys_ne (by decide)),
    Work.get_laneFlag_status _ l _ (by decide) (by decide)]

/-! ### Signal and clock (R115, R118) -/

/-- CDR_LOCK on a powered lane without clock recovery. -/
theorem cdrLock_recovers {s : State} {l : Fin 128} {ppm : Int} (hpower : s.w.lanePowered l = true)
    (hstate : s.w.laneState l = lsOff ∨ s.w.laneState l = lsNoSignal ∨ s.w.laneState l = lsRetrain) (hppm : ppm.natAbs ≤ 200) :
    Does (.cdrLock l ppm) s (fun t => t.laneState l = lsCdr ∧
      t.lanes = upd s.w.lanes l (fun n => { n with good := 0, window := [], chars := [], markers := 0 }) ∧ s.w.only t [.lanes] ∧
      s.w.sameBut t [Obj.state l]) := by
  have hsearch : (!s.w.lanePowered l || s.w.laneState l = lsPrbs || lsCdr ≤ s.w.laneState l && s.w.laneState l ≠ lsRetrain) = false := by
    rcases hstate with h | h | h <;> simp [hpower, h, lsOff, lsNoSignal, lsRetrain, lsPrbs, lsCdr]
  have hlocks : cdrLock l ppm s.w = s.w.moveLane l lsCdr Lane.unlocked := by
    rw [cdrLock, hsearch, if_neg (by decide), if_neg (not_lt.mpr hppm)]
    rfl
  refine does_of_onWork rfl ?_
  rw [hlocks]
  exact ⟨Work.laneState_moveLane _ _ _ _, rfl, s.w.only_moveLane _ _ _, s.w.sameBut_moveLane _ _ _⟩

/-- SIGNAL_LOSS on a lane with clock recovery. -/
theorem signalLoss_falls {s : State} {l : Fin 128} (hstate : lsCdr ≤ s.w.laneState l) :
    Does (.signalLoss l) s (fun t => t.laneState l = lsNoSignal ∧ t.get (Obj.flags l) = Int.ofNat (s.w.getN (Obj.flags l) ||| 1) ∧
      s.w.only t [.lanes, .router] ∧ s.w.sameBut t [Obj.state l, Obj.flags l, Obj.eyeStatus l, raisedKey (40 + s.w.portOfLane l)]) := by
  have hfalls : ∃ f, signalLoss l s.w = (s.w.laneFlag l 0).dropLane l lsNoSignal f := by
    rw [signalLoss, if_neg (not_lt.mpr hstate)]
    exact ⟨_, rfl⟩
  obtain ⟨f, hfalls⟩ := hfalls
  refine does_of_onWork rfl ?_
  rw [hfalls]
  refine ⟨Work.laneState_dropLane _ _ _ _, ?_, ?_, ?_⟩
  · rw [Work.sameBut_dropLane _ _ _ _ _ (flags_not_mem_dropped l), Work.get_laneFlag_flags]
    rfl
  · exact Work.only_trans (Work.only_mono (s.w.only_laneFlag l 0) (by simp)) (Work.only_mono (Work.only_dropLane _ _ _ _) (by simp))
  · exact Work.sameBut_trans (Work.sameBut_mono (s.w.sameBut_laneFlag l 0) (by simp)) (Work.sameBut_mono (Work.sameBut_dropLane _ _ _ _) (by simp))

theorem Work.laneState_laneFlag (l : Fin 128) (bit : Nat) : (w.laneFlag l bit).laneState l = w.laneState l := by
  rw [Work.laneState, Work.getN, Work.get_laneFlag_status _ l _ (by decide) (by decide)]
  rfl

/-- A lock, where one is held, is lost. -/
def Work.breakLock (l : Nat) : Work := if lsLock ≤ w.laneState l ∧ w.laneState l ≤ lsUp then w.loseLock l else w

/-- A lane that held clock or lock holds the clock at most. -/
theorem Work.laneState_breakLock {l : Nat} (hcdr : lsCdr ≤ w.laneState l) (hup : w.laneState l ≤ lsUp) : (w.breakLock l).laneState l = lsCdr := by
  unfold Work.breakLock
  split
  · exact w.laneState_loseLock l
  · next h =>
    unfold lsCdr lsLock lsUp at *
    omega

theorem Work.only_breakLock (l : Nat) : w.only (w.breakLock l) [.lanes, .router] := by
  unfold Work.breakLock
  split
  · exact w.only_loseLock l
  · exact w.only_refl _

theorem Work.sameBut_breakLock (l : Nat) :
    w.sameBut (w.breakLock l) [Obj.state l, Obj.flags l, Obj.lockLoss l, Obj.eyeStatus l, raisedKey (40 + w.portOfLane l)] := by
  unfold Work.breakLock
  split
  · exact w.sameBut_loseLock l
  · exact w.sameBut_refl _

theorem Work.getN_breakLock_flags {l : Fin 128} (hup : w.laneState l ≤ lsUp) :
    (w.breakLock l).getN (Obj.flags l) = w.getN (Obj.flags l) ||| (if lsLock ≤ w.laneState l then 2 else 0) := by
  unfold Work.breakLock
  by_cases hlock : lsLock ≤ w.laneState l
  · rw [if_pos ⟨hlock, hup⟩, if_pos hlock, Work.getN, w.get_loseLock_flags]
    rfl
  · rw [if_neg fun h => hlock h.1, if_neg hlock, Nat.or_zero]

/-- FREQ_ERR on a powered lane that holds clock or lock. -/
theorem freqErr_falls {s : State} {l : Fin 128} {ppm : Int} (hpower : s.w.lanePowered l = true) (hppm : 200 < ppm.natAbs)
    (hcdr : lsCdr ≤ s.w.laneState l) (hup : s.w.laneState l ≤ lsUp) :
    Does (.freqErr l ppm) s (fun t => t.laneState l = lsNoSignal ∧ s.w.only t [.lanes, .router] ∧
      s.w.sameBut t [Obj.state l, Obj.flags l, Obj.lockLoss l, Obj.eyeStatus l, raisedKey (40 + s.w.portOfLane l)] ∧
      t.getN (Obj.flags l) = (s.w.getN (Obj.flags l) ||| 256) ||| (if lsLock ≤ s.w.laneState l then 2 else 0)) := by
  have hstate := s.w.laneState_laneFlag l 8
  have hfalls : freqErr l ppm s.w = ((s.w.laneFlag l 8).breakLock l).setLane l lsNoSignal := by
    have hbroken := (s.w.laneFlag l 8).laneState_breakLock (l := l) (by rwa [hstate]) (by rwa [hstate])
    unfold Work.breakLock at hbroken ⊢
    simp only [freqErr, hpower, not_le.mpr hppm, Bool.not_true, Bool.false_or, decide_false, Bool.false_eq_true, if_false, Bool.and_eq_true,
      decide_eq_true_eq, hbroken, if_true]
  have hflag : (s.w.laneFlag l 8).getN (Obj.flags l) = s.w.getN (Obj.flags l) ||| 256 := by
    rw [Work.getN, Work.get_laneFlag_flags]
    rfl
  refine does_of_onWork rfl ?_
  rw [hfalls]
  refine ⟨congrArg Int.toNat (Work.get_set_same _ _ _), ?_, ?_, ?_⟩
  · exact Work.only_trans (Work.only_mono (s.w.only_laneFlag l 8) (by simp)) (Work.only_trans (Work.only_breakLock _ l) (Work.only_set _ _ _ _))
  · have hbreaks := (s.w.laneFlag l 8).sameBut_breakLock l
    rw [Work.portOfLane_laneFlag] at hbreaks
    exact Work.sameBut_trans (Work.sameBut_mono (s.w.sameBut_laneFlag l 8) (by simp)) (Work.sameBut_trans hbreaks (Work.sameBut_set _ _ (by simp)))
  · rw [Work.getN, Work.setLane, Work.get_set_other _ _ _ _ (statusKeys_ne (by decide)), ← Work.getN,
      Work.getN_breakLock_flags _ (by rwa [hstate]), hflag, hstate]

/-! ### Block lock at RSL rates (R120, R122) -/

/-- Valid headers all count. -/
theorem foldl_validHeader {headers : List (BitVec 2)} (h : headers.all validHeader = true) (n : Nat) :
    headers.foldl (fun n h => if validHeader h then n + 1 else 0) n = n + headers.length := by
  induction headers generalizing n with
  | nil => rfl
  | cons x xs ih =>
    obtain ⟨hx, hxs⟩ : validHeader x = true ∧ xs.all validHeader = true := by simpa using h
    rw [List.foldl_cons, if_pos hx, ih hxs, List.length_cons]
    omega

/-- BLOCK_LOCK after 64 consecutive valid headers. -/
theorem blockLock_locks {s : State} {l : Fin 128} {headers : List (BitVec 2)} (hstate : s.w.laneState l = lsCdr)
    (hrate : isRslRate (s.w.confN (Obj.rateObj l)) = true) (hvalid : headers.all validHeader = true)
    (hcount : 64 ≤ (s.w.lane l).good + headers.length) :
    Does (.blockLock l headers) s (fun t => t.laneState l = lsLock ∧ s.w.only t [.lanes] ∧ s.w.sameBut t [Obj.state l] ∧
      (∀ x : Fin 128, x ≠ l → t.lane x = s.w.lane x)) := by
  have hlocks : ∃ f g, blockLock l headers s.w = (s.w.updLane l f).moveLane l lsLock g := by
    rw [blockLock, if_neg (by simp [hstate, hrate]), foldl_validHeader hvalid]
    dsimp only
    rw [if_pos hcount]
    exact ⟨_, _, rfl⟩
  obtain ⟨f, g, hlocks⟩ := hlocks
  refine does_of_onWork rfl ?_
  rw [hlocks]
  refine ⟨Work.laneState_moveLane _ _ _ _, ?_, ?_, fun x hx => ?_⟩
  · exact Work.only_trans (s.w.only_updLane l f) (Work.only_moveLane _ _ _ _)
  · exact Work.sameBut_trans (s.w.sameBut_updLane l f _) (Work.sameBut_moveLane _ _ _ _)
  · rw [Work.lane_moveLane_other _ (by omega), Work.lane_updLane_other _ (by omega)]

/-- BLOCK_LOCK_LOSS by the 16th invalid header within 64. -/
theorem blockLockLoss_loses {s : State} {l : Fin 128} {h : BitVec 2} (hstate : s.w.laneState l = lsLock ∨ s.w.laneState l = lsUp)
    (hrate : isRslRate (s.w.confN (Obj.rateObj l)) = true) (hinvalid : validHeader h = false)
    (hcount : 15 ≤ (((s.w.lane l).window.take 63).filter (fun b => !b)).length) :
    Does (.blockLockLoss l [h]) s (fun t => t.laneState l = lsCdr ∧
      t.get (Obj.shErr l) = min (s.w.get (Obj.shErr l) + 1) 0xFFFFFFFFFFFFFFFF ∧
      t.get (Obj.lockLoss l) = min (s.w.get (Obj.lockLoss l) + 1) 0xFFFFFFFF ∧
      t.get (Obj.flags l) = Int.ofNat ((s.w.getN (Obj.flags l) ||| 16) ||| 2) ∧ s.w.only t [.lanes, .router]) := by
  have hloses : ∃ f, blockLockLoss l [h] s.w = (((s.w.updLane l f).bump (Obj.shErr l)).laneFlag l 4).loseLock l := by
    have hfull : 16 ≤ (((validHeader h :: (s.w.lane l).window).take 64).filter (fun b => !b)).length := by
      simp [hinvalid, hcount]
    simp only [blockLockLoss, hrate, if_true, List.foldl_cons, List.foldl_nil]
    rw [Work.lockedHeader, if_neg (by rcases hstate with e | e <;> simp [e])]
    dsimp only
    rw [if_pos hfull, if_neg (by simp [hinvalid])]
    exact ⟨_, rfl⟩
  obtain ⟨f, hloses⟩ := hloses
  have hcounted : ∀ k, ((s.w.updLane l f).bump (Obj.shErr l)).get k = (s.w.bump (Obj.shErr l)).get k := fun _ => rfl
  refine does_of_onWork rfl ?_
  rw [hloses]
  refine ⟨Work.laneState_loseLock _ _, ?_, ?_, ?_, ?_⟩
  · rw [Work.get_loseLock_shErr, Work.get_laneFlag_status _ l _ (by decide) (by decide), hcounted, Work.get_bump, if_pos rfl,
      counterMax_shErr]
    rfl
  · rw [Work.get_loseLock_lockLoss, Work.get_laneFlag_status _ l _ (by decide) (by decide), hcounted, Work.get_bump,
      if_neg (statusKeys_ne (by decide))]
  · rw [Work.get_loseLock_flags, Work.getN, Work.get_laneFlag_flags, Work.getN, hcounted, Work.get_bump,
      if_neg (statusKeys_ne (by decide))]
    rfl
  · exact Work.only_trans (Work.only_mono (s.w.only_updLane l f) (by simp)) (Work.only_trans (Work.only_bump _ (Obj.shErr l) 1 _)
      (Work.only_trans (Work.only_mono (Work.only_laneFlag _ l 4) (by simp)) (Work.only_loseLock _ l)))

/-- ALIGN_SEARCH that finds a boundary. -/
theorem alignSearch_finds {s : State} {l : Fin 128} {b : Fin 66} (hstate : s.w.laneState l = lsCdr) (halign : s.w.get (Obj.alignMode l) = 0)
    (hrate : isRslRate (s.w.confN (Obj.rateObj l)) = true) :
    Does (.alignSearch l (some b)) s (fun t => t.get (Obj.slipPos l) = b.val ∧ s.w.only t [.lanes] ∧ s.w.sameBut t [Obj.slipPos l] ∧
      t.lanes = upd s.w.lanes l (fun n => { n with good := 0 })) := by
  have hfinds : alignSearch l (some b) s.w = (s.w.set (Obj.slipPos l) b.val).updLane l (fun n => { n with good := 0 }) := by
    rw [alignSearch, if_neg (by simp [hstate, halign, hrate])]
  refine does_of_onWork rfl ?_
  rw [hfinds]
  refine ⟨Work.get_set_same _ _ _, ?_, ?_, rfl⟩
  · exact Work.only_trans (s.w.only_set _ _ _) (Work.only_updLane _ _ _)
  · exact Work.sameBut_trans (s.w.sameBut_set _ (by simp)) (Work.sameBut_updLane _ _ _ _)

/-! ### CoaXPress alignment (R118, R123) -/

/-- A lane keeps no violation. -/
abbrev Work.cleanLane (w : Work) (l : Nat) : Prop := (w.lane l).chars.all id = true

variable {w} in
/-- A character without a violation after none is kept, and no lock is lost. -/
theorem Work.cxpChar_clean {l : Nat} (hclean : w.cleanLane l) :
    w.cxpChar l true = w.updLane l (fun n => { n with chars := (true :: (w.lane l).chars).take 64 }) := by
  have hnone : ((true :: (w.lane l).chars).take 64).filter (fun b => !b) = [] := by
    refine List.filter_eq_nil_iff.mpr fun b hb => ?_
    have hmem := List.mem_of_mem_take hb
    rcases List.mem_cons.mp hmem with rfl | h
    · decide
    · simpa using List.all_eq_true.mp hclean b h
  rw [Work.cxpChar, hnone, if_pos rfl, if_neg (by simp)]

variable {w} in
theorem Work.cleanLane_cxpChar {l : Nat} (hclean : w.cleanLane l) : (w.cxpChar l true).cleanLane l := by
  rw [Work.cxpChar_clean hclean, Work.cleanLane, Work.lane_updLane_same]
  split
  · refine List.all_eq_true.mpr fun b hb => ?_
    rcases List.mem_cons.mp (List.mem_of_mem_take hb) with rfl | h
    · rfl
    · exact List.all_eq_true.mp hclean b h
  · rfl

variable {w} in
/-- Characters without a violation change what is kept of them and nothing else. -/
theorem Work.foldl_cxpChar_clean {l : Nat} {chars : List Bool} (hchars : chars.all id = true) (hclean : w.cleanLane l) :
    w.only (chars.foldl (fun w c => w.cxpChar l c) w) [.lanes] ∧ w.sameBut (chars.foldl (fun w c => w.cxpChar l c) w) [] := by
  induction chars generalizing w with
  | nil => exact ⟨w.only_refl _, w.sameBut_refl _⟩
  | cons c cs ih =>
    obtain ⟨rfl, hcs⟩ : c = true ∧ cs.all id = true := by simpa using hchars
    obtain ⟨honly, hsame⟩ := ih hcs (Work.cleanLane_cxpChar hclean)
    rw [List.foldl_cons]
    refine ⟨Work.only_trans ?_ honly, Work.sameBut_trans ?_ hsame⟩
    · rw [Work.cxpChar_clean hclean]
      exact w.only_updLane l _
    · rw [Work.cxpChar_clean hclean]
      exact w.sameBut_updLane l _ _

/-- COMMA_LOCK, with characters after the comma that show no violation. -/
theorem commaLock_locks {s : State} {l : Fin 128} {chars : List Bool} (hstate : s.w.laneState l = lsCdr)
    (hrate : isCxpRate (s.w.confN (Obj.rateObj l)) = true) (hchars : chars.all id = true) :
    Does (.commaLock l true chars) s (fun t => t.laneState l = lsLock ∧ s.w.only t [.lanes] ∧ s.w.sameBut t [Obj.state l]) := by
  let u := s.w.moveLane l lsLock (fun n => { n with chars := [] })
  have hclean : u.cleanLane l := by
    have hlane := (s.w.setLane l lsLock).lane_updLane_same l (fun n => { n with chars := [] })
    rw [Work.cleanLane, show u.lane l = _ from hlane]
    split <;> rfl
  have hlocks : commaLock l true chars s.w = chars.foldl (fun w c => w.cxpChar l c) u := by
    rw [commaLock, if_neg (by simp [hstate, hrate]), if_pos (by simp [hstate])]
    rfl
  obtain ⟨honly, hsame⟩ := Work.foldl_cxpChar_clean hchars hclean
  refine does_of_onWork rfl ?_
  rw [hlocks]
  refine ⟨?_, Work.only_trans (s.w.only_moveLane _ _ _) honly, Work.sameBut_trans (s.w.sameBut_moveLane _ _ _) (Work.sameBut_mono hsame (by simp))⟩
  rw [Work.laneState, Work.getN, hsame _ (by simp)]
  exact s.w.laneState_moveLane l lsLock _

/-- CXP_LANE_UP on a lane that keeps no violation. -/
theorem cxpLaneUp_goesUp {s : State} {l : Fin 128} (hrate : isCxpRate (s.w.confN (Obj.rateObj l)) = true) (hstate : s.w.laneState l = lsLock)
    (hclean : s.w.cleanLane l) : Does (.cxpLaneUp l) s (fun t => t = s.w.set (Obj.state l) 4) :=
  does_of_onWork rfl (if_pos (by simp [hrate, hstate, hclean]))

/-- Settles O23: one lemma for each event of a lane, over what an entered state, a flag and a lost lock change. -/
theorem lanesLockAndLoseLock : Obligations.LanesLockAndLoseLock :=
  ⟨fun _ _ _ => cdrLock_recovers, fun _ _ => signalLoss_falls, fun _ _ _ => freqErr_falls, fun _ _ _ => blockLock_locks,
    fun _ _ _ hstate hrate hinvalid _ => blockLockLoss_loses hstate hrate hinvalid, fun _ _ _ => commaLock_locks, fun _ _ => cxpLaneUp_goesUp,
    fun _ _ _ => alignSearch_finds⟩

end Sys2Proof.Machine
end

section
/-! The lane commands and a counter beyond its type: a marker of which no BIP8 bit differs leaves BIP_ERR alone, and the statement about it also speaks
of a state in which BIP_ERR already reads more than a U64 holds, where it has the counter saturate. -/
namespace Sys2Proof.Machine

/-- Lane 0 in BLOCK_LOCK at RSL-25, the one lane of port 0, after its first marker, with 2^64 in BIP_ERR. -/
def overcountedLane : State :=
  { State.reset with w := { State.reset.w with
    mode := .inspect, lanes := [{ markers := 1 }],
    d := { regs := [(Obj.state 0, 3), (Obj.bipErr 0, 2 ^ 64)], conf := [(Obj.rateObj 0, 3), (Obj.lanes 0, 1)] } } }

/-- The working state alone changes: where the one state that a command answers lacks a property, the command does not lead to it. -/
theorem not_does_of_onWork {c : Instr} {s : State} {f : Work → Work} {P : Work → Prop} (hc : exec c s = onWork f s) (hP : ¬ P (f s.w)) :
    ¬ Does c s P := by
  rintro ⟨w, hexec, hPw⟩
  obtain rfl : f s.w = w := congrArg State.w (Host.Outcome.next.inj (hc.symm.trans hexec))
  exact hP hPw

/-- Refutes O24: a marker with the BIP8 computed (payload 0x0100D2, parity 0) leaves BIP_ERR at 2^64 where the statement has 2^64 - 1. -/
theorem not_laneCommandsAct : ¬ Obligations.LaneCommandsAct := by
  rintro ⟨-, -, -, -, -, -, -, hmarker, -⟩
  refine not_does_of_onWork rfl ?_ (hmarker overcountedLane 0 0x0100D2 0 0 (by decide) (.inl (by decide)) (by decide) (by decide) (by decide)
    (by decide) (by decide))
  rintro ⟨-, -, hcount, -⟩
  exact absurd hcount (by decide)

end Sys2Proof.Machine
end

section
/-! Camera lines (R150 to R164): what a stored port, a line put into its FIFO and a closed trigger change, and how a packet meets its trigger. -/
namespace Sys2Proof.Machine
variable (w : Work)

theorem subKeys_ne {i x y : Nat} (h : x ≠ y) : i * 256 + x ≠ i * 256 + y := fun heq => h (Nat.add_left_cancel heq)

/-! ### Storing in a port -/

theorem Work.only_updPort (p : Nat) (f : Port → Port) : w.only (w.updPort p f) [.ports] := by
  intro q hq
  cases q <;> simp [Part.same] at hq ⊢

theorem Work.sameBut_updPort (p : Nat) (f : Port → Port) (ks : List Nat) : w.sameBut (w.updPort p f) ks := fun _ _ => rfl

theorem Work.port_updPort_same {p : Nat} (hp : p < w.ports.length) (f : Port → Port) : (w.updPort p f).port p = f (w.port p) := by
  rw [Work.port, Work.updPort, nth_upd, if_pos ⟨rfl, hp⟩, Work.port]

/-- What a change leaves of every port it leaves of port p, which may be none of the ports kept. -/
theorem Work.field_updPort {α : Type} (get : Port → α) {f : Port → Port} (hf : ∀ q, get (f q) = get q) (p : Nat) :
    get ((w.updPort p f).port p) = get (w.port p) := by
  rw [Work.port, Work.updPort, nth_upd]
  split
  · exact hf _
  · rfl

variable {w} in
/-- A port beyond those kept reads as after reset. -/
theorem Work.port_lt_of_ne {p : Nat} (h : w.port p ≠ {}) : p < w.ports.length :=
  Nat.lt_of_not_le fun hp => h (List.getD_eq_default _ _ hp)

variable {w} in
/-- A port with a trigger outstanding is kept. -/
theorem Work.port_lt_of_outstanding {p t : Nat} {g : Trig} {rest : List Trig} (h : w.outstanding p t = g :: rest) : p < w.ports.length := by
  refine Work.port_lt_of_ne fun hdefault => ?_
  have hnone : nth [] (List.replicate 8 ([] : List Trig)) t = [] := by
    rw [nth, List.getD_eq_getElem?_getD, List.getElem?_replicate]
    split <;> rfl
  rw [Work.outstanding, hdefault] at h
  exact List.cons_ne_nil _ _ (h.symm.trans hnone)

/-! ### The FIFO of a port -/

theorem Work.only_peak (k v : Nat) (ps : List Part) : w.only (w.peak k v) ps := by
  unfold Work.peak
  split
  · exact w.only_set _ _ _
  · exact w.only_refl _

theorem Work.sameBut_peak {k : Nat} (v : Nat) {ks : List Nat} (hk : k ∈ ks) : w.sameBut (w.peak k v) ks := by
  unfold Work.peak
  split
  · exact w.sameBut_set _ hk
  · exact w.sameBut_refl _

theorem Work.only_rxPush (p : Nat) (r : RxLine) : w.only (w.rxPush p r) [.ports] :=
  Work.only_trans (w.only_updPort p _) (Work.only_peak _ _ _ _)

theorem Work.sameBut_rxPush (p : Nat) (r : RxLine) : w.sameBut (w.rxPush p r) [Obj.fifoPeak p] :=
  Work.sameBut_trans (w.sameBut_updPort p _ _) (Work.sameBut_peak _ _ (by simp))

theorem Work.rx_rxPush {p : Nat} (hp : p < w.ports.length) (r : RxLine) : ((w.rxPush p r).port p).rx = (w.port p).rx ++ [r] := by
  rw [Work.rxPush, Work.port, Work.peak_ports]
  exact congrArg Port.rx (w.port_updPort_same hp _)

variable {w} in
/-- The fill of a FIFO depends on its lines and the depth of its pixels. -/
theorem Work.fifoFill_congr {v : Work} {p : Nat} (hrx : (v.port p).rx = (w.port p).rx) (hconf : v.d.conf = w.d.conf) :
    v.fifoFill p = w.fifoFill p := by
  simp only [Work.fifoFill, hrx, Work.confN, Work.conf, hconf]

/-! ### A trigger closed with a replaced line (R157) -/

/-- The line that closes a trigger without a line of its own. -/
def Trig.replaced (g : Trig) (t st back : Nat) : RxLine :=
  { k := g.k, line := g.line, tag := t, field := g.field, state := st, valid := 0, gen := g.gen, repeatOf := back }

/-- A trigger closed for another reason than a line error counts in MISSING_LINE. -/
theorem Work.closeMissing_eq (p t : Nat) (g : Trig) {st : Nat} (hst : st ≠ 5) :
    ∃ back, w.closeMissing p t g st = ((w.bump (Obj.missingLine p)).portFlag p 0).rxPush p (g.replaced t st back) := by
  unfold Work.closeMissing
  rw [if_neg hst]
  exact ⟨_, rfl⟩

section
variable (p t : Nat) (g : Trig) {st : Nat} (hst : st ≠ 5)
include hst

theorem Work.only_closeMissing : w.only (w.closeMissing p t g st) [.ports] := by
  obtain ⟨back, hcloses⟩ := w.closeMissing_eq p t g hst
  rw [hcloses]
  exact Work.only_trans (w.only_bump _ _ _) (Work.only_trans (Work.only_flag _ _ _ _) (Work.only_rxPush _ _ _))

theorem Work.sameBut_closeMissing : w.sameBut (w.closeMissing p t g st) [Obj.fifoPeak p, Obj.missingLine p, Obj.portFlags p] := by
  obtain ⟨back, hcloses⟩ := w.closeMissing_eq p t g hst
  rw [hcloses]
  exact Work.sameBut_trans (w.sameBut_bump _ (by simp)) (Work.sameBut_trans (Work.sameBut_flag _ (k := Obj.portFlags p) _ (by simp))
    (Work.sameBut_mono (Work.sameBut_rxPush _ _ _) (by simp)))

/-- The counts and flags of a closed trigger are those before the FIFO takes its line. -/
theorem Work.get_closeMissing {k : Nat} (hk : k ≠ Obj.fifoPeak p) :
    (w.closeMissing p t g st).get k = ((w.bump (Obj.missingLine p)).portFlag p 0).get k := by
  obtain ⟨back, hcloses⟩ := w.closeMissing_eq p t g hst
  rw [hcloses, Work.sameBut_rxPush _ _ _ _ (by simpa using hk)]

theorem Work.get_closeMissing_portFlags : (w.closeMissing p t g st).get (Obj.portFlags p) = Int.ofNat (w.getN (Obj.portFlags p) ||| 1) := by
  rw [w.get_closeMissing p t g hst (subKeys_ne (by decide)), Work.portFlag, Work.get_flag, if_pos rfl, Work.getN, Work.get_bump,
    if_neg (subKeys_ne (by decide))]
  rfl

theorem Work.rx_closeMissing (hp : p < w.ports.length) :
    ∃ back, ((w.closeMissing p t g st).port p).rx = (w.port p).rx ++ [g.replaced t st back] := by
  obtain ⟨back, hcloses⟩ := w.closeMissing_eq p t g hst
  refine ⟨back, ?_⟩
  rw [hcloses, Work.rx_rxPush _ (by exact hp)]
  rfl

end

theorem counterMax_missingLine : ∀ p : Fin 32, counterMax (Obj.missingLine p) = 0xFFFFFFFF := by decide

theorem Work.get_closeMissing_missingLine (p : Fin 32) (t : Nat) (g : Trig) {st : Nat} (hst : st ≠ 5) :
    (w.closeMissing p t g st).get (Obj.missingLine p) = min (w.get (Obj.missingLine p) + 1) 0xFFFFFFFF := by
  rw [w.get_closeMissing p t g hst (subKeys_ne (by decide)), Work.portFlag, Work.get_flag, if_neg (subKeys_ne (by decide)), Work.get_bump,
    if_pos rfl, counterMax_missingLine]
  rfl

/-- The last line of a FIFO with one line more. -/
theorem rx_appended {xs ys : List RxLine} {r : RxLine} {P : RxLine → Prop} (h : ys = xs ++ [r]) (hr : P r) :
    ys.length = xs.length + 1 ∧ (∀ x ∈ ys.getLast?, P x) := by
  subst h
  simpa using hr

/-! ### The oldest trigger -/

theorem Work.only_setOutstanding (p t : Nat) (gs : List Trig) : w.only (w.setOutstanding p t gs) [.ports] := w.only_updPort p _

theorem Work.rx_setOutstanding (p t : Nat) (gs : List Trig) : ((w.setOutstanding p t gs).port p).rx = (w.port p).rx :=
  w.field_updPort Port.rx (f := fun q => { q with waiting := upd q.waiting t (fun _ => gs) }) (fun _ => rfl) p

theorem Work.poison_setOutstanding (p t : Nat) (gs : List Trig) : ((w.setOutstanding p t gs).port p).poison = (w.port p).poison :=
  w.field_updPort Port.poison (f := fun q => { q with waiting := upd q.waiting t (fun _ => gs) }) (fun _ => rfl) p

@[simp] theorem Work.ports_length_setOutstanding (p t : Nat) (gs : List Trig) : (w.setOutstanding p t gs).ports.length = w.ports.length :=
  upd_length _ _ _

theorem Work.fifoFill_setOutstanding (p t : Nat) (gs : List Trig) : (w.setOutstanding p t gs).fifoFill p = w.fifoFill p :=
  Work.fifoFill_congr (w.rx_setOutstanding p t gs) rfl

variable {w} in
/-- A packet that bears the number of the oldest trigger takes that one. -/
theorem Work.matchLine_oldest {p t seq : Nat} {g : Trig} {rest : List Trig} (ht : t < w.confN (Obj.tagCount p))
    (hout : w.outstanding p t = g :: rest) (hseq : g.seq = seq) (f : Trig → Work → Work) :
    w.matchLine p t seq f = f g (w.setOutstanding p t rest) := by
  simp only [Work.matchLine, if_neg (Nat.not_le.mpr ht), hout, splitMatch, if_pos hseq, List.foldl_nil]

/-! ### A good line (R151) -/

/-- A differing echo is counted and flagged (R156). -/
def Work.echoed (w : Work) (p : Nat) (diff : Bool) : Work := if diff then (w.bump (Obj.echoErr p)).portFlag p 2 else w

theorem Work.only_echoed (p : Nat) (diff : Bool) (ps : List Part) : w.only (w.echoed p diff) ps := by
  unfold Work.echoed
  split
  · exact Work.only_trans (w.only_bump _ _ _) (Work.only_flag _ _ _ _)
  · exact w.only_refl _

theorem Work.sameBut_echoed (p : Nat) (diff : Bool) : w.sameBut (w.echoed p diff) (if diff then [Obj.echoErr p, Obj.portFlags p] else []) := by
  unfold Work.echoed
  split
  · exact Work.sameBut_trans (w.sameBut_bump _ (by simp)) (Work.sameBut_flag _ (k := Obj.portFlags p) _ (by simp))
  · exact w.sameBut_refl _

@[simp] theorem Work.port_echoed (p : Nat) (diff : Bool) (x : Nat) : (w.echoed p diff).port x = w.port x := by
  unfold Work.echoed
  split <;> rfl

@[simp] theorem Work.confN_echoed (p : Nat) (diff : Bool) (k : Nat) : (w.echoed p diff).confN k = w.confN k := by
  unfold Work.echoed
  split <;> rfl

@[simp] theorem Work.frame_echoed (p : Nat) (diff : Bool) : (w.echoed p diff).frame = w.frame := by
  unfold Work.echoed
  split <;> rfl

@[simp] theorem Work.frame_updPort (p : Nat) (f : Port → Port) : (w.updPort p f).frame = w.frame := rfl

/-- A port after a good line of a trigger: the line is its tag's last of its own, and the frame its last with a matched line. -/
def Port.takes (q : Port) (t : Nat) (g : Trig) (frame : Nat) : Port :=
  { q with
    poison := q.poisonNext g.line, matched := some frame
    lastOwn := match g.line with
      | some l => alSet q.lastOwn (t * 8 + g.field) l
      | none => q.lastOwn }

/-- The state in which a good line goes into the FIFO. -/
def Work.accepted (w : Work) (p t : Nat) (g : Trig) (diff : Bool) : Work := (w.echoed p diff).updPort p (fun q => q.takes t g w.frame)

theorem Work.only_accepted (p t : Nat) (g : Trig) (diff : Bool) : w.only (w.accepted p t g diff) [.ports] :=
  Work.only_trans (w.only_echoed p diff _) (Work.only_updPort _ p _)

theorem Work.sameBut_accepted (p t : Nat) (g : Trig) (diff : Bool) :
    w.sameBut (w.accepted p t g diff) (if diff then [Obj.echoErr p, Obj.portFlags p] else []) :=
  Work.sameBut_trans (w.sameBut_echoed p diff) (Work.sameBut_updPort _ p _ _)

theorem Work.rx_accepted (p t : Nat) (g : Trig) (diff : Bool) : ((w.accepted p t g diff).port p).rx = (w.port p).rx := by
  rw [Work.accepted, Work.field_updPort _ Port.rx (f := fun q => q.takes t g w.frame) (fun _ => rfl), Work.port_echoed]

theorem Work.ports_length_accepted (p t : Nat) (g : Trig) (diff : Bool) : (w.accepted p t g diff).ports.length = w.ports.length := by
  rw [Work.accepted, Work.updPort, upd_length, w.only_echoed p diff [] .ports (by simp)]

/-- The line of a trigger with the n pixels of its tag. -/
def Trig.good (g : Trig) (t n : Nat) (px : List Nat) (expDiff : Bool) : RxLine :=
  { k := g.k, line := g.line, tag := t, field := g.field, state := 0, valid := n, gen := g.gen, echoDiff := expDiff, pixels := px }

theorem upd_upd {α : Type} (xs : List α) (n : Nat) (f g : α → α) : upd (upd xs n f) n g = upd xs n (fun x => g (f x)) := by
  induction xs generalizing n with
  | nil => cases n <;> rfl
  | cons x xs ih => cases n <;> simp [upd, ih]

theorem Work.updPort_updPort (p : Nat) (f g : Port → Port) : (w.updPort p f).updPort p g = w.updPort p (fun q => g (f q)) :=
  congrArg (fun ps => { w with ports := ps }) (upd_upd w.ports p f g)

variable {w} in
/-- A line with every pixel of its tag, on a port without poison and with room, goes into the FIFO. -/
theorem Work.takeLine_good {p t n : Nat} {g : Trig} {px : List Nat} {expDiff : Bool} (hn : n = w.tagPx p t) (hpx : px.length = n)
    (hpoison : (w.port p).poison = none) (hroom : w.fifoFill p + rxSize (w.confN (Obj.portDepth p)) (g.good t n px expDiff) ≤ fifoBytes)
    (diff : Bool) : w.takeLine p t g n px diff expDiff = (w.accepted p t g diff).rxPush p (g.good t n px expDiff) := by
  let v := (w.echoed p diff).updPort p (fun q => { q with poison := q.poisonNext g.line })
  have hpoisons : ((w.echoed p diff).port p).poisons g.line = false := by simp [Port.poisons, hpoison]
  have hfill : v.fifoFill p = w.fifoFill p := by
    refine Work.fifoFill_congr ?_ (w.only_echoed p diff [] .conf (by simp)).1
    rw [Work.field_updPort _ Port.rx (f := fun q => { q with poison := q.poisonNext g.line }) (fun _ => rfl), Work.port_echoed]
  have hroom' : ¬ fifoBytes < v.fifoFill p + rxSize (v.confN (Obj.portDepth p)) (g.good t n px expDiff) := by
    rw [hfill, show v.confN _ = _ from w.confN_echoed p diff _]
    exact Nat.not_lt.mpr hroom
  have hall : px.take n = px := List.take_of_length_le hpx.le
  simp only [Work.takeLine, ← hn, hpx, min_self, hall, lt_irrefl, if_false, zero_ne_one, OfNat.zero_ne_ofNat]
  rw [← Work.echoed, hpoisons, if_neg Bool.false_ne_true]
  refine (if_neg hroom').trans (congrArg (Work.rxPush · p _) ?_)
  cases hline : g.line <;> simp only [Work.accepted, Work.updPort_updPort, Work.frame_updPort, Work.frame_echoed, Port.takes, hline]

/-- The state after a line has answered the oldest trigger of a tag, with those left outstanding. -/
def Work.answered (w : Work) (p t : Nat) (rest : List Trig) (g : Trig) (diff : Bool) (r : RxLine) : Work :=
  ((w.setOutstanding p t rest).accepted p t g diff).rxPush p r

variable {w} in
/-- The same with the trigger no longer outstanding. -/
theorem Work.takeLine_answers {p t n : Nat} {g : Trig} {px : List Nat} {expDiff : Bool} (hn : n = w.tagPx p t) (hpx : px.length = n)
    (hpoison : (w.port p).poison = none) (hroom : w.fifoFill p + rxSize (w.confN (Obj.portDepth p)) (g.good t n px expDiff) ≤ fifoBytes)
    (rest : List Trig) (diff : Bool) :
    (w.setOutstanding p t rest).takeLine p t g n px diff expDiff = w.answered p t rest g diff (g.good t n px expDiff) :=
  Work.takeLine_good (w := w.setOutstanding p t rest) hn hpx ((w.poison_setOutstanding p t rest).trans hpoison)
    (by rwa [Work.fifoFill_setOutstanding]) diff

theorem Work.only_answered (p t : Nat) (rest : List Trig) (g : Trig) (diff : Bool) (r : RxLine) :
    w.only (w.answered p t rest g diff r) [.ports] :=
  Work.only_trans (w.only_setOutstanding p t rest) (Work.only_trans (Work.only_accepted _ p t g diff) (Work.only_rxPush _ p r))

theorem Work.sameBut_answered (p t : Nat) (rest : List Trig) (g : Trig) (diff : Bool) (r : RxLine) :
    w.sameBut (w.answered p t rest g diff r) (Obj.fifoPeak p :: if diff then [Obj.echoErr p, Obj.portFlags p] else []) :=
  Work.sameBut_trans (w.sameBut_updPort p _ _) (Work.sameBut_trans
    (Work.sameBut_mono (Work.sameBut_accepted _ p t g diff) (by simp)) (Work.sameBut_mono (Work.sameBut_rxPush _ p r) (by simp)))

section
variable {p t : Nat} {g : Trig} {rest : List Trig} (hout : w.outstanding p t = g :: rest)
include hout

theorem Work.rx_answered (diff : Bool) (r : RxLine) : ((w.answered p t rest g diff r).port p).rx = (w.port p).rx ++ [r] := by
  have hp := Work.port_lt_of_outstanding hout
  rw [Work.answered, Work.rx_rxPush _ (by rwa [Work.ports_length_accepted, Work.ports_length_setOutstanding]), Work.rx_accepted,
    Work.rx_setOutstanding]

theorem Work.rx_closed {v : Work} (hports : v.ports = (w.setOutstanding p t rest).ports) {st : Nat} (hst : st ≠ 5) :
    ∃ back, ((v.closeMissing p t g st).port p).rx = (w.port p).rx ++ [g.replaced t st back] := by
  have hp := Work.port_lt_of_outstanding hout
  obtain ⟨back, hrx⟩ := v.rx_closeMissing p t g hst (by rwa [hports, Work.ports_length_setOutstanding])
  refine ⟨back, hrx.trans ?_⟩
  rw [← w.rx_setOutstanding p t rest, Work.port, Work.port, hports]

end

/-! ### The packets -/

/-- Blocks that hold n pixels of a depth are no fewer than n pixels of it fill. -/
theorem rxSize_unpackPixels_le {b n : Nat} {ds : List Word64} {r : RxLine} (hr : r.pixels = unpackPixels b n ds)
    (hn : (unpackPixels b n ds).length = n) : rxSize b r ≤ ds.length * 8 + 16 := by
  have hlen : n ≤ ds.length * 64 / b := by
    simp only [unpackPixels, List.length_map, upTo, List.length_range] at hn
    omega
  have hbits : n * b ≤ ds.length * 64 := (Nat.mul_le_mul_right b hlen).trans (Nat.div_mul_le_self _ _)
  unfold rxSize
  split
  · exact Nat.zero_le _
  · rw [hr, hn, ceilDiv, if_neg (by decide)]
    omega

/-- LINE_PACKET of a good line under the oldest trigger of its tag, with n pixels of the tag t and an echo that differs or not. -/
theorem linePacket_good {s : State} {p : Fin 32} {start stop : BitVec 64} {data : List (BitVec 64)} {t n : Nat} {px : List Nat} {g : Trig}
    {rest : List Trig} {echo : Bool} (ht : t = bitsOf start.toNat 8 3) (hn : n = s.w.tagPx p t)
    (hpixels : px = unpackPixels (s.w.confN (Obj.portDepth p)) n data) (hecho : echo = decide (bitsOf start.toNat 24 8 ≠ g.gen % 256))
    (hlive : s.w.portLive p false = true) (htag : t < s.w.confN (Obj.tagCount p)) (hout : s.w.outstanding p t = g :: rest)
    (hseq : g.seq = bitsOf start.toNat 32 16) (hblocks : bitsOf stop.toNat 16 16 = data.length % 65536)
    (hcrc : bitsOf stop.toNat 32 32 = crc32 (blocksBytes data)) (hcount : bitsOf start.toNat 48 16 = n) (hmax : n ≤ 32768) (hpx : px.length = n)
    (hroom : s.w.fifoFill p + data.length * 8 + 16 ≤ fifoBytes) (hpoison : (s.w.port p).poison = none) :
    Does (.linePacket p start data stop false false 0) s (fun u =>
      (u.port p).rx = (s.w.port p).rx ++ [g.good t n px echo] ∧ s.w.only u [.ports] ∧
      s.w.sameBut u [Obj.fifoPeak p, Obj.echoErr p, Obj.portFlags p]) := by
  have hfits : s.w.fifoFill p + rxSize (s.w.confN (Obj.portDepth p)) (g.good t n px echo) ≤ fifoBytes := by
    have := rxSize_unpackPixels_le (r := g.good t n px echo) hpixels (hpixels ▸ hpx)
    omega
  have htakes : linePacket p start data stop false false 0 s.w =
      s.w.answered p t rest g (echo || bitsOf start.toNat 16 3 ≠ g.field) (g.good t n px echo) := by
    have hunpacked : unpackPixels (s.w.confN (Obj.portDepth p)) (min n 32768) data = px := by rw [min_eq_left hmax, hpixels]
    have hroomy : ¬ fifoBytes < (s.w.setOutstanding p t rest).fifoFill p + data.length * 8 + 16 := by
      rw [Work.fifoFill_setOutstanding]
      exact Nat.not_lt.mpr hroom
    rw [← Work.takeLine_answers hn hpx hpoison hfits, ← hunpacked]
    simp only [linePacket, hlive, Work.unknownBlocks, ← ht, Work.matchLine_oldest htag hout hseq, hblocks, hcrc, hcount, hroomy, if_false, if_true,
      ne_eq, not_true, decide_false, Bool.or_false, Bool.not_true, Bool.false_eq_true]
    rw [hecho]
    rfl
  refine does_of_onWork rfl ?_
  rw [htakes]
  refine ⟨s.w.rx_answered hout _ _, s.w.only_answered _ _ _ _ _ _, Work.sameBut_mono (s.w.sameBut_answered _ _ _ _ _ _) ?_⟩
  split <;> simp

/-- CXP_STREAM_PACKET of a good line under the oldest trigger of its tag. -/
theorem cxpStreamPacket_good {s : State} {p : Fin 32} {t8 : Fin 8} {px : List Nat} {g : Trig} {rest : List Trig}
    (hlive : s.w.portLive p true = true) (htag : (t8 : Nat) < s.w.confN (Obj.tagCount p)) (hout : s.w.outstanding p t8 = g :: rest)
    (hpx : px.length = s.w.tagPx p t8)
    (hroom : s.w.fifoFill p + (ceilDiv (px.length * s.w.confN (Obj.portDepth p)) 64 * 8 + 16) ≤ fifoBytes)
    (hpoison : (s.w.port p).poison = none) :
    Does (.cxpStreamPacket p t8 true true px.length px) s (fun t =>
      (t.port p).rx = (s.w.port p).rx ++ [g.good t8 (s.w.tagPx p t8) (px.map (· % 2 ^ s.w.confN (Obj.portDepth p))) false] ∧
      s.w.only t [.ports] ∧ s.w.sameBut t [Obj.fifoPeak p]) := by
  have hmap : (px.map (· % 2 ^ s.w.confN (Obj.portDepth p))).length = px.length := List.length_map _
  have hfits : s.w.fifoFill p + rxSize (s.w.confN (Obj.portDepth p)) (g.good t8 px.length (px.map (· % 2 ^ s.w.confN (Obj.portDepth p))) false) ≤
      fifoBytes := by
    refine le_trans (Nat.add_le_add_left ?_ _) hroom
    unfold rxSize
    split
    · exact Nat.zero_le _
    · rw [← hmap]
      rfl
  have htakes : cxpStreamPacket p t8 true true px.length px s.w =
      s.w.answered p t8 rest g false (g.good t8 px.length (px.map (· % 2 ^ s.w.confN (Obj.portDepth p))) false) := by
    rw [← Work.takeLine_answers hpx hmap hpoison hfits]
    simp only [cxpStreamPacket, hlive, hout, if_neg (Nat.not_le.mpr htag), Bool.not_true, Bool.false_eq_true, if_false]
    rfl
  refine does_of_onWork rfl ?_
  rw [htakes, ← hpx]
  exact ⟨s.w.rx_answered hout _ _, s.w.only_answered _ _ _ _ _ _, s.w.sameBut_answered _ _ _ _ _ _⟩

theorem counterMax_surplusLine : ∀ p : Fin 32, counterMax (Obj.surplusLine p) = 0xFFFFFFFF := by decide

/-- CXP_STREAM_PACKET with no trigger outstanding. -/
theorem cxpStreamPacket_surplus {s : State} {p : Fin 32} {t8 : Fin 8} (hlive : s.w.portLive p true = true) (hout : s.w.outstanding p t8 = [])
    (ok : Bool) (n : Nat) (px : List Nat) :
    Does (.cxpStreamPacket p t8 true ok n px) s (fun t =>
      t.get (Obj.surplusLine p) = min (s.w.get (Obj.surplusLine p) + 1) 0xFFFFFFFF ∧
      t.get (Obj.portFlags p) = Int.ofNat (s.w.getN (Obj.portFlags p) ||| 2) ∧ s.w.only t [] ∧
      s.w.sameBut t [Obj.surplusLine p, Obj.portFlags p]) := by
  have hsurplus : cxpStreamPacket p t8 true ok n px s.w = (s.w.bump (Obj.surplusLine p)).flag (Obj.portFlags p) 2 := by
    simp only [cxpStreamPacket, hlive, hout, Bool.not_true, Bool.false_eq_true, if_false]
    rfl
  refine does_of_onWork rfl ?_
  rw [hsurplus]
  refine ⟨?_, ?_, Work.only_trans (s.w.only_bump _ _ _) (Work.only_flag _ _ _ _),
    Work.sameBut_trans (s.w.sameBut_bump _ (by simp)) (Work.sameBut_flag _ _ (by simp))⟩
  · rw [Work.get_flag, if_neg (subKeys_ne (by decide)), Work.get_bump, if_pos rfl, counterMax_surplusLine]
    rfl
  · rw [Work.get_flag, if_pos rfl, Work.getN, Work.get_bump, if_neg (subKeys_ne (by decide))]
    rfl

/-- LINE_TIMEOUT of an oldest trigger that is due. -/
theorem lineTimeout_closes {s : State} {p : Fin 32} {t8 : Fin 8} {g : Trig} {rest : List Trig} (hout : s.w.outstanding p t8 = g :: rest)
    (hdue : g.sentAt + nsClocks (s.w.getN (Obj.lineTimeout p)) ≤ s.w.clk.ctl) :
    Does (.lineTimeout p t8) s (fun t =>
      s.w.only t [.ports] ∧ s.w.sameBut t [Obj.fifoPeak p, Obj.missingLine p, Obj.portFlags p] ∧
      t.get (Obj.missingLine p) = min (s.w.get (Obj.missingLine p) + 1) 0xFFFFFFFF ∧ (t.port p).rx.length = (s.w.port p).rx.length + 1 ∧
      (∀ r ∈ (t.port p).rx.getLast?, r.k = g.k ∧ r.line = g.line ∧ r.tag = t8 ∧ r.valid = 0 ∧ r.state = if s.w.linkUp p then 3 else 4)) := by
  have hst : s.w.missState p ≠ 5 := by
    unfold Work.missState
    split <;> decide
  have hcloses : lineTimeout p t8 s.w = (s.w.setOutstanding p t8 rest).closeMissing p t8 g (s.w.missState p) := by
    simp only [lineTimeout, hout, if_pos hdue]
  obtain ⟨back, hrx⟩ := s.w.rx_closed hout rfl hst
  refine does_of_onWork rfl ?_
  rw [hcloses]
  refine ⟨Work.only_trans (s.w.only_setOutstanding _ _ _) (Work.only_closeMissing _ _ _ _ hst),
    Work.sameBut_trans (s.w.sameBut_updPort _ _ _) (Work.sameBut_closeMissing _ _ _ _ hst), Work.get_closeMissing_missingLine _ p t8 g hst,
    rx_appended hrx ⟨rfl, rfl, rfl, rfl, rfl⟩⟩

/-- PORT_OVERLOAD of a line under the oldest trigger of its tag. -/
theorem portOverload_closes {s : State} {p : Fin 32} {start : BitVec 64} {blocks : Nat} {g : Trig} {rest : List Trig}
    (hlive : s.w.portLive p false = true) (hfull : fifoBytes < s.w.fifoFill p + blocks * 8 + 8)
    (htag : bitsOf start.toNat 8 3 < s.w.confN (Obj.tagCount p)) (hout : s.w.outstanding p (bitsOf start.toNat 8 3) = g :: rest)
    (hseq : g.seq = bitsOf start.toNat 32 16) :
    Does (.portOverload p start blocks) s (fun t =>
      s.w.only t [.ports] ∧ s.w.sameBut t [Obj.fifoPeak p, Obj.missingLine p, Obj.portFlags p] ∧
      t.get (Obj.portFlags p) = Int.ofNat ((s.w.getN (Obj.portFlags p) ||| 16) ||| 1) ∧
      (t.port p).rx.length = (s.w.port p).rx.length + 1 ∧
      (∀ r ∈ (t.port p).rx.getLast?, r.k = g.k ∧ r.line = g.line ∧ r.valid = 0 ∧ r.state = 6)) := by
  have hst : (6 : Nat) ≠ 5 := by decide
  have hcloses : portOverload p start blocks s.w =
      ((s.w.setOutstanding p (bitsOf start.toNat 8 3) rest).portFlag p 4).closeMissing p (bitsOf start.toNat 8 3) g 6 := by
    simp only [portOverload, hlive, Nat.not_le.mpr hfull, Bool.not_true, Bool.false_or, decide_false, Bool.false_eq_true, if_false,
      Work.matchLine_oldest htag hout hseq]
  obtain ⟨back, hrx⟩ := s.w.rx_closed (v := (s.w.setOutstanding p (bitsOf start.toNat 8 3) rest).portFlag p 4) hout rfl hst
  refine does_of_onWork rfl ?_
  rw [hcloses]
  refine ⟨Work.only_trans (s.w.only_setOutstanding _ _ _) (Work.only_trans (Work.only_flag _ _ _ _) (Work.only_closeMissing _ _ _ _ hst)),
    Work.sameBut_trans (s.w.sameBut_updPort _ _ _)
      (Work.sameBut_trans (Work.sameBut_flag _ (k := Obj.portFlags p) _ (by simp)) (Work.sameBut_closeMissing _ _ _ _ hst)),
    ?_, rx_appended hrx ⟨rfl, rfl, rfl, rfl⟩⟩
  rw [Work.get_closeMissing_portFlags _ _ _ _ hst, Work.getN, Work.portFlag, Work.get_flag, if_pos rfl]
  rfl

/-- CXP_HEARTBEAT on a CoaXPress port. -/
theorem cxpHeartbeat_keeps {s : State} {p : Fin 32} (hlive : s.w.portLive p true = true) : Does (.cxpHeartbeat p) s (fun t => t = s.w) := by
  refine does_of_onWork rfl (if_neg fun hrsl => ?_)
  simp only [Work.portLive, Bool.and_eq_true, beq_iff_eq] at hlive hrsl
  exact absurd (hlive.2.symm.trans hrsl.2) (by decide)

/-- Settles O25: one lemma for each packet and each end of a trigger, over what a good line and a closed trigger change. -/
theorem linesMeetTheirTriggers : Obligations.LinesMeetTheirTriggers :=
  ⟨fun _ _ _ _ _ _ _ => linePacket_good rfl rfl rfl rfl, fun _ _ _ _ _ _ hlive htag hout hpx _ => cxpStreamPacket_good hlive htag hout hpx,
    fun _ _ _ ok n px hlive hout => cxpStreamPacket_surplus hlive hout ok n px, fun _ _ _ _ _ => lineTimeout_closes,
    fun _ _ _ _ _ _ => portOverload_closes, fun _ _ => cxpHeartbeat_keeps⟩

end Sys2Proof.Machine
end

section
/-! Register messages (R162, R165 to R168): what a transaction of a port begun and one ended change, and the commands and events about them. -/
namespace Sys2Proof.Machine
variable (w : Work)

/-! ### A transaction is begun -/

theorem Work.only_startTxn (p : Nat) (use : TxnUse) (write : Bool) (addr words : Nat) (data : List Nat) :
    w.only (w.startTxn p use write addr words data) [.ports, .timers, .sent] := by
  have hstarted : ∀ f, w.only ((w.updPort p f).startTimer (txnTimer p use)) [.ports, .timers, .sent] := fun f =>
    Work.only_trans (Work.only_mono (w.only_updPort p f) (by simp)) (Work.only_mono (Work.only_startTimer _ _) (by simp))
  unfold Work.startTxn
  dsimp only
  split
  · exact Work.only_trans (hstarted _) (Work.only_mono (Work.only_send _ _) (by simp))
  · exact Work.only_trans (hstarted _) (Work.only_mono (Work.only_send _ _) (by simp))

theorem Work.get_startTxn (p : Nat) (use : TxnUse) (write : Bool) (addr words : Nat) (data : List Nat) (k : Nat) :
    (w.startTxn p use write addr words data).get k = w.get k := by
  unfold Work.startTxn
  dsimp only
  split <;> rfl

variable {w} in
/-- At RSL rates the camera is sent a MESSAGE block and the data blocks of the words. -/
theorem Work.sent_startTxn {p : Nat} (hrsl : w.portCxp p = false) (use : TxnUse) (write : Bool) (addr words : Nat) (data : List Nat) :
    (w.startTxn p use write addr words data).sent =
      .message p (messageBlock addr ((w.port p).msgNo % 256) words (if write then 2 else 1)) (wordBlocks data) :: w.sent := by
  unfold Work.startTxn
  dsimp only
  exact congrArg Work.sent (if_neg (ne_true_of_eq_false hrsl))

/-! ### What waits for the end of a transaction -/

variable {w} in
theorem Work.nextTxn_of_none {p : Nat} (hexp : (w.port p).expWait = false) (hpass : (w.port p).passWait = none) : w.nextTxn p = w := by
  simp [Work.nextTxn, hexp, hpass]

variable {w} in
/-- A pass-through that waits alone is sent once no transaction and no discovery is in its way. -/
theorem Work.nextTxn_of_pass {p : Nat} {write : Bool} (htxn : (w.port p).txn = none) (hstate : 4 ≤ w.getN (Obj.portState p))
    (hexp : (w.port p).expWait = false) (hpass : (w.port p).passWait = some write) :
    w.nextTxn p = (w.updPort p (fun q => { q with passWait := none })).startTxn p (if write then .passWrite else .passRead) write
      (w.getN (Obj.regAddr p)) (w.getN (Obj.regLength p) / 4) (if write then bytesWords (w.blob (Obj.regData p)) else []) := by
  simp only [Work.nextTxn, htxn, Work.discovering, Nat.not_lt.mpr hstate, hexp, hpass]
  rfl

/-! ### A transaction is ended -/

/-- The state without a port's transaction, and with the timer of its use stopped. -/
def Work.freed (w : Work) (p : Nat) (use : TxnUse) : Work := (w.stopTimer (txnTimer p use)).updPort p (fun q => { q with txn := none })

theorem Work.only_freed (p : Nat) (use : TxnUse) : w.only (w.freed p use) [.ports, .timers] :=
  Work.only_trans (Work.only_mono (w.only_stopTimer _) (by simp)) (Work.only_mono (Work.only_updPort _ p _) (by simp))

/-- What a port keeps beside its transaction. -/
theorem Work.field_freed {α : Type} (get : Port → α) (hget : ∀ q : Port, get { q with txn := none } = get q) (p : Nat) (use : TxnUse) :
    get ((w.freed p use).port p) = get (w.port p) :=
  Work.field_updPort (w.stopTimer (txnTimer p use)) get (f := fun q => { q with txn := none }) hget p

/-- With nothing waiting the end of a transaction begins none. -/
theorem Work.nextTxn_freed {p : Nat} {use : TxnUse} {v : Work} (hv : v.ports = (w.freed p use).ports) (hexp : (w.port p).expWait = false)
    (hpass : (w.port p).passWait = none) : v.nextTxn p = v := by
  have hport : v.port p = (w.freed p use).port p := by rw [Work.port, hv, Work.port]
  refine Work.nextTxn_of_none ?_ ?_
  · rw [hport, w.field_freed Port.expWait (fun _ => rfl), hexp]
  · rw [hport, w.field_freed Port.passWait (fun _ => rfl), hpass]

variable {w} in
/-- An acknowledgement that bears the number of the outstanding message answers it. -/
theorem rslMessage_answers {p : Fin 32} {b : BitVec 64} {data : List (BitVec 64)} {x : Txn} (hlive : w.portLive p false = true)
    (htxn : (w.port p).txn = some x) (htag : bitsOf b.toNat 24 8 = x.tag) (hack : bitsOf b.toNat 8 8 = 3) :
    ∃ code offer, rslMessage p b data w = w.answer p x true code ((blockWords data).take (bitsOf b.toNat 16 8 + 1)) offer := by
  simp only [rslMessage, hlive, htxn, htag, hack, Bool.not_true, Bool.false_eq_true, if_false, ne_eq, not_true, decide_false, Bool.false_and,
    Bool.or_false, decide_true]
  exact ⟨_, _, rfl⟩

/-! ### Discovery -/

variable {w} in
/-- An object that does not read UP is no lane's STATE of a link that is UP, so the link stays UP when it is stored. -/
theorem Work.linkUp_set {k p : Nat} (hk : w.getN k ≠ lsUp) (v : Int) (hup : w.linkUp p = true) : (w.set k v).linkUp p = true := by
  simp only [Work.linkUp, List.all_eq_true, beq_iff_eq] at hup ⊢
  intro l hl
  have hlane := hup l hl
  have hkey : k ≠ Obj.state l := fun h => hk (h ▸ hlane)
  rwa [Work.laneState, Work.getN, Work.get_set_other _ _ _ _ hkey]

/-- PORT_DISCOVERY over a link that is UP. -/
theorem portDiscovery_reads {s : State} {p : Fin 32} (hactive : s.w.portActive p = true) (hpower : s.w.mode.lanesPowered = true)
    (hstate : s.w.getN (Obj.portState p) ≤ 1) (hup : s.w.linkUp p = true) (htxn : (s.w.port p).txn = none) (hrsl : s.w.portCxp p = false) :
    Does (.portDiscovery p) s (fun t => t.get (Obj.portState p) = 2 ∧
      t.sent = .message p (messageBlock 0 ((s.w.port p).msgNo % 256) 19 1) [] :: s.w.sent ∧ s.w.only t [.ports, .timers, .sent] ∧
      s.w.sameBut t [Obj.portState p]) := by
  have hlink := Work.linkUp_set (k := Obj.portState p) (by unfold lsUp; omega) 1 hup
  have hreads : portDiscovery p s.w = ((s.w.set (Obj.portState p) 1).set (Obj.portState p) 2).startTxn p .identify false 0 19 [] := by
    have hfree : ((s.w.set (Obj.portState p) 1).port p).txn = none := htxn
    simp only [portDiscovery, hactive, hpower, Nat.not_lt.mpr hstate, hlink, hfree]
    rfl
  refine does_of_onWork rfl ?_
  rw [hreads]
  refine ⟨?_, ?_, ?_, ?_⟩
  · rw [Work.get_startTxn, Work.get_set_same]
  · rw [Work.sent_startTxn (by exact hrsl)]
    rfl
  · exact Work.only_trans (s.w.only_set _ _ _) (Work.only_trans (Work.only_set _ _ _ _) (Work.only_startTxn _ _ _ _ _ _ _))
  · exact Work.sameBut_trans (s.w.sameBut_set _ (by simp))
      (Work.sameBut_trans (Work.sameBut_set _ _ (by simp)) fun k _ => Work.get_startTxn _ _ _ _ _ _ _ k)

theorem Work.only_returnCapacity (c : Cap) : w.only (w.returnCapacity c) [.run] := by
  unfold Work.returnCapacity
  dsimp only
  split
  · exact fun q hq => by cases q <;> simp [Part.same] at hq ⊢
  · exact fun q hq => by cases q <;> simp [Part.same] at hq ⊢

theorem Work.get_returnCapacity (c : Cap) (k : Nat) : (w.returnCapacity c).get k = w.get k := by
  unfold Work.returnCapacity
  dsimp only
  split <;> rfl

/-- RSL_MESSAGE that acknowledges the configuration of a camera without an exposure address. -/
theorem rslMessage_configures {s : State} {p : Fin 32} {b : BitVec 64} {data : List (BitVec 64)} {x : Txn}
    (hlive : s.w.portLive p false = true) (htxn : (s.w.port p).txn = some x) (huse : x.use = .configure) (htag : bitsOf b.toNat 24 8 = x.tag)
    (hack : bitsOf b.toNat 8 8 = 3) (haddr : s.w.confN (Obj.expAddr p) = 0) (hresuming : (s.w.port p).resuming = false)
    (hsuspended : (s.w.port p).suspended = false) (hexp : (s.w.port p).expWait = false) (hpass : (s.w.port p).passWait = none) :
    Does (.rslMessage p b data) s (fun t => t.get (Obj.portState p) = 4 ∧ (t.port p).txn = none ∧ s.w.only t [.ports, .timers, .run] ∧
      s.w.sameBut t [Obj.portState p]) := by
  obtain ⟨code, offer, hanswers⟩ := rslMessage_answers (data := data) hlive htxn htag hack
  let v := ((s.w.freed p .configure).set (Obj.portState p) 4).returnCapacity (.absent p)
  have hports : v.ports = (s.w.freed p .configure).ports := Work.only_returnCapacity _ _ .ports (by simp)
  have hport : v.port p = (s.w.freed p .configure).port p := by rw [Work.port, hports, Work.port]
  have hconf : v.confN (Obj.expAddr p) = 0 := by
    have := (Work.only_returnCapacity ((s.w.freed p .configure).set (Obj.portState p) 4) (.absent p) .conf (by simp)).1
    rw [← haddr, Work.confN, Work.conf, this]
    rfl
  have hdone : rslMessage p b data s.w = v := by
    have hsuspended' := (s.w.field_freed Port.suspended (fun _ => rfl) p .configure).trans hsuspended
    have hresuming' := (s.w.field_freed Port.resuming (fun _ => rfl) p .configure).trans hresuming
    rw [hanswers, Work.answer, huse]
    show (s.w.freed p .configure).discovered p = v
    rw [← hport] at hresuming'
    simp only [Work.discovered, hsuspended', Bool.false_eq_true, if_false]
    rw [show Work.returnCapacity _ _ = v from rfl]
    simp only [hresuming', Bool.false_eq_true, if_false, hconf, if_true]
    exact s.w.nextTxn_freed hports hexp hpass
  refine does_of_onWork rfl ?_
  rw [hdone]
  refine ⟨?_, ?_, ?_, ?_⟩
  · rw [Work.get_returnCapacity, Work.get_set_same]
  · have hp : (p : Nat) < s.w.ports.length := Work.port_lt_of_ne fun hdefault => by simp [hdefault] at htxn
    exact (congrArg Port.txn hport).trans (congrArg Port.txn (Work.port_updPort_same (s.w.stopTimer _) hp _))
  · exact Work.only_trans (Work.only_mono (s.w.only_freed p .configure) (by simp))
      (Work.only_trans (Work.only_set _ _ _ _) (Work.only_mono (Work.only_returnCapacity _ _) (by simp)))
  · exact Work.sameBut_trans (Work.sameBut_set (s.w.freed p .configure) _ (by simp)) fun k _ => Work.get_returnCapacity _ _ k

/-- DISCOVERY_ACCESS_TIMEOUT after 200 ms. -/
theorem discoveryAccessTimeout_fails {s : State} {p : Fin 32} (hexpired : s.w.expired (.discovery p) 200000000 = true) :
    Does (.discoveryAccessTimeout p) s (fun t => t.get (Obj.portState p) = 1 ∧ t.ports = upd s.w.ports p (fun q => { q with txn := none }) ∧
      s.w.only t [.ports, .timers] ∧ s.w.sameBut t [Obj.portState p]) := by
  have hfails : discoveryAccessTimeout p s.w = (s.w.freed p .identify).set (Obj.portState p) 1 := if_pos hexpired
  refine does_of_onWork rfl ?_
  rw [hfails]
  exact ⟨Work.get_set_same _ _ _, rfl, Work.only_trans (s.w.only_freed p .identify) (Work.only_set _ _ _ _),
    Work.sameBut_set (s.w.freed p .identify) 1 (by simp)⟩

/-! ### Pass-through (R168) -/

/-- The row of REG_CMD. -/
def regCmdRow : ObjRow := ⟨0x3003, 0x20, 32, 4, 4, "REG_CMD", .u8, .wo, .imm, .const 0, .codes [1, 2]⟩

theorem commandRow_regCmd (p : Fin 32) (write : Bool) : commandRow (Obj.regCmd p) (if write then 2 else 1) regCmdRow = true := by decide +revert

theorem regKeys_not_mem_results (p : Fin 32) : ∀ k ∈ [Obj.regAddr p, Obj.regLength p, Obj.regStatus p, Obj.portState p],
    k ∉ [Obj.overwritten, Obj.resultPcie, Obj.resultCoe, Obj.resultYalind] := by decide +revert

/-- A command with no rule against it is accepted, and acts. -/
theorem Work.command_accepted {key : Nat} {code : Int} {r : ObjRow} (hc : commandRow key code r = true) {w : Work} {p : Path}
    (hr : w.ready p = true) {chk : Work → Option Res} (hk : chk w = none) (eff : Work → Work) :
    ∃ a, w.command p key code chk eff = eff a ∧ w.obeys a p key (field (8 * r.typ.size) code) [] [] := by
  obtain ⟨hcheck, ha⟩ := Work.checkNum_of_commandRow hc hr
  exact ⟨_, w.writeNum_ready p key _ _ _ none r code hr hcheck hk, w.acceptNum_command p r key code _ hr ha⟩

/-- What a pass-through sends of REG_DATA. -/
def Work.passWords (w : Work) (p : Nat) (write : Bool) : List Nat := if write then bytesWords (w.blob (Obj.regData p)) else []

variable {w} in
/-- A pass-through past discovery with nothing before it shows REG_STATUS busy and is sent at once. -/
theorem Work.passThrough_sends {p : Nat} {write : Bool} (hp : p < w.ports.length) (htxn : (w.port p).txn = none)
    (hstate : 4 ≤ w.getN (Obj.portState p)) (hexp : (w.port p).expWait = false) (hrsl : w.portCxp p = false) :
    w.only (w.passThrough p write) [.ports, .timers, .sent] ∧ w.sameBut (w.passThrough p write) [Obj.regStatus p] ∧
      (w.passThrough p write).get (Obj.regStatus p) = 1 ∧
      (w.passThrough p write).sent = .message p (messageBlock (w.getN (Obj.regAddr p)) ((w.port p).msgNo % 256) (w.getN (Obj.regLength p) / 4)
        (if write then 2 else 1)) (wordBlocks (w.passWords p write)) :: w.sent := by
  let u := (w.set (Obj.regStatus p) 1).updPort p (fun q => { q with passWait := some write })
  let v := u.updPort p (fun q => { q with passWait := none })
  have hport : u.port p = { w.port p with passWait := some write } := Work.port_updPort_same (w.set (Obj.regStatus p) 1) hp _
  have hmsgNo : (v.port p).msgNo = (w.port p).msgNo :=
    (u.field_updPort Port.msgNo (f := fun q => { q with passWait := none }) (fun _ => rfl) p).trans (by rw [hport])
  have hkeys : Obj.regStatus p ≠ Obj.portState p := by
    unfold Obj.regStatus Obj.portState
    omega
  have hpast : 4 ≤ u.getN (Obj.portState p) := by
    rwa [Work.getN, show u.get _ = _ from Work.get_set_other _ _ _ _ hkeys]
  have hsends : w.passThrough p write = v.startTxn p (if write then .passWrite else .passRead) write (w.getN (Obj.regAddr p))
      (w.getN (Obj.regLength p) / 4) (w.passWords p write) := by
    have haddr : u.getN (Obj.regAddr p) = w.getN (Obj.regAddr p) := congrArg Int.toNat (w.get_set_other _ _ 1 (subKeys_ne (by decide)))
    have hlength : u.getN (Obj.regLength p) = w.getN (Obj.regLength p) := congrArg Int.toNat (w.get_set_other _ _ 1 (subKeys_ne (by decide)))
    rw [Work.passThrough, Work.nextTxn_of_pass (by rw [hport, htxn]) hpast (by rw [hport, hexp]) (by rw [hport]), haddr, hlength]
    rfl
  rw [hsends]
  refine ⟨?_, ?_, ?_, ?_⟩
  · exact Work.only_trans (w.only_set _ _ _) (Work.only_trans (Work.only_mono (Work.only_updPort _ p _) (by simp))
      (Work.only_trans (Work.only_mono (u.only_updPort p _) (by simp)) (v.only_startTxn _ _ _ _ _ _)))
  · exact Work.sameBut_trans (w.sameBut_set 1 (by simp)) fun k _ => v.get_startTxn _ _ _ _ _ _ k
  · exact (v.get_startTxn _ _ _ _ _ _ _).trans (w.get_set_same _ _)
  · rw [Work.sent_startTxn (by exact hrsl), hmsgNo]
    rfl

/-- REG_CMD over an RSL port past discovery with no message outstanding. -/
theorem regCmd_sends {c : Instr} {s : State} {path : Path} {p : Fin 32} {write : Bool}
    (hc : exec c s = onWork (fun w => w.command path (Obj.regCmd p) (if write then 2 else 1) (regCheck p write) (fun w => w.passThrough p write)) s)
    (hr : s.w.ready path = true) (hidle : s.w.get (Obj.regStatus p) ≠ 1) (hactive : s.w.portActive p = true)
    (hbootstrap : write = true → 0x1000 ≤ s.w.getN (Obj.regAddr p)) (hstate : 4 ≤ s.w.getN (Obj.portState p))
    (htxn : (s.w.port p).txn = none) (hexp : (s.w.port p).expWait = false) (hrsl : s.w.portCxp p = false) (hp : (p : Nat) < s.w.ports.length) :
    Does c s (fun t => s.w.obeys t path (Obj.regCmd p) (if write then 2 else 1) [.ports, .timers, .sent] [Obj.regStatus p] ∧
      t.get (Obj.regStatus p) = 1 ∧ t.sent = .message p (messageBlock (s.w.getN (Obj.regAddr p)) ((s.w.port p).msgNo % 256)
        (s.w.getN (Obj.regLength p) / 4) (if write then 2 else 1)) (wordBlocks (s.w.passWords p write)) :: s.w.sent) := by
  have hcheck : regCheck p write s.w = none := by
    cases write with
    | false => simp [regCheck, hidle, hactive]
    | true => simp [regCheck, hidle, hactive, hrsl, bootstrapEnd, hbootstrap]
  obtain ⟨a, hacts, hobeys⟩ := Work.command_accepted (commandRow_regCmd p write) hr hcheck (fun w => w.passThrough p write)
  have ⟨_, _, _, honly, hsame⟩ := hobeys
  have hkept : ∀ k ∈ [Obj.regAddr p, Obj.regLength p, Obj.regStatus p, Obj.portState p], a.get k = s.w.get k := fun k hk =>
    hsame k (by simpa using not_mem_acceptKeys (regKeys_not_mem_results p k hk))
  have hport : a.port p = s.w.port p := by rw [Work.port, show a.ports = s.w.ports from honly .ports (by decide), Work.port]
  have hwords : a.passWords p write = s.w.passWords p write := by
    rw [Work.passWords, Work.blob_congr (honly .blobs (by decide)), Work.passWords]
  have hcxp : a.portCxp p = false := by
    rw [← hrsl, Work.portCxp, Work.confN, Work.conf, (honly .conf (by decide)).1]
    rfl
  obtain ⟨hparts, hkeys, hbusy, hsent⟩ := Work.passThrough_sends (w := a) (p := p) (write := write)
    (by rwa [show a.ports = s.w.ports from honly .ports (by decide)]) (by rw [hport, htxn])
    (by rwa [Work.getN, hkept _ (by simp)]) (by rw [hport, hexp]) hcxp
  have hraw : field (8 * regCmdRow.typ.size) (if write then 2 else 1) = if write then 2 else 1 := by cases write <;> rfl
  rw [hraw] at hobeys
  refine does_of_onWork hc ?_
  rw [hacts]
  refine ⟨s.w.obeys_trans a _ path _ _ _ _ hobeys hparts hkeys (by decide) (by decide) fun k hk hmem => ?_, hbusy, ?_⟩
  · obtain rfl := List.mem_singleton.mp hmem
    exact regKeys_not_mem_results p _ (by simp) (List.mem_cons_of_mem _ (resultKey_mem hk))
  · rw [hsent, hport, hwords, show a.sent = s.w.sent from honly .sent (by decide), Work.getN, Work.getN, hkept _ (by simp), hkept _ (by simp)]
    rfl

/-! ### The end of a pass-through (R168) -/

/-- RSL_MESSAGE that acknowledges a read. -/
theorem rslMessage_reads {s : State} {p : Fin 32} {b : BitVec 64} {data : List (BitVec 64)} {x : Txn} (hlive : s.w.portLive p false = true)
    (htxn : (s.w.port p).txn = some x) (huse : x.use = .passRead) (htag : bitsOf b.toNat 24 8 = x.tag) (hack : bitsOf b.toNat 8 8 = 3)
    (hexp : (s.w.port p).expWait = false) (hpass : (s.w.port p).passWait = none) :
    Does (.rslMessage p b data) s (fun t => t.get (Obj.regStatus p) = 2 ∧
      t.blob (Obj.regData p) = wordsBytes (((blockWords data).take (bitsOf b.toNat 16 8 + 1)).take x.words) ∧
      t.ports = upd s.w.ports p (fun q => { q with txn := none }) ∧ s.w.only t [.ports, .timers, .blobs] ∧ s.w.sameBut t [Obj.regStatus p]) := by
  obtain ⟨code, offer, hanswers⟩ := rslMessage_answers (data := data) hlive htxn htag hack
  let v := (s.w.freed p .passRead).setBlob (Obj.regData p) (wordsBytes (((blockWords data).take (bitsOf b.toNat 16 8 + 1)).take x.words))
  have hdone : rslMessage p b data s.w = v.set (Obj.regStatus p) 2 := by
    rw [hanswers, Work.answer, huse]
    exact s.w.nextTxn_freed (use := .passRead) rfl hexp hpass
  refine does_of_onWork rfl ?_
  rw [hdone]
  refine ⟨Work.get_set_same _ _ _, Work.blob_setBlob _ _ _, rfl, ?_, ?_⟩
  · exact Work.only_trans (Work.only_mono (s.w.only_freed p .passRead) (by simp))
      (Work.only_trans (Work.only_mono (Work.only_setBlob _ _ _) (by simp)) (Work.only_set _ _ _ _))
  · exact v.sameBut_set 2 (by simp)

/-- CXP_CONTROL_ACK of a write, taken or refused. -/
theorem cxpControlAck_ends {s : State} {p : Fin 32} {x : Txn} (hlive : s.w.portLive p true = true) (htxn : (s.w.port p).txn = some x)
    (huse : x.use = .passWrite) (hexp : (s.w.port p).expWait = false) (hpass : (s.w.port p).passWait = none)
    (code : Nat) (ws : List Nat) (tags pixels depths lanes : Nat) (model serial : Bytes) :
    Does (.cxpControlAck p x.tag code ws tags pixels depths lanes model serial) s (fun t =>
      t.get (Obj.regStatus p) = (if code = 0 then 2 else 3) ∧ (code ≠ 0 → t.get (Obj.regResult p) = code) ∧
      t.ports = upd s.w.ports p (fun q => { q with txn := none }) ∧ s.w.only t [.ports, .timers] ∧
      s.w.sameBut t [Obj.regStatus p, Obj.regResult p]) := by
  let v := s.w.freed p .passWrite
  have hdone : cxpControlAck p x.tag code ws tags pixels depths lanes model serial s.w =
      if code = 0 then v.set (Obj.regStatus p) 2 else (v.set (Obj.regStatus p) 3).set (Obj.regResult p) code := by
    simp only [cxpControlAck, hlive, htxn, Work.answer, huse, Bool.not_true, Bool.false_eq_true, if_false, ne_eq, not_true, decide_eq_true_eq]
    by_cases hcode : code = 0
    · rw [if_pos hcode, if_pos hcode]
      exact s.w.nextTxn_freed (use := .passWrite) rfl hexp hpass
    · rw [if_neg hcode, if_neg hcode]
      exact s.w.nextTxn_freed (use := .passWrite) rfl hexp hpass
  have hfreed : s.w.only v [.ports, .timers] := s.w.only_freed p .passWrite
  refine does_of_onWork rfl ?_
  rw [hdone]
  by_cases hcode : code = 0
  · rw [if_pos hcode, if_pos hcode]
    exact ⟨Work.get_set_same _ _ _, fun hne => absurd hcode hne, rfl, Work.only_trans hfreed (Work.only_set _ _ _ _), v.sameBut_set 2 (by simp)⟩
  · rw [if_neg hcode, if_neg hcode]
    refine ⟨?_, fun _ => Work.get_set_same _ _ _, rfl, ?_, ?_⟩
    · rw [Work.get_set_other _ _ _ _ (subKeys_ne (by decide)), Work.get_set_same]
    · exact Work.only_trans hfreed (Work.only_trans (Work.only_set _ _ _ _) (Work.only_set _ _ _ _))
    · exact Work.sameBut_trans (v.sameBut_set 3 (by simp)) (Work.sameBut_set _ _ (by simp))

/-- REG_TIMEOUT after 200 ms. -/
theorem regTimeout_ends {s : State} {p : Fin 32} (hexpired : s.w.expired (.regCmd p) 200000000 = true) (hexp : (s.w.port p).expWait = false)
    (hpass : (s.w.port p).passWait = none) :
    Does (.regTimeout p) s (fun t => t.get (Obj.regStatus p) = 4 ∧ t.ports = upd s.w.ports p (fun q => { q with txn := none }) ∧
      s.w.only t [.ports, .timers] ∧ s.w.sameBut t [Obj.regStatus p]) := by
  have hdone : regTimeout p s.w = (s.w.freed p .passRead).set (Obj.regStatus p) 4 :=
    (if_pos hexpired).trans (s.w.nextTxn_freed (use := .passRead) rfl hexp hpass)
  refine does_of_onWork rfl ?_
  rw [hdone]
  exact ⟨Work.get_set_same _ _ _, rfl, Work.only_trans (s.w.only_freed p .passRead) (Work.only_set _ _ _ _),
    Work.sameBut_set (s.w.freed p .passRead) 4 (by simp)⟩

/-- Settles O26: discovery, a pass-through and the end of each are lemmas over what a transaction begun and one ended change. -/
theorem camerasAreDiscoveredAndRead : Obligations.CamerasAreDiscoveredAndRead :=
  ⟨fun _ _ => portDiscovery_reads, fun _ _ _ _ _ => rslMessage_configures, fun _ _ => discoveryAccessTimeout_fails,
    fun _ _ _ hr hidle hactive => regCmd_sends (write := false) rfl hr hidle hactive nofun,
    fun _ _ _ hr hidle hactive haddr => regCmd_sends (write := true) rfl hr hidle hactive fun _ => haddr,
    fun _ _ _ _ _ => rslMessage_reads,
    fun _ _ code tags pixels depths lanes ws model serial _ hlive htxn huse hexp hpass =>
      cxpControlAck_ends hlive htxn huse hexp hpass code ws tags pixels depths lanes model serial,
    fun _ _ => regTimeout_ends⟩

end Sys2Proof.Machine
end

section
/-! The settings of line correction (R172 to R186): what the swap of a set shows, what a response table that is accepted stores, and the value that
the stages make of a pixel. -/
namespace Sys2Proof.Machine
variable (w : Work)

/-! ### Storing in a port's calibration -/

theorem Work.only_updCal (p : Nat) (f : PortCal → PortCal) : w.only (w.updCal p f) [.cal] := by
  intro q hq
  cases q <;> simp [Part.same, Work.updCal] at hq ⊢

/-- The set that governs a frame rests on the sets of the port alone. -/
theorem Work.setAt_updCal {f : PortCal → PortCal} (hf : ∀ c, (f c).sets = c.sets) (p n : Nat) : (w.updCal p f).setAt p n = w.setAt p n := by
  have hsets : ((w.updCal p f).calOf p).sets = (w.calOf p).sets := by
    rw [Work.calOf, Work.updCal, nth_upd]
    split
    · exact hf _
    · rfl
  simp only [Work.setAt, hsets]

/-! ### The swap of a set (R186) -/

/-- The objects that show a port's set in force and the swap of it. -/
def swapKeys (p : Nat) : List Nat :=
  [Obj.activeGen p, Obj.deadPixels p, Obj.activeFlags p, Obj.pendingGen p, Obj.switchFrame p, Obj.storeUsed (dieOfPort p)]

/-- A port's set of the present frame is shown as the one in force, with none pending. -/
def Work.showSwapped (p : Nat) : Work :=
  (((w.showSet p w.frame).set (Obj.pendingGen p) (w.setAt p w.frame).gen).set (Obj.switchFrame p) noFrame).storeUse (dieOfPort p)

theorem Work.only_showSwapped (p : Nat) (ps : List Part) : w.only (w.showSwapped p) ps :=
  Work.only_trans (Work.only_trans (Work.only_trans (w.only_set _ _ _) (Work.only_set _ _ _ _)) (Work.only_set _ _ _ _))
    (Work.only_trans (Work.only_trans (Work.only_set _ _ _ _) (Work.only_set _ _ _ _)) (Work.only_set _ _ _ _))

theorem Work.sameBut_showSwapped (p : Nat) : w.sameBut (w.showSwapped p) (swapKeys p) := by
  intro k hk
  simp only [swapKeys, List.mem_cons, List.not_mem_nil, or_false, not_or] at hk
  obtain ⟨hactive, hdead, hflags, hpending, hswitch, hused⟩ := hk
  simp only [Work.showSwapped, Work.showSet, Work.storeUse, Work.get_set, Ne.symm hactive, Ne.symm hdead, Ne.symm hflags, Ne.symm hpending,
    Ne.symm hswitch, Ne.symm hused, if_false]

/-- STORE_USED is none of the objects of a port's set. -/
theorem storeUsed_ne (d p : Nat) : ∀ k ∈ [Obj.activeGen p, Obj.pendingGen p, Obj.switchFrame p], Obj.storeUsed d ≠ k := by
  simp only [List.mem_cons, List.not_mem_nil, or_false, forall_eq_or_imp, forall_eq, Obj.storeUsed, Obj.activeGen, Obj.pendingGen,
    Obj.switchFrame]
  omega

theorem Work.get_showSwapped (p : Nat) :
    (w.showSwapped p).get (Obj.activeGen p) = (w.setAt p w.frame).gen ∧ (w.showSwapped p).get (Obj.pendingGen p) = (w.setAt p w.frame).gen ∧
      (w.showSwapped p).get (Obj.switchFrame p) = noFrame := by
  have hused := storeUsed_ne (dieOfPort p) p
  have hflags : Obj.activeFlags p ≠ Obj.activeGen p := by
    unfold Obj.activeFlags Obj.activeGen
    omega
  simp only [Work.showSwapped, Work.showSet, Work.storeUse]
  refine ⟨?_, ?_, ?_⟩
  · rw [Work.get_set_other _ _ _ _ (hused _ (by simp)), Work.get_set_other _ _ _ _ (subKeys_ne (by decide)),
      Work.get_set_other _ _ _ _ (subKeys_ne (by decide)), Work.get_set_other _ _ _ _ hflags,
      Work.get_set_other _ _ _ _ (subKeys_ne (by decide)), Work.get_set_same]
  · rw [Work.get_set_other _ _ _ _ (hused _ (by simp)), Work.get_set_other _ _ _ _ (subKeys_ne (by decide)), Work.get_set_same]
  · rw [Work.get_set_other _ _ _ _ (hused _ (by simp)), Work.get_set_same]

/-- CORR_SWAP at or after the frame of the pending set. -/
theorem corrSwap_swaps {s : State} {p : Fin 32} (hpending : s.w.getN (Obj.switchFrame p) ≠ noFrame)
    (hbegun : s.w.getN (Obj.switchFrame p) ≤ s.w.frame) :
    Does (.corrSwap p) s (fun t =>
      t.get (Obj.activeGen p) = (s.w.setAt p s.w.frame).gen ∧ t.get (Obj.pendingGen p) = (s.w.setAt p s.w.frame).gen ∧
      t.get (Obj.switchFrame p) = noFrame ∧ s.w.only t [.cal] ∧ t.cal = upd s.w.cal p (fun c => { c with badWords := [] }) ∧
      s.w.sameBut t (swapKeys p)) := by
  let v := s.w.updCal p fun c => { c with badWords := [] }
  have hdone : corrSwap p s.w = v.showSwapped p := if_neg (by simp [hpending, Nat.not_lt.mpr hbegun])
  have hset : v.setAt p v.frame = s.w.setAt p s.w.frame := s.w.setAt_updCal (f := fun c => { c with badWords := [] }) (fun _ => rfl) p s.w.frame
  obtain ⟨hactive, hgen, hswitch⟩ := v.get_showSwapped p
  rw [hset] at hactive hgen
  refine does_of_onWork rfl ?_
  rw [hdone]
  exact ⟨hactive, hgen, hswitch, Work.only_trans (s.w.only_updCal p _) (v.only_showSwapped p _), v.only_showSwapped p [] .cal (by simp),
    v.sameBut_showSwapped p⟩

/-! ### Response tables (R182) -/

/-- The row of LUT_TABLE. -/
def lutTableRow : ObjRow := ⟨0x4100, 0x1, 256, 1, 1, "LUT_TABLE", .domain, .rw, .span, .const 0, .bytes 2058 2058 1⟩

theorem lutTable_row : ∀ (d : Fin 4) (n : Fin 64), findRow (Obj.lutTable (64 * d + n) / 256) (Obj.lutTable (64 * d + n) % 256) = some lutTableRow := by
  decide

theorem lutTable_ne_groupCtrl (i : Nat) : (List.range 3).all (fun g => Obj.lutTable i != Obj.groupCtrl g) = true := by
  simp only [List.all_eq_true, bne_iff_ne, List.mem_range, Obj.lutTable, Obj.groupCtrl]
  intro g hg
  omega

theorem Work.only_addBlobChange (n k : Nat) (b : Bytes) : w.only (w.addBlobChange n k b) [.changes] := by
  intro q hq
  cases q <;> simp [Part.same] at hq ⊢

/-- Bytes that are accepted with the class SPAN: stored, and recorded from frame n on. -/
def Work.tookSpan (p : Path) (key : Nat) (b : Bytes) (ef n : Nat) : Work :=
  (((w.tallyBlob p key b ef).setBlob key b).addBlobChange n key b).setResult p (w.resOf ef)

section
variable (p : Path) (key : Nat) (b : Bytes) (ef n : Nat)

theorem Work.only_tookSpan : w.only (w.tookSpan p key b ef n) [.journal, .lastRes, .blobs, .changes] :=
  Work.only_trans (Work.only_mono (w.only_tallyBlob p key b ef) (by simp)) (Work.only_trans (Work.only_mono (Work.only_setBlob _ key b) (by simp))
    (Work.only_trans (Work.only_mono (Work.only_addBlobChange _ n key b) (by simp)) (Work.only_mono (Work.only_setResult _ p _) (by simp))))

theorem Work.sameBut_tookSpan : w.sameBut (w.tookSpan p key b ef n) (acceptKeys p) := by
  intro k hk
  simp only [acceptKeys, List.mem_cons, not_or] at hk
  obtain ⟨hover, hresult⟩ := hk
  exact (Work.sameBut_setResult _ p _ k hresult).trans (w.sameBut_tallyBlob p key b ef k (by simpa using hover))

theorem Work.blob_tookSpan : (w.tookSpan p key b ef n).blob key = b :=
  (Work.blob_congr (Work.setResult_d_blobs ..) key).trans (Work.blob_setBlob _ key b)

theorem Work.head_tookSpan : (w.tookSpan p key b ef n).journal.head = w.journal.head + 1 :=
  (congrArg Journal.head (Work.setResult_journal ..)).trans (w.tallyBlob_head p key b ef)

theorem Work.blobAt_tookSpan {m : Nat} (h : n ≤ m) : (w.tookSpan p key b ef n).blobAt key m = b :=
  (Work.blobAt_congr (Work.setResult_d_blobChanges ..) key m).trans ((Work.blobAt_addBlobChange _ n key b m).trans (if_pos h))

end

section
variable {w} {p : Path} {key : Nat} {b : Bytes} {r : ObjRow} (hr : w.ready p = true)
include hr

/-- Bytes that an object of a row admits, over a path that is ready, pass the checks of the dictionary. -/
theorem Work.checkBlob_rw (hf : findRow (key / 256) (key % 256) = some r) (hg : foreignGroup p key = false) (ha : r.access = .rw)
    (hb : r.typ.isBlob = true) (hlen : r.rng.checkLen b.length = none) : w.checkBlob p key b = .ok r := by
  simp [Work.checkBlob, Work.checkAccess_of_ready hr hf hg, ha, hb, hlen, Work.checkMode]

/-- Bytes that pass their checks are accepted, and the write acts. -/
theorem Work.writeBlob_ready (hc : w.checkBlob p key b = .ok r) {chk : Work → Bytes → Option Res} (hk : chk w b = none)
    (eff : Bytes → Work → Work) : w.writeBlob p key b chk eff = eff b (w.acceptBlob p r key b (w.effectFrame r.effect)) := by
  have hpropose : w.mustPropose p = false := by simp [Work.mustPropose, Work.unpaired_of_ready hr]
  simp [Work.writeBlob, Work.dictOpen_of_ready hr, hc, hk, hpropose]

/-- A class of SPAN governs at once on one die, and from the next frame on otherwise (R43). -/
theorem Work.acceptBlob_of_span (ha : r.access ≠ .wo) (he : r.effect = .span) :
    w.acceptBlob p r key b (w.effectFrame r.effect) =
      w.tookSpan p key b (w.effectFrame .span) (if w.spanIsFrame then w.frame + 1 else 0) := by
  have hunpaired : (w.tallyBlob p key b (w.effectFrame .span)).pairedPrimary = false :=
    (Work.pairedPrimary_of_sameBut (w.sameBut_tallyBlob p key b _) (by decide)).trans (Work.unpaired_of_ready hr)
  have hframe : ((w.tallyBlob p key b (w.effectFrame .span)).setBlob key b).frame = w.frame :=
    Work.frame_of_only (Work.only_trans (Work.only_mono (w.only_tallyBlob p key b _) (by simp)) (Work.only_mono (Work.only_setBlob _ key b) (by simp)))
      (ps := [.journal, .blobs]) (by decide) (by decide)
  simp only [Work.acceptBlob, he, Work.sendEntry_of_unpaired hunpaired, beq_eq_false_iff_ne.mpr ha, Bool.false_eq_true, if_false, hframe,
    Work.tookSpan]
  congr 2
  unfold Work.effectFrame
  cases w.spanIsFrame <;> simp

end

/-- A table with its MAGIC and CRC, over a path that is ready. -/
theorem lutTableWrite_stores {s : State} {path : Path} {d : Fin 4} {n : Fin 64} {b : Bytes} (hr : s.w.ready path = true) (hlen : b.length = 2058)
    (hmagic : leAt b 0 4 = 0x54554C46) (hcrc : leAt b 2054 4 = crc32 (b.take 2054)) :
    Does (.lutTableWrite path d n b) s (fun t =>
      t.blob (Obj.lutTable (64 * d + n)) = b ∧ t.journal.head = s.w.journal.head + 1 ∧ s.w.only t [.journal, .lastRes, .blobs, .changes] ∧
      s.w.sameBut t (acceptKeys path) ∧ ∀ f, s.w.frame + 2 ≤ f → t.blobAt (Obj.lutTable (64 * d + n)) f = b) := by
  let key := Obj.lutTable (64 * d + n)
  have hcheck : s.w.checkBlob path key b = .ok lutTableRow :=
    Work.checkBlob_rw hr (lutTable_row d n) (foreignGroup_of_ne (lutTable_ne_groupCtrl _) path) rfl rfl (by simp [lutTableRow, Rng.checkLen, hlen])
  have hformat : lutCheck s.w b = none := if_neg (by simp [hmagic, hcrc])
  have hdone : lutTableWrite path d n b s.w =
      s.w.tookSpan path key b (s.w.effectFrame .span) (if s.w.spanIsFrame then s.w.frame + 1 else 0) :=
    (Work.writeBlob_ready hr hcheck hformat _).trans (Work.acceptBlob_of_span hr (by decide) rfl)
  refine does_of_onWork rfl ?_
  rw [hdone]
  refine ⟨Work.blob_tookSpan .., Work.head_tookSpan .., s.w.only_tookSpan _ _ _ _ _, s.w.sameBut_tookSpan _ _ _ _ _,
    fun f hf => Work.blobAt_tookSpan _ _ _ _ _ _ ?_⟩
  split <;> omega

/-! ### The value of a pixel (R172 to R174) -/

theorem nth_map_upTo {α : Type} (d : α) (f : Nat → α) {n i : Nat} (hi : i < n) : nth d ((upTo n).map f) i = f i := by
  rw [nth, List.getD_eq_getElem?_getD, List.getElem?_map, upTo, List.getElem?_range hi]
  rfl

/-- With nothing bypassed, no store error, an empty map and no table, a pixel leaves with the offset and the gain of its word. -/
theorem nth_correctLine {c : CalSet} {px : List Nat} {i : Nat} (hmap : c.map = []) (hi : i < px.length) (tag f b dgain fillX : Nat) :
    nth 0 (correctLine c tag f b dgain 0 none [] (fun _ => 0) fillX px).ys i =
      (clampInt 0 65535 (((((nth 0 px i * 2 ^ (16 - b) : Nat) : Int) - (c.coef tag f i).1) * (c.coef tag f i).2 * dgain + 2 ^ 25) / 2 ^ 26)).toNat := by
  have hused : ∀ n, bitOf 0 n = false := Nat.zero_testBit
  have hlisted : c.mapOf tag = [] := by simp [CalSet.mapOf, hmap]
  simp only [correctLine, hused, hlisted, List.contains_nil, Bool.false_eq_true, if_false, List.filter_nil, List.find?_nil, List.map_map,
    Function.comp_def]
  rw [nth_map_upTo _ _ hi, nth_map_upTo _ _ hi, gainOf, hused, if_neg Bool.false_ne_true, align]

/-- Settles O29: the swap shows the set of the present frame, a table is accepted under SPAN, and a pixel that nothing touches is its word's line. -/
theorem correctionSettingsSwap : Obligations.CorrectionSettingsSwap :=
  ⟨fun _ _ => corrSwap_swaps, fun _ _ _ _ _ => lutTableWrite_stores, fun _ tag f b dgain fillX _ _ hmap hi =>
    nth_correctLine hmap hi tag f b dgain fillX⟩

end Sys2Proof.Machine
end

section
/-! The pipe of line correction (R171, R184, R191): what the taps and the output buffer change, how a good line and a held one are packed, and the line
at the head of a port's FIFO. -/
namespace Sys2Proof.Machine
variable (w : Work)

/-! ### The taps -/

theorem Work.rawTap_of_ne {p : Nat} (h : w.getN (Obj.pcalState p) ≠ 3) (r : RxLine) : w.rawTap p r = w := by
  have hne : w.get (Obj.pcalState p) ≠ 3 := fun heq => h (by rw [Work.getN, heq]; rfl)
  simp [Work.rawTap, hne]

/-- The statistics tap changes the statistics alone. -/
theorem Work.statTap_eq (p : Nat) (r : RxLine) (line : Nat) (ys dead : List Nat) (gen : Nat) (setting : List Nat) :
    ∃ st, w.statTap p r line ys dead gen setting = { w with stats := st } := by
  unfold Work.statTap
  split
  · exact ⟨w.stats, rfl⟩
  · exact ⟨_, rfl⟩

theorem Work.only_stats (st : List StatAcc) : w.only { w with stats := st } [.stats] := by
  intro q hq
  cases q <;> simp [Part.same] at hq ⊢

/-! ### The output buffer of a die (R191) -/

theorem Work.only_fuller (x : List FullerDie) : w.only { w with fuller := x } [.fuller] := by
  intro q hq
  cases q <;> simp [Part.same] at hq ⊢

section
variable (p : Nat) (q : Packed) (n : Nat)

theorem Work.only_outPush : w.only (w.outPush p q n) [.fuller] :=
  Work.only_trans (w.only_fuller _) (Work.only_peak _ _ _ _)

theorem Work.sameBut_outPush : w.sameBut (w.outPush p q n) [Obj.outBufPeak (dieOfPort p)] :=
  Work.sameBut_peak _ _ (by simp)

theorem Work.outq_outPush (hdie : dieOfPort p < w.fuller.length) :
    (nth {} (w.outPush p q n).fuller (dieOfPort p)).outq = (nth {} w.fuller (dieOfPort p)).outq ++ [q] := by
  simp only [Work.outPush, Work.peak_fuller]
  rw [nth_upd, if_pos ⟨rfl, hdie⟩]

end

/-! ### A corrected line (R171 to R185) -/

section
variable (p : Nat) (r : RxLine) (l : Nat)

/-- FILL of the frame of a web line, aligned by stage 1. -/
def Work.fillOf : Nat := align (w.confN (Obj.portDepth p)) (w.valueAtN (Obj.fill p) (w.frameOf l))

/-- What the stages make of a line without a store error, under the settings that govern its frame. -/
def Work.stagesOf : Corrected :=
  correctLine (w.setAt p (w.frameOf l)) r.tag r.field (w.confN (Obj.portDepth p)) (w.valueAtN (Obj.dgain p r.field) (w.frameOf l))
    (w.valueAtN (Obj.corrBypass p) (w.frameOf l)) (w.lutOf p r.tag r.field (w.frameOf l)).2 [] (fun _ => 0) (w.fillOf p l) r.pixels

/-- The descriptor of such a line. -/
def Work.descOf : LineDesc :=
  { line := l, valid := r.valid, gen := r.gen % 65536, port := p, tag := r.tag, field := r.field, state := r.state, repeatOf := 0,
    corrGen := (w.setAt p (w.frameOf l)).gen, lut := (w.lutOf p r.tag r.field (w.frameOf l)).1,
    bypass := w.valueAtN (Obj.corrBypass p) (w.frameOf l), outDepth := outDepthCode (w.packBitsOf p), storeErr := false,
    uncal := !(w.setAt p (w.frameOf l)).flat || w.valueAtN (Obj.corrBypass p) (w.frameOf l) ≠ 0, dead := !(w.stagesOf p r l).dead.isEmpty,
    clipped := (w.stagesOf p r l).clips ≠ 0 }

/-- Such a line packed, with FILL beyond its valid pixels. -/
def Work.packedOf : Packed :=
  ⟨r.k, w.sensorOf p r.tag, w.descOf p r l, packLine (w.packBitsOf p)
    ((w.stagesOf p r l).ys ++ List.replicate (w.tagPx p r.tag - (w.stagesOf p r l).ys.length) (w.fillOf p l)), (w.stagesOf p r l).dead⟩

/-- The counts of a line without a store error. -/
def Work.countLine : Work :=
  ((w.bump (Obj.storeCorr p) 0).bump (Obj.storeUncorr p) 0).bump (Obj.clipHigh p) (w.stagesOf p r l).clips

/-- The line tapped for the statistics after it is counted. -/
def Work.tapLine : Work :=
  (w.countLine p r l).statTap p r l (w.stagesOf p r l).ys (w.stagesOf p r l).dead (w.setAt p (w.frameOf l)).gen
    [(w.setAt p (w.frameOf l)).gen, w.valueAtN (Obj.dgain p r.field) (w.frameOf l), (w.lutOf p r.tag r.field (w.frameOf l)).1,
      w.valueAtN (Obj.corrBypass p) (w.frameOf l)]

theorem Work.only_countLine (ps : List Part) : w.only (w.countLine p r l) ps :=
  Work.only_trans (w.only_bump _ _ _) (Work.only_trans (Work.only_bump _ _ _ _) (Work.only_bump _ _ _ _))

theorem Work.sameBut_countLine : w.sameBut (w.countLine p r l) [Obj.clipHigh p, Obj.storeCorr p, Obj.storeUncorr p] :=
  Work.sameBut_trans (w.sameBut_bump _ (by simp)) (Work.sameBut_trans (Work.sameBut_bump _ _ (by simp)) (Work.sameBut_bump _ _ (by simp)))

end

theorem upd_of_id {α : Type} {f : α → α} (h : ∀ x, f x = x) (xs : List α) (n : Nat) : upd xs n f = xs := by
  induction xs generalizing n with
  | nil => cases n <;> rfl
  | cons x xs ih => cases n <;> simp [upd, h, ih]

/-- A line that meets no store error, old or new, is counted, tapped for the statistics and packed. -/
theorem Work.fullLine_clean {p : Nat} (hgood : (w.calOf p).badWords = []) (r : RxLine) (l : Nat) :
    ∃ st, w.fullLine p r l 0 [] = Work.outPush { w.countLine p r l with stats := st } p (w.packedOf p r l) (w.tagPx p r.tag) := by
  have hnone : w.updCal p (fun c => { c with badWords := c.badWords ++ [].filter fun x => !c.badWords.contains x }) = w := by
    rw [Work.updCal, upd_of_id fun c => by rw [List.filter_nil, List.append_nil]]
  let v := w.tapLine p r l
  have hpiped : w.fullLine p r l 0 [] = v.outPush p { w.packedOf p r l with
      sensor := v.sensorOf p r.tag
      data := packLine (w.packBitsOf p)
        ((w.stagesOf p r l).ys ++ List.replicate (v.tagPx p r.tag - (w.stagesOf p r l).ys.length) (w.fillOf p l)) } (v.tagPx p r.tag) := by
    unfold Work.fullLine
    simp only [hnone, hgood]
    rfl
  obtain ⟨st, htap⟩ : ∃ st, v = { w.countLine p r l with stats := st } := (w.countLine p r l).statTap_eq p r l _ _ _ _
  exact ⟨st, by rw [hpiped, htap]; rfl⟩

/-! ### A line that is held (R184) -/

/-- A line of STATE 3 to 7 that repeats none, packed: FILL aligned by stage 1. -/
def Work.heldOf (p : Nat) (r : RxLine) (l : Nat) : Packed :=
  ⟨r.k, w.sensorOf p r.tag,
    { line := l, valid := 0, gen := r.gen % 65536, port := p, tag := r.tag, field := r.field, state := r.state, repeatOf := 0,
      outDepth := outDepthCode (w.packBitsOf p) },
    packLine (w.packBitsOf p) (List.replicate (w.tagPx p r.tag) (w.fillOf p l)), []⟩

theorem Work.heldLine_fills (p : Nat) {r : RxLine} (hrep : r.repeatOf = 0) (l : Nat) :
    ∃ st, w.heldLine p r l = Work.outPush { w with stats := st } p (w.heldOf p r l) (w.tagPx p r.tag) := by
  obtain ⟨st, htap⟩ := w.statTap_eq p r l [] [] 0 []
  refine ⟨st, ?_⟩
  simp only [Work.heldLine, htap, hrep, if_true]
  rfl

/-! ### FULLER_LINE -/

/-- The line at the head of a port's FIFO has left it and stands, packed as q, last in the die's output buffer. -/
def Work.pipes (a t : Work) (p : Nat) (rest : List RxLine) (q : Packed) : Prop :=
  t.ports = upd a.ports p (fun x => { x with rx := rest }) ∧
    (nth {} t.fuller (dieOfPort p)).outq = (nth {} a.fuller (dieOfPort p)).outq ++ [q]

theorem Work.pipes_outPush {a v : Work} {p : Nat} {rest : List RxLine} (hports : v.ports = upd a.ports p (fun x => { x with rx := rest }))
    (hfuller : v.fuller = a.fuller) (hdie : dieOfPort p < a.fuller.length) (q : Packed) (n : Nat) : a.pipes (v.outPush p q n) p rest q := by
  refine ⟨(v.only_outPush p q n .ports (by simp)).trans hports, ?_⟩
  rw [v.outq_outPush p q n (by rwa [hfuller]), hfuller]

section
variable {s : State} {p : Fin 32} {r : RxLine} {rest : List RxLine}

/-- With room in the output buffer and no calibration that sums, the line at the head of the FIFO goes past the raw tap. -/
theorem fullerLine_takes {w : Work} {l c : Nat} {bad : List Nat} (hrx : (w.port p).rx = r :: rest) (hline : r.line = some l)
    (hroom : w.outFill (dieOfPort p) + w.lineBytes p r.tag ≤ 262144) (hcal : w.getN (Obj.pcalState p) ≠ 3) :
    fullerLine p c bad w = if 3 ≤ r.state then (w.updPort p fun q => { q with rx := rest }).heldLine p r l
      else (w.updPort p fun q => { q with rx := rest }).fullLine p r l c bad := by
  have htap : (w.updPort p fun q => { q with rx := rest }).rawTap p r = w.updPort p fun q => { q with rx := rest } :=
    Work.rawTap_of_ne (w.updPort p fun q => { q with rx := rest }) hcal r
  simp only [fullerLine, hrx, Nat.not_lt.mpr hroom, if_false, htap, hline]

/-- FULLER_LINE on a line of STATE 0 to 2 that meets no store error. -/
theorem fullerLine_corrects {l : Nat} (hrx : (s.w.port p).rx = r :: rest) (hline : r.line = some l) (hstate : r.state < 3)
    (hroom : s.w.outFill (dieOfPort p) + s.w.lineBytes p r.tag ≤ 262144) (hgood : (s.w.calOf p).badWords = [])
    (hdie : dieOfPort p < s.w.fuller.length) (hcal : s.w.getN (Obj.pcalState p) ≠ 3) :
    Does (.fullerLine p 0 []) s (fun t =>
      s.w.pipes t p rest (s.w.packedOf p r l) ∧ s.w.only t [.ports, .cal, .fuller, .stats] ∧
      s.w.sameBut t [Obj.clipHigh p, Obj.storeCorr p, Obj.storeUncorr p, Obj.outBufPeak (dieOfPort p)]) := by
  let v := s.w.updPort p fun q => { q with rx := rest }
  obtain ⟨st, hfull⟩ := v.fullLine_clean (p := p) hgood r l
  have hdone : fullerLine p 0 [] s.w = Work.outPush { v.countLine p r l with stats := st } p (s.w.packedOf p r l) (v.tagPx p r.tag) :=
    ((fullerLine_takes hrx hline hroom hcal).trans (if_neg (Nat.not_le.mpr hstate))).trans hfull
  refine does_of_onWork rfl ?_
  rw [hdone]
  refine ⟨Work.pipes_outPush (v := { v.countLine p r l with stats := st }) rfl rfl hdie _ _, ?_, ?_⟩
  · exact Work.only_trans (Work.only_mono (s.w.only_updPort p _) (by simp)) (Work.only_trans (v.only_countLine p r l _)
      (Work.only_trans (Work.only_mono (Work.only_stats _ st) (by simp)) (Work.only_mono (Work.only_outPush _ p _ _) (by simp))))
  · exact Work.sameBut_trans (Work.sameBut_mono (v.sameBut_countLine p r l) (by simp)) (Work.sameBut_mono (Work.sameBut_outPush _ p _ _) (by simp))

/-- FULLER_LINE on a line of STATE 3 to 7 that repeats none. -/
theorem fullerLine_fills {l : Nat} (hrx : (s.w.port p).rx = r :: rest) (hline : r.line = some l) (hstate : 3 ≤ r.state) (hrep : r.repeatOf = 0)
    (hroom : s.w.outFill (dieOfPort p) + s.w.lineBytes p r.tag ≤ 262144) (hdie : dieOfPort p < s.w.fuller.length)
    (hcal : s.w.getN (Obj.pcalState p) ≠ 3) :
    Does (.fullerLine p 0 []) s (fun t =>
      s.w.pipes t p rest (s.w.heldOf p r l) ∧ s.w.only t [.ports, .fuller, .stats] ∧ s.w.sameBut t [Obj.outBufPeak (dieOfPort p)]) := by
  let v := s.w.updPort p fun q => { q with rx := rest }
  obtain ⟨st, hheld⟩ := v.heldLine_fills p hrep l
  have hdone : fullerLine p 0 [] s.w = Work.outPush { v with stats := st } p (s.w.heldOf p r l) (v.tagPx p r.tag) :=
    ((fullerLine_takes hrx hline hroom hcal).trans (if_pos hstate)).trans hheld
  refine does_of_onWork rfl ?_
  rw [hdone]
  refine ⟨Work.pipes_outPush (v := { v with stats := st }) rfl rfl hdie _ _, ?_, Work.sameBut_outPush { v with stats := st } p _ _⟩
  exact Work.only_trans (Work.only_mono (s.w.only_updPort p _) (by simp))
    (Work.only_trans (Work.only_mono (v.only_stats st) (by simp)) (Work.only_mono (Work.only_outPush _ p _ _) (by simp)))

theorem counterMax_dieStallClocks : ∀ d : Fin 4, counterMax (Obj.dieStallClocks d) = 0xFFFFFFFFFFFFFFFF := by decide

theorem dieOfPort_lt (p : Fin 32) : dieOfPort p < 4 := by
  unfold dieOfPort
  omega

/-- FULLER_LINE with the output buffer full: the line stays, with whatever store errors it meets. -/
theorem fullerLine_stalls (hrx : (s.w.port p).rx = r :: rest) (hfull : s.w.outFill (dieOfPort p) + s.w.lineBytes p r.tag > 262144)
    (c : Nat) (bad : List Nat) :
    Does (.fullerLine p c bad) s (fun t =>
      t.get (Obj.dieStallClocks (dieOfPort p)) = min (s.w.get (Obj.dieStallClocks (dieOfPort p)) + 1) 0xFFFFFFFFFFFFFFFF ∧ s.w.only t [] ∧
      s.w.sameBut t [Obj.dieStallClocks (dieOfPort p)]) := by
  have hdone : fullerLine p c bad s.w = s.w.bump (Obj.dieStallClocks (dieOfPort p)) := by
    simp only [fullerLine, hrx]
    exact if_pos hfull
  refine does_of_onWork rfl ?_
  rw [hdone]
  refine ⟨?_, s.w.only_bump _ _ _, s.w.sameBut_bump _ (by simp)⟩
  rw [Work.get_bump, if_pos rfl, counterMax_dieStallClocks ⟨_, dieOfPort_lt p⟩]
  rfl

end

end Sys2Proof.Machine
end

section
/-! The publication of a packed line (R192): the write into the ring (R22, R398, R405) reaches the memory controller and PC_STATE alone. -/
namespace Sys2Proof.Machine
variable (w : Work)

/-- A change of the memory controller and of PC_STATE of pseudo-channels, and of nothing else. -/
def Work.writesRing (a b : Work) : Prop := a.only b [.hbm] ∧ ∀ k, (∀ n, Obj.pcState n ≠ k) → b.get k = a.get k

theorem Work.writesRing_refl : w.writesRing w := ⟨w.only_refl _, fun _ _ => rfl⟩

theorem Work.writesRing_trans {a b c : Work} (hab : a.writesRing b) (hbc : b.writesRing c) : a.writesRing c :=
  ⟨Work.only_trans hab.1 hbc.1, fun k hk => (hbc.2 k hk).trans (hab.2 k hk)⟩

theorem Work.writesRing_foldl {α : Type} {f : Work → α → Work} (hf : ∀ (v : Work) (x : α), v.writesRing (f v x)) (xs : List α) :
    w.writesRing (xs.foldl f w) :=
  List.foldlRecOn xs f w.writesRing_refl fun v hv x _ => Work.writesRing_trans hv (hf v x)

theorem Work.writesRing_hbm (h : Hbm) : w.writesRing { w with hbm := h } :=
  ⟨fun q hq => by cases q <;> simp [Part.same] at hq ⊢, fun _ _ => rfl⟩

theorem Work.writesRing_pcState (n : Nat) (v : Int) : w.writesRing (w.set (Obj.pcState n) v) :=
  ⟨w.only_set _ _ _, fun k hk => w.get_set_other _ k v (hk n)⟩

theorem Work.writesRing_newRow (k : Nat) : w.writesRing (w.newRow k) := by
  unfold Work.newRow
  split
  · exact w.writesRing_refl
  · exact w.writesRing_hbm _

theorem Work.writesRing_rowsTo (k : Nat) : w.writesRing (w.rowsTo k) := by
  unfold Work.rowsTo
  split
  · exact w.writesRing_newRow k
  · exact w.writesRing_foldl (fun v _ => v.writesRing_newRow _) _

theorem Work.writesRing_hbmUse (pcs : List Nat) : w.writesRing (w.hbmUse pcs) := by
  refine Work.writesRing_trans (w.writesRing_hbm _) (Work.writesRing_foldl _ (fun v n => ?_) pcs)
  split
  · exact v.writesRing_pcState n 0
  · exact v.writesRing_refl

theorem Work.writesRing_ringWrite (q : Packed) : w.writesRing (w.ringWrite q) := by
  have hplaced : ∀ u : Work, w.writesRing u → ∀ (lost : Bool) (h : Hbm), w.writesRing (if lost then u else { u with hbm := h }) := by
    intro u hu lost h
    split
    · exact hu
    · exact Work.writesRing_trans hu (u.writesRing_hbm h)
  unfold Work.ringWrite
  dsimp only
  cases (w.rowsTo q.k).hbm.rows.find? (fun r => r.k == q.k) with
  | none => exact hplaced _ (w.writesRing_rowsTo q.k) _ _
  | some row => exact hplaced _ (Work.writesRing_trans (w.writesRing_rowsTo q.k) (Work.writesRing_hbmUse _ _)) _ _

theorem counterMax_linesOk : ∀ p : Fin 32, counterMax (Obj.linesOk p) = 0xFFFFFFFFFFFFFFFF := by decide

theorem pcState_ne_linesOk (p n : Nat) : Obj.pcState n ≠ Obj.linesOk p := by
  unfold Obj.pcState Obj.linesOk
  omega

/-- LINE_PUBLISHED with a line in the output buffer. -/
theorem linePublished_publishes {s : State} {d : Fin 4} {q : Packed} {rest : List Packed} (hq : (nth {} s.w.fuller d).outq = q :: rest) :
    Does (.linePublished d) s (fun t =>
      t.fuller = upd s.w.fuller d (fun x => { x with outq := rest }) ∧ t.get (Obj.lastWebLine q.desc.port) = q.desc.line ∧
      s.w.only t [.fuller, .hbm] ∧ (q.desc.port < 32 → (q.desc.state = 0 ∨ q.desc.state = 2) →
        t.get (Obj.linesOk q.desc.port) = min (s.w.get (Obj.linesOk q.desc.port) + 1) 0xFFFFFFFFFFFFFFFF)) := by
  let p := q.desc.port
  let v : Work := { s.w with fuller := upd s.w.fuller d fun x => { x with outq := rest } }
  let u := (v.ringWrite q).set (Obj.lastWebLine p) q.desc.line
  have hdone : linePublished d s.w = if q.desc.state = 0 || q.desc.state = 2 then u.bump (Obj.linesOk p) else u := by
    simp only [linePublished, hq]
    rfl
  obtain ⟨hring, hkept⟩ := v.writesRing_ringWrite q
  have honly : s.w.only u [.fuller, .hbm] :=
    Work.only_trans (Work.only_mono (s.w.only_fuller _) (by simp)) (Work.only_trans (Work.only_mono hring (by simp)) (Work.only_set _ _ _ _))
  have hfuller : u.fuller = v.fuller := hring .fuller (by simp)
  have hline : u.get (Obj.lastWebLine p) = q.desc.line := Work.get_set_same _ _ _
  have hcount : u.get (Obj.linesOk p) = s.w.get (Obj.linesOk p) :=
    (Work.get_set_other _ _ _ _ (subKeys_ne (by decide))).trans (hkept _ (pcState_ne_linesOk p))
  refine does_of_onWork rfl ?_
  rw [hdone]
  split
  case isTrue =>
    refine ⟨hfuller, ?_, Work.only_trans honly (u.only_bump _ _ _), fun hport _ => ?_⟩
    · rw [Work.get_bump, if_neg (subKeys_ne (by decide)), hline]
    · rw [Work.get_bump, if_pos rfl, hcount, counterMax_linesOk ⟨p, hport⟩]
      rfl
  case isFalse hstate => exact ⟨hfuller, hline, honly, fun _ hgood => absurd hgood (by simpa using hstate)⟩

/-- Settles O28: a line passes the taps and is pushed packed, and what is published comes off the front of the output buffer. -/
theorem linesPassFullerAndArePublished : Obligations.LinesPassFullerAndArePublished := by
  refine ⟨fun s p r rest l hrx hline hstate hroom hgood hdie hcal => ?_, fun s p r rest l hrx hline hstate hrep hroom hdie hcal => ?_,
    fun s p r rest c bad hrx hfull => fullerLine_stalls hrx hfull c bad, fun s d q rest => linePublished_publishes⟩
  · obtain ⟨t, hexec, ⟨hports, houtq⟩, honly, hsame⟩ := fullerLine_corrects hrx hline hstate hroom hgood hdie hcal
    exact ⟨t, hexec, hports, honly, hsame, s.w.descOf p r l, houtq, rfl, rfl, rfl, rfl, rfl, rfl, rfl⟩
  · obtain ⟨t, hexec, ⟨hports, houtq⟩, honly, hsame⟩ := fullerLine_fills hrx hline hstate hrep hroom hdie hcal
    exact ⟨t, hexec, hports, honly, hsame, _, houtq, rfl, rfl, rfl⟩

end Sys2Proof.Machine
end

section
/-! What takes a swept line (R232): the neighbours, the memory controller, the profile sums, the streams and the monitors are fed, and the Loom, the
web axis and every object up to those of the Loom stay as they were. -/
namespace Sys2Proof.Machine
variable (w : Work)

/-- A change of what a swept line feeds and of nothing else. -/
def Work.feeds (a b : Work) : Prop := a.only b [.hbm, .seg, .streams, .router, .sent] ∧ ∀ k, k < 0x5100 * 256 → b.get k = a.get k

theorem Work.feeds_refl : w.feeds w := ⟨w.only_refl _, fun _ _ => rfl⟩

theorem Work.feeds_trans {a b c : Work} (hab : a.feeds b) (hbc : b.feeds c) : a.feeds c :=
  ⟨Work.only_trans hab.1 hbc.1, fun k hk => (hbc.2 k hk).trans (hab.2 k hk)⟩

theorem Work.feeds_foldl {α : Type} {f : Work → α → Work} (xs : List α) (hf : ∀ (v : Work) (x : α), v.feeds (f v x)) : w.feeds (xs.foldl f w) :=
  List.foldlRecOn xs f w.feeds_refl fun v hv x _ => Work.feeds_trans hv (hf v x)

variable {w} in
theorem Work.feeds_ite {c : Prop} [Decidable c] {a b : Work} (ha : w.feeds a) (hb : w.feeds b) : w.feeds (if c then a else b) := by
  split
  · exact ha
  · exact hb

theorem Work.feeds_set {i s : Nat} (v : Int) (hi : 0x5100 ≤ i) : w.feeds (w.set (i * 256 + s) v) :=
  ⟨w.only_set _ _ _, fun _ hk => w.get_set_other _ _ v (by omega)⟩

theorem Work.feeds_bump {i s : Nat} (n : Nat) (hi : 0x5100 ≤ i) : w.feeds (w.bump (i * 256 + s) n) := w.feeds_set _ hi
theorem Work.feeds_flag {i s : Nat} (m : Nat) (hi : 0x5100 ≤ i) : w.feeds (w.flag (i * 256 + s) m) := w.feeds_set _ hi
theorem Work.feeds_unflag {i s : Nat} (m : Nat) (hi : 0x5100 ≤ i) : w.feeds (w.unflag (i * 256 + s) m) := w.feeds_set _ hi

theorem Work.feeds_seg (g : Seg) : w.feeds { w with seg := g } :=
  ⟨fun q hq => by cases q <;> simp [Part.same] at hq ⊢, fun _ _ => rfl⟩

theorem Work.feeds_streams (g : Streams) : w.feeds { w with streams := g } :=
  ⟨fun q hq => by cases q <;> simp [Part.same] at hq ⊢, fun _ _ => rfl⟩

theorem Work.feeds_updStream (s : Nat) (f : StreamSt → StreamSt) : w.feeds (w.updStream s f) := w.feeds_streams _
theorem Work.feeds_updMon (m : Nat) (f : MonSt → MonSt) : w.feeds (w.updMon m f) := w.feeds_streams _

theorem Work.feeds_send (m : Sent) : w.feeds (w.send m) := ⟨Work.only_mono (w.only_send m) (by simp), fun _ _ => rfl⟩

theorem Work.feeds_raise (s : Nat) : w.feeds (w.raise s) := by
  refine ⟨Work.only_mono (w.only_raise s) (by simp), fun k hk => ?_⟩
  rw [w.get_raise, if_neg]
  rintro ⟨rfl, -⟩
  simp only [raisedKey, Obj.raised] at hk
  omega

/-! ### Neighbours, memory and profiles (R237, R244, R405) -/

theorem Work.feeds_sendEdges (st : Stitched) : w.feeds (w.sendEdges st) :=
  Work.feeds_ite w.feeds_refl (w.feeds_foldl _ fun v _ => Work.feeds_trans (v.feeds_send _) (Work.feeds_send _ _))

theorem Work.feeds_hbmUse (pcs : List Nat) : w.feeds (w.hbmUse pcs) := by
  obtain ⟨honly, hget⟩ := w.writesRing_hbmUse pcs
  exact ⟨Work.only_mono honly (by simp), fun k hk => hget k fun n => by unfold Obj.pcState; omega⟩

theorem Work.feeds_profileLine (st : Stitched) : w.feeds (w.profileLine st) :=
  w.feeds_foldl _ fun v _ => Work.feeds_ite v.feeds_refl (v.feeds_seg _)

/-! ### Streams (R315 to R321) -/

theorem Work.feeds_syncStream (s n : Nat) : w.feeds (w.syncStream s n) :=
  Work.feeds_ite w.feeds_refl (Work.feeds_trans (w.feeds_updStream s _) (Work.feeds_set _ _ (by omega)))

theorem Work.feeds_syncMon (m n : Nat) : w.feeds (w.syncMon m n) :=
  Work.feeds_ite w.feeds_refl (Work.feeds_trans (w.feeds_updMon m _) (Work.feeds_unflag _ _ (by omega)))

theorem Work.feeds_syncAll (n : Nat) : w.feeds (w.syncAll n) :=
  Work.feeds_trans (w.feeds_foldl _ fun v s => v.feeds_syncStream s n) (Work.feeds_foldl _ _ fun v m => v.feeds_syncMon m n)

theorem Work.feeds_closeRecord (s : Nat) (r : OpenRec) (frameEnd : Bool) : w.feeds (w.closeRecord s r frameEnd) := by
  have hseq : ∀ n : Int, w.feeds ((w.set (Obj.streamSeq s) n).updStream s (fun x => { x with cur := none })) :=
    fun n => Work.feeds_trans (w.feeds_set n (by omega)) (Work.feeds_updStream _ s _)
  refine Work.feeds_ite (hseq _) (Work.feeds_ite ?_ ?_)
  · exact Work.feeds_trans (hseq _) (Work.feeds_trans (Work.feeds_streams _ _) (Work.feeds_set _ _ (by decide)))
  · refine Work.feeds_trans ?_ (Work.feeds_updStream _ s _)
    exact Work.feeds_ite (Work.feeds_trans (hseq _) (Work.feeds_bump _ _ (by decide))) (hseq _)

theorem Work.feeds_addLine (s n newest web : Nat) (b : Bytes) (flags step : Nat) : w.feeds (w.addLine s n newest web b flags step) :=
  have hline : ∀ f, w.feeds ((w.updStream s f).set (Obj.lastLine s) web) :=
    fun f => Work.feeds_trans (w.feeds_updStream s f) (Work.feeds_set _ _ (by omega))
  Work.feeds_ite (Work.feeds_trans (hline _) (Work.feeds_closeRecord _ _ _ _)) (hline _)

theorem Work.feeds_streamLine (s line : Nat) (xs : List Samp) : w.feeds (w.streamLine s line xs) := by
  refine Work.feeds_ite (w.feeds_updStream s _) (Work.feeds_trans ?_ (Work.feeds_addLine _ _ _ _ _ _ _ _))
  exact Work.feeds_trans (Work.feeds_trans (w.feeds_updStream s _) (Work.feeds_set _ _ (by omega))) (Work.feeds_updStream _ s _)

/-! ### Monitors (R326 to R330) -/

/-- A state of a monitor that is entered is flagged, counted and, but in SHADOW, raised. -/
theorem Work.feeds_stateEntered (m : Nat) (entered : Bool) (flag i source : Nat) :
    let v := (w.flag (Obj.monFlags m) flag).bump ((0x6980 + m) * 256 + i)
    w.feeds (if entered then (if v.mode == .shadow then v else v.raise source) else w) := by
  intro v
  have hcount : w.feeds v := Work.feeds_trans (w.feeds_flag _ (by omega)) (Work.feeds_bump _ _ (by omega))
  exact Work.feeds_ite (Work.feeds_ite hcount (Work.feeds_trans hcount (v.feeds_raise _))) w.feeds_refl

theorem Work.feeds_monCompare (m n : Nat) (y : Samp) : w.feeds (w.monCompare m n y) := by
  refine Work.feeds_ite (Work.feeds_trans ?_ (Work.feeds_set _ _ (by omega))) (Work.feeds_trans ?_ (Work.feeds_set _ _ (by omega)))
  · exact Work.feeds_ite (w.feeds_bump _ (by omega)) w.feeds_refl
  · exact Work.feeds_trans (w.feeds_stateEntered m _ 1 5 (152 + m)) (Work.feeds_stateEntered _ m _ 2 6 (216 + m))

theorem Work.feeds_monLine (m line : Nat) (xs : List Samp) : w.feeds (w.monLine m line xs) := by
  refine Work.feeds_ite (w.feeds_updMon m _) (Work.feeds_trans ?_ (Work.feeds_monCompare _ _ _ _))
  exact Work.feeds_trans (Work.feeds_trans (w.feeds_updMon m _) (Work.feeds_set _ _ (by omega))) (Work.feeds_set _ _ (by omega))

theorem Work.feeds_streamsTake (st : Stitched) : w.feeds (w.streamsTake st) := by
  have hheld : w.feeds (if st.1 % w.frameLen = 0 then w.holdColumns (w.frameOf st.1) else w) := Work.feeds_ite (w.feeds_streams _) w.feeds_refl
  refine Work.feeds_trans (Work.feeds_trans hheld (Work.feeds_syncAll _ _)) (Work.feeds_foldl _ _ fun v e => ?_)
  refine Work.feeds_trans (Work.feeds_trans (v.feeds_foldl _ fun u s => ?_) (Work.feeds_foldl _ _ fun u m => ?_)) (Work.feeds_streams _ _)
  · exact Work.feeds_ite (u.feeds_streamLine s _ _) u.feeds_refl
  · exact Work.feeds_ite (u.feeds_monLine m _ _) u.feeds_refl

end Sys2Proof.Machine
end

section
/-! SWEEP_LINE (R230, R232, R239): the map errors met, the coverage runs joined, and the line shown as swept. -/
namespace Sys2Proof.Machine

theorem bitOf_or (a b i : Nat) : bitOf (a ||| b) i = (bitOf a i || bitOf b i) := Nat.testBit_or a b i

section
variable (w : Work) (line : Nat)

/-! ### The steps of the sweep -/

/-- The state after the map errors that the sweep of a line met. -/
def Work.mapErrors (corrected : Nat) (bad : List Nat) : Work :=
  let v := (w.bump Obj.mapCorr corrected).bump Obj.mapUncorr bad.length
  let v := if bad.isEmpty then v else v.flag Obj.loomFlags 8
  { v with loom := { v.loom with badMap := v.loom.badMap ++ bad.filter (fun c => !w.loom.badMap.contains c) } }

/-- The state after the coverage runs of a stitched line are joined to the open ones. -/
def Work.lineCovered : Work :=
  let st := w.stitch line
  let v := if st.2.any (fun e => e.2.any (fun c => c.reason == 0x12)) then w.flag Obj.loomFlags 1 else w
  v.joinRuns v.tagFields line (mergeFields ((st.2.map (fun e => lineRuns line e.1 e.2 0 none)).flatten))

/-- The state that shows a line as swept. -/
def Work.sweptTo : Work :=
  let v := { w with loom := { w.loom with next := some (line + 1) } }
  (v.set Obj.sweepLine line).set Obj.sweepLag (Int.ofNat (v.axis.last.getD 0 - v.sMax (v.frameOf line) - line))

variable {w line} in
theorem Work.sweepNext_eq (hat : w.sweepAt = some line) (hready : w.sweepReady line = true) (corrected : Nat) (bad : List Nat) :
    w.sweepNext corrected bad = some ((((w.mapErrors corrected bad).lineCovered line).sweptTo line).sendEdges
      ((w.mapErrors corrected bad).stitch line), (w.mapErrors corrected bad).stitch line) := by
  unfold Work.sweepNext
  simp only [hat, hready, Bool.not_true, Bool.false_eq_true, if_false]
  rfl

variable {w line} in
/-- The swept line, shown, feeds what takes it. -/
theorem sweepLine_feeds (hat : w.sweepAt = some line) (hready : w.sweepReady line = true) (corrected : Nat) (bad : List Nat) :
    (((w.mapErrors corrected bad).lineCovered line).sweptTo line).feeds (sweepLine corrected bad w) := by
  unfold sweepLine
  simp only [Work.sweepNext_eq hat hready]
  exact Work.feeds_trans (Work.feeds_sendEdges _ _) (Work.feeds_trans (Work.feeds_hbmUse _ _)
    (Work.feeds_trans (Work.feeds_profileLine _ _) (Work.feeds_streamsTake _ _)))

/-! ### What they leave -/

/-- A change of the faulty map entries and the open coverage runs, and of no other setting of the plane or the web axis. -/
def Work.keepsPlane (a b : Work) : Prop := a.only b [.loom, .ledger] ∧ ∃ bad runs, b.loom = { a.loom with badMap := bad, runs := runs }

theorem Work.keepsPlane_refl : w.keepsPlane w := ⟨w.only_refl _, _, _, rfl⟩

theorem Work.keepsPlane_trans {a b c : Work} (hab : a.keepsPlane b) (hbc : b.keepsPlane c) : a.keepsPlane c := by
  obtain ⟨honly, _, _, hloom⟩ := hab
  obtain ⟨honly', bad, runs, hloom'⟩ := hbc
  exact ⟨Work.only_trans honly honly', bad, runs, by rw [hloom', hloom]⟩

theorem Work.keepsPlane_loom (bad : List Nat) (runs : List CovRun) : w.keepsPlane { w with loom := { w.loom with badMap := bad, runs := runs } } :=
  ⟨fun q hq => by cases q <;> simp [Part.same] at hq ⊢, bad, runs, rfl⟩

theorem Work.keepsPlane_set (k : Nat) (v : Int) : w.keepsPlane (w.set k v) := ⟨w.only_set k v _, _, _, rfl⟩

theorem Work.keepsPlane_emit (r : LRec) : w.keepsPlane (w.emit r) := by
  unfold Work.emit
  split
  · exact ⟨fun q hq => by cases q <;> simp [Part.same] at hq ⊢, _, _, rfl⟩
  · exact w.keepsPlane_refl

/-- The lag behind the last trigger reads the web axis and the plane alone. -/
theorem Work.keepsPlane_lag {a b : Work} (h : a.keepsPlane b) (line : Nat) :
    b.axis.last.getD 0 - b.sMax (b.frameOf line) - line = a.axis.last.getD 0 - a.sMax (a.frameOf line) - line := by
  obtain ⟨honly, bad, runs, hloom⟩ := h
  have haxis : b.axis = a.axis := honly .axis (by simp)
  have hconf : b.d.conf = a.d.conf := (honly .conf (by simp)).1
  have hframe : b.frameOf line = a.frameOf line := by simp only [Work.frameOf, Work.frameLen, Work.confN, Work.conf, haxis, hconf]
  simp only [hframe, haxis, Work.sMax, Work.cutBack, hloom]

/-! ### The map errors (R239) -/

variable (corrected : Nat) (bad : List Nat)

theorem Work.keepsPlane_mapErrors : w.keepsPlane (w.mapErrors corrected bad) := by
  have hcount : w.keepsPlane ((w.bump Obj.mapCorr corrected).bump Obj.mapUncorr bad.length) :=
    Work.keepsPlane_trans (w.keepsPlane_set _ _) (Work.keepsPlane_set _ _ _)
  unfold Work.mapErrors
  refine Work.keepsPlane_trans ?_ (Work.keepsPlane_loom _ _ _)
  split
  · exact hcount
  · exact Work.keepsPlane_trans hcount (Work.keepsPlane_set _ _ _)

/-- The two counters of map errors, and LOOM_FLAGS bit 3 where an entry could not be corrected. -/
theorem Work.mapErrors_counted :
    (w.mapErrors corrected bad).get Obj.mapCorr = min (w.get Obj.mapCorr + corrected) 0xFFFFFFFF ∧
    (w.mapErrors corrected bad).get Obj.mapUncorr = min (w.get Obj.mapUncorr + bad.length) 0xFFFFFFFF ∧
    (bad ≠ [] → bitOf ((w.mapErrors corrected bad).getN Obj.loomFlags) 3 = true) := by
  have hmax : counterMax Obj.mapCorr = 0xFFFFFFFF ∧ counterMax Obj.mapUncorr = 0xFFFFFFFF := by decide
  let v := (w.bump Obj.mapCorr corrected).bump Obj.mapUncorr bad.length
  have hget : ∀ k, (w.mapErrors corrected bad).get k = (if bad.isEmpty then v else v.flag Obj.loomFlags 8).get k := fun _ => rfl
  have hother : ∀ k, Obj.loomFlags ≠ k → (w.mapErrors corrected bad).get k = v.get k := fun k hk => by
    rw [hget]
    split
    · rfl
    · rw [Work.get_flag, if_neg hk]
  refine ⟨?_, ?_, fun hbad => ?_⟩
  · rw [hother _ (by decide), Work.get_bump, if_neg (by decide), Work.get_bump, if_pos rfl, hmax.1]
  · rw [hother _ (by decide), Work.get_bump, if_pos rfl, Work.get_bump, if_neg (by decide), hmax.2]
  · rw [Work.getN, hget, if_neg (by simpa using hbad), Work.get_flag, if_pos rfl]
    exact (bitOf_or _ 8 3).trans (Bool.or_true _)

/-! ### The coverage runs (R230) -/

/-- Joining runs ends some of them, each with its record and its count. -/
def Work.joins (a b : Work) : Prop := a.keepsPlane b ∧ a.sameBut b [Obj.coverageRuns]

theorem Work.joins_trans {a b c : Work} (hab : a.joins b) (hbc : b.joins c) : a.joins c :=
  ⟨Work.keepsPlane_trans hab.1 hbc.1, Work.sameBut_trans hab.2 hbc.2⟩

theorem Work.joins_endRun (r : CovRun) : w.joins (w.endRun r) := by
  refine ⟨Work.keepsPlane_trans (w.keepsPlane_emit _) (Work.keepsPlane_set _ _ _), ?_⟩
  exact Work.sameBut_trans (fun k _ => w.get_emit _ k) (Work.sameBut_bump _ _ (by simp))

theorem Work.joins_endRuns (rs : List CovRun) : w.joins (rs.foldl (fun v r => v.endRun r) w) :=
  List.foldlRecOn rs _ ⟨w.keepsPlane_refl, w.sameBut_refl _⟩ fun v hv r _ => Work.joins_trans hv (v.joins_endRun r)

theorem Work.joins_runs (rs : List CovRun) : w.joins { w with loom := { w.loom with runs := rs } } :=
  ⟨w.keepsPlane_loom w.loom.badMap rs, fun _ _ => rfl⟩

theorem Work.joins_joinRuns (tags : Bool) (rs : List CovRun) : w.joins (w.joinRuns tags line rs) := by
  have hended : ∀ ended : List CovRun, w.joins (ended.foldl (fun v o => v.endRun o) { w with loom := { w.loom with runs := [] } }) :=
    fun ended => Work.joins_trans (w.joins_runs []) (Work.joins_endRuns _ ended)
  unfold Work.joinRuns
  dsimp only
  split
  · exact Work.joins_trans (hended _) (Work.joins_endRuns _ _)
  · exact Work.joins_trans (hended _) (Work.joins_runs _ _)

/-- A line's coverage marks at most that a column was past, and joins its runs. -/
theorem Work.lineCovered_joins : ∃ past : Bool, (if past then w.flag Obj.loomFlags 1 else w).joins (w.lineCovered line) :=
  ⟨_, Work.joins_joinRuns _ line _ _⟩

theorem Work.keepsPlane_lineCovered : w.keepsPlane (w.lineCovered line) := by
  obtain ⟨past, hkeeps, -⟩ := w.lineCovered_joins line
  refine Work.keepsPlane_trans ?_ hkeeps
  cases past
  · exact w.keepsPlane_refl
  · exact w.keepsPlane_set _ _

theorem Work.sameBut_lineCovered : w.sameBut (w.lineCovered line) [Obj.loomFlags, Obj.coverageRuns] := by
  obtain ⟨past, -, hsame⟩ := w.lineCovered_joins line
  refine Work.sameBut_trans ?_ (Work.sameBut_mono hsame (by simp))
  cases past
  · exact w.sameBut_refl _
  · exact w.sameBut_flag _ (by simp)

/-- The coverage of a line clears no bit of LOOM_FLAGS. -/
theorem Work.lineCovered_keepsFlag {i : Nat} (hset : bitOf (w.getN Obj.loomFlags) i = true) :
    bitOf ((w.lineCovered line).getN Obj.loomFlags) i = true := by
  obtain ⟨past, -, hsame⟩ := w.lineCovered_joins line
  rw [Work.getN, hsame _ (by decide)]
  cases past
  · exact hset
  · rw [if_pos rfl, Work.get_flag, if_pos rfl]
    exact (bitOf_or _ 1 i).trans (by rw [hset, Bool.true_or])

/-! ### The line shown -/

theorem Work.get_sweptTo (k : Nat) : (w.sweptTo line).get k =
    if k = Obj.sweepLag then Int.ofNat (w.axis.last.getD 0 - w.sMax (w.frameOf line) - line) else if k = Obj.sweepLine then line else w.get k := by
  simp only [Work.sweptTo, Work.get_set, eq_comm (b := k)]
  rfl

end

/-- What a state shows of the line swept and of the map errors met. -/
def Work.showsSweep (a b : Work) (line corrected : Nat) (bad : List Nat) : Prop :=
  b.get Obj.sweepLine = line ∧ b.get Obj.sweepLag = Int.ofNat (a.axis.last.getD 0 - a.sMax (a.frameOf line) - line) ∧
  b.loom.next = some (line + 1) ∧ b.mode = a.mode ∧ b.get Obj.mapCorr = min (a.get Obj.mapCorr + corrected) 0xFFFFFFFF ∧
  b.get Obj.mapUncorr = min (a.get Obj.mapUncorr + bad.length) 0xFFFFFFFF ∧ (bad ≠ [] → bitOf (b.getN Obj.loomFlags) 3 = true)

theorem Work.showsSweep_of_feeds {w t : Work} {line corrected : Nat} {bad : List Nat}
    (hfeeds : (((w.mapErrors corrected bad).lineCovered line).sweptTo line).feeds t) : w.showsSweep t line corrected bad := by
  obtain ⟨hcorr, huncorr, hflag⟩ := w.mapErrors_counted corrected bad
  have hmet := w.keepsPlane_mapErrors corrected bad
  generalize w.mapErrors corrected bad = a at *
  have hkeeps : w.keepsPlane (a.lineCovered line) := Work.keepsPlane_trans hmet (a.keepsPlane_lineCovered line)
  have hcovered := a.sameBut_lineCovered line
  replace hflag := fun hbad => a.lineCovered_keepsFlag line (hflag hbad)
  generalize a.lineCovered line = b at *
  obtain ⟨honly, hget⟩ := hfeeds
  have hloom : t.loom = (b.sweptTo line).loom := honly .loom (by simp)
  have hmode : t.mode = b.mode := honly .mode (by simp)
  have hcount : ∀ k, k ∈ [Obj.mapCorr, Obj.mapUncorr] → t.get k = a.get k := fun k hk => by
    simp only [List.mem_cons, List.not_mem_nil, or_false] at hk
    obtain rfl | rfl := hk <;> rw [hget _ (by decide), Work.get_sweptTo, if_neg (by decide), if_neg (by decide), hcovered _ (by decide)]
  refine ⟨?_, ?_, ?_, hmode.trans (hkeeps.1 .mode (by simp)), ?_, ?_, fun hbad => ?_⟩
  · rw [hget _ (by decide), Work.get_sweptTo, if_neg (by decide), if_pos rfl]
  · rw [hget _ (by decide), Work.get_sweptTo, if_pos rfl, Work.keepsPlane_lag hkeeps]
  · rw [hloom]
    rfl
  · rw [hcount _ (by simp), hcorr]
  · rw [hcount _ (by simp), huncorr]
  · rw [Work.getN, hget _ (by decide), Work.get_sweptTo, if_neg (by decide), if_neg (by decide)]
    exact hflag hbad

/-- SWEEP_LINE when the next web line of an inspected frame can be swept. -/
theorem sweepLine_sweeps {s : State} {line : Nat} (corrected : Nat) (bad : List Nat) (hat : s.w.sweepAt = some line)
    (hready : s.w.sweepReady line = true) : Does (.sweepLine corrected bad) s (fun t => s.w.showsSweep t line corrected bad) :=
  does_of_onWork rfl (Work.showsSweep_of_feeds (sweepLine_feeds hat hready corrected bad))

end Sys2Proof.Machine
end

section
/-! Halo strips and the tile pass (R234, R237): a halo line kept or given up, and a tile-frame delivered. -/
namespace Sys2Proof.Machine
variable (w : Work)

theorem Work.only_loom (l : Loom) : w.only { w with loom := l } [.loom] := by
  intro q hq
  cases q <;> simp [Part.same] at hq ⊢

/-! ### The strip of an edge -/

theorem Work.haloLine_haloPut (h : HaloLine) : (w.haloPut h).haloLine h.upper h.field h.line = some h := by
  simp [Work.haloLine, Work.haloPut]

theorem Work.only_haloPut (h : HaloLine) : w.only (w.haloPut h) [.loom] := w.only_loom _

theorem Work.sameBut_haloPut (h : HaloLine) (ks : List Nat) : w.sameBut (w.haloPut h) ks := fun _ _ => rfl

theorem Work.only_sys (x : Sys) : w.only { w with sys := x } [.sys] := by
  intro q hq
  cases q <;> simp [Part.same] at hq ⊢

/-- HALO_EDGE_LINES from a neighbour in the member table, over its session. -/
theorem haloEdgeLines_keeps {s : State} {src : Fin 1024} {line : BitVec 48} {f : Fin 8} {j own : Nat} (vs : List Nat) (valid uncal : BitVec 32)
    (hsession : (s.w.session src).isSome = true) (hfrom : s.w.memberFrom src = some j) (hown : s.w.memberIndex = some own)
    (hnext : j = own + 1 ∨ own = j + 1) (hnone : s.w.haloLine (decide (own < j)) f line.toNat = none) :
    Does (.haloEdgeLines src line f vs valid uncal) s (fun t =>
      t.haloLine (decide (own < j)) f line.toNat =
        some ⟨decide (own < j), line.toNat, f, (upTo 32).map (nth 0 vs), valid.toNat, uncal.toNat, false⟩ ∧
      s.w.only t [.loom, .sys] ∧ s.w.sameBut t []) := by
  let v := (s.w.heard src).memberHeard j
  let h : HaloLine := ⟨decide (own < j), line.toNat, f, (upTo 32).map (nth 0 vs), valid.toNat, uncal.toNat, false⟩
  obtain ⟨ses, hses⟩ := Option.isSome_iff_exists.mp hsession
  have hput : haloEdgeLines src line f vs valid uncal s.w = v.haloPut h := by
    unfold haloEdgeLines
    simp only [hses, hfrom, hown]
    refine if_neg ?_
    rw [show v.haloLine (decide (own < j)) f line.toNat = none from hnone]
    simp only [Option.isSome_none, Bool.or_false, Bool.and_eq_true, decide_eq_true_eq]
    omega
  refine does_of_onWork rfl ?_
  rw [hput]
  refine ⟨v.haloLine_haloPut h, ?_, v.sameBut_haloPut h _⟩
  exact Work.only_trans (Work.only_mono (s.w.only_sys v.sys) (by simp)) (Work.only_mono (v.only_haloPut h) (by simp))

/-- HALO_TIMEOUT for a line that is due. -/
theorem haloTimeout_givesUp {s : State} {upper : Bool} {f line : Nat} {x : Sensor} {r : Row} (hneighbour : s.w.hasNeighbour upper = true)
    (hnone : s.w.haloLine upper f line = none) (hready : s.w.sweepReady line = true) (hx : x ∈ s.w.loom.sensors)
    (hr : r ∈ s.w.hbm.rows.find? (fun r => r.k == s.w.rowOf x.s line))
    (hdue : r.pubAt + nsClocks (s.w.getN Obj.haloTimeout * 1000) ≤ s.w.clk.ctl) :
    Does (.haloTimeout upper f line) s (fun t =>
      t.haloLine upper f line = some ⟨upper, line, f, List.replicate 32 0, 0, 0, true⟩ ∧
      t.get Obj.haloLateCount = min (s.w.get Obj.haloLateCount + 1) 0xFFFFFFFF ∧
      t.get Obj.loomFlags = Int.ofNat (s.w.getN Obj.loomFlags ||| 2) ∧ s.w.only t [.loom] ∧
      s.w.sameBut t [Obj.loomFlags, Obj.haloLateCount]) := by
  let v := (s.w.flag Obj.loomFlags 2).bump Obj.haloLateCount
  let h : HaloLine := ⟨upper, line, f, List.replicate 32 0, 0, 0, true⟩
  have hmax : counterMax Obj.haloLateCount = 0xFFFFFFFF := by decide
  have hput : haloTimeout upper f line s.w = v.haloPut h := by
    refine if_neg ?_
    have hown : ((s.w.loom.sensors.filterMap fun x => s.w.hbm.rows.find? fun r => r.k == s.w.rowOf x.s line).any fun r =>
        decide (r.pubAt + nsClocks (s.w.getN Obj.haloTimeout * 1000) ≤ s.w.clk.ctl)) = true :=
      List.any_eq_true.mpr ⟨r, List.mem_filterMap.mpr ⟨x, hx, hr⟩, by simpa using hdue⟩
    simp [hneighbour, hnone, hready, hown]
  refine does_of_onWork rfl ?_
  rw [hput]
  refine ⟨v.haloLine_haloPut h, ?_, ?_, ?_, ?_⟩
  · rw [v.sameBut_haloPut h [] _ (by simp), Work.get_bump, if_pos rfl, Work.get_flag, if_neg (by decide), hmax]
    rfl
  · rw [v.sameBut_haloPut h [] _ (by simp), Work.get_bump, if_neg (by decide), Work.get_flag, if_pos rfl]
  · exact Work.only_trans (s.w.only_flag _ _ _) (Work.only_trans (Work.only_bump _ _ _ _) (v.only_haloPut h))
  · exact Work.sameBut_trans (s.w.sameBut_flag _ (by simp)) (Work.sameBut_trans (Work.sameBut_bump _ _ (by simp)) (v.sameBut_haloPut h _))

/-! ### The tile pass -/

/-- With a plane in force and every line of its window ready, nothing holds a request of the tile pass back. -/
theorem Work.pass_not_held {w : Work} {f n : Nat} {win : PassWindow} (hsensors : w.loom.sensors ≠ []) (hready : w.passReady f n win = true) :
    ¬ (w.loom.sensors.isEmpty || !w.passReady f n win) = true := by
  simp [hsensors, hready]

/-- Settles O33: the line is swept, the map entry rewritten, the halo line kept or given up, and the tile-frame delivered. -/
theorem linesAreSweptAndDelivered : Obligations.LinesAreSweptAndDelivered :=
  ⟨fun _ _ corrected bad => sweepLine_sweeps corrected bad, fun _ _ => does_of_onWork rfl rfl,
    fun _ _ _ _ vs valid uncal _ _ => haloEdgeLines_keeps vs valid uncal, fun _ _ _ _ _ _ => haloTimeout_givesUp,
    fun _ _ _ _ _ _ hsensors hready => does_of_onWork rfl (if_neg (Work.pass_not_held hsensors hready)),
    fun _ _ _ _ _ _ _ hsensors hready => does_of_onWork rfl (if_neg (Work.pass_not_held hsensors hready))⟩

end Sys2Proof.Machine
end

section
/-! A model slot out of order: MODEL_TAKES_EFFECT keeps the images that are newer than the candidates waiting, and the statement about it also speaks
of a slot that lists an image for a later frame behind the one that takes effect, where an accepted image always goes to the front (R282). -/
namespace Sys2Proof.Machine

/-- Slot 0 with an image due in frame 0, which is the present one, listed before an image for frame 9. -/
def misorderedSlot : State :=
  { State.reset with w := { State.reset.w with
    cls := { slots := [{ images := [(0, []), (9, [])] }] }, d := { regs := [(Obj.modelFrame 0, 0)] } } }

/-- Refutes O37: MODEL_TAKES_EFFECT moves the image for frame 9 to the front, and MODEL_STATE shows 2, pending, where the statement has 1. -/
theorem not_candidatesModelsAndRecordsFlow : ¬ Obligations.CandidatesModelsAndRecordsFlow := by
  rintro ⟨-, -, htakes, -⟩
  refine not_does_of_onWork rfl ?_ (htakes misorderedSlot 0 (0, []) [(9, [])] rfl (by decide) (by decide))
  rintro ⟨hstate, -⟩
  exact absurd hstate (by decide)

end Sys2Proof.Machine
end

section
/-! A slot written to a ring in host memory (R485 to R489): what it changes, and the producer index it moves on. -/
namespace Sys2Proof.Machine
variable (w : Work)

theorem Work.only_updRing (r : Nat) (f : Ring → Ring) : w.only (w.updRing r f) [.host] := by
  intro q hq
  cases q <;> simp [Part.same] at hq ⊢

theorem Work.only_signalRing (r : Nat) : w.only (w.signalRing r) [.host, .timers, .sent] :=
  Work.only_trans (Work.only_mono (w.only_updRing r _) (by simp))
    (Work.only_trans (Work.only_mono (Work.only_stopTimer _ (.coal r)) (by simp)) (Work.only_mono (Work.only_msix _ _) (by simp)))

theorem Work.get_signalRing (r k : Nat) : (w.signalRing r).get k = w.get k := Work.get_msix _ _ k

/-- After a slot write the message leaves at once, or its timer runs, or starts (R489). -/
theorem Work.coalesce_cases (r : Nat) : w.coalesce r = w.signalRing r ∨ w.coalesce r = w ∨ w.coalesce r = w.startTimer (.coal r) := by
  unfold Work.coalesce
  dsimp only
  split
  · exact .inl rfl
  · split
    · exact .inr (.inl rfl)
    · exact .inr (.inr rfl)

theorem Work.only_coalesce (r : Nat) : w.only (w.coalesce r) [.host, .timers, .sent] := by
  obtain h | h | h := w.coalesce_cases r <;> rw [h]
  · exact w.only_signalRing r
  · exact w.only_refl _
  · exact Work.only_mono (w.only_startTimer _) (by simp)

theorem Work.get_coalesce (r k : Nat) : (w.coalesce r).get k = w.get k := by
  obtain h | h | h := w.coalesce_cases r <;> rw [h]
  · exact w.get_signalRing r k
  · rfl

theorem Work.ring_congr {a b : Work} (h : b.host.rings = a.host.rings) (q : Nat) : b.ring q = a.ring q := by rw [Work.ring, h, Work.ring]

/-- Ring r is changed and every other ring stays. -/
theorem Work.ring_updRing (r q : Nat) (f : Ring → Ring) :
    (w.updRing r f).ring q = if r = q ∧ q < w.host.rings.length then f (w.ring q) else w.ring q := nth_upd _ _ _ _ _

/-- An enabled ring is one of those the module has. -/
theorem Work.ring_lt_of_enabled {r : Nat} (h : (w.ring r).enabled = true) : r < w.host.rings.length := by
  by_contra hout
  simp [Work.ring, nth, List.getElem?_eq_none (Nat.not_lt.mp hout)] at h

theorem Work.msix_rings (v : Nat) : (w.msix v).host.rings = w.host.rings := by
  unfold Work.msix
  split_ifs <;> rfl

/-- The message moves PI_SIGNALLED and no producer index. -/
theorem Work.pi_signalRing (r q : Nat) : ((w.signalRing r).ring q).pi = (w.ring q).pi := by
  have hring : (w.signalRing r).ring q = (w.updRing r (fun g => { g with signalled := g.pi })).ring q := Work.ring_congr (Work.msix_rings _ _) q
  rw [hring, Work.ring_updRing]
  split <;> rfl

theorem Work.pi_coalesce (r q : Nat) : ((w.coalesce r).ring q).pi = (w.ring q).pi := by
  obtain h | h | h := w.coalesce_cases r <;> rw [h]
  · exact w.pi_signalRing r q
  · rfl

/-- The state with a slot and the producer index written, before the interrupt rule. -/
def Work.slotWritten (w : Work) (r : Nat) (bs : Bytes) : Work :=
  let v := (w.hostWrite ((w.ringShape r).1 + ((w.ring r).pi % (w.ringShape r).2.1) * (w.ringShape r).2.2) bs).updRing r
    (fun g => { g with pi := g.pi + 1 })
  if w.getN (Obj.ringWb r) = 0 then v else v.hostWrite (w.getN (Obj.ringWb r)) (leBytes 8 ((w.ring r).pi + 1))

theorem Work.ringPut_eq (r : Nat) (bs : Bytes) : w.ringPut r bs = (w.slotWritten r bs).coalesce r := rfl

theorem Work.only_slotWritten (r : Nat) (bs : Bytes) : w.only (w.slotWritten r bs) [.host] := by
  have hslot : ∀ a f, w.only ((w.hostWrite a bs).updRing r f) [.host] := fun a f => Work.only_trans (w.only_hostWrite a bs) (Work.only_updRing _ r f)
  unfold Work.slotWritten
  dsimp only
  split
  · exact hslot _ _
  · exact Work.only_trans (hslot _ _) (Work.only_hostWrite _ _ _)

theorem Work.get_slotWritten (r : Nat) (bs : Bytes) (k : Nat) : (w.slotWritten r bs).get k = w.get k := by
  unfold Work.slotWritten
  dsimp only
  split <;> rfl

variable {w} in
theorem Work.pi_slotWritten {r : Nat} (hr : r < w.host.rings.length) (bs : Bytes) : ((w.slotWritten r bs).ring r).pi = (w.ring r).pi + 1 := by
  have hmoved : ∀ a, (((w.hostWrite a bs).updRing r (fun g => { g with pi := g.pi + 1 })).ring r).pi = (w.ring r).pi + 1 := fun a => by
    rw [Work.ring_updRing, if_pos ⟨rfl, hr⟩]
    rfl
  unfold Work.slotWritten
  dsimp only
  split
  · exact hmoved _
  · exact hmoved _

/-- A slot put into a ring changes host memory and the rings, and may send or time the message of R489. -/
theorem Work.only_ringPut (r : Nat) (bs : Bytes) : w.only (w.ringPut r bs) [.host, .timers, .sent] :=
  Work.only_trans (Work.only_mono (w.only_slotWritten r bs) (by simp)) (Work.only_coalesce _ r)

theorem Work.get_ringPut (r : Nat) (bs : Bytes) (k : Nat) : (w.ringPut r bs).get k = w.get k := by
  rw [w.ringPut_eq, Work.get_coalesce, w.get_slotWritten]

variable {w} in
/-- The producer index of the ring counts the slot. -/
theorem Work.pi_ringPut {r : Nat} (hr : r < w.host.rings.length) (bs : Bytes) : ((w.ringPut r bs).ring r).pi = (w.ring r).pi + 1 := by
  rw [w.ringPut_eq, Work.pi_coalesce, Work.pi_slotWritten hr]

end Sys2Proof.Machine
end

section
/-! Frame statistics (R304 to R306): a bank goes to readout, and its record into the statistics ring. -/
namespace Sys2Proof.Machine
variable (w : Work)

theorem Work.only_updStat (p f : Nat) (g : StatAcc → StatAcc) : w.only (w.updStat p f g) [.stats] := by
  intro q hq
  cases q <;> simp [Part.same, Work.updStat] at hq ⊢

theorem Work.sameBut_updStat (p f : Nat) (g : StatAcc → StatAcc) (ks : List Nat) : w.sameBut (w.updStat p f g) ks := fun _ _ => rfl

theorem Work.updStat_updStat (p f : Nat) (g h : StatAcc → StatAcc) : (w.updStat p f g).updStat p f h = w.updStat p f (fun x => h (g x)) :=
  congrArg (fun xs => { w with stats := xs }) (upd_upd w.stats (8 * p + f) g h)

variable {w} in
/-- A frame complete in the oldest bank takes that bank to readout; a bank still in readout gives up its record. -/
theorem statFrameComplete_eq {p : PortNo} {f : Fin 8} {k : StatBank} {rest : List StatBank} (hbanks : (w.statOf p f).banks = k :: rest)
    (hdone : w.statDone p f k.frame = true) : statFrameComplete p f w =
      let v := w.updStat p f (fun x => { x with banks := rest, readout := some k, lost := x.lost + (if (w.statOf p f).readout.isSome then 1 else 0) })
      if (w.statOf p f).readout.isSome then (v.bump Obj.stOverrun).flag Obj.stFlags 2 else v := by
  simp only [statFrameComplete, hbanks, hdone, Bool.not_true, Bool.false_eq_true, if_false]

/-- STAT_FRAME_COMPLETE. -/
theorem statFrameComplete_reads {s : State} {p : Fin 32} {f : Fin 8} {k : StatBank} {rest : List StatBank}
    (hbanks : (s.w.statOf p f).banks = k :: rest) (hdone : s.w.statDone p f k.frame = true) :
    Does (.statFrameComplete p f) s (fun t =>
      t.stats = upd s.w.stats (8 * p + f)
        (fun x => { x with banks := rest, readout := some k, lost := x.lost + (if (s.w.statOf p f).readout.isSome then 1 else 0) }) ∧
      s.w.only t [.stats] ∧ s.w.sameBut t [Obj.stOverrun, Obj.stFlags] ∧
      ((s.w.statOf p f).readout ≠ none → t.get Obj.stOverrun = min (s.w.get Obj.stOverrun + 1) 0xFFFFFFFF ∧
        t.get Obj.stFlags = Int.ofNat (s.w.getN Obj.stFlags ||| 2))) := by
  refine does_of_onWork rfl ?_
  rw [statFrameComplete_eq hbanks hdone]
  dsimp only
  have hread := fun g => s.w.only_updStat p f g
  cases hbusy : (s.w.statOf p f).readout with
  | none => exact ⟨rfl, hread _, s.w.sameBut_updStat _ _ _ _, fun hne => absurd rfl hne⟩
  | some b =>
    have hmax : counterMax Obj.stOverrun = 0xFFFFFFFF := by decide
    simp only [Option.isSome_some, if_true]
    refine ⟨rfl, ?_, ?_, fun _ => ⟨?_, ?_⟩⟩
    · exact Work.only_trans (hread _) (Work.only_trans (Work.only_bump _ _ _ _) (Work.only_flag _ _ _ _))
    · exact Work.sameBut_trans (s.w.sameBut_updStat _ _ _ _) (Work.sameBut_trans (Work.sameBut_bump _ _ (by simp)) (Work.sameBut_flag _ _ (by simp)))
    · rw [Work.get_flag, if_neg (by decide), Work.get_bump, if_pos rfl, hmax]
      rfl
    · rw [Work.get_flag, if_pos rfl, Work.getN, Work.get_bump, if_neg (by decide)]
      rfl

/-- The record of a bank in readout, filled up to its slot. -/
def Work.statSlot (w : Work) (p f : Nat) (k : StatBank) : Bytes :=
  let record := w.statRecord p f k (w.statOf p f).lost
  record ++ List.replicate (8192 - record.length) 0

variable {w} in
/-- With a slot free a record in readout leaves for it, and nothing counts as lost before the next. -/
theorem statRecordDelivered_eq {p : PortNo} {f : Fin 8} {k : StatBank} (hreadout : (w.statOf p f).readout = some k) (hmode : w.mode ≠ .shadow)
    (henabled : (w.ring 4).enabled = true) (hfree : w.ringFree 4 ≠ 0) : statRecordDelivered p f w =
      (((w.updStat p f (fun x => { x with readout := none, lost := 0 })).ringPut 4 (w.statSlot p f k)).bump Obj.stDelivered).raise 7 := by
  have hshadow : ∀ g, ((w.updStat p f g).mode == .shadow) = false := fun _ => beq_eq_false_iff_ne.mpr hmode
  have hplace : ∀ g, (!((w.updStat p f g).ring 4).enabled || decide ((w.updStat p f g).ringFree 4 = 0)) = false := fun g => by
    show (!(w.ring 4).enabled || decide (w.ringFree 4 = 0)) = false
    simp [henabled, hfree]
  simp only [statRecordDelivered, hreadout, hshadow, hplace, Bool.false_eq_true, if_false, Work.updStat_updStat]
  rfl

/-- STAT_RECORD_DELIVERED with a slot free. -/
theorem statRecordDelivered_delivers {s : State} {p : Fin 32} {f : Fin 8} {k : StatBank} (hreadout : (s.w.statOf p f).readout = some k)
    (hmode : s.w.mode ≠ .shadow) (henabled : (s.w.ring 4).enabled = true) (hfree : s.w.ringFree 4 ≠ 0) :
    Does (.statRecordDelivered p f) s (fun t =>
      t.stats = upd s.w.stats (8 * p + f) (fun x => { x with readout := none, lost := 0 }) ∧ (t.ring 4).pi = (s.w.ring 4).pi + 1 ∧
      t.get Obj.stDelivered = min (s.w.get Obj.stDelivered + 1) 0xFFFFFFFFFFFFFFFF ∧
      s.w.only t [.stats, .host, .timers, .sent, .router] ∧ s.w.sameBut t [Obj.stDelivered, raisedKey 7]) := by
  let v := s.w.updStat p f (fun x => { x with readout := none, lost := 0 })
  let bs := s.w.statSlot p f k
  have hmax : counterMax Obj.stDelivered = 0xFFFFFFFFFFFFFFFF := by decide
  have hcounted : v.only (((v.ringPut 4 bs).bump Obj.stDelivered).raise 7) [.host, .timers, .sent, .router] :=
    Work.only_trans (Work.only_mono (v.only_ringPut 4 bs) (by simp))
      (Work.only_trans (Work.only_bump _ _ _ _) (Work.only_mono (Work.only_raise _ 7) (by simp)))
  have hhost : (((v.ringPut 4 bs).bump Obj.stDelivered).raise 7).host = (v.ringPut 4 bs).host :=
    Work.only_trans (Work.only_bump _ _ _ _) (Work.only_raise _ 7) .host (by decide)
  refine does_of_onWork rfl ?_
  rw [statRecordDelivered_eq hreadout hmode henabled hfree]
  refine ⟨hcounted .stats (by decide), ?_, ?_, ?_, ?_⟩
  · rw [Work.ring_congr (congrArg HostIf.rings hhost)]
    exact Work.pi_ringPut (w := v) (s.w.ring_lt_of_enabled henabled) bs
  · rw [Work.get_raise, if_neg (by decide), Work.get_bump, if_pos rfl, Work.get_ringPut, hmax]
    rfl
  · exact Work.only_trans (Work.only_mono (s.w.only_updStat _ _ _) (by simp)) (Work.only_mono hcounted (by simp))
  · exact Work.sameBut_trans (fun k _ => v.get_ringPut 4 bs k) (Work.sameBut_trans (Work.sameBut_bump _ _ (by simp)) (Work.sameBut_raise _ (by simp)))

end Sys2Proof.Machine
end

section
/-! Exposure generations and the exposure set (R307, R310): a write begins a generation, its frame puts it in force, and an unanswered set counts. -/
namespace Sys2Proof.Machine
variable (w : Work)

/-! ### What an effect adds to its accepted write -/

/-- An effect on an accepted write that keeps the journal and the results adds the parts and objects it changes itself. -/
theorem Work.obeys_effect {a b c : Work} {p : Path} {key raw : Nat} {ps qs : List Part} {ks ls : List Nat} (h : a.obeys b p key raw qs ls)
    (hps : qs ⊆ ps) (hks : ls ⊆ ks) (honly : b.only c ps) (hsame : b.sameBut c ks) (hj : Part.journal ∉ ps) (hl : Part.lastRes ∉ ps)
    (hresult : ∀ k, resultKey p = some k → k ∉ ks) : a.obeys c p key raw ps ks := by
  obtain ⟨⟨hhead, e, es, hentries, hentry⟩, hcode, hshown, hparts, hkeys⟩ := h
  have hjournal : c.journal = b.journal := honly .journal hj
  have hlast : c.lastRes = b.lastRes := honly .lastRes hl
  refine ⟨⟨hjournal ▸ hhead, e, es, hjournal ▸ hentries, hentry⟩, hlast ▸ hcode, fun k hk => ?_, ?_, ?_⟩
  · rw [hsame k (hresult k hk), hlast, hshown k hk]
  · exact Work.only_trans (Work.only_mono hparts (List.cons_subset_cons _ (List.cons_subset_cons _ hps)))
      (Work.only_mono honly fun q hq => List.mem_cons_of_mem _ (List.mem_cons_of_mem _ hq))
  · have hwiden : acceptKeys p ++ ls ⊆ acceptKeys p ++ ks :=
      List.append_subset.mpr ⟨List.subset_append_left _ ks, List.Subset.trans hks (List.subset_append_right _ ks)⟩
    exact Work.sameBut_trans (Work.sameBut_mono hkeys hwiden) (Work.sameBut_mono hsame (List.subset_append_right _ ks))

/-! ### The write of EXPOSURE and CAM_GAIN -/

theorem Work.expGenAt_congr {a b : Work} (h : b.ports = a.ports) (p n : Nat) : b.expGenAt p n = a.expGenAt p n := by
  simp only [Work.expGenAt, Work.port, h]

/-- The state with generation g of a port pending for frame n. -/
def Work.pendGeneration (w : Work) (p n g : Nat) : Work :=
  ((w.updPort p (fun q => { q with exp := { q.exp with gens := (n, g) :: q.exp.gens, dueFor := q.exp.dueFor ++ [n] } })).set
    (Obj.expPendingGen p) g).set (Obj.expPendingFrame p) n

variable {w} in
/-- After the first commit the first write for a frame begins a generation. -/
theorem Work.newGeneration_eq {p : Nat} (hcommit : w.getN Obj.configGen ≠ 0)
    (hfirst : (w.port p).exp.gens.any (fun g => g.1 == w.frame + 2) = false) :
    w.newGeneration p = w.pendGeneration p (w.frame + 2) ((w.expGenAt p (w.frame + 2) + 1) % 2 ^ 32) := by
  simp only [Work.newGeneration, hcommit, hfirst, decide_false, Bool.or_false, Bool.false_eq_true, if_false]
  rfl

theorem Work.only_pendGeneration (p n g : Nat) : w.only (w.pendGeneration p n g) [.ports] :=
  Work.only_trans (w.only_updPort p _) (Work.only_trans (Work.only_set _ _ _ _) (Work.only_set _ _ _ _))

theorem Work.sameBut_pendGeneration (p n g : Nat) : w.sameBut (w.pendGeneration p n g) [Obj.expPendingGen p, Obj.expPendingFrame p] :=
  Work.sameBut_trans (w.sameBut_updPort p _ _) (Work.sameBut_trans (Work.sameBut_set _ _ (by simp)) (Work.sameBut_set _ _ (by simp)))

theorem Work.pendingFrame_pendGeneration (p n g : Nat) : (w.pendGeneration p n g).get (Obj.expPendingFrame p) = n := Work.get_set_same _ _ _

theorem Work.pendingGen_pendGeneration (p n g : Nat) : (w.pendGeneration p n g).get (Obj.expPendingGen p) = g := by
  rw [Work.pendGeneration, Work.get_set_other _ _ _ _ (subKeys_ne (by decide)), Work.get_set_same]

/-- The rows of EXPOSURE and CAM_GAIN differ in their index and name. -/
def exposureRow (base : Nat) (name : String) : ObjRow := ⟨base, 4, 32, 1, 8, name, .u32, .rwl, .frame2, .const 0, .any⟩

/-- An object of the exposure set of a port has such a row, and is none of the objects that its acceptance and its generation rest on or show. -/
def exposureKey (p key base : Nat) (name : String) : Bool :=
  decide (findRow (key / 256) (key % 256) = some (exposureRow base name)) && (List.range 3).all (fun i => key != Obj.groupCtrl i) &&
  decide (key ∉ [Obj.expPendingGen p, Obj.expPendingFrame p, Obj.configGen, Obj.resultPcie, Obj.resultCoe, Obj.resultYalind])

theorem exposureKey_exposure (p : Fin 32) (f : Fin 8) : exposureKey p (Obj.exposure p f) 0x5800 "EXPOSURE" = true := by
  decide +revert

theorem exposureKey_camGain (p : Fin 32) (f : Fin 8) : exposureKey p (Obj.camGain p f) 0x5801 "CAM_GAIN" = true := by
  decide +revert

/-- The objects of a pending generation are no result of a path and no count of the journal. -/
theorem pendingKeys_not_mem_results (p : Fin 32) : ∀ k ∈ [Obj.expPendingGen p, Obj.expPendingFrame p],
    k ∉ [Obj.overwritten, Obj.resultPcie, Obj.resultCoe, Obj.resultYalind] := by decide +revert

theorem field_u32 {v : Int} (hlo : 0 ≤ v) (hhi : v < 2 ^ 32) : field 32 v = v.toNat := by
  rw [field, Int.emod_eq_of_lt hlo (by exact_mod_cast hhi)]

section
variable {p : Fin 32} {key base : Nat} {name : String} (hkey : exposureKey p key base name = true)
include hkey

theorem row_of_exposureKey : findRow (key / 256) (key % 256) = some (exposureRow base name) ∧ (∀ path, foreignGroup path key = false) ∧
    key ∉ [Obj.expPendingGen p, Obj.expPendingFrame p, Obj.configGen, Obj.resultPcie, Obj.resultCoe, Obj.resultYalind] := by
  simp only [exposureKey, Bool.and_eq_true, decide_eq_true_eq] at hkey
  obtain ⟨⟨hrow, hgroup⟩, hother⟩ := hkey
  exact ⟨hrow, foreignGroup_of_ne hgroup, hother⟩

variable {w} {path : Path} (hr : w.ready path = true)
include hr

/-- A write of a member of the exposure set is accepted for the frame after next, and its effect follows. -/
theorem Work.writeNum_exposure {v : Int} (hlo : 0 ≤ v) (hhi : v < 2 ^ 32) (eff : Int → Work → Work) :
    w.writeNum path key (.num v) noCheck eff = eff v (w.acceptNum path (exposureRow base name) key v (w.frame + 2)) := by
  obtain ⟨hrow, hgroup, -⟩ := row_of_exposureKey hkey
  have hrange : Rng.any.check .u32 v = none := (if_neg (Int.not_lt.mpr (Int.le_of_lt_add_one hhi))).trans (if_neg (Int.not_lt.mpr hlo))
  have hcheck := w.checkNum_row path key v (exposureRow base name) hr (indexExists_of_findRow hrow) hrow (hgroup path) nofun rfl hrange rfl
  exact w.writeNum_ready path key _ _ _ none _ _ hr hcheck rfl

theorem Work.get_acceptNum_exposure (v : Int) (ef : Nat) : (w.acceptNum path (exposureRow base name) key v ef).get key = v := by
  obtain ⟨-, -, hother⟩ := row_of_exposureKey hkey
  have hresult : resultKey path ≠ some key := fun h =>
    hother (List.mem_append_right [Obj.expPendingGen p, Obj.expPendingFrame p, Obj.configGen] (resultKey_mem h))
  rw [Work.acceptNum_of_unpaired (Work.unpaired_of_ready hr), Work.get_setResult, if_neg hresult]
  exact Work.get_set_same _ _ _

end

/-- EXPOSURE_WRITE and CAM_GAIN_WRITE for a frame that no generation begins at yet. -/
theorem writeNum_beginsGeneration {c : Instr} {s : State} {path : Path} {p : Fin 32} {key base : Nat} {name : String} {v : Int}
    (hkey : exposureKey p key base name = true)
    (hc : exec c s = onWork (fun w => w.writeNum path key (.num v) noCheck (fun _ w => w.newGeneration p)) s) (hr : s.w.ready path = true)
    (hlo : 0 ≤ v) (hhi : v < 2 ^ 32) (hcommit : s.w.getN Obj.configGen ≠ 0)
    (hfirst : (s.w.port p).exp.gens.any (fun g => g.1 == s.w.frame + 2) = false) :
    Does c s (fun t => s.w.obeys t path key v.toNat [.ports, .changes] [key, Obj.expPendingGen p, Obj.expPendingFrame p] ∧ t.get key = v ∧
      t.get (Obj.expPendingFrame p) = s.w.frame + 2 ∧ t.get (Obj.expPendingGen p) = ((s.w.expGenAt p (s.w.frame + 2) + 1) % 2 ^ 32 : Nat)) := by
  let a := s.w.acceptNum path (exposureRow base name) key v (s.w.frame + 2)
  let g := (s.w.expGenAt p (s.w.frame + 2) + 1) % 2 ^ 32
  have hobeys : s.w.obeys a path key v.toNat [.changes] [key] :=
    field_u32 hlo hhi ▸ Work.obeys_acceptNum hr (Work.only_store _ (exposureRow base name) key v _) (by simp)
  have ⟨_, _, _, honly, hsame⟩ := hobeys
  obtain ⟨-, -, hother⟩ := row_of_exposureKey hkey
  have hapart := hother
  simp only [List.mem_cons, not_or] at hapart
  obtain ⟨hgenKey, hframeKey, hcommitKey, -⟩ := hapart
  have hports : a.ports = s.w.ports := honly .ports (by decide)
  have hframe : a.frame = s.w.frame := Work.frame_of_only honly (by decide) (by decide)
  have hgen : a.get Obj.configGen = s.w.get Obj.configGen :=
    hsame _ (by simpa using ⟨not_mem_acceptKeys (by decide), Ne.symm hcommitKey⟩)
  have hbegins : a.newGeneration p = a.pendGeneration p (s.w.frame + 2) g := by
    rw [Work.newGeneration_eq (by rwa [Work.getN, hgen]) (by rwa [Work.port, hports, hframe]), hframe, Work.expGenAt_congr hports]
  refine does_of_onWork hc ?_
  rw [Work.writeNum_exposure hkey hr hlo hhi, hbegins]
  refine ⟨?_, ?_, a.pendingFrame_pendGeneration _ _ _, a.pendingGen_pendGeneration _ _ _⟩
  · refine Work.obeys_effect hobeys (by simp) (by simp) (Work.only_mono (a.only_pendGeneration p _ g) (by simp))
      (Work.sameBut_mono (a.sameBut_pendGeneration p _ g) (by simp)) (by decide) (by decide) fun k hk hmem => ?_
    obtain rfl | hpending := List.mem_cons.mp hmem
    · exact hother (List.mem_append_right [Obj.expPendingGen p, Obj.expPendingFrame p, Obj.configGen] (resultKey_mem hk))
    · exact pendingKeys_not_mem_results p k hpending (List.mem_cons_of_mem _ (resultKey_mem hk))
  · rw [a.sameBut_pendGeneration p _ g key (by simp [hgenKey, hframeKey]), Work.get_acceptNum_exposure hkey hr]

/-! ### A generation comes into force -/

/-- EXP_GEN_ADVANCE at the frame of the newest generation. -/
theorem expGenAdvance_takesNewest {s : State} {p : Fin 32} {g : Nat × Nat} {rest : List (Nat × Nat)} (hgens : (s.w.port p).exp.gens = g :: rest)
    (hcome : g.1 ≤ s.w.frame) (hdue : s.w.getN (Obj.expPendingFrame p) ≤ s.w.frame) (hframe : s.w.frame < noFrame) :
    Does (.expGenAdvance p) s (fun t =>
      t = (((s.w.set (Obj.expGen p) (g.2 : Int)).set (Obj.expPendingGen p) (g.2 : Int)).set (Obj.expPendingFrame p) noFrame)) := by
  have hnewest : s.w.expGenAt p s.w.frame = g.2 := by simp [Work.expGenAt, hgens, hcome]
  have hpending : s.w.getN (Obj.expPendingFrame p) ≠ noFrame := by omega
  have hkept : ∀ v, ((s.w.set (Obj.expGen p) v).port p).exp.gens = g :: rest := fun _ => hgens
  have hnow : ∀ v, g.1 ≤ (s.w.set (Obj.expGen p) v).frame := fun _ => hcome
  refine does_of_onWork rfl ?_
  simp only [expGenAdvance, hnewest, Nat.not_lt.mpr hdue, hpending, decide_false, Bool.false_and, Bool.or_false, Bool.false_eq_true, if_false,
    hkept, List.head?_cons, hnow, if_true]

/-! ### An exposure set unanswered -/

theorem counterMax_expFaults (p : Fin 32) : counterMax (Obj.expFaults p) = 0xFFFFFFFF := by decide +revert

/-- EXP_FAULT after 200 ms, with nothing waiting for the port's next message. -/
theorem expFault_counts {s : State} {p : Fin 32} (hexpired : s.w.expired (.expWrite p) 200000000 = true) (hexp : (s.w.port p).expWait = false)
    (hpass : (s.w.port p).passWait = none) :
    Does (.expFault p) s (fun t => t.get (Obj.expFaults p) = min (s.w.get (Obj.expFaults p) + 1) 0xFFFFFFFF ∧
      t.get (Obj.expFlags p) = Int.ofNat (s.w.getN (Obj.expFlags p) ||| 1) ∧
      t.ports = upd s.w.ports p (fun q => { q with txn := none, exp := { q.exp with resend := true } }) ∧ s.w.only t [.ports, .timers] ∧
      s.w.sameBut t [Obj.expFaults p, Obj.expFlags p]) := by
  let v := s.w.freed p .expSet
  let u := (v.flag (Obj.expFlags p) 1).bump (Obj.expFaults p)
  have hresent : ∀ {α : Type} (get : Port → α), (∀ q e, get { q with exp := e } = get q) → (∀ q, get { q with txn := none } = get q) →
      get ((v.expFail p).port p) = get (s.w.port p) := fun get he ht =>
    (u.field_updPort get (f := fun q => { q with exp := { q.exp with resend := true } }) (fun q => he q _) p).trans (s.w.field_freed get ht p .expSet)
  have hfails : expFault p s.w = v.expFail p :=
    (if_pos hexpired).trans (Work.nextTxn_of_none ((hresent Port.expWait (fun _ _ => rfl) fun _ => rfl).trans hexp)
      ((hresent Port.passWait (fun _ _ => rfl) fun _ => rfl).trans hpass))
  refine does_of_onWork rfl ?_
  rw [hfails]
  refine ⟨?_, ?_, upd_upd _ _ _ _, ?_, ?_⟩
  · show u.get _ = _
    rw [Work.get_bump, if_pos rfl, Work.get_flag, if_neg (subKeys_ne (by decide)), counterMax_expFaults]
    rfl
  · show u.get _ = _
    rw [Work.get_bump, if_neg (subKeys_ne (by decide)), Work.get_flag, if_pos rfl]
    rfl
  · exact Work.only_trans (s.w.only_freed p .expSet) (Work.only_trans (Work.only_flag _ _ _ _)
      (Work.only_trans (Work.only_bump _ _ _ _) (Work.only_mono (u.only_updPort p _) (by simp))))
  · exact Work.sameBut_trans (v.sameBut_flag _ (by simp)) (Work.sameBut_trans (Work.sameBut_bump _ _ (by simp)) (u.sameBut_updPort p _ _))

/-- Settles O38: the statistics by what a bank and a slot change, the exposure by what a generation pending and a set failed change. -/
theorem statisticsAndExposureAdvance : Obligations.StatisticsAndExposureAdvance :=
  ⟨fun _ _ _ _ _ => statFrameComplete_reads, fun _ _ _ _ => statRecordDelivered_delivers,
    fun _ _ p f _ => writeNum_beginsGeneration (exposureKey_exposure p f) rfl,
    fun _ _ p f _ => writeNum_beginsGeneration (exposureKey_camGain p f) rfl,
    fun _ _ _ _ => expGenAdvance_takesNewest, fun _ _ => expFault_counts⟩

end Sys2Proof.Machine
end

section
/-! The half-band stages (R312, R313): the taps by their distance from the centre, and what a stage makes of a constant input. -/
namespace Sys2Proof.Machine

/-! ### The table of coefficients -/

/-- There are two kinds of stage: what holds of the 19-tap form and of the 11-tap form holds of every kind. -/
theorem halfTaps_ind {P : List (Int × Int) → Prop} (h19 : P (halfTaps 0)) (h11 : P (halfTaps 1)) (kind : Nat) : P (halfTaps kind) := by
  rcases kind with - | kind
  · exact h19
  · exact h11

theorem halfTaps_natAbs_le (kind : Nat) : ∀ t ∈ halfTaps kind, t.1.natAbs ≤ 9 :=
  halfTaps_ind (P := fun ts => ∀ t ∈ ts, t.1.natAbs ≤ 9) (by decide) (by decide) kind

/-- Beyond the ninth distance nothing is tapped. -/
theorem filter_halfTaps_of_far {d : Int} (hd : 9 < d.natAbs) (kind : Nat) : (halfTaps kind).filter (fun t => t.1 == d) = [] := by
  simp only [List.filter_eq_nil_iff, beq_iff_eq]
  rintro t ht rfl
  exact absurd (halfTaps_natAbs_le kind t ht) (Nat.not_le.mpr hd)

theorem mem_Icc_of_natAbs_le {d : Int} (hd : d.natAbs ≤ 9) : d ∈ Finset.Icc (-9 : Int) 9 := by
  rw [Finset.mem_Icc]
  omega

theorem filter_halfTaps_zero (d : Int) : (halfTaps 0).filter (fun t => t.1 == d) =
    (if d = 0 then [(d, 65536)] else if d.natAbs = 1 then [(d, 41183)] else if d.natAbs = 3 then [(d, -12583)] else if d.natAbs = 5 then [(d, 6029)]
     else if d.natAbs = 7 then [(d, -2792)] else if d.natAbs = 9 then [(d, 931)] else []) := by
  obtain hnear | hfar := le_or_gt d.natAbs 9
  · have htable := mem_Icc_of_natAbs_le hnear
    clear hnear
    decide +revert
  · rw [filter_halfTaps_of_far hfar]
    rw [if_neg (by omega), if_neg (by omega), if_neg (by omega), if_neg (by omega), if_neg (by omega), if_neg (by omega)]

theorem filter_halfTaps_one (d : Int) : (halfTaps 1).filter (fun t => t.1 == d) =
    (if d = 0 then [(d, 65536)] else if d.natAbs = 1 then [(d, 39191)] else if d.natAbs = 3 then [(d, -7865)] else if d.natAbs = 5 then [(d, 1442)]
     else []) := by
  obtain hnear | hfar := le_or_gt d.natAbs 9
  · have htable := mem_Icc_of_natAbs_le hnear
    clear hnear
    decide +revert
  · rw [filter_halfTaps_of_far hfar, if_neg (by omega), if_neg (by omega), if_neg (by omega), if_neg (by omega)]

/-- The taps are symmetric about the centre, and beside it stand at odd distances. -/
theorem halfTaps_symmetric_odd (kind : Nat) : ∀ t ∈ halfTaps kind, (-t.1, t.2) ∈ halfTaps kind ∧ (t.1 = 0 ∨ t.1 % 2 = 1) :=
  halfTaps_ind (P := fun ts => ∀ t ∈ ts, (-t.1, t.2) ∈ ts ∧ (t.1 = 0 ∨ t.1 % 2 = 1)) (by decide) (by decide) kind

theorem sum_halfTaps (kind : Nat) : ((halfTaps kind).map (·.2)).sum = 131072 :=
  halfTaps_ind (P := fun ts => (ts.map (·.2)).sum = 131072) (by decide) (by decide) kind

/-! ### A constant input -/

/-- The weighted sum of one input under every tap is the input times the sum of the taps. -/
theorem foldl_constant (ts : List (Int × Int)) (x : Samp) (acc : Int) :
    (ts.map (fun t => (t.2, x))).foldl (fun (acc : Int) (y : Int × Samp) => acc + y.1 * Int.ofNat y.2.v) acc = acc + (ts.map (·.2)).sum * x.v := by
  induction ts generalizing acc with
  | nil => simp
  | cons t ts ih =>
    rw [List.map_cons, List.foldl_cons, ih, List.map_cons, List.sum_cons, Int.ofNat_eq_natCast]
    ring

/-- The rounding of R312 gives back a 16-bit value that the taps have multiplied by their sum. -/
theorem round_sum_mul {v : Nat} (hv : v < 65536) : (clampInt 0 65535 ((131072 * (v : Int) + 65536) / 131072)).toNat = v := by
  have hround : (131072 * (v : Int) + 65536) / 131072 = v := by omega
  rw [hround, clampInt, if_neg (by omega), if_neg (by omega), Int.toNat_natCast]

theorem all_constant {α : Type} {xs : List α} (hne : xs ≠ []) (b : Bool) : xs.all (fun _ => b) = b := by
  cases b <;> simp [List.exists_mem_of_ne_nil xs hne]

theorem any_constant {α : Type} {xs : List α} (hne : xs ≠ []) (b : Bool) : xs.any (fun _ => b) = b := by
  cases b <;> simp [List.exists_mem_of_ne_nil xs hne]

/-- Some taps that sum to 131,072 pass a constant, its validity and its marks. -/
theorem halfOut_constant {ts : List (Int × Int)} (hne : ts ≠ []) (hsum : (ts.map (·.2)).sum = 131072) {x : Samp} (hx : x.v < 65536) :
    halfOut (ts.map (fun t => (t.2, x))) = x := by
  have hok : (ts.map (fun t => (t.2, x))).all (fun y => y.2.ok) = x.ok := (List.all_map ..).trans (all_constant hne x.ok)
  have hmark : ∀ b : Samp → Bool, (ts.map (fun t => (t.2, x))).any (fun y => b y.2) = b x := fun b =>
    (List.any_map ..).trans (any_constant hne (b x))
  simp only [halfOut, foldl_constant, hsum, zero_add, round_sum_mul hx, hok, hmark Samp.stale, hmark Samp.uncal]

theorem halfTaps_ne_nil (kind : Nat) : halfTaps kind ≠ [] := halfTaps_ind (P := (· ≠ [])) nofun nofun kind

/-- Settles O7: within nine of the centre the distances are looked up, beyond it there is no tap, and what sums to 131,072 passes a constant. -/
theorem halfBandTapsAreTheTable : Obligations.HalfBandTapsAreTheTable :=
  ⟨filter_halfTaps_zero, filter_halfTaps_one, fun kind d v => halfTaps_symmetric_odd kind (d, v), sum_halfTaps, by decide, by decide,
    fun kind _ => halfOut_constant (halfTaps_ne_nil kind) (sum_halfTaps kind)⟩

end Sys2Proof.Machine
end

section
/-! A stream that the module does not have: the objects of its eight streams have keys of their own, and the statement about a member that is complete
also speaks of a record of stream 3,040, of which STREAM_FLAGS has the key of COMP_IN_BYTES. -/
namespace Sys2Proof.Machine

/-- Engine 0 with an empty record of stream 3,040, and DEST 2, UDP, in force for it. -/
def strayMember : State :=
  { State.reset with w := { State.reset.w with
    streams := { engines := [⟨some { stream := 3040, frame := 0, seq := 0, head := 0, raw := [], compress := true }, false⟩] },
    d := { changes := [⟨0, Obj.dest 3040, 2⟩] } } }

/-- Refutes O39: without room the record is dropped, and its flag in STREAM_FLAGS makes COMP_IN_BYTES 1 where the statement has 0. -/
theorem not_streamRecordsFlowAndCompress : ¬ Obligations.StreamRecordsFlowAndCompress := by
  rintro ⟨-, -, -, -, -, -, hmember, -⟩
  refine not_does_of_onWork rfl ?_ (hmember strayMember 0 false _ rfl (by decide))
  rintro ⟨-, -, hcount, -⟩
  exact absurd hcount (by decide)

end Sys2Proof.Machine
end

section
/-! Fuses (R503, R504, R509): whatever a command does, a burnt fuse stays burnt, a valid key keeps its digest, and the rollback counter never falls. -/
namespace Sys2Proof.Machine

theorem KeySlot.keeps_refl (k : KeySlot) : k.keeps k := ⟨fun h => ⟨h, rfl⟩, id⟩

theorem KeySlot.keeps_trans {a b c : KeySlot} (hab : a.keeps b) (hbc : b.keeps c) : a.keeps c := by
  obtain ⟨hvalid, hrevoked⟩ := hab
  obtain ⟨hvalid', hrevoked'⟩ := hbc
  refine ⟨fun h => ?_, fun h => hrevoked' (hrevoked h)⟩
  obtain ⟨hb, hdigest⟩ := hvalid h
  obtain ⟨hc, hdigest'⟩ := hvalid' hb
  exact ⟨hc, hdigest'.trans hdigest⟩

theorem Fuses.Keeps.refl (f : Fuses) : f.Keeps f := ⟨fun _ => KeySlot.keeps_refl _, rfl, id, id, id, le_rfl⟩

theorem Fuses.Keeps.of_eq {f g : Fuses} (h : g = f) : f.Keeps g := h ▸ .refl f

theorem Fuses.Keeps.trans {a b c : Fuses} (hab : a.Keeps b) (hbc : b.Keeps c) : a.Keeps c :=
  ⟨fun k => KeySlot.keeps_trans (hab.keys k) (hbc.keys k), hbc.slots.trans hab.slots, fun h => hbc.signProfiles (hab.signProfiles h),
    fun h => hbc.signModels (hab.signModels h), fun h => hbc.debugLock (hab.debugLock h), hab.rollback.trans hbc.rollback⟩

/-- A change of one key slot keeps the fuses when it keeps that slot. -/
theorem Fuses.keeps_updKey (f : Fuses) (k : Nat) {g : KeySlot → KeySlot} (h : (nth {} f.keys k).keeps (g (nth {} f.keys k))) :
    f.Keeps { f with keys := upd f.keys k g } := by
  refine ⟨fun j => ?_, upd_length .., id, id, id, le_rfl⟩
  rw [nth_upd]
  split
  · next hjk => exact hjk.1 ▸ h
  · exact KeySlot.keeps_refl _

/-- A change of both parts that keeps the fuses. -/
def KeepsFuses (g : Both → Both) : Prop := ∀ x : Both, x.1.fuses.Keeps (g x).1.fuses

/-- The same fuses stand in a pair with another working state. -/
theorem Fuses.keeps_pair (nv : NonVol) (w : Work) : nv.fuses.Keeps ((nv, w) : Both).1.fuses := .refl _

theorem KeepsFuses.at {g : Both → Both} (h : KeepsFuses g) (nv : NonVol) (w : Work) : nv.fuses.Keeps (g (nv, w)).1.fuses := h (nv, w)

theorem keepsFuses_of_eq {g : Both → Both} (h : ∀ x, (g x).1.fuses = x.1.fuses) : KeepsFuses g := fun x => .of_eq (h x)

theorem KeepsFuses.then {g : Both → Both} (h : KeepsFuses g) {f : Fuses} {x : Both} (hx : f.Keeps x.1.fuses) : f.Keeps (g x).1.fuses :=
  hx.trans (h x)

theorem keepsFuses_foldl {α : Type} {g : Both → α → Both} (as : List α) (h : ∀ a, KeepsFuses fun x => g x a) : KeepsFuses fun x => as.foldl g x := by
  intro x
  induction as generalizing x with
  | nil => exact .refl _
  | cons a as ih => exact (h a x).trans (ih _)

/-! ### Writes whose effect keeps the fuses -/

theorem writeNumNv_keepsFuses {p : Path} {key : Nat} {v : DictVal} {chk : Work → Option Res} {eff : Both → Both} {ef : Option Nat}
    (h : KeepsFuses eff) (x : Both) : x.1.fuses.Keeps (writeNumNv p key v chk eff x ef).1.fuses := by
  simp only [writeNumNv]
  split
  · exact .refl _
  split
  · exact .refl _
  split
  · exact .refl _
  split
  · exact .refl _
  · exact h.at x.1 _

theorem writeBlobNv_keepsFuses {p : Path} {key : Nat} {b : Bytes} {chk : NonVol → Work → Bytes → Option Res} {eff : Both → Both}
    (h : KeepsFuses eff) (x : Both) : x.1.fuses.Keeps (writeBlobNv p key b chk eff x).1.fuses := by
  simp only [writeBlobNv]
  split
  · exact .refl _
  split
  · exact .refl _
  split
  · exact .refl _
  split
  · exact .refl _
  · exact h.at x.1 _

/-! ### The commands that burn (R503, R504, R509) -/

theorem keepsFuses_burnFuse {burnt : Fuses → Bool} {set : Fuses → Fuses} (h : ∀ f, burnt f = false → f.Keeps (set f)) (good : Bool) :
    KeepsFuses (burnFuse burnt set good) := by
  intro x
  unfold burnFuse
  split
  · exact .refl _
  next hburnt =>
  split
  · exact h _ (by simpa using hburnt)
  · exact .refl _

theorem keepsFuses_fuseAct (code : Nat) (good : Bool) : KeepsFuses (fuseAct code good) := by
  intro x
  unfold fuseAct
  split
  · refine keepsFuses_burnFuse ?_ good x
    exact fun f _ => ⟨fun _ => KeySlot.keeps_refl _, rfl, id, id, fun _ => rfl, le_rfl⟩
  split
  · refine keepsFuses_burnFuse ?_ good x
    exact fun f _ => ⟨fun _ => KeySlot.keeps_refl _, rfl, fun _ => rfl, id, id, le_rfl⟩
  split
  · refine keepsFuses_burnFuse ?_ good x
    exact fun f _ => ⟨fun _ => KeySlot.keeps_refl _, rfl, id, fun _ => rfl, id, le_rfl⟩
  · refine keepsFuses_burnFuse ?_ good x
    exact fun f _ => f.keeps_updKey _ ⟨fun h => ⟨h, rfl⟩, fun _ => rfl⟩

theorem keepsFuses_fuseCommand (p : Path) (code : Nat) (good : Bool) : KeepsFuses (fuseCommand p code good) :=
  writeNumNv_keepsFuses (keepsFuses_fuseAct code good)

/-- A key goes into an empty slot only, and that slot was not valid. -/
theorem keepsFuses_burnKey (key : Bytes) (good : Bool) : KeepsFuses (burnKey key good) := by
  intro x
  unfold burnKey
  split
  · exact .refl _
  next k hk =>
  have hempty : (nth {} x.1.fuses.keys k).valid = false := by
    have := List.find?_some hk
    simp [KeySlot.empty] at this
    exact this.1
  split
  · exact x.1.fuses.keeps_updKey k ⟨fun h => by simp [hempty] at h, id⟩
  · exact .refl _

theorem keepsFuses_ownerKeyBurn (p : Path) (key : Bytes) (good : Bool) : KeepsFuses (ownerKeyBurn p key good) :=
  writeBlobNv_keepsFuses (keepsFuses_burnKey key good)

theorem keepsFuses_rollbackAct (good : Bool) : KeepsFuses (rollbackAct good) := by
  intro x
  simp only [rollbackAct]
  split
  · exact .refl _
  split
  · exact .refl _
  next hlow =>
  split
  · exact ⟨fun _ => KeySlot.keeps_refl _, rfl, id, id, id, Nat.le_of_not_le hlow⟩
  · exact .refl _

theorem keepsFuses_rollbackCommit (p : Path) (good : Bool) : KeepsFuses (rollbackCommit p good) :=
  writeNumNv_keepsFuses (keepsFuses_rollbackAct good)

theorem keepsFuses_fused {f : Bool → Both → Both} (h : ∀ good, KeepsFuses (f good)) : KeepsFuses (fused f) := fun x => (h x.2.chance.1).at x.1 x.2.chance.2

/-! ### The flash and the resets -/

theorem keepsFuses_profileImageWrite (p : Path) (s : Fin 4) (b : Bytes) : KeepsFuses (profileImageWrite p s b) :=
  writeBlobNv_keepsFuses fun _ => .refl _

theorem keepsFuses_profileEraseCmd (p : Path) (s : Fin 4) : KeepsFuses (profileEraseCmd p s) := fun x =>
  writeNumNv_keepsFuses (eff := fun x => showProf (x.1.putProfile s {} none, x.2)) (fun _ => .refl _) x

theorem keepsFuses_serviceImageWrite (path : Path) (p : PortNo) (b : Bytes) : KeepsFuses (serviceImageWrite path p b) :=
  writeBlobNv_keepsFuses fun _ => .refl _

theorem keepsFuses_fwImageWrite (p : Path) (b : Bytes) : KeepsFuses (fwImageWrite p b) := writeBlobNv_keepsFuses fun _ => .refl _

theorem keepsFuses_fwProgramDone : KeepsFuses fwProgramDone := by
  intro x
  unfold fwProgramDone
  split <;> exact .refl _

theorem keepsFuses_profileProgramDone : KeepsFuses profileProgramDone := by
  intro x
  unfold profileProgramDone
  split <;> exact .refl _

theorem keepsFuses_warmResetBoth : KeepsFuses warmResetBoth := fun x => .of_eq x.1.fuses_tear

theorem keepsFuses_coldReset : KeepsFuses coldReset := fun x => .of_eq x.1.fuses_tear

theorem keepsFuses_resetAct : KeepsFuses resetAct := by
  intro x
  unfold resetAct
  split
  · exact .refl _
  · exact keepsFuses_warmResetBoth x

theorem keepsFuses_resetCmd (p : Path) : KeepsFuses (resetCmd p) := writeNumNv_keepsFuses keepsFuses_resetAct

theorem keepsFuses_warmResetAssert : KeepsFuses warmResetAssert := by
  intro x
  unfold warmResetAssert
  split
  · exact keepsFuses_warmResetBoth x
  · exact .refl _

theorem keepsFuses_holdupExpiry : KeepsFuses holdupExpiry := by
  intro x
  unfold holdupExpiry
  split
  · exact keepsFuses_coldReset x
  · exact .refl _

/-! ### The rows of the command table -/

theorem keepsFuses_wk (f : Work → Work) : KeepsFuses (wk f) := fun _ => .refl _

theorem keepsFuses_dtBegin : KeepsFuses dtBegin := by
  intro x
  simp only [dtBegin]
  split
  · exact .refl _
  split
  · exact .refl _
  · exact .refl _
  split <;> exact .refl _

theorem keepsFuses_dtStop : KeepsFuses dtStop := by
  intro x
  unfold dtStop
  split <;> exact .refl _

theorem keepsFuses_dtCtrl (p : Path) (v : Int) : KeepsFuses (dtCtrl p v) := by
  refine writeNumNv_keepsFuses ?_
  split
  · exact keepsFuses_dtBegin
  · exact keepsFuses_dtStop

/-- A row all of whose commands keep the fuses. -/
def RowKeepsFuses (e : At NumRow) : Prop := ∀ (i : Nat) (p : Path) (v : Int) (f : Both → Both), e.act i p v = some f → KeepsFuses f

theorem rowKeepsFuses_codes {base stride count sub : Nat} {rows : Nat → List (Int × (Path → Both → Both))}
    (h : ∀ i p, ∀ r ∈ rows i, KeepsFuses (r.2 p)) : RowKeepsFuses ⟨base, stride, count, sub, fun i => codes (rows i)⟩ := by
  intro i p v f hf
  obtain ⟨r, hr, rfl⟩ := Option.map_eq_some_iff.mp hf
  exact h i p r (List.mem_of_find?_eq_some hr)

theorem rowKeepsFuses_some {base stride count sub : Nat} {row : Nat → Path → Int → Both → Both} (h : ∀ i p v, KeepsFuses (row i p v)) :
    RowKeepsFuses ⟨base, stride, count, sub, fun i p v => some (row i p v)⟩ := by
  intro i p v f hf
  obtain rfl := Option.some.inj hf
  exact h i p v

theorem plantRows_keepFuses : ∀ e ∈ plantRows, RowKeepsFuses e := by
  simp only [plantRows, List.forall_mem_append, List.forall_mem_cons, List.forall_mem_map, List.not_mem_nil, false_imp_iff, implies_true,
    and_true]
  refine ⟨⟨⟨rowKeepsFuses_codes fun l p => ?_, rowKeepsFuses_codes fun l p => ?_, rowKeepsFuses_codes fun l p => ?_,
    rowKeepsFuses_codes fun q p => ?_, rowKeepsFuses_codes fun q p => ?_, rowKeepsFuses_some fun i p v => ?_⟩,
    fun f hf => rowKeepsFuses_some fun q p v => ?_⟩, fun f hf => rowKeepsFuses_some fun q p v => ?_⟩
  case refine_6 | refine_7 | refine_8 => exact keepsFuses_wk _
  all_goals
    simp only [List.forall_mem_cons, List.not_mem_nil, false_imp_iff, implies_true, and_true]
    and_intros
    all_goals exact fun _ => .refl _

theorem calRows_keepFuses : ∀ e ∈ calRows, RowKeepsFuses e := by
  simp only [calRows, List.forall_mem_cons, List.not_mem_nil, false_imp_iff, implies_true, and_true]
  refine ⟨rowKeepsFuses_codes fun q p => ?_, rowKeepsFuses_codes fun _ p => ?_, rowKeepsFuses_codes fun q p => ?_,
    rowKeepsFuses_codes fun q p => ?_, fun i p v f hf => ?_⟩
  case refine_5 =>
    obtain ⟨-, hf⟩ := Option.ite_none_left_eq_some.mp hf
    obtain rfl := Option.some.inj hf
    exact keepsFuses_wk _
  all_goals
    simp only [List.forall_mem_cons, List.not_mem_nil, false_imp_iff, implies_true, and_true]
    and_intros
    all_goals exact fun _ => .refl _

theorem outputRows_keepFuses : ∀ e ∈ outputRows, RowKeepsFuses e := by
  simp only [outputRows, List.forall_mem_cons, List.not_mem_nil, false_imp_iff, implies_true, and_true]
  refine ⟨rowKeepsFuses_codes fun s p => ?_, rowKeepsFuses_codes fun m p => ?_, rowKeepsFuses_codes fun e p => ?_,
    rowKeepsFuses_some fun k p v => keepsFuses_wk _, rowKeepsFuses_codes fun k p => ?_, rowKeepsFuses_codes fun a p => ?_,
    rowKeepsFuses_codes fun a p => ?_, rowKeepsFuses_codes fun g p => ?_⟩
  all_goals
    simp only [List.forall_mem_cons, List.not_mem_nil, false_imp_iff, implies_true, and_true]
    and_intros
    all_goals exact fun _ => .refl _

theorem hubRows_keepFuses : ∀ e ∈ hubRows, RowKeepsFuses e := by
  simp only [hubRows, List.forall_mem_cons, List.not_mem_nil, false_imp_iff, implies_true, and_true]
  refine ⟨rowKeepsFuses_codes fun c p => ?_, rowKeepsFuses_codes fun n p => ?_, rowKeepsFuses_codes fun c p => ?_,
    rowKeepsFuses_codes fun c p => ?_, fun i p v f hf => ?_, rowKeepsFuses_codes fun _ p => ?_, rowKeepsFuses_codes fun _ p => ?_,
    rowKeepsFuses_codes fun _ p => ?_, fun i p v f hf => ?_⟩
  case refine_5 =>
    obtain ⟨-, hf⟩ := Option.ite_none_left_eq_some.mp hf
    obtain rfl := Option.some.inj hf
    exact keepsFuses_wk _
  case refine_9 =>
    obtain ⟨-, hf⟩ := Option.ite_none_right_eq_some.mp hf
    obtain rfl := Option.some.inj hf
    exact keepsFuses_dtCtrl p v
  case refine_7 =>
    simp only [List.forall_mem_map]
    exact fun k _ => keepsFuses_fused (keepsFuses_fuseCommand p _)
  case refine_8 =>
    simp only [List.forall_mem_cons, List.not_mem_nil, false_imp_iff, implies_true, and_true]
    exact keepsFuses_fused (keepsFuses_rollbackCommit p)
  all_goals
    simp only [List.forall_mem_cons, List.not_mem_nil, false_imp_iff, implies_true, and_true, List.forall_mem_map]
    and_intros
    all_goals exact fun _ => .refl _

theorem numRows_keepFuses : ∀ e ∈ plantRows ++ calRows ++ outputRows ++ hubRows, RowKeepsFuses e := by
  simp only [List.forall_mem_append]
  exact ⟨⟨⟨plantRows_keepFuses, calRows_keepFuses⟩, outputRows_keepFuses⟩, hubRows_keepFuses⟩

theorem blobRows_keepFuses : ∀ e ∈ blobRows, ∀ (i : Nat) (p : Path) (b : Bytes), KeepsFuses (e.act i p b) := by
  simp only [blobRows, List.forall_mem_cons, List.not_mem_nil, false_imp_iff, implies_true, and_true]
  refine ⟨fun i p b => keepsFuses_wk _, fun q p b => keepsFuses_wk _, fun _ p b => keepsFuses_wk _, fun m p b => keepsFuses_of_eq fun _ => rfl,
    fun c p b => keepsFuses_wk _, fun _ p b => keepsFuses_fwImageWrite p b, fun _ p b => keepsFuses_fused (keepsFuses_ownerKeyBurn p b),
    fun _ p b => keepsFuses_wk _⟩

/-! ### The routing of a write -/

theorem keepsFuses_writeBase (p : Path) (key : Nat) (v : DictVal) : KeepsFuses (writeBase p key v) := by
  intro x
  unfold writeBase
  split
  · exact .refl _
  split
  · split
    · exact .refl _
    split
    · next f hf =>
      obtain ⟨e, he, i, -, rfl⟩ := atKey_eq_some hf
      exact blobRows_keepFuses e he i p _ x
    · exact .refl _
  split
  · next f hf =>
    obtain ⟨n, -, hrow⟩ := Option.bind_eq_some_iff.mp hf
    obtain ⟨row, hat, hact⟩ := Option.bind_eq_some_iff.mp hrow
    obtain ⟨e, he, i, -, rfl⟩ := atKey_eq_some hat
    exact numRows_keepFuses e he i p n f hact x
  · exact .refl _

theorem keepsFuses_writeEntry (p : Path) (key : Nat) (v : DictVal) : KeepsFuses (writeEntry p key v) := by
  intro x
  unfold writeEntry
  split
  · exact .refl _
  split
  · split
    · exact keepsFuses_profileImageWrite p _ _ x
    split
    · exact keepsFuses_serviceImageWrite p _ _ x
    split
    · split
      · exact keepsFuses_profileEraseCmd p _ x
      · exact keepsFuses_writeBase p key _ x
    · exact keepsFuses_writeBase p key _ x
  · split
    · split
      · exact keepsFuses_profileEraseCmd p _ x
      · exact keepsFuses_writeBase p key _ x
    · exact keepsFuses_writeBase p key _ x

theorem applyEntries_keepsFuses {p : Path} {es : List ProfEntry} {x y : Both} (h : applyEntries p es x = .ok y) : x.1.fuses.Keeps y.1.fuses := by
  induction es generalizing x with
  | nil =>
    obtain rfl : x = y := by simpa [applyEntries] using h
    exact .refl _
  | cons e es ih =>
    simp only [applyEntries] at h
    split at h
    · cases h
    · exact (keepsFuses_writeEntry p e.key (.bytes e.value) x).trans (ih h)

/-! ### Loads and commands that wait -/

theorem keepsFuses_loadRun (s : Nat) : KeepsFuses (loadRun s) := by
  intro x
  simp only [loadRun]
  split
  · exact Fuses.keeps_pair _ _
  split
  · exact Fuses.keeps_pair _ _
  next y hy =>
  split
  · exact Fuses.keeps_pair _ _
  split
  · exact (applyEntries_keepsFuses hy).trans (Fuses.keeps_pair _ _)
  · exact Fuses.keeps_pair _ _

theorem keepsFuses_portApply (p : Nat) : KeepsFuses (portApply p) := by
  intro x
  simp only [portApply]
  split
  · exact Fuses.keeps_pair _ _
  split
  · exact Fuses.keeps_pair _ _
  next y hy =>
  split
  · exact (applyEntries_keepsFuses hy).trans (Fuses.keeps_pair _ _)
  · exact Fuses.keeps_pair _ _

theorem keepsFuses_portApplyResume (path : Path) (p : PortNo) : KeepsFuses (portApplyResume path p) := fun x =>
  writeNumNv_keepsFuses (keepsFuses_portApply p) x

theorem keepsFuses_actNow (c : Waiting) : KeepsFuses (actNow c) := by
  intro x
  simp only [actNow]
  split
  · exact Fuses.keeps_pair _ _
  split
  · exact Fuses.keeps_pair _ _
  split
  · exact Fuses.keeps_pair _ _
  · split
    · exact Fuses.keeps_pair _ _
    · exact (keepsFuses_loadRun _).at x.1 _
  · split <;> exact Fuses.keeps_pair _ _

theorem keepsFuses_actOrWait (c : Waiting) : KeepsFuses (actOrWait c) := by
  intro x
  simp only [actOrWait]
  split
  · exact Fuses.keeps_pair _ _
  split
  · exact Fuses.keeps_pair _ _
  · exact (keepsFuses_actNow c).at x.1 _

theorem keepsFuses_releaseWaiting : KeepsFuses releaseWaiting := by
  intro x
  simp only [releaseWaiting]
  split
  · exact .refl _
  split
  · exact .refl _
  · exact (keepsFuses_actNow _).at x.1 _

theorem keepsFuses_idleWakeDone : KeepsFuses idleWakeDone := by
  intro x
  unfold idleWakeDone
  split
  · exact keepsFuses_releaseWaiting.at x.1 _
  · exact .refl _

theorem keepsFuses_stopDrainEnd : KeepsFuses stopDrainEnd := by
  intro x
  simp only [stopDrainEnd]
  split
  · exact .refl _
  · exact keepsFuses_releaseWaiting.at x.1 _

theorem keepsFuses_runCmd (p : Path) (v : DictVal) : KeepsFuses (runCmd p v) := fun _ => .refl _

theorem keepsFuses_calAct (code : Nat) : KeepsFuses (calAct code) := by
  intro x
  simp only [calAct]
  split
  · split <;> exact Fuses.keeps_pair _ _
  · exact keepsFuses_actOrWait _ x

theorem keepsFuses_modeWrite (p : Path) (key : Nat) (code : Int) {act : Both → Both} (h : KeepsFuses act) : KeepsFuses (modeWrite p key code act) :=
  writeNumNv_keepsFuses h

theorem modeRow_keepsFuses {p : Path} {key : Nat} {n : Int} {f : Both → Both} (hf : modeRow p key n = some f) : KeepsFuses f := by
  unfold modeRow at hf
  split at hf
  · exact Option.some.inj hf ▸ keepsFuses_runCmd p _
  split at hf
  · exact Option.some.inj hf ▸ keepsFuses_modeWrite p _ _ (keepsFuses_calAct _)
  split at hf
  · exact Option.some.inj hf ▸ keepsFuses_resetCmd p
  split at hf
  · exact Option.some.inj hf ▸ keepsFuses_modeWrite p _ _ (keepsFuses_actOrWait _)
  split at hf
  · exact Option.some.inj hf ▸ keepsFuses_modeWrite p _ _ (keepsFuses_actOrWait _)
  split at hf
  · obtain ⟨-, hf⟩ := Option.ite_none_right_eq_some.mp hf
    exact Option.some.inj hf ▸ keepsFuses_profileEraseCmd p _
  · obtain ⟨-, hf⟩ := Option.ite_none_right_eq_some.mp hf
    exact Option.some.inj hf ▸ keepsFuses_portApplyResume p _
  · cases hf

theorem imageRow_keepsFuses {p : Path} {key : Nat} {b : Bytes} {f : Both → Both} (hf : imageRow p key b = some f) : KeepsFuses f := by
  unfold imageRow at hf
  split at hf
  · exact Option.some.inj hf ▸ keepsFuses_profileImageWrite p _ b
  · exact Option.some.inj hf ▸ keepsFuses_serviceImageWrite p _ b
  · cases hf

theorem keepsFuses_writeMode (p : Path) (key : Nat) (v : DictVal) : KeepsFuses (writeMode p key v) := by
  intro x
  simp only [writeMode]
  split
  · next f hf =>
    split at hf
    · cases hf
    split at hf
    · split at hf
      · exact imageRow_keepsFuses hf x
      · cases hf
    · obtain ⟨n, -, hrow⟩ := Option.bind_eq_some_iff.mp hf
      exact modeRow_keepsFuses hrow x
  · exact keepsFuses_writeBase p key v x

theorem keepsFuses_groupClose (p : Path) : KeepsFuses (groupClose p) := by
  intro x
  simp only [groupClose]
  split
  · exact Fuses.keeps_pair _ _
  split
  · exact Fuses.keeps_pair _ _
  split
  · exact Fuses.keeps_pair _ _
  split
  · exact Fuses.keeps_pair _ _
  split
  · refine Fuses.Keeps.trans ?_ (Fuses.keeps_pair _ _)
    exact (keepsFuses_foldl (x.2.group p).staged fun e => keepsFuses_writeMode p e.1 (.num e.2)).at x.1 (x.2.setGroup p {})
  · exact Fuses.keeps_pair _ _

theorem keepsFuses_writeOne (p : Path) (key : Nat) (v : DictVal) : KeepsFuses (writeOne p key v) := by
  intro x
  unfold writeOne
  split
  · exact keepsFuses_writeMode p key v x
  split
  · exact .refl _
  split
  · exact keepsFuses_groupClose p x
  split
  · exact .refl _
  · exact keepsFuses_writeMode p key v x

/-! ### Accesses, held or not -/

theorem keepsFuses_readOne (p : Path) (key : Nat) (tag : Option Nat) : KeepsFuses (readOne p key tag) := by
  intro x
  simp only [readOne]
  split <;> exact Fuses.keeps_pair _ _

theorem keepsFuses_drainProposals (fuel : Nat) : KeepsFuses (drainProposals fuel) := by
  induction fuel with
  | zero => exact fun _ => .refl _
  | succ fuel ih =>
    intro x
    simp only [drainProposals]
    split
    · exact .refl _
    next q rest _ =>
    refine ih.then ?_
    split
    · exact (keepsFuses_readOne q.path q.key q.tag).at x.1 _
    · exact (keepsFuses_writeOne q.path q.key _).at x.1 _

theorem keepsFuses_drainAll : KeepsFuses drainAll := by
  intro x
  unfold drainAll
  split
  · exact .refl _
  · exact keepsFuses_drainProposals _ x

/-- The end of a write: what is held may act, unless a primary waits for its partner. -/
theorem drained_keepsFuses (x : Both) : x.1.fuses.Keeps (if x.2.pairedPrimary then x else drainAll x).1.fuses := by
  split
  · exact .refl _
  · exact keepsFuses_drainAll x

theorem keepsFuses_writeAny (p : Path) (key : Nat) (v : DictVal) (tag : Option Nat) : KeepsFuses (writeAny p key v tag) := by
  intro x
  simp only [writeAny]
  refine Fuses.Keeps.trans ?_ (drained_keepsFuses _)
  split <;> exact keepsFuses_writeOne p key v x

theorem keepsFuses_readAny (p : Path) (key : Nat) (tag : Option Nat) : KeepsFuses (readAny p key tag) := by
  intro x
  unfold readAny
  split
  · exact .refl _
  · exact keepsFuses_readOne p key tag x

theorem keepsFuses_barWrite (fuel o : Nat) (b : Bytes) : KeepsFuses (barWrite fuel o b) := by
  induction fuel generalizing o b with
  | zero => exact fun _ => .refl _
  | succ fuel ih =>
    intro x
    simp only [barWrite]
    split
    · exact .refl _
    · exact (ih _ _).then (keepsFuses_writeAny .pcie _ _ none x)

theorem keepsFuses_objectWrite (p : Path) (f : WriteForm) : KeepsFuses (objectWrite p f) := by
  cases f with
  | bar0 o b => exact keepsFuses_barWrite _ _ _
  | object i s v => exact keepsFuses_writeAny p _ v none

theorem keepsFuses_objectRead (p : Path) (f : ReadForm) : KeepsFuses (objectRead p f) := by
  intro x
  cases f with
  | bar0 o width =>
    simp only [objectRead, barRead]
    split
    · exact .refl _
    split
    · exact .refl _
    · exact keepsFuses_readAny .pcie _ _ x
  | object i s =>
    simp only [objectRead]
    split
    · exact keepsFuses_readAny p _ none x
    · exact .refl _

theorem keepsFuses_uploadBlob (p : Path) (key : Nat) : KeepsFuses (uploadBlob p key) := by
  intro x
  unfold uploadBlob
  split
  · exact .refl _
  split <;> exact .refl _

theorem keepsFuses_dtComplete (data : Bytes) : KeepsFuses (dtComplete data) := by
  intro x
  simp only [dtComplete]
  split
  · exact .refl _
  split
  · exact .refl _
  split
  · exact .refl _
  split
  · split <;> exact (keepsFuses_writeAny .pcie _ _ _).at x.1 _
  · exact (keepsFuses_writeAny .pcie _ _ _).at x.1 _

theorem keepsFuses_ringWrite (p : Path) (r : Nat) (on : Bool) : KeepsFuses (ringWrite p r on) := keepsFuses_writeAny p _ _ none

/-! ### EtherCAT -/

theorem keepsFuses_sdoWrites (idx : Nat) (es : List (Nat × Nat)) (b : Bytes) : KeepsFuses (sdoWrites idx es b) := by
  induction es generalizing b with
  | nil => exact fun _ => .refl _
  | cons e es ih =>
    intro x
    unfold sdoWrites
    split
    · exact .refl _
    dsimp only
    generalize (if e.2 = 0 then b.length else e.2) = n
    split
    · exact keepsFuses_writeOne .coe _ _ x
    · exact (ih _).then (keepsFuses_writeOne .coe _ _ x)

theorem sdoReads_nv (idx : Nat) (subs : List Nat) (acc : Bytes) (x : Both) : (sdoReads idx subs acc x).1.1 = x.1 := by
  induction subs generalizing acc x with
  | nil => rfl
  | cons s subs ih =>
    simp only [sdoReads]
    split
    · rfl
    · exact ih _ _

theorem keepsFuses_coeSdoTransfer (f : SdoForm) : KeepsFuses (coeSdoTransfer f) := by
  intro x
  simp only [coeSdoTransfer]
  split
  · exact .refl _
  split
  · exact keepsFuses_readAny .coe _ _ x
  · exact keepsFuses_writeAny .coe _ _ _ x
  · split
    · exact .refl _
    · exact .of_eq (by rw [sdoReads_nv])
  · split
    · exact .refl _
    split
    · exact keepsFuses_writeAny .coe _ _ _ x
    · exact keepsFuses_drainAll.then (keepsFuses_sdoWrites _ _ _ x)

theorem keepsFuses_sm2Entries (es : List (Nat × Nat × Nat)) (b : Bytes) : KeepsFuses (sm2Entries es b) := by
  induction es generalizing b with
  | nil => exact fun _ => .refl _
  | cons e es ih =>
    intro x
    unfold sm2Entries
    refine (ih _).then ?_
    split
    all_goals
      dsimp only
      split
      · exact .refl _
      · exact (keepsFuses_writeAny .coe _ _ none x).trans (Fuses.keeps_pair _ _)

theorem keepsFuses_ecatSm2Write (image : Bytes) : KeepsFuses (ecatSm2Write image) := by
  intro x
  simp only [ecatSm2Write]
  split
  · exact .refl _
  · exact (keepsFuses_sm2Entries _ _).at x.1 _

theorem keepsFuses_ecatSm3Read : KeepsFuses ecatSm3Read := by
  intro x
  simp only [ecatSm3Read]
  split <;> exact .refl _

/-! ### Boot -/

theorem keepsFuses_bootTry (hangs : Bool) : KeepsFuses (bootTry hangs) := by
  intro x
  simp only [bootTry]
  split
  · exact .refl _
  split <;> exact .refl _

theorem keepsFuses_bootImageCheck (hangs : Bool) : KeepsFuses (bootImageCheck hangs) := by
  intro x
  unfold bootImageCheck
  split
  · exact .refl _
  · exact keepsFuses_bootTry hangs x

theorem keepsFuses_firmwareTrainTimeout (hangs : Bool) : KeepsFuses (firmwareTrainTimeout hangs) := by
  intro x
  unfold firmwareTrainTimeout
  split
  · exact .refl _
  · exact keepsFuses_bootTry hangs x

theorem keepsFuses_trainEnd : KeepsFuses trainEnd := by
  intro x
  simp only [trainEnd]
  split
  · exact .refl _
  · refine (keepsFuses_loadRun (x.2.getN Obj.profSelPins) x).trans ?_
    split
    all_goals
      split
      · exact (keepsFuses_runCmd .device _).at _ _
      · exact Fuses.keeps_pair _ _

/-! ### Yalind and the pair -/

theorem keepsFuses_loseSession (peer : Nat) : KeepsFuses (loseSession peer) := by
  intro x
  unfold loseSession
  split
  · exact .refl _
  · exact keepsFuses_drainAll.at x.1 _

theorem keepsFuses_bye (addr : Fin 1024) : KeepsFuses (bye addr) := by
  intro x
  unfold bye
  split
  · exact .refl _
  · exact keepsFuses_drainAll.at x.1 _

theorem keepsFuses_sessionTimeout (addr : Fin 1024) : KeepsFuses (sessionTimeout addr) := by
  intro x
  simp only [sessionTimeout]
  split
  · split
    · exact keepsFuses_loseSession _ x
    · exact .refl _
  · split <;> exact .refl _

theorem keepsFuses_ylAck (addr : Fin 1024) (cls : Fin 16) (seq : BitVec 32) : KeepsFuses (ylAck addr cls seq) := by
  intro x
  simp only [ylAck]
  split
  · exact .refl _
  split
  · exact .refl _
  split
  · exact keepsFuses_drainAll.at x.1 _
  · exact .refl _

theorem keepsFuses_yalindRetry (addr : Fin 1024) (cls : Fin 16) (seq : BitVec 32) : KeepsFuses (yalindRetry addr cls seq) := by
  intro x
  simp only [yalindRetry]
  split
  · exact .refl _
  split
  · exact .refl _
  split
  · exact keepsFuses_loseSession _ x
  · exact .refl _

theorem keepsFuses_mgmtRead (src : Fin 1024) (tag : BitVec 56) (index : BitVec 16) (sub : BitVec 8) : KeepsFuses (mgmtRead src tag index sub) := by
  intro x
  unfold mgmtRead
  split
  · exact .refl _
  · exact (keepsFuses_readAny _ _ _).at x.1 _

theorem keepsFuses_mgmtWrite (src : Fin 1024) (tag : BitVec 56) (index : BitVec 16) (sub : BitVec 8) (data : Bytes) :
    KeepsFuses (mgmtWrite src tag index sub data) := by
  intro x
  simp only [mgmtWrite]
  split
  · exact .refl _
  split
  · exact (keepsFuses_writeAny _ _ _ _).at x.1 _
  · exact .refl _

theorem keepsFuses_pairEnd (src : Fin 1024) (code : Fin 6) : KeepsFuses (pairEnd src code) := by
  intro x
  simp only [pairEnd]
  split
  · exact .refl _
  split
  · exact .refl _
  split
  · exact .refl _
  split
  · exact keepsFuses_drainAll.at x.1 _
  · exact .refl _

theorem keepsFuses_mirrorApply (e : MirrorEntry) : KeepsFuses (mirrorApply e) := fun x => keepsFuses_writeMode .device _ _ x

theorem keepsFuses_entry (src : Fin 1024) (e : MirrorEntry) : KeepsFuses (entry src e) := by
  intro x
  simp only [entry]
  split
  · exact .refl _
  split
  · exact .refl _
  · exact keepsFuses_mirrorApply e x

theorem keepsFuses_heartbeatLoss : KeepsFuses heartbeatLoss := by
  intro x
  simp only [heartbeatLoss]
  split
  · exact .refl _
  split
  · exact .refl _
  · exact keepsFuses_drainAll.at x.1 _

theorem keepsFuses_primaryHeartbeatLoss : KeepsFuses primaryHeartbeatLoss := by
  intro x
  unfold primaryHeartbeatLoss
  split
  · exact .refl _
  · exact keepsFuses_drainAll.at x.1 _

theorem keepsFuses_triggerIssued (ph : Phase) : KeepsFuses (triggerIssued ph) := by
  intro x
  simp only [triggerIssued]
  split
  · exact .refl _
  split
  · exact (keepsFuses_drainAll.at x.1 _).trans (Fuses.keeps_pair _ _)
  · exact Fuses.keeps_pair _ _

/-! ### Every command -/

/-- A command whose meaning is a change of both parts that keeps the fuses leads to a state that keeps them. -/
theorem keeps_of_onBoth {c : Instr} {g : Both → Both} (hc : exec c = onBoth g) (hg : KeepsFuses g) (s : State) :
    ∃ t, exec c s = .next t ∧ s.nv.fuses.Keeps t.nv.fuses :=
  ⟨_, by rw [hc, onBoth_eq], hg (s.nv, s.w)⟩

/-- Commands that reach the non-volatile part keep the fuses one by one; every other command leaves that part as it was. -/
theorem exec_keepsFuses (c : Instr) (s : State) : ∃ t, exec c s = .next t ∧ s.nv.fuses.Keeps t.nv.fuses := by
  cases c with
  | fwImageWrite p b => exact keeps_of_onBoth rfl (keepsFuses_fwImageWrite p b) s
  | fwProgramDone => exact keeps_of_onBoth rfl keepsFuses_fwProgramDone s
  | fuseDebugLock p good => exact keeps_of_onBoth rfl (keepsFuses_fuseCommand p _ good) s
  | fuseSignProfiles p good => exact keeps_of_onBoth rfl (keepsFuses_fuseCommand p _ good) s
  | fuseSignModels p good => exact keeps_of_onBoth rfl (keepsFuses_fuseCommand p _ good) s
  | fuseRevokeKey p k good => exact keeps_of_onBoth rfl (keepsFuses_fuseCommand p _ good) s
  | ownerKeyBurn p key good => exact keeps_of_onBoth rfl (keepsFuses_ownerKeyBurn p key good) s
  | rollbackCommit p good => exact keeps_of_onBoth rfl (keepsFuses_rollbackCommit p good) s
  | tallyReadEntries p => exact keeps_of_onBoth rfl (keepsFuses_uploadBlob p _) s
  | quote p => exact keeps_of_onBoth rfl (keepsFuses_uploadBlob p _) s
  | dtStart p => exact keeps_of_onBoth rfl (keepsFuses_dtCtrl p 1) s
  | dtAbort p => exact keeps_of_onBoth rfl (keepsFuses_dtCtrl p 2) s
  | dtComplete data => exact keeps_of_onBoth rfl (keepsFuses_dtComplete data) s
  | profileImageWrite p i b => exact keeps_of_onBoth rfl (keepsFuses_profileImageWrite p i b) s
  | profileProgramDone => exact keeps_of_onBoth rfl keepsFuses_profileProgramDone s
  | profileErase p i => exact keeps_of_onBoth rfl (keepsFuses_profileEraseCmd p i) s
  | serviceImageWrite path p b => exact keeps_of_onBoth rfl (keepsFuses_serviceImageWrite path p b) s
  | portApplyResume path p => exact keeps_of_onBoth rfl (keepsFuses_portApplyResume path p) s
  | resetCmd p => exact keeps_of_onBoth rfl (keepsFuses_resetCmd p) s
  | warmResetAssert => exact keeps_of_onBoth rfl keepsFuses_warmResetAssert s
  | pwrResetAssert => exact keeps_of_onBoth rfl keepsFuses_warmResetAssert s
  | idleWakeDone => exact keeps_of_onBoth rfl keepsFuses_idleWakeDone s
  | runStart p => exact keeps_of_onBoth rfl (keepsFuses_runCmd p _) s
  | runStop p => exact keeps_of_onBoth rfl (keepsFuses_runCmd p _) s
  | stopDrainEnd => exact keeps_of_onBoth rfl keepsFuses_stopDrainEnd s
  | calCmdDark p => exact keeps_of_onBoth rfl (keepsFuses_modeWrite p _ _ (keepsFuses_calAct 1)) s
  | calCmdFlat p => exact keeps_of_onBoth rfl (keepsFuses_modeWrite p _ _ (keepsFuses_calAct 2)) s
  | calCmdGeom p => exact keeps_of_onBoth rfl (keepsFuses_modeWrite p _ _ (keepsFuses_calAct 3)) s
  | calCmdAbort p => exact keeps_of_onBoth rfl (keepsFuses_modeWrite p _ _ (keepsFuses_calAct 4)) s
  | commit p => exact keeps_of_onBoth rfl (keepsFuses_modeWrite p _ _ (keepsFuses_actOrWait .commit)) s
  | loadProfile p slot => exact keeps_of_onBoth rfl (keepsFuses_modeWrite p _ _ (keepsFuses_actOrWait (.load slot))) s
  | groupClose p => exact keeps_of_onBoth rfl (keepsFuses_groupClose p) s
  | objectWrite p f => exact keeps_of_onBoth rfl (keepsFuses_objectWrite p f) s
  | objectRead p f => exact keeps_of_onBoth rfl (keepsFuses_objectRead p f) s
  | ringEnable p r => exact keeps_of_onBoth rfl (keepsFuses_ringWrite p r true) s
  | ringDisable p r => exact keeps_of_onBoth rfl (keepsFuses_ringWrite p r false) s
  | coeSdoTransfer f => exact keeps_of_onBoth rfl (keepsFuses_coeSdoTransfer f) s
  | ecatSm2Write image => exact keeps_of_onBoth rfl (keepsFuses_ecatSm2Write image) s
  | ecatSm3Read => exact keeps_of_onBoth rfl keepsFuses_ecatSm3Read s
  | holdupExpiry => exact keeps_of_onBoth rfl keepsFuses_holdupExpiry s
  | bootImageCheck hangs => exact keeps_of_onBoth rfl (keepsFuses_bootImageCheck hangs) s
  | firmwareTrainTimeout hangs => exact keeps_of_onBoth rfl (keepsFuses_firmwareTrainTimeout hangs) s
  | trainEnd => exact keeps_of_onBoth rfl keepsFuses_trainEnd s
  | bye addr => exact keeps_of_onBoth rfl (keepsFuses_bye addr) s
  | sessionTimeout addr => exact keeps_of_onBoth rfl (keepsFuses_sessionTimeout addr) s
  | ack addr cls seq => exact keeps_of_onBoth rfl (keepsFuses_ylAck addr cls seq) s
  | yalindRetry addr cls seq => exact keeps_of_onBoth rfl (keepsFuses_yalindRetry addr cls seq) s
  | mgmtRead src tag index sub => exact keeps_of_onBoth rfl (keepsFuses_mgmtRead src tag index sub) s
  | mgmtWrite src tag index sub data => exact keeps_of_onBoth rfl (keepsFuses_mgmtWrite src tag index sub data) s
  | pairEnd src code => exact keeps_of_onBoth rfl (keepsFuses_pairEnd src code) s
  | pairCmdPair p => exact keeps_of_onBoth rfl (keepsFuses_writeAny p _ _ none) s
  | pairCmdEnd p => exact keeps_of_onBoth rfl (keepsFuses_writeAny p _ _ none) s
  | entry src e => exact keeps_of_onBoth rfl (keepsFuses_entry src e) s
  | heartbeatLoss => exact keeps_of_onBoth rfl keepsFuses_heartbeatLoss s
  | primaryHeartbeatLoss => exact keeps_of_onBoth rfl keepsFuses_primaryHeartbeatLoss s
  | triggerIssued ph => exact keeps_of_onBoth rfl (keepsFuses_triggerIssued ph) s
  | _ => exact ⟨_, rfl, .refl _⟩

/-- Settles O4: the burning commands only add to the fuses, the resets keep them, and every other command either leaves them or reaches them
through a write of one of these. -/
theorem stepsKeepTheFuses : Obligations.StepsKeepTheFuses := by
  rintro f ⟨nv, w, q⟩ t hf hstep
  cases q with
  | nil =>
    rw [step_pending_nil rfl] at hstep
    obtain rfl := Host.Outcome.next.inj hstep
    exact hf
  | cons c q =>
    obtain ⟨u, hu, hkeeps⟩ := exec_keepsFuses c ⟨nv, w, q⟩
    rw [step_pending_cons c q ⟨nv, w, q⟩, hu] at hstep
    obtain rfl := Host.Outcome.next.inj hstep
    exact hf.trans hkeeps

end Sys2Proof.Machine
end

section
/-! MSI-X (R488, R490): a masked vector pends, and what sends the pending vectors sends each once. -/
namespace Sys2Proof.Machine

theorem lt_of_vectorAssigned {v : Nat} (hv : vectorAssigned v = true) : v < 192 := by
  simp [vectorAssigned] at hv
  omega

/-! ### A cause -/

/-- A cause of a masked vector pends it. -/
theorem Work.msix_masked (w : Work) {v : Nat} (hv : vectorAssigned v = true) (hmask : w.host.funcMasked = true ∨ v ∉ w.host.unmasked) :
    w.msix v = { w with host := { w.host with pending := if w.host.pending.contains v then w.host.pending else v :: w.host.pending } } := by
  have hheld : (w.host.funcMasked || !w.host.unmasked.contains v) = true := by simpa using hmask
  rw [Work.msix, if_neg (by simp [hv]), if_pos hheld]

/-- A cause of a vector that is not masked sends its message. -/
theorem Work.msix_unmasked (w : Work) {v : Nat} (hv : vectorAssigned v = true) (hfunc : w.host.funcMasked = false) (hmem : v ∈ w.host.unmasked) :
    w.msix v = w.send (.msix v) := by
  simp [Work.msix, hv, hfunc, hmem]

/-- The pending vectors of a masked cause. -/
theorem Work.pending_msix_masked (w : Work) {v : Nat} (hv : vectorAssigned v = true) (hmask : w.host.funcMasked = true ∨ v ∉ w.host.unmasked) :
    (w.msix v).host.pending = if w.host.pending.contains v then w.host.pending else v :: w.host.pending := by
  rw [w.msix_masked hv hmask]

theorem Work.mem_pending_msix (w : Work) {v : Nat} (hv : vectorAssigned v = true) (hmask : w.host.funcMasked = true ∨ v ∉ w.host.unmasked) :
    v ∈ (w.msix v).host.pending := by
  rw [w.pending_msix_masked hv hmask]
  split
  · next h => simpa using h
  · exact List.mem_cons_self

/-- A further cause of a vector that pends changes nothing. -/
theorem Work.msix_pending (w : Work) {v : Nat} (hv : vectorAssigned v = true) (hmask : w.host.funcMasked = true ∨ v ∉ w.host.unmasked)
    (hmem : v ∈ w.host.pending) : w.msix v = w := by
  rw [w.msix_masked hv hmask, if_pos (by simpa using hmem)]

/-! ### What sends the pending vectors -/

/-- The vectors that go out: pending, and unmasked. -/
def Work.msixOut (w : Work) : List Nat := (upTo 192).filter (fun v => w.host.pending.contains v && w.host.unmasked.contains v)

theorem Work.mem_msixOut {w : Work} {v : Nat} : v ∈ w.msixOut ↔ v < 192 ∧ v ∈ w.host.pending ∧ v ∈ w.host.unmasked := by
  simp [Work.msixOut, mem_upTo]

theorem Work.nodup_msixOut (w : Work) : w.msixOut.Nodup := List.nodup_range.filter _

theorem Work.foldl_send_msix (w : Work) (vs : List Nat) :
    vs.foldl (fun (w : Work) v => w.send (.msix v)) w = { w with sent := (vs.map Sent.msix).reverse ++ w.sent } := by
  induction vs generalizing w with
  | nil => rfl
  | cons v vs ih =>
    rw [List.foldl_cons, ih]
    simp [Work.send]

theorem Work.sendPending_masked {w : Work} (h : w.host.funcMasked = true) : w.sendPending = w := by simp [Work.sendPending, h]

theorem Work.sendPending_unmasked {w : Work} (h : w.host.funcMasked = false) :
    w.sendPending = { w with
      host := { w.host with pending := w.host.pending.filter (fun v => !w.msixOut.contains v) }
      sent := (w.msixOut.map Sent.msix).reverse ++ w.sent } := by
  simp [Work.sendPending, h, Work.foldl_send_msix, Work.msixOut]

theorem Work.only_sendPending (w : Work) : w.only w.sendPending [.host, .sent] := by
  obtain h | h := w.host.funcMasked.eq_false_or_eq_true
  · rw [w.sendPending_masked h]
    exact w.only_refl _
  · rw [w.sendPending_unmasked h]
    intro q hq
    cases q <;> simp [Part.same] at hq ⊢

theorem Work.get_sendPending (w : Work) (k : Nat) : w.sendPending.get k = w.get k := by
  obtain h | h := w.host.funcMasked.eq_false_or_eq_true
  · rw [w.sendPending_masked h]
  · rw [w.sendPending_unmasked h]
    rfl

/-- Of an unmasked vector one message goes out if it was pending, and it pends no longer. -/
theorem Work.sendPending_sends {w : Work} {v : Nat} (hv : v < 192) (hfunc : w.host.funcMasked = false) (hmem : v ∈ w.host.unmasked) :
    v ∉ w.sendPending.host.pending ∧
      w.sendPending.sent.count (.msix v) = w.sent.count (.msix v) + (if v ∈ w.host.pending then 1 else 0) := by
  rw [w.sendPending_unmasked hfunc]
  have hcount : (w.msixOut.map Sent.msix).count (.msix v) = if v ∈ w.host.pending then 1 else 0 := by
    rw [List.count_map_of_injective _ _ (fun _ _ h => Sent.msix.inj h), w.nodup_msixOut.count]
    simp [Work.mem_msixOut, hv, hmem]
  refine ⟨?_, ?_⟩
  · intro h
    obtain ⟨hpend, hout⟩ := List.mem_filter.mp h
    have := Work.mem_msixOut.mpr ⟨hv, hpend, hmem⟩
    simp [this] at hout
  · rw [List.count_append, List.count_reverse, hcount, Nat.add_comm]

/-! ### MSIX_UNMASK -/

/-- The state with one vector's entry unmasked. -/
def Work.unmaskEntry (w : Work) (v : Nat) : Work :=
  { w with host := { w.host with unmasked := if w.host.unmasked.contains v then w.host.unmasked else v :: w.host.unmasked } }

theorem msixUnmask_some (w : Work) (v : Fin 2048) : msixUnmask (some v) w = (w.unmaskEntry v).sendPending := rfl

theorem Work.mem_unmasked_unmaskEntry (w : Work) (v : Nat) : v ∈ (w.unmaskEntry v).host.unmasked := by
  simp only [Work.unmaskEntry]
  split
  · next h => simpa using h
  · exact List.mem_cons_self

theorem Work.only_unmaskEntry (w : Work) (v : Nat) : w.only (w.unmaskEntry v) [.host] := by
  intro q hq
  cases q <;> simp [Part.same, Work.unmaskEntry] at hq ⊢

theorem Work.get_unmaskEntry (w : Work) (v k : Nat) : (w.unmaskEntry v).get k = w.get k := rfl

theorem Work.unmasked_sendPending (w : Work) : w.sendPending.host.unmasked = w.host.unmasked := by
  obtain h | h := w.host.funcMasked.eq_false_or_eq_true
  · rw [w.sendPending_masked h]
  · rw [w.sendPending_unmasked h]

theorem Work.only_msixUnmask (w : Work) (v : Option (Fin 2048)) : w.only (msixUnmask v w) [.host, .sent] := by
  cases v with
  | none =>
    refine Work.only_trans (b := { w with host := { w.host with funcMasked := false } }) (fun q hq => ?_) (Work.only_sendPending _)
    cases q <;> simp [Part.same] at hq ⊢
  | some v => exact Work.only_trans (Work.only_mono (w.only_unmaskEntry v) (by simp)) (Work.only_sendPending _)

theorem Work.get_msixUnmask (w : Work) (v : Option (Fin 2048)) (k : Nat) : (msixUnmask v w).get k = w.get k := by
  cases v with
  | none => exact Work.get_sendPending _ k
  | some v => exact Work.get_sendPending _ k

/-! ### The IRQ task inputs -/

theorem Work.taskIn_irq (w : Work) (n : Fin 64) (hop : Nat) (by_ : List Nat) :
    w.taskIn (169 + n) hop by_ = if w.host.pending.contains (128 + n.val) then w.overrun (169 + n) else w.msix (128 + n) := by
  have hn := n.isLt
  have hsub : 169 + n.val - 169 = n.val := by omega
  unfold Work.taskIn
  iterate 8 rw [if_neg (by omega)]
  rw [if_pos (by omega), hsub]

/-- Settles O6: a masked cause pends once, and what goes out at an unmasking is every pending vector that is unmasked, each once. -/
theorem maskedVectorsPend : Obligations.MaskedVectorsPend := by
  refine ⟨fun w v hv hmask => ?_, fun w v hv hfunc hmem => w.msix_unmasked hv hfunc hmem, fun s v hv hfunc => ?_, fun s v hfunc => ?_,
    fun s v hv hmem _ => ?_, fun w n hop by_ hpend => ?_⟩
  · have hpend := w.mem_pending_msix hv hmask
    refine ⟨hpend, by rw [w.msix_masked hv hmask], ?_, fun k _ => w.get_msix v k, ?_⟩
    · rw [w.msix_masked hv hmask]
      intro q hq
      cases q <;> simp [Part.same] at hq ⊢
    · refine Work.msix_pending _ hv ?_ hpend
      rw [w.msix_masked hv hmask]
      exact hmask
  · refine does_of_onWork rfl ?_
    obtain ⟨hgone, hcount⟩ := Work.sendPending_sends (w := s.w.unmaskEntry v) (lt_of_vectorAssigned hv) hfunc (s.w.mem_unmasked_unmaskEntry v)
    refine ⟨?_, hgone, s.w.only_msixUnmask _, fun k _ => s.w.get_msixUnmask _ k, hcount⟩
    rw [msixUnmask_some, Work.unmasked_sendPending]
    exact s.w.mem_unmasked_unmaskEntry v
  · refine does_of_onWork rfl ?_
    rw [msixUnmask_some, Work.sendPending_masked (w := s.w.unmaskEntry v) hfunc]
    exact ⟨rfl, rfl, s.w.only_unmaskEntry v, fun k _ => s.w.get_unmaskEntry v k⟩
  · refine does_of_onWork rfl ?_
    obtain ⟨hgone, hcount⟩ := Work.sendPending_sends (w := { s.w with host := { s.w.host with funcMasked := false } })
      (lt_of_vectorAssigned hv) rfl hmem
    refine ⟨?_, hgone, s.w.only_msixUnmask none, fun k _ => s.w.get_msixUnmask none k, hcount⟩
    rw [msixUnmask, Work.sendPending_unmasked rfl]
  · rw [w.taskIn_irq, if_pos (by simpa using hpend)]

end Sys2Proof.Machine
end

section
/-! The fall of the PCIe link with a write group open: the group's state object is shown closed with it (R56). -/
namespace Sys2Proof.Machine

/-- The PCIe link up, with a write group of PCIe open and shown open. -/
def openGroupLink : State :=
  { State.reset with w := { State.reset.w with
    host := { linkUp := true },
    d := { groupPcie := { isOpen := true }, regs := [(Obj.wgGroupState 0, 1)] } } }

/-- Refutes O55: the fall of the link closes the open group, and GROUP_STATE, which the statement has unchanged, reads 0 for 1. -/
theorem not_ringsAndInterruptsServeTheHost : ¬ Obligations.RingsAndInterruptsServeTheHost := by
  rintro ⟨-, -, -, -, -, -, -, -, hdown, -⟩
  refine not_does_of_onWork rfl ?_ (hdown openGroupLink false rfl)
  rintro ⟨-, -, -, -, -, -, -, -, hsame⟩
  exact absurd (hsame (Obj.wgGroupState 0) (by decide)) (by decide)

end Sys2Proof.Machine
end

section
/-! Placement and capacity: what the shared operations of a removal leave as it was (R373, R389, R390). -/
namespace Sys2Proof.Machine

theorem Work.only_showUnits (w : Work) (ps : List Part) : w.only w.showUnits ps := by
  unfold Work.showUnits
  refine Work.only_trans (Work.only_foldl _ (fun v c _ => ?_) w) (Work.only_set _ _ _ _)
  dsimp only
  split
  · exact v.only_refl ps
  · exact v.only_set _ _ ps

/-- The state in which a loss of capacity is on record and a return on its way is undone, before the mode follows (R70, R74). -/
def Work.lossRecorded (w : Work) (c : Cap) : Work :=
  { w with run := { w.run with capacity := if w.run.capacity.contains c then w.run.capacity else c :: w.run.capacity, returnAt := none } }

theorem Work.loseCapacity_eq (w : Work) (c : Cap) :
    w.loseCapacity c = if w.mode = .inspect then (w.lossRecorded c).modeTo .degraded 12 else w.lossRecorded c := by
  cases hc : w.run.capacity.contains c <;>
    simp only [Work.loseCapacity, Work.lossRecorded, hc, if_true, Bool.false_eq_true, if_false, beq_iff_eq]

theorem Work.only_lossRecorded (w : Work) (c : Cap) : w.only (w.lossRecorded c) [.run] := by
  intro q hq
  cases q <;> simp [Part.same, Work.lossRecorded] at hq ⊢

theorem Work.only_loseCapacity (w : Work) (c : Cap) : w.only (w.loseCapacity c) [.mode, .router, .timers, .host, .sent, .run] := by
  rw [w.loseCapacity_eq]
  split
  · exact Work.only_trans (Work.only_mono (w.only_lossRecorded c) (by simp)) (Work.only_mono (Work.only_modeTo _ _ _) (by simp))
  · exact Work.only_mono (w.only_lossRecorded c) (by simp)

theorem Work.only_raiseEpoch (w : Work) : w.only w.raiseEpoch [.place] := by
  intro q hq
  cases q <;> simp [Part.same, Work.raiseEpoch] at hq ⊢

theorem Work.only_requeue (w : Work) (gone : Batch → Bool) : w.only (w.requeue gone) [.cls] := by
  intro q hq
  cases q <;> simp [Part.same, Work.requeue, Work.showCands] at hq ⊢

theorem Work.only_updClus (w : Work) (c : Nat) (f : Clus → Clus) : w.only (w.updClus c f) [.place] := by
  intro q hq
  cases q <;> simp [Part.same, Work.updClus] at hq ⊢

end Sys2Proof.Machine
end

section
/-! The watchdog of a unit where two jobs share frame, tile and field (R389): the statement finds the job by these, and of two it finds the first. -/
namespace Sys2Proof.Machine

/-- Without an active port no line carries a field, and so no band has lines. -/
theorem Work.bandLines_of_no_ports {w : Work} (h : w.activePorts = []) (f n b : Nat) : w.bandLines f n b = [] := by
  simp [Work.bandLines, Work.lineFields, h]

/-- A band of frame 0 without lines is ready. -/
theorem Work.bandReady_of_no_lines {w : Work} {t f b : Nat} (h : w.bandLines f 0 b = []) : w.bandReady 0 t f b = true := by
  simp [Work.bandReady, h, Work.newExposure]

/-- Where the watchdog of a unit expires its job, found by frame, tile and field, waits again as a replay. -/
theorem unitWatchdogExpiry_jobs {w : Work} {u : Fin 1024} {j : Job} (hjob : w.seg.jobs.find? (fun j => j.unit = some u.val) = some j)
    (hexpired : w.expired (.unitBand u) (4 * 2112 * (w.bandLines j.field j.frame j.band).length * 1000 / w.valueAtN Obj.unitRate j.frame) = true)
    (hready : w.bandReady j.frame j.tile j.field j.band = true) :
    (unitWatchdogExpiry u w).seg.jobs = (w.updJob j.frame j.tile j.field (fun j => { j with unit := none, replay := true })).seg.jobs := by
  simp only [unitWatchdogExpiry, hjob, hexpired, hready, Bool.not_true, Bool.or_self, Bool.false_eq_true, if_false]
  have hseg : ∀ {a b : Work} {ps : List Part}, a.only b ps → .seg ∉ ps → b.seg = a.seg := fun h hps => h .seg hps
  rw [hseg (Work.only_showUnits _ []) (by simp)]
  simp only [Work.flag_seg, Work.bump_seg, Work.updJob]
  rw [hseg (Work.only_requeue _ _) (by simp), hseg (Work.only_raiseEpoch _) (by simp), hseg (Work.only_loseCapacity _ _) (by simp)]
  simp

/-- A job of frame 0, tile 0, field 0 that unit 0 runs. -/
def runningTwin : Job := { frame := 0, tile := 0, field := 0, unit := some 0 }

/-- Unit 0 runs the second of two jobs of frame 0, tile 0, field 0; the first stands at band 1 and waits. -/
def twinJobs : State :=
  { State.reset with w := { State.reset.w with
    seg := { jobs := [{ frame := 0, tile := 0, field := 0, band := 1 }, runningTwin] },
    timers := [(.unitBand 0, 0)] } }

theorem defaultOf_portEnable : ∀ p : Fin 32, defaultOf (Obj.portEnable p) = 0 := by decide

theorem twinJobs_activePorts : twinJobs.w.activePorts = [] := by
  refine List.filter_eq_nil_iff.mpr fun p hp => ?_
  have hconf : twinJobs.w.conf (Obj.portEnable p) = 0 := defaultOf_portEnable ⟨p, mem_upTo.mp hp⟩
  simp [Work.portActive, Work.confN, hconf]

theorem twinJobs_bandLines (f n b : Nat) : twinJobs.w.bandLines f n b = [] := Work.bandLines_of_no_ports twinJobs_activePorts f n b

/-- Refutes O35: the job found by frame, tile and field after the removal is the first of the two, at band 1, where the statement has the band 0 of the
job that ran. -/
theorem not_workIsPlacedOnUnits : ¬ Obligations.WorkIsPlacedOnUnits := by
  rintro ⟨-, -, -, hwatchdog⟩
  have hexpired : twinJobs.w.expired (.unitBand 0) (4 * 2112 * (twinJobs.w.bandLines 0 0 0).length * 1000 / twinJobs.w.valueAtN Obj.unitRate 0) = true := by
    rw [twinJobs_bandLines, List.length_nil, Nat.mul_zero, Nat.zero_mul, Nat.zero_div]
    decide
  have hready : twinJobs.w.bandReady 0 0 0 0 = true := Work.bandReady_of_no_lines (twinJobs_bandLines 0 0 0)
  have hruns : twinJobs.w.seg.jobs.find? (fun j => j.unit = some (0 : Fin 1024).val) = some runningTwin := by decide
  refine not_does_of_onWork rfl ?_ (hwatchdog twinJobs 0 runningTwin hruns hexpired hready)
  rintro ⟨hjob, -⟩
  rw [Work.job?, unitWatchdogExpiry_jobs hruns hexpired hready] at hjob
  exact absurd hjob (by decide)

end Sys2Proof.Machine
end

section
/-! A stray stream again (R409): a stream record touched by an uncorrectable error is dropped, and its flag in STREAM_FLAGS of a stream that the module
does not have is a bit of CORR. -/
namespace Sys2Proof.Machine

/-- The package memory works, and a record of stream 10,272 waits, of which STREAM_FLAGS has the key of CORR of pseudo-channel 0. -/
def strayRecord : State :=
  { State.reset with w := { State.reset.w with
    mode := .ready
    hbm := { State.reset.w.hbm with trained := true }
    streams := { queue := [{ stream := 10272, frame := 0, seq := 0, head := 0, raw := [], compress := false }] } } }

/-- Refutes O45: no error was corrected, and the record's drop makes CORR 1 where the statement has 0. -/
theorem not_pseudoChannelsRetrainAndErr : ¬ Obligations.PseudoChannelsRetrainAndErr := by
  rintro ⟨huncorr, -⟩
  refine not_does_of_onWork rfl ?_ (huncorr strayRecord 0 0 (.buffer 7 0) (by decide) (by decide) (by decide))
  rintro ⟨hcorr, -⟩
  exact absurd hcorr (by decide)

end Sys2Proof.Machine
end

section
/-! What an operation leaves: the parts and the numeric objects outside of two lists, in one predicate that composes. -/
namespace Sys2Proof.Machine

/-- Nothing but some parts and some numeric objects differs. -/
structure Work.Within (a b : Work) (parts : List Part) (keys : List Nat) : Prop where
  only : a.only b parts
  sameBut : a.sameBut b keys

section
variable {a b c : Work} {ps qs : List Part} {ks ls : List Nat}

theorem Work.Within.refl (a : Work) (ps : List Part) (ks : List Nat) : a.Within a ps ks := ⟨a.only_refl ps, a.sameBut_refl ks⟩

theorem Work.Within.trans (hab : a.Within b ps ks) (hbc : b.Within c ps ks) : a.Within c ps ks :=
  ⟨Work.only_trans hab.only hbc.only, Work.sameBut_trans hab.sameBut hbc.sameBut⟩

theorem Work.Within.mono (h : a.Within b ps ks) (hps : ps ⊆ qs) (hks : ks ⊆ ls) : a.Within b qs ls :=
  ⟨Work.only_mono h.only hps, Work.sameBut_mono h.sameBut hks⟩

/-- Of two operations in turn the parts and the objects of both. -/
theorem Work.Within.comp (hab : a.Within b ps ks) (hbc : b.Within c qs ls) : a.Within c (ps ++ qs) (ks ++ ls) :=
  (hab.mono (List.subset_append_left _ _) (List.subset_append_left _ _)).trans
    (hbc.mono (List.subset_append_right _ _) (List.subset_append_right _ _))

theorem Work.Within.foldl {α : Type} {f : Work → α → Work} (xs : List α) (hf : ∀ w : Work, ∀ x ∈ xs, w.Within (f w x) ps ks) (w : Work) :
    w.Within (xs.foldl f w) ps ks :=
  ⟨Work.only_foldl xs (fun w x hx => (hf w x hx).only) w, Work.sameBut_foldl xs (fun w x hx => (hf w x hx).sameBut) w⟩

theorem Work.Within.ite {p : Prop} [Decidable p] (hb : a.Within b ps ks) (hc : a.Within c ps ks) : a.Within (if p then b else c) ps ks := by
  split
  · exact hb
  · exact hc

end

section
variable (w : Work)

theorem Work.within_set (k : Nat) (v : Int) : w.Within (w.set k v) [] [k] := ⟨w.only_set k v [], w.sameBut_set v (List.mem_singleton_self k)⟩

theorem Work.within_flag (k m : Nat) : w.Within (w.flag k m) [] [k] := w.within_set k _

theorem Work.within_unflag (k m : Nat) : w.Within (w.unflag k m) [] [k] := w.within_set k _

theorem Work.within_bump (k n : Nat) : w.Within (w.bump k n) [] [k] := w.within_set k _

theorem Work.within_raise (s : Nat) : w.Within (w.raise s) [.router] [raisedKey s] := ⟨w.only_raise s, w.sameBut_raise (List.mem_singleton_self _)⟩

theorem Work.within_startTimer (t : Timer) : w.Within (w.startTimer t) [.timers] [] := ⟨w.only_startTimer t, fun _ _ => rfl⟩

theorem Work.within_stopTimer (t : Timer) : w.Within (w.stopTimer t) [.timers] [] := ⟨w.only_stopTimer t, w.sameBut_stopTimer t []⟩

theorem Work.within_msix (v : Nat) : w.Within (w.msix v) [.host, .sent] [] := ⟨w.only_msix v, fun k _ => w.get_msix v k⟩

theorem Work.within_send (m : Sent) : w.Within (w.send m) [.sent] [] := ⟨w.only_send m, fun _ _ => rfl⟩

theorem Work.within_freeCount (n : Nat) : w.Within { w with freeCount := n } [.frees] [] := ⟨w.only_freeCount n, w.sameBut_freeCount n []⟩

/-- A part kept by an operation that is within some other parts. -/
theorem Work.Within.same {a b : Work} {ps : List Part} {ks : List Nat} (h : a.Within b ps ks) (q : Part) (hq : q ∉ ps) : q.same a b := h.only q hq

/-- An object kept by an operation that is within some other objects. -/
theorem Work.Within.get {a b : Work} {ps : List Part} {ks : List Nat} (h : a.Within b ps ks) {k : Nat} (hk : k ∉ ks) : b.get k = a.get k := h.sameBut k hk

theorem Work.Within.getN {a b : Work} {ps : List Part} {ks : List Nat} (h : a.Within b ps ks) {k : Nat} (hk : k ∉ ks) : b.getN k = a.getN k := by
  rw [Work.getN, h.get hk, Work.getN]

end

/-! ### Bits -/

theorem bitOf_or_two_pow (n i : Nat) : bitOf (n ||| 2 ^ i) i = true := by simp [bitOf]

theorem bitOf_unflagged (n : Nat) {i : Nat} (hi : i < 64) : bitOf (n &&& ((2 ^ 64 - 1) ^^^ 2 ^ i)) i = false := by
  simp only [bitOf, Nat.testBit_and, Nat.testBit_xor, Nat.testBit_two_pow_sub_one, Nat.testBit_two_pow_self, hi, decide_true, Bool.xor_true,
    Bool.not_true, Bool.and_false]

theorem Work.getN_set_same (w : Work) (k n : Nat) : (w.set k n).getN k = n := by
  rw [Work.getN, Work.get_set_same]
  rfl

theorem Work.bitOf_flag (w : Work) (k i : Nat) : bitOf ((w.flag k (2 ^ i)).getN k) i = true := by
  rw [Work.flag, Work.getN, Work.get_set_same]
  exact bitOf_or_two_pow _ i

theorem Work.bitOf_unflag (w : Work) (k : Nat) {i : Nat} (hi : i < 64) : bitOf ((w.unflag k (2 ^ i)).getN k) i = false := by
  rw [Work.unflag, Work.getN, Work.get_set_same]
  exact bitOf_unflagged _ hi

/-! ### Commands -/

/-- An object none of which an acceptance touches. -/
def unanswering (k : Nat) : Bool := k != Obj.overwritten && k != Obj.resultPcie && k != Obj.resultCoe && k != Obj.resultYalind

theorem not_mem_acceptKeys_of_unanswering {k : Nat} (h : unanswering k = true) (p : Path) : k ∉ acceptKeys p :=
  not_mem_acceptKeys (by simpa [unanswering, and_assoc] using h)

/-- A command with no rule against it is journaled, and acts on a state that differs by its acceptance alone. -/
theorem command_does {c : Instr} {s : State} {path : Path} {key : Nat} {code : Int} {r : ObjRow} {chk : Work → Option Res} {act : Work → Work}
    {ps : List Part} {ks : List Nat} {P : Work → Prop} (hc : exec c s = onWork (fun w => w.command path key code chk act) s)
    (hrow : commandRow key code r = true) (hr : s.w.ready path = true) (hk : chk s.w = none) (hps : Part.journal ∉ ps ∧ Part.lastRes ∉ ps)
    (hks : ∀ k ∈ ks, unanswering k = true)
    (hact : ∀ v : Work, s.w.Within v [.journal, .lastRes] (acceptKeys path) → v.Within (act v) ps ks ∧ P (act v)) :
    Does c s (fun t => s.w.obeys t path key (field (8 * r.typ.size) code) ps ks ∧ P t) := by
  obtain ⟨a, hacts, hobeys⟩ := Work.command_accepted hrow hr hk act
  have ⟨_, _, _, honly, hsame⟩ := hobeys
  obtain ⟨hwithin, hP⟩ := hact a ⟨honly, by simpa using hsame⟩
  refine does_of_onWork hc ?_
  rw [hacts]
  refine ⟨s.w.obeys_trans a _ path _ _ _ _ hobeys hwithin.only hwithin.sameBut hps.1 hps.2 fun k hk hmem => ?_, hP⟩
  exact not_mem_acceptKeys_of_unanswering (hks k hmem) path (by simp [acceptKeys, hk])

end Sys2Proof.Machine
end

section
/-! Channels (R431, R442, R443): what a channel's state, its failure and its commands change. -/
namespace Sys2Proof.Machine
variable (w : Work)

/-! ### The objects of a channel -/

/-- DMA_BUSY is no object of a channel. -/
theorem chKey_ne_dmaBusy (c : Fin 32) (x : Fin 256) : (0x7000 + c.val) * 256 + x.val ≠ Obj.dmaBusy := by
  unfold Obj.dmaBusy
  omega

theorem chKeys_unanswering (c : Fin 32) : ∀ k ∈ [Obj.chState c, Obj.chCmdState c, Obj.dmaBusy, Obj.chPc c, Obj.chRemain c, Obj.loop0 c, Obj.loop1 c],
    unanswering k = true := by decide +revert

/-! ### Rules of the operations on a channel -/

theorem Work.within_updChan (c : Nat) (f : Chan → Chan) : w.Within (w.updChan c f) [.dma] [] :=
  ⟨fun q hq => by cases q <;> simp [Part.same, Work.updChan] at hq ⊢, fun _ _ => rfl⟩

theorem Work.dma_updChan (c : Nat) (f : Chan → Chan) : (w.updChan c f).dma = { w.dma with chans := upd w.dma.chans c f } := rfl

@[simp] theorem Work.get_updChan (c : Nat) (f : Chan → Chan) (k : Nat) : (w.updChan c f).get k = w.get k := rfl

/-- What channel c is after a change of it: a channel the list does not hold is not changed. -/
theorem Work.chan_updChan (c : Nat) (f : Chan → Chan) : (w.updChan c f).chan c = if c < w.dma.chans.length then f (w.chan c) else w.chan c := by
  simp only [Work.chan, Work.dma_updChan, nth_upd, true_and]

theorem Work.updChan_updChan (c : Nat) (f g : Chan → Chan) : (w.updChan c f).updChan c g = w.updChan c (fun q => g (f q)) := by
  simp only [Work.updChan, upd_upd]

theorem Work.within_chSet (c st : Nat) : w.Within (w.chSet c st) [] [Obj.chState c, Obj.dmaBusy] :=
  (w.within_set (Obj.chState c) st).comp (.ite (Work.within_flag _ _ _) (Work.within_unflag _ _ _))

theorem Work.get_chSet (c : Fin 32) (st : Nat) : (w.chSet c st).get (Obj.chState c) = st := by
  have hne : Obj.dmaBusy ≠ Obj.chState c := (chKey_ne_dmaBusy c 3).symm
  unfold Work.chSet
  dsimp only
  split
  · rw [Work.get_flag, if_neg hne, Work.get_set_same]
  · rw [Work.get_unflag, if_neg hne, Work.get_set_same]

/-- DMA_BUSY follows CH_STATE (R431). -/
theorem Work.bitOf_chSet_busy (c : Fin 32) (st : Nat) :
    bitOf ((w.chSet c st).getN Obj.dmaBusy) c = (decide (st = chRunning) || decide (st = chWaiting)) := by
  unfold Work.chSet
  dsimp only
  split
  next h => rw [h, Work.bitOf_flag]
  next h => rw [Work.bitOf_unflag _ _ (by omega), eq_comm, ← Bool.not_eq_true]; exact h

/-- What a failure leaves in CH_STATE, CH_FLAGS, ERR_CODE, ERR_ADDR and DMA_BUSY. -/
abbrev failKeys (c : Nat) : List Nat := [Obj.chState c, Obj.chFlags c, Obj.errCode c, Obj.errAddr c, Obj.dmaBusy]

theorem Work.within_chFail (c code addr : Nat) : w.Within (w.chFail c code addr) [.dma, .timers] (failKeys c) :=
  ((w.within_updChan c _).comp <| (Work.within_stopTimer _ _).comp <| (Work.within_set _ (Obj.errCode c) code).comp <|
    (Work.within_set _ (Obj.errAddr c) (Int.ofNat addr)).comp <| (Work.within_flag _ (Obj.chFlags c) _).comp (Work.within_chSet _ c chError)).mono
    (by simp) (by simp)

theorem Work.chFail_dma (c code addr : Nat) :
    (w.chFail c code addr).dma = { w.dma with chans := upd w.dma.chans c (fun x => { x with inMove := false, hold := [], stopping := false }) } := by
  rw [Work.chFail, show ∀ v : Work, (v.chSet c chError).dma = v.dma from fun v => (v.within_chSet c chError).same .dma (by simp)]
  rfl

/-- CH_STATE ERROR, the code, and bit 2 of CH_FLAGS (R442). -/
theorem Work.chFail_shows (c : Fin 32) (code addr : Nat) : (w.chFail c code addr).get (Obj.chState c) = 4 ∧
    (w.chFail c code addr).get (Obj.errCode c) = code ∧ bitOf ((w.chFail c code addr).getN (Obj.chFlags c)) 2 = true := by
  have hcode : Obj.errCode c ∉ [Obj.chState c, Obj.dmaBusy] := by simpa using chKey_ne_dmaBusy c 10
  have hflags : Obj.chFlags c ∉ [Obj.chState c, Obj.dmaBusy] := by simpa using chKey_ne_dmaBusy c 13
  refine ⟨Work.get_chSet _ c chError, ?_, ?_⟩
  · rw [Work.chFail, (Work.within_chSet _ _ _).get hcode, Work.chFlag, Work.get_flag, if_neg (subKeys_ne (by decide)),
      Work.get_set_other _ _ _ _ (subKeys_ne (by decide)), Work.get_set_same]
  · rw [Work.chFail, (Work.within_chSet _ _ _).getN hflags, Work.chFlag, Work.bitOf_flag]

theorem Work.within_chRespond (c : Nat) : w.Within (w.chRespond c) [.dma] [Obj.chBytes c] :=
  ((w.within_bump _ _).comp (Work.within_updChan _ _ _)).mono (by simp) (by simp)

theorem counterMax_chBytes : ∀ c : Fin 32, counterMax (Obj.chBytes c) = 0xFFFFFFFFFFFFFFFF := by decide

theorem Work.get_chRespond (c : Fin 32) :
    (w.chRespond c).get (Obj.chBytes c) = min (w.get (Obj.chBytes c) + (w.chan c).posted) 0xFFFFFFFFFFFFFFFF := by
  rw [Work.chRespond, Work.get_updChan, Work.get_bump, if_pos rfl, counterMax_chBytes]

/-! ### CH_CMD (R443) -/

theorem Work.within_chCmdState (c r : Nat) : w.Within (w.chCmdState c r) [] [Obj.chCmdState c] := w.within_set _ _

/-- The objects that CH_CMD may change. -/
abbrev chCmdKeys (c : Nat) : List Nat :=
  [Obj.chState c, Obj.chCmdState c, Obj.dmaBusy, Obj.chPc c, Obj.chRemain c, Obj.loop0 c, Obj.loop1 c]

/-- Channel c at position 0 with its counters 0. -/
def Work.chRewound (w : Work) (c : Nat) : Work :=
  (w.updChan c (fun _ => {})).setMany [(Obj.chPc c, 0), (Obj.chRemain c, 0), (Obj.loop0 c, 0), (Obj.loop1 c, 0)]

theorem Work.within_chRewound (c : Nat) : w.Within (w.chRewound c) [.dma] [Obj.chPc c, Obj.chRemain c, Obj.loop0 c, Obj.loop1 c] :=
  (w.within_updChan c _).comp <| (Work.within_set _ (Obj.chPc c) 0).comp <| (Work.within_set _ (Obj.chRemain c) 0).comp <|
    (Work.within_set _ (Obj.loop0 c) 0).comp (Work.within_set _ (Obj.loop1 c) 0)

theorem Work.get_chRewound (c : Nat) : ∀ k ∈ [Obj.chPc c, Obj.chRemain c, Obj.loop0 c, Obj.loop1 c], (w.chRewound c).get k = 0 := by
  intro k hk
  simp only [Work.chRewound, Work.setMany, Work.get_set]
  fin_cases hk <;> simp

/-- CH_STATE after CH_CMD is answered, and the answer. -/
theorem Work.get_chCmdState (c r : Nat) : (w.chCmdState c r).get (Obj.chCmdState c) = r ∧
    (w.chCmdState c r).get (Obj.chState c) = w.get (Obj.chState c) :=
  ⟨w.get_set_same _ _, w.get_set_other _ _ _ (subKeys_ne (by decide))⟩

/-- A command out of its state answers 3 and leaves the channel. -/
theorem Work.chCmdState_refused (c : Nat) : (w.chCmdState c 3).get (Obj.chCmdState c) = 3 ∧
    (w.chCmdState c 3).get (Obj.chState c) = w.get (Obj.chState c) ∧ (w.chCmdState c 3).dma = w.dma :=
  ⟨(w.get_chCmdState c 3).1, (w.get_chCmdState c 3).2, rfl⟩

theorem Work.chAct_start (c : Nat) : w.chAct c 1 = if (w.chStateOf c = 0 ∨ w.chStateOf c = 3 ∨ w.chStateOf c = 5) ∧ w.mode ≠ .safe then
    ((w.chRewound c).chSet c chRunning).chCmdState c 1 else w.chCmdState c 3 := by
  simp only [Work.chAct, if_true, Bool.and_eq_true, Bool.or_eq_true, decide_eq_true_eq, bne_iff_ne, or_assoc]
  rfl

theorem Work.chAct_stop (c : Nat) : w.chAct c 2 = if w.chStateOf c = 1 ∨ w.chStateOf c = 2 then
    (w.updChan c (fun x => { x with stopping := true })).chCmdState c 1 else w.chCmdState c 3 := by
  simp only [Work.chAct, (by decide : (2 : Nat) ≠ 1), if_false, if_true, Bool.or_eq_true, decide_eq_true_eq]
  rfl

theorem Work.chAct_clear (c : Nat) : w.chAct c 3 = if w.chStateOf c = 3 ∨ w.chStateOf c = 4 ∨ w.chStateOf c = 5 then
    (w.chSet c chIdle).chCmdState c 1 else w.chCmdState c 3 := by
  simp only [Work.chAct, (by decide : (3 : Nat) ≠ 1), (by decide : (3 : Nat) ≠ 2), if_false, Bool.or_eq_true, decide_eq_true_eq, or_assoc]
  rfl

theorem Work.within_chAct_start (c : Nat) : w.Within (w.chAct c 1) [.dma] (chCmdKeys c) := by
  rw [Work.chAct_start]
  refine .ite ?_ ((w.within_chCmdState c 3).mono (by simp) (by simp))
  exact (((w.within_chRewound c).comp (Work.within_chSet _ _ _)).comp (Work.within_chCmdState _ _ _)).mono (by simp) (by simp)

theorem Work.within_chAct_stop (c : Nat) : w.Within (w.chAct c 2) [.dma] (chCmdKeys c) := by
  rw [Work.chAct_stop]
  exact .ite (((w.within_updChan c _).comp (Work.within_chCmdState _ _ _)).mono (by simp) (by simp))
    ((w.within_chCmdState c 3).mono (by simp) (by simp))

theorem Work.within_chAct_clear (c : Nat) : w.Within (w.chAct c 3) [.dma] (chCmdKeys c) := by
  rw [Work.chAct_clear]
  exact .ite (((w.within_chSet c _).comp (Work.within_chCmdState _ _ _)).mono (by simp) (by simp))
    ((w.within_chCmdState c 3).mono (by simp) (by simp))

/-- The row of CH_CMD. -/
def chCmdRow : ObjRow := ⟨0x7000, 0x1, 32, 2, 2, "CH_CMD", .u8, .wo, .imm, .const 0, .codes [1, 2, 3]⟩

theorem commandRow_chCmd : ∀ c : Fin 32, commandRow (Obj.chCmd c) 1 chCmdRow = true ∧ commandRow (Obj.chCmd c) 2 chCmdRow = true ∧
    commandRow (Obj.chCmd c) 3 chCmdRow = true := by decide

/-- What a command of a channel reads stands in the accepted state as before. -/
theorem Work.Within.chState_accepted {w v : Work} {path : Path} (h : w.Within v [.journal, .lastRes] (acceptKeys path)) (c : Fin 32) :
    v.get (Obj.chState c) = w.get (Obj.chState c) ∧ v.dma = w.dma ∧ v.mode = w.mode :=
  ⟨h.get (not_mem_acceptKeys_of_unanswering (chKeys_unanswering c _ (by simp)) path), h.same .dma (by simp), h.same .mode (by simp)⟩

section
variable {s : State} {path : Path} {c : Fin 32} (hr : s.w.ready path = true)
include hr

theorem chStart_starts : Does (.chStart path c) s (fun t => s.w.obeys t path (Obj.chCmd c) 1 [.dma] (chCmdKeys c) ∧
    (if (s.w.chStateOf c = 0 ∨ s.w.chStateOf c = 3 ∨ s.w.chStateOf c = 5) ∧ s.w.mode ≠ .safe then
      t.get (Obj.chCmdState c) = 1 ∧ t.get (Obj.chState c) = 1 ∧ t.get (Obj.chPc c) = 0 ∧ t.get (Obj.chRemain c) = 0 ∧ t.get (Obj.loop0 c) = 0 ∧
      t.get (Obj.loop1 c) = 0 ∧ bitOf (t.getN Obj.dmaBusy) c = true ∧ t.dma = { s.w.dma with chans := upd s.w.dma.chans c (fun _ => {}) }
    else t.get (Obj.chCmdState c) = 3 ∧ t.get (Obj.chState c) = s.w.get (Obj.chState c) ∧ t.dma = s.w.dma)) := by
  refine command_does rfl (commandRow_chCmd c).1 hr rfl (by decide) (chKeys_unanswering c) fun v hv => ⟨v.within_chAct_start c, ?_⟩
  obtain ⟨hstate, hdma, hmode⟩ := hv.chState_accepted c
  rw [← hmode, ← hstate, ← hdma, show s.w.chStateOf c = v.chStateOf c by rw [Work.chStateOf, Work.getN, ← hstate]; rfl, v.chAct_start]
  split
  · let u := v.chRewound c
    have hcmd := (u.chSet c chRunning).get_chCmdState c 1
    have hkeep : ∀ x : Fin 256, x.val ≠ 3 → x.val ≠ 15 → ((u.chSet c chRunning).chCmdState c 1).get ((0x7000 + c.val) * 256 + x) =
        u.get ((0x7000 + c.val) * 256 + x) := fun x h3 h15 => by
      rw [(Work.within_chCmdState _ _ _).get (by simpa using h15), (Work.within_chSet _ _ _).get (by simpa using ⟨h3, chKey_ne_dmaBusy c x⟩)]
    have hzero := v.get_chRewound c
    refine ⟨hcmd.1, hcmd.2.trans (u.get_chSet c chRunning), (hkeep 4 (by decide) (by decide)).trans (hzero _ (by simp)),
      (hkeep 5 (by decide) (by decide)).trans (hzero _ (by simp)), (hkeep 8 (by decide) (by decide)).trans (hzero _ (by simp)),
      (hkeep 9 (by decide) (by decide)).trans (hzero _ (by simp)), ?_, ?_⟩
    · rw [(Work.within_chCmdState _ _ _).getN (by simpa using (chKey_ne_dmaBusy c 15).symm), Work.bitOf_chSet_busy]
      rfl
    · exact ((u.within_chSet c chRunning).same .dma (by simp)).trans rfl
  · exact v.chCmdState_refused c

theorem chStop_stops : Does (.chStop path c) s (fun t => s.w.obeys t path (Obj.chCmd c) 2 [.dma] (chCmdKeys c) ∧
    (if s.w.chStateOf c = 1 ∨ s.w.chStateOf c = 2 then t.get (Obj.chCmdState c) = 1 ∧ t.get (Obj.chState c) = s.w.get (Obj.chState c) ∧
      t.dma = { s.w.dma with chans := upd s.w.dma.chans c (fun x => { x with stopping := true }) }
    else t.get (Obj.chCmdState c) = 3 ∧ t.get (Obj.chState c) = s.w.get (Obj.chState c) ∧ t.dma = s.w.dma)) := by
  refine command_does rfl (commandRow_chCmd c).2.1 hr rfl (by decide) (chKeys_unanswering c) fun v hv => ⟨v.within_chAct_stop c, ?_⟩
  obtain ⟨hstate, hdma, -⟩ := hv.chState_accepted c
  rw [← hstate, ← hdma, show s.w.chStateOf c = v.chStateOf c by rw [Work.chStateOf, Work.getN, ← hstate]; rfl, v.chAct_stop]
  split
  · have hcmd := (v.updChan c (fun x => { x with stopping := true })).get_chCmdState c 1
    exact ⟨hcmd.1, hcmd.2, rfl⟩
  · exact v.chCmdState_refused c

theorem chClear_clears : Does (.chClear path c) s (fun t => s.w.obeys t path (Obj.chCmd c) 3 [.dma] (chCmdKeys c) ∧
    (if s.w.chStateOf c = 3 ∨ s.w.chStateOf c = 4 ∨ s.w.chStateOf c = 5 then t.get (Obj.chCmdState c) = 1 ∧ t.get (Obj.chState c) = 0 ∧
      t.dma = s.w.dma ∧ bitOf (t.getN Obj.dmaBusy) c = false
    else t.get (Obj.chCmdState c) = 3 ∧ t.get (Obj.chState c) = s.w.get (Obj.chState c) ∧ t.dma = s.w.dma)) := by
  refine command_does rfl (commandRow_chCmd c).2.2 hr rfl (by decide) (chKeys_unanswering c) fun v hv => ⟨v.within_chAct_clear c, ?_⟩
  obtain ⟨hstate, hdma, -⟩ := hv.chState_accepted c
  rw [← hstate, ← hdma, show s.w.chStateOf c = v.chStateOf c by rw [Work.chStateOf, Work.getN, ← hstate]; rfl, v.chAct_clear]
  split
  · have hcmd := (v.chSet c chIdle).get_chCmdState c 1
    refine ⟨hcmd.1, hcmd.2.trans (v.get_chSet c chIdle), (v.within_chSet c chIdle).same .dma (by simp), ?_⟩
    rw [(Work.within_chCmdState _ _ _).getN (by simpa using (chKey_ne_dmaBusy c 15).symm), Work.bitOf_chSet_busy]
    rfl
  · exact v.chCmdState_refused c

end

/-! ### A program is taken, a stop completes, a wait runs out -/

/-- The row of CH_PROGRAM. -/
def chProgramRow : ObjRow := ⟨0x7000, 0x1, 32, 1, 1, "CH_PROGRAM", .domain, .rw, .imm, .const 0, .bytes 16 1024 16⟩

theorem findRow_chProgram : ∀ c : Fin 32, findRow (Obj.chProgram c / 256) (Obj.chProgram c % 256) = some chProgramRow := by decide

/-- Bytes that take effect at once, once accepted. -/
theorem Work.acceptBlob_imm {p : Path} {r : ObjRow} (hr : w.ready p = true) (ha : r.access = .rw) (he : r.effect = .imm) (key : Nat) (b : Bytes) :
    w.acceptBlob p r key b (w.effectFrame r.effect) = w.tookBytes p key b := by
  have hunpaired : (w.tallyBlob p key b w.frame).pairedPrimary = false :=
    (Work.pairedPrimary_of_sameBut (w.sameBut_tallyBlob p key b _) (by decide)).trans (Work.unpaired_of_ready hr)
  rw [Work.effectFrame_imm he]
  simp [Work.acceptBlob, Work.sendEntry_of_unpaired hunpaired, ha, he, Work.resOf, Work.tookBytes]

theorem chProgramWrite_takes {s : State} {path : Path} {c : Fin 32} {b : Bytes} (hr : s.w.ready path = true) (hrun : s.w.chStateOf c ≠ 1)
    (hwait : s.w.chStateOf c ≠ 2) (hgood : (upTo (b.length / 16)).all (fun i => instrGood i (instrAt b i)) = true) (hlo : 16 ≤ b.length)
    (hhi : b.length ≤ 1024) (hmod : b.length % 16 = 0) : Does (.chProgramWrite path c b) s (fun t =>
      t.journal.head = s.w.journal.head + 1 ∧ t.blob (Obj.chProgram c) = b ∧ t.dma = s.w.dma ∧
      s.w.only t [.journal, .lastRes, .blobs, .changes] ∧ s.w.sameBut t (acceptKeys path)) := by
  have hforeign : ∀ d : Fin 32, (List.range 3).all (fun i => Obj.chProgram d != Obj.groupCtrl i) = true := by decide
  have hcheck : s.w.checkBlob path (Obj.chProgram c) b = .ok chProgramRow :=
    Work.checkBlob_rw hr (findRow_chProgram c) (foreignGroup_of_ne (hforeign c) path) rfl rfl
      (by simp [chProgramRow, Rng.checkLen, Nat.not_lt.mpr hlo, Nat.not_lt.mpr hhi, hmod])
  have hprogram : programCheck c s.w b = none := by
    have hstill : ¬(s.w.chStateOf c = chRunning ∨ s.w.chStateOf c = chWaiting) := not_or.mpr ⟨hrun, hwait⟩
    rw [programCheck, if_neg (by simpa using hstill), if_pos hgood]
  have htook : chProgramWrite path c b s.w = s.w.tookBytes path (Obj.chProgram c) b :=
    (Work.writeBlob_ready hr hcheck hprogram _).trans (s.w.acceptBlob_imm hr rfl rfl _ b)
  have honly := s.w.only_tookBytes path (Obj.chProgram c) b
  have hhead := s.w.acceptBlob_head path chProgramRow (Obj.chProgram c) b (s.w.effectFrame chProgramRow.effect)
  rw [s.w.acceptBlob_imm hr rfl rfl] at hhead
  refine does_of_onWork rfl ?_
  rw [htook]
  exact ⟨hhead, Work.blob_tookBytes _ _ _ _, honly .dma (by simp), Work.only_mono honly (by simp), s.w.sameBut_tookBytes _ _ _⟩

/-- DMA_STOPPED of a channel that was asked to stop. -/
theorem dmaStopped_stops {s : State} {c : Fin 32} (hstop : (s.w.chan c).stopping = true) : Does (.dmaStopped c) s (fun t =>
    t.get (Obj.chState c) = 5 ∧ t.get (Obj.chBytes c) = min (s.w.get (Obj.chBytes c) + (s.w.chan c).posted) 0xFFFFFFFFFFFFFFFF ∧
    t.dma = { s.w.dma with chans := upd s.w.dma.chans c (fun x => { x with posted := 0, stopping := false, inMove := false, hold := [] }) } ∧
    s.w.only t [.dma, .timers] ∧ s.w.sameBut t [Obj.chState c, Obj.chBytes c, Obj.dmaBusy]) := by
  let u := ((s.w.chRespond c).updChan c (fun x => { x with stopping := false, inMove := false, hold := [] })).stopTimer (.dmaWait c)
  have hdone : dmaStopped c s.w = u.chSet c chStopped := if_neg (by simp [hstop])
  have hset := u.within_chSet c chStopped
  have hwithin : s.w.Within (u.chSet c chStopped) [.dma, .timers] [Obj.chState c, Obj.chBytes c, Obj.dmaBusy] :=
    ((s.w.within_chRespond c).comp <| (Work.within_updChan _ _ _).comp <| (Work.within_stopTimer _ _).comp hset).mono (by simp) (by simp)
  refine does_of_onWork rfl ?_
  rw [hdone]
  refine ⟨u.get_chSet c chStopped, ?_, ?_, hwithin.only, hwithin.sameBut⟩
  · rw [hset.get (by simpa using chKey_ne_dmaBusy c 14)]
    exact s.w.get_chRespond c
  · rw [show (u.chSet c chStopped).dma = u.dma from hset.same .dma (by simp)]
    exact congrArg Work.dma (Work.updChan_updChan _ _ _ _)

/-- DMA_WAIT_TIMEOUT of a wait whose limit has passed. -/
theorem dmaWaitTimeout_fails {s : State} {c : Fin 32} {x : Nat} (hwait : s.w.chStateOf c = 2)
    (hx : x = instrAt (s.w.blob (Obj.chProgram c)) (s.w.getN (Obj.chPc c))) (hlimit : bitsOf x 0 32 ≠ 0)
    (hexp : s.w.expired (.dmaWait c) (bitsOf x 0 32 * 1000) = true) : Does (.dmaWaitTimeout c) s (fun t =>
      t.get (Obj.chState c) = 4 ∧ t.get (Obj.errCode c) = 5 ∧ bitOf (t.getN (Obj.chFlags c)) 2 = true ∧ s.w.only t [.dma, .timers] ∧
      s.w.sameBut t (failKeys c)) := by
  subst hx
  have hdone : dmaWaitTimeout c s.w = s.w.chFail c 5 0 := if_neg (by simp [hwait, chWaiting, hlimit, hexp])
  have hwithin := s.w.within_chFail c 5 0
  obtain ⟨hstate, hcode, hflag⟩ := s.w.chFail_shows c 5 0
  refine does_of_onWork rfl ?_
  rw [hdone]
  exact ⟨hstate, hcode, hflag, hwithin.only, hwithin.sameBut⟩

/-- Settles O47: one lemma for each command and event, over what CH_STATE, CH_CMD_STATE and a failure change. -/
theorem dmaChannelsAreCommanded : Obligations.DmaChannelsAreCommanded :=
  ⟨fun _ _ _ _ => chProgramWrite_takes, fun _ _ _ => chStart_starts, fun _ _ _ => chStop_stops, fun _ _ _ => chClear_clears,
    fun _ _ => dmaStopped_stops, fun _ _ _ => dmaWaitTimeout_fails⟩

end Sys2Proof.Machine
end

section
/-! The instructions of a program (R435 to R442): what each changes of its channel, and where the bytes of a MOVE go. -/
namespace Sys2Proof.Machine
variable (w : Work)

/-! ### Going on -/

theorem Work.within_chNext (c : Nat) : w.Within (w.chNext c) [.frees] [Obj.chPc c] := by
  unfold Work.chNext Work.free
  dsimp only
  split
  · exact (w.within_set _ _).mono (by simp) (by simp)
  · exact ((w.within_freeCount _).comp (Work.within_set _ _ _)).mono (by simp) (by simp)

/-- Below position 63 the next position follows. -/
theorem Work.getN_chNext {c : Nat} (h : w.getN (Obj.chPc c) < 63) : (w.chNext c).getN (Obj.chPc c) = w.getN (Obj.chPc c) + 1 := by
  rw [Work.chNext, if_pos h]
  exact w.getN_set_same _ _

/-- A channel that stands at an instruction with an opcode runs. -/
theorem Work.chStateOf_of_chAt {w : Work} {c op x : Nat} (h : w.chAt c op = some x) : w.chStateOf c = 1 := by
  simp only [Work.chAt, Option.ite_none_right_eq_some, Bool.and_eq_true, decide_eq_true_eq] at h
  exact h.1.1.1.1

/-- With every response good the settled channel counts them. -/
theorem Work.chSettle_good (c : Nat) : w.chSettle c true = (w.chRespond c, true) := by
  unfold Work.chSettle
  split <;> rfl

section
variable {s : State} {c : Fin 32} {x : Nat}

/-! ### DMA_LOOP, DMA_WAIT, DMA_SIGNAL, DMA_END, DMA_ADDR -/

/-- The counter of a LOOP: 0 or 1. -/
def loopKey (c : Nat) (b : Bool) : Nat := if b then Obj.loop1 c else Obj.loop0 c

/-- Whether the counter of a LOOP runs. -/
def Work.loopOn (w : Work) (c : Nat) (b : Bool) : Bool := if b then (w.chan c).loopOn1 else (w.chan c).loopOn0

/-- A counter of channel c runs, or does not. -/
def Work.setLoop (w : Work) (c : Nat) (b on : Bool) : Work := w.updChan c (fun q => if b then { q with loopOn1 := on } else { q with loopOn0 := on })

/-- The counter of a LOOP of `times` times after it. -/
def Work.loopCount (w : Work) (c : Nat) (b : Bool) (times : Nat) : Nat :=
  (if w.loopOn c b then w.getN (loopKey c b) else times) - (if times = 0 then 0 else 1)

theorem dmaLoop_eq (hat : s.w.chAt c 2 = some x) :
    dmaLoop c s.w = if 0 < s.w.loopCount c (bitOf x 123) (bitsOf x 0 32) ∨ bitsOf x 0 32 = 0 then
      ((s.w.set (loopKey c (bitOf x 123)) (s.w.loopCount c (bitOf x 123) (bitsOf x 0 32))).setLoop c (bitOf x 123) true).set (Obj.chPc c) (bitsOf x 32 6)
    else ((s.w.set (loopKey c (bitOf x 123)) (s.w.loopCount c (bitOf x 123) (bitsOf x 0 32))).setLoop c (bitOf x 123) false).chNext c := by
  simp only [dmaLoop, hat, Bool.or_eq_true, decide_eq_true_eq]
  rfl

theorem Work.within_setLoop (c : Nat) (b on : Bool) : w.Within (w.setLoop c b on) [.dma] [] := w.within_updChan c _

theorem loopKey_ne (c : Nat) (b : Bool) : loopKey c b ≠ Obj.chPc c := by cases b <;> exact subKeys_ne (by decide)

theorem loopKey_mem (c : Nat) (b : Bool) : loopKey c b ∈ [Obj.chPc c, Obj.loop0 c, Obj.loop1 c] := by cases b <;> simp [loopKey]

theorem dmaLoop_jumps (hat : s.w.chAt c 2 = some x) : Does (.dmaLoop c) s (fun t =>
    (bitsOf x 0 32 = 0 → t.getN (Obj.chPc c) = bitsOf x 32 6) ∧ s.w.only t [.dma, .frees] ∧ s.w.sameBut t [Obj.chPc c, Obj.loop0 c, Obj.loop1 c] ∧
    (∀ b : Bool, bitOf x 123 = b → bitsOf x 0 32 ≠ 0 → ∀ v : Nat,
      v = (if (if b then (s.w.chan c).loopOn1 else (s.w.chan c).loopOn0) = true then s.w.getN (if b then Obj.loop1 c else Obj.loop0 c)
        else bitsOf x 0 32) - 1 →
      t.getN (if b then Obj.loop1 c else Obj.loop0 c) = v ∧ (v ≠ 0 → t.getN (Obj.chPc c) = bitsOf x 32 6) ∧
      (v = 0 → (s.w.getN (Obj.chPc c) < 63 → t.getN (Obj.chPc c) = s.w.getN (Obj.chPc c) + 1)))) := by
  let key := loopKey c (bitOf x 123)
  let n := s.w.loopCount c (bitOf x 123) (bitsOf x 0 32)
  have hcounter := s.w.within_set key n
  have hkey : [key] ⊆ [Obj.chPc c, Obj.loop0 c, Obj.loop1 c] := by simpa using loopKey_mem c (bitOf x 123)
  have hcount : ∀ b : Bool, bitOf x 123 = b → bitsOf x 0 32 ≠ 0 → ∀ v : Nat,
      v = (if (if b then (s.w.chan c).loopOn1 else (s.w.chan c).loopOn0) = true then s.w.getN (if b then Obj.loop1 c else Obj.loop0 c)
        else bitsOf x 0 32) - 1 → n = v ∧ key = (if b then Obj.loop1 c else Obj.loop0 c) := by
    rintro b rfl htimes v rfl
    exact ⟨by simp only [n, Work.loopCount, if_neg htimes]; rfl, rfl⟩
  refine does_of_onWork rfl ?_
  rw [dmaLoop_eq hat]
  split
  next hjump =>
    let u := (s.w.set key n).setLoop c (bitOf x 123) true
    have hwithin := (hcounter.comp (Work.within_setLoop _ c (bitOf x 123) true)).comp (u.within_set (Obj.chPc c) (bitsOf x 32 6 : Nat))
    refine ⟨fun _ => u.getN_set_same _ _, Work.only_mono hwithin.only (by simp),
      Work.sameBut_mono hwithin.sameBut (by simpa using loopKey_mem c (bitOf x 123)), fun b hb htimes v hv => ?_⟩
    obtain ⟨hn, hk⟩ := hcount b hb htimes v hv
    refine ⟨?_, fun _ => u.getN_set_same _ _, fun hzero => absurd hjump ?_⟩
    · rw [← hk, (u.within_set _ _).getN (by simpa using loopKey_ne c _), ← hn]
      exact s.w.getN_set_same key n
    · rw [not_or]
      exact ⟨by omega, htimes⟩
  next hend =>
    rw [not_or] at hend
    let u := (s.w.set key n).setLoop c (bitOf x 123) false
    have hwithin := (hcounter.comp (Work.within_setLoop _ c (bitOf x 123) false)).comp (u.within_chNext c)
    refine ⟨fun h => absurd h hend.2, Work.only_mono hwithin.only (by simp),
      Work.sameBut_mono hwithin.sameBut (by simpa using loopKey_mem c (bitOf x 123)), fun b hb htimes v hv => ?_⟩
    obtain ⟨hn, hk⟩ := hcount b hb htimes v hv
    have hpc : u.getN (Obj.chPc c) = s.w.getN (Obj.chPc c) := hcounter.getN (by simpa using (loopKey_ne c _).symm)
    refine ⟨?_, fun hv0 => absurd (Nat.pos_of_ne_zero fun h => hv0 (hn.symm.trans h)) hend.1, fun _ hlt => ?_⟩
    · rw [← hk, (u.within_chNext c).getN (by simpa using loopKey_ne c _), ← hn]
      exact s.w.getN_set_same key n
    · rw [Work.getN_chNext u (by rwa [hpc]), hpc]

theorem dmaWait_waits (hat : s.w.chAt c 3 = some x) : Does (.dmaWait c) s (fun t =>
    if (s.w.chan c).pending = true then (s.w.getN (Obj.chPc c) < 63 → t.getN (Obj.chPc c) = s.w.getN (Obj.chPc c) + 1) ∧
      t.dma = { s.w.dma with chans := upd s.w.dma.chans c (fun y => { y with pending := false }) } ∧ s.w.only t [.dma, .frees] ∧
      s.w.sameBut t [Obj.chPc c]
    else t.get (Obj.chState c) = 2 ∧ t.running (.dmaWait c) = true ∧ s.w.only t [.timers] ∧ s.w.sameBut t [Obj.chState c, Obj.dmaBusy]) := by
  refine does_of_onWork rfl ?_
  split
  next hpending =>
    let u := s.w.updChan c (fun q => { q with pending := false })
    have hdone : dmaWait c s.w = u.chNext c := by simp only [dmaWait, hat, hpending, if_true]; rfl
    have hwithin := (s.w.within_updChan c (fun q => { q with pending := false })).comp (u.within_chNext c)
    rw [hdone]
    exact ⟨fun hlt => u.getN_chNext hlt, (u.within_chNext c).same .dma (by simp), hwithin.only, hwithin.sameBut⟩
  next hpending =>
    have hdone : dmaWait c s.w = (s.w.chSet c chWaiting).startTimer (.dmaWait c) := by
      simp only [dmaWait, hat, hpending]
      rfl
    have hwithin := (s.w.within_chSet c chWaiting).comp (Work.within_startTimer _ (.dmaWait c))
    rw [hdone]
    exact ⟨s.w.get_chSet c chWaiting, Work.running_startTimer _ _, hwithin.only, by simpa using hwithin.sameBut⟩

theorem chKey_ne_raised (c : Fin 32) (x : Fin 256) : raisedKey (120 + c.val) ≠ (0x7000 + c.val) * 256 + x.val := by
  have : 0x7810 * 256 ≤ raisedKey (120 + c.val) := by unfold raisedKey Obj.raised; omega
  omega

theorem counterMax_raised_channel : ∀ c : Fin 32, counterMax (raisedKey (120 + c)) = 0xFFFFFFFF := by decide

/-- What DMA_SIGNAL shows: SIG_CODE, SIGNALLED and event source 120 + c (R440). -/
def Work.chSignalled (w : Work) (c code : Nat) : Work := ((w.set (Obj.sigCode c) code).chFlag c 0).raise (120 + c)

theorem Work.within_chSignalled (w : Work) (c code : Nat) :
    w.Within (w.chSignalled c code) [.router] [Obj.sigCode c, Obj.chFlags c, raisedKey (120 + c)] :=
  (w.within_set (Obj.sigCode c) code).comp ((Work.within_flag _ (Obj.chFlags c) _).comp (Work.within_raise _ _))

theorem Work.chSignalled_shows (w : Work) (c : Fin 32) (code : Nat) : (w.chSignalled c code).getN (Obj.sigCode c) = code ∧
    bitOf ((w.chSignalled c code).getN (Obj.chFlags c)) 0 = true ∧
    (w.chSignalled c code).get (raisedKey (120 + c)) = min (w.get (raisedKey (120 + c)) + 1) 0xFFFFFFFF := by
  have hraise := ((w.set (Obj.sigCode c) code).chFlag c 0).within_raise (120 + c)
  have hflag := (w.set (Obj.sigCode c) code).within_flag (Obj.chFlags c) (2 ^ 0)
  refine ⟨?_, ?_, ?_⟩
  · rw [Work.chSignalled, hraise.getN (by simpa using (chKey_ne_raised c 12).symm), Work.chFlag, hflag.getN (by simp)]
    exact w.getN_set_same _ code
  · rw [Work.chSignalled, hraise.getN (by simpa using (chKey_ne_raised c 13).symm)]
    exact Work.bitOf_flag _ _ 0
  · rw [Work.chSignalled, Work.get_raise, if_pos ⟨rfl, by omega⟩, counterMax_raised_channel, Work.chFlag,
      hflag.get (by simpa using chKey_ne_raised c 13), (w.within_set _ _).get (by simpa using chKey_ne_raised c 12)]

theorem dmaSignal_signals (hat : s.w.chAt c 4 = some x) : Does (.dmaSignal c true) s (fun t =>
    t.getN (Obj.sigCode c) = bitsOf x 0 16 ∧ bitOf (t.getN (Obj.chFlags c)) 0 = true ∧
    t.get (raisedKey (120 + c)) = min (s.w.get (raisedKey (120 + c)) + 1) 0xFFFFFFFF ∧
    t.get (Obj.chBytes c) = min (s.w.get (Obj.chBytes c) + (s.w.chan c).posted) 0xFFFFFFFFFFFFFFFF ∧
    (s.w.getN (Obj.chPc c) < 63 → t.getN (Obj.chPc c) = s.w.getN (Obj.chPc c) + 1) ∧ s.w.only t [.dma, .frees, .router, .host, .sent] ∧
    s.w.sameBut t [Obj.sigCode c, Obj.chFlags c, raisedKey (120 + c), Obj.chBytes c, Obj.chPc c]) := by
  let u := (s.w.chRespond c).chSignalled c (bitsOf x 0 16)
  let v := if bitOf x 16 = true then u.msix (64 + c) else u
  have hdone : dmaSignal c true s.w = v.chNext c := by
    simp only [dmaSignal, hat, Work.chSettle_good, Bool.not_true, Bool.false_eq_true, if_false]
    rfl
  have hrespond := s.w.within_chRespond c
  have hsignal := (s.w.chRespond c).within_chSignalled c (bitsOf x 0 16)
  have hsent : u.Within v [.host, .sent] [] := .ite (u.within_msix _) (.refl u _ _)
  have hnext := v.within_chNext c
  obtain ⟨hcode, hflag, hraised⟩ := (s.w.chRespond c).chSignalled_shows c (bitsOf x 0 16)
  have hlater : ∀ y : Nat, y ≠ Obj.chPc c → (v.chNext c).get y = u.get y := fun y hy =>
    (hnext.get (by simpa using hy)).trans (hsent.get (by simp))
  have hwithin := hrespond.comp (hsignal.comp (hsent.comp hnext))
  have hpc : v.getN (Obj.chPc c) = s.w.getN (Obj.chPc c) := by
    rw [hsent.getN (by simp), hsignal.getN (by simpa using (chKey_ne_raised c 4).symm), hrespond.getN (by simp)]
  refine does_of_onWork rfl ?_
  rw [hdone]
  refine ⟨?_, ?_, ?_, ?_, fun hlt => ?_, Work.only_mono hwithin.only (by simp), Work.sameBut_mono hwithin.sameBut (by simp)⟩
  · rw [Work.getN, hlater _ (by simp), ← Work.getN, hcode]
  · rw [Work.getN, hlater _ (by simp), ← Work.getN, hflag]
  · rw [hlater _ (chKey_ne_raised c 4), hraised, hrespond.get (by simpa using chKey_ne_raised c 14)]
  · rw [hlater _ (by simp), hsignal.get (by simpa using (chKey_ne_raised c 14).symm), s.w.get_chRespond c]
  · rw [Work.getN_chNext v (by rwa [hpc]), hpc]

theorem dmaEnd_ends (hat : s.w.chAt c 0 = some x) : Does (.dmaEnd c true) s (fun t =>
    t.get (Obj.chState c) = 3 ∧ bitOf (t.getN (Obj.chFlags c)) 1 = true ∧ bitOf (t.getN Obj.dmaBusy) c = false ∧
    t.get (Obj.chBytes c) = min (s.w.get (Obj.chBytes c) + (s.w.chan c).posted) 0xFFFFFFFFFFFFFFFF ∧ s.w.only t [.dma] ∧
    s.w.sameBut t [Obj.chState c, Obj.chFlags c, Obj.dmaBusy, Obj.chBytes c]) := by
  let u := (s.w.chRespond c).chFlag c 1
  have hdone : dmaEnd c true s.w = u.chSet c chDone := by
    simp only [dmaEnd, hat, Work.chSettle_good, Bool.not_true, Bool.false_eq_true, if_false]
    rfl
  have hset := u.within_chSet c chDone
  have hflag : (s.w.chRespond c).Within u [] [Obj.chFlags c] := Work.within_flag _ _ _
  have hwithin := (s.w.within_chRespond c).comp (hflag.comp hset)
  refine does_of_onWork rfl ?_
  rw [hdone]
  refine ⟨u.get_chSet c chDone, ?_, u.bitOf_chSet_busy c chDone, ?_, Work.only_mono hwithin.only (by simp),
    Work.sameBut_mono hwithin.sameBut (by simp)⟩
  · rw [hset.getN (by simpa using chKey_ne_dmaBusy c 13)]
    exact Work.bitOf_flag _ _ 1
  · rw [hset.get (by simpa using chKey_ne_dmaBusy c 14), hflag.get (by simp), s.w.get_chRespond c]

/-- The register that ADDR loads. -/
def addrKey (c : Nat) (b : Bool) : Nat := if b then Obj.chDst c else Obj.chSrc c

/-- The channel with the wrap that ADDR sets. -/
def Chan.wrapped (q : Chan) (b : Bool) (wrap : Nat) : Chan := if b then { q with wrapDst := wrap } else { q with wrapSrc := wrap }

theorem dmaAddr_loads (hat : s.w.chAt c 5 = some x) : Does (.dmaAddr c) s (fun t =>
    t.getN (if bitOf x 123 then Obj.chDst c else Obj.chSrc c) = bitsOf x 0 64 ∧
    (s.w.getN (Obj.chPc c) < 63 → t.getN (Obj.chPc c) = s.w.getN (Obj.chPc c) + 1) ∧ s.w.only t [.dma, .frees] ∧
    s.w.sameBut t [if bitOf x 123 then Obj.chDst c else Obj.chSrc c, Obj.chPc c] ∧
    t.dma = { s.w.dma with chans := upd s.w.dma.chans c (fun y => if bitOf x 123 then { y with wrapDst := bitsOf x 112 6 }
      else { y with wrapSrc := bitsOf x 112 6 }) }) := by
  let key := addrKey c (bitOf x 123)
  let u := (s.w.set key (bitsOf x 0 64 : Nat)).updChan c (fun q => q.wrapped (bitOf x 123) (bitsOf x 112 6))
  have hdone : dmaAddr c s.w = u.chNext c := by
    simp only [dmaAddr, hat, u, key, addrKey, Chan.wrapped]
    cases bitOf x 123 <;> rfl
  have hne : key ≠ Obj.chPc c := by
    simp only [key, addrKey]
    cases bitOf x 123 <;> exact subKeys_ne (by decide)
  have hset := s.w.within_set key (bitsOf x 0 64 : Nat)
  have hupd := (s.w.set key (bitsOf x 0 64 : Nat)).within_updChan c (fun q => q.wrapped (bitOf x 123) (bitsOf x 112 6))
  have hnext := u.within_chNext c
  have hpc : u.getN (Obj.chPc c) = s.w.getN (Obj.chPc c) := (hset.comp hupd).getN (by simpa using hne.symm)
  have hwithin := (hset.comp hupd).comp hnext
  refine does_of_onWork rfl ?_
  rw [hdone]
  refine ⟨?_, fun hlt => ?_, Work.only_mono hwithin.only (by simp), hwithin.sameBut, (hnext.same .dma (by simp)).trans rfl⟩
  · exact (hnext.getN (k := key) (by simpa using hne)).trans (s.w.getN_set_same key _)
  · rw [u.getN_chNext (by rwa [hpc]), hpc]

/-! ### DMA_ERROR -/

theorem Work.moveBegin_of_inMove {w : Work} {c : Nat} (h : (w.chan c).inMove = true) (x : Nat) : w.moveBegin c x = w := if_pos h

theorem Work.within_burstIssue (w : Work) (c x n : Nat) : w.Within (w.burstIssue c x n) [] [Obj.chRemain c, Obj.chSrc c] :=
  .ite ((w.within_set _ _).mono (by simp) (by simp)) ((w.within_set (Obj.chRemain c) _).comp (Work.within_set _ (Obj.chSrc c) _))

theorem dmaError_read {beat : Nat} (hat : s.w.chAt c 1 = some x) (hmove : (s.w.chan c).inMove = true)
    (hbeat : beat * 2 ^ bitsOf x 121 3 < s.w.burstBytes c x) (hregion : dmaRegion (s.w.getN (Obj.chSrc c)) ≠ .none) :
    Does (.dmaError c false beat) s (fun t => t.get (Obj.chState c) = 4 ∧ t.get (Obj.errCode c) = 3 ∧ bitOf (t.getN (Obj.chFlags c)) 2 = true ∧
      t.host = s.w.host ∧ t.dma.sram = s.w.dma.sram ∧ s.w.only t [.dma, .timers] ∧
      s.w.sameBut t [Obj.chState c, Obj.chFlags c, Obj.errCode c, Obj.errAddr c, Obj.dmaBusy, Obj.chRemain c, Obj.chSrc c, Obj.sramUncorr]) := by
  let u := if dmaRegion (s.w.getN (Obj.chSrc c)) = .sram then s.w.bump Obj.sramUncorr else s.w
  let v := u.burstIssue c x (s.w.burstBytes c x)
  obtain ⟨addr, hdone⟩ : ∃ addr, dmaError c false beat s.w = v.chFail c 3 addr := by
    have hissued : ¬(s.w.burstBytes c x = 0 ∨ s.w.burstBytes c x ≤ beat * 2 ^ bitsOf x 121 3) := by omega
    simp only [dmaError, hat, Work.moveBegin_of_inMove hmove, hmove, Bool.not_true, Bool.false_eq_true, if_false, Bool.or_eq_true,
      decide_eq_true_eq, hissued, hregion, or_self]
    exact ⟨_, rfl⟩
  have hcount : s.w.Within u [] [Obj.sramUncorr] := .ite (s.w.within_bump _ _) (.refl _ _ _)
  have hfail := v.within_chFail c 3 addr
  have hwithin := (hcount.comp (u.within_burstIssue c x (s.w.burstBytes c x))).comp hfail
  obtain ⟨hstate, hcode, hflag⟩ := v.chFail_shows c 3 addr
  have hissue := hcount.comp (u.within_burstIssue c x (s.w.burstBytes c x))
  refine does_of_onWork rfl ?_
  rw [hdone]
  refine ⟨hstate, hcode, hflag, (hwithin.same .host (by simp)).trans rfl, ?_, hwithin.only, Work.sameBut_mono hwithin.sameBut (by simp)⟩
  rw [v.chFail_dma, show v.dma = s.w.dma from hissue.same .dma (by simp)]

theorem dmaError_write {beat : Nat} (hat : s.w.chAt c 1 = some x) (hmove : (s.w.chan c).inMove = true)
    (hregion : dmaRegion (s.w.getN (Obj.chDst c)) = .sram) :
    Does (.dmaError c true beat) s (fun t => t.get (Obj.chState c) = 4 ∧ t.get (Obj.errCode c) = 4 ∧ bitOf (t.getN (Obj.chFlags c)) 2 = true ∧
      t.dma.sram = s.w.dma.sram ∧ s.w.only t [.dma, .timers] ∧ s.w.sameBut t (failKeys c)) := by
  obtain ⟨addr, hdone⟩ : ∃ addr, dmaError c true beat s.w = s.w.chFail c 4 addr := by
    simp only [dmaError, hat, Work.moveBegin_of_inMove hmove, hmove, hregion, Bool.not_true, Bool.false_eq_true, if_false, if_true, ne_eq,
      not_true_eq_false]
    exact ⟨_, rfl⟩
  have hfail := s.w.within_chFail c 4 addr
  obtain ⟨hstate, hcode, hflag⟩ := s.w.chFail_shows c 4 addr
  refine does_of_onWork rfl ?_
  rw [hdone]
  exact ⟨hstate, hcode, hflag, by rw [s.w.chFail_dma], hfail.only, hfail.sameBut⟩

end

end Sys2Proof.Machine
end

section
/-! A read burst of a MOVE whose bytes leave in one write burst (R435, R436): equal beat widths, no fixed address, and source and destination at the
same place within 128 bytes. -/
namespace Sys2Proof.Machine
variable (w : Work)

/-! ### Where bytes are put -/

theorem Work.within_dmaPut (a : Nat) (b : Bytes) : w.Within (w.dmaPut a b) [.dma, .host] [] := by
  unfold Work.dmaPut
  split
  · exact ⟨Work.only_mono (w.only_hostWrite a b) (by simp), fun _ _ => rfl⟩
  · exact ⟨fun q hq => by cases q <;> simp [Part.same] at hq ⊢, fun _ _ => rfl⟩
  · exact .refl w _ _

theorem Work.dmaPut_host (a : Nat) (b : Bytes) : (w.dmaPut a b).host =
    { w.host with hostMem := if dmaRegion a = .host then memWrite w.host.hostMem a b else w.host.hostMem } := by
  unfold Work.dmaPut
  split <;> simp_all [Work.hostWrite]

theorem Work.dmaPut_dma (a : Nat) (b : Bytes) : (w.dmaPut a b).dma =
    { w.dma with sram := if dmaRegion a = .sram then memWrite w.dma.sram (a - 2 ^ 63) b else w.dma.sram } := by
  unfold Work.dmaPut
  split <;> simp_all [Work.hostWrite]

/-! ### The write burst -/

/-- The bytes of a write burst to host memory wait for their response, and those to the SRAM count at once. -/
def Work.counted (w : Work) (c x n : Nat) : Work :=
  if dmaRegion (w.getN (Obj.chDst c)) = .host then
    w.updChan c (fun q => { q with posted := q.posted + n, lastHost := some (w.getN (Obj.chDst c) + n - 2 ^ bitsOf x 118 3) })
  else w.bump (Obj.chBytes c) n

/-- Channel c after all that it holds is written in one burst to its destination. -/
def Work.holdWritten (w : Work) (c x : Nat) : Work :=
  let n := (w.chan c).hold.length
  let v := (w.dmaPut (w.getN (Obj.chDst c)) (w.chan c).hold).updChan c (fun q => { q with hold := q.hold.drop n })
  (v.counted c x n).set (Obj.chDst c) (dmaAdvance (w.chan c).wrapDst (w.getN (Obj.chDst c)) n : Nat)

theorem Work.within_counted (c x n : Nat) : w.Within (w.counted c x n) [.dma] [Obj.chBytes c] :=
  .ite ((w.within_updChan c _).mono (by simp) (by simp)) ((w.within_bump _ n).mono (by simp) (by simp))

theorem Work.counted_sram (c x n : Nat) : (w.counted c x n).dma.sram = w.dma.sram := by
  unfold Work.counted
  split <;> rfl

theorem Work.counted_hold (c x n : Nat) : ((w.counted c x n).chan c).hold = (w.chan c).hold := by
  unfold Work.counted
  split
  · rw [Work.chan_updChan]
    split <;> rfl
  · rfl

theorem Work.within_holdWritten (c x : Nat) : w.Within (w.holdWritten c x) [.dma, .host] [Obj.chBytes c, Obj.chDst c] :=
  ((w.within_dmaPut _ _).comp <| (Work.within_updChan _ _ _).comp <| (Work.within_counted _ c x _).comp (Work.within_set _ _ _)).mono
    (by simp) (by simp)

theorem Work.holdWritten_host (c x : Nat) : (w.holdWritten c x).host = { w.host with
    hostMem := if dmaRegion (w.getN (Obj.chDst c)) = .host then memWrite w.host.hostMem (w.getN (Obj.chDst c)) (w.chan c).hold
      else w.host.hostMem } :=
  ((Work.within_counted _ c x _).same .host (by simp)).trans (w.dmaPut_host _ _)

theorem Work.holdWritten_sram (c x : Nat) : (w.holdWritten c x).dma.sram =
    if dmaRegion (w.getN (Obj.chDst c)) = .sram then memWrite w.dma.sram (w.getN (Obj.chDst c) - 2 ^ 63) (w.chan c).hold else w.dma.sram :=
  (Work.counted_sram _ c x _).trans (congrArg Dma.sram (w.dmaPut_dma _ _))

/-- CH_DST advances by what was held. -/
theorem Work.getN_holdWritten (c x : Nat) : (w.holdWritten c x).getN (Obj.chDst c) =
    dmaAdvance (w.chan c).wrapDst (w.getN (Obj.chDst c)) (w.chan c).hold.length := Work.getN_set_same _ _ _

/-- Nothing is held of a channel that wrote all it held. -/
theorem Work.holdWritten_hold (c x : Nat) : ((w.holdWritten c x).chan c).hold = [] := by
  refine (Work.counted_hold _ c x _).trans ?_
  have hchans : (w.dmaPut (w.getN (Obj.chDst c)) (w.chan c).hold).dma.chans = w.dma.chans := by rw [Work.dmaPut_dma]
  have hchan : (w.dmaPut (w.getN (Obj.chDst c)) (w.chan c).hold).chan c = w.chan c := by rw [Work.chan, hchans, Work.chan]
  rw [Work.chan_updChan, hchan, hchans]
  split
  · simp
  next h => simp [Work.chan, nth, List.getElem?_eq_none (Nat.not_lt.mp h)]

/-- A channel that holds nothing has nothing to write. -/
theorem Work.dmaDrain_of_empty {w : Work} {c : Nat} (h : (w.chan c).hold = []) (x fuel : Nat) : w.dmaDrain c x fuel = w := by
  cases fuel with
  | zero => rfl
  | succ fuel => simp [Work.dmaDrain, h]

/-- Whole beats that fit before the aligned boundary and stay in one region leave in one burst. -/
theorem Work.dmaDrain_one {w : Work} {c x : Nat} (hfix : bitOf x 116 = false)
    (hfit : (w.chan c).hold.length ≤ 128 - w.getN (Obj.chDst c) % 128)
    (hbeats : (w.chan c).hold.length / 2 ^ bitsOf x 118 3 * 2 ^ bitsOf x 118 3 = (w.chan c).hold.length) (hsome : (w.chan c).hold.length ≠ 0)
    (hregion : dmaRegion (w.getN (Obj.chDst c)) = .host ∨ dmaRegion (w.getN (Obj.chDst c)) = .sram)
    (hlast : dmaRegion (w.getN (Obj.chDst c) + (w.chan c).hold.length - 1) = dmaRegion (w.getN (Obj.chDst c))) (fuel : Nat) :
    w.dmaDrain c x (fuel + 1) = w.holdWritten c x := by
  have hin : ¬(dmaRegion (w.getN (Obj.chDst c)) = .none ∨ dmaRegion (w.getN (Obj.chDst c)) = .window) := by
    rcases hregion with h | h <;> simp [h]
  have hburst : w.dmaDrain c x (fuel + 1) = (w.holdWritten c x).dmaDrain c x fuel := by
    rw [Work.dmaDrain]
    simp only [hfix, Bool.false_eq_true, if_false, min_eq_left hfit, hbeats, hsome, hlast, ne_eq, not_true_eq_false, decide_false, Bool.or_false,
      Bool.or_eq_true, decide_eq_true_eq, hin, List.take_length]
    congr 1
    have hdst : ∀ b, ((w.dmaPut (w.getN (Obj.chDst c)) b).updChan c (fun q => { q with hold := q.hold.drop (w.chan c).hold.length })).getN
        (Obj.chDst c) = w.getN (Obj.chDst c) := fun b => (w.within_dmaPut _ b).getN (by simp)
    simp only [Work.holdWritten, Work.counted, hdst]
    rfl
  rw [hburst, Work.dmaDrain_of_empty (w.holdWritten_hold c x)]

/-! ### The end of the MOVE -/

theorem Work.within_moveEnd (c : Nat) : w.Within (w.moveEnd c) [.dma, .frees] [Obj.chPc c] :=
  .ite (((w.within_updChan c _).comp (Work.within_chNext _ c)).mono (by simp) (by simp)) (.refl w _ _)

theorem Work.moveEnd_sram (c : Nat) : (w.moveEnd c).dma.sram = w.dma.sram := by
  unfold Work.moveEnd
  split
  · rw [show ∀ v : Work, (v.chNext c).dma = v.dma from fun v => (v.within_chNext c).same .dma (by simp)]
    rfl
  · rfl

/-! ### The read burst -/

/-- A channel inside a MOVE is one of the list. -/
theorem Work.chan_lt_of_inMove {w : Work} {c : Nat} (h : (w.chan c).inMove = true) : c < w.dma.chans.length := by
  by_contra hge
  simp [Work.chan, nth, List.getElem?_eq_none (Nat.not_lt.mp hge)] at h

/-- The bytes of the next read burst from an increasing source. -/
def Work.burstData (w : Work) (c n : Nat) (data : Bytes) : Bytes := (upTo n).map (fun i => w.dmaByte (w.getN (Obj.chSrc c) + i) data[i]?)

theorem Work.length_burstData (c n : Nat) (data : Bytes) : (w.burstData c n data).length = n := by simp [Work.burstData, upTo]

/-- Channel c after a read burst of n bytes: its address and its remaining bytes have moved on, and it holds the bytes. -/
def Work.burstRead (w : Work) (c x n corr : Nat) (data : Bytes) : Work :=
  ((if dmaRegion (w.getN (Obj.chSrc c)) = .sram then w.bump Obj.sramCorr corr else w).burstIssue c x n).updChan c
    (fun q => { q with hold := q.hold ++ w.burstData c n data })

theorem Work.within_burstRead (c x n corr : Nat) (data : Bytes) :
    w.Within (w.burstRead c x n corr data) [.dma] [Obj.sramCorr, Obj.chRemain c, Obj.chSrc c] :=
  (Work.Within.ite (w.within_bump Obj.sramCorr corr) (.refl w _ _)).comp <| (Work.within_burstIssue _ c x n).comp (Work.within_updChan _ _ _)

/-- SRAM_CORR is no object of a channel. -/
theorem chKey_ne_sramCorr (c : Fin 32) (y : Fin 256) : (0x7000 + c.val) * 256 + y.val ≠ Obj.sramCorr := by
  unfold Obj.sramCorr
  omega

section
variable {w : Work} {c : Fin 32} {x : Nat}

/-- CH_REMAIN falls and CH_SRC advances by the burst. -/
theorem Work.burstRead_moves (hfix : bitOf x 117 = false) (n corr : Nat) (data : Bytes) :
    (w.burstRead c x n corr data).getN (Obj.chRemain c) = w.getN (Obj.chRemain c) - n ∧
    (w.burstRead c x n corr data).getN (Obj.chSrc c) = dmaAdvance (w.chan c).wrapSrc (w.getN (Obj.chSrc c)) n := by
  let u := if dmaRegion (w.getN (Obj.chSrc c)) = .sram then w.bump Obj.sramCorr corr else w
  have hu : w.Within u [] [Obj.sramCorr] := .ite (w.within_bump _ _) (.refl w _ _)
  have hissue : u.burstIssue c x n = (u.set (Obj.chRemain c) (u.getN (Obj.chRemain c) - n : Nat)).set (Obj.chSrc c)
      (dmaAdvance (u.chan c).wrapSrc (u.getN (Obj.chSrc c)) n : Nat) := if_neg (by simp [hfix])
  have hchan : u.chan c = w.chan c := by rw [Work.chan, show u.dma = w.dma from hu.same .dma (by simp), Work.chan]
  constructor
  · refine (congrArg (Work.getN · (Obj.chRemain c)) hissue).trans ?_
    rw [(Work.within_set _ _ _).getN (by simp), Work.getN_set_same, hu.getN (by simpa using chKey_ne_sramCorr c 5)]
  · refine (congrArg (Work.getN · (Obj.chSrc c)) hissue).trans ?_
    rw [Work.getN_set_same, hchan, hu.getN (by simpa using chKey_ne_sramCorr c 6)]

/-- A channel that held nothing holds the bytes of the burst; its wraps stay, and so does the SRAM. -/
theorem Work.burstRead_holds (hmove : (w.chan c).inMove = true) (hhold : (w.chan c).hold = []) (n corr : Nat) (data : Bytes) :
    (w.burstRead c x n corr data).chan c = { w.chan c with hold := w.burstData c n data } ∧
    (w.burstRead c x n corr data).dma.sram = w.dma.sram := by
  let u := (if dmaRegion (w.getN (Obj.chSrc c)) = .sram then w.bump Obj.sramCorr corr else w).burstIssue c x n
  have hu : w.Within u [] [Obj.sramCorr, Obj.chRemain c, Obj.chSrc c] :=
    (Work.Within.ite (w.within_bump Obj.sramCorr corr) (.refl w _ _)).comp (Work.within_burstIssue _ c x n)
  have hdma : u.dma = w.dma := hu.same .dma (by simp)
  have hchan : u.chan c = w.chan c := by rw [Work.chan, hdma, Work.chan]
  constructor
  · rw [Work.burstRead, Work.chan_updChan, hchan, hdma, if_pos (Work.chan_lt_of_inMove hmove), hhold, List.nil_append]
  · exact Eq.trans (b := u.dma.sram) rfl (congrArg Dma.sram hdma)

/-- A burst is whole beats, before the aligned boundary of its source. -/
theorem Work.burstBytes_fits (hfix : bitOf x 117 = false) : w.burstBytes c x ≤ 128 - w.getN (Obj.chSrc c) % 128 ∧
    w.burstBytes c x / 2 ^ bitsOf x 121 3 * 2 ^ bitsOf x 121 3 = w.burstBytes c x := by
  constructor
  · simp only [Work.burstBytes, hfix, Bool.false_eq_true, if_false]
    exact (Nat.div_mul_le_self _ _).trans ((min_le_left _ _).trans (min_le_right _ _))
  · rw [Work.burstBytes, Nat.mul_div_cancel _ (Nat.two_pow_pos _)]

end

section
variable {s : State} {c : Fin 32} {data : Bytes} {corr x : Nat} (hat : s.w.chAt c 1 = some x) (hmove : (s.w.chan c).inMove = true)
  (hhold : (s.w.chan c).hold = []) (hwidth : bitsOf x 121 3 = bitsOf x 118 3) (hsrc : bitOf x 117 = false) (hdst : bitOf x 116 = false)
  (hplace : s.w.getN (Obj.chSrc c) % 128 = s.w.getN (Obj.chDst c) % 128) (hsome : s.w.burstBytes c x ≠ 0)
  (hfrom : dmaRegion (s.w.getN (Obj.chSrc c)) ≠ .none)
  (hfromLast : dmaRegion (s.w.getN (Obj.chSrc c) + s.w.burstBytes c x - 1) = dmaRegion (s.w.getN (Obj.chSrc c)))
  (hto : dmaRegion (s.w.getN (Obj.chDst c)) = .host ∨ dmaRegion (s.w.getN (Obj.chDst c)) = .sram)
  (htoLast : dmaRegion (s.w.getN (Obj.chDst c) + s.w.burstBytes c x - 1) = dmaRegion (s.w.getN (Obj.chDst c)))
include hat hmove hhold hwidth hsrc hdst hplace hsome hfrom hfromLast hto htoLast

/-- The burst is read, all of it is written, and the MOVE ends when that was the last. -/
theorem dmaMove_eq : dmaMove c data corr s.w = ((s.w.burstRead c x (s.w.burstBytes c x) corr data).holdWritten c x).moveEnd c := by
  let u := s.w.burstRead c x (s.w.burstBytes c x) corr data
  have hread : dmaMove c data corr s.w = (u.dmaDrain c x 129).moveEnd c := by
    simp only [dmaMove, hat, Work.moveBegin_of_inMove hmove, hmove, hsome, hsrc, hfrom, hfromLast, Bool.not_true, Bool.false_eq_true, if_false,
      ne_eq, not_true_eq_false, decide_false, Bool.or_self]
    rfl
  have hheld : (u.chan c).hold = s.w.burstData c (s.w.burstBytes c x) data :=
    congrArg Chan.hold (Work.burstRead_holds hmove hhold (s.w.burstBytes c x) corr data).1
  have hlen : (u.chan c).hold.length = s.w.burstBytes c x := by rw [hheld, Work.length_burstData]
  have haddr : u.getN (Obj.chDst c) = s.w.getN (Obj.chDst c) := (s.w.within_burstRead c x _ corr data).getN (by simpa using chKey_ne_sramCorr c 7)
  obtain ⟨hfits, hbeats⟩ := Work.burstBytes_fits (w := s.w) (c := c) hsrc
  rw [hread, Work.dmaDrain_one hdst (by rw [hlen, haddr, ← hplace]; exact hfits) (by rw [hlen, ← hwidth]; exact hbeats) (by rwa [hlen])
    (by rwa [haddr]) (by rwa [hlen, haddr])]

theorem dmaMove_moves : Does (.dmaMove c data corr) s (fun t =>
    t.getN (Obj.chRemain c) = s.w.getN (Obj.chRemain c) - s.w.burstBytes c x ∧
    t.getN (Obj.chSrc c) = dmaAdvance (s.w.chan c).wrapSrc (s.w.getN (Obj.chSrc c)) (s.w.burstBytes c x) ∧
    t.getN (Obj.chDst c) = dmaAdvance (s.w.chan c).wrapDst (s.w.getN (Obj.chDst c)) (s.w.burstBytes c x) ∧
    t.host = { s.w.host with
      hostMem := if dmaRegion (s.w.getN (Obj.chDst c)) = .host then
          memWrite s.w.host.hostMem (s.w.getN (Obj.chDst c)) (s.w.burstData c (s.w.burstBytes c x) data) else s.w.host.hostMem } ∧
    t.dma.sram = (if dmaRegion (s.w.getN (Obj.chDst c)) = .sram then
        memWrite s.w.dma.sram (s.w.getN (Obj.chDst c) - 2 ^ 63) (s.w.burstData c (s.w.burstBytes c x) data)
      else s.w.dma.sram) ∧
    t.chStateOf c = 1 ∧ s.w.only t [.dma, .host, .frees] ∧
    s.w.sameBut t [Obj.chRemain c, Obj.chSrc c, Obj.chDst c, Obj.chPc c, Obj.chBytes c, Obj.sramCorr]) := by
  let n := s.w.burstBytes c x
  let u := s.w.burstRead c x n corr data
  let v := u.holdWritten c x
  have hread := s.w.within_burstRead c x n corr data
  have hdrain := u.within_holdWritten c x
  have hend := v.within_moveEnd c
  have hwithin := hread.comp (hdrain.comp hend)
  obtain ⟨hremain, hmoved⟩ := Work.burstRead_moves (w := s.w) (c := c) hsrc n corr data
  obtain ⟨hchan, hsram⟩ := Work.burstRead_holds (x := x) hmove hhold n corr data
  have haddr : u.getN (Obj.chDst c) = s.w.getN (Obj.chDst c) := hread.getN (by simpa using chKey_ne_sramCorr c 7)
  have hheld : (u.chan c).hold = s.w.burstData c n data := congrArg Chan.hold hchan
  have hhost : u.host = s.w.host := hread.same .host (by simp)
  refine does_of_onWork rfl ?_
  rw [dmaMove_eq hat hmove hhold hwidth hsrc hdst hplace hsome hfrom hfromLast hto htoLast]
  refine ⟨?_, ?_, ?_, ?_, ?_, ?_, Work.only_mono hwithin.only (by simp), Work.sameBut_mono hwithin.sameBut (by simp)⟩
  · rw [hend.getN (by simp), hdrain.getN (by simp), hremain]
  · rw [hend.getN (by simp), hdrain.getN (by simp), hmoved]
  · rw [hend.getN (by simp), u.getN_holdWritten, haddr, hheld, Work.length_burstData, hchan]
  · rw [show (v.moveEnd c).host = v.host from hend.same .host (by simp), u.holdWritten_host, haddr, hheld, hhost]
  · rw [v.moveEnd_sram, u.holdWritten_sram, haddr, hheld, hsram]
  · rw [← Work.chStateOf_of_chAt hat]
    exact hwithin.getN (by simpa using chKey_ne_sramCorr c 3)

end

/-- Settles O48: one lemma for each instruction and each failed beat, over what the channel's operations change. -/
theorem dmaProgramsRun : Obligations.DmaProgramsRun :=
  ⟨fun _ _ _ _ _ hat hmove hhold hwidth hsrc hdst hplace hsome hfrom hfromLast hto htoLast =>
      dmaMove_moves hat hmove hhold hwidth hsrc hdst hplace hsome hfrom hfromLast hto htoLast,
    fun _ _ _ => dmaLoop_jumps, fun _ _ _ => dmaWait_waits, fun _ _ _ => dmaSignal_signals, fun _ _ _ => dmaEnd_ends, fun _ _ _ => dmaAddr_loads,
    fun _ _ _ _ => dmaError_read, fun _ _ _ _ => dmaError_write⟩

end Sys2Proof.Machine
end

section
/-! The fuses and the firmware slots in their objects (R503, R504, R508), and the commands that burn a fuse. -/
namespace Sys2Proof.Machine

/-! ### What showing them changes -/

/-- The objects that show the fuses and the firmware slots. -/
abbrev secKeys : List Nat :=
  Obj.fwPrefer :: Obj.rollback :: Obj.policy :: Obj.debugState :: ((upTo 2).map Obj.fwState ++ (upTo 2).map Obj.fwSvn ++ (upTo 4).map Obj.ownerKeyState)

/-- The same and FUSE_RESULT, in the order of the statements. -/
abbrev fuseKeys : List Nat :=
  Obj.fuseResult :: Obj.fwPrefer :: Obj.rollback :: Obj.policy :: Obj.debugState :: (upTo 2).map Obj.fwState ++ (upTo 2).map Obj.fwSvn ++
    (upTo 4).map Obj.ownerKeyState

theorem secKeys_subset : secKeys ⊆ fuseKeys := by decide

theorem fuseKeys_unanswering : ∀ k ∈ fuseKeys, unanswering k = true := by decide

/-- The objects of firmware slot i. -/
def Work.showImage (nv : NonVol) (w : Work) (i : Nat) : Work :=
  let s := nth {} nv.flash.firmware i
  let seen := !s.bytes.isEmpty && nv.flash.op ≠ some (.firmware i)
  (((w.set (Obj.fwState i) (nv.fwState i)).set (Obj.fwSvn i) (if seen then fwSvnOf s.bytes else 0)).setBlob (Obj.fwVersion i)
    (if seen then fwVersionOf s.bytes else [])).setBlob (Obj.fwDigest i) (if seen then fwDigestOf s.bytes else [])

/-- The objects of owner key slot k. -/
def Work.showKey (nv : NonVol) (w : Work) (k : Nat) : Work :=
  let s := nth {} nv.fuses.keys k
  (w.set (Obj.ownerKeyState k) (if s.revoked then 2 else if s.valid then 1 else 0)).setBlob (Obj.ownerKeyDigest k) (if s.valid then s.digest else [])

/-- The firmware slots and the key slots are shown. -/
def Work.showSlots (nv : NonVol) (w : Work) : Work := (upTo 4).foldl (Work.showKey nv) ((upTo 2).foldl (Work.showImage nv) w)

/-- FW_PREFER, ROLLBACK and POLICY after the slots. -/
def Work.showPolicy (nv : NonVol) (w : Work) : Work :=
  (((w.showSlots nv).set Obj.fwPrefer nv.flash.prefer).set Obj.rollback nv.fuses.rollback).set Obj.policy
    ((if nv.fuses.signModels then 2 else 0) + (if nv.fuses.signProfiles then 1 else 0))

theorem showSec_eq (nv : NonVol) (w : Work) : showSec (nv, w) =
    (nv, if (w.showPolicy nv).get Obj.debugState = 2 then w.showPolicy nv
      else (w.showPolicy nv).set Obj.debugState (if nv.fuses.debugLock then 1 else 0)) := rfl

theorem Work.within_setBlob (w : Work) (k : Nat) (b : Bytes) : w.Within (w.setBlob k b) [.blobs] [] := ⟨w.only_setBlob k b, fun _ _ => rfl⟩

theorem Work.within_showImage (nv : NonVol) (w : Work) (i : Nat) : w.Within (w.showImage nv i) [.blobs] [Obj.fwState i, Obj.fwSvn i] :=
  ((w.within_set _ _).comp <| (Work.within_set _ _ _).comp <| (Work.within_setBlob _ _ _).comp (Work.within_setBlob _ _ _)).mono (by simp) (by simp)

theorem Work.within_showKey (nv : NonVol) (w : Work) (k : Nat) : w.Within (w.showKey nv k) [.blobs] [Obj.ownerKeyState k] :=
  ((w.within_set _ _).comp (Work.within_setBlob _ _ _)).mono (by simp) (by simp)

/-- The objects of the slots alone. -/
abbrev slotKeys : List Nat := (upTo 2).map Obj.fwState ++ (upTo 2).map Obj.fwSvn ++ (upTo 4).map Obj.ownerKeyState

theorem imageKeys_subset : ∀ i : Fin 2, [Obj.fwState i, Obj.fwSvn i] ⊆ slotKeys := by decide

theorem keyKeys_subset : ∀ k : Fin 4, [Obj.ownerKeyState k] ⊆ (upTo 4).map Obj.ownerKeyState := by decide

theorem Work.within_showSlots (nv : NonVol) (w : Work) : w.Within (w.showSlots nv) [.blobs] slotKeys := by
  refine Work.Within.trans (.foldl _ (fun v i hi => ?_) w) (.foldl _ (fun v k hk => ?_) _)
  · exact (v.within_showImage nv i).mono (by simp) (imageKeys_subset ⟨i, mem_upTo.mp hi⟩)
  · exact (v.within_showKey nv k).mono (by simp) (List.Subset.trans (keyKeys_subset ⟨k, mem_upTo.mp hk⟩) (List.subset_append_right _ _))

theorem Work.within_showPolicy (nv : NonVol) (w : Work) : w.Within (w.showPolicy nv) [.blobs] secKeys :=
  ((w.within_showSlots nv).comp <| (Work.within_set _ _ _).comp <| (Work.within_set _ _ _).comp (Work.within_set _ _ _)).mono (by decide) (by decide)

theorem within_showSec (nv : NonVol) (w : Work) : w.Within (showSec (nv, w)).2 [.blobs] secKeys := by
  rw [showSec_eq]
  exact .ite (w.within_showPolicy nv) ((w.within_showPolicy nv).trans ((Work.within_set _ _ _).mono (by simp) (by simp)))

/-! ### What they show -/

theorem Work.showSlots_fwState (nv : NonVol) (w : Work) (i : Fin 2) : (w.showSlots nv).get (Obj.fwState i) = nv.fwState i := by
  have hkeys : ((upTo 2).foldl (Work.showImage nv) w).Within (w.showSlots nv) [.blobs] ((upTo 4).map Obj.ownerKeyState) :=
    .foldl _ (fun v k hk => (v.within_showKey nv k).mono (by simp) (keyKeys_subset ⟨k, mem_upTo.mp hk⟩)) _
  have hdistinct : ∀ i : Fin 2, Obj.fwState i ∉ (upTo 4).map Obj.ownerKeyState := by decide
  rw [hkeys.get (hdistinct i)]
  refine Work.rel_foldl_upTo (key := Obj.fwState) (R := fun s _ b => b = nv.fwState s) (fun v s i h => ?_) (fun v s => ?_) i.isLt w
  · refine (v.within_showImage nv s).get ?_
    unfold Obj.fwState Obj.fwSvn
    simp only [List.mem_cons, List.not_mem_nil, or_false]
    omega
  · rw [Work.showImage, Work.get_setBlob, Work.get_setBlob, Work.get_set_other _ _ _ _ (subKeys_ne (by decide)), Work.get_set_same]

/-- The objects of the slots are not touched after them. -/
theorem showSec_slot (nv : NonVol) (w : Work) {k : Nat} (hk : k ∉ [Obj.fwPrefer, Obj.rollback, Obj.policy, Obj.debugState]) :
    (showSec (nv, w)).2.get k = (w.showSlots nv).get k := by
  simp only [List.mem_cons, List.not_mem_nil, or_false, not_or] at hk
  obtain ⟨hprefer, hrollback, hpolicy, hdebug⟩ := hk
  have hshown : (w.showPolicy nv).get k = (w.showSlots nv).get k := by
    rw [Work.showPolicy, Work.get_set_other _ _ _ _ (Ne.symm hpolicy), Work.get_set_other _ _ _ _ (Ne.symm hrollback),
      Work.get_set_other _ _ _ _ (Ne.symm hprefer)]
  rw [showSec_eq]
  dsimp only
  split
  · exact hshown
  · rw [Work.get_set_other _ _ _ _ (Ne.symm hdebug), hshown]

theorem showSec_fwState (nv : NonVol) (w : Work) (i : Fin 2) : (showSec (nv, w)).2.get (Obj.fwState i) = nv.fwState i := by
  have hdistinct : ∀ i : Fin 2, Obj.fwState i ∉ [Obj.fwPrefer, Obj.rollback, Obj.policy, Obj.debugState] := by decide
  rw [showSec_slot nv w (hdistinct i), w.showSlots_fwState]

theorem showSec_of_ne_debug (nv : NonVol) (w : Work) {k : Nat} (hk : k ≠ Obj.debugState) :
    (showSec (nv, w)).2.get k = (w.showPolicy nv).get k := by
  rw [showSec_eq]
  dsimp only
  split
  · rfl
  · rw [Work.get_set_other _ _ _ _ (Ne.symm hk)]

theorem showSec_fwPrefer (nv : NonVol) (w : Work) : (showSec (nv, w)).2.get Obj.fwPrefer = nv.flash.prefer := by
  rw [showSec_of_ne_debug nv w (by decide), Work.showPolicy, Work.get_set_other _ _ _ _ (by decide), Work.get_set_other _ _ _ _ (by decide),
    Work.get_set_same]

/-- POLICY shows the two sign fuses (R503). -/
theorem showSec_policy (nv : NonVol) (w : Work) : bitOf ((showSec (nv, w)).2.getN Obj.policy) 0 = nv.fuses.signProfiles ∧
    bitOf ((showSec (nv, w)).2.getN Obj.policy) 1 = nv.fuses.signModels := by
  have hpolicy : (showSec (nv, w)).2.get Obj.policy = (if nv.fuses.signModels then 2 else 0) + (if nv.fuses.signProfiles then 1 else 0) := by
    rw [showSec_of_ne_debug nv w (by decide)]
    exact Work.get_set_same _ _ _
  rw [Work.getN, hpolicy]
  cases nv.fuses.signModels <;> cases nv.fuses.signProfiles <;> decide

/-- DEBUG_STATE follows the lock, save while a token holds debug open (R513). -/
theorem showSec_debugState {nv : NonVol} {w : Work} (h : w.get Obj.debugState ≠ 2) :
    (showSec (nv, w)).2.get Obj.debugState = if nv.fuses.debugLock then 1 else 0 := by
  have hkept : (w.showPolicy nv).get Obj.debugState = w.get Obj.debugState := by
    rw [Work.showPolicy, Work.get_set_other _ _ _ _ (by decide), Work.get_set_other _ _ _ _ (by decide), Work.get_set_other _ _ _ _ (by decide),
      (w.within_showSlots nv).get (by decide)]
  rw [showSec_eq]
  dsimp only
  rw [if_neg (by rwa [hkept]), Work.get_set_same]

/-! ### The outcome of a fuse command -/

theorem fuseResult_nv (r : Nat) (x : Both) : (fuseResult r x).1 = x.1 := rfl

theorem within_fuseResult (r : Nat) (x : Both) : x.2.Within (fuseResult r x).2 [.blobs] fuseKeys :=
  ((x.2.within_set Obj.fuseResult r).mono (by simp) (by simp)).trans ((within_showSec x.1 _).mono (by simp) secKeys_subset)

/-- FUSE_RESULT is an object: no fuse and no flash changes with it. -/
theorem fuseResult_fst (r : Nat) (nv : NonVol) (v : Work) : fuseResult r (nv, v) = (nv, (fuseResult r (nv, v)).2) := rfl

theorem get_fuseResult (r : Nat) (x : Both) : (fuseResult r x).2.get Obj.fuseResult = r :=
  ((within_showSec x.1 (x.2.set Obj.fuseResult r)).get (by decide)).trans (Work.get_set_same _ _ _)

theorem fuseResult_debugState {r : Nat} {x : Both} (h : x.2.get Obj.debugState ≠ 2) :
    (fuseResult r x).2.get Obj.debugState = if x.1.fuses.debugLock then 1 else 0 :=
  showSec_debugState (by rwa [Work.get_set_other _ _ _ _ (by decide)])

/-- FUSE_RESULT of one fuse: burnt already, burnt now, or not shown burnt by the read-back (R504). -/
def burnOutcome (burnt good : Bool) : Nat := if burnt = true then 2 else if good = true then 1 else 3

/-- One fuse is burnt when the read-back is good, where burning it again is nothing. -/
theorem burnFuse_eq {burnt : Fuses → Bool} {set : Fuses → Fuses} (good : Bool) (x : Both) (hset : burnt x.1.fuses = true → set x.1.fuses = x.1.fuses) :
    burnFuse burnt set good x =
      fuseResult (burnOutcome (burnt x.1.fuses) good) (if good = true then { x.1 with fuses := set x.1.fuses } else x.1, x.2) := by
  unfold burnFuse burnOutcome
  by_cases hb : burnt x.1.fuses = true
  · cases good <;> simp [hb, hset hb]
  · cases good <;> simp [hb]

theorem fuseMode_of_mode {w : Work} (h : w.mode = .hold ∨ w.mode = .ready) : fuseMode w = none := by
  rcases h with h | h <;> simp [fuseMode, h]

/-- A change that leaves the entry at a place leaves the list. -/
theorem upd_of_nth_eq {α : Type} (d : α) {f : α → α} {xs : List α} {n : Nat} (h : n < xs.length → f (nth d xs n) = nth d xs n) :
    upd xs n f = xs := by
  induction xs generalizing n with
  | nil => cases n <;> rfl
  | cons x xs ih =>
    cases n with
    | zero => exact congrArg (· :: xs) (h (Nat.succ_pos _))
    | succ n => exact congrArg (x :: ·) (ih fun hn => h (Nat.succ_lt_succ hn))

/-- Bytes of a command object that nothing keeps for a later frame are journaled and answered, and that is all. -/
theorem Work.within_acceptBlob_command {w : Work} {p : Path} (hr : w.ready p = true) {r : ObjRow} (ha : r.access = .wo)
    (he : r.effect = .imm ∨ r.effect = .reset) (key : Nat) (b : Bytes) (ef : Nat) :
    w.Within (w.acceptBlob p r key b ef) [.journal, .lastRes] (acceptKeys p) := by
  have hunpaired : (w.tallyBlob p key b ef).pairedPrimary = false :=
    (Work.pairedPrimary_of_sameBut (w.sameBut_tallyBlob p key b _) (by decide)).trans (Work.unpaired_of_ready hr)
  have haccepted : w.acceptBlob p r key b ef = (w.tallyBlob p key b ef).setResult p (w.resOf ef) := by
    rcases he with he | he <;> simp [Work.acceptBlob, Work.sendEntry_of_unpaired hunpaired, ha, he]
  have htally : w.Within (w.tallyBlob p key b ef) [.journal] [Obj.overwritten] := ⟨w.only_tallyBlob p key b ef, w.sameBut_tallyBlob p key b ef⟩
  have hresult : (w.tallyBlob p key b ef).Within (w.acceptBlob p r key b ef) [.lastRes] (resultKey p).toList := by
    rw [haccepted]
    exact ⟨Work.only_setResult _ p _, Work.sameBut_setResult _ p _⟩
  exact htally.comp hresult

/-- The row of FUSE_CMD. -/
def fuseCmdRow : ObjRow := ⟨0x2300, 0x1, 1, 7, 7, "FUSE_CMD", .u32, .wo, .imm, .const 0, .any⟩

/-- An effect on both parts that shows its outcome adds no more than that to the acceptance of its command. -/
theorem Work.obeys_of_fuses {w : Work} {p : Path} {key raw : Nat} {a : Work} (hobeys : w.obeys a p key raw [] []) (r : Nat) (nv : NonVol) :
    w.obeys (fuseResult r (nv, a)).2 p key raw [.blobs] fuseKeys := by
  have hwithin := within_fuseResult r (nv, a)
  exact w.obeys_trans a _ p _ _ _ _ hobeys hwithin.only hwithin.sameBut (by decide) (by decide) fun k hk hmem =>
    not_mem_acceptKeys_of_unanswering (fuseKeys_unanswering k hmem) p (by simp [acceptKeys, hk])

section
variable {s : State} {p : Path} (hr : s.w.ready p = true)
include hr

/-- A fuse command in HOLD or READY is journaled, and burns its fuse. -/
theorem fuseCommand_burns {c : Instr} {code : Nat} {good : Bool} {burnt : Fuses → Bool} {set : Fuses → Fuses}
    (hc : exec c s = onBoth (fuseCommand p code good) s) (hrow : commandRow Obj.fuseCmd code fuseCmdRow = true)
    (hraw : field (8 * fuseCmdRow.typ.size) code = code) (hmode : s.w.mode = .hold ∨ s.w.mode = .ready)
    (hact : ∀ x, fuseAct code good x = burnFuse burnt set good x) (hset : burnt s.nv.fuses = true → set s.nv.fuses = s.nv.fuses) :
    ∃ a, DoesNv c s (fun nv t => s.w.obeys t p Obj.fuseCmd code [.blobs] fuseKeys ∧
      t.get Obj.fuseResult = (if burnt s.nv.fuses = true then 2 else if good = true then 1 else 3) ∧
      nv = (if good = true then { s.nv with fuses := set s.nv.fuses } else s.nv) ∧ a.get Obj.debugState = s.w.get Obj.debugState ∧
      t = (showSec (nv, a)).2) := by
  obtain ⟨a, hacts, hobeys⟩ := writeNumNv_command hrow hr (fuseMode_of_mode hmode) (fuseAct code good) s.nv
  rw [hraw] at hobeys
  rw [hact, burnFuse_eq good (s.nv, a) hset] at hacts
  have ⟨_, _, _, _, hsame⟩ := hobeys
  let x : Both := (if good = true then { s.nv with fuses := set s.nv.fuses } else s.nv, a)
  let n := burnOutcome (burnt s.nv.fuses) good
  refine ⟨a.set Obj.fuseResult n, x.1, (fuseResult n x).2, exec_of_onBoth hc hacts, Work.obeys_of_fuses hobeys _ _, ?_, rfl, ?_, rfl⟩
  · rw [get_fuseResult]
    simp only [n, burnOutcome]
    split
    · rfl
    · split <;> rfl
  · rw [Work.get_set_other _ _ _ _ (by decide), hsame _ (by simpa using not_mem_acceptKeys (by decide))]

variable {good : Bool} (hmode : s.w.mode = .hold ∨ s.w.mode = .ready)

section
include hmode

theorem fuseDebugLock_burns : DoesNv (.fuseDebugLock p good) s (fun nv t => s.w.obeys t p Obj.fuseCmd 0x4C4B0001 [.blobs] fuseKeys ∧
    t.get Obj.fuseResult = (if s.nv.fuses.debugLock = true then 2 else if good = true then 1 else 3) ∧
    (s.nv.fuses.debugLock = true ∨ good = true → s.w.get Obj.debugState ≠ 2 → t.get Obj.debugState = 1) ∧
    nv = (if good = true then { s.nv with fuses := { s.nv.fuses with debugLock := true } } else s.nv)) := by
  obtain ⟨a, nv, t, hexec, hobeys, hresult, hnv, hdebug, ht⟩ := fuseCommand_burns (c := .fuseDebugLock p good) (code := 0x4C4B0001) hr rfl (by decide)
    (by decide) hmode (burnt := (·.debugLock)) (set := fun f => { f with debugLock := true }) (fun x => if_pos rfl)
    (fun h => by rw [← h])
  refine ⟨nv, t, hexec, hobeys, hresult, fun hburnt hclosed => ?_, hnv⟩
  have hlock : nv.fuses.debugLock = true := by
    rw [hnv]
    rcases hburnt with h | h
    · split
      · rfl
      · exact h
    · rw [if_pos h]
  rw [ht, showSec_debugState (by rwa [hdebug]), hlock]
  rfl

theorem fuseSignProfiles_burns : DoesNv (.fuseSignProfiles p good) s (fun nv t => s.w.obeys t p Obj.fuseCmd 0x4C4B0002 [.blobs] fuseKeys ∧
    t.get Obj.fuseResult = (if s.nv.fuses.signProfiles = true then 2 else if good = true then 1 else 3) ∧
    bitOf (t.getN Obj.policy) 0 = (s.nv.fuses.signProfiles || good) ∧
    nv = (if good = true then { s.nv with fuses := { s.nv.fuses with signProfiles := true } } else s.nv)) := by
  obtain ⟨a, nv, t, hexec, hobeys, hresult, hnv, -, ht⟩ := fuseCommand_burns (c := .fuseSignProfiles p good) (code := 0x4C4B0002) hr rfl (by decide)
    (by decide) hmode (burnt := (·.signProfiles)) (set := fun f => { f with signProfiles := true }) (fun x => by rw [fuseAct, if_neg (by decide), if_pos rfl])
    (fun h => by rw [← h])
  refine ⟨nv, t, hexec, hobeys, hresult, ?_, hnv⟩
  rw [ht, (showSec_policy nv a).1, hnv]
  cases good <;> simp

theorem fuseSignModels_burns : DoesNv (.fuseSignModels p good) s (fun nv t => s.w.obeys t p Obj.fuseCmd 0x4C4B0003 [.blobs] fuseKeys ∧
    t.get Obj.fuseResult = (if s.nv.fuses.signModels = true then 2 else if good = true then 1 else 3) ∧
    bitOf (t.getN Obj.policy) 1 = (s.nv.fuses.signModels || good) ∧
    nv = (if good = true then { s.nv with fuses := { s.nv.fuses with signModels := true } } else s.nv)) := by
  obtain ⟨a, nv, t, hexec, hobeys, hresult, hnv, -, ht⟩ := fuseCommand_burns (c := .fuseSignModels p good) (code := 0x4C4B0003) hr rfl (by decide)
    (by decide) hmode (burnt := (·.signModels)) (set := fun f => { f with signModels := true })
    (fun x => by rw [fuseAct, if_neg (by decide), if_neg (by decide), if_pos rfl]) (fun h => by rw [← h])
  refine ⟨nv, t, hexec, hobeys, hresult, ?_, hnv⟩
  rw [ht, (showSec_policy nv a).2, hnv]
  cases good <;> simp

theorem fuseRevokeKey_burns {k : Fin 4} : DoesNv (.fuseRevokeKey p k good) s (fun nv t =>
    s.w.obeys t p Obj.fuseCmd (0x4C4B0010 + k) [.blobs] fuseKeys ∧
    t.get Obj.fuseResult = (if (nth {} s.nv.fuses.keys k).revoked = true then 2 else if good = true then 1 else 3) ∧
    nv = (if good = true then { s.nv with fuses := { s.nv.fuses with keys := upd s.nv.fuses.keys k (fun x => { x with revoked := true }) } }
      else s.nv)) := by
  have hrow : ∀ k : Fin 4, commandRow Obj.fuseCmd (0x4C4B0010 + k.val : Nat) fuseCmdRow = true := by decide
  have hraw : ∀ k : Fin 4, field (8 * fuseCmdRow.typ.size) (0x4C4B0010 + k.val : Nat) = 0x4C4B0010 + k.val := by decide
  have hact : ∀ x, fuseAct (0x4C4B0010 + k) good x = burnFuse (fun f => (nth {} f.keys k).revoked)
      (fun f => { f with keys := upd f.keys k (fun s => { s with revoked := true }) }) good x := by
    intro x
    rw [fuseAct, if_neg (by omega), if_neg (by omega), if_neg (by omega), Nat.add_sub_cancel_left]
  obtain ⟨a, nv, t, hexec, hobeys, hresult, hnv, -⟩ := fuseCommand_burns (c := .fuseRevokeKey p k good) hr rfl (hrow k) (hraw k) hmode hact
    (fun h => by rw [upd_of_nth_eq {} fun _ => congrArg (KeySlot.mk _ _) h.symm])
  exact ⟨nv, t, hexec, hobeys, hresult, hnv⟩

/-! ### Owner keys and the rollback counter -/

/-- The row of OWNER_KEY_BURN. -/
def ownerKeyBurnRow : ObjRow := ⟨0x2308, 0x1, 1, 1, 1, "OWNER_KEY_BURN", .domain, .wo, .imm, .const 0, .bytes 1793 1793 1⟩

/-- The row of ROLLBACK_COMMIT. -/
def rollbackCommitRow : ObjRow := ⟨0x2300, 0x1, 1, 5, 5, "ROLLBACK_COMMIT", .u8, .wo, .imm, .const 0, .codes [1]⟩

/-- The fuses after a key is burnt into slot k. -/
def Fuses.burnKey (f : Fuses) (key : Bytes) (k : Nat) : Fuses :=
  { f with keys := upd f.keys k (fun x => { x with digest := shake256 key, valid := true }) }

omit hr hmode in
theorem burnKey_of_some {key : Bytes} {x : Both} {k : Nat} (h : (upTo 4).find? (fun k => (nth {} x.1.fuses.keys k).empty) = some k) :
    burnKey key good x = fuseResult (if good = true then 1 else 3)
      (if good = true then { x.1 with fuses := x.1.fuses.burnKey key k } else x.1, x.2) := by
  rw [burnKey, h]
  cases good <;> rfl

omit hr hmode in
theorem burnKey_of_none {key : Bytes} {x : Both} (h : (upTo 4).find? (fun k => (nth {} x.1.fuses.keys k).empty) = none) :
    burnKey key good x = fuseResult 4 x := by rw [burnKey, h]

omit hr hmode in
/-- A key command shows its outcome, and leaves the flash. -/
theorem burnKey_shows (key : Bytes) (x : Both) : ∃ n nv, burnKey key good x = fuseResult n (nv, x.2) ∧ nv.flash = x.1.flash := by
  cases h : (upTo 4).find? (fun k => (nth {} x.1.fuses.keys k).empty) with
  | none => exact ⟨4, x.1, burnKey_of_none h, rfl⟩
  | some k =>
    refine ⟨_, _, burnKey_of_some h, ?_⟩
    split <;> rfl

theorem ownerKeyBurn_burns {key : Bytes} (hlen : key.length = 1793) : DoesNv (.ownerKeyBurn p key good) s (fun nv t =>
    t.journal.head = s.w.journal.head + 1 ∧ s.w.only t [.journal, .lastRes, .blobs, .changes] ∧ s.w.sameBut t (acceptKeys p ++ fuseKeys) ∧
    nv.flash = s.nv.flash ∧
    (∀ k : Fin 4, (∀ j : Fin 4, j < k → (nth {} s.nv.fuses.keys j).empty = false) → (nth {} s.nv.fuses.keys k).empty = true →
      t.get Obj.fuseResult = (if good = true then 1 else 3) ∧
      nv.fuses = (if good = true then { s.nv.fuses with
        keys := upd s.nv.fuses.keys k (fun x => { x with digest := shake256 key, valid := true }) } else s.nv.fuses)) ∧
    ((∀ k : Fin 4, (nth {} s.nv.fuses.keys k).empty = false) → t.get Obj.fuseResult = 4 ∧ nv = s.nv)) := by
  have hcheck : s.w.checkBlob p Obj.ownerKeyBurn key = .ok ownerKeyBurnRow :=
    Work.checkBlob_row hr (by decide) (foreignGroup_of_ne (by decide) p) rfl rfl (by simp [ownerKeyBurnRow, Rng.checkLen, hlen, Nat.mod_one])
  let a := s.w.acceptBlob p ownerKeyBurnRow Obj.ownerKeyBurn key (s.w.effectFrame ownerKeyBurnRow.effect)
  have hdone : ownerKeyBurn p key good (s.nv, s.w) = burnKey key good (s.nv, a) := writeBlobNv_ready hr hcheck (fuseMode_of_mode hmode)
  obtain ⟨n, nv, hshows, hflash⟩ := burnKey_shows (good := good) key (s.nv, a)
  have haccepted := Work.within_acceptBlob_command (r := ownerKeyBurnRow) hr rfl (.inl rfl) Obj.ownerKeyBurn key
    (s.w.effectFrame ownerKeyBurnRow.effect)
  have hresult := within_fuseResult n (nv, a)
  have hwithin := haccepted.comp hresult
  have hshown := (hdone.trans hshows).trans (fuseResult_fst n nv a)
  refine ⟨nv, (fuseResult n (nv, a)).2, exec_of_onBoth rfl hshown, ?_, Work.only_mono hwithin.only (by simp), hwithin.sameBut, hflash,
    fun k hbelow hempty => ?_, fun hfull => ?_⟩
  · exact (congrArg Journal.head (hresult.same .journal (by decide))).trans (Work.acceptBlob_head ..)
  · have hfind : (upTo 4).find? (fun k => (nth {} s.nv.fuses.keys k).empty) = some k.val :=
      List.find?_range_eq_some.mpr ⟨hempty, List.mem_range.mpr k.isLt, fun j hj => by simpa using hbelow ⟨j, hj.trans k.isLt⟩ hj⟩
    have hburnt := hshows.symm.trans (burnKey_of_some (x := (s.nv, a)) hfind)
    have hnv : nv = if good = true then { s.nv with fuses := s.nv.fuses.burnKey key k } else s.nv := congrArg Prod.fst hburnt
    rw [hburnt, get_fuseResult, hnv]
    cases good <;> exact ⟨rfl, rfl⟩
  · have hfind : (upTo 4).find? (fun k => (nth {} s.nv.fuses.keys k).empty) = none :=
      List.find?_range_eq_none.mpr fun k hk => by simpa using hfull ⟨k, hk⟩
    have hburnt := hshows.symm.trans (burnKey_of_none (x := (s.nv, a)) hfind)
    rw [hburnt, get_fuseResult]
    exact ⟨rfl, congrArg Prod.fst hburnt⟩

/-- The lower SVN of the two images. -/
def NonVol.lowSvn (nv : NonVol) : Nat :=
  min (fwSvnOf (nth {} nv.flash.firmware 0).bytes) (fwSvnOf (nth {} nv.flash.firmware 1).bytes)

omit hr hmode in
theorem rollbackAct_eq (nv : NonVol) (a : Work) : rollbackAct good (nv, a) =
    if nv.fwState 0 ≠ 1 ∨ nv.fwState 1 ≠ 1 then fuseResult 6 (nv, a)
    else if nv.lowSvn ≤ nv.fuses.rollback then fuseResult 5 (nv, a)
    else if good = true then fuseResult 1 ({ nv with fuses := { nv.fuses with rollback := nv.lowSvn } }, a)
    else fuseResult 3 (nv, a) := by
  simp only [rollbackAct, Bool.or_eq_true, decide_eq_true_eq]
  rfl

omit hr hmode in
theorem rollbackAct_shows (nv : NonVol) (a : Work) : ∃ n nv', rollbackAct good (nv, a) = fuseResult n (nv', a) ∧ nv'.flash = nv.flash := by
  rw [rollbackAct_eq]
  split
  · exact ⟨6, nv, rfl, rfl⟩
  · split
    · exact ⟨5, nv, rfl, rfl⟩
    · split
      · exact ⟨1, _, rfl, rfl⟩
      · exact ⟨3, nv, rfl, rfl⟩

theorem rollbackCommit_raises : DoesNv (.rollbackCommit p good) s (fun nv t => s.w.obeys t p Obj.rollbackCommit 1 [.blobs] fuseKeys ∧
    nv.flash = s.nv.flash ∧ (s.nv.fwState 0 ≠ 1 ∨ s.nv.fwState 1 ≠ 1 → t.get Obj.fuseResult = 6 ∧ nv = s.nv) ∧
    (s.nv.fwState 0 = 1 → s.nv.fwState 1 = 1 → ∀ low : Nat,
      low = min (fwSvnOf (nth {} s.nv.flash.firmware 0).bytes) (fwSvnOf (nth {} s.nv.flash.firmware 1).bytes) →
      if low ≤ s.nv.fuses.rollback then t.get Obj.fuseResult = 5 ∧ nv = s.nv
      else t.get Obj.fuseResult = (if good = true then 1 else 3) ∧
        nv.fuses = (if good = true then { s.nv.fuses with rollback := low } else s.nv.fuses))) := by
  obtain ⟨a, hacts, hobeys⟩ := writeNumNv_command (key := Obj.rollbackCommit) (code := 1) (r := rollbackCommitRow) (by decide) hr
    (fuseMode_of_mode hmode) (rollbackAct good) s.nv
  obtain ⟨n, nv, hshows, hflash⟩ := rollbackAct_shows (good := good) s.nv a
  have hresult : ∀ m mv, rollbackAct good (s.nv, a) = fuseResult m (mv, a) → (fuseResult n (nv, a)).2.get Obj.fuseResult = m ∧ nv = mv :=
    fun m mv h => ⟨by rw [← hshows, h, get_fuseResult], congrArg Prod.fst (hshows.symm.trans h)⟩
  refine ⟨nv, (fuseResult n (nv, a)).2, exec_of_onBoth rfl ((hacts.trans hshows).trans (fuseResult_fst n nv a)), Work.obeys_of_fuses hobeys n nv, hflash, fun hbad => ?_,
    fun h0 h1 low hlow => ?_⟩
  · exact hresult 6 s.nv (by rw [rollbackAct_eq, if_pos hbad])
  · have hvalid : ¬(s.nv.fwState 0 ≠ 1 ∨ s.nv.fwState 1 ≠ 1) := by simp [h0, h1]
    have hlowest : low = s.nv.lowSvn := hlow
    subst hlowest
    split
    next hle => exact hresult 5 s.nv (by rw [rollbackAct_eq, if_neg hvalid, if_pos hle])
    next hgt =>
      cases good with
      | true =>
        obtain ⟨hget, hnv⟩ := hresult 1 { s.nv with fuses := { s.nv.fuses with rollback := s.nv.lowSvn } }
          (by rw [rollbackAct_eq, if_neg hvalid, if_neg hgt, if_pos rfl])
        exact ⟨hget, congrArg NonVol.fuses hnv⟩
      | false =>
        obtain ⟨hget, hnv⟩ := hresult 3 s.nv (by rw [rollbackAct_eq, if_neg hvalid, if_neg hgt, if_neg Bool.false_ne_true])
        exact ⟨hget, congrArg NonVol.fuses hnv⟩

end

theorem fuseDebugLock_refused (hhold : s.w.mode ≠ .hold) (hready : s.w.mode ≠ .ready) (hshadow : s.w.mode ≠ .shadow) :
    DoesNv (.fuseDebugLock p good) s (fun nv t => s.w.refuses t p Obj.fuseCmd .mode ∧ nv = s.nv) := by
  obtain ⟨hcheck, -⟩ := Work.checkNum_of_commandRow (key := Obj.fuseCmd) (code := 0x4C4B0001) (r := fuseCmdRow) (by decide) hr
  have hmode : fuseMode s.w = some .mode := by simp [fuseMode, hhold, hready, hshadow]
  exact ⟨s.nv, _, exec_of_onBoth rfl (writeNumNv_refused hr hcheck hmode), s.w.refuses_refuse p _ _, rfl⟩

end

/-- Settles O57: each fuse command is an acceptance, one change of the fuses, and the outcome shown. -/
theorem fusesAreBurntOnceAndStay : Obligations.FusesAreBurntOnceAndStay :=
  ⟨fun _ _ _ hr hmode => fuseDebugLock_burns hr hmode, fun _ _ _ hr hmode => fuseSignProfiles_burns hr hmode,
    fun _ _ _ hr hmode => fuseSignModels_burns hr hmode, fun _ _ _ _ hr hmode => fuseRevokeKey_burns hr hmode,
    fun _ _ _ hr hhold hready hshadow => fuseDebugLock_refused hr hhold hready hshadow, fun _ _ _ _ hr hmode hlen => ownerKeyBurn_burns hr hmode hlen, fun _ _ _ hr hmode => rollbackCommit_raises hr hmode⟩

end Sys2Proof.Machine
end

section
/-! Firmware, the debug token, the identity key and the quote (R508, R511 to R513). -/
namespace Sys2Proof.Machine

/-- The row of FW_IMAGE. -/
def fwImageRow : ObjRow := ⟨0x2303, 0x1, 1, 1, 1, "FW_IMAGE", .domain, .wo, .reset, .const 0, .bytes 3424 16777216 1⟩

/-- The row of DEBUG_TOKEN. -/
def debugTokenRow : ObjRow := ⟨0x230B, 0x1, 1, 2, 2, "DEBUG_TOKEN", .domain, .wo, .imm, .const 0, .bytes 3328 3328 1⟩

theorem Work.blob_setBlob_other (w : Work) {k key : Nat} (h : k ≠ key) (b : Bytes) : (w.setBlob k b).blob key = w.blob key := by
  simp [Work.blob, Work.setBlob, alGet_alSet, h]

theorem Work.otherImage_lt (w : Work) : w.otherImage < 2 := by
  unfold Work.otherImage
  split <;> decide

section
variable {s : State} {p : Path} (hr : s.w.ready p = true)
include hr

theorem fwImageWrite_programs {b : Bytes} (hlo : 3424 ≤ b.length) (hhi : b.length ≤ 16777216) : DoesNv (.fwImageWrite p b) s (fun nv t =>
    nv.fuses = s.nv.fuses ∧
    (fwCheck s.nv s.w b = none → nv = { s.nv with flash := { s.nv.flash with
        firmware := upd s.nv.flash.firmware s.w.otherImage (fun _ => ⟨b, false⟩), op := some (.firmware s.w.otherImage) } } ∧
      t.journal.head = s.w.journal.head + 1 ∧ t.get (Obj.fwState s.w.otherImage) = 6) ∧
    (∀ e ∈ fwCheck s.nv s.w b, s.w.refuses t p Obj.fwImage e ∧ nv = s.nv)) := by
  have hcheck : s.w.checkBlob p Obj.fwImage b = .ok fwImageRow :=
    Work.checkBlob_row hr (by decide) (foreignGroup_of_ne (by decide) p) rfl rfl (by
      simp [fwImageRow, Rng.checkLen, Nat.not_lt.mpr hlo, Nat.not_lt.mpr hhi, Nat.mod_one])
  cases hfw : fwCheck s.nv s.w b with
  | some e =>
    refine ⟨s.nv, _, exec_of_onBoth rfl (writeBlobNv_refused hr hcheck hfw), rfl, fun h => absurd h (Option.some_ne_none e), fun e' he => ?_⟩
    obtain rfl := Option.some.inj he
    exact ⟨s.w.refuses_refuse p _ _, rfl⟩
  | none =>
    let a := s.w.acceptBlob p fwImageRow Obj.fwImage b (s.w.effectFrame fwImageRow.effect)
    let nv := { s.nv with flash := { s.nv.flash with
      firmware := upd s.nv.flash.firmware s.w.otherImage (fun _ => ⟨b, false⟩), op := some (.firmware s.w.otherImage) } }
    have haccepted : s.w.Within a _ _ := Work.within_acceptBlob_command (r := fwImageRow) hr rfl (.inr rfl) Obj.fwImage b _
    have hrunning : a.otherImage = s.w.otherImage := by
      rw [Work.otherImage, show a.sec = s.w.sec from haccepted.same .sec (by simp), Work.otherImage]
    have hdone : fwImageWrite p b (s.nv, s.w) = showSec (nv, a) := by
      refine (writeBlobNv_ready hr hcheck hfw).trans ?_
      simp only [fwInstall, a, nv, ← hrunning]
    have hshown := within_showSec nv a
    have hstate := showSec_fwState nv a ⟨s.w.otherImage, s.w.otherImage_lt⟩
    refine ⟨nv, (showSec (nv, a)).2, exec_of_onBoth rfl hdone, rfl, fun _ => ⟨rfl, ?_, ?_⟩, fun e he => absurd he (by simp)⟩
    · exact (congrArg Journal.head (hshown.same .journal (by decide))).trans (Work.acceptBlob_head ..)
    · rw [hstate, NonVol.fwState, if_pos rfl]
      rfl

theorem debugToken_reopens {b : Bytes} (hlen : b.length = 3328) : Does (.debugToken p b) s (fun t =>
    if sigValid "TZDEBUG1" Config.glohusKeys s.w.tokenDigest b = true then
      t.get Obj.debugState = (if s.w.get Obj.debugState = 1 then 2 else s.w.get Obj.debugState) ∧ t.journal.head = s.w.journal.head + 1 ∧
      s.w.only t [.journal, .lastRes, .blobs, .changes] ∧ s.w.sameBut t (acceptKeys p ++ [Obj.debugState])
    else s.w.refuses t p Obj.debugToken .signature) := by
  have hcheck : s.w.checkBlob p Obj.debugToken b = .ok debugTokenRow :=
    Work.checkBlob_row hr (by decide) (foreignGroup_of_ne (by decide) p) rfl rfl (by simp [debugTokenRow, Rng.checkLen, hlen, Nat.mod_one])
  refine does_of_onWork rfl ?_
  split
  next hsig =>
    let a := s.w.acceptBlob p debugTokenRow Obj.debugToken b (s.w.effectFrame debugTokenRow.effect)
    have htoken : tokenCheck s.w b = none := if_pos hsig
    have hdone : debugToken p b s.w = if a.get Obj.debugState = 1 then a.set Obj.debugState 2 else a := Work.writeBlob_ready hr hcheck htoken _
    have haccepted : s.w.Within a _ _ := Work.within_acceptBlob_command (r := debugTokenRow) hr rfl (.inl rfl) Obj.debugToken b _
    have hstate : a.get Obj.debugState = s.w.get Obj.debugState := haccepted.get (not_mem_acceptKeys (by decide))
    have hopened : a.Within (if a.get Obj.debugState = 1 then a.set Obj.debugState 2 else a) [] [Obj.debugState] :=
      .ite (a.within_set _ _) (.refl a _ _)
    have hwithin := haccepted.comp hopened
    rw [hdone]
    refine ⟨?_, ?_, Work.only_mono hwithin.only (by simp), hwithin.sameBut⟩
    · rw [hstate]
      split
      · exact a.get_set_same _ _
      · exact hstate
    · exact (congrArg Journal.head (hopened.same .journal (by decide))).trans (Work.acceptBlob_head ..)
  next hsig =>
    have htoken : tokenCheck s.w b = some .signature := if_neg hsig
    have hdone : debugToken p b s.w = s.w.refuse p Obj.debugToken .signature := by
      simp [debugToken, Work.writeBlob, Work.dictOpen_of_ready hr, hcheck, htoken]
    rw [hdone]
    exact s.w.refuses_refuse p _ _

end

theorem fwProgramDone_prefers {s : State} {i : Nat} (hop : s.nv.flash.op = some (.firmware i)) : DoesNv (.fwProgramDone) s (fun nv t =>
    nv = { s.nv with flash := { s.nv.flash with op := none, prefer := i } } ∧ t.get Obj.fwPrefer = i ∧ s.w.only t [.blobs] ∧
    s.w.sameBut t fuseKeys) := by
  have hdone : fwProgramDone (s.nv, s.w) = showSec ({ s.nv with flash := { s.nv.flash with op := none, prefer := i } }, s.w) := by
    simp only [fwProgramDone, hop]
  have hshown := within_showSec { s.nv with flash := { s.nv.flash with op := none, prefer := i } } s.w
  exact ⟨_, _, exec_of_onBoth rfl hdone, rfl, showSec_fwPrefer _ _, hshown.only, Work.sameBut_mono hshown.sameBut secKeys_subset⟩

theorem identityKeyReady_shows {s : State} (hopen : s.w.mode.dictOpen = true) (hfirst : s.w.sec.keyReady = false) :
    Does (.identityKeyReady) s (fun t => t.sec.keyReady = true ∧ t.blob Obj.identityKey = Config.identityKey ∧
      t.blob Obj.identityCert = (if slice s.nv.flash.cert 64 1793 = Config.identityKey then s.nv.flash.cert else []) ∧ s.w.only t [.sec, .blobs] ∧
      s.w.sameBut t []) := by
  let v := { s.w with sec := { s.w.sec with keyReady := true } }
  let cert := if slice s.nv.flash.cert 64 1793 = Config.identityKey then s.nv.flash.cert else []
  have hdone : identityKeyReady s.nv s.w = (v.setBlob Obj.identityKey Config.identityKey).setBlob Obj.identityCert cert :=
    if_neg (by simp [hopen, hfirst])
  have hready : s.w.Within v [.sec] [] := ⟨fun q hq => by cases q <;> simp [Part.same, v] at hq ⊢, fun _ _ => rfl⟩
  have hwithin := hready.comp ((v.within_setBlob Obj.identityKey Config.identityKey).comp (Work.within_setBlob _ Obj.identityCert cert))
  refine ⟨(v.setBlob Obj.identityKey Config.identityKey).setBlob Obj.identityCert cert, ?_, rfl,
    (Work.blob_setBlob_other _ (by decide) cert).trans (Work.blob_setBlob _ _ _), Work.blob_setBlob _ _ _,
    Work.only_mono hwithin.only (by simp), hwithin.sameBut⟩
  rw [← hdone]
  rfl

theorem quote_answers {s : State} {p : Path} (hopen : s.w.mode.dictOpen = true) : DoesNv (.quote p) s (fun nv t =>
    nv = s.nv ∧ (s.w.get Obj.debugState = 2 → s.w.refuses t p Obj.quote .locked) ∧
    (s.w.get Obj.debugState ≠ 2 → s.w.sec.keyReady = false → s.w.refuses t p Obj.quote .busy) ∧
    (s.w.get Obj.debugState ≠ 2 → s.w.sec.keyReady = true → t.sent.length = s.w.sent.length + 1 ∧ t.drawCount = s.w.drawCount + 1 ∧
      t.lastRes = 0 ∧ s.w.only t [.sent, .draws, .lastRes] ∧ s.w.sameBut t (resultKey p).toList)) := by
  have hread : readBlob s.nv s.w Obj.quote = quoteBytes s.nv s.w := if_pos rfl
  have hrefused : ∀ e, quoteBytes s.nv s.w = .error e → uploadBlob p Obj.quote (s.nv, s.w) = (s.nv, s.w.refuse p Obj.quote e) := fun e he => by
    simp only [uploadBlob, hopen, hread, he, Bool.not_true, Bool.false_eq_true, if_false]
  by_cases hlocked : s.w.get Obj.debugState = 2
  · have hdone := hrefused .locked (if_pos hlocked)
    exact ⟨s.nv, _, exec_of_onBoth rfl hdone, rfl, fun _ => s.w.refuses_refuse p _ _, fun h => absurd hlocked h, fun h => absurd hlocked h⟩
  · cases hkey : s.w.sec.keyReady with
    | false =>
      have hdone := hrefused .busy (by rw [quoteBytes, if_neg hlocked, hkey]; rfl)
      exact ⟨s.nv, _, exec_of_onBoth rfl hdone, rfl, fun h => absurd h hlocked, fun _ _ => s.w.refuses_refuse p _ _, fun _ h => by cases h⟩
    | true =>
      obtain ⟨b, hquote⟩ : ∃ b, quoteBytes s.nv s.w = .ok (b, { s.w with drawCount := s.w.drawCount + 1 }) := by
        rw [quoteBytes, if_neg hlocked, hkey]
        exact ⟨_, rfl⟩
      let u : Work := { s.w with drawCount := s.w.drawCount + 1 }
      let v := u.send (.reply p Obj.quote b)
      have hdone : uploadBlob p Obj.quote (s.nv, s.w) = (s.nv, v.setResult p .ok) := by
        simp only [uploadBlob, hopen, hread, hquote, Bool.not_true, Bool.false_eq_true, if_false]
        rfl
      have hdraw : s.w.Within u [.draws] [] := ⟨fun q hq => by cases q <;> simp [Part.same, u] at hq ⊢, fun _ _ => rfl⟩
      have hwithin := hdraw.comp ((u.within_send (.reply p Obj.quote b)).comp (⟨v.only_setResult p .ok, v.sameBut_setResult p .ok⟩ :
        v.Within (v.setResult p .ok) _ _))
      refine ⟨s.nv, v.setResult p .ok, exec_of_onBoth rfl hdone, rfl, fun h => absurd h hlocked, fun _ h => (by cases h), fun _ _ =>
        ⟨?_, ?_, Work.setResult_lastRes .., Work.only_mono hwithin.only (by simp), Work.sameBut_mono hwithin.sameBut (by simp)⟩⟩
      · rw [Work.setResult_sent]
        rfl
      · rw [Work.setResult_drawCount]
        rfl

/-- Settles O58: a check refuses or the image is shown being programmed, and the quote answers once or is refused. -/
theorem firmwareAndIdentityAreTrusted : Obligations.FirmwareAndIdentityAreTrusted :=
  ⟨fun _ _ _ hr hlo hhi => fwImageWrite_programs hr hlo hhi, fun _ _ => fwProgramDone_prefers, fun _ _ _ hr hlen => debugToken_reopens hr hlen, fun _ => identityKeyReady_shows,
    fun _ _ => quote_answers⟩

end Sys2Proof.Machine
end

section
/-! Management of a peer (R459): what a request and its RESULT change of the session, and the answers. -/
namespace Sys2Proof.Machine
variable (w : Work)

/-! ### A write that follows a change of its own -/

/-- A write that obeys after a change that keeps the journal and every number obeys from before that change. -/
theorem Work.obeys_after {a b c : Work} {p : Path} {key raw : Nat} {ps qs rs : List Part} {ks : List Nat} (hab : a.Within b ps [])
    (h : b.obeys c p key raw qs ks) (hj : Part.journal ∉ ps) (hps : ps ⊆ rs) (hqs : qs ⊆ rs) : a.obeys c p key raw rs ks := by
  obtain ⟨hjournals, hcode, hresult, hparts, hkeys⟩ := h
  have hjournal : b.journal = a.journal := hab.same .journal hj
  refine ⟨by rwa [Work.journals, ← hjournal], hcode, hresult, ?_, Work.sameBut_trans (Work.sameBut_mono hab.sameBut (by simp)) hkeys⟩
  exact Work.only_trans (Work.only_mono hab.only fun q hq => by simp [hps hq]) (Work.only_mono hparts (List.cons_subset_cons _ (List.cons_subset_cons _ hqs)))

/-! ### Sessions -/

theorem Work.within_updSession (peer : Nat) (f : Session → Session) : w.Within (w.updSession peer f) [.sys] [] :=
  ⟨fun q hq => by cases q <;> simp [Part.same, Work.updSession] at hq ⊢, fun _ _ => rfl⟩

/-- A change of the session with a peer that keeps the peer is seen in that session. -/
theorem Work.session_updSession {peer : Nat} {f : Session → Session} (hf : ∀ s : Session, (f s).peer = s.peer) :
    (w.updSession peer f).session peer = (w.session peer).map f := by
  simp only [Work.session, Work.updSession, List.find?_map]
  have hpeer : ((fun s : Session => s.peer == peer) ∘ fun s => if s.peer = peer then f s else s) = fun s => s.peer == peer := by
    funext s
    by_cases h : s.peer = peer <;> simp [h, hf]
  rw [hpeer]
  cases h : w.sys.sessions.find? (fun s => s.peer == peer) with
  | none => rfl
  | some z =>
    have hz : z.peer = peer := by simpa using List.find?_some h
    simp [hz]

theorem Work.within_ylSend (peer cls typ : Nat) (fields : List Nat) (data : Bytes) :
    w.Within (w.ylSend peer cls typ fields data).1 [.sys, .sent] [] := by
  refine ⟨w.only_ylSend _ _ _ _ _, fun k _ => ?_⟩
  unfold Work.ylSend
  split <;> rfl

theorem Work.ylSend_sent {peer : Nat} {z : Session} (h : w.session peer = some z) (cls typ : Nat) (fields : List Nat) (data : Bytes) :
    (w.ylSend peer cls typ fields data).1.sent = .yalind peer cls typ (nth 0 z.nextOut cls) fields data :: w.sent := by
  unfold Work.ylSend
  rw [h]
  rfl

theorem Work.within_mgmtResult (peer tag key code : Nat) (data : Bytes) : w.Within (w.mgmtResult peer tag key code data) [.sys, .sent] [] :=
  ((w.within_updSession peer _).comp (Work.within_ylSend _ _ _ _ _ _)).mono (by simp) (by simp)

theorem Work.mgmtResult_sent {peer : Nat} {z : Session} (h : w.session peer = some z) (tag key code : Nat) (data : Bytes) :
    (w.mgmtResult peer tag key code data).sent = .yalind peer 1 3 (nth 0 z.nextOut 1) [tag, key / 256, key % 256, code] data :: w.sent := by
  let u := w.updSession peer (fun s => { s with requests := s.requests - 1 })
  have hsession : u.session peer = some { z with requests := z.requests - 1 } :=
    (w.session_updSession (f := fun s => { s with requests := s.requests - 1 }) fun _ => rfl).trans (by rw [h]; rfl)
  exact u.ylSend_sent hsession 1 3 _ data

theorem Work.mgmtResult_pair (peer tag key code : Nat) (data : Bytes) : (w.mgmtResult peer tag key code data).sys.pair = w.sys.pair := by
  unfold Work.mgmtResult Work.ylSend
  split <;> rfl

/-- A request is taken: its session is heard and has one more unanswered. -/
def Work.requested (w : Work) (peer : Nat) : Work := (w.heard peer).updSession peer (fun s => { s with requests := s.requests + 1 })

theorem Work.within_requested (peer : Nat) : w.Within (w.requested peer) [.sys] [] :=
  (w.within_updSession peer _).trans (Work.within_updSession _ _ _)

theorem Work.requested_pair (peer : Nat) : (w.requested peer).sys.pair = w.sys.pair := rfl

theorem Work.session_heard {peer : Nat} {z : Session} (h : w.session peer = some z) : (w.heard peer).session peer = some { z with lastRx := w.clk.ctl } :=
  (w.session_updSession (f := fun s => { s with lastRx := w.clk.ctl }) fun _ => rfl).trans (by rw [h]; rfl)

theorem Work.session_requested {peer : Nat} {z : Session} (h : w.session peer = some z) :
    (w.requested peer).session peer = some { z with lastRx := w.clk.ctl, requests := z.requests + 1 } :=
  ((w.heard peer).session_updSession (f := fun s => { s with requests := s.requests + 1 }) fun _ => rfl).trans (by rw [w.session_heard h]; rfl)

theorem Work.ready_requested (p : Path) (peer : Nat) : (w.requested peer).ready p = w.ready p := by
  cases p <;> rfl

section
variable {s : State} {a : Fin 1024} {tag : BitVec 56} {i : BitVec 16} {x : BitVec 8} {z : Session} (hz : s.w.session a = some z)
  (hroom : z.requests < 16)
include hz hroom

theorem mgmtTake_requested (hopen : s.w.mode.dictOpen = true) : s.w.mgmtTake a = some (s.w.requested a) := by
  simp only [Work.mgmtTake, hz, hopen, Nat.not_le.mpr hroom, Bool.not_true, decide_false, Bool.or_self, Bool.false_eq_true, if_false]
  rfl

theorem mgmtRead_answers {r : ObjRow} (hopen : s.w.mode.dictOpen = true) (hheld : s.w.sys.pair.proposals = [])
    (hf : findRow i.toNat x.toNat = some r) (hwo : r.access ≠ .wo) (hb : r.typ.isBlob = false)
    (hformed : (atKey formedNums (objKey i.toNat x.toNat)).isNone = true) : DoesNv (.mgmtRead a tag i x) s (fun nv t =>
      t.sent = .yalind a 1 3 (nth 0 z.nextOut 1) [tag.toNat, i.toNat, x.toNat, 0] (r.typ.encode (s.w.get (objKey i.toNat x.toNat))) :: s.w.sent ∧
      nv = s.nv ∧ s.w.only t [.sys, .sent, .lastRes] ∧ s.w.sameBut t (resultKey (.yalind a)).toList) := by
  let key := objKey i.toNat x.toNat
  let u := (s.w.requested a).setResult (.yalind a) .ok
  let t := u.mgmtResult a tag.toNat key 0 (r.typ.encode (s.w.get key))
  have hrow : findRow (key / 256) (key % 256) = some r := by rwa [objKey_div_toNat, objKey_mod_toNat]
  have hread := readObject_num (w := s.w.requested a) hrow hwo hb hformed s.nv
  have hlast : u.lastRes = 0 := Work.setResult_lastRes ..
  have hdone : mgmtRead a tag i x (s.nv, s.w) = (s.nv, t) := by
    simp only [mgmtRead, mgmtTake_requested hz hroom hopen]
    rw [readAny_of_nil (by rwa [Work.requested_pair])]
    simp only [readOne, show objKey i.toNat x.toNat = key from rfl, hread, Work.answerRead, encodeVal_num hrow]
    rw [show ((s.w.requested a).setResult (.yalind a) .ok).lastRes = 0 from hlast, if_pos (Nat.zero_le _)]
    rfl
  have hsession : u.session a = some { z with lastRx := s.w.clk.ctl, requests := z.requests + 1 } := by
    rw [Work.session, Work.setResult_sys]
    exact s.w.session_requested hz
  have hresult : (s.w.requested a).Within u [.lastRes] (resultKey (.yalind a)).toList := ⟨Work.only_setResult _ _ _, Work.sameBut_setResult _ _ _⟩
  have hwithin := (s.w.within_requested a).comp (hresult.comp (u.within_mgmtResult a tag.toNat key 0 (r.typ.encode (s.w.get key))))
  refine ⟨s.nv, t, exec_of_onBoth rfl hdone, ?_, rfl, Work.only_mono hwithin.only (by simp), Work.sameBut_mono hwithin.sameBut (by simp)⟩
  rw [u.mgmtResult_sent hsession, objKey_div_toNat, objKey_mod_toNat, show u.sent = s.w.sent from Work.setResult_sent ..]

theorem mgmtWrite_accepts {b : Bytes} {v : Int} {r : ObjRow} (hmay : s.w.mgmtMay a = true) (hr : s.w.ready (.yalind a) = true)
    (hn : plainNum (.yalind a) (objKey i.toNat x.toNat) v r = true) (he : r.effect = .imm) (hlen : b.length = r.typ.size) (hv : r.typ.decode b = v) :
    DoesNv (.mgmtWrite a tag i x b) s (fun nv t =>
      s.w.obeys t (.yalind a) (objKey i.toNat x.toNat) (field (8 * r.typ.size) (r.mask v)) [.sys, .sent] [objKey i.toNat x.toNat] ∧
      t.get (objKey i.toNat x.toNat) = r.mask v ∧ nv = s.nv ∧
      t.sent = .yalind a 1 3 (nth 0 z.nextOut 1) [tag.toNat, i.toNat, x.toNat, 0] [] :: s.w.sent) := by
  subst hv
  let key := objKey i.toNat x.toNat
  let u := s.w.requested a
  let y := u.acceptNum (.yalind a) r key (r.mask (r.typ.decode b)) u.frame
  have hru : u.ready (.yalind a) = true := by rwa [Work.ready_requested]
  obtain ⟨hk, hf, hb, -⟩ := row_of_plainNum hn
  have hcheck : u.checkNum (.yalind a) key (.bytes b) = .ok (r, r.mask (r.typ.decode b)) :=
    (u.checkNum_bytes _ hf hlen).trans (Work.checkNum_of_plainNum hn hru)
  have hone := writeOne_plainNum hk hf hb (.bytes b) (s.nv, u)
  rw [u.writeNum_ready _ _ _ _ _ none r _ hru hcheck rfl, Option.getD_none, Work.effectFrame_imm he] at hone
  have hlast : y.lastRes = 0 := by
    rw [Work.lastRes_acceptNum, Work.resOf, if_pos rfl]
    rfl
  have hsys : y.sys = u.sys := Work.acceptNum_sys hru _ _ _ _
  have hheld := Work.no_proposals_of_ready hru
  have hanswer : y.answerWrite (.yalind a) key (some tag.toNat) = y.mgmtResult a tag.toNat key 0 [] := by
    rw [Work.answerWrite, hlast]
  have hdone : mgmtWrite a tag i x b (s.nv, s.w) = (s.nv, y.mgmtResult a tag.toNat key 0 []) := by
    simp only [mgmtWrite, mgmtTake_requested hz hroom (Work.dictOpen_of_ready hr)]
    rw [if_pos (show u.mgmtMay a = true from hmay), writeAny_of_nil hheld (by rw [hone]; exact hsys ▸ hheld)]
    · rw [hone]
      exact congrArg (s.nv, ·) hanswer
    · rw [hone]
      refine (congrArg (fun v : Work => v.sys.pair.proposals) hanswer).trans ?_
      rwa [Work.mgmtResult_pair, hsys]
  have hstore := fun w : Work => w.store_imm (not_wo_of_plainNum hn) he key (r.mask (r.typ.decode b)) u.frame
  have hobeys := Work.obeys_acceptNum (ps := []) hru (by rw [hstore]; exact Work.only_set _ _ _ _) (by simp)
  have ⟨_, _, _, honly, _⟩ := hobeys
  have hsession : y.session a = some { z with lastRx := s.w.clk.ctl, requests := z.requests + 1 } := by
    rw [Work.session, hsys]
    exact s.w.session_requested hz
  have hresult := y.within_mgmtResult a tag.toNat key 0 []
  refine ⟨s.nv, y.mgmtResult a tag.toNat key 0 [], exec_of_onBoth rfl hdone, ?_, ?_, rfl, ?_⟩
  · exact Work.obeys_after (s.w.within_requested a) (Work.obeys_of_only hobeys hresult.only hresult.sameBut (by simp) (by simp)) (by simp) (by simp)
      (by simp)
  · rw [hresult.get (by simp), Work.get_acceptNum_of_plainNum hn hru, hstore, Work.get_set_same]
  · rw [y.mgmtResult_sent hsession, objKey_div_toNat, objKey_mod_toNat, show y.sent = u.sent from honly .sent (by simp)]
    rfl

theorem mgmtWrite_refuses {b : Bytes} (hopen : s.w.mode.dictOpen = true) (hmay : s.w.mgmtMay a = false) : DoesNv (.mgmtWrite a tag i x b) s (fun nv t =>
    t.get Obj.refusedCount = min (s.w.get Obj.refusedCount + 1) 0xFFFFFFFF ∧ t.get Obj.refusedObject = (objKey i.toNat x.toNat) ∧
    t.lastRes = Res.path.code ∧ t.sent = .yalind a 1 3 (nth 0 z.nextOut 1) [tag.toNat, i.toNat, x.toNat, Res.path.code] [] :: s.w.sent ∧ nv = s.nv ∧
    s.w.only t [.sys, .sent, .lastRes] ∧ s.w.sameBut t (refusalKeys (.yalind a))) := by
  let key := objKey i.toNat x.toNat
  let u := s.w.requested a
  let y := u.refuse (.yalind a) key .path
  obtain ⟨hlast, -, hcount, hobject, honly, hsame⟩ := u.refuses_refuse (.yalind a) key .path
  have hdone : mgmtWrite a tag i x b (s.nv, s.w) = (s.nv, y.mgmtResult a tag.toNat key Res.path.code []) := by
    simp only [mgmtWrite, mgmtTake_requested hz hroom hopen]
    rw [if_neg (show ¬u.mgmtMay a = true by rw [show u.mgmtMay a = false from hmay]; exact Bool.false_ne_true)]
    exact congrArg (s.nv, ·) (by rw [Work.answerWrite, hlast])
  have hsession : y.session a = some { z with lastRx := s.w.clk.ctl, requests := z.requests + 1 } := by
    rw [Work.session, show y.sys = u.sys from honly .sys (by simp)]
    exact s.w.session_requested hz
  have hresult := y.within_mgmtResult a tag.toNat key Res.path.code []
  have hrefused : u.Within y _ _ := ⟨honly, hsame⟩
  have hwithin := (s.w.within_requested a).comp (hrefused.comp hresult)
  have hsmall : key % 2 ^ 24 = key := Nat.mod_eq_of_lt (by simp only [key, objKey]; omega)
  refine ⟨s.nv, y.mgmtResult a tag.toNat key Res.path.code [], exec_of_onBoth rfl hdone, ?_, ?_, ?_, ?_, rfl,
    Work.only_mono hwithin.only (by simp), Work.sameBut_mono hwithin.sameBut (by simp)⟩
  · rw [hresult.get (by simp), hcount]
    rfl
  · rw [hresult.get (by simp), hobject, hsmall]
    rfl
  · rw [show (y.mgmtResult a tag.toNat key Res.path.code []).lastRes = y.lastRes from hresult.same .lastRes (by simp), hlast]
  · rw [y.mgmtResult_sent hsession, objKey_div_toNat, objKey_mod_toNat, show y.sent = u.sent from honly .sent (by simp)]
    rfl

end

theorem mgmtResult_hears {s : State} {a : Fin 1024} {tag : BitVec 56} {code : BitVec 16} {b : Bytes} {z : Session} (hz : s.w.session a = some z) :
    Does (.mgmtResult a tag code b) s (fun t => t.session a = some { z with lastRx := s.w.clk.ctl } ∧ s.w.only t [.sys] ∧ s.w.sameBut t []) := by
  have hwithin := s.w.within_updSession a (fun z => { z with lastRx := s.w.clk.ctl })
  exact does_of_onWork rfl ⟨s.w.session_heard hz, hwithin.only, hwithin.sameBut⟩

/-- Settles O51: a request is taken, its access is that of any path, and one RESULT answers it. -/
theorem peersManageTheModule : Obligations.PeersManageTheModule :=
  ⟨fun _ _ _ _ _ _ _ hz hopen hroom => mgmtRead_answers hz hroom hopen, fun _ _ _ _ _ _ _ _ _ hz hroom hmay hr hn => mgmtWrite_accepts hz hroom hmay hr hn,
    fun _ _ _ _ _ _ _ hz hopen hroom hmay => mgmtWrite_refuses hz hroom hopen hmay, fun _ _ _ _ _ _ => mgmtResult_hears⟩

end Sys2Proof.Machine
end

section
/-! Ethernet ports and EtherCAT (R491, R492, R495 to R498): frames answered, states, the watchdog, and process data. -/
namespace Sys2Proof.Machine

/-! ### Ethernet -/

theorem counterMax_fecCorr : ∀ n : Fin 4, counterMax (Obj.fecCorr n) = 0xFFFFFFFFFFFFFFFF := by decide

theorem counterMax_fecUncorr : ∀ n : Fin 4, counterMax (Obj.fecUncorr n) = 0xFFFFFFFFFFFFFFFF := by decide

theorem counterMax_rxPause : ∀ n : Fin 4, counterMax (Obj.rxPause n) = 0xFFFFFFFF := by decide

theorem ethLinkChange_shows {s : State} {n : Fin 4} {l : Fin 3} {c u : Nat} (hopen : s.w.mode.dictOpen = true) : Does (.ethLinkChange n l c u) s (fun t =>
    t.get (Obj.ethLink n) = (if s.w.confN (Obj.ethMode n) = 0 then 0 else l.val : Nat) ∧
    t.get (Obj.fecCorr n) = min (s.w.get (Obj.fecCorr n) + c) 0xFFFFFFFFFFFFFFFF ∧
    t.get (Obj.fecUncorr n) = min (s.w.get (Obj.fecUncorr n) + u) 0xFFFFFFFFFFFFFFFF ∧ s.w.only t [] ∧
    s.w.sameBut t [Obj.ethLink n, Obj.fecCorr n, Obj.fecUncorr n]) := by
  let st : Nat := if s.w.confN (Obj.ethMode n) = 0 then 0 else l.val
  let v := s.w.set (Obj.ethLink n) st
  have hdone : ethLinkChange n l c u s.w = (v.bump (Obj.fecCorr n) c).bump (Obj.fecUncorr n) u := by
    simp only [ethLinkChange, hopen, Bool.not_true, Bool.false_eq_true, if_false, v, st, ne_eq, ite_not, Nat.cast_ite, Nat.cast_zero]
  have hlink := s.w.within_set (Obj.ethLink n) st
  have hcorr := v.within_bump (Obj.fecCorr n) c
  have huncorr := (v.bump (Obj.fecCorr n) c).within_bump (Obj.fecUncorr n) u
  have hwithin := hlink.comp (hcorr.comp huncorr)
  refine does_of_onWork rfl ?_
  rw [hdone]
  refine ⟨?_, ?_, ?_, hwithin.only, hwithin.sameBut⟩
  · rw [huncorr.get (by simp), hcorr.get (by simp), Work.get_set_same]
  · rw [huncorr.get (by simp), Work.get_bump, if_pos rfl, counterMax_fecCorr, hlink.get (by simp)]
  · rw [Work.get_bump, if_pos rfl, counterMax_fecUncorr, hcorr.get (by simp), hlink.get (by simp)]

section
variable {s : State} {n : Fin 4} (hup : s.w.ethUp n = true)
include hup

theorem arpRequest_answers {ip fip : BitVec 32} {fmac : BitVec 48} (hset : s.w.confN (Obj.ethIpv4 n) ≠ 0)
    (hown : ip.toNat = s.w.confN (Obj.ethIpv4 n)) :
    Does (.arpRequest n ip fip fmac) s (fun t => t = s.w.send (.arpReply n ip.toNat (s.w.ethMac n) fip.toNat fmac.toNat)) := by
  refine does_of_onWork rfl ?_
  rw [arpRequest, hown, if_pos (by simp [hup, hset])]

theorem icmpEcho_answers {ip fip : BitVec 32} {i q : BitVec 16} {b : Bytes} (hset : s.w.confN (Obj.ethIpv4 n) ≠ 0)
    (hown : ip.toNat = s.w.confN (Obj.ethIpv4 n)) (hlen : b.length ≤ 1472) :
    Does (.icmpEcho n ip fip i q b) s (fun t => t = s.w.send (.echoReply n fip.toNat i.toNat q.toNat b)) := by
  refine does_of_onWork rfl ?_
  rw [icmpEcho, hown, if_pos (by simp [hup, hset, hlen])]

theorem pauseFrame_counts : Does (.pauseFrame n) s (fun t =>
    t.get (Obj.rxPause n) = min (s.w.get (Obj.rxPause n) + 1) 0xFFFFFFFF ∧ s.w.only t [] ∧ s.w.sameBut t [Obj.rxPause n]) := by
  have hwithin := s.w.within_bump (Obj.rxPause n) 1
  refine does_of_onWork rfl ?_
  rw [pauseFrame, if_pos hup]
  refine ⟨?_, hwithin.only, hwithin.sameBut⟩
  rw [Work.get_bump, if_pos rfl, counterMax_rxPause]
  rfl

end

/-! ### The state of EtherCAT -/

theorem Work.within_setGroup_coe (w : Work) (g : WriteGroup) : w.Within (w.setGroup .coe g) [.groups] [Obj.wgGroupState 1, Obj.groupCount 1] := by
  refine Work.Within.trans (b := { w with d := { w.d with groupCoe := g } }) ⟨fun q hq => ?_, fun _ _ => rfl⟩
    (((Work.within_set _ (Obj.wgGroupState 1) _).comp (Work.within_set _ (Obj.groupCount 1) _)).mono (by simp) (by simp))
  cases q <;> simp [Part.same] at hq ⊢

theorem Work.within_dropGroup_coe (w : Work) : w.Within (w.dropGroup .coe) [.groups] [Obj.wgGroupState 1, Obj.groupCount 1] :=
  .ite (w.within_setGroup_coe {}) (.refl w _ _)

theorem Work.dropGroup_coe_closed (w : Work) : (w.dropGroup .coe).d.groupCoe.isOpen = false := by
  unfold Work.dropGroup
  split
  · rfl
  next h => simpa [Work.group] using h

theorem Work.within_ecat (w : Work) (e : Ecat) : w.Within { w with ecat := e } [.ecat] [] :=
  ⟨fun q hq => by cases q <;> simp [Part.same] at hq ⊢, fun _ _ => rfl⟩

/-- ECAT_STATE after a change, with the process data received before it forgotten. -/
def Work.ecatTo (w : Work) (code : Nat) : Work := ({ w with ecat := { w.ecat with rxHeld := [], stopped := false } }).set Obj.ecatState code

theorem Work.within_ecatTo (w : Work) (code : Nat) : w.Within (w.ecatTo code) [.ecat] [Obj.ecatState] :=
  (w.within_ecat _).comp (Work.within_set _ _ _)

theorem ecatCode_eq_one {e : EcatSt} : ecatCode e = 1 ↔ e = .init := by cases e <;> decide

theorem ecatStateChange_changes {s : State} {e : EcatSt} (hopen : s.w.mode.dictOpen = true) (hne : s.w.getN Obj.ecatState ≠ ecatCode e)
    (hstep : ecatCode e < s.w.getN Obj.ecatState ∨ ecatCode e = 2 * s.w.getN Obj.ecatState) : Does (.ecatStateChange e) s (fun t =>
      t.get Obj.ecatState = ecatCode e ∧ t.ecat.rxHeld = [] ∧ t.ecat.stopped = false ∧ t.running .ecatWdt = decide (e = .op) ∧
      (e = .init → t.d.groupCoe.isOpen = false) ∧ s.w.only t [.ecat, .timers, .groups] ∧ (e ≠ .init → s.w.sameBut t [Obj.ecatState])) := by
  let u := s.w.ecatTo (ecatCode e)
  let v := if ecatCode e = 1 then u.dropGroup .coe else u
  let t := if ecatCode e = 8 then v.startTimer .ecatWdt else v.stopTimer .ecatWdt
  have hrefused : ¬(s.w.getN Obj.ecatState < ecatCode e ∧ ecatCode e ≠ 2 * s.w.getN Obj.ecatState) := by omega
  have hdone : ecatStateChange e s.w = t := by
    simp only [ecatStateChange, hopen, hne, hrefused, Bool.not_true, Bool.false_or, Bool.or_eq_true, Bool.and_eq_true, decide_eq_true_eq, or_self,
      if_false]
    rfl
  have hto := s.w.within_ecatTo (ecatCode e)
  have hdrop : u.Within v [.groups] [Obj.wgGroupState 1, Obj.groupCount 1] := .ite u.within_dropGroup_coe (.refl u _ _)
  have htimer : v.Within t [.timers] [] := .ite (v.within_startTimer _) (v.within_stopTimer _)
  have hwithin := hto.comp (hdrop.comp htimer)
  have hecat : t.ecat = u.ecat := (htimer.same .ecat (by simp)).trans (hdrop.same .ecat (by simp))
  refine does_of_onWork rfl ?_
  rw [hdone]
  refine ⟨?_, by rw [hecat]; rfl, by rw [hecat]; rfl, ?_, fun hinit => ?_, Work.only_mono hwithin.only (by simp), fun hinit => ?_⟩
  · rw [htimer.get (by simp), hdrop.get (by decide)]
    exact Work.get_set_same _ _ _
  · cases e
    case op => exact v.running_startTimer _
    all_goals exact v.running_stopTimer _
  · subst hinit
    exact u.dropGroup_coe_closed
  · have hkept : v = u := if_neg fun h => hinit (ecatCode_eq_one.mp h)
    rw [hkept] at htimer
    exact Work.sameBut_mono (hto.comp htimer).sameBut (by simp)

theorem ecatWatchdog_stops {s : State} (hon : s.w.getN Obj.ecatWdt ≠ 0) (hop : s.w.get Obj.ecatState = 8)
    (hexp : s.w.expired .ecatWdt (s.w.getN Obj.ecatWdt * 1000000) = true) : Does (.ecatWatchdog) s (fun t =>
      t.ecat.stopped = true ∧ bitOf (t.getN Obj.ecatFlags) 0 = true ∧ t.running .ecatWdt = false ∧ s.w.only t [.ecat, .timers] ∧
      s.w.sameBut t [Obj.ecatFlags]) := by
  let u := { s.w with ecat := { s.w.ecat with stopped := true } }
  have hdone : ecatWatchdog s.w = (u.stopTimer .ecatWdt).flag Obj.ecatFlags 1 := if_neg (by simp [hon, hop, hexp])
  have hwithin := (s.w.within_ecat { s.w.ecat with stopped := true }).comp ((u.within_stopTimer .ecatWdt).comp (Work.within_flag _ Obj.ecatFlags 1))
  refine does_of_onWork rfl ?_
  rw [hdone]
  exact ⟨rfl, Work.bitOf_flag _ Obj.ecatFlags 0, u.running_stopTimer _, Work.only_mono hwithin.only (by simp), hwithin.sameBut⟩

/-! ### Process data received -/

/-- The watchdog starts anew, and the outputs no longer count as stopped. -/
def Work.ecatFed (w : Work) : Work := ({ w with ecat := { w.ecat with stopped := false } }).startTimer .ecatWdt

theorem Work.within_ecatFed (w : Work) : w.Within w.ecatFed [.ecat, .timers] [] := (w.within_ecat _).comp (Work.within_startTimer _ _)

theorem Work.ready_ecatFed (w : Work) (p : Path) : w.ecatFed.ready p = w.ready p := by
  cases p <;> rfl

theorem ecatSm2Write_entries {s : State} {b : Bytes} (hopen : s.w.mode.dictOpen = true) (hop : s.w.get Obj.ecatState = 8)
    (hlen : sumNat ((s.w.pdo 0x1600).map (fun e => e.2.2)) ≤ b.length) :
    ecatSm2Write b (s.nv, s.w) = sm2Entries (s.w.pdo 0x1600) b (s.nv, s.w.ecatFed) := by
  have hshort : ¬b.length < sumNat ((s.w.pdo 0x1600).map (fun e => e.2.2)) := Nat.not_lt.mpr hlen
  simp only [ecatSm2Write, hopen, hop, hshort, Bool.not_true, Bool.false_or, ne_eq, not_true_eq_false, decide_false, Bool.false_eq_true, if_false]
  rfl

theorem ecatSm2Write_unmapped {s : State} {b : Bytes} (hopen : s.w.mode.dictOpen = true) (hop : s.w.get Obj.ecatState = 8)
    (hpdo : s.w.pdo 0x1600 = []) : DoesNv (.ecatSm2Write b) s (fun nv t =>
      t.ecat = { s.w.ecat with stopped := false } ∧ t.running .ecatWdt = true ∧ nv = s.nv ∧ s.w.only t [.ecat, .timers] ∧ s.w.sameBut t []) := by
  have hdone := ecatSm2Write_entries (b := b) hopen hop (by rw [hpdo]; exact Nat.zero_le _)
  rw [hpdo] at hdone
  have hwithin := s.w.within_ecatFed
  exact ⟨s.nv, s.w.ecatFed, exec_of_onBoth rfl hdone, rfl, Work.running_startTimer _ _, rfl, hwithin.only, hwithin.sameBut⟩

/-- The value of an entry is held, so that the next image shows a change of it. -/
def Work.rxHold (w : Work) (j : Nat) (v : Int) : Work :=
  { w with ecat := { w.ecat with rxHeld := upd (w.ecat.rxHeld ++ List.replicate (32 - w.ecat.rxHeld.length) none) j (fun _ => some v) } }

theorem Work.within_rxHold (w : Work) (j : Nat) (v : Int) : w.Within (w.rxHold j v) [.ecat] [] := w.within_ecat _

/-- A changed entry of a numeric object is written over CoE. -/
theorem sm2Entries_changed {j key : Nat} {r : ObjRow} {b : Bytes} {x : Both} (hf : findRow (key / 256) (key % 256) = some r)
    (hlen : b.length = r.typ.size) (hnew : x.2.ecat.rxHeld.getD j none ≠ some (r.typ.decode b)) :
    sm2Entries [(j, key, r.typ.size)] b x =
      ((writeAny .coe key (.num (r.typ.decode b)) none x).1, (writeAny .coe key (.num (r.typ.decode b)) none x).2.rxHold j (r.typ.decode b)) := by
  have htake : b.take r.typ.size = b := List.take_of_length_le hlen.le
  simp only [sm2Entries, hf, htake, if_neg hnew]
  rfl

/-- A plain number written over a path that is ready, with nobody waiting for the answer. -/
theorem writeAny_plainNum {p : Path} {key : Nat} {v : Int} {r : ObjRow} {nv : NonVol} {w : Work} (hr : w.ready p = true)
    (hn : plainNum p key v r = true) : writeAny p key (.num v) none (nv, w) = (nv, w.acceptNum p r key (r.mask v) (w.effectFrame r.effect)) := by
  obtain ⟨hk, hf, hb, -⟩ := row_of_plainNum hn
  have hone := writeOne_plainNum hk hf hb (.num v) (nv, w)
  rw [Work.writeNum_of_plainNum hn hr] at hone
  have hheld := Work.no_proposals_of_ready hr
  rw [writeAny_of_nil hheld] <;> simp [hone, Work.acceptNum_sys hr, hheld]

theorem ecatSm2Write_writes {s : State} {b : Bytes} {key : Nat} {v : Int} {r : ObjRow} (hr : s.w.ready .coe = true)
    (hop : s.w.get Obj.ecatState = 8) (hpdo : s.w.pdo 0x1600 = [(0, key, r.typ.size)]) (hlen : b.length = r.typ.size)
    (hn : plainNum .coe key v r = true) (he : r.effect = .imm) (hv : r.typ.decode b = v) (hnew : s.w.ecat.rxHeld.getD 0 none ≠ some v) :
    DoesNv (.ecatSm2Write b) s (fun nv t => s.w.obeys t .coe key (field (8 * r.typ.size) (r.mask v)) [.ecat, .timers] [key] ∧
      t.get key = r.mask v ∧ nv = s.nv ∧ t.ecat.stopped = false ∧ t.running .ecatWdt = true) := by
  subst hv
  let u := s.w.ecatFed
  let y := u.acceptNum .coe r key (r.mask (r.typ.decode b)) (u.effectFrame r.effect)
  have hru : u.ready .coe = true := by rwa [Work.ready_ecatFed]
  obtain ⟨-, hf, -⟩ := row_of_plainNum hn
  have hdone : ecatSm2Write b (s.nv, s.w) = (s.nv, y.rxHold 0 (r.typ.decode b)) := by
    rw [ecatSm2Write_entries (Work.dictOpen_of_ready hr) hop (by rw [hpdo, hlen]; exact Nat.le_of_eq (Nat.zero_add _)), hpdo,
      sm2Entries_changed hf hlen hnew, writeAny_plainNum hru hn]
  have hstore := fun w : Work => w.store_imm (not_wo_of_plainNum hn) he key (r.mask (r.typ.decode b)) (u.effectFrame r.effect)
  have hobeys := Work.obeys_acceptNum (ps := []) hru (by rw [hstore]; exact Work.only_set _ _ _ _) (by simp)
  have ⟨_, _, _, honly, _⟩ := hobeys
  have hhold := y.within_rxHold 0 (r.typ.decode b)
  refine ⟨s.nv, _, exec_of_onBoth rfl hdone, ?_, ?_, rfl, ?_, ?_⟩
  · exact Work.obeys_after s.w.within_ecatFed (Work.obeys_of_only hobeys hhold.only hhold.sameBut (by simp) (by simp)) (by simp) (by simp) (by simp)
  · rw [hhold.get (by simp), Work.get_acceptNum_of_plainNum hn hru, hstore, Work.get_set_same]
  · exact congrArg Ecat.stopped (show y.ecat = u.ecat from honly .ecat (by simp))
  · have htimers : (y.rxHold 0 (r.typ.decode b)).timers = u.timers := (hhold.same .timers (by simp)).trans (honly .timers (by simp))
    rw [Work.running, htimers]
    exact Work.running_startTimer _ _

/-! ### Process data sent -/

theorem Work.within_readNum (w : Work) (key : Nat) : w.Within (w.readNum key).2 [.frees] [] := by
  unfold Work.readNum
  split
  next f hf =>
    obtain ⟨e, he, hact⟩ := List.exists_of_findSome?_eq_some hf
    obtain ⟨n, -, rfl⟩ := Option.map_eq_some_iff.mp hact
    simp only [formedNums, List.mem_cons, List.not_mem_nil, or_false] at he
    rcases he with rfl | rfl | rfl | rfl | rfl | rfl | rfl | rfl | rfl
    case inr.inr.inr.inr.inr.inr.inl =>
      dsimp only
      split
      · exact w.within_freeCount _
      · exact .refl w _ _
    case inr.inr.inr.inr.inr.inr.inr.inr => exact w.within_freeCount _
    all_goals exact .refl w _ _
  next => exact .refl w _ _

/-- One mapped entry is taken into the image: live, or with its last value (R498). -/
def sm3Entry (acc : Work × Bytes) (e : Nat × Nat × Nat) : Work × Bytes :=
  let live := acc.1.mode.inspecting || e.2.1 = Obj.pdStatus
  let got := if live then acc.1.readNum e.2.1 else ((alGet acc.1.ecat.txHeld e.1).getD 0, acc.1)
  ({ got.2 with ecat := { got.2.ecat with txHeld := alSet got.2.ecat.txHeld e.1 got.1 } }, acc.2 ++ leBytes e.2.2 (field (8 * e.2.2) got.1))

/-- The image of the mapped entries, and the state in which they are held. -/
def Work.sm3Image (w : Work) : Work × Bytes := (w.pdo 0x1A00).foldl sm3Entry (w, [])

theorem within_sm3Entry (acc : Work × Bytes) (e : Nat × Nat × Nat) : acc.1.Within (sm3Entry acc e).1 [.ecat, .frees] [] := by
  unfold sm3Entry
  dsimp only
  split
  · exact ((acc.1.within_readNum e.2.1).comp (Work.within_ecat _ _)).mono (by simp) (by simp)
  · exact (acc.1.within_ecat _).mono (by simp) (by simp)

theorem Work.within_sm3Image (w : Work) : w.Within w.sm3Image.1 [.ecat, .frees] [] := by
  have hfold : ∀ (es : List (Nat × Nat × Nat)) (acc : Work × Bytes), acc.1.Within (es.foldl sm3Entry acc).1 [.ecat, .frees] [] := by
    intro es
    induction es with
    | nil => exact fun acc => .refl acc.1 _ _
    | cons e es ih => exact fun acc => (within_sm3Entry acc e).trans (ih (sm3Entry acc e))
  exact hfold (w.pdo 0x1A00) (w, [])

/-- PD_STATUS is no mapping entry. -/
theorem Work.pdo_set_pdStatus (w : Work) (v : Int) : (w.set Obj.pdStatus v).pdo 0x1A00 = w.pdo 0x1A00 := by
  have hne : ∀ j ∈ upTo 32, Obj.pdStatus ≠ objKey 0x1A00 (1 + j) := by decide
  refine List.filterMap_congr fun j hj => ?_
  rw [(w.within_set Obj.pdStatus v).getN (by simpa using (hne j hj).symm)]

/-- The low bytes of a number are those of its residue. -/
theorem leBytes_mod (n v : Nat) : leBytes n (v % 256 ^ n) = leBytes n v := by
  induction n generalizing v with
  | zero => rfl
  | succ n ih =>
    have hhead : v % 256 ^ (n + 1) % 256 = v % 256 := Nat.mod_mod_of_dvd v (dvd_pow_self 256 (Nat.succ_ne_zero n))
    have htail : v % 256 ^ (n + 1) / 256 = v / 256 % 256 ^ n := by rw [pow_succ', Nat.mod_mul_right_div_self]
    rw [leBytes, hhead, htail, ih, leBytes]

theorem ecatSm3Read_answers {s : State} (hopen : s.w.mode.dictOpen = true) (hstate : s.w.get Obj.ecatState = 4 ∨ s.w.get Obj.ecatState = 8) :
    DoesNv (.ecatSm3Read) s (fun nv t => t.sent.length = s.w.sent.length + 1 ∧ nv = s.nv ∧ t.journal = s.w.journal ∧ t.d.changes = s.w.d.changes ∧
      (s.w.pdo 0x1A00 = [(0, Obj.pdStatus, 4)] → t.get Obj.pdStatus = s.w.pdStatus ∧
        t.sent = .reply .coe (objKey 0x1A00 0) (leBytes 4 s.w.pdStatus) :: s.w.sent ∧ s.w.only t [.ecat, .sent] ∧ s.w.sameBut t [Obj.pdStatus])) := by
  let u := s.w.set Obj.pdStatus s.w.pdStatus
  let t := u.sm3Image.1.send (.reply .coe (objKey 0x1A00 0) u.sm3Image.2)
  have hserved : ¬(s.w.get Obj.ecatState ≠ 4 ∧ s.w.get Obj.ecatState ≠ 8) := by omega
  have hdone : ecatSm3Read (s.nv, s.w) = (s.nv, t) := by
    simp only [ecatSm3Read, hopen, hserved, Bool.not_true, Bool.false_or, Bool.and_eq_true, decide_eq_true_eq, if_false]
    rfl
  have hset := s.w.within_set Obj.pdStatus s.w.pdStatus
  have himage := u.within_sm3Image
  have hsent : u.sm3Image.1.sent = s.w.sent := himage.same .sent (by simp)
  have hchanges := (hset.comp (himage.comp (u.sm3Image.1.within_send (.reply .coe (objKey 0x1A00 0) u.sm3Image.2)))).same .changes (by simp)
  refine ⟨s.nv, t, exec_of_onBoth rfl hdone, ?_, rfl, himage.same .journal (by simp), hchanges.1, fun hpdo => ?_⟩
  · show u.sm3Image.1.sent.length + 1 = _
    rw [hsent]
  · have hentries : u.pdo 0x1A00 = [(0, Obj.pdStatus, 4)] := (s.w.pdo_set_pdStatus _).trans hpdo
    have hread : u.readNum Obj.pdStatus = ((s.w.pdStatus : Int), u) := by
      have hkept : atKey formedNums Obj.pdStatus = none := by decide
      simp only [Work.readNum, hkept, u, Work.get_set_same]
    have hone : u.sm3Image = ({ u with ecat := { u.ecat with txHeld := alSet u.ecat.txHeld 0 s.w.pdStatus } }, leBytes 4 (field 32 s.w.pdStatus)) := by
      rw [Work.sm3Image, hentries]
      simp only [List.foldl_cons, List.foldl_nil, sm3Entry, decide_true, Bool.or_true, if_true, hread, List.nil_append]
    have hbytes : leBytes 4 (field 32 s.w.pdStatus) = leBytes 4 s.w.pdStatus := by
      rw [field, ← Int.natCast_mod, Int.toNat_natCast]
      exact leBytes_mod 4 _
    have hhold := u.within_ecat { u.ecat with txHeld := alSet u.ecat.txHeld 0 s.w.pdStatus }
    have hwithin := hset.comp (hhold.comp (Work.within_send _ (.reply .coe (objKey 0x1A00 0) (leBytes 4 s.w.pdStatus))))
    have ht : t = ({ u with ecat := { u.ecat with txHeld := alSet u.ecat.txHeld 0 s.w.pdStatus } }).send
        (.reply .coe (objKey 0x1A00 0) (leBytes 4 s.w.pdStatus)) := by
      simp only [t, hone, hbytes]
    rw [ht]
    exact ⟨s.w.get_set_same _ _, rfl, Work.only_mono hwithin.only (by simp), Work.sameBut_mono hwithin.sameBut (by simp)⟩

/-- Settles O56: each frame and each state of EtherCAT has its own equation, and process data are the writes and reads of single entries. -/
theorem networkAndEtherCatServe : Obligations.NetworkAndEtherCatServe :=
  ⟨fun _ _ _ _ _ => ethLinkChange_shows, fun _ _ _ _ _ hup => arpRequest_answers hup, fun _ _ _ _ _ _ _ hup => icmpEcho_answers hup,
    fun _ _ => pauseFrame_counts, fun _ _ => ecatStateChange_changes, fun _ => ecatWatchdog_stops, fun _ _ => ecatSm2Write_unmapped,
    fun _ _ _ _ _ => ecatSm2Write_writes, fun _ => ecatSm3Read_answers⟩

end Sys2Proof.Machine
end

section
/-! The Stamper (R347 to R353): compares enter a queue, every entry reached fires in one pulse, and the pulse ends. -/
namespace Sys2Proof.Machine
variable (w : Work)

/-! ### Rules of an output -/

theorem Work.within_updMarker (k : Nat) (f : Marker → Marker) : w.Within (w.updMarker k f) [.markers] [] :=
  ⟨fun q hq => by cases q <;> simp [Part.same, Work.updMarker] at hq ⊢, fun _ _ => rfl⟩

theorem Work.within_showQueue (k : Nat) : w.Within (w.showQueue k) [] [Obj.mqUsed k, Obj.nextTarget k] :=
  (w.within_set (Obj.mqUsed k) _).comp (Work.within_set _ (Obj.nextTarget k) _)

/-- The output is late: LATE in MQ_FLAGS, and the three objects of the last late compare (R351). -/
def Work.markLate (w : Work) (k : Nat) (c : Compare) : Work :=
  (((w.flag (Obj.mqFlags k) 2).bump (Obj.lateCount k)).set (Obj.lateDist k) (w.reach k - c.target)).set (Obj.lateSeq k) c.seq

theorem Work.within_markLate (k : Nat) (c : Compare) :
    w.Within (w.markLate k c) [] [Obj.mqFlags k, Obj.lateCount k, Obj.lateDist k, Obj.lateSeq k] :=
  (w.within_flag (Obj.mqFlags k) 2).comp <| (Work.within_bump _ (Obj.lateCount k) 1).comp <|
    (Work.within_set _ (Obj.lateDist k) _).comp (Work.within_set _ (Obj.lateSeq k) _)

/-- A queue with its new entry, shown. -/
def Work.queued (w : Work) (k : Nat) (c : Compare) : Work := (w.updMarker k (fun m => { m with queue := insertCompare c m.queue })).showQueue k

theorem Work.enqueue_eq (k : Nat) (c : Compare) :
    w.enqueue k c = if c.target ≤ (w.queued k c).reach k then (w.queued k c).markLate k c else w.queued k c := rfl

theorem Work.within_enqueue (k : Nat) (c : Compare) :
    w.Within (w.enqueue k c) [.markers] [Obj.mqUsed k, Obj.nextTarget k, Obj.mqFlags k, Obj.lateCount k, Obj.lateDist k, Obj.lateSeq k] := by
  have hqueued : w.Within (w.queued k c) [.markers] [Obj.mqUsed k, Obj.nextTarget k] := (w.within_updMarker k _).comp (Work.within_showQueue _ k)
  rw [Work.enqueue_eq]
  exact .ite ((hqueued.comp (Work.within_markLate _ k c)).mono (by simp) (by simp)) (hqueued.mono (by simp) (by simp))

theorem Work.enqueue_markers (k : Nat) (c : Compare) :
    (w.enqueue k c).markers = upd w.markers k (fun m => { m with queue := insertCompare c m.queue }) := by
  rw [Work.enqueue_eq]
  split <;> rfl

/-! ### HC_TARGET and MQ_CLEAR -/

/-- The row of HC_TARGET. -/
def hcTargetRow : ObjRow := ⟨0x8800, 0x1, 16, 10, 10, "HC_TARGET", .u64, .wo, .imm, .const 0, .bits 0xFFFFFFFFFFFFFF⟩

/-- The row of MQ_CLEAR. -/
def mqClearRow : ObjRow := ⟨0x8800, 0x1, 16, 11, 11, "MQ_CLEAR", .u8, .wo, .imm, .const 0, .codes [1]⟩

theorem commandRow_mqClear : ∀ k : Fin 16, commandRow (Obj.mqClear k) 1 mqClearRow = true := by decide

/-- Of a target its low 56 bits are taken. -/
theorem mask_hcTarget {v : Int} (hlo : 0 ≤ v) : hcTargetRow.mask v = v % 2 ^ 56 := by
  obtain ⟨n, rfl⟩ := Int.eq_ofNat_of_zero_le hlo
  have hmask : n &&& 0xFFFFFFFFFFFFFF = n % 2 ^ 56 := Nat.and_two_pow_sub_one_eq_mod n 56
  simp only [ObjRow.mask, hcTargetRow, Int.toNat_natCast, hmask, Int.ofNat_eq_natCast, Int.natCast_mod]
  rfl

theorem field_mod_56 (v : Int) : field (8 * hcTargetRow.typ.size) (v % 2 ^ 56) = (v % 2 ^ 56).toNat := by
  have hlt : v % 2 ^ 56 < 2 ^ 56 := Int.emod_lt_of_pos v (by decide)
  have hnonneg : 0 ≤ v % 2 ^ 56 := Int.emod_nonneg v (by decide)
  exact congrArg Int.toNat (Int.emod_eq_of_lt hnonneg (hlt.trans (by decide)))

theorem hcTarget_ne_groupCtrl : ∀ k : Fin 16, (List.range 3).all (fun i => Obj.hcTarget k != Obj.groupCtrl i) = true := by decide

theorem findRow_hcTarget : ∀ k : Fin 16, findRow (Obj.hcTarget k / 256) (Obj.hcTarget k % 256) = some hcTargetRow := by decide

section
variable {s : State} {p : Path} {k : Fin 16} {v : Int} (hr : s.w.ready p = true) (hinsp : s.w.mode.inspecting = true) (hlo : 0 ≤ v)
  (hhi : v < 2 ^ 64)
include hr hinsp hlo hhi

/-- A target over a path that is ready is journaled by its low 56 bits, and enters the queue when that has room. -/
theorem hcTarget_accepted : ∃ a, hcTarget p k v s.w = (if a.markRoom k then a.enqueue k ⟨v % 2 ^ 56, 0⟩ else a.flag (Obj.mqFlags k) 4) ∧
    s.w.obeys a p (Obj.hcTarget k) (v % 2 ^ 56).toNat [] [] := by
  have hrange : hcTargetRow.rng.check hcTargetRow.typ v = none :=
    (if_neg (not_lt.mpr (Int.le_of_lt_add_one hhi))).trans (if_neg (not_lt.mpr hlo))
  have hcheck := s.w.checkNum_row p _ v hcTargetRow hr (indexExists_of_findRow (findRow_hcTarget k)) (findRow_hcTarget k)
    (foreignGroup_of_ne (hcTarget_ne_groupCtrl k) p) (by decide) rfl hrange (by simp [Work.checkMode, hcTargetRow])
  rw [mask_hcTarget hlo] at hcheck
  have hobeys := s.w.acceptNum_command p hcTargetRow (Obj.hcTarget k) (v % 2 ^ 56) (s.w.effectFrame hcTargetRow.effect) hr rfl
  rw [field_mod_56] at hobeys
  refine ⟨_, ?_, hobeys⟩
  rw [hcTarget, s.w.writeNum_ready p _ _ _ _ none _ _ hr hcheck (if_pos hinsp), Int.emod_emod]
  rfl

theorem hcTarget_queues (hroom : s.w.markRoom k = true) : Does (.hcTarget p k v) s (fun t =>
    s.w.journals t p (Obj.hcTarget k) (v % 2 ^ 56).toNat ∧
    t.markers = upd s.w.markers k (fun m => { m with queue := insertCompare ⟨v % 2 ^ 56, 0⟩ m.queue }) ∧
    s.w.only t [.journal, .lastRes, .markers] ∧
    s.w.sameBut t (acceptKeys p ++ [Obj.mqUsed k, Obj.nextTarget k, Obj.mqFlags k, Obj.lateCount k, Obj.lateDist k, Obj.lateSeq k])) := by
  obtain ⟨a, hacts, hobeys⟩ := hcTarget_accepted (k := k) hr hinsp hlo hhi
  have ⟨_, _, _, honly, _⟩ := hobeys
  have hmarkers : a.markers = s.w.markers := honly .markers (by simp)
  have hroom' : a.markRoom k = true := by rwa [Work.markRoom, Work.marker, hmarkers]
  have hunanswering : ∀ k : Fin 16, ∀ key ∈ [Obj.mqUsed k, Obj.nextTarget k, Obj.mqFlags k, Obj.lateCount k, Obj.lateDist k, Obj.lateSeq k],
      unanswering key = true := by decide
  rw [if_pos hroom'] at hacts
  have hwithin := a.within_enqueue k ⟨v % 2 ^ 56, 0⟩
  obtain ⟨hjournals, -, -, hparts, hkeys⟩ := s.w.obeys_trans a _ p _ _ _ _ hobeys hwithin.only hwithin.sameBut (by simp) (by simp)
    fun key hk hmem => not_mem_acceptKeys_of_unanswering (hunanswering k key hmem) p (by simp [acceptKeys, hk])
  refine does_of_onWork rfl ?_
  rw [hacts]
  exact ⟨hjournals, by rw [a.enqueue_markers, hmarkers], hparts, hkeys⟩

theorem hcTarget_full (hroom : s.w.markRoom k = false) : Does (.hcTarget p k v) s (fun t =>
    s.w.journals t p (Obj.hcTarget k) (v % 2 ^ 56).toNat ∧ s.w.only t [.journal, .lastRes] ∧
    t.get (Obj.mqFlags k) = Int.ofNat (s.w.getN (Obj.mqFlags k) ||| 4)) := by
  obtain ⟨a, hacts, hobeys⟩ := hcTarget_accepted (k := k) hr hinsp hlo hhi
  have ⟨hjournals, _, _, honly, hsame⟩ := hobeys
  have hroom' : ¬a.markRoom k = true := by
    rw [Work.markRoom, Work.marker, show a.markers = s.w.markers from honly .markers (by simp)]
    exact fun h => Bool.false_ne_true (hroom.symm.trans h)
  have hunanswering : ∀ k : Fin 16, unanswering (Obj.mqFlags k) = true := by decide
  rw [if_neg hroom'] at hacts
  refine does_of_onWork rfl ?_
  rw [hacts]
  refine ⟨hjournals, Work.only_trans honly (Work.only_flag _ _ _ _), ?_⟩
  rw [Work.get_flag, if_pos rfl, Work.getN, hsame _ (by simpa using not_mem_acceptKeys_of_unanswering (hunanswering k) p), Work.getN]

end

theorem mqClear_empties {s : State} {p : Path} {k : Fin 16} (hr : s.w.ready p = true) : Does (.mqClear p k) s (fun t =>
    s.w.obeys t p (Obj.mqClear k) 1 [.markers] [Obj.mqUsed k, Obj.nextTarget k] ∧ t.markers = upd s.w.markers k (fun m => { m with queue := [] }) ∧
    t.get (Obj.mqUsed k) = 0 ∧ t.get (Obj.nextTarget k) = 0) := by
  have hunanswering : ∀ k : Fin 16, ∀ key ∈ [Obj.mqUsed k, Obj.nextTarget k], unanswering key = true := by decide
  refine command_does rfl (commandRow_mqClear k) hr rfl (by decide) (hunanswering k) fun v hv => ?_
  let u := v.updMarker k (fun m => { m with queue := [] })
  have hempty : (u.marker k).queue = [] := by
    simp only [u, Work.marker, Work.updMarker, nth_upd, true_and]
    split
    · rfl
    next h => rw [nth, List.getD_eq_default _ _ (Nat.not_lt.mp h)]
  have hused : (u.showQueue k).get (Obj.mqUsed k) = 0 := by
    rw [Work.showQueue, Work.get_set_other _ _ _ _ (subKeys_ne (by decide)), Work.get_set_same, hempty]
    rfl
  have hnext : (u.showQueue k).get (Obj.nextTarget k) = 0 := by
    rw [Work.showQueue, Work.get_set_same, hempty]
  refine ⟨(v.within_updMarker k _).comp (u.within_showQueue k), ?_, hused, hnext⟩
  show upd v.markers k _ = _
  rw [show v.markers = s.w.markers from hv.same .markers (by simp)]

/-! ### MARK_FIRE -/

/-- Changes that agree on the entry at a place are one change there. -/
theorem upd_congr {α : Type} (d : α) {f g : α → α} {xs : List α} {n : Nat} (h : f (nth d xs n) = g (nth d xs n)) : upd xs n f = upd xs n g := by
  induction xs generalizing n with
  | nil => cases n <;> rfl
  | cons x xs ih =>
    cases n with
    | zero => exact congrArg (· :: xs) h
    | succ n => exact congrArg (x :: ·) (ih h)

/-- An event raised again and again changes its counter and the router alone. -/
theorem Work.within_raises {α : Type} (n : Nat) (xs : List α) : w.Within (xs.foldl (fun w _ => w.raise n) w) [.router] [raisedKey n] :=
  .foldl xs (fun v _ _ => v.within_raise n) w

/-- FIRES, MERGED, MQ_FLAGS and the last fire of `due` entries (R353). -/
def Work.countFires (w : Work) (k : Nat) (due : List Compare) (last : Compare) : Work :=
  ((((w.bump (Obj.fires k) due.length).bump (Obj.merged k) (due.length - 1)).flag (Obj.mqFlags k) 1).set (Obj.lastFirePos k)
    (Int.ofNat (field 56 last.target))).set (Obj.lastFireSeq k) last.seq

theorem Work.within_countFires (k : Nat) (due : List Compare) (last : Compare) : w.Within (w.countFires k due last) []
    [Obj.fires k, Obj.merged k, Obj.mqFlags k, Obj.lastFirePos k, Obj.lastFireSeq k] :=
  (w.within_bump (Obj.fires k) _).comp <| (Work.within_bump _ (Obj.merged k) _).comp <| (Work.within_flag _ (Obj.mqFlags k) _).comp <|
    (Work.within_set _ (Obj.lastFirePos k) _).comp (Work.within_set _ (Obj.lastFireSeq k) _)

theorem counterMax_fires : ∀ k : Fin 16, counterMax (Obj.fires k) = 0xFFFFFFFFFFFFFFFF ∧ counterMax (Obj.merged k) = 0xFFFFFFFF := by decide

theorem Work.countFires_shows (k : Fin 16) (due : List Compare) (last : Compare) :
    (w.countFires k due last).get (Obj.fires k) = min (w.get (Obj.fires k) + due.length) 0xFFFFFFFFFFFFFFFF ∧
    (w.countFires k due last).get (Obj.merged k) = min (w.get (Obj.merged k) + (due.length - 1 : Nat)) 0xFFFFFFFF ∧
    (w.countFires k due last).get (Obj.lastFireSeq k) = last.seq := by
  obtain ⟨hfires, hmerged⟩ := counterMax_fires k
  have hne : ∀ i : Fin 16, Obj.lastFireSeq i ≠ Obj.fires i ∧ Obj.lastFirePos i ≠ Obj.fires i ∧ Obj.mqFlags i ≠ Obj.fires i ∧
      Obj.lastFireSeq i ≠ Obj.merged i ∧ Obj.lastFirePos i ≠ Obj.merged i ∧ Obj.mqFlags i ≠ Obj.merged i := by decide
  obtain ⟨hseqF, hposF, hflagF, hseqM, hposM, hflagM⟩ := hne k
  refine ⟨?_, ?_, Work.get_set_same _ _ _⟩
  · rw [Work.countFires, Work.get_set_other _ _ _ _ hseqF, Work.get_set_other _ _ _ _ hposF, Work.get_flag, if_neg hflagF, Work.get_bump,
      if_neg (subKeys_ne (by decide)), Work.get_bump, if_pos rfl, hfires]
  · rw [Work.countFires, Work.get_set_other _ _ _ _ hseqM, Work.get_set_other _ _ _ _ hposM, Work.get_flag, if_neg hflagM, Work.get_bump,
      if_pos rfl, hmerged, Work.get_bump, if_neg (subKeys_ne (by decide))]

theorem Work.within_pulse (k : Nat) (target : Int) : w.Within (w.pulse k target) [.markers, .timers] [] :=
  (w.within_updMarker k _).comp (Work.within_startTimer _ _)

theorem markFire_fires {s : State} {k : Fin 16} {last : Compare} (hmode : s.w.mode.marksFire = true)
    (hlast : (s.w.compareHit k).getLast? = some last) : Does (.markFire k) s (fun t =>
      t.markers = upd s.w.markers k (fun m => { m with queue := s.w.compareAhead k, active := true, since := s.w.clk.ctl, target := last.target }) ∧
      t.get (Obj.fires k) = min (s.w.get (Obj.fires k) + (s.w.compareHit k).length) 0xFFFFFFFFFFFFFFFF ∧
      t.get (Obj.merged k) = min (s.w.get (Obj.merged k) + ((s.w.compareHit k).length - 1 : Nat)) 0xFFFFFFFF ∧
      t.get (Obj.lastFireSeq k) = last.seq ∧ t.running (.markPulse k) = true ∧ s.w.only t [.markers, .timers, .router]) := by
  let due := s.w.compareHit k
  let u := (s.w.updMarker k (fun m => { m with queue := m.queue.filter (fun c => !decide (c.target ≤ s.w.reach k)) })).showQueue k
  let v := u.countFires k due last
  let x := due.foldl (fun w _ => w.raise (72 + k)) v
  have hdone : markFire k s.w = x.pulse k last.target := by
    simp only [markFire, show (s.w.marker k).queue.filter (fun c => decide (c.target ≤ s.w.reach k)) = due from rfl, due, hlast, hmode, Bool.not_true,
      Bool.false_eq_true, if_false]
    rfl
  have hqueue : s.w.Within u [.markers] [Obj.mqUsed k, Obj.nextTarget k] := (s.w.within_updMarker k _).comp (Work.within_showQueue _ k)
  have hcount := u.within_countFires k due last
  have hraise := v.within_raises (72 + k) due
  have hpulse := x.within_pulse k last.target
  have hwithin := hqueue.comp (hcount.comp (hraise.comp hpulse))
  have hraised : ∀ k : Fin 16, ∀ key ∈ [Obj.fires k, Obj.merged k, Obj.lastFireSeq k], key ≠ raisedKey (72 + k) ∧ key ≠ Obj.mqUsed k ∧
      key ≠ Obj.nextTarget k := by decide
  have hlater : ∀ key ∈ [Obj.fires k, Obj.merged k, Obj.lastFireSeq k], (x.pulse k last.target).get key = v.get key ∧ u.get key = s.w.get key :=
    fun key hkey => by
      obtain ⟨hr, hu, hn⟩ := hraised k key hkey
      exact ⟨(hpulse.get (by simp)).trans (hraise.get (by simpa using hr)), hqueue.get (by simp [hu, hn])⟩
  obtain ⟨hfires, hmerged, hseq⟩ := u.countFires_shows k due last
  refine does_of_onWork rfl ?_
  rw [hdone]
  refine ⟨?_, ?_, ?_, ?_, Work.running_startTimer _ _, Work.only_mono hwithin.only (by simp)⟩
  · have hmarkers : x.markers = u.markers := (hraise.same .markers (by simp)).trans (hcount.same .markers (by simp))
    have hclk : x.clk = s.w.clk := (hqueue.comp (hcount.comp hraise)).same .clk (by simp)
    show upd x.markers k _ = _
    rw [hmarkers, hclk]
    show upd (upd s.w.markers k _) k _ = _
    rw [upd_upd]
    exact upd_congr {} rfl
  · rw [(hlater _ (by simp)).1, hfires, (hlater _ (by simp)).2]
  · rw [(hlater _ (by simp)).1, hmerged, (hlater _ (by simp)).2]
  · rw [(hlater _ (by simp)).1, hseq]

/-! ### MARK_PULSE_END -/

section
variable {s : State} {k : Fin 16} (hactive : (s.w.marker k).active = true)
include hactive

theorem markPulseEnd_time (hmode : s.w.get (Obj.pulseMode k) = 0)
    (hpast : (s.w.marker k).since + nsClocks (s.w.getN (Obj.pulseTime k)) ≤ s.w.clk.ctl) : Does (.markPulseEnd k) s (fun t =>
      t = { s.w with markers := upd s.w.markers k (fun m => { m with active := false }), timers := (s.w.stopTimer (.markPulse k)).timers }) :=
  does_of_onWork rfl (if_pos (by simp [hactive, hmode, hpast]))

theorem markPulseEnd_length (hmode : s.w.get (Obj.pulseMode k) = 1)
    (hpast : (s.w.marker k).target + s.w.get (Obj.pulseLen k) ≤ s.w.posAt s.w.clk.ctl) : Does (.markPulseEnd k) s (fun t =>
      t = { s.w with markers := upd s.w.markers k (fun m => { m with active := false }), timers := (s.w.stopTimer (.markPulse k)).timers }) :=
  does_of_onWork rfl (if_pos (by simp [hactive, hmode, hpast]))

end

/-- Settles O43: one lemma for a compare that enters, one for each end of a queue, and one for a fire over what it counts. -/
theorem markersQueueAndFire : Obligations.MarkersQueueAndFire :=
  ⟨fun _ _ _ _ hr hinsp hlo hhi hroom => hcTarget_queues hr hinsp hlo hhi hroom,
    fun _ _ _ _ hr hinsp hlo hhi hroom => hcTarget_full hr hinsp hlo hhi hroom, fun _ _ _ => mqClear_empties, fun _ _ _ => markFire_fires,
    fun _ _ hactive => markPulseEnd_time hactive, fun _ _ hactive => markPulseEnd_length hactive⟩

end Sys2Proof.Machine
end

section
/-! Step and direction axes (R358 to R370): what the operations on one axis leave of the machine and of the other axes. -/
namespace Sys2Proof.Machine
variable (w : Work)

/-! ### Rules of an axis -/

theorem Work.within_updAx (a : Nat) (f : MotionAxis → MotionAxis) : w.Within (w.updAx a f) [.axes] [] :=
  ⟨fun q hq => by cases q <;> simp [Part.same, Work.updAx] at hq ⊢, fun _ _ => rfl⟩

@[simp] theorem Work.get_updAx (a : Nat) (f : MotionAxis → MotionAxis) (k : Nat) : (w.updAx a f).get k = w.get k := rfl

theorem Work.ax_updAx_ne {a b : Nat} (h : b ≠ a) (f : MotionAxis → MotionAxis) : (w.updAx a f).ax b = w.ax b := by
  rw [Work.ax, Work.updAx, nth_upd, if_neg fun hab => h hab.1.symm]
  rfl

theorem Work.ax_updAx_same {a : Nat} (h : a < w.axes.length) (f : MotionAxis → MotionAxis) : (w.updAx a f).ax a = f (w.ax a) := by
  rw [Work.ax, Work.updAx, nth_upd, if_pos ⟨rfl, h⟩]
  rfl

/-- What holds of an axis at rest and of every changed axis holds of axis a after the change. -/
theorem Work.ax_updAx_of (a : Nat) {f : MotionAxis → MotionAxis} {P : MotionAxis → Prop} (hrest : P {}) (hf : ∀ x, P (f x)) :
    P ((w.updAx a f).ax a) := by
  by_cases h : a < w.axes.length
  · rw [w.ax_updAx_same h]
    exact hf _
  · rw [Work.ax, Work.updAx, nth_upd, if_neg fun hin => h hin.2, show nth {} w.axes a = {} from List.getD_eq_default _ _ (not_lt.mp h)]
    exact hrest

/-- The status objects and the two event counters of axis a, without its position. -/
abbrev motionKeys (a : Nat) : List Nat :=
  [Obj.axFlags a, Obj.axState a, Obj.velocity a, Obj.movesQueued a, Obj.homed a, Obj.followErr a, Obj.stalls a, raisedKey (88 + a), raisedKey (104 + a)]

/-- An operation on axis a: its status, its timers and its events, and no other axis. -/
structure Work.MovesOnly (w v : Work) (a : Nat) : Prop where
  within : w.Within v [.axes, .timers, .router] (motionKeys a)
  others : ∀ b, b ≠ a → v.ax b = w.ax b

section
variable {w} {u v : Work} {a : Nat}

theorem Work.MovesOnly.refl (w : Work) (a : Nat) : w.MovesOnly w a := ⟨.refl w _ _, fun _ _ => rfl⟩

theorem Work.MovesOnly.trans (hu : w.MovesOnly u a) (hv : u.MovesOnly v a) : w.MovesOnly v a :=
  ⟨hu.within.trans hv.within, fun b hb => (hv.others b hb).trans (hu.others b hb)⟩

theorem Work.MovesOnly.ite {p : Prop} [Decidable p] (hu : w.MovesOnly u a) (hv : w.MovesOnly v a) : w.MovesOnly (if p then u else v) a := by
  split
  · exact hu
  · exact hv

/-- What changes no axis at all. -/
theorem Work.Within.movesOnly {ps : List Part} {ks : List Nat} (h : w.Within v ps ks) (hps : ps ⊆ [.timers, .router]) (hks : ks ⊆ motionKeys a) :
    w.MovesOnly v a :=
  ⟨h.mono (fun q hq => List.mem_cons_of_mem _ (hps hq)) hks, fun b _ => by
    rw [Work.ax, show v.axes = w.axes from h.same .axes fun hq => by simpa using hps hq]
    rfl⟩

end

section
variable (a : Nat)

theorem Work.movesOnly_updAx (f : MotionAxis → MotionAxis) : w.MovesOnly (w.updAx a f) a :=
  ⟨(w.within_updAx a f).mono (by simp) (by simp), fun _ hb => w.ax_updAx_ne hb f⟩

theorem Work.movesOnly_set {k : Nat} (hk : k ∈ motionKeys a) (v : Int) : w.MovesOnly (w.set k v) a :=
  (w.within_set k v).movesOnly (by simp) (by simpa using hk)

theorem Work.movesOnly_axSt (st : Nat) : w.MovesOnly (w.axSt a st) a := w.movesOnly_set a (by simp) _

theorem Work.movesOnly_showMoves : w.MovesOnly (w.showMoves a) a := w.movesOnly_set a (by simp) _

theorem Work.movesOnly_startTimer (t : Timer) : w.MovesOnly (w.startTimer t) a := (w.within_startTimer t).movesOnly (by simp) (by simp)

theorem Work.movesOnly_stopTimer (t : Timer) : w.MovesOnly (w.stopTimer t) a := (w.within_stopTimer t).movesOnly (by simp) (by simp)

theorem Work.movesOnly_axFlag (bit : Nat) : w.MovesOnly (w.axFlag a bit) a :=
  have hflag : w.MovesOnly (w.flag (Obj.axFlags a) (2 ^ bit)) a := w.movesOnly_set a (by simp) _
  .ite (hflag.trans ((Work.within_raise _ _).movesOnly (by simp) (by simp))) hflag

theorem Work.movesOnly_loadStep (v wait : Nat) : w.MovesOnly (w.loadStep a v wait) a :=
  (w.movesOnly_updAx a _).trans (Work.movesOnly_set _ a (by simp) _)

/-! ### Rest and braking -/

/-- An axis that stands still. -/
def MotionAxis.stood (x : MotionAxis) : MotionAxis :=
  { x with running := false, v := 0, due := none, home := if x.queue.isEmpty then 0 else x.home }

/-- The axis stands still, before its AX_STATE says so. -/
def Work.stood (w : Work) (a : Nat) : Work := ((w.updAx a MotionAxis.stood).set (Obj.velocity a) 0).showMoves a

theorem Work.standstill_eq : w.standstill a =
    if ((w.stood a).ax a).queue.isEmpty then (((w.stood a).axSt a 1).raise (88 + a)).startTimer (.standstill a) else (w.stood a).axSt a 1 := rfl

theorem Work.movesOnly_stood : w.MovesOnly (w.stood a) a :=
  (w.movesOnly_updAx a _).trans <| (Work.movesOnly_set _ a (by simp) 0).trans (Work.movesOnly_showMoves _ a)

theorem Work.movesOnly_standstill : w.MovesOnly (w.standstill a) a := by
  have hstate := (w.movesOnly_stood a).trans (Work.movesOnly_axSt _ a 1)
  rw [Work.standstill_eq]
  exact .ite (hstate.trans (((Work.within_raise _ _).movesOnly (by simp) (by simp)).trans (Work.movesOnly_startTimer _ a _))) hstate

theorem Work.within_standstill : w.Within (w.standstill a) [.axes, .timers, .router]
    [Obj.axState a, Obj.velocity a, Obj.movesQueued a, raisedKey (88 + a)] := by
  have hstate : w.Within ((w.stood a).axSt a 1) [.axes] [Obj.velocity a, Obj.movesQueued a, Obj.axState a] :=
    (w.within_updAx a _).comp <| (Work.within_set _ (Obj.velocity a) 0).comp <| (Work.within_set _ (Obj.movesQueued a) _).comp
      (Work.within_set _ (Obj.axState a) _)
  rw [Work.standstill_eq]
  refine .ite ((hstate.comp ((Work.within_raise _ (88 + a)).comp (Work.within_startTimer _ (.standstill a)))).mono ?_ ?_) (hstate.mono ?_ ?_) <;> simp

theorem Work.standstill_axes : (w.standstill a).axes = upd w.axes a MotionAxis.stood := by
  rw [Work.standstill_eq]
  split
  · exact ((Work.within_startTimer _ _).same .axes (by simp)).trans ((Work.within_raise _ _).same .axes (by simp))
  · rfl

/-- The move that brakes axis a to rest (R363, R366). -/
def Work.brakeMove (w : Work) (a decel : Nat) : Move :=
  let goal := w.axPos a + (w.ax a).dir * (brakeSteps (w.ax a).v decel : Int)
  { kind := 0, target := goal, vmax := (w.ax a).v / 65536, accel := 1, decel := decel, sync := false, goal := some goal }

/-- The axis brakes. -/
def Work.braking (w : Work) (a decel : Nat) (rest : List Move) : Work :=
  ((w.updAx a (fun x => { x with queue := w.brakeMove a decel :: rest, home := 0 })).axSt a 4).showMoves a

theorem Work.brake_eq (decel : Nat) (rest : List Move) : w.brake a decel rest =
    if (!(w.ax a).running || (w.ax a).v = 0) = true then (w.updAx a (fun x => { x with queue := rest, home := 0 })).standstill a
    else if brakeSteps (w.ax a).v decel = 0 then (w.updAx a (fun x => { x with queue := rest, home := 0 })).standstill a
    else w.braking a decel rest := rfl

theorem Work.brake_of_running {decel : Nat} (hrun : (w.ax a).running = true) (hsteps : 0 < brakeSteps (w.ax a).v decel) (rest : List Move) :
    w.brake a decel rest = w.braking a decel rest := by
  have hfast : (w.ax a).v ≠ 0 := fun h => by simp [h, brakeSteps] at hsteps
  rw [Work.brake_eq, if_neg (by simp [hrun, hfast]), if_neg hsteps.ne']

theorem Work.within_braking (decel : Nat) (rest : List Move) :
    w.Within (w.braking a decel rest) [.axes] [Obj.axState a, Obj.movesQueued a] :=
  (w.within_updAx a _).comp <| (Work.within_set _ (Obj.axState a) _).comp (Work.within_set _ (Obj.movesQueued a) _)

theorem Work.get_braking_state (decel : Nat) (rest : List Move) : (w.braking a decel rest).get (Obj.axState a) = 4 := by
  rw [Work.braking, Work.showMoves, Work.get_set_other _ _ _ _ (subKeys_ne (by decide)), Work.axSt, Work.get_set_same]
  rfl

theorem Work.movesOnly_brake (decel : Nat) (rest : List Move) : w.MovesOnly (w.brake a decel rest) a := by
  have hrest : w.MovesOnly ((w.updAx a (fun x => { x with queue := rest, home := 0 })).standstill a) a :=
    (w.movesOnly_updAx a _).trans (Work.movesOnly_standstill _ a)
  rw [Work.brake_eq]
  exact .ite hrest (.ite hrest ((w.movesOnly_updAx a _).trans ((Work.movesOnly_axSt _ a 4).trans (Work.movesOnly_showMoves _ a))))

theorem Work.within_brake (decel : Nat) (rest : List Move) : w.Within (w.brake a decel rest) [.axes, .timers, .router]
    [Obj.axState a, Obj.velocity a, Obj.movesQueued a, raisedKey (88 + a)] := by
  have hrest : w.Within ((w.updAx a (fun x => { x with queue := rest, home := 0 })).standstill a) [.axes, .timers, .router]
      [Obj.axState a, Obj.velocity a, Obj.movesQueued a, raisedKey (88 + a)] :=
    ((w.within_updAx a _).mono (by simp) (by simp)).trans (Work.within_standstill _ a)
  rw [Work.brake_eq]
  exact .ite hrest (.ite hrest ((w.within_braking a decel rest).mono (by simp) (by simp)))

theorem Work.within_stopAxis (decel : Option Nat) : w.Within (w.stopAxis a decel) [.axes, .timers, .router]
    [Obj.axState a, Obj.velocity a, Obj.movesQueued a, raisedKey (88 + a)] := by
  unfold Work.stopAxis
  split
  · exact .refl w _ _
  · exact w.within_brake a _ _

/-! ### Starts and ends of moves -/

theorem Work.movesOnly_startHead (fuel : Nat) : w.MovesOnly (w.startHead a fuel) a := by
  induction fuel generalizing w with
  | zero => exact .refl w a
  | succ fuel ih =>
    unfold Work.startHead
    dsimp only
    split
    · exact w.movesOnly_standstill a
    · refine .ite (.refl w a) (.ite ((w.movesOnly_updAx a _).trans (ih _)) (.ite ((w.movesOnly_axFlag a _).trans (Work.movesOnly_brake _ a _ _)) ?_))
      refine Work.MovesOnly.trans (w.movesOnly_updAx a _) (.ite ((Work.movesOnly_updAx _ a _).trans (ih _)) (.ite (Work.movesOnly_standstill _ a)
        (.ite (Work.movesOnly_brake _ a _ _) (.ite ?_ ?_))))
      · exact (Work.movesOnly_updAx _ a _).trans ((Work.movesOnly_stopTimer _ a _).trans (Work.movesOnly_startTimer _ a _))
      · exact (Work.movesOnly_stopTimer _ a _).trans <| (Work.movesOnly_updAx _ a _).trans <| (Work.movesOnly_axSt _ a _).trans <|
          (Work.movesOnly_loadStep _ a _ _).trans (Work.movesOnly_showMoves _ a)

theorem Work.movesOnly_endMove (keepSpeed : Bool) : w.MovesOnly (w.endMove a keepSpeed) a := by
  have hended : ∀ f, w.MovesOnly ((w.updAx a f).showMoves a) a := fun f => (w.movesOnly_updAx a f).trans (Work.movesOnly_showMoves _ a)
  unfold Work.endMove
  dsimp only
  split
  · exact (hended _).trans (Work.movesOnly_standstill _ a)
  · exact (hended _).trans ((Work.MovesOnly.ite (.refl _ a) (Work.movesOnly_updAx _ a _)).trans (Work.movesOnly_startHead _ a _))

theorem Work.movesOnly_homeEnd : w.MovesOnly (w.homeEnd a) a := (w.movesOnly_set a (by simp) 1).trans (Work.movesOnly_endMove _ a false)

theorem Work.movesOnly_stopAxis (decel : Option Nat) : w.MovesOnly (w.stopAxis a decel) a := by
  unfold Work.stopAxis
  split
  · exact .refl w a
  · exact w.movesOnly_brake a _ _

theorem Work.movesOnly_showFollow : w.MovesOnly (w.showFollow a) a :=
  .ite (.refl w a) <| (w.movesOnly_set a (by simp) _).trans (.ite (Work.movesOnly_axFlag _ a _) (.refl _ a))

theorem Work.within_latchOrigin : w.Within (w.latchOrigin a) [.axes] [] := w.within_updAx a _

theorem Work.movesOnly_latchOrigin : w.MovesOnly (w.latchOrigin a) a := w.movesOnly_updAx a _

/-! ### Stops without ramp -/

/-- An axis stopped without ramp. -/
def MotionAxis.halted (x : MotionAxis) : MotionAxis := { x with queue := [], running := false, v := 0, due := none, home := 0 }

/-- The axis is stopped without ramp, before its AX_STATE says so. -/
def Work.halted (w : Work) (a : Nat) : Work := (((w.axFlag a afHalted).updAx a MotionAxis.halted).set (Obj.velocity a) 0).showMoves a

/-- HALTED alone raises no event. -/
theorem Work.axFlag_halted : w.axFlag a afHalted = w.flag (Obj.axFlags a) 1 := rfl

theorem Work.within_halted : w.Within (w.halted a) [.axes] [Obj.axFlags a, Obj.velocity a, Obj.movesQueued a] :=
  (w.within_flag (Obj.axFlags a) 1).comp <| (Work.within_updAx _ a _).comp <|
    (Work.within_set _ (Obj.velocity a) 0).comp (Work.within_set _ (Obj.movesQueued a) _)

theorem Work.halted_axes : (w.halted a).axes = upd w.axes a MotionAxis.halted := rfl

theorem Work.haltAxis_eq : w.haltAxis a = if ((w.halted a).get (Obj.axState a) = 0 || (w.halted a).get (Obj.axState a) = 5) = true then w.halted a
    else if ((w.axFlag a afHalted).ax a).running = true then (w.halted a).standstill a else (w.halted a).axSt a 1 := rfl

theorem Work.within_haltAxis : w.Within (w.haltAxis a) [.axes, .timers, .router]
    [Obj.axFlags a, Obj.axState a, Obj.velocity a, Obj.movesQueued a, raisedKey (88 + a)] := by
  have hhalted := w.within_halted a
  rw [Work.haltAxis_eq]
  refine .ite (hhalted.mono ?_ ?_) (.ite ((hhalted.comp (Work.within_standstill _ a)).mono ?_ ?_)
    ((hhalted.comp (Work.within_set _ (Obj.axState a) _)).mono ?_ ?_)) <;> simp

theorem Work.haltAxis_axes : (w.haltAxis a).axes = upd w.axes a MotionAxis.halted := by
  rw [Work.haltAxis_eq]
  split
  · rfl
  · split
    · rw [Work.standstill_axes, Work.halted_axes, upd_upd]
      rfl
    · rfl

theorem Work.movesOnly_haltAxis : w.MovesOnly (w.haltAxis a) a :=
  ⟨(w.within_haltAxis a).mono (by simp) (by simp), fun b hb => by
    rw [Work.ax, Work.haltAxis_axes]
    exact w.ax_updAx_ne hb MotionAxis.halted⟩

theorem Work.ax_haltAxis : ((w.haltAxis a).ax a).queue = [] ∧ ((w.haltAxis a).ax a).running = false := by
  rw [Work.ax, Work.haltAxis_axes]
  exact w.ax_updAx_of a (P := fun x => x.queue = [] ∧ x.running = false) ⟨rfl, rfl⟩ fun _ => ⟨rfl, rfl⟩

end

section
variable (a : Fin 16)

theorem raisedKey_ne_axKey {s x : Nat} (hs : s < 376) : raisedKey s ≠ (0x8430 + a.val) * 256 + x := fun h => by
  have := raisedKey_lt hs
  omega

theorem Work.get_standstill_velocity : (w.standstill a).get (Obj.velocity a) = 0 := by
  have hstood : (w.stood a).get (Obj.velocity a) = 0 := by
    rw [Work.stood, Work.showMoves, Work.get_set_other _ _ _ _ (subKeys_ne (by decide)), Work.get_set_same]
  have hstate : ((w.stood a).axSt a 1).get (Obj.velocity a) = 0 := (Work.get_set_other _ _ _ _ (subKeys_ne (by decide))).trans hstood
  rw [Work.standstill_eq]
  split
  · exact ((Work.within_raise _ _).get (by simpa using (raisedKey_ne_axKey a (by omega)).symm)).trans hstate
  · exact hstate

theorem Work.get_haltAxis_velocity : (w.haltAxis a).get (Obj.velocity a) = 0 := by
  have hhalted : (w.halted a).get (Obj.velocity a) = 0 := by
    rw [Work.halted, Work.showMoves, Work.get_set_other _ _ _ _ (subKeys_ne (by decide)), Work.get_set_same]
  rw [Work.haltAxis_eq]
  split
  · exact hhalted
  · split
    · exact Work.get_standstill_velocity _ a
    · exact (Work.get_set_other _ _ _ _ (subKeys_ne (by decide))).trans hhalted

theorem Work.get_haltAxis_flags : (w.haltAxis a).get (Obj.axFlags a) = Int.ofNat (w.getN (Obj.axFlags a) ||| 1) := by
  have hhalted : (w.halted a).get (Obj.axFlags a) = Int.ofNat (w.getN (Obj.axFlags a) ||| 1) := by
    rw [Work.halted, Work.showMoves, Work.get_set_other _ _ _ _ (subKeys_ne (by decide)), Work.get_set_other _ _ _ _ (subKeys_ne (by decide)),
      Work.get_updAx, Work.axFlag_halted, Work.get_flag, if_pos rfl]
  have hraised : Obj.axFlags a ≠ raisedKey (88 + a) := (raisedKey_ne_axKey a (by omega)).symm
  rw [Work.haltAxis_eq]
  split
  · exact hhalted
  · split
    · exact ((Work.within_standstill _ a).get (by simpa using hraised)).trans hhalted
    · exact (Work.get_set_other _ _ _ _ (subKeys_ne (by decide))).trans hhalted

/-- A bit of AX_FLAGS is set whether or not it raises AX_FAULT. -/
theorem Work.get_axFlag_flags (bit : Nat) : (w.axFlag a bit).get (Obj.axFlags a) = Int.ofNat (w.getN (Obj.axFlags a) ||| 2 ^ bit) := by
  have hflag : (w.flag (Obj.axFlags a) (2 ^ bit)).get (Obj.axFlags a) = Int.ofNat (w.getN (Obj.axFlags a) ||| 2 ^ bit) := by
    rw [Work.get_flag, if_pos rfl]
  unfold Work.axFlag
  dsimp only
  split
  · exact ((Work.within_raise _ _).get (by simpa using (raisedKey_ne_axKey a (by omega)).symm)).trans hflag
  · exact hflag

theorem axKey_not_mem_motionKeys {b : Nat} (hb : b < 16) (hab : a.val ≠ b) (x : Fin 256) : (0x8430 + a.val) * 256 + x.val ∉ motionKeys b := by
  have h1 : raisedKey (88 + b) ≠ (0x8430 + a.val) * 256 + x.val := raisedKey_ne_axKey a (by omega)
  have h2 : raisedKey (104 + b) ≠ (0x8430 + a.val) * 256 + x.val := raisedKey_ne_axKey a (by omega)
  simp only [Obj.axFlags, Obj.axState, Obj.velocity, Obj.movesQueued, Obj.homed, Obj.followErr, Obj.stalls, List.mem_cons, List.not_mem_nil,
    or_false, not_or, h1.symm, h2.symm]
  omega

/-- POSITION is no status object that an operation changes. -/
theorem axPosition_not_mem_motionKeys : Obj.axPosition a ∉ motionKeys a := by
  have h1 : raisedKey (88 + a) ≠ Obj.axPosition a := raisedKey_ne_axKey a (by omega)
  have h2 : raisedKey (104 + a) ≠ Obj.axPosition a := raisedKey_ne_axKey a (by omega)
  simp [h1.symm, h2.symm]

end

end Sys2Proof.Machine
end

section
/-! Axis commands (R366) act on one axis at once; those of a group act on each of its axes. -/
namespace Sys2Proof.Machine
variable (w : Work)

/-- The row of AX_CMD. -/
def axCmdRow : ObjRow := ⟨0x8430, 0x1, 16, 9, 9, "AX_CMD", .u8, .wo, .imm, .const 0, .codes [1, 2, 3, 4, 5, 6]⟩

/-- The row of GROUP_CMD. -/
def groupCmdRow : ObjRow := ⟨0x8480, 0x1, 4, 2, 2, "GROUP_CMD", .u8, .wo, .imm, .const 0, .codes [1, 2]⟩

theorem commandRow_axCmd : ∀ (a : Fin 16) (code : Fin 6), commandRow (Obj.axCmd a) (code.val + 1) axCmdRow = true := by decide

theorem commandRow_groupCmd : ∀ (g : Fin 4) (code : Fin 2), commandRow (Obj.groupCmd g) (code.val + 1) groupCmdRow = true := by decide

theorem motionKeys_unanswering : ∀ a : Fin 16, ∀ k ∈ motionKeys a, unanswering k = true := by decide

/-- The objects of an axis that a halt changes. -/
abbrev haltKeys (a : Nat) : List Nat := [Obj.axFlags a, Obj.axState a, Obj.velocity a, Obj.movesQueued a, raisedKey (88 + a)]

theorem haltKeys_unanswering : ∀ a : Fin 16, ∀ k ∈ haltKeys a, unanswering k = true := by decide

theorem brakeKeys_unanswering : ∀ a : Fin 16, ∀ k ∈ [Obj.axState a, Obj.movesQueued a], unanswering k = true := by decide

theorem qstopDecel_not_mem_motionKeys : ∀ a b : Fin 16, Obj.qstopDecel a ∉ motionKeys b := by decide

/-! ### Stops of one axis -/

theorem Work.stopAxis_of_running {a : Nat} {decel : Option Nat} {m : Move} {rest : List Move} (hq : (w.ax a).queue = m :: rest)
    (hrun : (w.ax a).running = true) (hsteps : 0 < brakeSteps (w.ax a).v (decel.getD m.decel)) :
    w.stopAxis a decel = w.braking a (decel.getD m.decel) [] := by
  rw [Work.stopAxis, hq]
  exact w.brake_of_running a hrun hsteps []

/-- A change of axis a, with its coils off. -/
def MotionAxis.disabled (short : Bool) (x : MotionAxis) : MotionAxis := { x.halted with enabled := false, cr := false, shorted := short }

theorem Work.within_disableAxis (a st : Nat) : w.Within (w.disableAxis a st) [.axes, .timers, .router]
    (haltKeys a) :=
  (w.within_haltAxis a).trans <| ((Work.within_updAx _ a _).mono (by simp) (by simp)).trans <|
    ((Work.within_set _ (Obj.axState a) _).mono (by simp) (by simp)).trans <|
    ((Work.within_stopTimer _ _).mono (by simp) (by simp)).trans ((Work.within_stopTimer _ _).mono (by simp) (by simp))

section
variable (a : Fin 16) (st : Nat)

theorem groupPolicy_not_mem_haltKeys : Obj.groupPolicy (a.val / 4) ∉ haltKeys a := by decide +revert

theorem Work.disableAxis_axes :
    (w.disableAxis a st).axes = upd w.axes a (MotionAxis.disabled (decide (w.get (Obj.groupPolicy (a / 4)) = 1))) := by
  rw [← (w.within_haltAxis a).get (groupPolicy_not_mem_haltKeys a)]
  change upd (w.haltAxis a).axes a _ = _
  rw [Work.haltAxis_axes, upd_upd]
  rfl

theorem Work.get_disableAxis (k : Nat) : (w.disableAxis a st).get k = if Obj.axState a = k then (st : Int) else (w.haltAxis a).get k :=
  Work.get_set _ _ _ _

end

/-! ### AX_CMD -/

section
variable {s : State} {p : Path} {a : Fin 16} (hr : s.w.ready p = true)
include hr

theorem axisHalt_halts : Does (.axisHalt p a) s (fun t =>
    s.w.obeys t p (Obj.axCmd a) 3 [.axes, .timers, .router] [Obj.axFlags a, Obj.axState a, Obj.velocity a, Obj.movesQueued a, raisedKey (88 + a)] ∧
    t.axes = upd s.w.axes a MotionAxis.halted ∧
    t.get (Obj.axFlags a) = Int.ofNat (s.w.getN (Obj.axFlags a) ||| 1) ∧ t.get (Obj.velocity a) = 0) := by
  refine command_does rfl (commandRow_axCmd a 2) hr rfl (by decide) (haltKeys_unanswering a) fun v hv =>
    ⟨v.within_haltAxis a, ?_, ?_, v.get_haltAxis_velocity a⟩
  · rw [v.haltAxis_axes, show v.axes = s.w.axes from hv.same .axes (by simp)]
  · rw [v.get_haltAxis_flags, hv.getN (not_mem_acceptKeys_of_unanswering (motionKeys_unanswering a _ (by simp)) p)]

theorem axisEnable_enables (hruns : s.w.mode.axesRun = true) (hstate : s.w.get (Obj.axState a) ≠ 5) : Does (.axisEnable p a) s (fun t =>
    s.w.obeys t p (Obj.axCmd a) 4 [.axes, .timers] [Obj.axState a] ∧
    (∀ b : Fin 16, b ≠ a → t.ax b = s.w.ax b) ∧
    ((a : Nat) < s.w.axes.length → (t.ax a).enabled = true ∧ (t.ax a).shorted = false ∧ (t.ax a).p0 = s.w.axPos a) ∧
    (s.w.get (Obj.axState a) = 0 → t.get (Obj.axState a) = 1)) := by
  have hunanswering : ∀ a : Fin 16, unanswering (Obj.axState a) = true ∧ unanswering (Obj.axPosition a) = true := by decide
  refine command_does rfl (commandRow_axCmd a 3) hr rfl (by decide) (by simpa using (hunanswering a).1) fun v hv => ?_
  have hmode : v.mode = s.w.mode := hv.same .mode (by simp)
  have hst : v.get (Obj.axState a) = s.w.get (Obj.axState a) := hv.get (not_mem_acceptKeys_of_unanswering (hunanswering a).1 p)
  have hpos : v.axPos a = s.w.axPos a := hv.get (not_mem_acceptKeys_of_unanswering (hunanswering a).2 p)
  have haxes : v.axes = s.w.axes := hv.same .axes (by simp)
  have hax : ∀ b, v.ax b = s.w.ax b := fun b => by rw [Work.ax, haxes, Work.ax]
  let on := (v.updAx a (fun x => { x with enabled := true, shorted := false })).latchOrigin a
  have hon : v.Within on [.axes] [] := (v.within_updAx a _).trans (Work.within_latchOrigin _ a)
  have henabled : v.enableAxis a = if on.get (Obj.axState a) = 0 then (on.axSt a 1).startTimer (.standstill a) else on :=
    if_neg (by simp [hmode, hruns, hst, hstate])
  have hothers : ∀ b : Fin 16, b ≠ a → on.ax b = s.w.ax b := fun b hb => by
    have hne : b.val ≠ a.val := fun h => hb (Fin.ext h)
    exact ((Work.ax_updAx_ne _ hne _).trans (v.ax_updAx_ne hne _)).trans (hax b)
  have hself : (a : Nat) < s.w.axes.length → (on.ax a).enabled = true ∧ (on.ax a).shorted = false ∧ (on.ax a).p0 = s.w.axPos a := fun h => by
    have hlen : a.val < (v.updAx a (fun x => { x with enabled := true, shorted := false })).axes.length := by
      rw [Work.updAx, upd_length, haxes]
      exact h
    rw [show on.ax a = _ from Work.ax_updAx_same _ hlen _, v.ax_updAx_same (by rwa [haxes])]
    exact ⟨rfl, rfl, hpos⟩
  rw [henabled]
  split
  next h => exact ⟨(hon.comp ((Work.within_set _ (Obj.axState a) _).comp (Work.within_startTimer _ _))).mono (by simp) (by simp), hothers, hself,
      fun _ => Work.get_set_same on _ _⟩
  next h => exact ⟨hon.mono (by simp) (by simp), hothers, hself, fun h0 => absurd (hst.trans h0) h⟩

theorem axisDisable_disables (hstate : s.w.get (Obj.axState a) ≠ 5) : Does (.axisDisable p a) s (fun t =>
    s.w.obeys t p (Obj.axCmd a) 5 [.axes, .timers, .router] [Obj.axFlags a, Obj.axState a, Obj.velocity a, Obj.movesQueued a, raisedKey (88 + a)] ∧
    t.get (Obj.axState a) = 0 ∧
    t.axes = upd s.w.axes a (MotionAxis.disabled (decide (s.w.get (Obj.groupPolicy (a / 4)) = 1)))) := by
  have hunanswering : ∀ a : Fin 16, unanswering (Obj.groupPolicy (a.val / 4)) = true := by decide
  refine command_does rfl (commandRow_axCmd a 4) hr rfl (by decide) (haltKeys_unanswering a) fun v hv => ?_
  · rw [if_neg (by rwa [hv.get (not_mem_acceptKeys_of_unanswering (motionKeys_unanswering a _ (by simp)) p)])]
    refine ⟨v.within_disableAxis a 0, ?_, ?_⟩
    · rw [v.get_disableAxis, if_pos rfl]
      rfl
    · rw [v.disableAxis_axes, show v.axes = s.w.axes from hv.same .axes (by simp),
        hv.get (not_mem_acceptKeys_of_unanswering (hunanswering a) p)]

theorem axisClearFault_clears (hstate : s.w.get (Obj.axState a) = 5) : Does (.axisClearFault p a true) s (fun t =>
    s.w.obeys t p (Obj.axCmd a) 6 [.axes] [Obj.axState a] ∧ t.get (Obj.axState a) = 0 ∧
    t.axes = upd s.w.axes a (fun x => { x with faultLow := false })) := by
  have hunanswering := motionKeys_unanswering a (Obj.axState a) (by simp)
  refine command_does rfl (commandRow_axCmd a 5) hr rfl (by decide) (by simpa using hunanswering) fun v hv => ?_
  have hst : (v.updAx a (fun x => { x with faultLow := false })).get (Obj.axState a) = 5 :=
    (hv.get (not_mem_acceptKeys_of_unanswering hunanswering p)).trans hstate
  rw [if_pos rfl, if_pos hst]
  exact ⟨(v.within_updAx a _).comp (Work.within_set _ (Obj.axState a) _), Work.get_set_same _ _ _,
    congrArg (upd · a.val _) (hv.same .axes (by simp))⟩

/-- A running axis that cannot stop within a step brakes at the deceleration of the command. -/
theorem stop_brakes {c : Instr} {code : Fin 6} {act : Work → Work} {decel : Nat}
    (hc : exec c s = onWork (fun w => w.command p (Obj.axCmd a) (code.val + 1) always act) s)
    (hact : ∀ v : Work, s.w.Within v [.journal, .lastRes] (acceptKeys p) → act v = v.braking a decel []) : Does c s (fun t =>
    s.w.obeys t p (Obj.axCmd a) (field (8 * axCmdRow.typ.size) (code.val + 1)) [.axes] [Obj.axState a, Obj.movesQueued a] ∧
    t.get (Obj.axState a) = 4 ∧ t.axes = upd s.w.axes a (fun x => { x with queue := [s.w.brakeMove a decel], home := 0 })) := by
  have hunanswering : ∀ a : Fin 16, unanswering (Obj.axPosition a) = true := by decide
  refine command_does hc (commandRow_axCmd a code) hr rfl (by decide) (brakeKeys_unanswering a) fun v hv => ?_
  · have haxes : v.axes = s.w.axes := hv.same .axes (by simp)
    have hmove : v.brakeMove a decel = s.w.brakeMove a decel := by
      rw [Work.brakeMove, Work.brakeMove, Work.ax, Work.ax, haxes, Work.axPos, Work.axPos,
        hv.get (not_mem_acceptKeys_of_unanswering (hunanswering a) p)]
    rw [hact v hv]
    refine ⟨v.within_braking a decel [], v.get_braking_state a decel [], ?_⟩
    change upd v.axes a _ = _
    rw [hmove, haxes]

theorem axisStop_brakes {m : Move} {rest : List Move} (hq : (s.w.ax a).queue = m :: rest) (hrun : (s.w.ax a).running = true)
    (hsteps : 0 < brakeSteps (s.w.ax a).v m.decel) : Does (.axisStop p a) s (fun t =>
    s.w.obeys t p (Obj.axCmd a) 1 [.axes] [Obj.axState a, Obj.movesQueued a] ∧ t.get (Obj.axState a) = 4 ∧
    t.axes = upd s.w.axes a (fun x => { x with queue := [s.w.brakeMove a m.decel], home := 0 })) :=
  stop_brakes (code := 0) hr rfl fun v hv => by
    have hax : v.ax a = s.w.ax a := by rw [Work.ax, show v.axes = s.w.axes from hv.same .axes (by simp), Work.ax]
    exact v.stopAxis_of_running (decel := none) (by rw [hax, hq]) (by rw [hax, hrun]) (by rw [hax]; exact hsteps)

theorem axisQuickStop_brakes (hq : (s.w.ax a).queue ≠ []) (hrun : (s.w.ax a).running = true)
    (hsteps : 0 < brakeSteps (s.w.ax a).v (s.w.getN (Obj.qstopDecel a))) : Does (.axisQuickStop p a) s (fun t =>
    s.w.obeys t p (Obj.axCmd a) 2 [.axes] [Obj.axState a, Obj.movesQueued a] ∧ t.get (Obj.axState a) = 4 ∧
    t.axes = upd s.w.axes a (fun x => { x with queue := [s.w.brakeMove a (s.w.getN (Obj.qstopDecel a))], home := 0 })) := by
  have hunanswering : ∀ a : Fin 16, unanswering (Obj.qstopDecel a) = true := by decide
  obtain ⟨m, rest, hm⟩ := List.exists_cons_of_ne_nil hq
  refine stop_brakes (code := 1) hr rfl fun v hv => ?_
  have hax : v.ax a = s.w.ax a := by rw [Work.ax, show v.axes = s.w.axes from hv.same .axes (by simp), Work.ax]
  have hdecel : v.getN (Obj.qstopDecel a) = s.w.getN (Obj.qstopDecel a) := hv.getN (not_mem_acceptKeys_of_unanswering (hunanswering a) p)
  have hbrakes := v.stopAxis_of_running (decel := some (s.w.getN (Obj.qstopDecel a))) (by rw [hax, hm]) (by rw [hax, hrun])
    (by rw [hax]; exact hsteps)
  rw [Work.quickStop, hdecel]
  exact hbrakes

end

/-! ### GROUP_CMD -/

/-- A premise on axis a that operations on other axes keep holds when its turn comes, and what it then brings stays. -/
theorem Work.foldl_axes_state {f : Work → Nat → Work} (hf : ∀ (v : Work) (b : Nat), v.MovesOnly (f v b) b) {a : Fin 16} {n : Int} {P : Work → Prop}
    (hP : ∀ (v u : Work) (b : Fin 16), a ≠ b → v.MovesOnly u b → P v → P u) (hn : ∀ v, P v → (f v a).get (Obj.axState a) = n) {xs : List Nat}
    (hlt : ∀ b ∈ xs, b < 16) (hnodup : xs.Nodup) (ha : a.val ∈ xs) (h : P w) : (xs.foldl f w).get (Obj.axState a) = n := by
  induction xs generalizing w with
  | nil => simp at ha
  | cons b xs ih =>
    obtain ⟨hb, hnodup⟩ := List.nodup_cons.mp hnodup
    have hlt' : ∀ c ∈ xs, c < 16 := fun c hc => hlt c (List.mem_cons_of_mem _ hc)
    by_cases hab : a.val = b
    · subst hab
      refine List.foldlRecOn (motive := fun v => v.get (Obj.axState a) = n) xs f (hn w h) fun v hv c hc => ?_
      have hne : a.val ≠ c := fun heq => hb (heq ▸ hc)
      exact ((hf v c).within.get (axKey_not_mem_motionKeys a (hlt' c hc) hne 3)).trans hv
    · have hmem : a.val ∈ xs := (List.mem_cons.mp ha).resolve_left hab
      exact ih _ hlt' hnodup hmem (hP w _ ⟨b, hlt b (List.mem_cons_self ..)⟩ (fun heq => hab (congrArg Fin.val heq)) (hf w b) h)

theorem groupAxes_spec : ∀ (g i : Fin 4), (∀ b ∈ groupAxes g, b < 16) ∧ (groupAxes g).Nodup ∧ (4 * g + i : Nat) ∈ groupAxes g := by decide

theorem groupKeys_unanswering : ∀ g : Fin 4, ∀ k ∈ (groupAxes g).flatMap motionKeys, unanswering k = true := by decide

section
variable {s : State} {p : Path} {g : Fin 4} (hr : s.w.ready p = true)
include hr

/-- A command of a group does to each axis of the group what it does to one axis. -/
theorem group_does {c : Instr} {code : Fin 2} {f : Work → Nat → Work} {P : Fin 16 → Work → Prop} (hf : ∀ (v : Work) (b : Nat), v.MovesOnly (f v b) b)
    (hc : exec c s = onWork (fun w => w.command p (Obj.groupCmd g) (code.val + 1) always (fun v => (groupAxes g).foldl f v)) s)
    (htook : ∀ (a : Fin 16) (v : Work), s.w.Within v [.journal, .lastRes] (acceptKeys p) → P a s.w → P a v)
    (hP : ∀ (a b : Fin 16) (v u : Work), a ≠ b → v.MovesOnly u b → P a v → P a u)
    (hn : ∀ (a : Fin 16) (v : Work), P a v → (f v a).get (Obj.axState a) = 4) : Does c s (fun t =>
    s.w.journals t p (Obj.groupCmd g) (field (8 * groupCmdRow.typ.size) (code.val + 1)) ∧
    s.w.only t [.journal, .lastRes, .axes, .timers, .router] ∧
    ∀ (i : Fin 4) (h : 4 * g.val + i.val < 16), P ⟨4 * g + i, h⟩ s.w → t.get (Obj.axState (4 * g + i)) = 4) := by
  have hdoes := command_does (P := fun t => ∀ (i : Fin 4) (h : 4 * g.val + i.val < 16), P ⟨4 * g + i, h⟩ s.w → t.get (Obj.axState (4 * g + i)) = 4)
    (ps := [.axes, .timers, .router]) (ks := (groupAxes g).flatMap motionKeys) hc (commandRow_groupCmd g code) hr rfl (by decide)
    (groupKeys_unanswering g) fun v hv => ⟨?_, fun i h hPs => ?_⟩
  · obtain ⟨t, hexec, ⟨hjournals, _, _, honly, _⟩, hstates⟩ := hdoes
    exact ⟨t, hexec, hjournals, honly, hstates⟩
  · exact Work.Within.foldl _ (fun u b hb => (hf u b).within.mono (by simp) fun k hk => List.mem_flatMap_of_mem hb hk) v
  · obtain ⟨hlt, hnodup, hmem⟩ := groupAxes_spec g i
    exact v.foldl_axes_state hf (a := ⟨4 * g + i, h⟩) (fun u u' b => hP _ b u u') (hn _) hlt hnodup hmem (htook _ v hv hPs)

theorem groupStop_brakes : Does (.groupStop p g) s (fun t =>
    s.w.journals t p (Obj.groupCmd g) 1 ∧ s.w.only t [.journal, .lastRes, .axes, .timers, .router] ∧
    ∀ i : Fin 4, (s.w.ax (4 * g + i)).running = true →
      0 < brakeSteps (s.w.ax (4 * g + i)).v (((s.w.ax (4 * g + i)).queue.head?.map Move.decel).getD 0) → t.get (Obj.axState (4 * g + i)) = 4) := by
  have hbrakes : ∀ (a : Fin 16) (v : Work), (v.ax a).running = true ∧
      0 < brakeSteps (v.ax a).v (((v.ax a).queue.head?.map Move.decel).getD 0) → (v.stopAxis a none).get (Obj.axState a) = 4 := by
    rintro a v ⟨hrun, hsteps⟩
    cases hq : (v.ax a).queue with
    | nil => simp [hq, brakeSteps] at hsteps
    | cons m rest =>
      rw [v.stopAxis_of_running (decel := none) hq hrun (by simpa [hq] using hsteps)]
      exact v.get_braking_state a _ []
  obtain ⟨t, hexec, hjournals, honly, hstates⟩ := group_does (g := g) (c := .groupStop p g) (code := 0) (f := fun v b => v.stopAxis b none)
    (P := fun a v => (v.ax a).running = true ∧ 0 < brakeSteps (v.ax a).v (((v.ax a).queue.head?.map Move.decel).getD 0)) hr
    (fun v b => v.movesOnly_stopAxis b none) rfl
    (fun a v hv h => by rwa [show v.ax a = s.w.ax a by rw [Work.ax, show v.axes = s.w.axes from hv.same .axes (by simp), Work.ax]])
    (fun a b v u hab hu h => by rwa [hu.others a fun heq => hab (Fin.ext heq)])
    hbrakes
  exact ⟨t, hexec, hjournals, honly, fun i hrun hsteps => hstates i (by omega) ⟨hrun, hsteps⟩⟩

theorem groupQuickStop_brakes : Does (.groupQuickStop p g) s (fun t =>
    s.w.journals t p (Obj.groupCmd g) 2 ∧ s.w.only t [.journal, .lastRes, .axes, .timers, .router] ∧
    ∀ i : Fin 4, (s.w.ax (4 * g + i)).queue ≠ [] → (s.w.ax (4 * g + i)).running = true →
      0 < brakeSteps (s.w.ax (4 * g + i)).v (s.w.getN (Obj.qstopDecel (4 * g + i))) → t.get (Obj.axState (4 * g + i)) = 4) := by
  have hunanswering : ∀ a : Fin 16, unanswering (Obj.qstopDecel a) = true := by decide
  have hbrakes : ∀ (a : Fin 16) (v : Work), (v.ax a).queue ≠ [] ∧ (v.ax a).running = true ∧
      0 < brakeSteps (v.ax a).v (v.getN (Obj.qstopDecel a)) → (v.quickStop a).get (Obj.axState a) = 4 := by
    rintro a v ⟨hq, hrun, hsteps⟩
    obtain ⟨m, rest, hm⟩ := List.exists_cons_of_ne_nil hq
    rw [Work.quickStop, v.stopAxis_of_running (decel := some (v.getN (Obj.qstopDecel a))) hm hrun hsteps]
    exact v.get_braking_state a _ []
  obtain ⟨t, hexec, hjournals, honly, hstates⟩ := group_does (g := g) (c := .groupQuickStop p g) (code := 1) (f := fun v b => v.quickStop b)
    (P := fun a v => (v.ax a).queue ≠ [] ∧ (v.ax a).running = true ∧ 0 < brakeSteps (v.ax a).v (v.getN (Obj.qstopDecel a))) hr
    (fun v b => v.movesOnly_stopAxis b _) rfl
    (fun a v hv h => by
      rwa [show v.ax a = s.w.ax a by rw [Work.ax, show v.axes = s.w.axes from hv.same .axes (by simp), Work.ax],
        hv.getN (not_mem_acceptKeys_of_unanswering (hunanswering a) p)])
    (fun a b v u hab hu h => by rwa [hu.others a fun heq => hab (Fin.ext heq), hu.within.getN (qstopDecel_not_mem_motionKeys a b)])
    hbrakes
  exact ⟨t, hexec, hjournals, honly, fun i hq hrun hsteps => hstates i (by omega) ⟨hq, hrun, hsteps⟩⟩

end

/-- Settles O40: after the acceptance each command is one of the axis's operations, and a group's is the fold of it over its four axes. -/
theorem axisCommandsActAtOnce : Obligations.AxisCommandsActAtOnce :=
  ⟨fun _ _ _ hr => axisHalt_halts hr, fun _ _ _ hr hruns hstate => axisEnable_enables hr hruns hstate,
    fun _ _ _ hr hstate => axisDisable_disables hr hstate, fun _ _ _ hr hstate => axisClearFault_clears hr hstate,
    fun _ _ _ _ _ hr hq hrun hsteps => axisStop_brakes hr hq hrun hsteps, fun _ _ _ hr hq hrun hsteps => axisQuickStop_brakes hr hq hrun hsteps,
    fun _ _ _ hr => groupStop_brakes hr, fun _ _ _ hr => groupQuickStop_brakes hr⟩

end Sys2Proof.Machine
end

section
/-! Axis events (R361 to R369): a step, a soft limit, a stall, a drive fault, the end of a search and the standstill. -/
namespace Sys2Proof.Machine
variable (w : Work)

/-! ### Calibrations that traverse -/

/-- An axis no calibration traverses with fails none. -/
theorem Work.traverseFault_of_notTraverse {a : Nat} (h : w.notTraverse a = true) : w.traverseFault a = w := by
  refine List.foldlRecOn (motive := fun v => v = w) (upTo 32) _ rfl fun v hv p hp => ?_
  have hne : w.traverse p ≠ some a := by simpa using List.all_eq_true.mp h p hp
  subst hv
  exact if_neg fun hfaulted => hne (by simp at hfaulted; exact hfaulted.1.1)

/-- Operations on an axis leave what calibrations traverse with. -/
theorem Work.notTraverse_of_movesOnly {w v : Work} {a : Fin 16} (h : w.MovesOnly v a) : v.notTraverse a = w.notTraverse a := by
  have haxis : ∀ b : Fin 16, Obj.travAxis ∉ motionKeys b := by decide
  have htraverse : ∀ p, v.traverse p = w.traverse p := fun p => by
    rw [Work.traverse, Work.traverse, h.within.getN (haxis a), Work.calOf, Work.calOf, show v.cal = w.cal from h.within.same .cal (by simp)]
  simp only [Work.notTraverse, htraverse]

theorem Work.MovesOnly.traverseFault {w v : Work} {a : Fin 16} (h : w.MovesOnly v a) (hfree : w.notTraverse a = true) : v.traverseFault a = v :=
  v.traverseFault_of_notTraverse ((Work.notTraverse_of_movesOnly h).trans hfree)

/-- What an operation on an axis shows of its position and of the parts. -/
theorem Work.MovesOnly.axPos {w v : Work} {a : Fin 16} (h : w.MovesOnly v a) : v.axPos a = w.axPos a := h.within.get (axPosition_not_mem_motionKeys a)

/-! ### Steps -/

section
variable {w} {a : Fin 16} {d : Nat} {m : Move} {rest : List Move}

theorem axisStep_eq (hdue : (w.ax a).due = some d) (htime : d ≤ w.clk.ctl) (hrun : (w.ax a).running = true) (hmode : w.mode.axesRun = true)
    (hq : (w.ax a).queue = m :: rest) (hhome : (w.ax a).home ≠ 1) : axisStep a w =
    if (m.kind ≠ 4 && w.beyondSoft a (w.axPos a + (w.ax a).dir)) = true then w.limitStop a
    else
      let v := ((w.set (Obj.axPosition a) (w.axPos a + (w.ax a).dir)).updAx a
        (fun x => { x with since := x.since + 1, travelled := x.travelled + 1, due := none })).showFollow a
      if v.stepsLeft a m = some 0 then if m.kind = 4 then v.homeEnd a else v.endMove a (decide (0 < v.jointSpeed a))
      else v.loadStep a (v.nextSpeed a m (w.ax a).v) 0 := by
  simp only [axisStep, hdue, hq]
  rw [if_neg (by simp [hrun, hmode, htime]), if_neg (by simp [hhome])]

/-- A step within the limits: POSITION is set first, and all else is an operation on the axis. -/
theorem axisStep_movesOnly (hdue : (w.ax a).due = some d) (htime : d ≤ w.clk.ctl) (hrun : (w.ax a).running = true)
    (hmode : w.mode.axesRun = true) (hq : (w.ax a).queue = m :: rest) (hhome : (w.ax a).home ≠ 1)
    (hfree : m.kind = 4 ∨ w.beyondSoft a (w.axPos a + (w.ax a).dir) = false) :
    (w.set (Obj.axPosition a) (w.axPos a + (w.ax a).dir)).MovesOnly (axisStep a w) a := by
  rw [axisStep_eq hdue htime hrun hmode hq hhome, if_neg (by rcases hfree with h | h <;> simp [h])]
  exact ((Work.movesOnly_updAx _ a _).trans (Work.movesOnly_showFollow _ a)).trans
    (.ite (.ite (Work.movesOnly_homeEnd _ a) (Work.movesOnly_endMove _ a _)) (Work.movesOnly_loadStep _ a _ _))

end

/-- A halt with a reason: the bit of AX_FLAGS that says it, and the halt. -/
theorem Work.movesOnly_flagHalt (a bit : Nat) : w.MovesOnly ((w.axFlag a bit).haltAxis a) a :=
  (w.movesOnly_axFlag a bit).trans (Work.movesOnly_haltAxis _ a)

theorem Work.getN_axFlag_flags (a : Fin 16) (bit : Nat) : (w.axFlag a bit).getN (Obj.axFlags a) = w.getN (Obj.axFlags a) ||| 2 ^ bit := by
  rw [Work.getN, w.get_axFlag_flags a bit]
  rfl

section
variable {s : State} {a : Fin 16}

/-- An operation on an axis changes three parts of the machine. -/
theorem Work.MovesOnly.only {w v : Work} {b : Nat} (h : w.MovesOnly v b) : w.only v [.axes, .timers, .router] := h.within.only

theorem axisStep_steps {d : Nat} {m : Move} {rest : List Move} (hdue : (s.w.ax a).due = some d) (htime : d ≤ s.w.clk.ctl)
    (hrun : (s.w.ax a).running = true) (hmode : s.w.mode.axesRun = true) (hq : (s.w.ax a).queue = m :: rest) (hhome : (s.w.ax a).home ≠ 1)
    (hfree : m.kind = 4 ∨ s.w.beyondSoft a (s.w.axPos a + (s.w.ax a).dir) = false) : Does (.axisStep a) s (fun t =>
    t.axPos a = s.w.axPos a + (s.w.ax a).dir ∧ s.w.only t [.axes, .timers, .router] ∧ (∀ b : Fin 16, b ≠ a → t.ax b = s.w.ax b)) := by
  have hmoves := axisStep_movesOnly hdue htime hrun hmode hq hhome hfree
  exact does_of_onWork rfl ⟨hmoves.axPos.trans (Work.get_set_same _ _ _), Work.only_trans (s.w.only_set _ _ _) hmoves.only,
    fun b hb => hmoves.others b fun h => hb (Fin.ext h)⟩

theorem axisStep_limit {d : Nat} {m : Move} {rest : List Move} (hdue : (s.w.ax a).due = some d) (htime : d ≤ s.w.clk.ctl)
    (hrun : (s.w.ax a).running = true) (hmode : s.w.mode.axesRun = true) (hq : (s.w.ax a).queue = m :: rest) (hhome : (s.w.ax a).home ≠ 1)
    (hkind : m.kind ≠ 4) (hbeyond : s.w.beyondSoft a (s.w.axPos a + (s.w.ax a).dir) = true) (hfree : s.w.notTraverse a = true) :
    Does (.axisStep a) s (fun t =>
      t.axPos a = s.w.axPos a ∧ t.get (Obj.axFlags a) = Int.ofNat (s.w.getN (Obj.axFlags a) ||| 2 ||| 1) ∧ (t.ax a).queue = [] ∧
      (t.ax a).running = false ∧ s.w.only t [.axes, .timers, .router]) := by
  have hmoves := s.w.movesOnly_flagHalt a afLimit
  have hstep : axisStep a s.w = (s.w.axFlag a afLimit).haltAxis a := by
    rw [axisStep_eq hdue htime hrun hmode hq hhome, if_pos (by simp [hkind, hbeyond])]
    exact hmoves.traverseFault hfree
  obtain ⟨hqueue, hrunning⟩ := (s.w.axFlag a afLimit).ax_haltAxis a
  refine does_of_onWork rfl ?_
  rw [hstep]
  exact ⟨hmoves.axPos, by rw [Work.get_haltAxis_flags, Work.getN_axFlag_flags]; rfl, hqueue, hrunning, hmoves.only⟩

/-! ### Stalls -/

theorem Work.showFollow_of_no_feedback {a : Nat} (h : w.feedback a = false) : w.showFollow a = w := if_pos (by simp [h])

section
variable (hsource : s.w.get (Obj.stallSource a) = 0) (hfeed : s.w.feedback a = false) (hon : (s.w.ax a).enabled = true)
  (hmode : s.w.mode.axesRun = true) (hblank : s.w.getN (Obj.stallBlank a) < (s.w.ax a).since)
include hsource hfeed hon hmode hblank

theorem axisStall_eq (hhome : (s.w.ax a).home ≠ 2) : axisStall a true s.w = if (s.w.ax a).home = 1 then s.w.homeFound a
    else (((s.w.axFlag a afStall).bump (Obj.stalls a)).haltAxis a).traverseFault a := by
  unfold axisStall
  dsimp only
  rw [s.w.showFollow_of_no_feedback hfeed, if_pos hsource, if_neg (by simp [hon, hmode]), if_neg (by simp [hhome, hblank])]

theorem axisStall_halts (hhome : (s.w.ax a).home = 0) (hfree : s.w.notTraverse a = true) : Does (.axisStall a true) s (fun t =>
    t.get (Obj.axFlags a) = Int.ofNat (s.w.getN (Obj.axFlags a) ||| 8 ||| 1) ∧ t.get (Obj.stalls a) = min (s.w.get (Obj.stalls a) + 1) 0xFFFFFFFF ∧
    (t.ax a).queue = [] ∧ (t.ax a).running = false ∧ t.axPos a = s.w.axPos a ∧ s.w.only t [.axes, .timers, .router]) := by
  let u := (s.w.axFlag a afStall).bump (Obj.stalls a)
  have hbump : (s.w.axFlag a afStall).MovesOnly u a := Work.movesOnly_set _ a (by simp) _
  have hmoves : s.w.MovesOnly (u.haltAxis a) a := ((s.w.movesOnly_axFlag a afStall).trans hbump).trans (u.movesOnly_haltAxis a)
  have hstall : axisStall a true s.w = u.haltAxis a := by
    rw [axisStall_eq hsource hfeed hon hmode hblank (by simp [hhome]), if_neg (by simp [hhome])]
    exact hmoves.traverseFault hfree
  have hflags : u.getN (Obj.axFlags a) = s.w.getN (Obj.axFlags a) ||| 8 := by
    rw [(Work.within_bump _ _ _).getN (by simp), Work.getN_axFlag_flags]
    rfl
  have hcountKey : ∀ a : Fin 16, Obj.stalls a ∉ haltKeys a ∧ raisedKey (104 + a) ≠ Obj.stalls a ∧ counterMax (Obj.stalls a) = 0xFFFFFFFF := by decide
  obtain ⟨hkey, hraised, hmax⟩ := hcountKey a
  have hflagged : (s.w.axFlag a afStall).get (Obj.stalls a) = s.w.get (Obj.stalls a) :=
    ((Work.within_raise _ _).get (by simpa using hraised.symm)).trans ((s.w.within_flag _ _).get (by simp))
  have hcount : (u.haltAxis a).get (Obj.stalls a) = min (s.w.get (Obj.stalls a) + 1) 0xFFFFFFFF := by
    rw [(u.within_haltAxis a).get hkey, Work.get_bump, if_pos rfl, hflagged, hmax]
    rfl
  obtain ⟨hqueue, hrunning⟩ := u.ax_haltAxis a
  refine does_of_onWork rfl ?_
  rw [hstall]
  exact ⟨by rw [Work.get_haltAxis_flags, hflags], hcount, hqueue, hrunning, hmoves.axPos, hmoves.only⟩

end

theorem Work.movesOnly_homeFound (a : Nat) : (w.set (Obj.axPosition a) (w.get (Obj.homePos a))).MovesOnly (w.homeFound a) a := by
  have hback : ∀ f, (w.set (Obj.axPosition a) (w.get (Obj.homePos a))).MovesOnly
      (((w.set (Obj.axPosition a) (w.get (Obj.homePos a))).latchOrigin a).updAx a f) a := fun f =>
    (Work.movesOnly_latchOrigin _ a).trans (Work.movesOnly_updAx _ a f)
  unfold Work.homeFound
  dsimp only
  split
  · exact (hback _).trans (.ite (Work.movesOnly_homeEnd _ a) (Work.movesOnly_loadStep _ a _ _))
  · exact hback _

theorem axisStall_homes (hsource : s.w.get (Obj.stallSource a) = 0) (hfeed : s.w.feedback a = false) (hon : (s.w.ax a).enabled = true)
    (hmode : s.w.mode.axesRun = true) (hblank : s.w.getN (Obj.stallBlank a) < (s.w.ax a).since) (hhome : (s.w.ax a).home = 1) :
    Does (.axisStall a true) s (fun t => t.axPos a = s.w.get (Obj.homePos a) ∧ s.w.only t [.axes, .timers, .router]) := by
  have hmoves := s.w.movesOnly_homeFound a
  refine does_of_onWork rfl ?_
  rw [axisStall_eq hsource hfeed hon hmode hblank (by simp [hhome]), if_pos hhome]
  exact ⟨hmoves.axPos.trans (Work.get_set_same _ _ _), Work.only_trans (s.w.only_set _ _ _) hmoves.only⟩

/-! ### Drive faults, the end of a search, standstill -/

theorem Work.movesOnly_disableAxis (a st : Nat) : w.MovesOnly (w.disableAxis a st) a :=
  (w.movesOnly_haltAxis a).trans <| (Work.movesOnly_updAx _ a _).trans <| (Work.movesOnly_axSt _ a st).trans <|
    (Work.movesOnly_stopTimer _ a _).trans (Work.movesOnly_stopTimer _ a _)

theorem drvFault_faults (hfree : s.w.notTraverse a = true) : Does (.drvFault a) s (fun t =>
    t.get (Obj.axState a) = 5 ∧ t.get (Obj.axFlags a) = Int.ofNat (s.w.getN (Obj.axFlags a) ||| 4 ||| 1) ∧ t.axPos a = s.w.axPos a ∧
    s.w.only t [.axes, .timers, .router] ∧
    ((a : Nat) < s.w.axes.length → (t.ax a).enabled = false ∧ (t.ax a).queue = [] ∧ (t.ax a).faultLow = true)) := by
  let u := (s.w.updAx a (fun x => { x with faultLow := true })).axFlag a afDrvFault
  have hmoves : s.w.MovesOnly (u.disableAxis a 5) a :=
    ((s.w.movesOnly_updAx a _).trans (Work.movesOnly_axFlag _ a afDrvFault)).trans (u.movesOnly_disableAxis a 5)
  have hfault : drvFault a s.w = u.disableAxis a 5 := hmoves.traverseFault hfree
  have hflags : (u.disableAxis a 5).get (Obj.axFlags a) = Int.ofNat (s.w.getN (Obj.axFlags a) ||| 4 ||| 1) := by
    rw [u.get_disableAxis, if_neg (subKeys_ne (by decide)), Work.get_haltAxis_flags, Work.getN_axFlag_flags]
    rfl
  have haxes : u.axes = upd s.w.axes a (fun x => { x with faultLow := true }) := (Work.within_raise _ _).same .axes (by simp)
  refine does_of_onWork rfl ?_
  rw [hfault]
  refine ⟨by rw [u.get_disableAxis, if_pos rfl]; rfl, hflags, hmoves.axPos, hmoves.only, fun h => ?_⟩
  rw [Work.ax, u.disableAxis_axes, haxes, upd_upd, nth_upd, if_pos ⟨rfl, h⟩]
  exact ⟨rfl, rfl, rfl⟩

theorem homeFail_fails (hhome : (s.w.ax a).home = 1) (htravel : s.w.getN (Obj.homeMaxTravel a) ≤ (s.w.ax a).travelled) :
    Does (.homeFail a) s (fun t => t.get (Obj.axFlags a) = Int.ofNat (s.w.getN (Obj.axFlags a) ||| 32) ∧ t.get (Obj.homed a) = 0 ∧
      t.axPos a = s.w.axPos a ∧ s.w.only t [.axes, .timers, .router]) := by
  let u := (s.w.axFlag a afHomeFail).set (Obj.homed a) 0
  have hfail : homeFail a s.w = u.stopAxis a none := if_neg (by simp [hhome, htravel])
  have hmoves : s.w.MovesOnly (u.stopAxis a none) a :=
    ((s.w.movesOnly_axFlag a afHomeFail).trans (Work.movesOnly_set _ a (by simp) 0)).trans (u.movesOnly_stopAxis a none)
  have hstop := u.within_stopAxis a none
  have hkeys : ∀ a : Fin 16, Obj.axFlags a ∉ [Obj.axState a, Obj.velocity a, Obj.movesQueued a, raisedKey (88 + a)] ∧
      Obj.homed a ∉ [Obj.axState a, Obj.velocity a, Obj.movesQueued a, raisedKey (88 + a)] := by decide
  refine does_of_onWork rfl ?_
  rw [hfail]
  refine ⟨?_, (hstop.get (hkeys a).2).trans (Work.get_set_same _ _ _), hmoves.axPos, hmoves.only⟩
  rw [hstop.get (hkeys a).1, Work.get_set_other _ _ _ _ (subKeys_ne (by decide)), Work.get_axFlag_flags]
  rfl

theorem standstillTimeout_raisesCr (hdelay : s.w.getN (Obj.standstillDelay a) ≠ 0)
    (htime : s.w.expired (.standstill a) (s.w.getN (Obj.standstillDelay a) * 1000) = true) (hon : (s.w.ax a).enabled = true)
    (hrest : (s.w.ax a).running = false) (hq : (s.w.ax a).queue = []) : Does (.standstillTimeout a) s (fun t =>
    t = { s.w with axes := upd s.w.axes a (fun x => { x with cr := true }), timers := (s.w.stopTimer (.standstill a)).timers }) :=
  does_of_onWork rfl (if_neg (by simp [hdelay, htime, hon, hrest, hq]))

end

/-- Settles O42: each event is a step of POSITION or a bit of AX_FLAGS, and then an operation on the axis. -/
theorem axisEventsTakeEffect : Obligations.AxisEventsTakeEffect :=
  ⟨fun _ _ _ _ _ hdue htime hrun hmode hq hhome hfree => axisStep_steps hdue htime hrun hmode hq hhome hfree,
    fun _ _ _ _ _ hdue htime hrun hmode hq hhome hkind hbeyond hfree => axisStep_limit hdue htime hrun hmode hq hhome hkind hbeyond hfree,
    fun _ _ hsource hfeed hon hmode hblank hhome hfree => axisStall_halts hsource hfeed hon hmode hblank hhome hfree,
    fun _ _ hsource hfeed hon hmode hblank hhome => axisStall_homes hsource hfeed hon hmode hblank hhome,
    fun _ _ hfree => drvFault_faults hfree, fun _ _ hhome htravel => homeFail_fails hhome htravel,
    fun _ _ hdelay htime hon hrest hq => standstillTimeout_raisesCr hdelay htime hon hrest hq⟩

end Sys2Proof.Machine
end

section
/-! What the entry to SAFE leaves of the supplies (R518, R519, R527): the power, the journal, the clocks, and the objects from 0x2100 to 0x21FF. -/
namespace Sys2Proof.Machine

/-- An object of the supplies, the clocks, the temperatures and the life of the module. -/
def supplyKey (k : Nat) : Bool := decide (0x2100 ≤ k / 256) && decide (k / 256 < 0x2200)

/-- An operation that spares the power, the journal, the clocks and the objects of the supplies. -/
structure Work.Spares (a b : Work) : Prop where
  parts : ∀ q ∈ [Part.power, .journal, .clk], q.same a b
  objs : ∀ k, supplyKey k = true → b.get k = a.get k

section
variable {a b c : Work}

theorem Work.Spares.refl (a : Work) : a.Spares a := ⟨fun q _ => q.same_refl a, fun _ _ => rfl⟩

theorem Work.Spares.trans (hab : a.Spares b) (hbc : b.Spares c) : a.Spares c :=
  ⟨fun q hq => Part.same_trans (hab.parts q hq) (hbc.parts q hq), fun k hk => (hbc.objs k hk).trans (hab.objs k hk)⟩

theorem Work.Spares.ite {p : Prop} [Decidable p] (hb : a.Spares b) (hc : a.Spares c) : a.Spares (if p then b else c) := by
  split
  · exact hb
  · exact hc

theorem Work.Spares.foldl {α : Type} {f : Work → α → Work} (xs : List α) (hf : ∀ (w : Work) (x : α), w.Spares (f w x)) (w : Work) : w.Spares (xs.foldl f w) :=
  List.foldlRecOn (motive := fun v => w.Spares v) xs f (.refl w) fun v hv x _ => hv.trans (hf v x)

/-- What changes other parts and other objects. -/
theorem Work.Within.spares {ps : List Part} {ks : List Nat} (h : a.Within b ps ks) (hps : ∀ q ∈ [Part.power, .journal, .clk], q ∉ ps)
    (hks : ∀ k ∈ ks, supplyKey k = false) : a.Spares b :=
  ⟨fun q hq => h.only q (hps q hq), fun k hk => h.sameBut k fun hmem => Bool.false_ne_true ((hks k hmem).symm.trans hk)⟩

theorem Work.Spares.power (h : a.Spares b) : b.power = a.power := h.parts .power (by simp)

theorem Work.Spares.journal (h : a.Spares b) : b.journal = a.journal := h.parts .journal (by simp)

theorem Work.Spares.clk (h : a.Spares b) : b.clk = a.clk := h.parts .clk (by simp)

end

/-- An object outside of 0x2100 to 0x21FF, by its index. -/
theorem supplyKey_of_index {i x : Nat} (hi : i < 0x2100 ∨ 0x2200 ≤ i) (hx : x < 256 := by decide) : supplyKey (i * 256 + x) = false := by
  have hindex : (i * 256 + x) / 256 = i := by omega
  simp only [supplyKey, hindex, Bool.and_eq_false_iff, decide_eq_false_iff_not]
  omega

theorem supplyKey_raised (s : Nat) : supplyKey (raisedKey s) = false := by
  unfold raisedKey Obj.raised
  rw [Nat.add_assoc]
  exact supplyKey_of_index (by omega) (by omega)

variable (w : Work)

theorem Work.spares_set {k : Nat} (v : Int) (hk : supplyKey k = false) : w.Spares (w.set k v) :=
  (w.within_set k v).spares (by simp) (by simpa using hk)

theorem Work.spares_stopTimer (t : Timer) : w.Spares (w.stopTimer t) := (w.within_stopTimer t).spares (by simp) (by simp)

theorem Work.spares_peak {k : Nat} (v : Nat) (hk : supplyKey k = false) : w.Spares (w.peak k v) := by
  unfold Work.peak
  split
  · exact w.spares_set _ hk
  · exact .refl w

/-- What changes none of the three parts and no object. -/
theorem Work.spares_of_get {v : Work} (hpower : v.power = w.power) (hjournal : v.journal = w.journal) (hclk : v.clk = w.clk)
    (hget : ∀ k, v.get k = w.get k) : w.Spares v := by
  refine ⟨fun q hq => ?_, fun k _ => hget k⟩
  simp only [List.mem_cons, List.not_mem_nil, or_false] at hq
  obtain rfl | rfl | rfl := hq
  exacts [hpower, hjournal, hclk]

theorem Work.spares_sys (y : Sys) : w.Spares { w with sys := y } := w.spares_of_get rfl rfl rfl fun _ => rfl

theorem Work.spares_streams (y : Streams) : w.Spares { w with streams := y } := w.spares_of_get rfl rfl rfl fun _ => rfl

theorem Work.spares_lanes (y : List Lane) : w.Spares { w with lanes := y } := w.spares_of_get rfl rfl rfl fun _ => rfl

theorem Work.spares_router (y : Router) : w.Spares { w with router := y } := w.spares_of_get rfl rfl rfl fun _ => rfl

theorem Work.spares_hbm (y : Hbm) : w.Spares { w with hbm := y } := w.spares_of_get rfl rfl rfl fun _ => rfl

theorem Work.spares_run (y : Run) : w.Spares { w with run := y } := w.spares_of_get rfl rfl rfl fun _ => rfl

/-! ### Axes and calibrations -/

theorem motionKeys_spare (a : Nat) : ∀ k ∈ motionKeys a, supplyKey k = false := by
  have hstatus : ∀ x, x < 256 → supplyKey ((0x8430 + a) * 256 + x) = false := fun x hx => supplyKey_of_index (by omega) hx
  simpa [supplyKey_raised] using ⟨hstatus 4 (by decide), hstatus 3 (by decide), hstatus 2 (by decide), hstatus 6 (by decide), hstatus 5 (by decide),
    hstatus 7 (by decide), hstatus 8 (by decide)⟩

theorem Work.MovesOnly.spares {w v : Work} {a : Nat} (h : w.MovesOnly v a) : w.Spares v := h.within.spares (by simp) (motionKeys_spare a)

theorem Work.spares_pushMove (a : Nat) (m : Move) : w.Spares (w.pushMove a m) := by
  have hput : ∀ (v : Work) (r : Nat), v.Spares (v.set (Obj.mvResult a) r) := fun v r => v.spares_set _ (supplyKey_of_index (by omega))
  have hqueued : ∀ f, w.Spares (((w.updAx a f).set (Obj.mvResult a) (1 : Nat)).showMoves a) := fun f =>
    (w.movesOnly_updAx a f).spares.trans ((hput _ 1).trans (Work.movesOnly_showMoves _ a).spares)
  unfold Work.pushMove
  refine .ite (hput _ _) (.ite (hput _ _) (.ite ((w.movesOnly_axFlag a _).spares.trans (hput _ _)) (.ite (hput _ _) (.ite (hput _ _) ?_))))
  dsimp only
  split
  · exact .ite (.ite ((hqueued _).trans ((Work.movesOnly_updAx _ a _).trans (Work.movesOnly_startHead _ a 33)).spares)
      ((hqueued _).trans (Work.movesOnly_brake _ a _ _).spares)) (hqueued _)
  · exact .ite (hqueued _) ((hqueued _).trans (Work.movesOnly_startHead _ a 33).spares)

theorem Work.spares_sendAxis (a : Nat) (x : Int) : w.Spares (w.sendAxis a x) := .ite (.refl w) (w.spares_pushMove a _)

theorem Work.spares_updCal (p : Nat) (f : PortCal → PortCal) : w.Spares (w.updCal p f) := w.spares_of_get rfl rfl rfl fun _ => rfl

theorem Work.spares_calFail (p code : Nat) : w.Spares (w.calFail p code) := by
  have hresult : w.Spares (w.set (Obj.calResult p) code) := w.spares_set _ (supplyKey_of_index (by omega))
  exact (hresult.trans (.ite (Work.spares_set _ _ (by decide)) (Work.spares_set _ _ (supplyKey_of_index (by omega))))).trans
    (Work.spares_updCal _ p _)

theorem Work.spares_calRecord (p : Nat) : w.Spares (w.calRecord p) :=
  w.spares_of_get (w.emit_power _) (w.emit_journal _) (w.emit_clk _) fun k => w.get_emit _ k

theorem Work.spares_pcal (p st : Nat) : w.Spares (w.pcal p st) :=
  (w.spares_set (st : Int) (supplyKey_of_index (by omega))).trans (Work.spares_set _ _ (by decide))

theorem Work.spares_abortCals (perPortOnly : Bool) : w.Spares (w.abortCals perPortOnly) := by
  refine .foldl _ (fun v p => .ite (.refl v) ?_) w
  have hfailed : ∀ f, v.Spares (if v.getN (Obj.pcalState p) < pcWaitRemoval then (v.calFail p 3).updCal p f else v) := fun f =>
    .ite ((v.spares_calFail p 3).trans (Work.spares_updCal _ p f)) (.refl v)
  have hended : ∀ u : Work, u.Spares ((((((u.closeExcl p 7 u.frame).set (Obj.calLastFrame p)
      (Int.ofNat ((u.closeExcl p 7 u.frame).frame - 1))).calRecord p).updCal p
      (fun c => { c with kind := 0, ready := false, backAt := none })).pcal p pcIdle).stopTimer (.refPcal p)) := fun u =>
    (u.spares_of_get (v := u.closeExcl p 7 u.frame) rfl rfl rfl fun _ => rfl).trans <|
      (Work.spares_set _ _ (supplyKey_of_index (by omega))).trans <|
      (Work.spares_calRecord _ p).trans <| (Work.spares_updCal _ p _).trans <| (Work.spares_pcal _ p _).trans (Work.spares_stopTimer _ _)
  dsimp only
  split
  · exact ((hfailed _).trans (Work.spares_sendAxis _ _ _)).trans (hended _)
  · exact (hfailed _).trans (hended _)

/-! ### What SAFE ends of the plant -/

theorem Work.spares_secondaryLeaves : w.Spares w.secondaryLeaves := by
  have hsent : w.Spares (w.ylSend w.partner 7 8 [] []).1 := (w.within_ylSend w.partner 7 8 [] []).spares (by simp) (by simp)
  have hunpaired := hsent.trans ((Work.spares_set _ (k := Obj.pairState) 0 (by decide)).trans (Work.spares_set _ (k := Obj.lastMirrorSeq) 0 (by decide)))
  exact .ite (hunpaired.trans (Work.spares_sys _ _)) (.refl w)

theorem Work.spares_showSeg : w.Spares w.showSeg :=
  (w.spares_set _ (by decide)).trans <| (Work.spares_peak _ _ (by decide)).trans <|
    .foldl _ (fun v c => .ite (.refl v) <|
      (v.spares_set _ (supplyKey_of_index (by omega))).trans (Work.spares_peak _ _ (supplyKey_of_index (by omega)))) _

theorem Work.spares_pipeDrop : w.Spares w.pipeDrop :=
  (w.spares_of_get (v := { w with
    seg := { nextFrame := w.seg.nextFrame, nextId := w.seg.nextId }
    cls := { w.cls with queue := [], batches := [], crops := [], cropAhead := List.replicate 4 0 } }) rfl rfl rfl fun _ => rfl).trans <|
    (Work.spares_showSeg _).trans ((Work.spares_set _ _ (by decide)).trans (Work.spares_stopTimer _ _))

theorem Work.spares_updEngine (e : Nat) (f : Engine → Engine) : w.Spares (w.updEngine e f) :=
  (w.spares_streams _).trans <|
    (Work.spares_set _ _ (supplyKey_of_index (by omega))).trans <| (Work.spares_set _ _ (supplyKey_of_index (by omega))).trans
      (Work.spares_set _ _ (by decide))

/-- SAFE aborts an engine without a flag: its record goes uncounted. -/
theorem Work.spares_abortEngine (e : Nat) : w.Spares (w.abortEngine e 0) := by
  unfold Work.abortEngine
  split
  · exact .refl w
  · rw [if_pos rfl]
    exact (w.spares_updEngine e _).trans (Work.spares_set _ _ (supplyKey_of_index (by omega)))

theorem Work.spares_streamsStop : w.Spares w.streamsStop := by
  have hended := fun y => (Work.Spares.foldl (upTo 4) (fun v e => v.spares_abortEngine e) w).trans (Work.spares_streams _ y)
  exact ((hended _).trans (Work.spares_set _ (k := Obj.compQueueUsed) 0 (by decide))).trans (.foldl _ (fun v s => v.spares_set _ (supplyKey_of_index (by omega))) _)

theorem Work.spares_markersOff : w.Spares w.markersOff :=
  .foldl _ (fun v k => ((v.within_updMarker k _).spares (by simp) (by simp)).trans <|
    (Work.spares_set _ _ (supplyKey_of_index (by omega))).trans (Work.spares_set _ _ (supplyKey_of_index (by omega)))) w

theorem Work.spares_axesOff : w.Spares w.axesOff := .foldl _ (fun v a => (v.movesOnly_disableAxis a 0).spares) w

theorem Work.spares_lanesDown : w.Spares w.lanesDown := by
  have heye : ∀ (v : Work) (l : Nat), v.Spares (v.eyeAbort l) := fun v l =>
    .ite ((v.spares_set _ (supplyKey_of_index (by omega))).trans (Work.spares_lanes _ _)) (.refl v)
  have hdropped := w.spares_lanes (w.lanes.map (fun n => { eye := n.eye }))
  exact hdropped.trans (.foldl _ (fun v l => (heye v l).trans (Work.spares_set _ _ (supplyKey_of_index (by omega)))) _)

theorem Work.spares_dmaAbort : w.Spares w.dmaAbort := by
  have hkeys : ∀ c, ∀ k ∈ failKeys c, supplyKey k = false := fun c => by
    have hchan : ∀ x, x < 256 → supplyKey ((0x7000 + c) * 256 + x) = false := fun x hx => supplyKey_of_index (by omega) hx
    simpa using ⟨hchan 3 (by decide), hchan 13 (by decide), hchan 10 (by decide), hchan 11 (by decide), by decide⟩
  exact .foldl _ (fun v c => .ite ((v.within_chFail c 6 0).spares (by simp) (hkeys c)) (.refl v)) w

theorem Work.spares_evtOutsOff : w.Spares w.evtOutsOff := by
  have htimers : w.Spares (w.router.pulses.foldl (fun w i => w.stopTimer (.evtPulse i)) w) := .foldl _ (fun v i => v.spares_stopTimer _) w
  exact htimers.trans (Work.spares_router _ _)

theorem Work.spares_hbmPark : w.Spares w.hbmPark := by
  have hasleep : ∀ (u : Work) (ns : List Nat), u.Spares (ns.foldl (fun u n => if u.get (Obj.pcState n) = 4 then u else u.set (Obj.pcState n) 2) u) :=
    fun u ns => .foldl ns (fun u n => .ite (.refl u) (u.spares_set 2 (supplyKey_of_index (by omega)))) u
  exact (w.spares_hbm _).trans <| .foldl _ (fun v s =>
    (Work.Spares.ite (v.spares_set (k := Obj.srEntries) _ (by decide)) (.refl v)).trans (hasleep _ _)) _

theorem Work.spares_parked : w.Spares w.parked :=
  w.spares_pipeDrop.trans <| (Work.spares_streamsStop _).trans <| (Work.spares_markersOff _).trans <| (Work.spares_axesOff _).trans <|
    (Work.spares_lanesDown _).trans <| (Work.spares_dmaAbort _).trans <| (Work.spares_evtOutsOff _).trans <| (Work.spares_hbmPark _).trans <|
    (Work.spares_stopTimer _ _).trans (Work.spares_stopTimer _ _)

/-! ### The entry to SAFE -/

theorem transitionKeys_spare : ∀ k ∈ transitionKeys, supplyKey k = false := by decide

theorem Work.spares_modeTo (m : Mode) (cause : Nat) : w.Spares (w.modeTo m cause) :=
  Work.Within.spares ⟨w.only_modeTo m cause, w.sameBut_modeTo m cause⟩ (by simp) transitionKeys_spare

theorem Work.spares_beforeSafe (cause : Nat) : w.Spares (w.beforeSafe cause) := by
  have hshown : w.Spares (w.set Obj.safeCause cause) := w.spares_set _ (by decide)
  have hanswered := hshown.trans (Work.spares_set _ (k := Obj.cmdResult) 4 (by decide))
  exact (Work.Spares.ite hanswered hshown).trans ((Work.spares_secondaryLeaves _).trans (Work.spares_abortCals _ false))

theorem Work.spares_dropped (n : Nat) : w.Spares (w.dropCommands.endSpan n) := by
  have hdropped : w.Spares w.dropCommands := w.spares_run _
  refine hdropped.trans ?_
  unfold Work.endSpan
  split
  · exact Work.spares_run _ _
  · exact .refl _

variable {w} in
/-- The steps of the entry to SAFE, by the state before the commands are dropped and what is parked after. -/
theorem Work.enterSafe_eq (hopen : w.mode.dictOpen = true) (hne : w.mode ≠ .safe) (cause : Nat) :
    ∃ n, w.enterSafe cause = ((w.beforeSafe cause).dropCommands.endSpan n).parked.modeTo .safe 17 := ⟨_, if_neg (by simp [hopen, hne])⟩

theorem Work.spares_enterSafe (cause : Nat) : w.Spares (w.enterSafe cause) := by
  by_cases hstays : (!w.mode.dictOpen || w.mode == .safe) = true
  · rw [Work.enterSafe, if_pos hstays]
    exact .refl w
  · have hopen : w.mode.dictOpen = true ∧ w.mode ≠ .safe := by simpa using hstays
    obtain ⟨n, hsteps⟩ := Work.enterSafe_eq hopen.1 hopen.2 cause
    rw [hsteps]
    exact (w.spares_beforeSafe cause).trans <| (Work.spares_dropped _ n).trans <| (Work.spares_parked _).trans (Work.spares_modeTo _ _ _)

variable {w} in
/-- The latch of the shutdown stays over the entry to SAFE. -/
theorem Work.latch_enterSafe (hopen : w.mode.dictOpen = true) (hne : w.mode ≠ .safe) (cause : Nat) :
    (w.enterSafe cause).run.latch = w.run.latch := by
  have hanswered : ∀ b : Bool, (if b = true then (w.set Obj.safeCause cause).set Obj.cmdResult 4 else w.set Obj.safeCause cause).run = w.run := fun b => by
    cases b <;> rfl
  have hdropped : ∀ (u : Work) (n : Nat), (u.dropCommands.endSpan n).run.latch = u.run.latch := fun u n => by
    rw [Work.endSpan_run]
    rfl
  obtain ⟨n, hsteps⟩ := Work.enterSafe_eq hopen hne cause
  rw [hsteps, Work.modeTo_run, Work.run_of_modeView (Work.modeView_parked _), hdropped, Work.beforeSafe,
    Work.run_of_modeView (Work.modeView_abortCals _ _), Work.run_of_modeView (Work.modeView_secondaryLeaves _), hanswered]

end Sys2Proof.Machine
end

section
/-! Reference clocks and temperature (R522 to R527): a lost clock takes its links, and a reading moves the thermal state. -/
namespace Sys2Proof.Machine
variable (w : Work)

/-! ### SERDES_REFCLK_LOSS -/

/-- A lane with a signal has none once its reference clock is lost (R522). -/
def Work.laneUnclocked (w : Work) (l : Nat) : Work :=
  if lsCdr ≤ w.laneState l then w.dropLane l lsNoSignal (fun n => { eye := n.eye }) else w

theorem Work.within_laneUnclocked (l : Nat) : w.Within (w.laneUnclocked l) [.lanes] [Obj.state l, Obj.eyeStatus l] :=
  .ite ⟨w.only_dropLane l _ _, w.sameBut_dropLane l _ _⟩ (.refl w _ _)

theorem Work.laneState_laneUnclocked (l : Nat) :
    (w.laneUnclocked l).laneState l = if lsCdr ≤ w.laneState l then lsNoSignal else w.laneState l := by
  unfold Work.laneUnclocked
  split
  · exact w.laneState_dropLane l _ _
  · rfl

/-- The link of an Ethernet port falls. -/
def Work.ethDown (w : Work) (n : Nat) : Work := if w.get (Obj.ethLink n) = 0 then w else w.set (Obj.ethLink n) 0

theorem Work.within_ethDown (n : Nat) : w.Within (w.ethDown n) [] [Obj.ethLink n] := .ite (.refl w _ _) (w.within_set _ _)

theorem Work.get_ethDown (n : Nat) : (w.ethDown n).get (Obj.ethLink n) = 0 := by
  unfold Work.ethDown
  split
  next h => exact h
  · exact w.get_set_same _ _

theorem serdesRefclkLoss_eq : serdesRefclkLoss w =
    (upTo 4).foldl Work.ethDown ((upTo 128).foldl Work.laneUnclocked (w.flag Obj.clockFlags 2)) := rfl

theorem Work.get_lanesUnclocked {k : Nat} (hk : ∀ l, k ∉ [Obj.state l, Obj.eyeStatus l]) (n : Nat) :
    ((upTo n).foldl Work.laneUnclocked w).get k = w.get k :=
  List.foldlRecOn (motive := fun v : Work => v.get k = w.get k) _ _ rfl fun v hv l _ => ((v.within_laneUnclocked l).get (hk l)).trans hv

theorem Work.get_ethsDown {k : Nat} (hk : ∀ n, k ∉ [Obj.ethLink n]) (n : Nat) : ((upTo n).foldl Work.ethDown w).get k = w.get k :=
  List.foldlRecOn (motive := fun v : Work => v.get k = w.get k) _ _ rfl fun v hv i _ => ((v.within_ethDown i).get (hk i)).trans hv

theorem Work.laneState_lanesUnclocked {l : Nat} (hl : l < 128) : ((upTo 128).foldl Work.laneUnclocked w).laneState l =
    if lsCdr ≤ w.laneState l then lsNoSignal else w.laneState l := by
  refine Work.rel_foldl_upTo (key := Obj.state) (R := fun _ a b => b.toNat = if lsCdr ≤ a.toNat then lsNoSignal else a.toNat)
    (fun v s i hne => (v.within_laneUnclocked s).get ?_) (fun v s => v.laneState_laneUnclocked s) hl w
  simp only [Obj.state, Obj.eyeStatus, List.mem_cons, List.not_mem_nil, or_false]
  omega

theorem Work.get_ethLink_ethsDown {n : Nat} (hn : n < 4) : ((upTo 4).foldl Work.ethDown w).get (Obj.ethLink n) = 0 :=
  Work.rel_foldl_upTo (key := Obj.ethLink) (R := fun _ _ b => b = 0)
    (fun v s i hne => (v.within_ethDown s).get (by simpa using hne)) (fun v s => v.get_ethDown s) hn w

theorem Work.laneState_ethsDown (l n : Nat) : ((upTo n).foldl Work.ethDown w).laneState l = w.laneState l :=
  congrArg Int.toNat (w.get_ethsDown (by simp only [Obj.state, Obj.ethLink, List.mem_singleton]; omega) n)

theorem Work.only_lanesUnclocked (n : Nat) : w.only ((upTo n).foldl Work.laneUnclocked w) [.lanes] :=
  Work.only_foldl (upTo n) (fun x l _ => (x.within_laneUnclocked l).only) w

theorem Work.only_ethsDown (n : Nat) : w.only ((upTo n).foldl Work.ethDown w) [.lanes] :=
  Work.only_foldl (upTo n) (fun x i _ => Work.only_mono (x.within_ethDown i).only (by simp)) w

theorem Work.laneState_flag_clock (m l : Nat) : (w.flag Obj.clockFlags m).laneState l = w.laneState l :=
  congrArg Int.toNat ((w.within_flag _ m).get (by simp only [Obj.state, Obj.clockFlags, List.mem_singleton]; omega))

theorem serdesRefclkLoss_loses (s : State) : Does (.serdesRefclkLoss) s (fun t =>
    bitOf (t.getN Obj.clockFlags) 1 = true ∧ (∀ n : Fin 4, t.get (Obj.ethLink n) = 0) ∧
    (∀ l : Fin 128, t.laneState l = (if lsCdr ≤ s.w.laneState l then lsNoSignal else s.w.laneState l)) ∧ t.mode = s.w.mode ∧
    t.journal = s.w.journal ∧ t.hbm = s.w.hbm ∧ t.host = s.w.host) := by
  have hflag : (serdesRefclkLoss s.w).get Obj.clockFlags = (s.w.flag Obj.clockFlags 2).get Obj.clockFlags := by
    rw [serdesRefclkLoss_eq,
      Work.get_ethsDown _ (by simp only [Obj.clockFlags, Obj.ethLink, List.mem_singleton]; omega),
      Work.get_lanesUnclocked _ (by simp only [Obj.clockFlags, Obj.state, Obj.eyeStatus, List.mem_cons, List.not_mem_nil, or_false]; omega)]
  have honly : s.w.only (serdesRefclkLoss s.w) [.lanes] := by
    rw [serdesRefclkLoss_eq]
    exact Work.only_trans (s.w.only_flag _ _ _) (Work.only_trans (Work.only_lanesUnclocked _ 128) (Work.only_ethsDown _ 4))
  have hlinks : ∀ n : Fin 4, (serdesRefclkLoss s.w).get (Obj.ethLink n) = 0 := fun n => by
    rw [serdesRefclkLoss_eq, Work.get_ethLink_ethsDown _ n.isLt]
  refine does_of_onWork rfl ⟨?_, hlinks, fun l => ?_, honly .mode (by simp), honly .journal (by simp), honly .hbm (by simp),
    honly .host (by simp)⟩
  · rw [Work.getN, hflag]
    exact s.w.bitOf_flag Obj.clockFlags 1
  · rw [serdesRefclkLoss_eq, Work.laneState_ethsDown, Work.laneState_lanesUnclocked _ l.isLt, Work.laneState_flag_clock]

/-! ### PCIE_REFCLK_LOSS -/

/-- A ring stops with the link. -/
def Work.ringDown (w : Work) (r : Nat) : Work := if (w.ring r).enabled then w.ringOff r else w

theorem Work.within_ringDown (r : Nat) : w.Within (w.ringDown r) [.host, .timers] [] :=
  .ite (⟨Work.only_trans (Work.only_mono (w.only_updRing r _) (by simp)) (Work.only_mono (Work.only_stopTimer _ _) (by simp)), fun _ _ => rfl⟩)
    (.refl w _ _)

/-- A ring after its turn, and every other ring. -/
theorem Work.ring_ringDown (r q : Nat) : (w.ringDown r).ring q = if r = q then { w.ring q with enabled := false } else w.ring q := by
  have hoff : (w.ringOff r).ring q = (w.updRing r (fun g => { g with enabled := false })).ring q := rfl
  unfold Work.ringDown
  by_cases hrq : r = q
  · subst hrq
    rw [if_pos rfl]
    split
    next h => rw [hoff, w.ring_updRing, if_pos ⟨rfl, w.ring_lt_of_enabled h⟩]
    next h => rw [← Bool.not_eq_true _ |>.mp h]
  · rw [if_neg hrq]
    split
    · rw [hoff, w.ring_updRing, if_neg fun h => hrq h.1]
    · rfl

theorem Work.ring_ringsDown (n q : Nat) :
    ((upTo n).foldl Work.ringDown w).ring q = if q < n then { w.ring q with enabled := false } else w.ring q := by
  induction n with
  | zero => rfl
  | succ n ih =>
    rw [upTo, List.range_succ, List.foldl_append]
    refine (Work.ring_ringDown _ n q).trans ?_
    rw [show (List.foldl Work.ringDown w (List.range n)).ring q = _ from ih]
    by_cases hq : n = q
    · subst hq
      simp
    · rw [if_neg hq]
      congr 1
      exact propext (by omega)

theorem Work.linkUp_ringsDown (n : Nat) : ((upTo n).foldl Work.ringDown w).host.linkUp = w.host.linkUp := by
  refine List.foldlRecOn (motive := fun v : Work => v.host.linkUp = w.host.linkUp) (upTo n) Work.ringDown rfl fun v hv r _ => ?_
  unfold Work.ringDown
  split
  · exact hv
  · exact hv

theorem Work.within_ringsDown (n : Nat) : w.Within ((upTo n).foldl Work.ringDown w) [.host, .timers] [] :=
  .foldl (upTo n) (fun v r _ => v.within_ringDown r) w

/-- The link is down. -/
def Work.linkDown (w : Work) : Work := { w with host := { w.host with linkUp := false } }

theorem Work.within_linkDown : w.Within w.linkDown [.host, .timers] [] :=
  ⟨fun q hq => by cases q <;> simp [Part.same, Work.linkDown] at hq ⊢, fun _ _ => rfl⟩

theorem Work.within_setGroup_pcie (g : WriteGroup) : w.Within (w.setGroup .pcie g) [.groups] [Obj.wgGroupState 0, Obj.groupCount 0] := by
  refine Work.Within.trans (b := { w with d := { w.d with groupPcie := g } }) ⟨fun q hq => ?_, fun _ _ => rfl⟩
    (((Work.within_set _ (Obj.wgGroupState 0) _).comp (Work.within_set _ (Obj.groupCount 0) _)).mono (by simp) (by simp))
  cases q <;> simp [Part.same] at hq ⊢

theorem Work.within_setDt_idle : w.Within ({ w with d := { w.d with dt := {} } }) [.dt] [] :=
  ⟨fun q hq => by cases q <;> simp [Part.same] at hq ⊢, fun _ _ => rfl⟩

/-- With the link the group of PCIe and a transfer end. -/
def Work.linkWorkEnded (w : Work) : Work :=
  let v := w.dropGroup .pcie
  if v.d.dt.busy then ({ v with d := { v.d with dt := {} } }).set Obj.dtStatus 0 else v

theorem Work.pcieDown_eq : w.pcieDown = ((upTo 17).foldl Work.ringDown w.linkDown).linkWorkEnded := by
  have hturn : Work.ringDown = fun v r => if (v.ring r).enabled then v.ringOff r else v := rfl
  simp only [Work.pcieDown, Work.linkWorkEnded, Work.linkDown, hturn]

theorem Work.within_linkWorkEnded : w.Within w.linkWorkEnded [.groups, .dt] [Obj.wgGroupState 0, Obj.groupCount 0, Obj.dtStatus] := by
  have hgroup : w.Within (w.dropGroup .pcie) [.groups, .dt] [Obj.wgGroupState 0, Obj.groupCount 0, Obj.dtStatus] :=
    .ite ((Work.within_setGroup_pcie _ {}).mono (by simp) (by simp)) (.refl _ _ _)
  exact .ite (hgroup.trans (((Work.within_setDt_idle _).comp (Work.within_set _ Obj.dtStatus 0)).mono (by simp) (by simp))) hgroup

theorem Work.within_pcieDown : w.Within w.pcieDown [.host, .timers, .groups, .dt] [Obj.wgGroupState 0, Obj.groupCount 0, Obj.dtStatus] := by
  rw [w.pcieDown_eq]
  exact (w.within_linkDown.mono (by simp) (by simp)).trans <| ((Work.within_ringsDown _ 17).mono (by simp) (by simp)).trans
    ((Work.within_linkWorkEnded _).mono (by simp) (by simp))

theorem Work.host_pcieDown : w.pcieDown.host = ((upTo 17).foldl Work.ringDown w.linkDown).host := by
  rw [w.pcieDown_eq]
  exact (Work.within_linkWorkEnded _).same .host (by simp)

/-- The link is down, and no ring is enabled. -/
theorem Work.linkUp_pcieDown : w.pcieDown.host.linkUp = false := by rw [w.host_pcieDown, Work.linkUp_ringsDown]; rfl

theorem Work.ring_pcieDown {r : Nat} (hr : r < 17) : w.pcieDown.ring r = { w.ring r with enabled := false } := by
  rw [Work.ring, w.host_pcieDown]
  exact (Work.ring_ringsDown _ 17 r).trans (if_pos hr)

theorem pcieRefclkLoss_loses (s : State) : Does (.pcieRefclkLoss) s (fun t =>
    bitOf (t.getN Obj.clockFlags) 2 = true ∧ t.host.linkUp = false ∧ (s.w.host.linkUp = true → ∀ r : Fin 17, (t.ring r).enabled = false ∧
      (t.ring r).pi = (s.w.ring r).pi ∧ (t.ring r).ci = (s.w.ring r).ci) ∧ s.w.only t [.host, .timers, .groups, .dt]) := by
  let u := s.w.flag Obj.clockFlags 4
  have hflag : bitOf (u.getN Obj.clockFlags) 2 = true := s.w.bitOf_flag Obj.clockFlags 2
  refine does_of_onWork rfl ?_
  by_cases hup : s.w.host.linkUp = true
  · have hloss : pcieRefclkLoss s.w = u.pcieDown := if_pos hup
    have hdown := u.within_pcieDown
    rw [hloss]
    refine ⟨by rwa [hdown.getN (by decide)], u.linkUp_pcieDown, fun _ r => ?_, Work.only_trans (s.w.only_flag _ _ _) hdown.only⟩
    rw [u.ring_pcieDown r.isLt]
    exact ⟨rfl, rfl, rfl⟩
  · have hloss : pcieRefclkLoss s.w = u := if_neg hup
    rw [hloss]
    exact ⟨hflag, (Bool.not_eq_true _).mp hup, fun h => absurd h hup, s.w.only_flag _ _ _⟩

end Sys2Proof.Machine
end

section
/-! Temperature (R524 to R527): what a reading shows, the thermal states it moves, and the shutdown. -/
namespace Sys2Proof.Machine
variable (w : Work)

/-! ### A reading -/

theorem Work.running_stopTimer_other {t u : Timer} (h : u ≠ t) : (w.stopTimer t).running u = w.running u := by
  have hkept : ∀ e : Timer × Nat, (decide (e.1 ≠ t) && decide (e.1 = u)) = decide (e.1 = u) := fun e => by
    by_cases he : e.1 = u <;> simp [he, h]
  simp only [Work.running, Work.stopTimer, List.any_filter, hkept]

theorem Work.running_congr {a b : Work} (h : b.timers = a.timers) (t : Timer) : b.running t = a.running t := by rw [Work.running, h, Work.running]

/-- A transition stops and starts the timer of idle READY alone. -/
theorem Work.running_modeTo (m : Mode) (cause : Nat) {t : Timer} (ht : t ≠ .idle) : (w.modeTo m cause).running t = w.running t := by
  have htimers : (((w.showMode m cause).raise 2).msix 1).timers = w.timers :=
    (Work.only_msix _ 1 .timers (by simp)).trans ((Work.only_raise _ 2 .timers (by simp)).trans (w.only_showMode m cause .timers (by simp)))
  rw [w.modeTo_eq, Work.running_idleBegin _ ht, Work.running_stopTimer_other _ ht, Work.running_congr htimers]

theorem Work.within_power (p : Power) : w.Within { w with power := p } [.power] [] :=
  ⟨fun q hq => by cases q <;> simp [Part.same] at hq ⊢, fun _ _ => rfl⟩

/-- The state in which the highest temperature is known, and whether it was at the limit once more; the next reading is timed (R524, R527, R533). -/
def Work.measured (w : Work) (tj : Int) : Work :=
  (({ w with power := { w.power with tj := tj, hot := if decide (w.get Obj.tjShutdown ≤ tj) then w.power.hot + 1 else 0 } }).startTimer .thermal).lifeTick tj

theorem Work.within_measured (tj : Int) : w.Within (w.measured tj) [.power, .timers] [Obj.lifeEquiv, Obj.opHours] :=
  ((w.within_power _).mono (by simp) (by simp)).trans <| ((Work.within_startTimer _ .thermal).mono (by simp) (by simp)).trans <|
    ((Work.within_power _ _).mono (by simp) (by simp)).trans <| ((Work.within_bump _ Obj.lifeEquiv _).mono (by simp) (by simp)).trans
      ((Work.within_bump _ Obj.opHours _).mono (by simp) (by simp))

theorem Work.running_measured (tj : Int) : (w.measured tj).running .thermal = true := Work.running_startTimer _ .thermal

theorem Work.power_measured (tj : Int) : (w.measured tj).power.tj = tj ∧
    (w.measured tj).power.hot = if w.get Obj.tjShutdown ≤ tj then w.power.hot + 1 else 0 := by
  by_cases h : w.get Obj.tjShutdown ≤ tj
  · exact ⟨rfl, by simp only [Work.measured, Work.lifeTick, decide_eq_true h, if_pos h]; rfl⟩
  · exact ⟨rfl, by simp only [Work.measured, Work.lifeTick, decide_eq_false h, if_neg h]; rfl⟩

/-- The temperatures are shown, with the highest of all. -/
def Work.showTemps (w : Work) (d0 d1 d2 d3 h tj : Int) : Work :=
  let v := ([d0, d1, d2, d3].zipIdx.foldl (fun (w : Work) e => w.set (Obj.tjPd e.2) e.1) (w.set Obj.tj tj)).set Obj.tjHub h
  if v.get Obj.tjPeak < tj then v.set Obj.tjPeak tj else v

/-- The four pixel dies are shown one by one. -/
theorem Work.showDies (d0 d1 d2 d3 : Int) : [d0, d1, d2, d3].zipIdx.foldl (fun (w : Work) e => w.set (Obj.tjPd e.2) e.1) w =
    (((w.set (Obj.tjPd 0) d0).set (Obj.tjPd 1) d1).set (Obj.tjPd 2) d2).set (Obj.tjPd 3) d3 := rfl

/-- The objects of the temperatures. -/
abbrev tempKeys : List Nat := [Obj.tj, Obj.tjPd 0, Obj.tjPd 1, Obj.tjPd 2, Obj.tjPd 3, Obj.tjHub, Obj.tjPeak]

section
variable (d0 d1 d2 d3 h tj : Int)

theorem Work.get_showTemps (k : Nat) : (w.showTemps d0 d1 d2 d3 h tj).get k =
    if k = Obj.tjPeak then max (w.get Obj.tjPeak) tj else if k = Obj.tjHub then h else if k = Obj.tjPd 3 then d3 else if k = Obj.tjPd 2 then d2
    else if k = Obj.tjPd 1 then d1 else if k = Obj.tjPd 0 then d0 else if k = Obj.tj then tj else w.get k := by
  have hpeak : ((((((w.set Obj.tj tj).set (Obj.tjPd 0) d0).set (Obj.tjPd 1) d1).set (Obj.tjPd 2) d2).set (Obj.tjPd 3) d3).set Obj.tjHub h).get
      Obj.tjPeak = w.get Obj.tjPeak := by
    simp only [Work.get_set]
    rfl
  unfold Work.showTemps
  dsimp only
  rw [Work.showDies, hpeak]
  by_cases hlt : w.get Obj.tjPeak < tj
  · rw [if_pos hlt, max_eq_right hlt.le]
    simp only [Work.get_set, eq_comm (b := k)]
  · rw [if_neg hlt, max_eq_left (not_lt.mp hlt)]
    by_cases hk : k = Obj.tjPeak
    · rw [if_pos hk, hk, hpeak]
    · rw [if_neg hk]
      simp only [Work.get_set, eq_comm (b := k)]

theorem Work.within_showTemps : w.Within (w.showTemps d0 d1 d2 d3 h tj) [] tempKeys := by
  refine ⟨?_, fun k hk => ?_⟩
  · have hset := Work.only_trans (w.only_set Obj.tj tj []) <| Work.only_trans (Work.only_set _ (Obj.tjPd 0) d0 []) <|
      Work.only_trans (Work.only_set _ (Obj.tjPd 1) d1 []) <| Work.only_trans (Work.only_set _ (Obj.tjPd 2) d2 []) <|
      Work.only_trans (Work.only_set _ (Obj.tjPd 3) d3 []) (Work.only_set _ Obj.tjHub h [])
    unfold Work.showTemps
    dsimp only
    rw [Work.showDies]
    split
    · exact Work.only_trans hset (Work.only_set _ _ _ _)
    · exact hset
  · simp only [List.mem_cons, List.not_mem_nil, or_false, not_or] at hk
    obtain ⟨htj, h0, h1, h2, h3, hhub, hpeak⟩ := hk
    rw [w.get_showTemps, if_neg hpeak, if_neg hhub, if_neg h3, if_neg h2, if_neg h1, if_neg h0, if_neg htj]

end

theorem Work.within_coldFlag (tj : Int) : w.Within (w.coldFlag tj) [] [Obj.thermFlags] :=
  .ite (w.within_flag _ _) (.ite (w.within_unflag _ _) (.refl w _ _))

/-- The highest temperature of a reading. -/
abbrev highest (d0 d1 d2 d3 h : BitVec 32) : Int := [d0.toInt, d1.toInt, d2.toInt, d3.toInt].foldl max h.toInt

/-- A reading with all it shows, before the thermal state follows. -/
def Work.sensed (w : Work) (d0 d1 d2 d3 h : BitVec 32) : Work :=
  ((w.measured (highest d0 d1 d2 d3 h)).showTemps d0.toInt d1.toInt d2.toInt d3.toInt h.toInt (highest d0 d1 d2 d3 h)).coldFlag (highest d0 d1 d2 d3 h)

section
variable {w} {d0 d1 d2 d3 h : BitVec 32}

theorem thermalReading_eq (hrails : w.power.rails = true) (htime : w.expired .thermal 100000 = true) (hopen : w.mode.dictOpen = true) :
    thermalReading d0 d1 d2 d3 h w = (w.sensed d0 d1 d2 d3 h).thermalState (highest d0 d1 d2 d3 h) := by
  have hmode : (w.measured (highest d0 d1 d2 d3 h)).mode = w.mode := (w.within_measured _).same .mode (by simp)
  have hearly : ¬(!w.power.rails || (w.running .thermal && !w.expired .thermal 100000)) = true := by simp [hrails, htime]
  have hopen' : ¬(!(w.measured (highest d0 d1 d2 d3 h)).mode.dictOpen) = true := by rw [hmode, hopen]; decide
  exact (if_neg hearly).trans (if_neg hopen')

variable (w d0 d1 d2 d3 h)

theorem Work.within_sensed : w.Within (w.sensed d0 d1 d2 d3 h) [.power, .timers]
    ([Obj.lifeEquiv, Obj.opHours] ++ (tempKeys ++ [Obj.thermFlags])) :=
  (w.within_measured _).comp ((Work.within_showTemps _ _ _ _ _ _ _).comp (Work.within_coldFlag _ _))

/-- What a reading shows of the temperatures. -/
theorem Work.sensed_shows : (w.sensed d0 d1 d2 d3 h).get Obj.tj = highest d0 d1 d2 d3 h ∧ (w.sensed d0 d1 d2 d3 h).get (Obj.tjPd 0) = d0.toInt ∧
    (w.sensed d0 d1 d2 d3 h).get (Obj.tjPd 3) = d3.toInt ∧ (w.sensed d0 d1 d2 d3 h).get Obj.tjHub = h.toInt ∧
    (w.sensed d0 d1 d2 d3 h).get Obj.tjPeak = max (w.get Obj.tjPeak) (highest d0 d1 d2 d3 h) := by
  have hcold : ∀ k ∈ tempKeys, (w.sensed d0 d1 d2 d3 h).get k =
      ((w.measured (highest d0 d1 d2 d3 h)).showTemps d0.toInt d1.toInt d2.toInt d3.toInt h.toInt (highest d0 d1 d2 d3 h)).get k := fun k hk =>
    (Work.within_coldFlag _ _).get (by rintro hmem; rw [List.mem_singleton.mp hmem] at hk; exact absurd hk (by decide))
  have hmeasured := (w.within_measured (highest d0 d1 d2 d3 h)).get (k := Obj.tjPeak) (by decide)
  refine ⟨?_, ?_, ?_, ?_, ?_⟩
  · exact (hcold _ (by decide)).trans (Work.get_showTemps ..)
  · exact (hcold _ (by decide)).trans (Work.get_showTemps ..)
  · exact (hcold _ (by decide)).trans (Work.get_showTemps ..)
  · exact (hcold _ (by decide)).trans (Work.get_showTemps ..)
  · rw [← hmeasured]
    exact (hcold _ (by decide)).trans (Work.get_showTemps ..)

/-- What a reading leaves in the power, with the next reading timed. -/
theorem Work.sensed_power : (w.sensed d0 d1 d2 d3 h).power.tj = highest d0 d1 d2 d3 h ∧
    (w.sensed d0 d1 d2 d3 h).power.hot = (if w.get Obj.tjShutdown ≤ highest d0 d1 d2 d3 h then w.power.hot + 1 else 0) ∧
    (w.sensed d0 d1 d2 d3 h).running .thermal = true := by
  have hshown : (w.measured (highest d0 d1 d2 d3 h)).only (w.sensed d0 d1 d2 d3 h) [] :=
    Work.only_trans (Work.within_showTemps _ _ _ _ _ _ _).only (Work.within_coldFlag _ _).only
  have hpower : (w.sensed d0 d1 d2 d3 h).power = (w.measured (highest d0 d1 d2 d3 h)).power := hshown .power (by simp)
  obtain ⟨htj, hhot⟩ := w.power_measured (highest d0 d1 d2 d3 h)
  rw [hpower]
  exact ⟨htj, hhot, (Work.running_congr (hshown .timers (by simp)) _).trans (w.running_measured _)⟩

end

/-! ### Thermal states -/

/-- The thermal state moves: its object and its flags, the return to INSPECT and the loss of capacity; the reading stays. -/
structure Work.MovesThermal (a b : Work) : Prop where
  within : a.Within b [.mode, .router, .timers, .host, .sent, .run, .power] ([Obj.thermState, Obj.thermFlags] ++ transitionKeys)
  tj : b.power.tj = a.power.tj
  hot : b.power.hot = a.power.hot
  timed : b.running .thermal = a.running .thermal

/-- What changes neither the timers nor the power. -/
theorem Work.Within.movesThermal {a b : Work} {ps : List Part} {ks : List Nat} (h : a.Within b ps ks) (hps : ps ⊆ [.mode, .router, .host, .sent, .run])
    (hks : ks ⊆ [Obj.thermState, Obj.thermFlags] ++ transitionKeys) : a.MovesThermal b := by
  have hkept : ∀ q ∈ [Part.power, .timers], q ∉ ps := fun q hq hmem => by
    have := hps hmem
    simp only [List.mem_cons, List.not_mem_nil, or_false] at hq this
    rcases hq with rfl | rfl <;> simp at this
  have hpower : b.power = a.power := h.same .power (hkept _ (by simp))
  refine ⟨h.mono (fun q hq => ?_) hks, by rw [hpower], by rw [hpower], Work.running_congr (h.same .timers (hkept _ (by simp))) _⟩
  have := hps hq
  simp only [List.mem_cons, List.not_mem_nil, or_false] at this ⊢
  tauto

section
variable {a b c : Work}

theorem Work.MovesThermal.refl (a : Work) : a.MovesThermal a := ⟨.refl a _ _, rfl, rfl, rfl⟩

theorem Work.MovesThermal.trans (hab : a.MovesThermal b) (hbc : b.MovesThermal c) : a.MovesThermal c :=
  ⟨hab.within.trans hbc.within, hbc.tj.trans hab.tj, hbc.hot.trans hab.hot, hbc.timed.trans hab.timed⟩

theorem Work.MovesThermal.ite {p : Prop} [Decidable p] (hb : a.MovesThermal b) (hc : a.MovesThermal c) : a.MovesThermal (if p then b else c) := by
  split
  · exact hb
  · exact hc

end

theorem Work.movesThermal_power {p : Power} (htj : p.tj = w.power.tj) (hhot : p.hot = w.power.hot) : w.MovesThermal { w with power := p } :=
  ⟨(w.within_power p).mono (by simp) (by simp), htj, hhot, rfl⟩

theorem Work.movesThermal_set (st : Int) : w.MovesThermal (w.set Obj.thermState st) := (w.within_set _ st).movesThermal (by simp) (by simp)

theorem Work.movesThermal_flag (m : Nat) : w.MovesThermal (w.flag Obj.thermFlags m) := (w.within_flag _ m).movesThermal (by simp) (by simp)

theorem Work.movesThermal_lossRecorded (c : Cap) : w.MovesThermal (w.lossRecorded c) :=
  Work.Within.movesThermal (ps := [.run]) (ks := []) ⟨w.only_lossRecorded c, fun _ _ => rfl⟩ (by simp) (by simp)

theorem Work.movesThermal_loseCapacity (c : Cap) : w.MovesThermal (w.loseCapacity c) := by
  have hmode : (w.lossRecorded c).MovesThermal ((w.lossRecorded c).modeTo .degraded 12) :=
    ⟨Work.Within.mono ⟨Work.only_modeTo _ _ _, Work.sameBut_modeTo _ _ _⟩ (by simp) (by simp), congrArg Power.tj (Work.only_modeTo _ _ _ .power (by simp)),
      congrArg Power.hot (Work.only_modeTo _ _ _ .power (by simp)), Work.running_modeTo _ _ _ (by simp)⟩
  rw [w.loseCapacity_eq]
  exact .ite ((w.movesThermal_lossRecorded c).trans hmode) (w.movesThermal_lossRecorded c)

/-- The thermal state and the power as throttling begins, before the capacity is lost (R526). -/
def Work.throttling (w : Work) : Work :=
  let v := (w.set Obj.thermState 2).flag Obj.thermFlags 2
  { v with power := { v.power with throttle := (v.frame + 1, true) :: v.power.throttle, coolSince := none } }

theorem Work.throttleOn_eq : w.throttleOn = w.throttling.loseCapacity .thermal := rfl

theorem Work.movesThermal_throttling : w.MovesThermal w.throttling :=
  (w.movesThermal_set 2).trans ((Work.movesThermal_flag _ 2).trans (Work.movesThermal_power _ rfl rfl))

theorem Work.movesThermal_throttleOn : w.MovesThermal w.throttleOn := by
  rw [w.throttleOn_eq]
  exact w.movesThermal_throttling.trans (Work.movesThermal_loseCapacity _ _)

/-- The thermal state and the power as throttling ends, before the capacity returns (R525, R526). -/
def Work.cooled (w : Work) (tj : Int) : Work :=
  let v := if decide (w.get Obj.tjWarn - degrees 3 < tj) then (w.set Obj.thermState 1).flag Obj.thermFlags 1 else w.set Obj.thermState 0
  { v with power := { v.power with throttle := (v.frame + 1, false) :: v.power.throttle, coolSince := none } }

theorem Work.throttleOff_eq (tj : Int) : w.throttleOff tj = (w.cooled tj).returnCapacity .thermal := rfl

theorem Work.movesThermal_cooled (tj : Int) : w.MovesThermal (w.cooled tj) := by
  have hstate := Work.MovesThermal.ite (p := decide (w.get Obj.tjWarn - degrees 3 < tj) = true) ((w.movesThermal_set 1).trans (Work.movesThermal_flag _ 1))
    (w.movesThermal_set 0)
  exact hstate.trans (Work.movesThermal_power _ rfl rfl)

theorem Work.movesThermal_throttleOff (tj : Int) : w.MovesThermal (w.throttleOff tj) := by
  rw [w.throttleOff_eq]
  exact (w.movesThermal_cooled tj).trans <| Work.Within.movesThermal (ps := [.run]) (ks := [])
    ⟨Work.only_returnCapacity _ .thermal, fun k _ => Work.get_returnCapacity _ .thermal k⟩ (by simp) (by simp)

theorem Work.movesThermal_thermalState (tj : Int) : w.MovesThermal (w.thermalState tj) := by
  unfold Work.thermalState
  refine .ite (.refl w) (.ite (.ite (w.movesThermal_power rfl rfl) ?_) (.ite w.movesThermal_throttleOn
    (.ite ((w.movesThermal_set 1).trans (Work.movesThermal_flag _ 1)) (.ite (w.movesThermal_set 0) (.refl w)))))
  split
  · exact w.movesThermal_power rfl rfl
  · exact .ite (w.movesThermal_throttleOff tj) (.refl w)

/-- Throttling begins: THERM_STATE 2 with its flag, and capacity is lost at once (R526). -/
theorem Work.throttleOn_shows : w.throttleOn.get Obj.thermState = 2 ∧ bitOf (w.throttleOn.getN Obj.thermFlags) 1 = true ∧
    w.throttleOn.mode = if w.mode = .inspect then .degraded else w.mode := by
  have hstate : w.throttling.get Obj.thermState = 2 := by
    change ((w.set Obj.thermState 2).flag Obj.thermFlags 2).get Obj.thermState = 2
    rw [Work.get_flag, if_neg (by decide), Work.get_set_same]
  have hflag : bitOf (w.throttling.getN Obj.thermFlags) 1 = true := (w.set Obj.thermState 2).bitOf_flag Obj.thermFlags 1
  have htransition : ∀ k, k ∉ transitionKeys → ((w.throttling.lossRecorded .thermal).modeTo .degraded 12).get k = w.throttling.get k := fun k hk =>
    Work.sameBut_modeTo _ _ _ k hk
  have hmode : w.throttling.mode = w.mode := rfl
  rw [w.throttleOn_eq, Work.loseCapacity_eq, hmode]
  split
  · exact ⟨(htransition _ (by decide)).trans hstate, by rwa [Work.getN, htransition _ (by decide)], Work.modeTo_mode _ _ _⟩
  · exact ⟨hstate, hflag, hmode⟩

/-- In SHUTDOWN a reading moves nothing. -/
theorem Work.thermalState_of_shutdown (h : w.get Obj.thermState = 3) (tj : Int) : w.thermalState tj = w := if_pos h

theorem Work.thermalState_of_hot {tj : Int} (h2 : w.get Obj.thermState ≠ 2) (h3 : w.get Obj.thermState ≠ 3) (hhot : w.get Obj.tjThrottle ≤ tj) :
    w.thermalState tj = w.throttleOn := by
  unfold Work.thermalState
  rw [if_neg h3, if_neg h2, if_pos hhot]

/-- Below throttling a reading moves NORMAL to WARM or nothing. -/
theorem Work.thermalState_of_normal {tj : Int} (h0 : w.get Obj.thermState = 0) (hcool : tj < w.get Obj.tjThrottle) :
    w.thermalState tj = if w.get Obj.tjWarn ≤ tj then (w.set Obj.thermState 1).flag Obj.thermFlags 1 else w := by
  unfold Work.thermalState
  simp [h0, not_le.mpr hcool]

/-- A reading that is due shows every temperature and moves the thermal state. -/
theorem thermalReading_reads {s : State} {d0 d1 d2 d3 h : BitVec 32} (hrails : s.w.power.rails = true) (htime : s.w.expired .thermal 100000 = true)
    (hopen : s.w.mode.dictOpen = true) : Does (.thermalReading d0 d1 d2 d3 h) s (fun t =>
    t.get Obj.tj = highest d0 d1 d2 d3 h ∧ t.power.tj = highest d0 d1 d2 d3 h ∧ t.get (Obj.tjPd 0) = d0.toInt ∧ t.get (Obj.tjPd 3) = d3.toInt ∧
    t.get Obj.tjHub = h.toInt ∧ t.get Obj.tjPeak = max (s.w.get Obj.tjPeak) (highest d0 d1 d2 d3 h) ∧ t.running .thermal = true ∧
    t.journal = s.w.journal ∧ t.power.hot = (if s.w.get Obj.tjShutdown ≤ highest d0 d1 d2 d3 h then s.w.power.hot + 1 else 0) ∧
    (s.w.get Obj.thermState = 3 → t.get Obj.thermState = 3) ∧
    (s.w.get Obj.thermState ≠ 2 → s.w.get Obj.thermState ≠ 3 → s.w.get Obj.tjThrottle ≤ highest d0 d1 d2 d3 h →
      t.get Obj.thermState = 2 ∧ bitOf (t.getN Obj.thermFlags) 1 = true ∧ t.mode = (if s.w.mode = .inspect then .degraded else s.w.mode)) ∧
    (s.w.get Obj.thermState = 0 → highest d0 d1 d2 d3 h < s.w.get Obj.tjThrottle → t.mode = s.w.mode ∧
      t.get Obj.thermState = (if s.w.get Obj.tjWarn ≤ highest d0 d1 d2 d3 h then 1 else 0) ∧ s.w.only t [.power, .timers] ∧
      s.w.sameBut t [Obj.tj, Obj.tjPd 0, Obj.tjPd 1, Obj.tjPd 2, Obj.tjPd 3, Obj.tjHub, Obj.tjPeak, Obj.thermState, Obj.thermFlags, Obj.lifeEquiv,
        Obj.opHours])) := by
  have hsensed := s.w.within_sensed d0 d1 d2 d3 h
  obtain ⟨htj, hd0, hd3, hhub, hpeak⟩ := s.w.sensed_shows d0 d1 d2 d3 h
  obtain ⟨hptj, hphot, htimed⟩ := s.w.sensed_power d0 d1 d2 d3 h
  refine does_of_onWork rfl ?_
  rw [thermalReading_eq hrails htime hopen]
  generalize s.w.sensed d0 d1 d2 d3 h = u at *
  generalize highest d0 d1 d2 d3 h = tj at *
  have hstate : u.get Obj.thermState = s.w.get Obj.thermState := hsensed.get (by decide)
  have hthrottle : u.get Obj.tjThrottle = s.w.get Obj.tjThrottle := hsensed.get (by decide)
  have hwarn : u.get Obj.tjWarn = s.w.get Obj.tjWarn := hsensed.get (by decide)
  have hmode : u.mode = s.w.mode := hsensed.same .mode (by simp)
  have hjournal : u.journal = s.w.journal := hsensed.same .journal (by simp)
  have hmoves := u.movesThermal_thermalState tj
  refine ⟨(hmoves.within.get (by decide)).trans htj, hmoves.tj.trans hptj, (hmoves.within.get (by decide)).trans hd0,
    (hmoves.within.get (by decide)).trans hd3, (hmoves.within.get (by decide)).trans hhub, (hmoves.within.get (by decide)).trans hpeak,
    hmoves.timed.trans htimed, (hmoves.within.same .journal (by simp)).trans hjournal, hmoves.hot.trans hphot, fun h3 => ?_, fun h2 h3 hhot => ?_,
    fun h0 hcool => ?_⟩
  · rw [u.thermalState_of_shutdown (hstate.trans h3), hstate, h3]
  · rw [u.thermalState_of_hot (by rwa [hstate]) (by rwa [hstate]) (by rwa [hthrottle]), ← hmode]
    exact u.throttleOn_shows
  · rw [u.thermalState_of_normal (hstate.trans h0) (by rwa [hthrottle]), hwarn]
    have hwarm := (u.within_set Obj.thermState 1).comp (Work.within_flag _ Obj.thermFlags 1)
    split
    · refine ⟨hmode, ?_, Work.only_trans hsensed.only (Work.only_mono hwarm.only (by simp)), ?_⟩
      · rw [Work.get_flag, if_neg (by decide), Work.get_set_same]
      · exact Work.sameBut_trans (Work.sameBut_mono hsensed.sameBut (by simp)) (Work.sameBut_mono hwarm.sameBut (by simp))
    · exact ⟨hmode, hstate.trans h0, hsensed.only, Work.sameBut_mono hsensed.sameBut (by simp)⟩

/-! ### Shutdown -/

/-- The latch of the shutdown is set (R527). -/
def Work.latched (w : Work) : Work := { w with run := { w.run with latch := true } }

theorem thermalShutdown_shuts {s : State} (hhot : 2 ≤ s.w.power.hot) (hlatch : s.w.run.latch = false) (hopen : s.w.mode.dictOpen = true) :
    Does (.thermalShutdown) s (fun t => t.run.latch = true ∧ t.get Obj.thermState = 3 ∧ bitOf (t.getN Obj.thermFlags) 2 = true ∧ t.mode = .safe ∧
      (s.w.mode ≠ .safe → t.entered .safe 17 ∧ t.get Obj.safeCause = 1) ∧ t.power = s.w.power ∧ t.journal = s.w.journal) := by
  let v := (s.w.latched.set Obj.thermState 3).flag Obj.thermFlags 4
  have hshut : thermalShutdown s.w = v.enterSafe 1 := (if_neg (by simpa [hlatch] using Nat.lt_of_succ_le hhot)).trans (if_pos hopen)
  have hspares := v.spares_enterSafe 1
  have hstate : v.get Obj.thermState = 3 := by
    rw [Work.get_flag, if_neg (by decide), Work.get_set_same]
  have hflag : bitOf (v.getN Obj.thermFlags) 2 = true := Work.bitOf_flag _ Obj.thermFlags 2
  refine does_of_onWork rfl ?_
  rw [hshut]
  have hmode : (v.enterSafe 1).mode = .safe ∧ (v.enterSafe 1).run.latch = true ∧
      (s.w.mode ≠ .safe → (v.enterSafe 1).entered .safe 17 ∧ (v.enterSafe 1).get Obj.safeCause = 1) := by
    by_cases hsafe : s.w.mode = .safe
    · rw [show v.enterSafe 1 = v from if_pos (by simp [show v.mode = .safe from hsafe])]
      exact ⟨hsafe, rfl, fun hne => absurd hsafe hne⟩
    · obtain ⟨hentered, hcause, -⟩ := Work.inSafe_enterSafe (w := v) hopen hsafe 1
      exact ⟨hentered.1, Work.latch_enterSafe (w := v) hopen hsafe 1, fun _ => ⟨hentered, hcause⟩⟩
  obtain ⟨hmode, hlatched, hentered⟩ := hmode
  exact ⟨hlatched, (hspares.objs _ (by decide)).trans hstate, by rwa [Work.getN, hspares.objs _ (by decide)], hmode, hentered,
    hspares.power, hspares.journal⟩

/-- Settles O60: a lost clock is a fold over its lanes and links, a reading moves the thermal state after all is shown, and SAFE spares the heat. -/
theorem clocksAndHeatAreWatched : Obligations.ClocksAndHeatAreWatched :=
  ⟨fun s => serdesRefclkLoss_loses s, fun s => pcieRefclkLoss_loses s,
    fun _ _ _ _ _ _ hrails _ htime hopen => thermalReading_reads hrails htime hopen,
    fun _ hhot hlatch hopen => thermalShutdown_shuts hhot hlatch hopen⟩

end Sys2Proof.Machine
end

section
/-! Supplies (R515 to R519): an input's new level, the switch between the inputs, the loss of both, and a supply out of its range. -/
namespace Sys2Proof.Machine
variable (w : Work)

/-! ### The counts of the supplies -/

theorem Work.within_timeWhile (t : Timer) (on : Bool) : w.Within (w.timeWhile t on) [.timers] [] :=
  .ite (w.within_stopTimer t) (.ite (.refl w _ _) (w.within_startTimer t))

theorem Work.within_supplyTimers : w.Within w.supplyTimers [.timers] [] :=
  (w.within_timeWhile .vinRange _).trans <| (Work.within_timeWhile _ .returnA _).trans <| (Work.within_timeWhile _ .supplyRange _).trans
    (Work.within_timeWhile _ .holdup _)

/-! ### The switch -/

/-- What a switch between the inputs shows. -/
abbrev switchKeys : List Nat := [Obj.supplyInUse, Obj.switchovers, Obj.supplyFlags]

/-- The input in use is shown with its switch, before the counts start anew (R516). -/
def Work.switched (w : Work) (b : Bool) : Work :=
  ((w.set Obj.supplyInUse (if b then 1 else 0)).bump Obj.switchovers).flag Obj.supplyFlags (if b then 1 else 2)

theorem Work.switchTo_eq (b : Bool) :
    w.switchTo b = ((((w.switched b).stopTimer .vinRange).stopTimer .returnA).stopTimer .supplyRange).supplyTimers := rfl

theorem Work.within_switched (b : Bool) : w.Within (w.switched b) [] switchKeys :=
  (w.within_set Obj.supplyInUse _).comp ((Work.within_bump _ Obj.switchovers 1).comp (Work.within_flag _ Obj.supplyFlags _))

theorem Work.within_switchTimers (b : Bool) : (w.switched b).Within (w.switchTo b) [.timers] [] := by
  rw [w.switchTo_eq]
  exact (Work.within_stopTimer _ .vinRange).trans <| (Work.within_stopTimer _ .returnA).trans <| (Work.within_stopTimer _ .supplyRange).trans
    (Work.within_supplyTimers _)

theorem Work.within_switchTo (b : Bool) : w.Within (w.switchTo b) [.timers] switchKeys :=
  ((w.within_switched b).mono (by simp) (by simp)).trans ((w.within_switchTimers b).mono (by simp) (by simp))

/-- A switch shows the input, counts, and sets the flag of its direction. -/
theorem Work.switchTo_shows (b : Bool) : (w.switchTo b).get Obj.supplyInUse = (if b = true then 1 else 0) ∧
    (w.switchTo b).get Obj.switchovers = min (w.get Obj.switchovers + 1) 0xFFFFFFFF ∧
    bitOf ((w.switchTo b).getN Obj.supplyFlags) (if b = true then 0 else 1) = true := by
  have hkept : ∀ k, (w.switchTo b).get k = (w.switched b).get k := fun k => (w.within_switchTimers b).get (by simp)
  refine ⟨?_, ?_, ?_⟩
  · rw [hkept, Work.switched, Work.get_flag, if_neg (by decide), Work.get_bump, if_neg (by decide), Work.get_set_same]
  · rw [hkept, Work.switched, Work.get_flag, if_neg (by decide), Work.get_bump, if_pos rfl, Work.get_set_other _ _ _ _ (by decide)]
    rfl
  · rw [Work.getN, hkept]
    cases b
    · exact Work.bitOf_flag _ Obj.supplyFlags 1
    · exact Work.bitOf_flag _ Obj.supplyFlags 0

/-! ### A level of an input -/

/-- The object of an input's level. -/
abbrev vinKey (b : Bool) : Nat := if b then Obj.vinBMv else Obj.vinAMv

/-- The power with the judgement of an input. -/
abbrev Power.judged (p : Power) (b good : Bool) (mv : Nat) : Power :=
  if b then { p with goodB := good, rangeB := inRange mv } else { p with goodA := good, rangeA := inRange mv }

/-- The level of an input is shown and judged, before the supply in use follows (R515). -/
def Work.levelShown (w : Work) (b : Bool) (mv : Nat) : Work :=
  let old := w.power
  let good := goodAfter (old.good b) mv
  let w := w.set (if b then Obj.vinBMv else Obj.vinAMv) mv
  let w := { w with power := if b then { old with goodB := good, rangeB := inRange mv } else { old with goodA := good, rangeA := inRange mv } }
  let w := if b && old.goodB && !good then w.flag Obj.supplyFlags 4 else w
  if w.onB == b && old.ranged b && !inRange mv then w.flag Obj.supplyFlags 8 else w

section
variable (b : Bool) (mv : Nat)

theorem Work.vinLevel_eq : w.vinLevel b mv =
    if (!w.power.rails && !w.power.goodA && !w.power.goodB && goodAfter (w.power.good b) mv) = true then
      ((w.levelShown b mv).set Obj.supplyInUse (if b then 1 else 0)).supplyTimers
    else if (!(w.levelShown b mv).power.good (w.levelShown b mv).onB && (w.levelShown b mv).power.good (!(w.levelShown b mv).onB)) = true then
      (w.levelShown b mv).switchTo (!(w.levelShown b mv).onB)
    else (w.levelShown b mv).supplyTimers := rfl

theorem Work.within_levelShown : w.Within (w.levelShown b mv) [.power] [vinKey b, Obj.supplyFlags] := by
  have hjudged : w.Within { (w.set (vinKey b) mv) with power := w.power.judged b (goodAfter (w.power.good b) mv) mv } [.power] [vinKey b] :=
    ((w.within_set _ _).mono (by simp) (by simp)).trans ((Work.within_power _ _).mono (by simp) (by simp))
  have hflag : ∀ (v : Work) (p : Prop) [Decidable p] (m : Nat), v.Within (if p then v.flag Obj.supplyFlags m else v) [.power] [vinKey b, Obj.supplyFlags] :=
    fun v p _ m => .ite ((v.within_flag _ m).mono (by simp) (by simp)) (.refl v _ _)
  exact ((hjudged.mono (by simp) (by simp)).trans (hflag _ _ 4)).trans (hflag _ _ 8)

theorem Work.levelShown_shows : (w.levelShown b mv).get (vinKey b) = mv ∧
    (w.levelShown b mv).power = w.power.judged b (goodAfter (w.power.good b) mv) mv := by
  have hkey : Obj.supplyFlags ≠ vinKey b := by cases b <;> decide
  have hflag : ∀ (v : Work) (p : Prop) [Decidable p] (m : Nat),
      (if p then v.flag Obj.supplyFlags m else v).get (vinKey b) = v.get (vinKey b) ∧ (if p then v.flag Obj.supplyFlags m else v).power = v.power :=
    fun v p _ m => by split <;> simp [Work.get_flag, hkey]
  refine ⟨(hflag _ _ 8).1.trans ((hflag _ _ 4).1.trans (w.get_set_same _ _)), (hflag _ _ 8).2.trans (hflag _ _ 4).2⟩

theorem Work.onB_levelShown : (w.levelShown b mv).onB = w.onB := by
  have hkey : Obj.supplyInUse ∉ [vinKey b, Obj.supplyFlags] := by cases b <;> decide
  rw [Work.onB, (w.within_levelShown b mv).get hkey, Work.onB]

theorem Work.within_vinLevel : w.Within (w.vinLevel b mv) [.power, .timers] [vinKey b, Obj.supplyInUse, Obj.switchovers, Obj.supplyFlags] := by
  have hshown := w.within_levelShown b mv
  rw [w.vinLevel_eq]
  refine .ite ?_ (.ite ?_ ?_)
  · exact (hshown.mono (by simp) (by simp)).trans (((Work.within_set _ Obj.supplyInUse _).comp (Work.within_supplyTimers _)).mono (by simp) (by simp))
  · exact (hshown.mono (by simp) (by simp)).trans ((Work.within_switchTo _ _).mono (by simp) (by simp))
  · exact (hshown.mono (by simp) (by simp)).trans ((Work.within_supplyTimers _).mono (by simp) (by simp))

theorem Work.vinLevel_shows : (w.vinLevel b mv).get (vinKey b) = mv ∧
    (w.vinLevel b mv).power = w.power.judged b (goodAfter (w.power.good b) mv) mv := by
  have hkey : Obj.supplyInUse ≠ vinKey b ∧ vinKey b ∉ switchKeys := by cases b <;> decide
  have hkept : ∀ v : Work, v.Within (v.switchTo (!v.onB)) [.timers] switchKeys := fun v => v.within_switchTo _
  obtain ⟨hget, hpower⟩ := w.levelShown_shows b mv
  rw [w.vinLevel_eq, ← hpower, ← hget]
  split
  · refine ⟨((Work.within_supplyTimers _).get (by simp)).trans (Work.get_set_other _ _ _ _ hkey.1), (Work.within_supplyTimers _).same .power (by simp)⟩
  · split
    · exact ⟨(hkept _).get hkey.2, (hkept _).same .power (by simp)⟩
    · exact ⟨(Work.within_supplyTimers _).get (by simp), (Work.within_supplyTimers _).same .power (by simp)⟩

/-- The judgement of one input is not that of the other. -/
theorem Power.good_judged_other {p : Power} {c good : Bool} (h : c ≠ b) : (p.judged b good mv).good c = p.good c := by
  cases b <;> cases c <;> simp_all [Power.judged, Power.good]

theorem Power.good_judged_same {p : Power} {good : Bool} : (p.judged b good mv).good b = good := by cases b <;> rfl

/-- While the input in use stays good nothing switches. -/
theorem Work.vinLevel_stays (hgood : w.power.good w.onB = true) (hother : w.onB ≠ b) :
    (w.vinLevel b mv).get Obj.supplyInUse = w.get Obj.supplyInUse ∧ (w.vinLevel b mv).get Obj.switchovers = w.get Obj.switchovers := by
  have hkeys : Obj.supplyInUse ∉ [vinKey b, Obj.supplyFlags] ∧ Obj.switchovers ∉ [vinKey b, Obj.supplyFlags] := by cases b <;> decide
  have hshown := w.within_levelShown b mv
  have hstale : ¬(!w.power.rails && !w.power.goodA && !w.power.goodB && goodAfter (w.power.good b) mv) = true := by
    unfold Power.good at hgood
    split at hgood <;> simp [hgood]
  have hkept : ¬(!(w.levelShown b mv).power.good (w.levelShown b mv).onB && (w.levelShown b mv).power.good (!(w.levelShown b mv).onB)) = true := by
    rw [w.onB_levelShown, (w.levelShown_shows b mv).2, Power.good_judged_other b mv hother, hgood]
    simp
  rw [w.vinLevel_eq, if_neg hstale, if_neg hkept]
  exact ⟨((Work.within_supplyTimers _).get (by simp)).trans (hshown.get hkeys.1), ((Work.within_supplyTimers _).get (by simp)).trans (hshown.get hkeys.2)⟩

/-- An input in use that fails while the other is good is left at once (R516). -/
theorem Work.vinLevel_switches (huse : w.onB = b) (hfails : goodAfter (w.power.good b) mv = false) (hother : w.power.good (!b) = true) :
    (w.vinLevel b mv).get Obj.supplyInUse = (if b = true then 0 else 1) ∧
    (w.vinLevel b mv).get Obj.switchovers = min (w.get Obj.switchovers + 1) 0xFFFFFFFF ∧
    bitOf ((w.vinLevel b mv).getN Obj.supplyFlags) (if b = true then 1 else 0) = true := by
  have hcount : Obj.switchovers ∉ [vinKey b, Obj.supplyFlags] := by cases b <;> decide
  have hpower := (w.levelShown_shows b mv).2
  have hleft : (!(w.levelShown b mv).power.good (w.levelShown b mv).onB && (w.levelShown b mv).power.good (!(w.levelShown b mv).onB)) = true := by
    rw [w.onB_levelShown, hpower, huse, Power.good_judged_same, Power.good_judged_other b mv (by simp), hfails, hother]
    rfl
  obtain ⟨huses, hcounts, hflags⟩ := (w.levelShown b mv).switchTo_shows (!b)
  rw [(w.within_levelShown b mv).get hcount] at hcounts
  rw [w.vinLevel_eq, if_neg (by simp [hfails]), if_pos hleft, w.onB_levelShown, huse]
  cases b <;> exact ⟨huses, hcounts, hflags⟩

end

/-- A level outside the window of a good input is outside the window in which one becomes good. -/
theorem goodAfter_of_left {mv : Nat} (h : goodAfter true mv = false) (was : Bool) : goodAfter was mv = false := by
  cases was
  · simp only [goodAfter, if_true, Bool.false_eq_true, if_false, Bool.and_eq_false_iff, decide_eq_false_iff_not] at h ⊢
    omega
  · exact h

section
variable {s : State}

theorem vinNotGood_leaves {b : Bool} {mv : BitVec 16} (h : goodAfter true mv.toNat = false) : Does (.vinNotGood b mv) s (fun t =>
    t.get (vinKey b) = mv.toNat ∧ t.power = s.w.power.judged b false mv.toNat ∧ s.w.only t [.power, .timers] ∧
    s.w.sameBut t [vinKey b, Obj.supplyInUse, Obj.switchovers, Obj.supplyFlags] ∧
    (s.w.power.good s.w.onB = true → s.w.onB ≠ b →
      t.get Obj.supplyInUse = s.w.get Obj.supplyInUse ∧ t.get Obj.switchovers = s.w.get Obj.switchovers) ∧
    (s.w.onB = b → s.w.power.good (!b) = true → t.get Obj.supplyInUse = (if b then 0 else 1) ∧
      t.get Obj.switchovers = min (s.w.get Obj.switchovers + 1) 0xFFFFFFFF ∧ bitOf (t.getN Obj.supplyFlags) (if b then 1 else 0) = true)) := by
  have hfails := goodAfter_of_left h (s.w.power.good b)
  have hlevel : vinNotGood b mv s.w = s.w.vinLevel b mv.toNat := if_neg (by simp [h])
  have hwithin := s.w.within_vinLevel b mv.toNat
  obtain ⟨hget, hpower⟩ := s.w.vinLevel_shows b mv.toNat
  refine does_of_onWork rfl ?_
  rw [hlevel]
  exact ⟨hget, by rw [hpower, hfails], hwithin.only, hwithin.sameBut, fun hgood hother => s.w.vinLevel_stays b _ hgood hother,
    fun huse hother => s.w.vinLevel_switches b _ huse hfails hother⟩

theorem vinGood_enters {b : Bool} {mv : BitVec 16} (h : goodAfter (s.w.power.good b) mv.toNat = true) : Does (.vinGood b mv) s (fun t =>
    t.get (vinKey b) = mv.toNat ∧ t.power = s.w.power.judged b true mv.toNat ∧ s.w.only t [.power, .timers] ∧
    s.w.sameBut t [vinKey b, Obj.supplyInUse, Obj.switchovers, Obj.supplyFlags] ∧
    (s.w.power.good s.w.onB = true → s.w.onB ≠ b →
      t.get Obj.supplyInUse = s.w.get Obj.supplyInUse ∧ t.get Obj.switchovers = s.w.get Obj.switchovers)) := by
  have hlevel : vinGood b mv s.w = s.w.vinLevel b mv.toNat := if_pos h
  have hwithin := s.w.within_vinLevel b mv.toNat
  obtain ⟨hget, hpower⟩ := s.w.vinLevel_shows b mv.toNat
  refine does_of_onWork rfl ?_
  rw [hlevel]
  exact ⟨hget, by rw [hpower, h], hwithin.only, hwithin.sameBut, fun hgood hother => s.w.vinLevel_stays b _ hgood hother⟩

theorem vinRangeTimeout_switches (huse : s.w.onB = false) (htime : s.w.expired .vinRange 1000000 = true) (hgood : s.w.power.goodB = true)
    (hrange : s.w.power.rangeB = true) : Does (.vinRangeTimeout) s (fun t =>
    t.get Obj.supplyInUse = 1 ∧ t.get Obj.switchovers = min (s.w.get Obj.switchovers + 1) 0xFFFFFFFF ∧ bitOf (t.getN Obj.supplyFlags) 0 = true ∧
    s.w.only t [.timers] ∧ s.w.sameBut t switchKeys) := by
  have hswitch : vinRangeTimeout s.w = s.w.switchTo true := if_pos (by simp [huse, htime, hgood, hrange])
  have hwithin := s.w.within_switchTo true
  obtain ⟨huses, hcounts, hflags⟩ := s.w.switchTo_shows true
  refine does_of_onWork rfl ?_
  rw [hswitch]
  exact ⟨huses, hcounts, hflags, hwithin.only, hwithin.sameBut⟩

theorem returnToA_switches (huse : s.w.onB = true) (htime : s.w.expired .returnA 100000000 = true) : Does (.returnToA) s (fun t =>
    t.get Obj.supplyInUse = 0 ∧ t.get Obj.switchovers = min (s.w.get Obj.switchovers + 1) 0xFFFFFFFF ∧ bitOf (t.getN Obj.supplyFlags) 1 = true ∧
    s.w.only t [.timers] ∧ s.w.sameBut t switchKeys) := by
  have hswitch : returnToA s.w = s.w.switchTo false := if_pos (by simp [huse, htime])
  have hwithin := s.w.within_switchTo false
  obtain ⟨huses, hcounts, hflags⟩ := s.w.switchTo_shows false
  refine does_of_onWork rfl ?_
  rw [hswitch]
  exact ⟨huses, hcounts, hflags, hwithin.only, hwithin.sameBut⟩

/-! ### Loss of both supplies, and a supply out of its range -/

theorem NonVol.cert_tear (nv : NonVol) : nv.tear.flash.cert = nv.flash.cert := by
  unfold NonVol.tear
  split <;> rfl

theorem Work.hostMem_modeTo (m : Mode) (cause : Nat) : (w.modeTo m cause).host.hostMem = w.host.hostMem := by
  have hidle : ∀ v : Work, (v.stopTimer .idle).idleBegin.host = v.host := fun v => Work.only_trans
    (Work.only_mono (v.only_stopTimer .idle) (by simp)) (Work.only_idleBegin _) .host (by simp)
  have hshow : ((w.showMode m cause).raise 2).host = w.host := (Work.only_raise _ 2 .host (by simp)).trans (w.only_showMode m cause .host (by simp))
  rw [w.modeTo_eq, hidle, Work.msix_hostMem, hshow]

/-- What a module without supplies starts from (R517). -/
theorem coldReset_eq (nv : NonVol) : ∃ v : Work, coldReset (nv, w) = (nv.tear, v.modeTo .reset 1) ∧ v.clk.tb = 0 ∧ v.power.rails = false ∧
    v.journal.entries = [] ∧ v.host.hostMem = w.host.hostMem := ⟨_, rfl, rfl, rfl, rfl, rfl⟩

theorem holdupExpiry_resets (htime : s.w.expired .holdup 50000 = true) : DoesNv (.holdupExpiry) s (fun nv t =>
    t.entered .reset 1 ∧ t.clk.tb = 0 ∧ t.power.rails = false ∧ t.journal.entries = [] ∧ t.host.hostMem = s.w.host.hostMem ∧
    nv.fuses = s.nv.fuses ∧ nv.flash.cert = s.nv.flash.cert ∧ (s.nv.flash.op = none → nv = s.nv)) := by
  obtain ⟨v, hreset, htb, hrails, hjournal, hmem⟩ := coldReset_eq s.w s.nv
  have hexpiry : holdupExpiry (s.nv, s.w) = (s.nv.tear, v.modeTo .reset 1) := (if_pos htime).trans hreset
  have hspares := v.spares_modeTo .reset 1
  exact ⟨_, _, exec_of_onBoth rfl hexpiry, v.entered_modeTo _ _, by rw [hspares.clk, htb], by rw [hspares.power, hrails],
    by rw [hspares.journal, hjournal], (v.hostMem_modeTo _ _).trans hmem, s.nv.fuses_tear, s.nv.cert_tear, NonVol.tear_of_idle⟩

theorem supplySafeTimeout_parks (htime : s.w.expired .supplyRange 10000000 = true)
    (hstuck : s.w.onB = true ∨ s.w.power.goodB = false ∨ s.w.power.rangeB = false) (hopen : s.w.mode.dictOpen = true) (hne : s.w.mode ≠ .safe) :
    Does (.supplySafeTimeout) s (fun t =>
      t.entered .safe 17 ∧ t.get Obj.safeCause = 6 ∧ t.power = s.w.power ∧ t.journal = s.w.journal ∧ t.clk = s.w.clk) := by
  have hsafe : supplySafeTimeout s.w = s.w.enterSafe 6 := if_pos (by rcases hstuck with h | h | h <;> simp [h, htime])
  have hspares := s.w.spares_enterSafe 6
  obtain ⟨hentered, hcause, -⟩ := Work.inSafe_enterSafe hopen hne 6
  refine does_of_onWork rfl ?_
  rw [hsafe]
  exact ⟨hentered, hcause, hspares.power, hspares.journal, hspares.clk⟩

theorem vioFault_parks {b : Bool} {mv : BitVec 16} (hreleased : s.w.power.released = true)
    (hfault : withinTenth (if b then 1800 else 100 * s.w.getN Obj.vioALevel) mv.toNat = false) (hopen : s.w.mode.dictOpen = true)
    (hne : s.w.mode ≠ .safe) : Does (.vioFault b mv) s (fun t =>
    t.entered .safe 17 ∧ t.get Obj.safeCause = 6 ∧ bitOf (t.getN Obj.supplyFlags) 4 = true ∧
    t.get (if b then Obj.vioBMv else Obj.vioAMv) = mv.toNat ∧ t.power = s.w.power ∧ t.journal = s.w.journal) := by
  let v := (s.w.set (if b then Obj.vioBMv else Obj.vioAMv) mv.toNat).flag Obj.supplyFlags 16
  have hsafe : vioFault b mv s.w = v.enterSafe 6 := if_neg (by simp [hreleased, hfault])
  have hspares := v.spares_enterSafe 6
  have hkey : supplyKey (if b then Obj.vioBMv else Obj.vioAMv) = true ∧ Obj.supplyFlags ≠ (if b then Obj.vioBMv else Obj.vioAMv) := by
    cases b <;> decide
  have hflag : bitOf (v.getN Obj.supplyFlags) 4 = true := Work.bitOf_flag _ Obj.supplyFlags 4
  obtain ⟨hentered, hcause, -⟩ := Work.inSafe_enterSafe (w := v) hopen hne 6
  refine does_of_onWork rfl ?_
  rw [hsafe]
  refine ⟨hentered, hcause, by rwa [Work.getN, hspares.objs _ (by decide)], ?_, hspares.power, hspares.journal⟩
  rw [hspares.objs _ hkey.1, Work.get_flag, if_neg hkey.2, Work.get_set_same]

/-! ### Rails and VIO_A -/

theorem railsGood_rails (hgood : s.w.power.goodA = true ∨ s.w.power.goodB = true) : Does (.railsGood) s (fun t =>
    t = { s.w with power := { s.w.power with rails := true } }) :=
  does_of_onWork rfl (if_pos (by simpa using hgood))

/-- The bands of VIO_A lie apart: a level is in one of them at most (R549). -/
theorem band_of_withinTenth {v mv : Nat} (hv : v = 18 ∨ v = 25 ∨ v = 33) (h : withinTenth (100 * v) mv = true) :
    ([18, 25, 33] : List Nat).find? (fun v => withinTenth (100 * v) mv) = some v := by
  simp only [withinTenth, Bool.and_eq_true, decide_eq_true_eq] at h
  have hapart : ∀ u, u = 18 ∨ u = 25 ∨ u = 33 → u ≠ v → withinTenth (100 * u) mv = false := fun u hu hne => by
    simp only [withinTenth, Bool.and_eq_false_iff, decide_eq_false_iff_not]
    omega
  have hin : withinTenth (100 * v) mv = true := by simpa [withinTenth] using h
  rcases hv with rfl | rfl | rfl
  · simp [hin]
  · simp [hapart 18, hin]
  · simp [hapart 18, hapart 25, hin]

theorem vioASettled_waits {mv : BitVec 16} {v : Nat} (hv : v = 18 ∨ v = 25 ∨ v = 33) (h : withinTenth (100 * v) mv.toNat = true) :
    Does (.vioASettled mv) s (fun t => t.get Obj.vioAMv = mv.toNat ∧
      t.power = (if s.w.power.released = true then s.w.power else { s.w.power with vioReady := true, vioLevel := v }) ∧ s.w.only t [.power] ∧
      s.w.sameBut t [Obj.vioAMv]) := by
  have hsettled : vioASettled mv s.w = if s.w.power.released then s.w.set Obj.vioAMv mv.toNat
      else { (s.w.set Obj.vioAMv mv.toNat) with power := { s.w.power with vioReady := true, vioLevel := v } } := by
    unfold vioASettled
    rw [band_of_withinTenth hv h]
    rfl
  have hset := s.w.within_set Obj.vioAMv mv.toNat
  refine does_of_onWork rfl ?_
  rw [hsettled]
  split
  · exact ⟨s.w.get_set_same _ _, rfl, Work.only_mono hset.only (by simp), hset.sameBut⟩
  · have hready := hset.comp (Work.within_power _ { s.w.power with vioReady := true, vioLevel := v })
    exact ⟨s.w.get_set_same _ _, rfl, hready.only, hready.sameBut⟩

end

/-- Settles O59: a level is judged and shown before the supply in use follows, and the entry to SAFE spares the supplies. -/
theorem suppliesSwitchAndFail : Obligations.SuppliesSwitchAndFail :=
  ⟨fun _ _ _ h => vinNotGood_leaves h, fun _ _ _ h => vinGood_enters h,
    fun _ huse htime hgood hrange => vinRangeTimeout_switches huse htime hgood hrange, fun _ huse htime => returnToA_switches huse htime,
    fun _ htime => holdupExpiry_resets htime, fun _ htime hstuck hopen hne => supplySafeTimeout_parks htime hstuck hopen hne,
    fun _ _ _ hreleased hfault hopen hne => vioFault_parks hreleased hfault hopen hne, fun _ hgood => railsGood_rails hgood,
    fun _ _ _ hv h => vioASettled_waits hv h⟩

end Sys2Proof.Machine
end

section
/-! What the work of the plant leaves of a pairing (R473 to R482): the mode, the run, the pair, the records kept, the objects below 0x2100 and those of
the pairing. -/
namespace Sys2Proof.Machine

/-- An object of the mode machine, or one by which a pairing and its takeovers are seen. -/
def pairKey (k : Nat) : Bool := decide (k / 256 < 0x2100) || k == Obj.pairState || k == Obj.pairFlags || k == Obj.failovers

/-- An operation that spares the mode, the run, the pair, the records kept and the objects by which they are seen. -/
structure Work.SparesPair (a b : Work) : Prop where
  mode : b.mode = a.mode
  run : b.run = a.run
  pair : b.sys.pair = a.sys.pair
  held : b.ledger.held = a.ledger.held
  objs : ∀ k, pairKey k = true → b.get k = a.get k

section
variable {a b c : Work}

theorem Work.SparesPair.refl (a : Work) : a.SparesPair a := ⟨rfl, rfl, rfl, rfl, fun _ _ => rfl⟩

theorem Work.SparesPair.trans (hab : a.SparesPair b) (hbc : b.SparesPair c) : a.SparesPair c :=
  ⟨hbc.mode.trans hab.mode, hbc.run.trans hab.run, hbc.pair.trans hab.pair, hbc.held.trans hab.held,
    fun k hk => (hbc.objs k hk).trans (hab.objs k hk)⟩

theorem Work.SparesPair.ite {p : Prop} [Decidable p] (hb : a.SparesPair b) (hc : a.SparesPair c) : a.SparesPair (if p then b else c) := by
  split
  · exact hb
  · exact hc

theorem Work.SparesPair.foldl {α : Type} {f : Work → α → Work} (xs : List α) (hf : ∀ (w : Work), ∀ x ∈ xs, w.SparesPair (f w x)) (w : Work) :
    w.SparesPair (xs.foldl f w) :=
  List.foldlRecOn (motive := fun v => w.SparesPair v) xs f (.refl w) fun v hv x hx => hv.trans (hf v x hx)

/-- What changes other parts and other objects. -/
theorem Work.Within.sparesPair {ps : List Part} {ks : List Nat} (h : a.Within b ps ks) (hps : ∀ q ∈ [Part.mode, .run, .sys, .ledger], q ∉ ps)
    (hks : ∀ k ∈ ks, pairKey k = false) : a.SparesPair b := by
  have hkept : ∀ q ∈ [Part.mode, .run, .sys, .ledger], q.same a b := fun q hq => h.only q (hps q hq)
  have hsys : b.sys = a.sys := hkept .sys (by simp)
  have hledger : b.ledger = a.ledger := hkept .ledger (by simp)
  exact ⟨hkept .mode (by simp), hkept .run (by simp), by rw [hsys], by rw [hledger],
    fun k hk => h.sameBut k fun hmem => Bool.false_ne_true ((hks k hmem).symm.trans hk)⟩

end

/-- An object from 0x2100 on that is none of the pairing's. -/
theorem pairKey_of_index {i x : Nat} (hi : 0x2100 ≤ i) (hpair : i ≠ 0xA800 ∨ x ∉ [5, 12, 13]) (hx : x < 256) : pairKey (i * 256 + x) = false := by
  have hindex : (i * 256 + x) / 256 = i := by omega
  simp only [List.mem_cons, List.not_mem_nil, or_false, not_or] at hpair
  simp only [pairKey, hindex, Obj.pairState, Obj.pairFlags, Obj.failovers, Bool.or_eq_false_iff, decide_eq_false_iff_not, beq_eq_false_iff_ne]
  omega

variable (w : Work)

theorem Work.sparesPair_set {i x : Nat} (v : Int) (hi : 0x2100 ≤ i) (hpair : i ≠ 0xA800 ∨ x ∉ [5, 12, 13]) (hx : x < 256) :
    w.SparesPair (w.set (i * 256 + x) v) :=
  (w.within_set _ v).sparesPair (by simp) (by simpa using pairKey_of_index hi hpair hx)

theorem Work.sparesPair_peak {i x : Nat} (v : Nat) (hi : 0x2100 ≤ i) (hpair : i ≠ 0xA800 ∨ x ∉ [5, 12, 13]) (hx : x < 256) :
    w.SparesPair (w.peak (i * 256 + x) v) :=
  .ite (w.sparesPair_set v hi hpair hx) (.refl w)

theorem Work.sparesPair_emit (r : LRec) : w.SparesPair (w.emit r) :=
  ⟨w.emit_mode r, w.emit_run r, by rw [w.emit_sys], by unfold Work.emit; split <;> rfl, fun k _ => w.get_emit r k⟩

theorem Work.sparesPair_raise {s : Nat} (hs : s < 376) : w.SparesPair (w.raise s) := by
  refine (w.within_raise s).sparesPair (by simp) ?_
  have hindex : s / 128 < 3 := by omega
  simpa [raisedKey, Obj.raised, Nat.add_assoc] using pairKey_of_index (i := 0x7810 + s / 128) (x := 1 + s % 128) (by omega) (.inl (by omega)) (by omega)

theorem Work.sparesPair_ylSend (peer cls typ : Nat) (fields : List Nat) (data : Bytes) : w.SparesPair (w.ylSend peer cls typ fields data).1 := by
  unfold Work.ylSend
  split
  · exact .refl w
  · exact ⟨rfl, rfl, rfl, rfl, fun _ _ => rfl⟩

/-! ### Motion axes -/

theorem motionKeys_sparePair : ∀ a : Fin 16, ∀ k ∈ motionKeys a, pairKey k = false := by decide

theorem Work.MovesOnly.sparesPair {w v : Work} {a : Nat} (ha : a < 16) (h : w.MovesOnly v a) : w.SparesPair v :=
  h.within.sparesPair (by simp) (motionKeys_sparePair ⟨a, ha⟩)

theorem Work.within_pushMove (a : Nat) (m : Move) : w.Within (w.pushMove a m) [.axes, .timers, .router] (Obj.mvResult a :: motionKeys a) := by
  have hmoves : ∀ {u v : Work}, u.MovesOnly v a → u.Within v [.axes, .timers, .router] (Obj.mvResult a :: motionKeys a) := fun h =>
    h.within.mono (List.Subset.refl _) (List.subset_cons_self _ _)
  have hput : ∀ (v : Work) (r : Nat), v.Within (v.set (Obj.mvResult a) r) [.axes, .timers, .router] (Obj.mvResult a :: motionKeys a) := fun v r =>
    (v.within_set _ _).mono (by simp) (by simp)
  have hqueued : ∀ f, w.Within (((w.updAx a f).set (Obj.mvResult a) (1 : Nat)).showMoves a) [.axes, .timers, .router] (Obj.mvResult a :: motionKeys a) :=
    fun f => (hmoves (w.movesOnly_updAx a f)).trans ((hput _ 1).trans (hmoves (Work.movesOnly_showMoves _ a)))
  unfold Work.pushMove
  refine .ite (hput _ _) (.ite (hput _ _) (.ite ((hmoves (w.movesOnly_axFlag a _)).trans (hput _ _)) (.ite (hput _ _) (.ite (hput _ _) ?_))))
  dsimp only
  split
  · exact .ite (.ite ((hqueued _).trans (hmoves ((Work.movesOnly_updAx _ a _).trans (Work.movesOnly_startHead _ a 33))))
      ((hqueued _).trans (hmoves (Work.movesOnly_brake _ a _ _)))) (hqueued _)
  · exact .ite (hqueued _) ((hqueued _).trans (hmoves (Work.movesOnly_startHead _ a 33)))

theorem mvResult_sparePair : ∀ a : Fin 16, pairKey (Obj.mvResult a) = false := by decide

theorem Work.sparesPair_sendAxis {a : Nat} (ha : a < 16) (x : Int) : w.SparesPair (w.sendAxis a x) := by
  refine .ite (.refl w) ((w.within_pushMove a _).sparesPair (by simp) fun k hk => ?_)
  obtain rfl | hmem := List.mem_cons.mp hk
  · exact mvResult_sparePair ⟨a, ha⟩
  · exact motionKeys_sparePair ⟨a, ha⟩ k hmem

theorem Work.traverse_lt {p a : Nat} (h : w.traverse p = some a) : a < 16 := by
  unfold Work.traverse at h
  dsimp only at h
  split at h
  · next hcond =>
    obtain rfl := Option.some.inj h
    have hboth : (w.calOf p).kind = 2 ∧ w.getN Obj.travAxis < 16 := by simpa using hcond
    exact hboth.2
  · cases h

theorem Work.sparesPair_updCal (p : Nat) (f : PortCal → PortCal) : w.SparesPair (w.updCal p f) := ⟨rfl, rfl, rfl, rfl, fun _ _ => rfl⟩

theorem Work.sparesPair_traverseStart (p k : Nat) : w.SparesPair (w.traverseStart p k) := by
  unfold Work.traverseStart
  dsimp only
  split
  · next a ha => exact .ite ((w.sparesPair_updCal p _).trans (Work.sparesPair_sendAxis _ (w.traverse_lt ha) _)) (.refl w)
  · exact .refl w

/-! ### Ports, of which there are 32 -/

theorem Work.sparesPair_updPort (p : Nat) (f : Port → Port) : w.SparesPair (w.updPort p f) := ⟨rfl, rfl, rfl, rfl, fun _ _ => rfl⟩

theorem Work.sparesPair_send (m : Sent) : w.SparesPair (w.send m) := (w.within_send m).sparesPair (by simp) (by simp)

theorem Work.sparesPair_startTimer (t : Timer) : w.SparesPair (w.startTimer t) := (w.within_startTimer t).sparesPair (by simp) (by simp)

theorem Work.sparesPair_startTxn (p : Nat) (use : TxnUse) (write : Bool) (addr words : Nat) (data : List Nat) :
    w.SparesPair (w.startTxn p use write addr words data) :=
  (w.sparesPair_updPort p _).trans <| (Work.sparesPair_startTimer _ _).trans (.ite (Work.sparesPair_send _ _) (Work.sparesPair_send _ _))

theorem Work.sparesPair_nextTxn (p : Nat) : w.SparesPair (w.nextTxn p) := by
  refine .ite (.refl w) (.ite ?_ ?_)
  · split
    · exact (w.sparesPair_updPort p _).trans (Work.sparesPair_startTxn _ _ _ _ _ _ _)
    · exact w.sparesPair_updPort p _
  · split
    · exact .refl w
    · exact (w.sparesPair_updPort p _).trans (Work.sparesPair_startTxn _ _ _ _ _ _ _)

section
variable {p : Nat} (hp : p < 32)
include hp

theorem Work.sparesPair_rxPush (r : RxLine) : w.SparesPair (w.rxPush p r) :=
  (w.sparesPair_updPort p _).trans (Work.sparesPair_peak _ _ (by omega) (.inl (by omega)) (by decide))

theorem Work.sparesPair_addTrig (t : Nat) (g : Trig) : w.SparesPair (w.addTrig p t g) := by
  have hclosed : ∀ (v : Work) (g : Trig) (st : Nat), v.SparesPair (v.closeMissing p t g st) := fun v _ _ =>
    (Work.SparesPair.ite (v.sparesPair_set _ (by omega) (.inl (by omega)) (by decide)) (v.sparesPair_set _ (by omega) (.inl (by omega)) (by decide))).trans
      ((Work.sparesPair_set _ _ (by omega) (.inl (by omega)) (by decide)).trans (Work.sparesPair_rxPush _ hp _))
  have hwaits : ∀ gs, w.SparesPair (w.setOutstanding p t gs) := fun _ => w.sparesPair_updPort p _
  unfold Work.addTrig
  dsimp only
  split
  · exact .ite ((hwaits _).trans (hclosed _ _ _)) (hwaits _)
  · exact .refl w

theorem Work.sparesPair_triggerPort (k : Nat) : w.SparesPair (w.triggerPort p k false) := by
  refine .ite (.refl w) ?_
  generalize (w.tagsOf p).filterMap _ = calls
  cases calls with
  | nil => exact .refl w
  | cons c cs =>
    refine .ite (.foldl _ (fun v c _ => v.sparesPair_rxPush hp _) w) ?_
    have hstate : ∀ v : Work, v.SparesPair (if v.get (Obj.portState p) = 4 then v.set (Obj.portState p) 5 else v) := fun v =>
      .ite (v.sparesPair_set _ (by omega) (.inl (by omega)) (by decide)) (.refl v)
    refine .trans (.trans ?_ (hstate _)) (.foldl _ (fun v c _ => v.sparesPair_addTrig hp _ _) _)
    exact .ite (w.sparesPair_send _) (w.sparesPair_send _)

theorem Work.sparesPair_expTrigger (k : Nat) : w.SparesPair (w.expTrigger p k) := by
  have hlate : ∀ (c : Prop) [Decidable c], w.SparesPair (if c then w.flag (Obj.expFlags p) 2 else w) := fun _ _ =>
    .ite (w.sparesPair_set _ (by omega) (.inl (by omega)) (by decide)) (.refl w)
  exact .ite (.refl w) <| .ite (hlate _) <| .ite ((hlate _).trans (Work.sparesPair_updPort _ p _)) <|
    (hlate _).trans <| (Work.sparesPair_updPort _ p _).trans <| (Work.sparesPair_updPort _ p _).trans (Work.sparesPair_nextTxn _ p)

end

/-! ### Lag, jobs, held records and the work of a trigger -/

theorem Work.sparesPair_lagLine (k : Nat) : w.SparesPair (w.lagLine k) := by
  have haxis : ∀ y : Axis, w.SparesPair { w with axis := y } := fun _ => ⟨rfl, rfl, rfl, rfl, fun _ _ => rfl⟩
  refine .ite ?_ (haxis _)
  unfold Work.lagEnd
  split
  · exact .refl w
  · exact (haxis _).trans (Work.sparesPair_emit _ (.cov _))

theorem Work.sparesPair_makeJobs (k fuel : Nat) : w.SparesPair (w.makeJobs k fuel) := by
  induction fuel generalizing w with
  | zero => exact .refl w
  | succ fuel ih =>
    have hseg : ∀ (v : Work) (y : Seg), v.SparesPair { v with seg := y } := fun _ _ => ⟨rfl, rfl, rfl, rfl, fun _ _ => rfl⟩
    exact .ite (.refl w) (((hseg w _).trans (.ite (hseg _ _) (.refl _))).trans (ih _))

theorem Work.sparesPair_closeRecord {s : Nat} (hs : s < 8) (r : OpenRec) (frameEnd : Bool) : w.SparesPair (w.closeRecord s r frameEnd) := by
  have hstream : ∀ (v : Work) (y : Streams), v.SparesPair { v with streams := y } := fun _ _ => ⟨rfl, rfl, rfl, rfl, fun _ _ => rfl⟩
  have hseq : ∀ n : Int, w.SparesPair ((w.set (Obj.streamSeq s) n).updStream s (fun x => { x with cur := none })) := fun n =>
    (w.sparesPair_set n (by omega) (.inl (by omega)) (by decide)).trans (hstream _ _)
  refine .ite (hseq _) (.ite ?_ ?_)
  · exact (hseq _).trans ((hstream _ _).trans (Work.sparesPair_set _ _ (by decide) (.inl (by decide)) (by decide)))
  · exact (hseq _).trans (Work.SparesPair.trans (.ite (Work.sparesPair_set _ _ (by decide) (.inl (by decide)) (by decide)) (.refl _)) (hstream _ _))

theorem Work.sparesPair_heldRecords (k : Nat) : w.SparesPair (w.heldRecords k) := by
  refine .foldl _ (fun v s hs => ?_) w
  have hs : s < 8 := mem_upTo.mp hs
  have hstream : ∀ f : StreamSt → StreamSt, v.SparesPair (v.updStream s f) := fun _ => ⟨rfl, rfl, rfl, rfl, fun _ _ => rfl⟩
  have hline : ∀ (f : StreamSt → StreamSt) (n : Int), v.SparesPair ((v.updStream s f).set (Obj.lastLine s) n) := fun f n =>
    (hstream f).trans (Work.sparesPair_set _ n (by omega) (.inl (by omega)) (by decide))
  have hstate : ∀ u : Work, u.SparesPair (u.set (Obj.streamState s) 3) := fun u => u.sparesPair_set 3 (by omega) (.inl (by omega)) (by decide)
  dsimp only
  split
  · exact .refl v
  · refine .ite (.refl v) (Work.SparesPair.trans ?_ (hstate _))
    exact .ite ((hline _ _).trans (Work.sparesPair_closeRecord _ hs _ _)) (hline _ _)

theorem Work.sparesPair_triggerWork (k : Nat) : w.SparesPair (w.triggerWork k) := by
  have hport : ∀ (v : Work) (p : Nat), p < 32 → v.SparesPair (((v.triggerPort p k false).expTrigger p k).traverseStart p k) := fun v p hp =>
    (v.sparesPair_triggerPort hp k).trans ((Work.sparesPair_expTrigger _ hp k).trans (Work.sparesPair_traverseStart _ p k))
  have hticked : ∀ v : Work, v.SparesPair v.settleTick := fun _ => ⟨rfl, rfl, rfl, rfl, fun _ _ => rfl⟩
  have hcalls : ∀ v : Work, v.SparesPair (v.activePorts.foldl (fun u p => ((u.triggerPort p k false).expTrigger p k).traverseStart p k) v).settleTick :=
    fun v => (Work.SparesPair.foldl _ (fun u p hmem => hport u p (mem_upTo.mp (List.mem_filter.mp hmem).1)) v).trans (hticked _)
  have hjobs : ∀ (u : Work) (n : Nat) (c : Prop) [Decidable c], u.SparesPair (if c then u.makeJobs k n else u) := fun u n _ _ =>
    .ite (u.sparesPair_makeJobs k n) (.refl u)
  exact (w.sparesPair_lagLine k).trans <| (Work.SparesPair.ite (hcalls _) (.refl _)).trans <|
    (hjobs _ _ _).trans (.ite (Work.sparesPair_heldRecords _ k) (.refl _))

end Sys2Proof.Machine
end

section
/-! The messages of a pairing (R473, R474, R481): what a request, a refusal and an end change. -/
namespace Sys2Proof.Machine
variable (w : Work)

theorem Work.within_sys (y : Sys) : w.Within { w with sys := y } [.sys] [] :=
  ⟨fun q hq => by cases q <;> simp [Part.same] at hq ⊢, fun _ _ => rfl⟩

theorem Work.within_setPair (f : Pair → Pair) : w.Within (w.setPair f) [.sys] [] := w.within_sys _

theorem Work.within_heard (peer : Nat) : w.Within (w.heard peer) [.sys] [] := w.within_updSession peer _

theorem Work.within_pairRefused (code : Nat) : w.Within (w.pairRefused code) [.sys] [Obj.pairState, Obj.pairRefusal] :=
  (((w.within_set Obj.pairState 0).comp (Work.within_set _ Obj.pairRefusal code)).comp (Work.within_sys _ _)).mono (by simp) (by simp)

theorem Work.pairRefused_shows (code : Nat) : (w.pairRefused code).get Obj.pairState = 0 ∧ (w.pairRefused code).get Obj.pairRefusal = code := by
  constructor
  · exact (Work.get_set_other _ Obj.pairRefusal Obj.pairState code (by decide)).trans (w.get_set_same Obj.pairState 0)
  · exact Work.get_set_same _ Obj.pairRefusal code

/-- The module becomes the primary of a pairing. -/
def Work.pairedFrom (w : Work) (peer : Nat) : Work :=
  (((w.stopTimer (.session peer)).set Obj.pairState 3).set Obj.pairRefusal 0).setPair (fun p => { proposals := p.proposals, hbIn := p.hbIn })

theorem Work.within_pairedFrom (peer : Nat) : w.Within (w.pairedFrom peer) [.sys, .timers] [Obj.pairState, Obj.pairRefusal] :=
  (((w.within_stopTimer _).comp (Work.within_set _ Obj.pairState 3)).comp
    ((Work.within_set _ Obj.pairRefusal 0).comp (Work.within_setPair _ _))).mono (by simp) (by simp)

theorem Work.pairedFrom_shows (peer : Nat) : (w.pairedFrom peer).get Obj.pairState = 3 ∧ (w.pairedFrom peer).get Obj.pairRefusal = 0 := by
  constructor
  · exact (Work.get_set_other _ Obj.pairRefusal Obj.pairState 0 (by decide)).trans (Work.get_set_same _ Obj.pairState 3)
  · exact Work.get_set_same _ Obj.pairRefusal 0

theorem Work.within_sendSnapshot : w.Within w.sendSnapshot [.sys, .sent] [] := w.within_ylSend _ _ _ _ _

theorem Work.sendSnapshot_sent {z : Session} (h : w.session w.partner = some z) : w.sendSnapshot.sent.length = w.sent.length + 1 :=
  congrArg List.length (w.ylSend_sent h 7 6 _ _)

section
variable {s : State} {a : Fin 1024}

/-- A request of the partner at the other position makes a module that inspects the primary. -/
theorem pairReq_eq {w : Work} {pos : Fin 2} (hz : w.session a ≠ none) (hpartner : a.val = w.partner)
    (hfree : w.get Obj.pairState = 0 ∨ w.get Obj.pairState = 1) (hpos : (pos.val : Int) ≠ w.conf Obj.pairPosition) (hmode : w.mode.inspecting = true) :
    pairReq a pos w = ((w.heard a).pairedFrom a).sendSnapshot := by
  have hmine : ¬ ((decide (a.val ≠ w.partner) || (decide (w.get Obj.pairState ≠ 0) && decide (w.get Obj.pairState ≠ 1))) = true) := by
    simpa [hpartner, or_iff_not_imp_left] using hfree
  have hserves : ¬ ((!w.mode.inspecting && !(w.mode == .ready && decide (w.conf Obj.pairRole = 0))) = true) := by simp [hmode]
  unfold pairReq
  dsimp only
  rw [if_neg (by simpa using hz)]
  exact (if_neg hmine).trans ((if_neg hpos).trans (if_neg hserves))

theorem pairReq_pairs {pos : Fin 2} (hz : s.w.session a ≠ none) (hpartner : a.val = s.w.partner)
    (hfree : s.w.get Obj.pairState = 0 ∨ s.w.get Obj.pairState = 1) (hpos : (pos.val : Int) ≠ s.w.conf Obj.pairPosition)
    (hmode : s.w.mode.inspecting = true) : Does (.pairReq a pos) s (fun t =>
      t.get Obj.pairState = 3 ∧ t.get Obj.pairRefusal = 0 ∧ t.sent.length = s.w.sent.length + 1 ∧ s.w.only t [.sys, .sent, .timers] ∧
      s.w.sameBut t [Obj.pairState, Obj.pairRefusal]) := by
  obtain ⟨z, hsession⟩ := Option.ne_none_iff_exists'.mp hz
  let u := (s.w.heard a).pairedFrom a
  have hopen : u.session u.partner = some { z with lastRx := s.w.clk.ctl } := by
    rw [show u.partner = a.val from hpartner.symm]
    exact s.w.session_heard hsession
  have hwithin := (s.w.within_heard a).comp ((Work.within_pairedFrom _ a).comp u.within_sendSnapshot)
  refine does_of_onWork rfl ?_
  rw [pairReq_eq hz hpartner hfree hpos hmode]
  refine ⟨?_, ?_, u.sendSnapshot_sent hopen, Work.only_mono hwithin.only (by simp), Work.sameBut_mono hwithin.sameBut (by simp)⟩
  · exact (u.within_sendSnapshot.get (by simp)).trans (Work.pairedFrom_shows _ a).1
  · exact (u.within_sendSnapshot.get (by simp)).trans (Work.pairedFrom_shows _ a).2

theorem pairReq_refuses {pos : Fin 2} {z : Session} (hsession : s.w.session a = some z)
    (hno : a.val ≠ s.w.partner ∨ (s.w.get Obj.pairState ≠ 0 ∧ s.w.get Obj.pairState ≠ 1) ∨ (pos.val : Int) = s.w.conf Obj.pairPosition) :
    Does (.pairReq a pos) s (fun t =>
      t.sent = .yalind a 7 8 (nth 0 z.nextOut 7)
        [if a.val ≠ s.w.partner ∨ (s.w.get Obj.pairState ≠ 0 ∧ s.w.get Obj.pairState ≠ 1) then 3 else 2] [] :: s.w.sent ∧
      s.w.only t [.sys, .sent] ∧ s.w.sameBut t []) := by
  let code := if a.val ≠ s.w.partner ∨ (s.w.get Obj.pairState ≠ 0 ∧ s.w.get Obj.pairState ≠ 1) then 3 else 2
  have hdone : pairReq a pos s.w = ((s.w.heard a).ylSend a 7 8 [code] []).1 := by
    unfold pairReq
    dsimp only
    rw [if_neg (by simp [hsession])]
    have htest : (decide (a.val ≠ s.w.partner) || (decide (s.w.get Obj.pairState ≠ 0) && decide (s.w.get Obj.pairState ≠ 1))) = true ↔
        a.val ≠ s.w.partner ∨ (s.w.get Obj.pairState ≠ 0 ∧ s.w.get Obj.pairState ≠ 1) := by simp
    by_cases hstranger : a.val ≠ s.w.partner ∨ (s.w.get Obj.pairState ≠ 0 ∧ s.w.get Obj.pairState ≠ 1)
    · rw [show code = 3 from if_pos hstranger]
      exact if_pos (htest.mpr hstranger)
    · rw [show code = 2 from if_neg hstranger]
      exact (if_neg (mt htest.mp hstranger)).trans (if_pos ((or_assoc.mpr hno).resolve_left hstranger))
  have hwithin := (s.w.within_heard a).comp (Work.within_ylSend (s.w.heard a) a 7 8 [code] [])
  refine does_of_onWork rfl ?_
  rw [hdone]
  exact ⟨Work.ylSend_sent _ (s.w.session_heard hsession) 7 8 _ _, Work.only_mono hwithin.only (by simp), Work.sameBut_mono hwithin.sameBut (by simp)⟩

theorem snapshot_unaligned {m : SnapMsg} (hz : s.w.session a ≠ none) (hpartner : a.val = s.w.partner) (hasking : s.w.get Obj.pairState = 1)
    (hmode : s.w.mode = .ready) (halign : s.w.get Obj.alignState ≠ 2) : Does (.snapshot a m) s (fun t =>
      t.get Obj.pairState = 0 ∧ t.get Obj.pairRefusal = 5 ∧ s.w.only t [.sys, .sent] ∧ s.w.sameBut t [Obj.pairState, Obj.pairRefusal]) := by
  let u := ((s.w.heard a).ylSend s.w.partner mirrorClass myPairEnd [5] []).1
  have hdone : snapshot a m s.w = u.pairRefused 5 := by
    unfold snapshot
    rw [if_neg (by simpa [hpartner, hasking, hmode] using hz)]
    exact if_pos halign
  have hwithin := (s.w.within_heard a).comp ((Work.within_ylSend (s.w.heard a) s.w.partner mirrorClass myPairEnd [5] []).comp (u.within_pairRefused 5))
  refine does_of_onWork rfl ?_
  rw [hdone]
  exact ⟨(u.pairRefused_shows 5).1, (u.pairRefused_shows 5).2, Work.only_mono hwithin.only (by simp), Work.sameBut_mono hwithin.sameBut (by simp)⟩

theorem pairEnd_asking {code : Fin 6} (hz : s.w.session a ≠ none) (hpartner : a.val = s.w.partner)
    (hasking : s.w.get Obj.pairState = 1 ∨ s.w.get Obj.pairState = 2) : DoesNv (.pairEnd a code) s (fun nv t =>
      t.get Obj.pairState = 0 ∧ t.get Obj.pairRefusal = code.val ∧ nv = s.nv ∧ s.w.only t [.sys] ∧ s.w.sameBut t [Obj.pairState, Obj.pairRefusal]) := by
  let t := (s.w.heard a).pairRefused code.val
  have hdone : pairEnd a code (s.nv, s.w) = (s.nv, t) := by
    unfold pairEnd
    dsimp only
    rw [if_neg (by simpa using hz)]
    exact (if_neg (not_not.mpr hpartner)).trans (if_pos (by simpa using hasking))
  have hwithin := (s.w.within_heard a).comp (Work.within_pairRefused (s.w.heard a) code.val)
  refine ⟨s.nv, t, exec_of_onBoth rfl hdone, (Work.pairRefused_shows _ _).1, (Work.pairRefused_shows _ _).2, rfl, ?_, ?_⟩
  · exact Work.only_mono hwithin.only (by simp)
  · exact Work.sameBut_mono hwithin.sameBut (by simp)

end

end Sys2Proof.Machine
end

section
/-! PAIR_CMD and the end of a pairing (R473, R480, R481): what the request and the return to running alone change. -/
namespace Sys2Proof.Machine
variable (w : Work)

/-! ### The records held for the partner -/

/-- The records held for the partner, those it has not acknowledged and those kept in SHADOW are the same. -/
def Work.sameHeld (a b : Work) : Prop :=
  b.ledger.mirrored = a.ledger.mirrored ∧ b.ledger.unacked = a.ledger.unacked ∧ b.ledger.held = a.ledger.held

theorem Work.sameHeld_stage (s : Staged) (forced : Bool) : w.sameHeld (w.stage s forced) := by
  have hshown : ∀ v : Work, v.showStaged.ledger = v.ledger := fun v => v.only_showStaged [] .ledger (by simp)
  unfold Work.stage
  dsimp only
  generalize hr : List.foldl _ _ _ = r
  have hrings : w.sameHeld r.1 := by
    rw [← hr]
    refine List.foldlRecOn (motive := fun acc : Work × List Nat => w.sameHeld acc.1) _ _ ⟨rfl, rfl, rfl⟩ fun acc hacc q _ => ?_
    split
    · exact hacc
    · exact hacc
  rw [Work.sameHeld, hshown]
  split
  · exact hrings
  · exact hrings

/-- Nothing is held for the partner any more. -/
theorem Work.releaseHeld_ledger : w.releaseHeld.ledger.mirrored = [] ∧ w.releaseHeld.ledger.unacked = [] := by
  refine List.foldlRecOn (motive := fun v : Work => v.ledger.mirrored = [] ∧ v.ledger.unacked = []) _ _ ⟨rfl, rfl⟩ fun v hv s _ => ?_
  obtain ⟨hmirrored, hunacked, -⟩ := v.sameHeld_stage s false
  exact ⟨hmirrored.trans hv.1, hunacked.trans hv.2⟩

/-! ### The pairing is over -/

/-- The module is unpaired: of the pair stay the writes held and the pin of the partner. -/
def Work.parted (w : Work) : Work :=
  let v := (w.set Obj.pairState 0).set Obj.lastMirrorSeq 0
  { v with sys := { v.sys with pair := { proposals := v.sys.pair.proposals, hbIn := v.sys.pair.hbIn } } }

theorem Work.within_parted : w.Within w.parted [.sys] [Obj.pairState, Obj.lastMirrorSeq] :=
  ((w.within_set Obj.pairState 0).comp ((Work.within_set _ Obj.lastMirrorSeq 0).comp (Work.within_sys _ _))).mono (by simp) (by simp)

theorem Work.get_parted_pairState : w.parted.get Obj.pairState = 0 :=
  (Work.get_set_other _ Obj.lastMirrorSeq Obj.pairState 0 (by decide)).trans (w.get_set_same Obj.pairState 0)

theorem Work.parted_proposals : w.parted.sys.pair.proposals = w.sys.pair.proposals := rfl

/-- A module in SHADOW that is unpaired goes to READY with its work dropped. -/
def Work.leaveShadow (w : Work) : Work :=
  ({ (w.endSpan w.frame) with ledger := { (w.endSpan w.frame).ledger with held := [] } }).pipeDrop.modeTo .ready 16

theorem Work.pairOver_eq (w : Work) : w.pairOver =
    if (if w.pairedPrimary then w.releaseHeld else w).parted.mode == .shadow then (if w.pairedPrimary then w.releaseHeld else w).parted.leaveShadow
    else (if w.pairedPrimary then w.releaseHeld else w).parted := rfl

theorem Work.pairOver_primary (hstate : w.get Obj.pairState = 3) (hmode : w.mode ≠ .shadow) : w.pairOver = w.releaseHeld.parted := by
  have hprimary : w.pairedPrimary = true := by simpa [Work.pairedPrimary] using hstate
  have hkept : w.releaseHeld.parted.mode = w.mode := w.restages_releaseHeld.1 .mode (by simp)
  rw [Work.pairOver_eq, if_pos hprimary, if_neg (by simpa [hkept] using hmode)]

theorem Work.pairOver_alone (hstate : w.get Obj.pairState ≠ 3) (hmode : w.mode ≠ .shadow) : w.pairOver = w.parted := by
  have hprimary : ¬ w.pairedPrimary = true := by simpa [Work.pairedPrimary] using hstate
  have hkept : w.parted.mode = w.mode := rfl
  rw [Work.pairOver_eq, if_neg hprimary, if_neg (by simpa [hkept] using hmode)]

theorem Work.pairOver_shadow (hstate : w.get Obj.pairState ≠ 3) (hmode : w.mode = .shadow) : w.pairOver = w.parted.leaveShadow := by
  have hprimary : ¬ w.pairedPrimary = true := by simpa [Work.pairedPrimary] using hstate
  have hkept : w.parted.mode = w.mode := rfl
  rw [Work.pairOver_eq, if_neg hprimary, if_pos (by rw [hkept, hmode]; rfl)]

/-- The end of a primary's pairing gives the records held for the partner to the rings, and nothing else of the module. -/
theorem Work.pairOver_primary_shows (hstate : w.get Obj.pairState = 3) (hmode : w.mode ≠ .shadow) : w.pairOver.get Obj.pairState = 0 ∧
    w.pairOver.mode = w.mode ∧ w.pairOver.ledger.mirrored = [] ∧ w.pairOver.ledger.unacked = [] ∧
    w.pairOver.sys.pair.proposals = w.sys.pair.proposals ∧ w.only w.pairOver [.sys, .ledger] := by
  have honly := w.restages_releaseHeld.1
  have hsys : w.releaseHeld.sys = w.sys := honly .sys (by simp)
  rw [w.pairOver_primary hstate hmode]
  exact ⟨Work.get_parted_pairState _, honly .mode (by simp), w.releaseHeld_ledger.1, w.releaseHeld_ledger.2, congrArg (·.pair.proposals) hsys,
    Work.only_trans (Work.only_mono honly (by simp)) (Work.only_mono (Work.within_parted _).only (by simp))⟩

/-! ### SHADOW is left -/

theorem Work.sparesPair_showSeg : w.SparesPair w.showSeg := by
  refine (w.sparesPair_set _ (by decide) (.inl (by decide)) (by decide)).trans <|
    (Work.sparesPair_peak _ _ (by decide) (.inl (by decide)) (by decide)).trans (.foldl _ (fun v c hc => ?_) _)
  have hc : c < 64 := mem_upTo.mp hc
  exact .ite (.refl v) ((v.sparesPair_set _ (by omega) (.inl (by omega)) (by decide)).trans
    (Work.sparesPair_peak _ _ (by omega) (.inl (by omega)) (by decide)))

theorem Work.sparesPair_stopTimer (t : Timer) : w.SparesPair (w.stopTimer t) := (w.within_stopTimer t).sparesPair (by simp) (by simp)

theorem Work.sparesPair_pipeDrop : w.SparesPair w.pipeDrop := by
  have hdropped : ∀ (y : Seg) (z : Classify), w.SparesPair { w with seg := y, cls := z } := fun _ _ => ⟨rfl, rfl, rfl, rfl, fun _ _ => rfl⟩
  exact (hdropped _ _).trans <| (Work.sparesPair_showSeg _).trans <|
    (Work.sparesPair_set _ _ (by decide) (.inl (by decide)) (by decide)).trans (Work.sparesPair_stopTimer _ _)

/-- The state that SHADOW is left with before its work is dropped. -/
theorem Work.get_unheld (n k : Nat) : ({ (w.endSpan n) with ledger := { (w.endSpan n).ledger with held := [] } } : Work).get k = w.get k :=
  w.get_endSpan n k

theorem Work.get_leaveShadow_pairState : w.leaveShadow.get Obj.pairState = w.get Obj.pairState := by
  rw [Work.leaveShadow, Work.sameBut_modeTo _ _ _ _ (by decide), (Work.sparesPair_pipeDrop _).objs _ (by decide), Work.get_unheld]

theorem Work.entered_leaveShadow : w.leaveShadow.entered .ready 16 := Work.entered_modeTo _ _ _

theorem Work.leaveShadow_journal : w.leaveShadow.journal = w.journal := by
  have hspan : (w.endSpan w.frame).journal = w.journal := by
    unfold Work.endSpan
    split <;> rfl
  rw [Work.leaveShadow, (Work.spares_modeTo _ _ _).journal, (Work.spares_pipeDrop _).journal, ← hspan]

theorem Work.leaveShadow_proposals : w.leaveShadow.sys.pair.proposals = w.sys.pair.proposals := by
  have hspan : (w.endSpan w.frame).sys = w.sys := by
    unfold Work.endSpan
    split <;> rfl
  have hsys : ∀ v : Work, (v.modeTo .ready 16).sys = v.sys := fun v => v.only_modeTo .ready 16 .sys (by simp)
  rw [Work.leaveShadow, hsys, (Work.sparesPair_pipeDrop _).pair, ← hspan]

/-! ### What the partner and the silence bring -/

theorem Work.drained_pairOver_shadow (nv : NonVol) (hstate : w.get Obj.pairState ≠ 3) (hmode : w.mode = .shadow)
    (hheld : w.sys.pair.proposals = []) : drainAll (nv, w.pairOver) = (nv, w.parted.leaveShadow) := by
  have hproposals : w.parted.leaveShadow.sys.pair.proposals = [] := by rw [Work.leaveShadow_proposals, Work.parted_proposals, hheld]
  rw [w.pairOver_shadow hstate hmode]
  generalize w.parted.leaveShadow = v at hproposals ⊢
  exact drainAll_of_nil hproposals

theorem pairEnd_primary {s : State} {a : Fin 1024} {code : Fin 6} (hz : s.w.session a ≠ none) (hpartner : a.val = s.w.partner)
    (hstate : s.w.get Obj.pairState = 3) (hmode : s.w.mode ≠ .shadow) (hheld : s.w.sys.pair.proposals = []) : DoesNv (.pairEnd a code) s (fun nv t =>
      t.get Obj.pairState = 0 ∧ t.mode = s.w.mode ∧ t.ledger.mirrored = [] ∧ t.ledger.unacked = [] ∧ nv = s.nv ∧
      s.w.only t [.sys, .ledger, .router]) := by
  obtain ⟨hunpaired, hsame, hmirrored, hunacked, hproposals, honly⟩ := (s.w.heard a).pairOver_primary_shows hstate hmode
  have hdone : pairEnd a code (s.nv, s.w) = (s.nv, (s.w.heard a).pairOver) := by
    unfold pairEnd
    dsimp only
    rw [if_neg (by simpa using hz)]
    refine (if_neg (not_not.mpr hpartner)).trans ((if_neg (by simp [hstate])).trans ((if_pos (by simp [hstate])).trans ?_))
    exact drainAll_of_nil (hproposals.trans hheld)
  exact ⟨s.nv, _, exec_of_onBoth rfl hdone, hunpaired, hsame, hmirrored, hunacked, rfl,
    Work.only_trans (Work.only_mono (s.w.within_heard a).only (by simp)) (Work.only_mono honly (by simp))⟩

theorem Work.within_showPaths : w.Within w.showPaths [] [Obj.hbPaths] := w.within_set _ _

theorem primaryHeartbeatLoss_parts {s : State} (hstate : s.w.get Obj.pairState = 3) (hsilent : s.w.silent = true) (hmode : s.w.mode ≠ .shadow)
    (hheld : s.w.sys.pair.proposals = []) : DoesNv (.primaryHeartbeatLoss) s (fun nv t =>
      t.get Obj.pairState = 0 ∧ t.mode = s.w.mode ∧ t.ledger.mirrored = [] ∧ nv = s.nv ∧ s.w.only t [.sys, .ledger, .router]) := by
  have hshown : s.w.showPaths.get Obj.pairState = 3 := (s.w.within_showPaths.get (by decide)).trans hstate
  obtain ⟨hunpaired, hsame, hmirrored, -, hproposals, honly⟩ := s.w.showPaths.pairOver_primary_shows hshown hmode
  have hdone : primaryHeartbeatLoss (s.nv, s.w) = (s.nv, s.w.showPaths.pairOver) := by
    unfold primaryHeartbeatLoss
    rw [if_neg (by simp [Work.pairedPrimary, hstate, hsilent])]
    exact drainAll_of_nil (hproposals.trans hheld)
  exact ⟨s.nv, _, exec_of_onBoth rfl hdone, hunpaired, hsame, hmirrored, rfl,
    Work.only_trans (Work.only_mono s.w.within_showPaths.only (by simp)) (Work.only_mono honly (by simp))⟩

/-- The primary is declared failed at this frame. -/
def Work.declareFailed (w : Work) : Work := (w.showPaths.setPair (fun p => { p with declared := some w.frame })).set Obj.pairState 5

theorem heartbeatLoss_ends {s : State} (hmode : s.w.mode = .shadow) (hstate : s.w.get Obj.pairState = 4) (hsilent : s.w.silent = true)
    (hheld : s.w.sys.pair.proposals = []) : DoesNv (.heartbeatLoss) s (fun nv t =>
      if s.w.sys.pair.peerMode = 8 ∨ s.w.sys.pair.peerMode = 9 then t.get Obj.pairState = 5 ∧ t.sys.pair.declared = some s.w.frame ∧
        t.mode = .shadow ∧ nv = s.nv ∧ s.w.only t [.sys] ∧ s.w.sameBut t [Obj.pairState, Obj.hbPaths]
      else t.get Obj.pairState = 0 ∧ t.entered .ready 16) := by
  have hstep : heartbeatLoss (s.nv, s.w) = if s.w.sys.pair.peerMode = 8 ∨ s.w.sys.pair.peerMode = 9 then (s.nv, s.w.declareFailed)
      else drainAll (s.nv, s.w.showPaths.pairOver) := by
    unfold heartbeatLoss
    rw [if_neg (by simp [hmode, hstate, hsilent])]
    refine if_congr ?_ rfl rfl
    rw [Bool.or_eq_true, decide_eq_true_iff, decide_eq_true_iff]
    exact Iff.rfl
  by_cases hran : s.w.sys.pair.peerMode = 8 ∨ s.w.sys.pair.peerMode = 9
  · have hwithin := (s.w.within_showPaths.comp (Work.within_setPair _ (fun p => { p with declared := some s.w.frame }))).comp
      (Work.within_set _ Obj.pairState 5)
    refine ⟨s.nv, s.w.declareFailed, exec_of_onBoth rfl (hstep.trans (if_pos hran)), (if_pos hran).mpr ?_⟩
    exact ⟨Work.get_set_same _ _ _, rfl, hmode, rfl, Work.only_mono hwithin.only (by simp), Work.sameBut_mono hwithin.sameBut (by simp)⟩
  · have hshown : s.w.showPaths.get Obj.pairState ≠ 3 := by
      rw [s.w.within_showPaths.get (by decide), hstate]
      decide
    have hdone := hstep.trans ((if_neg hran).trans (s.w.showPaths.drained_pairOver_shadow s.nv hshown hmode hheld))
    refine ⟨s.nv, s.w.showPaths.parted.leaveShadow, exec_of_onBoth rfl hdone, (if_neg hran).mpr ?_⟩
    exact ⟨(Work.get_leaveShadow_pairState _).trans (Work.get_parted_pairState _), Work.entered_leaveShadow _⟩

end Sys2Proof.Machine
end

section
/-! PAIR_CMD (R473, R481): the request and the end of a pairing by command. -/
namespace Sys2Proof.Machine
variable (w : Work)

/-- The row of PAIR_CMD. -/
def pairCmdRow : ObjRow := ⟨0xA800, 0x1, 1, 4, 4, "PAIR_CMD", .u8, .wo, .imm, .const 0, .codes [1, 2]⟩

theorem commandRow_pairCmd : ∀ c : Fin 2, commandRow Obj.pairCmd (c.val + 1) pairCmdRow = true := by decide

theorem pairCmd_ne_groupCtrl : ∀ i : Fin 3, Obj.pairCmd ≠ Obj.groupCtrl i := by decide

theorem pairCmd_ne_groupKey (p : Path) : Obj.pairCmd ≠ groupKey p := by
  cases p with
  | coe => exact pairCmd_ne_groupCtrl 1
  | yalind => exact pairCmd_ne_groupCtrl 2
  | _ => exact pairCmd_ne_groupCtrl 0

theorem modeRow_pairCmd (p : Path) (n : Int) : modeRow p Obj.pairCmd n = none := by
  simp [modeRow, objNo]

theorem pairCmdRow_num : pairCmdRow.typ.isBlob = false := rfl

theorem unanswering_pairKeys : ∀ k ∈ [Obj.pairState, Obj.pairRefusal], unanswering k = true := by decide

theorem unanswering_partKeys : ∀ k ∈ [Obj.pairState, Obj.lastMirrorSeq], unanswering k = true := by decide

theorem findRow_pairCmd : findRow (Obj.pairCmd / 256) (Obj.pairCmd % 256) = some pairCmdRow := by decide

/-- PAIR_CMD with its code over a path. -/
def Work.pairCmd (w : Work) (p : Path) (code : Nat) : Work := w.command p Obj.pairCmd code always (fun w => w.pairAct code)

/-- The meaning of PAIR_CMD in the table of the hub's commands. -/
theorem hubCode_pairCmd (p : Path) : ∀ c : Fin 2, (atKey (plantRows ++ calRows ++ outputRows ++ hubRows) Obj.pairCmd).bind
    (fun f => f p ((c.val + 1 : Nat) : Int)) = some (wk (fun w => w.pairCmd p (c.val + 1)))
  | 0 => rfl
  | 1 => rfl

theorem writeOne_pairCmd (p : Path) (c : Fin 2) (x : Both) : writeOne p Obj.pairCmd (.num (c.val + 1 : Nat)) x = (x.1, x.2.pairCmd p (c.val + 1)) := by
  have hmode : (asNum pairCmdRow (.num (c.val + 1 : Nat))).bind (modeRow p Obj.pairCmd) = none := modeRow_pairCmd p _
  have hbase : (asNum pairCmdRow (.num (c.val + 1 : Nat))).bind (fun n => (atKey (plantRows ++ calRows ++ outputRows ++ hubRows) Obj.pairCmd).bind
      (fun f => f p n)) = some (wk (fun w => w.pairCmd p (c.val + 1))) := hubCode_pairCmd p c
  simp only [writeOne, pairCmd_ne_groupKey p, ne_eq, not_false_eq_true, decide_true, Bool.true_or, if_true, writeMode, findRow_pairCmd, writeBase,
    hmode, hbase, pairCmdRow_num, Bool.false_eq_true, if_false, wk]

/-- PAIR_CMD of a path that is ready acts, where what it does takes up no write held for the partner. -/
theorem writeAny_pairCmd {p : Path} (hr : w.ready p = true) (c : Fin 2) (nv : NonVol)
    (hkept : (w.pairCmd p (c.val + 1)).sys.pair.proposals = []) :
    writeAny p Obj.pairCmd (.num (c.val + 1 : Nat)) none (nv, w) = (nv, w.pairCmd p (c.val + 1)) := by
  have hone := writeOne_pairCmd p c (nv, w)
  rw [writeAny_of_nil (Work.no_proposals_of_ready hr) (by rwa [hone]) (by rwa [Work.answerWrite_none, hone]), Work.answerWrite_none, hone]

/-! ### The request -/

theorem Work.within_pairAsk : w.Within w.pairAsk [.sys, .sent, .timers] [Obj.pairState, Obj.pairRefusal] := by
  have hshown : w.Within ((w.set Obj.pairState 1).set Obj.pairRefusal 0) [.sys, .sent, .timers] [Obj.pairState, Obj.pairRefusal] :=
    ((w.within_set Obj.pairState 1).comp (Work.within_set _ Obj.pairRefusal 0)).mono (by simp) (by simp)
  unfold Work.pairAsk
  dsimp only
  split
  · exact hshown.trans ((Work.within_ylSend _ _ _ _ _ _).mono (by simp) (by simp))
  · exact hshown.trans ((Work.within_startTimer _ _).mono (by simp) (by simp))

theorem Work.pairAsk_shows : w.pairAsk.get Obj.pairState = 1 ∧ w.pairAsk.sys.pair = w.sys.pair := by
  have hshown : ((w.set Obj.pairState 1).set Obj.pairRefusal 0).get Obj.pairState = 1 :=
    (Work.get_set_other _ Obj.pairRefusal Obj.pairState 0 (by decide)).trans (w.get_set_same Obj.pairState 1)
  unfold Work.pairAsk
  dsimp only
  split
  · exact ⟨((Work.within_ylSend _ _ _ _ _ _).get (by simp)).trans hshown, (Work.sparesPair_ylSend _ _ _ _ _ _).pair⟩
  · exact ⟨hshown, rfl⟩

/-- Whether a module may ask is seen from its configuration, PAIR_STATE, its mode and its run. -/
theorem Work.pairMayAsk_of_accepted {w v : Work} {p : Path} (h : w.Within v [.journal, .lastRes] (acceptKeys p)) : v.pairMayAsk = w.pairMayAsk := by
  have hconf : v.d.conf = w.d.conf := (h.same .conf (by simp)).1
  have hmode : v.mode = w.mode := h.same .mode (by simp)
  have hrun : v.run = w.run := h.same .run (by simp)
  have hstate : v.get Obj.pairState = w.get Obj.pairState := h.get (not_mem_acceptKeys_of_unanswering (by decide) p)
  have hread : ∀ k, v.confN k = w.confN k := fun k => by rw [Work.confN, Work.conf, hconf, Work.confN, Work.conf]
  unfold Work.pairMayAsk Work.hasPartner Work.partner
  rw [hread, hread, hstate, hmode, hrun]

theorem field_pairCmd : ∀ c : Fin 2, field (8 * pairCmdRow.typ.size) ((c.val : Int) + 1) = c.val + 1 := by decide

theorem Work.pairAct_pair : w.pairAct 1 = if w.pairMayAsk = true then w.pairAsk else w := rfl

theorem Work.pairAct_end : w.pairAct 2 = w.pairQuit := rfl

variable {w} in
/-- What PAIR_CMD does starts from a state that differs by the acceptance alone. -/
theorem Work.pairCmd_accepted {p : Path} (hr : w.ready p = true) (c : Fin 2) : ∃ a, w.pairCmd p (c.val + 1) = a.pairAct (c.val + 1) ∧
    w.obeys a p Obj.pairCmd (c.val + 1) [] [] ∧ w.Within a [.journal, .lastRes] (acceptKeys p) := by
  obtain ⟨a, hacts, hobeys⟩ := Work.command_accepted (chk := always) (commandRow_pairCmd c) hr rfl (fun w => w.pairAct (c.val + 1))
  have ⟨_, _, _, honly, hsame⟩ := hobeys
  exact ⟨a, hacts, field_pairCmd c ▸ hobeys, honly, by simpa using hsame⟩

theorem pairCmdPair_asks {s : State} {path : Path} (hr : s.w.ready path = true) : DoesNv (.pairCmdPair path) s (fun nv t =>
    s.w.obeys t path Obj.pairCmd 1 [.sys, .sent, .timers] [Obj.pairState, Obj.pairRefusal] ∧
    t.get Obj.pairState = (if s.w.pairMayAsk = true then 1 else s.w.get Obj.pairState) ∧ nv = s.nv) := by
  obtain ⟨a, hacts, hobeys, haccepted⟩ := Work.pairCmd_accepted hr 0
  have hstate : a.get Obj.pairState = s.w.get Obj.pairState := haccepted.get (not_mem_acceptKeys_of_unanswering (by decide) path)
  have hsys : a.sys = s.w.sys := haccepted.same .sys (by simp)
  let t := if s.w.pairMayAsk = true then a.pairAsk else a
  have hdone : s.w.pairCmd path 1 = t := hacts.trans (a.pairAct_pair.trans (by rw [Work.pairMayAsk_of_accepted haccepted]))
  have hwithin : a.Within t [.sys, .sent, .timers] [Obj.pairState, Obj.pairRefusal] := .ite a.within_pairAsk (.refl _ _ _)
  have hshows : t.get Obj.pairState = (if s.w.pairMayAsk = true then 1 else s.w.get Obj.pairState) ∧ t.sys.pair = s.w.sys.pair := by
    rw [← hstate, ← hsys]
    by_cases hasks : s.w.pairMayAsk = true
    · simpa only [t, if_pos hasks] using a.pairAsk_shows
    · simp only [t, if_neg hasks, and_self]
  have hkept : t.sys.pair.proposals = [] := by rw [hshows.2, Work.no_proposals_of_ready hr]
  refine ⟨s.nv, t, exec_of_onBoth rfl ?_, ?_, hshows.1, rfl⟩
  · exact (writeAny_pairCmd s.w hr 0 s.nv (by rw [← hdone] at hkept; exact hkept)).trans (congrArg _ hdone)
  · exact s.w.obeys_trans a t path _ _ _ _ hobeys hwithin.only hwithin.sameBut (by simp) (by simp) fun k hk hmem =>
      not_mem_acceptKeys_of_unanswering (unanswering_pairKeys k hmem) path (by simp [acceptKeys, hk])

/-! ### The end -/

/-- A module that is no primary and quits is unpaired, its journal and the writes held stay, and outside SHADOW nothing else changes. -/
theorem Work.pairQuit_shows (hstate : w.get Obj.pairState ≠ 3) : w.pairQuit.get Obj.pairState = 0 ∧ w.pairQuit.journal = w.journal ∧
    w.pairQuit.sys.pair.proposals = w.sys.pair.proposals ∧
    (w.mode ≠ .shadow → w.Within w.pairQuit [.sys, .sent] [Obj.pairState, Obj.lastMirrorSeq]) := by
  by_cases hzero : w.get Obj.pairState = 0
  · rw [Work.pairQuit, if_pos hzero]
    exact ⟨hzero, rfl, rfl, fun _ => .refl _ _ _⟩
  rw [Work.pairQuit, if_neg hzero]
  have htold := w.within_ylSend w.partner mirrorClass myPairEnd [] []
  have hpair := (w.sparesPair_ylSend w.partner mirrorClass myPairEnd [] []).pair
  generalize (w.ylSend w.partner mirrorClass myPairEnd [] []).1 = v at htold hpair ⊢
  have hv : v.get Obj.pairState ≠ 3 := by rwa [htold.get (by simp)]
  have hmode : v.mode = w.mode := htold.same .mode (by simp)
  have hjournal : v.journal = w.journal := htold.same .journal (by simp)
  by_cases hshadow : w.mode = .shadow
  · rw [v.pairOver_shadow hv (hmode.trans hshadow), Work.get_leaveShadow_pairState, Work.leaveShadow_journal, Work.leaveShadow_proposals,
      Work.parted_proposals, hpair]
    exact ⟨v.get_parted_pairState, hjournal, rfl, fun hnot => absurd hshadow hnot⟩
  · rw [v.pairOver_alone hv (hmode ▸ hshadow), Work.parted_proposals, hpair]
    exact ⟨v.get_parted_pairState, hjournal, rfl, fun _ => (htold.comp v.within_parted).mono (by simp) (by simp)⟩

theorem pairCmdEnd_ends {s : State} {path : Path} (hr : s.w.ready path = true) : DoesNv (.pairCmdEnd path) s (fun nv t =>
    s.w.journals t path Obj.pairCmd 2 ∧ t.get Obj.pairState = 0 ∧ nv = s.nv ∧
    (s.w.mode ≠ .shadow → s.w.obeys t path Obj.pairCmd 2 [.sys, .sent] [Obj.pairState, Obj.lastMirrorSeq])) := by
  obtain ⟨a, hacts, hobeys, haccepted⟩ := Work.pairCmd_accepted hr 1
  have hstate : a.get Obj.pairState = s.w.get Obj.pairState := haccepted.get (not_mem_acceptKeys_of_unanswering (by decide) path)
  have hsys : a.sys = s.w.sys := haccepted.same .sys (by simp)
  have hmode : a.mode = s.w.mode := haccepted.same .mode (by simp)
  have hunpaired : s.w.get Obj.pairState ≠ 3 := by simpa [Work.pairedPrimary] using Work.unpaired_of_ready hr
  obtain ⟨hends, hjournal, hproposals, hwithin⟩ := a.pairQuit_shows (hstate ▸ hunpaired)
  have hdone : s.w.pairCmd path 2 = a.pairQuit := hacts.trans a.pairAct_end
  have hkept : (s.w.pairCmd path 2).sys.pair.proposals = [] := by rw [hdone, hproposals, hsys, Work.no_proposals_of_ready hr]
  have ⟨hjournals, _⟩ := hobeys
  refine ⟨s.nv, a.pairQuit, exec_of_onBoth rfl ((writeAny_pairCmd s.w hr 1 s.nv hkept).trans (congrArg _ hdone)), ?_, hends, rfl, fun hnot => ?_⟩
  · rw [Work.journals, hjournal]
    exact hjournals
  · have hquit := hwithin (hmode ▸ hnot)
    exact s.w.obeys_trans a _ path _ _ _ _ hobeys hquit.only hquit.sameBut (by simp) (by simp) fun k hk hmem =>
      not_mem_acceptKeys_of_unanswering (unanswering_partKeys k hmem) path (by simp [acceptKeys, hk])

end Sys2Proof.Machine
end

section
/-! The snapshot and the entry to SHADOW (R474): what the secondary takes over, and how it begins to compute. -/
namespace Sys2Proof.Machine
variable (w : Work)

/-! ### The commit of a snapshot ends in READY -/

theorem Work.loadSet_mode (p n : Nat) (c : CalSet) : (w.loadSet p n c).mode = w.mode := by
  unfold Work.loadSet
  split
  · rfl
  · rfl

theorem Work.foldl_mode {α : Type} {f : Work → α → Work} (hf : ∀ (v : Work) (x : α), (f v x).mode = v.mode) (xs : List α) (w : Work) :
    (xs.foldl f w).mode = w.mode :=
  List.foldlRecOn (motive := fun v : Work => v.mode = w.mode) xs f rfl fun v hv x _ => (hf v x).trans hv

theorem Work.commitWorking_mode : w.commitWorking.mode = w.mode := by
  unfold Work.commitWorking
  dsimp only
  split
  · rfl
  · refine (Work.emit_mode _ _).trans (Work.foldl_mode (fun v p => ?_) _ w)
    dsimp only
    split
    · rfl
    · exact Work.loadSet_mode _ _ _ _

theorem Work.groupCommit_mode (old : Work) : (w.groupCommit old).mode = w.mode :=
  Work.foldl_mode (fun v j => by split <;> rfl) (upTo 8) _

theorem Work.sendDesc_mode : w.sendDesc.mode = w.mode := by
  unfold Work.sendDesc
  split
  · rfl
  · exact Work.foldl_mode (fun v a => (v.sparesPair_ylSend _ _ _ _ _).mode) _ w

/-- The commit enters READY; the working sets committed, the group and a request for a pair, which follow, leave the mode. -/
theorem Work.commitPass_mode : w.commitPass.mode = .ready := by
  unfold Work.commitPass
  extract_lets old _ _ cause _ _ _ _ _ _ _ _ _ u committed sent _ _ due
  have hcommitted : committed.mode = .ready := (Work.commitWorking_mode _).trans (Work.modeTo_mode _ _ _)
  have hsent : sent.mode = .ready := (Work.sendDesc_mode _).trans ((Work.groupCommit_mode _ _).trans hcommitted)
  clear_value sent
  have hdue : due.mode = .ready := hsent
  clear_value due
  have hasked : due.pairAsk.mode = due.mode := due.within_pairAsk.same .mode (by simp)
  split
  · exact hasked.trans hdue
  · exact hdue

/-! ### The snapshot -/

/-- The secondary takes the identity of the primary's journal and Ledger and enters SHADOW at the next frame. -/
def Work.secondaryOf (w : Work) (m : SnapMsg) : Work :=
  let v := { w with journal := { entries := [], head := m.head, gaps := [] } }
  let v := (((v.set Obj.journalId m.journalId).set Obj.lastMirrorSeq m.head).set Obj.ledgerId m.ledgerId).set Obj.ledgerHwm m.hwm
  (v.setPair (fun p => { p with shadowAt := some (v.frame + 1), setsDue := false })).set Obj.pairState 2

theorem Work.secondaryOf_shows (m : SnapMsg) : (w.secondaryOf m).get Obj.pairState = 2 ∧ (w.secondaryOf m).get Obj.journalId = m.journalId ∧
    (w.secondaryOf m).get Obj.ledgerId = m.ledgerId ∧ (w.secondaryOf m).get Obj.ledgerHwm = m.hwm ∧
    (w.secondaryOf m).get Obj.lastMirrorSeq = m.head := by
  have hget : ∀ k, (w.secondaryOf m).get k = if Obj.pairState = k then 2 else if Obj.ledgerHwm = k then (m.hwm : Int)
      else if Obj.ledgerId = k then (m.ledgerId : Int) else if Obj.lastMirrorSeq = k then (m.head : Int)
      else if Obj.journalId = k then (m.journalId : Int) else w.get k := fun k => by
    rw [← Work.get_set, ← Work.get_set, ← Work.get_set, ← Work.get_set, ← Work.get_set]
    rfl
  refine ⟨?_, ?_, ?_, ?_, ?_⟩ <;> rw [hget] <;> rfl

theorem Work.secondaryOf_parts (m : SnapMsg) : (w.secondaryOf m).journal = { entries := [], head := m.head, gaps := [] } ∧
    (w.secondaryOf m).sys.pair.shadowAt.isSome = true ∧ (w.secondaryOf m).mode = w.mode := ⟨rfl, rfl, rfl⟩

theorem snapshot_applies {s : State} {a : Fin 1024} {m : SnapMsg} {es : List ProfEntry} (hz : s.w.session a ≠ none) (hpartner : a.val = s.w.partner)
    (hasking : s.w.get Obj.pairState = 1) (hmode : s.w.mode = .ready) (halign : s.w.get Obj.alignState = 2) (hentries : entriesOf m.entries 0 = .ok es)
    (hlen : ((s.w.heard a).takeSnapshot m es).frameLenFault = false) (hfaults : ((s.w.heard a).takeSnapshot m es).staged.commitFaults = []) :
    Does (.snapshot a m) s (fun t =>
      t.get Obj.pairState = 2 ∧ t.get Obj.journalId = m.journalId ∧ t.get Obj.ledgerId = m.ledgerId ∧ t.get Obj.ledgerHwm = m.hwm ∧
      t.get Obj.lastMirrorSeq = m.head ∧ t.journal = { entries := [], head := m.head, gaps := [] } ∧ (t.sys.pair.shadowAt).isSome = true ∧
      t.mode = .ready) := by
  let u := ((s.w.heard a).takeSnapshot m es).commitPass
  have hdone : snapshot a m s.w = u.secondaryOf m := by
    unfold snapshot
    rw [if_neg (by simpa [hpartner, hasking, hmode] using hz)]
    refine (if_neg (not_not.mpr halign)).trans ?_
    rw [hentries]
    dsimp only
    rw [if_neg (by rw [hlen]; decide), hfaults]
    rfl
  obtain ⟨hstate, hjournalId, hledgerId, hhwm, hhead⟩ := u.secondaryOf_shows m
  obtain ⟨hjournal, hshadow, hkept⟩ := u.secondaryOf_parts m
  refine does_of_onWork rfl ?_
  rw [hdone]
  exact ⟨hstate, hjournalId, hledgerId, hhwm, hhead, hjournal, hshadow, hkept.trans (Work.commitPass_mode _)⟩

/-! ### The entry to SHADOW -/

/-- The queue of an output is emptied. -/
def Work.clearMarker (w : Work) (k : Nat) : Work := (w.updMarker k (fun _ => {})).showQueue k

theorem Work.within_clearMarker (k : Nat) : w.Within (w.clearMarker k) [.markers] [Obj.mqUsed k, Obj.nextTarget k] :=
  (w.within_updMarker k _).comp (Work.within_showQueue _ k)

theorem Work.marker_clearMarker (j k : Nat) : (w.clearMarker j).marker k = if j = k ∧ k < w.markers.length then {} else w.marker k := by
  have hupd : (w.clearMarker j).marker k = nth {} (upd w.markers j fun _ => {}) k := rfl
  rw [hupd, nth_upd, Work.marker]

theorem Work.marker_clearMarkers (ks : List Nat) {k : Nat} (h : k ∈ ks ∨ w.marker k = {}) : (ks.foldl Work.clearMarker w).marker k = {} := by
  induction ks generalizing w with
  | nil => exact h.resolve_left (by simp)
  | cons j ks ih =>
    refine ih _ ?_
    rw [Work.marker_clearMarker]
    by_cases hj : j = k
    · by_cases hin : k < w.markers.length
      · exact .inr (if_pos ⟨hj, hin⟩)
      · exact .inr ((if_neg (by simp [hin])).trans (List.getD_eq_default _ _ (by omega)))
    · rw [if_neg (by simp [hj])]
      exact h.imp_left fun hmem => (List.mem_cons.mp hmem).resolve_left (Ne.symm hj)

/-- Idle READY is over at once. -/
def Work.awake (w : Work) : Work := if w.wake.running .idleWake then w.wake.wakeOver else w.wake

/-- Nothing waits, and the queues of the outputs are empty. -/
def Work.rested (w : Work) : Work := (upTo 16).foldl Work.clearMarker { w with run := { w.run with startAt := none, waiting := none } }

/-- Frames of SHADOW are computed from this one on. -/
def Work.shadowed (w : Work) : Work :=
  (((w.modeTo .shadow 14).beginFrames w.frame).setPair (fun p => { p with shadowAt := none })).set Obj.pairState 4

theorem Work.only_wakeStack (k : Nat) : w.only (w.wakeStack k) [.hbm] := by
  have hstamped : ∀ (v : Work) (y : Hbm), v.only { v with hbm := y } [.hbm] := fun v y q hq => by cases q <;> simp [Part.same] at hq ⊢
  have hused : ∀ (v : Work) (ns : List Nat), v.only (v.hbmUse ns) [.hbm] := fun v ns =>
    Work.only_trans (hstamped v _) (Work.only_foldl ns (fun u n _ => by split; exacts [u.only_set _ _ _, u.only_refl _]) _)
  unfold Work.wakeStack
  dsimp only
  have hwoken : w.only ((stackPcs k).foldl (fun w n => if w.pcSt n = 2 then (w.set (Obj.pcState n) 0).hbmUse [n] else w) w) [.hbm] :=
    Work.only_foldl _ (fun u n _ => by split; exacts [Work.only_trans (u.only_set _ _ _) (hused _ _), u.only_refl _]) w
  split
  · exact Work.only_trans hwoken (Work.only_set _ _ _ _)
  · exact hwoken

theorem Work.only_wake : w.only w.wake [.timers, .hbm] := by
  have hstopped : w.only (w.stopTimer .idle) [.timers, .hbm] := Work.only_mono (w.only_stopTimer .idle) (by simp)
  unfold Work.wake
  dsimp only
  split
  · exact hstopped
  · refine Work.only_trans hstopped (Work.only_trans (Work.only_foldl (upTo 64) (fun u c _ => ?_) _)
      (Work.only_trans (Work.only_mono (Work.only_wakeStack _ 0) (by simp)) (Work.only_trans (Work.only_mono (Work.only_wakeStack _ 1) (by simp))
        (Work.only_mono (Work.only_startTimer _ .idleWake) (by simp)))))
    split
    · exact u.only_set _ _ _
    · exact u.only_refl _

theorem Work.only_awake : w.only w.awake [.timers, .hbm] := by
  unfold Work.awake
  split
  · exact Work.only_trans w.only_wake (Work.only_mono w.wake.only_wakeOver (by simp))
  · exact w.only_wake

theorem Work.only_rested : w.only w.rested [.run, .markers] := by
  have hrun : ∀ y : Run, w.only { w with run := y } [.run, .markers] := fun y q hq => by cases q <;> simp [Part.same] at hq ⊢
  exact Work.only_trans (hrun _) (Work.only_foldl (upTo 16) (fun u k _ => Work.only_mono (u.within_clearMarker k).only (by simp)) _)

theorem Work.rested_queue (k : Fin 16) : (w.rested.marker k).queue = [] := by
  rw [Work.rested, Work.marker_clearMarkers _ _ (.inl (mem_upTo.mpr k.isLt))]

theorem Work.beginFrames_keeps (n : Nat) (f : Pair → Pair) : (∀ k, ((w.beginFrames n).setPair f).get k = w.get k) ∧
    ((w.beginFrames n).setPair f).mode = w.mode ∧ ((w.beginFrames n).setPair f).markers = w.markers ∧
    ((w.beginFrames n).setPair f).journal = w.journal ∧ ((w.beginFrames n).setPair f).axis = w.axis := ⟨fun _ => rfl, rfl, rfl, rfl, rfl⟩

theorem Work.shadowed_shows : w.shadowed.get Obj.pairState = 4 ∧ w.shadowed.sys.pair.shadowAt = none ∧ w.shadowed.entered .shadow 14 ∧
    w.shadowed.markers = w.markers ∧ w.shadowed.journal = w.journal ∧ w.shadowed.axis = w.axis := by
  have hentered := w.entered_modeTo .shadow 14
  have honly := w.only_modeTo .shadow 14
  have hmarkers : (w.modeTo .shadow 14).markers = w.markers := honly .markers (by simp)
  have hjournal : (w.modeTo .shadow 14).journal = w.journal := honly .journal (by simp)
  have haxis : (w.modeTo .shadow 14).axis = w.axis := honly .axis (by simp)
  unfold Work.shadowed
  generalize w.modeTo .shadow 14 = v at hentered hmarkers hjournal haxis ⊢
  obtain ⟨hmode, hshown, hcause⟩ := hentered
  obtain ⟨hget, hkept, hkeptMarkers, hkeptJournal, hkeptAxis⟩ := v.beginFrames_keeps w.frame (fun p => { p with shadowAt := none })
  have hset : ∀ k, k ≠ Obj.pairState → (((v.beginFrames w.frame).setPair (fun p => { p with shadowAt := none })).set Obj.pairState 4).get k = v.get k :=
    fun k hk => (Work.get_set_other _ _ _ _ hk.symm).trans (hget k)
  exact ⟨Work.get_set_same _ _ _, rfl, ⟨hkept.trans hmode, (hset _ (by decide)).trans hshown, (hset _ (by decide)).trans hcause⟩,
    hkeptMarkers.trans hmarkers, hkeptJournal.trans hjournal, hkeptAxis.trans haxis⟩

theorem shadowEntry_enters {s : State} {n : Nat} (hat : s.w.sys.pair.shadowAt = some n) (hstate : s.w.get Obj.pairState = 2)
    (hmode : s.w.mode = .ready) (hdue : n ≤ s.w.frame) : Does (.shadowEntry) s (fun t =>
      t.get Obj.pairState = 4 ∧ t.sys.pair.shadowAt = none ∧
      (s.w.axis.last = none → t.entered .shadow 14 ∧ (∀ k : Fin 16, (t.marker k).queue = []) ∧ t.journal = s.w.journal)) := by
  let u := s.w.awake.rested
  have hdone : shadowEntry s.w = match u.shadowed.axis.last with
      | some k => u.shadowed.triggerWork k
      | none => u.shadowed := by
    unfold shadowEntry
    rw [hat]
    dsimp only
    rw [if_neg (by simpa [hstate, hmode] using hdue)]
    rfl
  obtain ⟨hpaired, hshadow, hentered, hmarkers, hjournal, haxis⟩ := u.shadowed_shows
  have hrested := Work.only_trans (Work.only_mono s.w.only_awake (List.subset_append_left _ [.run, .markers]))
    (Work.only_mono s.w.awake.only_rested (List.subset_append_right _ _))
  have hlast : u.shadowed.axis.last = s.w.axis.last := by
    rw [haxis]
    exact congrArg Axis.last (hrested .axis (by simp))
  refine does_of_onWork rfl ?_
  rw [hdone, hlast]
  cases s.w.axis.last with
  | some k =>
    have hspared := u.shadowed.sparesPair_triggerWork k
    exact ⟨(hspared.objs _ (by decide)).trans hpaired, (congrArg Pair.shadowAt hspared.pair).trans hshadow, fun h => nomatch h⟩
  | none =>
    refine ⟨hpaired, hshadow, fun _ => ⟨hentered, fun k => ?_, hjournal.trans (hrested .journal (by simp))⟩⟩
    rw [Work.marker, hmarkers]
    exact s.w.awake.rested_queue k

end Sys2Proof.Machine
end

section
/-! The numbering of a record (R285, R291, R294, R297) leaves the mode machine and the pair: its crops, its compares, its rings and its window. -/
namespace Sys2Proof.Machine
variable (w : Work)

theorem Work.sparesPair_ledger {y : Ledger} (h : y.held = w.ledger.held) : w.SparesPair { w with ledger := y } := ⟨rfl, rfl, rfl, h, fun _ _ => rfl⟩

theorem not_ringCount_pairKey {k : Nat} (h : pairKey k = true) : ¬ ringCount k := by
  refine not_ringCount ?_
  simp only [pairKey, Bool.or_eq_true, decide_eq_true_eq, beq_iff_eq] at h
  obtain ((hlow | rfl) | rfl) | rfl := h
  · exact .inl (by omega)
  · exact .inr (by decide)
  · exact .inr (by decide)
  · exact .inr (by decide)

theorem Work.sparesPair_stage (s : Staged) (forced : Bool) : w.SparesPair (w.stage s forced) := by
  obtain ⟨honly, hkeys⟩ := w.restages_stage s forced
  have hsys : (w.stage s forced).sys = w.sys := honly .sys (by simp)
  exact ⟨honly .mode (by simp), honly .run (by simp), congrArg Sys.pair hsys, (w.sameHeld_stage s forced).2.2,
    fun k hk => hkeys k (not_ringCount_pairKey hk)⟩

theorem Work.sparesPair_windowPut (seq : Nat) (b : Bytes) : w.SparesPair (w.windowPut seq b) := by
  have hwindow : ∀ y : List (Nat × Bytes), w.SparesPair { w with ledger := { w.ledger with window := y } } := fun _ => w.sparesPair_ledger rfl
  exact .ite ((hwindow _).trans (Work.sparesPair_raise _ (by decide))) (hwindow _)

theorem Work.sparesPair_release (s : Staged) (forced : Bool) : w.SparesPair (w.release s forced) := by
  have hput := w.sparesPair_windowPut s.seq s.bytes
  refine .ite ?_ (hput.trans (Work.sparesPair_stage _ s forced))
  exact hput.trans ((Work.sparesPair_ylSend _ _ _ _ _ _).trans (Work.sparesPair_ledger _ rfl))

/-! ### Crops -/

theorem Work.sparesPair_requestCrop (c : CropReq) : w.SparesPair (w.requestCrop c).1 := by
  have hcls : ∀ y : Classify, w.SparesPair { w with cls := y } := fun _ => ⟨rfl, rfl, rfl, rfl, fun _ _ => rfl⟩
  unfold Work.requestCrop
  dsimp only
  split
  · exact (hcls _).trans (Work.sparesPair_set _ _ (by decide) (.inl (by decide)) (by decide))
  · exact (w.sparesPair_set _ (by decide) (.inl (by decide)) (by decide)).trans (Work.sparesPair_set _ _ (by decide) (.inl (by decide)) (by decide))

theorem Work.sparesPair_requestCrops (d : DefRec) (seq : Nat) : w.SparesPair (w.requestCrops d seq).1 := by
  unfold Work.requestCrops
  split
  · exact .refl w
  · refine List.foldlRecOn (motive := fun acc : Work × DefRec => w.SparesPair acc.1) _ _ (.refl w) fun acc hacc f _ => ?_
    have hcrop := hacc.trans (acc.1.sparesPair_requestCrop (acc.1.cropOf acc.2 seq f))
    dsimp only
    split
    · exact hcrop
    · split
      · exact hcrop
      · exact hcrop

/-! ### Compares -/

/-- The objects that a compare on an output changes. -/
abbrev compareKeys (k : Nat) : List Nat :=
  [Obj.mqUsed k, Obj.nextTarget k, Obj.mqFlags k, Obj.lateCount k, Obj.lateDist k, Obj.lateSeq k, Obj.mqFullCount k]

theorem compareKeys_sparePair : ∀ k : Fin 16, ∀ x ∈ compareKeys k, pairKey x = false := by decide

theorem Work.sparesPair_enqueue {k : Nat} (hk : k < 16) (c : Compare) : w.SparesPair (w.enqueue k c) :=
  ((w.within_enqueue k c).mono (List.Subset.refl _) (by simp)).sparesPair (by simp) (compareKeys_sparePair ⟨k, hk⟩)

theorem Work.sparesPair_ledgerCompare {k : Nat} (hk : k < 16) (seq cdMin cdMax : Nat) (md : Int) :
    w.SparesPair (w.ledgerCompare k seq cdMin cdMax md).1 := by
  unfold Work.ledgerCompare
  split
  · exact .refl w
  · split
    · exact (((w.within_flag (Obj.mqFlags k) 4).comp (Work.within_bump _ (Obj.mqFullCount k) 1)).mono (List.Subset.refl _) (by simp)).sparesPair
        (by simp) (compareKeys_sparePair ⟨k, hk⟩)
    · exact w.sparesPair_enqueue hk _

/-- A defect record's compares on the outputs it marks, and the mask of those that took one. -/
def Work.compares (w : Work) (d : DefRec) (seq : Nat) : Work × Nat :=
  (upTo 16).foldl (fun (acc : Work × Nat) k =>
    if bitOf d.wantMarks k then
      let r := acc.1.ledgerCompare k seq d.cdMin d.cdMax d.md
      (r.1, if r.2 then acc.2 + 2 ^ k else acc.2)
    else acc) (w, 0)

theorem Work.sparesPair_compares (d : DefRec) (seq : Nat) : w.SparesPair (w.compares d seq).1 := by
  refine List.foldlRecOn (motive := fun acc : Work × Nat => w.SparesPair acc.1) _ _ (.refl w) fun acc hacc k hk => ?_
  split
  · exact hacc.trans (acc.1.sparesPair_ledgerCompare (mem_upTo.mp hk) _ _ _ _)
  · exact hacc

theorem Work.sparesPair_completeDefect (d : DefRec) (seq : Nat) : w.SparesPair (w.completeDefect d seq).1 := by
  have hlate : ∀ b : Bool, w.SparesPair (if b = true then w.bump Obj.boundLate else w) := fun b =>
    .ite (w.sparesPair_set _ (by decide) (.inl (by decide)) (by decide)) (.refl w)
  unfold Work.completeDefect
  extract_lets late v _ _ _ _ _ _ d' wm
  have hmarks : w.SparesPair wm.1 := (hlate late).trans (v.sparesPair_compares d' seq)
  exact hmarks.trans (Work.sparesPair_requestCrops _ _ _)

/-! ### The number -/

theorem Work.sparesPair_number (body : LRec) : w.SparesPair (w.number body none) := by
  unfold Work.number
  extract_lets seq v m
  have hseq : w.SparesPair v := w.sparesPair_set _ (by decide) (.inl (by decide)) (by decide)
  clear_value v
  refine hseq.trans ?_
  cases body with
  | dfx d =>
    dsimp -zeta only
    extract_lets r u n _ counted
    have hcounted : v.SparesPair counted := (v.sparesPair_completeDefect d seq).trans (u.sparesPair_ledger rfl)
    clear_value counted
    exact hcounted.trans (counted.sparesPair_release _ _)
  | cov c =>
    dsimp -zeta only
    extract_lets n counted rings
    have hcounted : v.SparesPair counted := v.sparesPair_ledger rfl
    clear_value counted
    exact hcounted.trans (counted.sparesPair_release _ _)
  | evt e =>
    have hframe : v.SparesPair (if e.event = 2 then v.set Obj.completeFrame e.frame else v) :=
      .ite (v.sparesPair_set _ (by decide) (.inl (by decide)) (by decide)) (.refl v)
    exact hframe.trans (Work.sparesPair_release _ _ _)

theorem Work.sparesPair_countOnly (body : LRec) : w.SparesPair (w.countOnly body) := by
  cases body with
  | dfx d => exact w.sparesPair_ledger rfl
  | cov c => exact w.sparesPair_ledger rfl
  | evt e => exact .ite (w.sparesPair_set _ (by decide) (.inl (by decide)) (by decide)) (.refl w)

end Sys2Proof.Machine
end

section
/-! The takeover (R63, R300, R356, R479): the secondary inspects in the primary's place. -/
namespace Sys2Proof.Machine
variable (w : Work)

/-! ### What stands before the first record is numbered -/

theorem counterMax_failovers : counterMax Obj.failovers = 0xFFFFFFFF := by decide

/-- The module inspects, and the takeover is counted. -/
def Work.tookOver (w : Work) : Work := ((w.modeTo .inspect 15).flag Obj.pairFlags 1).bump Obj.failovers

/-- With capacity lost the module goes on to DEGRADED. -/
def Work.degradedIf (w : Work) : Work := if w.capacityLost then w.modeTo .degraded 12 else w

/-- Inspection begins at frame n. -/
def Work.startedAt (w : Work) (n : Nat) : Work := ({ w with run := { w.run with started := true } }).coverStopped n

theorem Work.tookOver_shows : w.tookOver.entered .inspect 15 ∧ w.tookOver.get Obj.failovers = min (w.get Obj.failovers + 1) 0xFFFFFFFF ∧
    bitOf (w.tookOver.getN Obj.pairFlags) 0 = true ∧ w.tookOver.run = w.run := by
  obtain ⟨hmode, hshown, hcause⟩ := w.entered_modeTo .inspect 15
  have hrun := w.modeTo_run .inspect 15
  have hcount : (w.modeTo .inspect 15).get Obj.failovers = w.get Obj.failovers := w.sameBut_modeTo _ _ _ (by decide)
  unfold Work.tookOver
  generalize w.modeTo .inspect 15 = v at hmode hshown hcause hrun hcount ⊢
  have hkept : ∀ k, k ∉ [Obj.pairFlags, Obj.failovers] → ((v.flag Obj.pairFlags 1).bump Obj.failovers).get k = v.get k :=
    ((v.within_flag Obj.pairFlags 1).comp (Work.within_bump _ Obj.failovers 1)).sameBut
  refine ⟨⟨hmode, (hkept _ (by decide)).trans hshown, (hkept _ (by decide)).trans hcause⟩, ?_, ?_, hrun⟩
  · rw [Work.get_bump, if_pos rfl, counterMax_failovers, Work.flag, Work.get_set_other _ _ _ _ (by decide), hcount]
    rfl
  · rw [(Work.within_bump _ Obj.failovers 1).getN (by decide)]
    exact v.bitOf_flag Obj.pairFlags 0

/-- Of the run only the frame at which inspection had stopped is forgotten. -/
theorem Work.coverStopped_shows (n : Nat) : (w.coverStopped n).mode = w.mode ∧ (w.coverStopped n).run.started = w.run.started ∧
    ∀ k, (w.coverStopped n).get k = w.get k := by
  have hview := w.modeView_coverStopped n
  have hrun : (w.coverStopped n).run = { w.run with stopped := none } := Work.run_of_modeView hview
  refine ⟨congrArg ModeView.mode hview, by rw [hrun], fun k => ?_⟩
  unfold Work.coverStopped
  split
  · rfl
  · extract_lets _ v
    have hv : v.get k = w.get k := rfl
    clear_value v
    split
    · exact hv
    · exact (v.get_emit _ k).trans hv

theorem Work.degradedIf_shows (hentered : w.entered .inspect 15) : (if w.capacityLost = true then w.degradedIf.entered .degraded 12
    else w.degradedIf.entered .inspect 15) ∧ (∀ k ∈ [Obj.failovers, Obj.pairFlags], w.degradedIf.get k = w.get k) := by
  have hkeys : ∀ k ∈ [Obj.failovers, Obj.pairFlags], k ∉ transitionKeys := by decide
  unfold Work.degradedIf
  by_cases hlost : w.capacityLost = true
  · rw [if_pos hlost, if_pos hlost]
    exact ⟨w.entered_modeTo .degraded 12, fun k hk => w.sameBut_modeTo _ _ k (hkeys k hk)⟩
  · rw [if_neg hlost, if_neg hlost]
    exact ⟨hentered, fun _ _ => rfl⟩

/-! ### The records of the primary -/

theorem Work.sparesPair_gapEntry : w.SparesPair w.gapEntry := by
  have hgap : ∀ y : Journal, w.SparesPair { w with journal := y } := fun _ => ⟨rfl, rfl, rfl, rfl, fun _ _ => rfl⟩
  have htally : ∀ (v : Work) (raw ef : Nat), v.SparesPair (v.tally .device Obj.lastMirrorSeq raw ef false) := fun v raw ef =>
    Work.Within.sparesPair ⟨v.only_tally _ _ _ _ _, v.sameBut_tally _ _ _ _ _⟩ (by simp) (by decide)
  exact (hgap _).trans (htally _ _ _)

theorem Work.sparesPair_redeliver (s : Staged) : w.SparesPair (w.redeliver s) := by
  unfold Work.redeliver
  dsimp only
  split
  · exact .refl w
  · exact .ite ((w.sparesPair_stage _ false).trans (Work.sparesPair_requestCrops _ _ _)) (w.sparesPair_stage _ false)

/-- The journal opens after its gap, the mirrored records are delivered again, and the takeover is recorded. -/
def Work.succeeds (w : Work) (n : Nat) : Work :=
  let w := w.gapEntry
  let records := w.sys.pair.records
  let w := records.foldl (fun (w : Work) s => w.redeliver s) w
  let top := w.getN Obj.ledgerHwm
  let w := { w with ledger := { w.ledger with suppress := records.filterMap (fun (s : Staged) => recKey s.bytes) } }
  w.number (.evt { event := 6, frame := n, d0 := w.partner, d1 := top, d2 := w.getN Obj.journalId }) none

theorem Work.sparesPair_succeeds (n : Nat) : w.SparesPair (w.succeeds n) := by
  unfold Work.succeeds
  extract_lets opened records delivered top _ suppressing
  have hdelivered : w.SparesPair delivered := w.sparesPair_gapEntry.trans (.foldl records (fun v s _ => v.sparesPair_redeliver s) opened)
  clear_value delivered
  have hsuppressing : w.SparesPair suppressing := hdelivered.trans (delivered.sparesPair_ledger rfl)
  clear_value suppressing
  exact hsuppressing.trans (suppressing.sparesPair_number _)

/-- No record is kept any more. -/
def Work.unheld (w : Work) : Work := { w with ledger := { w.ledger with held := [] } }

theorem Work.sparesPair_numberHeld : w.unheld.SparesPair w.numberHeld :=
  .foldl (sortHeld w.ledger.held) (fun v r _ => .ite (v.sparesPair_countOnly r) (v.sparesPair_number r)) w.unheld

/-! ### Outputs and axes -/

theorem Work.sparesPair_formQueue {k : Nat} (hk : k < 16) : w.SparesPair (w.formQueue k) := by
  have hempty : w.SparesPair ((w.updMarker k (fun m => { m with queue := [] })).showQueue k) :=
    (((w.within_updMarker k _).comp (Work.within_showQueue _ k)).mono (List.Subset.refl _) (by simp)).sparesPair (by simp) (compareKeys_sparePair ⟨k, hk⟩)
  exact hempty.trans (.foldl _ (fun v c _ => .ite (v.sparesPair_enqueue hk c) (.refl v)) _)

theorem homed_sparePair : ∀ a : Fin 16, ∀ k ∈ [Obj.homed a], pairKey k = false := by decide

theorem Work.sparesPair_unhome {a : Nat} (ha : a < 16) : w.SparesPair ((w.disableAxis a 0).set (Obj.homed a) 0) :=
  ((w.movesOnly_disableAxis a 0).sparesPair ha).trans ((Work.within_set _ (Obj.homed a) 0).sparesPair (by simp) (homed_sparePair ⟨a, ha⟩))

/-- The queues of the outputs are formed, the streams deliver from frame n on, the axes are to be homed again, and the partner is told. -/
def Work.takesPlant (w : Work) (n : Nat) : Work :=
  let w := (upTo 16).foldl (fun (w : Work) k => w.formQueue k) w
  let w := { w with streams := { w.streams with st := w.streams.st.map (fun s => { s with deliverFrom := n }) } }
  let w := (upTo 16).foldl (fun (w : Work) a => (w.disableAxis a 0).set (Obj.homed a) 0) w
  (w.ylSend w.partner mirrorClass 9 [w.ylAddress] []).1

theorem Work.sparesPair_takesPlant (n : Nat) : w.SparesPair (w.takesPlant n) := by
  have hstreams : ∀ (v : Work) (y : Streams), v.SparesPair { v with streams := y } := fun _ _ => ⟨rfl, rfl, rfl, rfl, fun _ _ => rfl⟩
  unfold Work.takesPlant
  extract_lets formed _ delivering unhomed
  have hformed : w.SparesPair formed := .foldl (upTo 16) (fun v k hk => v.sparesPair_formQueue (mem_upTo.mp hk)) w
  clear_value formed
  have hdelivering : w.SparesPair delivering := hformed.trans (hstreams formed _)
  clear_value delivering
  have hunhomed : w.SparesPair unhomed := hdelivering.trans (.foldl (upTo 16) (fun v a ha => v.sparesPair_unhome (mem_upTo.mp ha)) delivering)
  clear_value unhomed
  exact hunhomed.trans (unhomed.sparesPair_ylSend _ _ _ _ _)

/-! ### The takeover -/

/-- The module is unpaired after its takeover. -/
def Work.unpaired (w : Work) : Work :=
  (({ w with sys := { w.sys with pair := { hbIn := w.sys.pair.hbIn } } }).set Obj.pairState 0).set Obj.lastMirrorSeq 0

theorem Work.takeOver_eq (n : Nat) :
    w.takeOver n = ((((w.tookOver.degradedIf.startedAt n).succeeds n).numberHeld).takesPlant n).unpaired := by
  unfold Work.takeOver Work.unpaired Work.takesPlant Work.succeeds Work.startedAt Work.degradedIf Work.tookOver
  with_reducible rfl

theorem Work.unpaired_shows : w.unpaired.get Obj.pairState = 0 ∧ w.unpaired.sys.pair.declared = none ∧ w.unpaired.mode = w.mode ∧
    w.unpaired.run = w.run ∧ w.unpaired.ledger = w.ledger ∧ ∀ k ∉ [Obj.pairState, Obj.lastMirrorSeq], w.unpaired.get k = w.get k := by
  have hkept : ∀ k ∉ [Obj.pairState, Obj.lastMirrorSeq], w.unpaired.get k = w.get k := fun k hk => by
    simp only [List.mem_cons, List.not_mem_nil, or_false, not_or] at hk
    exact (Work.get_set_other _ _ _ _ (Ne.symm hk.2)).trans (Work.get_set_other _ _ _ _ (Ne.symm hk.1))
  refine ⟨?_, rfl, rfl, rfl, rfl, hkept⟩
  exact (Work.get_set_other _ Obj.lastMirrorSeq Obj.pairState 0 (by decide)).trans (Work.get_set_same _ Obj.pairState 0)

/-- After the records kept are numbered, all that the plant takes over leaves the mode, the run and the objects of the pairing. -/
theorem Work.takeOver_spares (n : Nat) : (w.takeOver n).mode = (w.tookOver.degradedIf.startedAt n).mode ∧
    (w.takeOver n).run = (w.tookOver.degradedIf.startedAt n).run ∧ (w.takeOver n).ledger.held = [] ∧
    (∀ k, pairKey k = true → k ≠ Obj.pairState → (w.takeOver n).get k = (w.tookOver.degradedIf.startedAt n).get k) := by
  rw [w.takeOver_eq]
  generalize w.tookOver.degradedIf.startedAt n = u
  have hnumbered := u.sparesPair_succeeds n
  generalize u.succeeds n = v at hnumbered ⊢
  have hplant := v.sparesPair_numberHeld.trans (v.numberHeld.sparesPair_takesPlant n)
  generalize v.numberHeld.takesPlant n = x at hplant ⊢
  obtain ⟨-, -, hmode, hrun, hledger, hkept⟩ := x.unpaired_shows
  refine ⟨hmode.trans (hplant.mode.trans hnumbered.mode), hrun.trans (hplant.run.trans hnumbered.run), ?_, fun k hk hne => ?_⟩
  · rw [hledger]
    exact hplant.held
  · have hmirror : k ≠ Obj.lastMirrorSeq := fun h => absurd (h ▸ hk) (by decide)
    exact (hkept k (by simp [hne, hmirror])).trans ((hplant.objs k hk).trans (hnumbered.objs k hk))

theorem failoverTakeover_takes {s : State} {f : Nat} (hdeclared : s.w.sys.pair.declared = some f) (hstate : s.w.get Obj.pairState = 5)
    (hmode : s.w.mode = .shadow) (hdue : f < s.w.frame) : Does (.failoverTakeover) s (fun t =>
      t.get Obj.pairState = 0 ∧ (if s.w.capacityLost = true then t.entered .degraded 12 else t.entered .inspect 15) ∧
      t.get Obj.failovers = min (s.w.get Obj.failovers + 1) 0xFFFFFFFF ∧ bitOf (t.getN Obj.pairFlags) 0 = true ∧ t.run.started = true ∧
      t.ledger.held = [] ∧ t.sys.pair.declared = none) := by
  let n := s.w.frame
  have hdone : failoverTakeover s.w = s.w.takeOver n := by
    unfold failoverTakeover
    rw [hdeclared]
    exact if_neg (by simpa [hstate, hmode] using hdue)
  obtain ⟨hentered, hcount, hflag, hrun⟩ := s.w.tookOver_shows
  obtain ⟨hcapacity, hobjs⟩ := s.w.tookOver.degradedIf_shows hentered
  have hlost : s.w.tookOver.capacityLost = s.w.capacityLost := by rw [Work.capacityLost, hrun, Work.capacityLost]
  rw [hlost] at hcapacity
  let u := s.w.tookOver.degradedIf
  obtain ⟨hcovMode, hcovRun, hcovGet⟩ := Work.coverStopped_shows { u with run := { u.run with started := true } } n
  obtain ⟨htMode, htRun, htHeld, htGet⟩ := s.w.takeOver_spares n
  have hget : ∀ k, pairKey k = true → k ≠ Obj.pairState → (s.w.takeOver n).get k = s.w.tookOver.degradedIf.get k := fun k hk hne =>
    (htGet k hk hne).trans (hcovGet k)
  have hkeep : ∀ (m : Mode) (cause : Nat), s.w.tookOver.degradedIf.entered m cause → (s.w.takeOver n).entered m cause := fun m cause h => by
    obtain ⟨hm, hshown, hcause⟩ := h
    exact ⟨htMode.trans (hcovMode.trans hm), (hget _ (by decide) (by decide)).trans hshown, (hget _ (by decide) (by decide)).trans hcause⟩
  refine does_of_onWork rfl ?_
  rw [hdone]
  refine ⟨?_, ?_, ?_, ?_, ?_, htHeld, ?_⟩
  · exact (Work.unpaired_shows _).1
  · split at hcapacity
    · next h => exact (if_pos h).mpr (hkeep _ _ hcapacity)
    · next h => exact (if_neg h).mpr (hkeep _ _ hcapacity)
  · exact ((hget _ (by decide) (by decide)).trans (hobjs _ (by simp))).trans hcount
  · rw [Work.getN, hget _ (by decide) (by decide), hobjs _ (by simp)]
    exact hflag
  · exact (congrArg Run.started htRun).trans hcovRun
  · exact (Work.unpaired_shows _).2.1

end Sys2Proof.Machine
end

section
/-! The pairing of two modules (chapter 21): its statement. -/
namespace Sys2Proof.Machine

/-- Settles O54: each message and command of a pairing is followed through the mode machine, the Ledger and the plant; what they spare of the pairing is
one relation, which every operation of the takeover and of the first trigger in SHADOW keeps. -/
theorem pairsFormEndAndTakeOver : Obligations.PairsFormEndAndTakeOver :=
  ⟨fun _ _ hr => pairCmdPair_asks hr,
    fun _ _ hr => pairCmdEnd_ends hr,
    fun _ _ _ hz hpartner hfree hpos hmode => pairReq_pairs hz hpartner hfree hpos hmode,
    fun _ _ _ _ hsession hno => pairReq_refuses hsession hno,
    fun _ _ _ hz hpartner hasking hmode halign => snapshot_unaligned hz hpartner hasking hmode halign,
    fun _ _ _ _ hz hpartner hasking hmode halign hentries hlen hfaults =>
      snapshot_applies hz hpartner hasking hmode halign hentries hlen hfaults,
    fun _ _ hat hstate hmode hdue => shadowEntry_enters hat hstate hmode hdue,
    fun _ _ _ hz hpartner hasking => pairEnd_asking hz hpartner hasking,
    fun _ _ _ hz hpartner hstate hmode hheld => pairEnd_primary hz hpartner hstate hmode hheld,
    fun _ hmode hstate hsilent hheld => heartbeatLoss_ends hmode hstate hsilent hheld,
    fun _ hstate hsilent hmode hheld => primaryHeartbeatLoss_parts hstate hsilent hmode hheld,
    fun _ _ hdeclared hstate hmode hdue => failoverTakeover_takes hdeclared hstate hmode hdue⟩

end Sys2Proof.Machine
end
